-- ==== Sys2Proof/Word.lean ====
section
/-! DEFINITION. The word types of the module and the sparse table every per-object store uses. -/

namespace Sys2Proof

/-- One byte (R6). -/
abbrev Byte := BitVec 8

/-- One 32-bit word (record words, registers, CRC-32C values). -/
abbrev Word := BitVec 32

/-- A string mask or any 16-bit flag word (Table 0-4). -/
abbrev Mask := BitVec 16

/-- A byte string, first byte first; multi-byte fields least significant byte first (R6). -/
abbrev Bytes := List Byte

/-- A sparse table: pairs of an index and an entry, indexes strictly rising, no entry equal to the default.
An index that is not listed reads as the default of `α`. `Sys2Proof.Machine.Tab.wf` states the form. -/
abbrev Tab (α : Type) := List (Nat × α)

end Sys2Proof
end

