-- ==== Sys2Proof/Machine/State/Names.lean ====
section
/-! DEFINITION. The fixed sets of names the spec gives: modes, states, roles, status codes. -/

namespace Sys2Proof.Machine

/-- Table 3-1, in code order 0 to 7. -/
inductive Mode where
  | fill | load | survey | idle | serve | rest | maintain | safe
  deriving DecidableEq, Repr, Inhabited

/-- Table 3-2, in code order 0 to 6. A string that is not installed has no state (R60). -/
inductive SState where
  | unsurveyed | opened | connecting | closed | held | isolated | service
  deriving DecidableEq, Repr, Inhabited

/-- Table 4-12, in code order 0 to 5. -/
inductive LinkState where
  | off | wake | align | run | lost | sleep
  deriving DecidableEq, Repr, Inhabited

/-- Table 2-4, in code order 0 to 4. -/
inductive TimeState where
  | freerun | acquiring | locked | holdover | following
  deriving DecidableEq, Repr, Inhabited

/-- `TIME_SOURCE` of Table 2-9. -/
inductive TimeSource where
  | none | ptp0 | ptp1 | pps | pair
  deriving DecidableEq, Repr, Inhabited

/-- `TIME_FREQ_SOURCE` of Table 2-9. -/
inductive FreqSource where
  | model | ptp | pps | ref10 | pair
  deriving DecidableEq, Repr, Inhabited

/-- Table 13-1, in code order 0 to 5. Before Survey a module is in none of them (R377, R584). -/
inductive PairState where
  | listen | lone | active | standby | joining | detached
  deriving DecidableEq, Repr, Inhabited

/-- The roles of R567, lowest first. -/
inductive Role where
  | operator | installer | maker
  deriving DecidableEq, Repr, Inhabited

/-- The `ROLE` code of Table 4-3 and Table 10-3. -/
inductive RoleCode where
  | none | active | standby | reserved
  deriving DecidableEq, Repr, Inhabited

/-- A module slot or a front-end port (Table 0-4). -/
inductive Slot where
  | a | b
  deriving DecidableEq, Repr, Inhabited

/-- Table 0-6. -/
inductive Status where
  | ok | refusedState | refusedRole | refusedFormat | refusedRange | refusedBusy | refusedSafety
  | notOwner | failedTimeout | failedFault | failedAborted | partially | unknown
  deriving DecidableEq, Repr, Inhabited

/-- Table 14-2. -/
inductive SessState where
  | none | opening | opened
  deriving DecidableEq, Repr, Inhabited

/-- Table 14-8; code 0 is an empty slot. -/
inductive LedgerState where
  | empty | pending | accepted | started | done | failed | refused
  deriving DecidableEq, Repr, Inhabited

/-- Table 15-2, in code order 0 to 4. -/
inductive CanState where
  | off | detect | run | lone | busoff
  deriving DecidableEq, Repr, Inhabited

/-- Table 15-7, in code order 0 to 4. -/
inductive TxState where
  | idle | waiting | sending | undelivered | disabled
  deriving DecidableEq, Repr, Inhabited

/-- The page owner of Table 14-9 `WIN_HFLAGS` [1:0]. -/
inductive Owner where
  | free | module | partner | poisoned
  deriving DecidableEq, Repr, Inhabited

/-- Table 18-3, in code order 0 to 5. -/
inductive VState where
  | idle | downloading | verified | activating | trial | rejected
  deriving DecidableEq, Repr, Inhabited

/-- `UPD_MIG` of Table 18-2. -/
inductive Mig where
  | none | running | ready
  deriving DecidableEq, Repr, Inhabited

/-- The level of one Herd feature (Table 9-3). -/
inductive Level where
  | none | watch | suspect
  deriving DecidableEq, Repr, Inhabited

/-- `PP_PHASE` of Table 10-15. -/
inductive Phase where
  | none | precheck | contactors | settle | loop | window
  deriving DecidableEq, Repr, Inhabited

/-- `FOLLOW` of Table 10-5. -/
inductive Follow where
  | none | a | b | both
  deriving DecidableEq, Repr, Inhabited

/-- `PSV_STATE` of Table 21-14. -/
inductive SupplyState where
  | normal | outOfRange | fullFunction | lastGasp
  deriving DecidableEq, Repr, Inhabited

/-- Health of one subsystem (R27). -/
inductive Health where
  | healthy | degraded | faulted
  deriving DecidableEq, Repr, Inhabited

/-- The three journals of R549. -/
inductive JournalId where
  | safety | event | audit
  deriving DecidableEq, Repr, Inhabited

/-- The outcome of a physical check, of a flash write or of a cryptographic verification that the spec
leaves to the device or to a published standard. -/
inductive Verdict where
  | pass | fail
  deriving DecidableEq, Repr, Inhabited

/-- The regions of Table 19-11. -/
inductive MemRegion where
  | table | dram | markhor
  deriving DecidableEq, Repr, Inhabited

/-- The 15 clock domains of the subsystem table of chapter 01. -/
inductive ClockDomain where
  | core | markhor | fabric | dram | linkA | linkB | eland | pwr | time | eth0 | eth1 | can | aon | pair | qspi
  deriving DecidableEq, Repr, Inhabited

end Sys2Proof.Machine
end

