-- ==== Sys2Proof/Machine/State/Cells.lean ====
section
/-! DEFINITION. The per-cell and per-thermistor stores: Cell Table, Thermistor Table, Herd Table, Herd thermistor
accumulators, and Markhor's own copies in its private SRAM. All after Fill read zero (R183, R214, R252). -/

namespace Sys2Proof.Machine

/-- A Cell Table entry (Tables 7-2, 8-1, 9-2). -/
structure CellEntry where
  /-- EST_V | int32 uV | 07 Table 7-2 | 0 (R183) -/
  v : Int := 0
  /-- EST_I | int32 mA | 07 Table 7-2 | 0 -/
  i : Int := 0
  /-- EST_SOC | Q0.32 | 07 Table 7-2 | 0 -/
  soc : Nat := 0
  /-- EST_VA | int32 uV | 07 Table 7-2 | 0 -/
  va : Int := 0
  /-- EST_VB | int32 uV | 07 Table 7-2 | 0 -/
  vb : Int := 0
  /-- EST_H | int16 2^-14 | 07 Table 7-2 | 0 -/
  h : Int := 0
  /-- MEAS_FLAGS | 8 bits | 06 Table 6-1 | 0 -/
  flags : Byte := 0
  /-- EST_FLAGS | 8 bits | 07 Table 7-3 | 0 -/
  eflags : Byte := 0
  /-- EST_P: ss sa sb sh aa ab ah bb bh hh | 10 x int32 | 07 R180 | 0 (empty list reads as zeros) -/
  p : List Int := []
  /-- EST_RS | uint32 nOhm | 07 Table 7-2 | 0 -/
  rs : Nat := 0
  /-- EST_RHO | uint16 2^-12 | 07 Table 7-2 | 0 -/
  rho : Nat := 0
  /-- EST_INNOV | int16 10 uV | 07 Table 7-2 | 0 -/
  innov : Int := 0
  /-- EST_VCOMP | int32 uV | 07 Table 7-2 | 0 -/
  vcomp : Int := 0
  /-- EST_RUNS end-of-charge run | 2 bits | 07 Table 7-2 | 0 -/
  eocRun : Nat := 0
  /-- EST_RUNS end-of-charge armed | 1 bit | 07 Table 7-2 | 0 -/
  eocArmed : Bool := false
  /-- EST_RUNS end-of-discharge run | 2 bits | 07 Table 7-2 | 0 -/
  eodRun : Nat := 0
  /-- EST_RUNS end-of-discharge armed | 1 bit | 07 Table 7-2 | 0 -/
  eodArmed : Bool := false
  /-- EST_SIGMA | uint16 0.001 % | 07 Table 7-2 | 0 -/
  sigma : Nat := 0
  /-- EST_REF_FRAME | 48 bits | 07 Table 7-2 | 0 -/
  refFrame : Nat := 0
  /-- THM_TC | int32 0.1 uK | 08 Table 8-1 | 0 -/
  tc : Int := 0
  /-- THM_TS | int32 0.1 uK | 08 Table 8-1 | 0 -/
  ts : Int := 0
  /-- THM_P | int32 mW | 08 Table 8-1 | 0 -/
  pw : Int := 0
  /-- THM_TH | int16 | 08 Table 8-1 | 0 -/
  th : Int := 0
  /-- THM_TFLAGS | 8 bits | 08 Table 8-2 | 0 -/
  tflags : Byte := 0
  /-- THM_MISS | 8 bits | 08 Table 8-1 | 0 -/
  miss : Nat := 0
  /-- HERD_RSUM0, HERD_RSUM1; none is the invalid mark 0x80000000 | int32 | 09 Table 9-2 | 0 -/
  rsum0 : Option Int := some 0
  /-- HERD_DSUM0 | int32 uV | 09 Table 9-2 | 0 -/
  dsum0 : Int := 0
  /-- HERD_RSUM1 | int32 | 09 Table 9-2 | 0 -/
  rsum1 : Option Int := some 0
  /-- HERD_DSUM1 | int32 uV | 09 Table 9-2 | 0 -/
  dsum1 : Int := 0
  /-- MEAS_BAL_Q | uint32 mA.s wrapping | 06 R159, 07 Table 7-2 | 0 -/
  balQ : Nat := 0
  /-- EST_STEP_FRAME | 32 bits | 07 Table 7-2 | 0 -/
  stepFrame : Nat := 0
  deriving DecidableEq, Repr, Inhabited

/-- What Eland and the measurement logic hold of a cell outside its Cell Table entry. -/
structure CellAux where
  /-- estimate of this start: initialised or copied | 1 bit | 07 R206 R207 | false -/
  init : Bool := false
  /-- balancing charge below 1 mA.s carried | mA.us remainder | 06 R159 | 0 -/
  balRem : Nat := 0
  /-- the string's charge of all intervals at the last step | mA.us | 07 R178 | 0 -/
  qStep : Int := 0
  /-- MEAS_BAL_Q at the last step | uint32 | 07 R178 | 0 -/
  balQStep : Nat := 0
  /-- voltage of the previous usable sample | int32 uV | 07 R197 | 0 -/
  vPrev : Int := 0
  /-- va + vb predicted at it | int32 uV | 07 R197 | 0 -/
  vabPrev : Int := 0
  /-- OCV predicted at it | int32 uV | 07 R197 | 0 -/
  ocvPrev : Int := 0
  /-- the previous sample was usable, and its frame | 48 bits | 07 R197 | none -/
  usablePrev : Option Nat := none
  /-- rest update made in the present rest episode | 1 bit | 07 R201 | false -/
  restDone : Bool := false
  /-- BAL_TARGET other than 0x00FFFFFF at the last entry to sleep | 1 bit | 07 R194, 09 R243 | false -/
  sleepTarget : Bool := false
  /-- sleep balancing not yet accounted | 1 bit | 07 R194 | false -/
  sleepOwed : Bool := false
  /-- frame of the last entry to sleep with such a target | 48 bits | 09 R243 | none -/
  sleepFrame : Option Nat := none
  /-- EST_RS at the end of the last second, when stepped in it | uint32 nOhm | 09 Table 9-1 | none -/
  rsEnd : Option Nat := none
  /-- no thermal step since the initialisation | 1 bit | 08 R218 | false -/
  thmFirst : Bool := false
  deriving DecidableEq, Repr, Inhabited

/-- A Thermistor Table entry, index 16p + t (Table 8-3), which the thermal pass alone writes (R214), and beside it what the
measurement logic holds of the input: its reading, its judgement and the run counters of R167 and R168. -/
structure ThEntry where
  /-- THM_TX | int16 | 08 Table 8-3 | 0 -/
  tx : Int := 0
  /-- THM_TE | int16 | 08 Table 8-3 R220 | 0 -/
  te : Int := 0
  /-- THM_TR | int16 | 08 Table 8-3 | 0 -/
  tr : Int := 0
  /-- THM_XFLAGS bit 1, valid reading in the last converted frame | 1 bit | 08 Table 8-3 | false -/
  valid : Bool := false
  /-- THM_XFLAGS bit 2, broken at the last thermal pass | 1 bit | 08 Table 8-3 | false -/
  xBroken : Bool := false
  /-- broken in the judgement of the measurement logic | 1 bit | 06 R167 | false -/
  broken : Bool := false
  /-- the last converted frame gave a valid reading | 1 bit | 06 R167 | false -/
  good : Bool := false
  /-- THM_XFLAGS bit 3, open or shorted in the last converted frame | 1 bit | 08 Table 8-3 | false -/
  openShort : Bool := false
  /-- THM_XFLAGS bit 0, fitted, once the thermal pass has written the entry | 1 bit | 08 Table 8-3 | false -/
  fitted : Bool := false
  /-- last reading as coded | int16 | 04 R97 | 0 -/
  reading : Int := 0
  /-- consecutive open or shorted converted frames | count | 06 R167 | 0 -/
  badRun : Nat := 0
  /-- frame since which the disagreement stands | 48 bits | 06 R167 | none -/
  disagreeFrom : Option Nat := none
  /-- frame since which a broken thermistor reads within 5 K | 48 bits | 06 R168 | none -/
  goodFrom : Option Nat := none
  /-- kind of the break journaled, 1 open, 2 shorted, 3 disagreement | 8 bits | 06 Table 6-10 | 0 -/
  kind : Nat := 0
  /-- Herd accumulator bank 0: sum and count | int32, uint16 | 09 R236 | 0 -/
  acc0 : Int × Nat := (0, 0)
  /-- Herd accumulator bank 1: sum and count | int32, uint16 | 09 R236 | 0 -/
  acc1 : Int × Nat := (0, 0)
  deriving DecidableEq, Repr, Inhabited

/-- A Herd Table entry (Table 9-5); features 1 to 5 stand at positions 0 to 4 of the lists, an empty list reads as
the cleared state. -/
structure HerdEntry where
  /-- HERD_Z, none is 0x8000 | 5 x int16 | 09 Table 9-5 | 0 -/
  z : List (Option Int) := []
  /-- HERD_LVL features 1 to 5 | 5 x 2 bits | 09 Table 9-5 | None -/
  lvl : List Level := []
  /-- HERD_LVL cell at Act | 2 bits | 09 Table 9-5 R249 | not Act -/
  act : Bool := false
  /-- HERD_RUN | 5 x int16 | 09 Table 9-5 | 0 -/
  run : List Int := []
  /-- HERD_ACT_AGE | uint16 min | 09 Table 9-5 | 0 -/
  actAge : Nat := 0
  /-- HERD_OFF0 | int32 0.1 uV | 09 Table 9-5 | 0 -/
  off0 : Int := 0
  /-- HERD_OFFA | int32 0.1 uV | 09 Table 9-5 | 0 -/
  offa : Int := 0
  /-- HERD_N0 | uint16 | 09 Table 9-5 | 0 -/
  n0 : Nat := 0
  /-- HERD_NA | uint16 | 09 Table 9-5 | 0 -/
  na : Nat := 0
  /-- HERD_BQ0 | uint32 | 09 Table 9-5 | 0 -/
  bq0 : Nat := 0
  /-- HERD_SD_Q | int32 mA.s | 09 Table 9-5 | 0 -/
  sdQ : Int := 0
  /-- HERD_SD_VAR | uint32 (100 mA.s)^2 | 09 Table 9-5 | 0 -/
  sdVar : Nat := 0
  /-- HERD_SD_T | uint32 s | 09 Table 9-5 | 0 -/
  sdT : Nat := 0
  /-- HERD_SD_QP | int32 mA.s | 09 Table 9-5 | 0 -/
  sdQp : Int := 0
  /-- HERD_SD_VARP | uint32 | 09 Table 9-5 | 0 -/
  sdVarp : Nat := 0
  /-- HERD_SD_TP | uint32 s | 09 Table 9-5 | 0 -/
  sdTp : Nat := 0
  /-- HERD_BQ_H | uint32 | 09 Table 9-5 | 0 -/
  bqH : Nat := 0
  /-- HERD_X5 | uint32 uA | 09 Table 9-5 | 0 -/
  x5 : Nat := 0
  /-- hourly updates since clearing: 0 none, 1 baseline only, 2 value held | 2 bits | 09 R241 | 0 -/
  x5State : Nat := 0
  deriving DecidableEq, Repr, Inhabited

/-- Markhor's own copy of one cell, in its private SRAM (R18). -/
structure MkCell where
  /-- last converted value | int32 uV | 01 R18, 06 R155 | 0 -/
  v : Int := 0
  /-- a converted value has been received | 1 bit | 11 | false -/
  seen : Bool := false
  /-- saturated | 1 bit | 06 R154 | false -/
  sat : Bool := false
  /-- consecutive samples beyond the SF-01 trip limit | count | 11 R303 | 0 -/
  ovTrip : Nat := 0
  /-- consecutive samples beyond the SF-01 warning limit | count | 11 R303 | 0 -/
  ovWarn : Nat := 0
  /-- consecutive samples beyond the SF-02 trip limit | count | 11 R303 | 0 -/
  uvTrip : Nat := 0
  /-- consecutive samples beyond the SF-02 warning limit | count | 11 R303 | 0 -/
  uvWarn : Nat := 0
  deriving DecidableEq, Repr, Inhabited

/-- Markhor's own copy of one thermistor. -/
structure MkTh where
  /-- last reading as coded | int16 | 11 R316 | 0 -/
  reading : Int := 0
  /-- a reading has been received | 1 bit | 11 | false -/
  seen : Bool := false
  /-- broken in Markhor's judgement | 1 bit | 06 R168, 11 R304 | false -/
  broken : Bool := false
  /-- broken by the disagreement passed through the mailbox | 1 bit | 11 R304 | false -/
  disagree : Bool := false
  /-- consecutive open or shorted converted frames | count | 06 R167 | 0 -/
  badRun : Nat := 0
  /-- frame of the last open or shorted reading | 48 bits | 11 R304 | 0 -/
  lastBad : Nat := 0
  /-- restoration judged by the runtime, waiting | 1 bit | 11 R304 | false -/
  restoreAsked : Bool := false
  /-- frame of the last converted value | 48 bits | 11 R316 | none -/
  lastSeen : Option Nat := none
  /-- frame of the last converted value below the warning limit | 48 bits | 11 R316 | none -/
  lastBelowWarn : Option Nat := none
  /-- frame of the last converted value below the trip limit | 48 bits | 11 R316 | none -/
  lastBelowTrip : Option Nat := none
  deriving DecidableEq, Repr, Inhabited

end Sys2Proof.Machine
end

