-- ==== Sys2Proof/Machine/State/Envelope.lean ====
section
/-! DEFINITION. State of areas 0x0C (dispatch envelope) and 0x0D (Graze). -/

namespace Sys2Proof.Machine

/-- The records of area 0x0C (Tables 12-8, 12-9) as in force. -/
structure DspCfg where
  /-- DSP_V_MARGIN | 16 bits mV | 12 Table 12-9 | 50 -/
  vMargin : Nat := 50
  /-- DSP_T_MARGIN | 8 bits 0.1 K | 12 Table 12-9 | 20 -/
  tMargin : Nat := 20
  /-- DSP_CAND | 8 bits | 12 Table 12-9 | 4 -/
  cand : Nat := 4
  /-- DSP_SOC_MIN | Q0.32 | 12 Table 12-9 | 0x0CCCCCCD -/
  socMin : Nat := 0x0CCCCCCD
  /-- DSP_SOC_MAX | Q0.32 | 12 Table 12-9 | 0xF3333333 -/
  socMax : Nat := 0xF3333333
  /-- DSP_RAMP | 8 bits % per s | 12 Table 12-9 | 20 -/
  ramp : Nat := 20
  /-- DSP_DERATE_TOL | 8 bits % | 12 Table 12-9 | 10 -/
  derateTol : Nat := 10
  /-- DSP_SHARE_MIN | 8 bits 0.01 C | 12 Table 12-9 | 2 -/
  shareMin : Nat := 2
  /-- DSP_DERATE charge table | 9 points | 12 Table 12-9 | default table -/
  derateC : List (Int × Int) :=
    [(-2000, 0), (0, 0), (500, 30), (1000, 60), (1500, 100), (4500, 100), (5000, 80), (5500, 50), (6000, 0)]
  /-- DSP_DERATE discharge table | 9 points | 12 Table 12-9 | default table -/
  derateD : List (Int × Int) :=
    [(-3000, 30), (-2000, 50), (-1000, 80), (0, 100), (4500, 100), (5000, 90), (5500, 70), (6000, 40), (6500, 0)]
  /-- a record of the area was replaced by its defaults | 1 bit | 12 R374 | false -/
  replaced : Bool := false
  deriving DecidableEq, Repr, Inhabited

/-- What the envelope holds for one string (`DSP_STRING`, Table 12-10). The four horizons stand in order in the
lists; an empty list reads as zeros. -/
structure StrDsp where
  /-- charge candidates | up to 16 cells | 12 R345 | none -/
  candC : List Nat := []
  /-- discharge candidates | up to 16 cells | 12 R345 | none -/
  candD : List Nat := []
  /-- potential charge limits | 4 x mA | 12 R346 | 0 -/
  potC : List Int := []
  /-- potential discharge limits, magnitudes | 4 x mA | 12 R346 | 0 -/
  potD : List Int := []
  /-- DSP_S_CHG | 4 x int32 mA | 12 Table 12-10 | 0 -/
  chg : List Int := []
  /-- magnitudes of DSP_S_DIS | 4 x int32 mA | 12 Table 12-10 | 0 -/
  dis : List Int := []
  /-- thermal constraint last computed from a fresh set, charge | 4 x mA | 12 R348 | 0 -/
  thermC : List Int := []
  /-- thermal constraint last computed from a fresh set, discharge | 4 x mA | 12 R348 | 0 -/
  thermD : List Int := []
  /-- DSP_S_VMAX | int32 mV | 12 Table 12-10 | 0 -/
  vmax : Int := 0
  /-- DSP_S_VMIN | int32 mV | 12 Table 12-10 | 0 -/
  vmin : Int := 0
  /-- DSP_S_BIND, charge then discharge | 8 x 4 bits | 12 Table 12-10 | 0 -/
  bind : List Nat := []
  /-- DSP_S_MULT | uint16 0.01 % | 12 Table 12-10 | 0 -/
  mult : Nat := 0
  /-- share sigma_s | ppm | 12 R355 | 0 -/
  share : Nat := 0
  /-- DSP_S_FLAGS bit 0, limits sent | 1 bit | 12 Table 12-10 | false -/
  sent : Bool := false
  /-- DSP_S_FLAGS bit 1, a roster rest was pending | 1 bit | 12 Table 12-10 | false -/
  rest : Bool := false
  /-- DSP_S_FLAGS bit 2, an excursion was open | 1 bit | 12 Table 12-10 | false -/
  excursion : Bool := false
  /-- discharge current kept for INH_CHG of the peer alone, by function, plus 1 | mA | 12 R350 | none -/
  peerHeld : Tab Nat := []
  /-- DSP_S_FLAGS bit 3, stale thermal constraint | 1 bit | 12 Table 12-10 | false -/
  staleTherm : Bool := false
  /-- DSP_S_FLAGS bit 4, ramping | 1 bit | 12 Table 12-10 | false -/
  ramping : Bool := false
  /-- string was CLOSED or HELD at the last envelope | 1 bit | 12 R353 | false -/
  wasClosed : Bool := false
  deriving DecidableEq, Repr, Inhabited

/-- State of area 0x0C. -/
structure DspSt where
  /-- records of area 0x0C in force | records | 12 Table 12-8 | defaults -/
  cfg : DspCfg := {}
  /-- SoC window soc_min | Q0.32 | 12 R349 R360 | DSP_SOC_MIN -/
  socMin : Nat := 0x0CCCCCCD
  /-- SoC window soc_max | Q0.32 | 12 R349 R360 | DSP_SOC_MAX -/
  socMax : Nat := 0xF3333333
  /-- strings S0 to S15 | table | 12 Table 12-10 | 0 -/
  str : Tab StrDsp := []
  /-- DSP_CHG | 4 x int32 mA | 12 Table 12-3 | 0 -/
  chg : List Int := []
  /-- magnitudes of DSP_DIS | 4 x int32 mA | 12 Table 12-3 | 0 -/
  dis : List Int := []
  /-- DSP_VMAX | int32 mV | 12 Table 12-3 | 0 -/
  vmax : Int := 0
  /-- DSP_VMIN | int32 mV | 12 Table 12-3 | 0 -/
  vmin : Int := 0
  /-- DSP_LFLAGS stale | 1 bit | 12 Table 12-3 | false -/
  stale : Bool := false
  /-- DSP_LFLAGS zeroed | 1 bit | 12 Table 12-3 | false -/
  zeroed : Bool := false
  /-- an envelope completed in this frame | 1 bit | 12 R346 | false -/
  done : Bool := false
  /-- consecutive frames with the container current beyond its limit | count | 12 R358 | 0 -/
  excess : Nat := 0
  /-- DERATE_OUT request of the current-excess condition | 1 bit | 12 R358 | false -/
  reqCurrent : Bool := false
  /-- DERATE_OUT request of the zeroed limits | 1 bit | 12 R358 | false -/
  reqZero : Bool := false
  /-- frame since which neither condition holds | 48 bits | 12 R358 | none -/
  clearFrom : Option Nat := none
  /-- frame of the last envelope overrun | 48 bits | 12 R374 | none -/
  lastOverrun : Option Nat := none
  /-- LIMITS of this frame queued | 1 bit | 12 R357 | false -/
  queued : Bool := false
  deriving DecidableEq, Repr, Inhabited

/-- The record `GRZ_POLICY` (Table 12-13) as in force. -/
structure GrzCfg where
  /-- GRZ_P_BUDGET | 8 bits W | 12 Table 12-13 | 60 -/
  pBudget : Nat := 60
  /-- GRZ_P_RESERVE | 8 bits W | 12 Table 12-13 | 8 -/
  pReserve : Nat := 8
  /-- GRZ_DWELL | 8 bits s | 12 Table 12-13 | 60 -/
  dwell : Nat := 60
  /-- GRZ_MIN_SERVE | 8 bits | 12 Table 12-13 | 16 -/
  minServe : Nat := 16
  /-- GRZ_DEMAND_MARGIN | 8 bits % | 12 Table 12-13 | 10 -/
  demandMargin : Nat := 10
  /-- GRZ_SHARE_PCT | 8 bits % | 12 Table 12-13 | 90 -/
  sharePct : Nat := 90
  /-- GRZ_COOL_PCT | 8 bits % | 12 Table 12-13 | 90 -/
  coolPct : Nat := 90
  /-- GRZ_MAX_CHANGES | 8 bits | 12 Table 12-13 | 2 -/
  maxChanges : Nat := 2
  /-- GRZ_T_REST | int16 | 12 Table 12-13 | 4,800 -/
  tRest : Int := 4800
  /-- GRZ_BAL_MAX | 16 bits mW | 12 Table 12-13 | 4,000 -/
  balMax : Nat := 4000
  /-- GRZ_RJB | 16 bits 0.01 K/W | 12 Table 12-13 | 40 -/
  rjb : Nat := 40
  /-- GRZ_TAU_J | 8 bits s | 12 Table 12-13 | 5 -/
  tauJ : Nat := 5
  /-- GRZ_POLICY replaced by its defaults | 1 bit | 12 R376 | false -/
  replaced : Bool := false
  deriving DecidableEq, Repr, Inhabited

/-- One change of the roster waiting for its frame (R371). -/
structure RosterChange where
  /-- string | 4 bits | 12 R371 | 0 -/
  s : Nat := 0
  /-- admitted rather than rested | 1 bit | 12 Table 12-15 | false -/
  join : Bool := false
  /-- cause | 8 bits | 12 Table 12-15 | 1 -/
  cause : Nat := 1
  deriving DecidableEq, Repr, Inhabited

/-- State of area 0x0D. -/
structure GrzSt where
  /-- GRZ_POLICY in force | record | 12 Table 12-13 | defaults -/
  cfg : GrzCfg := {}
  /-- T_m | 0.01 degC scaled by 2^32 | 12 R363 | T_base at the end of Fill; DESIGN CHOICE 0 before (log 1) -/
  tm : Int := 0
  /-- highest valid diode reading | int16 | 12 R363 | DESIGN CHOICE 0 before the first (log 1) -/
  diode : Int := 0
  /-- GRZ_TBASE | int16 | 12 R363 | DESIGN CHOICE 0 before the first reading (log 1) -/
  tBase : Int := 0
  /-- GRZ_TJ | int16 | 12 Table 12-14 | 0 -/
  tj : Int := 0
  /-- peer's T_j of recent frames: frame, T_j, input power | int16, W | 12 R365 | empty -/
  peer : List (Nat × Int × Int) := []
  /-- own T_j and input power of recent frames | int16, W | 12 R365 | empty -/
  own : List (Nat × Int × Int) := []
  /-- GRZ_TJ_PAIR | int16 | 12 Table 12-14 | 0 -/
  tjPair : Int := 0
  /-- GRZ_RUNG in force | 0 to 5 | 12 Table 12-5 | 0 -/
  rung : Nat := 0
  /-- rung to take at the next frame boundary | 0 to 5 | 12 R366 | 0 -/
  rungNext : Nat := 0
  /-- GRZ_ELASTIC | 0 to 3 | 12 R367 | 0 -/
  elastic : Nat := 0
  /-- frames without overrun or power excess | count | 12 R367 | 0 -/
  elasticClean : Nat := 0
  /-- an overrun asks for a raise in the next frame | 1 bit | 12 R367 | false -/
  elasticUp : Bool := false
  /-- input power in use (R365) of the last 100 frames, newest first | W | 12 R368 | empty -/
  power : List Int := []
  /-- sum of input power in the present second | W | 12 R367 | 0 -/
  powerSec : Int := 0
  /-- rail monitors failed | 16 bits | 12 R364 | 0 -/
  railFail : Mask := 0
  /-- diodes failed | 4 bits | 12 R364 | 0 -/
  diodeFail : BitVec 4 := 0
  /-- base sensor failed | 1 bit | 12 R364 | false -/
  baseFail : Bool := false
  /-- deferrable work admitted this frame | 1 bit | 12 R368 | false -/
  admitted : Bool := false
  /-- admission formed for the next frame | 1 bit | 12 R368 | false -/
  admitNext : Bool := false
  /-- GRZ_SHED | uint32 saturating | 12 Table 12-14 | 0 -/
  shed : Nat := 0
  /-- coolant budget H_cool | int32 mW | 12 R369, 15 | 0 -/
  hCool : Int := 0
  /-- coolant supply temperature of the latest HVAC_BUDGET | int16 | 08 R223, 15 | 0 -/
  coolantT : Int := 0
  /-- frame of the latest HVAC_BUDGET | 48 bits | 12 R369 | none -/
  hvacFrame : Option Nat := none
  /-- GRZ_H_PRED | int32 mW | 12 Table 12-14 | 0 -/
  hPred : Int := 0
  /-- GRZ_DEMAND | int32 mA | 12 Table 12-14 | 0 -/
  demand : Int := 0
  /-- GRZ_SERVE | 16 bits | 12 Table 12-14 | 0 -/
  serve : Mask := 0
  /-- GRZ_REST | 16 bits | 12 Table 12-14 | 0 -/
  rest : Mask := 0
  /-- GRZ_BAL_FE, the balancing budget B of a front end | uint16 mW | 12 R369 | DESIGN CHOICE 4,000, R369 without a budget (log 1) -/
  balFe : Nat := 4000
  /-- front ends with a non-zero request in the present second | 128 bits | 12 R369 | 0 -/
  balPorts : BitVec 128 := 0
  /-- changes of the roster waiting for frame 1,000N | list | 12 R371 | empty -/
  changes : List RosterChange := []
  /-- frame at which the roster computed last takes effect | 48 bits | 12 R370 | none -/
  rosterDue : Option Nat := none
  /-- GRZ_ROSTER_FRAME | 48 bits | 12 Table 12-14 | 0 -/
  rosterFrame : Nat := 0
  /-- means of the container current of the last 60 s, newest first | mA | 12 R370 | empty -/
  mean60 : List Int := []
  deriving DecidableEq, Repr, Inhabited

end Sys2Proof.Machine
end

