-- ==== Sys2Proof/Machine/State/Est.lean ====
section
/-! DEFINITION. State of areas 0x07 (estimation), 0x08 (cell thermal model) and 0x09 (Herd) beside the cell stores. -/

namespace Sys2Proof.Machine

/-- The chemistry set: records 0x0701 to 0x0707 (Tables 7-7, 7-8). -/
structure Chem where
  /-- EST_CHEM_ID | uint32 | 07 Table 7-8 | 0 built-in -/
  id : Word := 0
  /-- EST_CAPACITY | uint64 mA.s | 07 Table 7-8 | 360,000,000 built-in -/
  capacity : Nat := 360000000
  /-- EST_TEMPS | 9 x int16 | 07 Table 7-8 | built-in Table 7-5 -/
  temps : List Int := [-2000, -1000, 0, 1000, 2000, 3000, 4000, 5000, 6000]
  /-- EST_V_EOD | int32 uV | 07 Table 7-8 | 2,900,000 built-in -/
  vEod : Int := 2900000
  /-- EST_V_EOC | int32 uV | 07 Table 7-8 | 3,450,000 built-in -/
  vEoc : Int := 3450000
  /-- EST_SOC_EOD | Q0.32 | 07 Table 7-8 | 0x051EB852 built-in -/
  socEod : Nat := 0x051EB852
  /-- EST_SOC_EOC | Q0.32 | 07 Table 7-8 | 0xFC28F5C3 built-in -/
  socEoc : Nat := 0xFC28F5C3
  /-- EST_ETA_C | uint32 ppm | 07 Table 7-8 | 1,000,000 built-in -/
  etaC : Nat := 1000000
  /-- EST_HYST_GAMMA | uint16 | 07 Table 7-8 | 40 built-in -/
  gamma : Nat := 40
  /-- EST_OCV discharge branch, index j*101 + i; empty means Table 7-5's line | 909 x uint32 uV | 07 Table 7-7 | built-in -/
  ocvD : List Int := []
  /-- EST_OCV charge branch | 909 x uint32 uV | 07 Table 7-7 | built-in -/
  ocvC : List Int := []
  /-- EST_RC: Rs | 189 x uint32 nOhm | 07 Table 7-7 | 1,000,000 built-in -/
  rsTab : List Int := []
  /-- EST_RC: Ra | 189 x uint32 nOhm | 07 Table 7-7 | 500,000 built-in -/
  raTab : List Int := []
  /-- EST_RC: Ca | 189 x uint32 0.1 F | 07 Table 7-7 | 20,000 built-in -/
  caTab : List Int := []
  /-- EST_RC: Rb | 189 x uint32 nOhm | 07 Table 7-7 | 500,000 built-in -/
  rbTab : List Int := []
  /-- EST_RC: Cb | 189 x uint32 0.1 F | 07 Table 7-7 | 2,000,000 built-in -/
  cbTab : List Int := []
  /-- EST_ENTROPIC | 21 x int32 nV/K | 07 Table 7-7 | 0 built-in -/
  entropic : List Int := []
  /-- EST_FADE | 32 pairs centicycles, ppm | 07 Table 7-7 | 1,000,000 ppm built-in -/
  fade : List (Int × Int) := []
  /-- EST_TEMPCAP | 9 x uint32 ppm | 07 Table 7-7 | 1,000,000 ppm built-in -/
  tempcap : List Int := []
  /-- EST_RCOMP | 189 x uint32 nOhm | 07 Table 7-7 | 1,500,000 built-in -/
  rcomp : List Int := []
  deriving DecidableEq, Repr, Inhabited

/-- The record `EST_FILTER` (Table 7-9) as in force. -/
structure EstCfg where
  /-- EST_SIGMA_MAX | 16 bits | 07 Table 7-9 | 3,000 -/
  sigmaMax : Nat := 3000
  /-- EST_SIGMA_COLD | 16 bits | 07 Table 7-9 | 10,000 -/
  sigmaCold : Nat := 10000
  /-- EST_SIGMA_SET | 16 bits | 07 Table 7-9 | 500 -/
  sigmaSet : Nat := 500
  /-- EST_SIGMA_REF | 16 bits | 07 Table 7-9 | 1,000 -/
  sigmaRef : Nat := 1000
  /-- EST_HORIZON | 16 bits h | 07 Table 7-9 | 72 -/
  horizon : Nat := 72
  /-- EST_REQ_REPEAT | 8 bits h | 07 Table 7-9 | 24 -/
  reqRepeat : Nat := 24
  /-- EST_REST_MIN | 8 bits min | 07 Table 7-9 | 30 -/
  restMin : Nat := 30
  /-- EST_Q_TIME | 32 bits | 07 Table 7-9 | 10,000 -/
  qTime : Nat := 10000
  /-- EST_Q_THRU | 32 bits | 07 Table 7-9 | 2,500 -/
  qThru : Nat := 2500
  /-- EST_R_MEAS | 32 bits uV^2 | 07 Table 7-9 | 36,000,000 -/
  rMeas : Nat := 36000000
  /-- EST_R_REST | 32 bits uV^2 | 07 Table 7-9 | 4,000,000 -/
  rRest : Nat := 4000000
  /-- EST_SLOPE_MIN | 16 bits uV per 1 % | 07 Table 7-9 | 2,000 -/
  slopeMin : Nat := 2000
  /-- EST_RS_SHIFT | 8 bits | 07 Table 7-9 | 6 -/
  rsShift : Nat := 6
  /-- EST_RS_STEP | 8 bits 0.01 C | 07 Table 7-9 | 10 -/
  rsStep : Nat := 10
  /-- EST_Q_RC | 16 bits | 07 Table 7-9 | 100 -/
  qRc : Nat := 100
  /-- EST_Q_H | 16 bits | 07 Table 7-9 | 16 -/
  qH : Nat := 16
  deriving DecidableEq, Repr, Inhabited

/-- An excursion of a string (R204, R205). -/
structure Excursion where
  /-- direction, true towards full charge | 8 bits | 07 R204 | charge -/
  charge : Bool := true
  /-- effective frame of the grant | 48 bits | 07 R205 | 0 -/
  from_ : Nat := 0
  /-- EST_EXC_END | 48 bits | 07 Table 7-12 | 0 -/
  end_ : Nat := 0
  /-- command ID of the grant | 32 bits | 07 Table 7-13 | 0 -/
  cmd : Word := 0
  /-- a reference of the granted end has been taken | 1 bit | 07 R205 | false -/
  gotEnd : Bool := false
  deriving DecidableEq, Repr, Inhabited

/-- What estimation holds for one string. -/
structure StrEst where
  /-- estimation interval E, 1, 10 or 100 frames | 2 bits | 07 R191 | 1 -/
  interval : Nat := 1
  /-- charge throughput | uint64 mA.s | 07 R188 R190 | from the wear record; 0 when none -/
  thruC : Nat := 0
  /-- charge throughput remainder | mA.us | 07 R188 | 0 -/
  thruCRem : Nat := 0
  /-- discharge throughput | uint64 mA.s | 07 R188 R190 | from the wear record; 0 when none -/
  thruD : Nat := 0
  /-- discharge throughput remainder | mA.us | 07 R188 | 0 -/
  thruDRem : Nat := 0
  /-- charge of all intervals since reset | mA.us | 07 R178 | 0 -/
  qSum : Int := 0
  /-- sum of squares of the per-pulse samples since the last thermal step | mA^2 | 08 R216 | 0 -/
  sqSum : Nat := 0
  /-- samples in that sum | count | 08 R216 | 0 -/
  sqN : Nat := 0
  /-- sum of squares and samples of each of the thermal steps before, latest first, as far back as a missed step can
  reach | up to 255 x (mA^2, count) | 08 R216 R218 | none -/
  sqPast : List (Nat × Nat) := []
  /-- frame of the previous thermal step | 48 bits | 08 R218 | none -/
  thmPrev : Option Nat := none
  /-- string current at pulse 10 of the present frame | int32 mA | 07 R178 | 0 -/
  cur10 : Int := 0
  /-- string current at pulse 10 of the previous step frame | int32 mA | 07 R197 | 0 -/
  cur10Prev : Int := 0
  /-- last frame stepped | 48 bits | 07 R197 | none -/
  lastStep : Option Nat := none
  /-- frames with every sample below 0.02 C | count | 07 R201 | 0 -/
  quiet : Nat := 0
  /-- at rest | 1 bit | 07 R201 | false -/
  atRest : Bool := false
  /-- reference request standing, its cause | 8 bits | 07 R203 | none -/
  request : Option Nat := none
  /-- frame of the last EST_REFERENCE_REQUEST | 48 bits | 07 R203 | 0 -/
  requestAt : Nat := 0
  /-- excursion open | record | 07 R204 | none -/
  excursion : Option Excursion := none
  /-- cold cells were journaled for this occasion | 1 bit | 07 R207 | false -/
  coldSeen : Bool := false
  /-- the string has stood UNSURVEYED since the start's Survey ended | 1 bit | 07 R207 | false -/
  leftUnsurveyed : Bool := false
  deriving DecidableEq, Repr, Inhabited

/-- State of area 0x07. -/
structure EstSt where
  /-- chemistry set from the image, none for the built-in set | records | 07 R185 | none -/
  chem : Option Chem := none
  /-- EST_FILTER in force | record | 07 Table 7-9 | defaults -/
  cfg : EstCfg := {}
  /-- EST_MFLAGS bit 1 | 1 bit | 07 Table 7-10 | false -/
  filterInvalid : Bool := false
  /-- EST_STEPPED | uint16 | 07 Table 7-10 | 0 -/
  stepped : Nat := 0
  /-- EST_STALE_CELLS | uint16 | 07 Table 7-10 | 0 -/
  stale : Nat := 0
  /-- frame of the last Eland overrun | 48 bits | 07 R208 | none -/
  lastOverrun : Option Nat := none
  /-- strings S0 to S15 | table | 07 | E = 1 -/
  str : Tab StrEst := []
  /-- the estimation pass of this frame has run | 1 bit | 02 Table 2-1 | false -/
  passDone : Bool := false
  deriving DecidableEq, Repr, Inhabited

/-- The records of area 0x08 (Tables 8-7 to 8-9) as in force. -/
structure ThmCfg where
  /-- Cc | uint32 J/K | 08 R231 | 1,500 -/
  cc : Nat := 1500
  /-- Cs | uint32 J/K | 08 R231 | 500 -/
  cs : Nat := 500
  /-- Gcs | uint32 mW/K | 08 R231 | 1,000 -/
  gcs : Nat := 1000
  /-- Gn | uint32 mW/K | 08 R231 | 300 -/
  gn : Nat := 300
  /-- Gp | uint32 mW/K | 08 R231 | 500 -/
  gp : Nat := 500
  /-- THM_ZONES words: source, zone factor, fixed value; unlisted strings have the defaults | 16 words | 08 Table 8-8 | 0x01, 100, 2,500 -/
  zones : List (Nat × Nat × Int) := []
  /-- THM_OBS_KS | 16 bits | 08 Table 8-9 | 1,311 -/
  obsKs : Nat := 1311
  /-- THM_OBS_KC | 16 bits | 08 Table 8-9 | 16,384 -/
  obsKc : Nat := 16384
  /-- THM_OBS_MAX | 16 bits | 08 Table 8-9 | 10 -/
  obsMax : Nat := 10
  /-- THM_LEAD | 8 bits | 08 Table 8-9 | 8 -/
  lead : Nat := 8
  /-- THM_AI_LO | int16 | 08 Table 8-9 | -4,000 -/
  aiLo : Int := -4000
  /-- THM_AI_HI | int16 | 08 Table 8-9 | 12,000 -/
  aiHi : Int := 12000
  /-- a record of the area was replaced by its defaults | 1 bit | 08 R230 | false -/
  replaced : Bool := false
  deriving DecidableEq, Repr, Inhabited

/-- One prediction set entry (Table 8-5). -/
structure PredEntry where
  /-- THM_LEAD_G | 16 bits | 08 Table 8-5 | 0 -/
  g : Nat := 0
  /-- THM_REFF | uint32 nOhm | 08 Table 8-5 | 0 -/
  reff : Nat := 0
  /-- THM_E | int32 uV | 08 Table 8-5 | 0 -/
  e : Int := 0
  /-- THM_A | 4 x int32 | 08 Table 8-5 | 0 -/
  a : List Int := []
  /-- THM_B | 4 x uint32 | 08 Table 8-5 | 0 -/
  b : List Int := []
  deriving DecidableEq, Repr, Inhabited

/-- What the thermal model holds for one string. -/
structure StrThm where
  /-- lead cells | up to 16 | 08 R227 | none -/
  leads : List Nat := []
  /-- prediction set | table | 08 R228 | empty -/
  pred : List PredEntry := []
  /-- THM_PRED_FRAME | 48 bits | 08 Table 8-10 | 0 -/
  predFrame : Nat := 0
  /-- prediction set stale | 1 bit | 08 R228 | false -/
  predStale : Bool := false
  /-- plate temperature in use | int16 | 08 R223 | DESIGN CHOICE 0 until the first thermal step (log 1) -/
  plate : Int := 0
  /-- THM_PLATE_USED | 8 bits | 08 Table 8-10 | 0 -/
  plateUsed : Nat := 0
  /-- plate source invalid | 1 bit | 08 R224 | false -/
  plateInvalid : Bool := false
  /-- THM_INIT journaled in this start | 1 bit | 08 R225 | false -/
  initSeen : Bool := false
  /-- frame of the last THM_STALE of one of its cells | 48 bits | 08 R230 | none -/
  lastStale : Option Nat := none
  deriving DecidableEq, Repr, Inhabited

/-- State of area 0x08. -/
structure ThmSt where
  /-- records of area 0x08 in force | records | 08 Table 8-7 | defaults -/
  cfg : ThmCfg := {}
  /-- strings S0 to S15 | table | 08 | no prediction -/
  str : Tab StrThm := []
  deriving DecidableEq, Repr, Inhabited

/-- The record `HERD_POLICY` (Table 9-9) as in force. -/
structure HerdCfg where
  /-- HERD_WATCH_Z | 16 bits | 09 Table 9-9 | 400 -/
  watchZ : Nat := 400
  /-- HERD_SUSPECT_Z | 16 bits | 09 Table 9-9 | 600 -/
  suspectZ : Nat := 600
  /-- HERD_CLEAR_Z | 16 bits | 09 Table 9-9 | 300 -/
  clearZ : Nat := 300
  /-- HERD_WATCH_TIME | 16 bits s | 09 Table 9-9 | 600 -/
  watchTime : Nat := 600
  /-- HERD_SUSPECT_TIME | 16 bits s | 09 Table 9-9 | 3,600 -/
  suspectTime : Nat := 3600
  /-- HERD_CLEAR_TIME | 16 bits s | 09 Table 9-9 | 21,600 -/
  clearTime : Nat := 21600
  /-- HERD_FLOOR_1 to HERD_FLOOR_5 | 5 x 16 bits | 09 Table 9-9 | 500, 20,000, 500, 20, 1,000 -/
  floors : List Nat := [500, 20000, 500, 20, 1000]
  /-- HERD_SD_LIMIT | 16 bits uA | 09 Table 9-9 | 3,000 -/
  sdLimit : Nat := 3000
  /-- HERD_SD_MIN_T | 8 bits h | 09 Table 9-9 | 6 -/
  sdMinT : Nat := 6
  /-- HERD_MIN_POP | 8 bits | 09 Table 9-9 | 12 -/
  minPop : Nat := 12
  /-- HERD_SD_SLOPE | 16 bits uV per 1 % | 09 Table 9-9 | 500 -/
  sdSlope : Nat := 500
  /-- HERD_SD_WIN | 16 bits s | 09 Table 9-9 | 600 -/
  sdWin : Nat := 600
  /-- HERD_SD_VNOISE | 8 bits uV | 09 Table 9-9 | 100 -/
  sdVnoise : Nat := 100
  /-- HERD_BAL_SHIFT | 4 bits | 09 Table 9-9 | 3 -/
  balShift : Nat := 3
  /-- HERD_EN | 1 bit | 09 Table 9-9 | 1 -/
  en : Bool := true
  /-- HERD_ACT_DELAY | 16 bits min | 09 Table 9-9 | 0 -/
  actDelay : Nat := 0
  /-- HERD_DERATE | 8 bits % | 09 Table 9-9 | 50 -/
  derate : Nat := 50
  /-- HERD_ACTION | 15 bits | 09 Table 9-9 | 0x1B59 -/
  action : BitVec 15 := 0x1B59
  /-- HERD_POLICY replaced by its defaults | 1 bit | 09 R259 | false -/
  replaced : Bool := false
  deriving DecidableEq, Repr, Inhabited

/-- What Herd holds for one string: the Herd string record (Table 9-5) and `HERD_STRING` (Table 9-10). -/
structure StrHerd where
  /-- HERD_N bank 0 | uint16 | 09 Table 9-5 | 0 -/
  n0 : Nat := 0
  /-- HERD_N bank 1 | uint16 | 09 Table 9-5 | 0 -/
  n1 : Nat := 0
  /-- second the bank was last started for | count | 09 R235 | none -/
  second : Option Nat := none
  /-- HERD_NMIN0 | uint16 | 09 Table 9-5 | 0 -/
  nmin0 : Nat := 0
  /-- HERD_NMINA | uint16 | 09 Table 9-5 | 0 -/
  nmina : Nat := 0
  /-- HERD_EP_START | 48 bits | 09 Table 9-5 | 0 -/
  epStart : Nat := 0
  /-- HERD_EP_WIN | uint16 | 09 Table 9-5 | 0 -/
  epWin : Nat := 0
  /-- eligible throughout the second before and the present one | 2 bits | 09 R238 | false -/
  eligPrev : Bool := false
  /-- eligible so far in the present second | 1 bit | 09 R238 | false -/
  eligNow : Bool := false
  /-- actions in force | 3 bits | 09 R250 | 0 -/
  actions : BitVec 3 := 0
  /-- actions before the last change | 3 bits | 09 R250 | 0 -/
  actionsOld : BitVec 3 := 0
  /-- frame of the last change of the actions | 48 bits | 09 R250 | none -/
  actFrame : Option Nat := none
  /-- eligible in the last sweep | 1 bit | 09 Table 9-10 | false -/
  eligible : Bool := false
  /-- HERD_N_WATCH, HERD_N_SUSPECT, HERD_N_ACT | 3 x uint16 | 09 Table 9-10 | 0 -/
  counts : List Nat := []
  /-- HERD_WORST_G | uint16 | 09 Table 9-10 | 0xFFFF -/
  worstG : Nat := 0xFFFF
  /-- HERD_WORST_Z | int16 | 09 Table 9-10 | 0 -/
  worstZ : Int := 0
  /-- HERD_WORST_F | 8 bits | 09 Table 9-10 | 0 -/
  worstF : Nat := 0
  /-- medians of features 1 to 5 | 5 x int32 | 09 Table 9-10 | 0 -/
  medians : List Int := []
  /-- HERD_SWEEP_FRAME | 48 bits | 09 Table 9-10 | 0 -/
  sweepFrame : Nat := 0
  /-- frame in which the Herd regions of the string's cells were last written | 48 bits | 13 Table 13-6 | none -/
  wrote : Option Nat := none
  /-- HERD_SKIPPED | uint32 saturating | 09 Table 9-10 | 0 -/
  skipped : Nat := 0
  /-- HERD_REPORTS_LOST | uint32 saturating | 09 Table 9-10 | 0 -/
  lost : Nat := 0
  deriving DecidableEq, Repr, Inhabited

/-- State of area 0x09. -/
structure HerdSt where
  /-- HERD_POLICY in force | record | 09 Table 9-9 | defaults -/
  cfg : HerdCfg := {}
  /-- strings S0 to S15 | table | 09 Table 9-5 | zero -/
  str : Tab StrHerd := []
  /-- second of the sweep that is running | count | 09 R237 | none -/
  sweep : Option Nat := none
  /-- consecutive skipped sweeps | count | 09 R237 | 0 -/
  skipRun : Nat := 0
  /-- frame of the last skip | 48 bits | 09 R259 | none -/
  lastSkip : Option Nat := none
  /-- a sweep has completed since the last frame closure | 1 bit | 09 R254 | false -/
  swept : Bool := false
  deriving DecidableEq, Repr, Inhabited

end Sys2Proof.Machine
end

