-- ==== Sys2Proof/Machine/State/Link.lean ====
section
/-! DEFINITION. State of area 0x04: the 128 link contexts and their secondary transactions. -/

namespace Sys2Proof.Machine

/-- The record `LINK_POLICY` (Table 4-15) as in force. -/
structure LinkCfg where
  /-- LINK_ECHO_INTERVAL | 8 bits, 1 to 255 s | 04 Table 4-15 | 10 -/
  echoInterval : Nat := 10
  /-- LINK_RECOVER_FRAMES | 8 bits, 3 to 100 | 04 Table 4-15 | 10 -/
  recoverFrames : Nat := 10
  /-- LINK_REPEAT_EN | 1 bit | 04 Table 4-15 | 1 -/
  repeatEn : Bool := true
  deriving DecidableEq, Repr, Inhabited

/-- The payload of one upload (Table 4-7). -/
structure UpData where
  /-- UST | 16 bits | 04 Table 4-8 | 0 -/
  ust : Mask := 0
  /-- APPLIED_MASK | 64 bits | 04 Table 4-7 | 0 -/
  applied : BitVec 64 := 0
  /-- BLOCK | uint24, 100 uV | 04 Table 4-7 | 0 -/
  block : Nat := 0
  /-- TEMP | 16 x int16 as coded | 04 Table 4-7 | empty -/
  temp : List Int := []
  /-- CELL | 64 x int24 as coded | 04 Table 4-7 | empty -/
  cell : List Int := []
  deriving DecidableEq, Repr, Inhabited

/-- The header of a link frame with its CRC field, as sent or as received (Tables 4-2 and 4-3, R90, R91). -/
structure LinkHead where
  /-- a Manchester violation, or the frame ended before its CRC was complete | 1 bit | 04 R91 | false -/
  broken : Bool := false
  /-- TYPE | 8 bits | 04 Table 4-4 | 0 -/
  type : Nat := 0
  /-- ROLE | 2 bits | 04 Table 4-3 | 0 -/
  role : Nat := 0
  /-- SLOT | 1 bit | 04 Table 4-3 | A -/
  slot : Slot := .a
  /-- DIR, uplink | 1 bit | 04 Table 4-3 | false -/
  up : Bool := false
  /-- RPT | 1 bit | 04 Table 4-3 | false -/
  rpt : Bool := false
  /-- FRAME | 48 bits | 04 Table 4-2 | 0 -/
  frame : Nat := 0
  /-- SEQ | 16 bits | 04 R92 | 0 -/
  seq : Nat := 0
  /-- LEN | 16 bits | 04 Table 4-2 | 0 -/
  len : Nat := 0
  /-- CRC field | 32 bits | 04 R90 | 0 -/
  crc : Word := 0
  deriving DecidableEq, Repr, Inhabited

/-- An uplink frame of type UPLOAD: header and payload (R96). -/
structure UpFrame where
  /-- header | record | 04 Table 4-2 | zero -/
  head : LinkHead := {}
  /-- payload | Table 4-7 | 04 R96 | zero -/
  data : UpData := {}
  deriving DecidableEq, Repr, Inhabited

/-- Who asked for a secondary transaction. -/
inductive Requester where
  | identity | calibration | policy | readback | refresh | alarmClear | target
  | wearWrite | wearCommit | wearCheck | fwBlock | fwRestart | fwCheck | echo
  deriving DecidableEq, Repr, Inhabited

/-- The request of a secondary transaction (R105, Table 4-10). -/
inductive SecReq where
  | regRead (addr count : Nat)
  | regWrite (addr : Nat) (data : List Word)
  | fwBlock (bank blockNo : Nat) (data : Bytes)
  | echo
  deriving DecidableEq, Repr, Inhabited

/-- One secondary transaction waiting or outstanding on a port (R105). -/
structure SecTx where
  /-- the request | Table 4-10 | 04 R105 | none -/
  req : SecReq := .echo
  /-- its requester | name | 04 R105 | echo -/
  by_ : Requester := .echo
  /-- SEQ of the request when sent | 16 bits | 04 R92 R105 | none -/
  seq : Option Nat := none
  /-- tries made | count, at most 4 | 04 R105 | 0 -/
  tries : Nat := 0
  /-- strobe count of the last try | count | 04 R105 | none -/
  sentIn : Option Nat := none
  deriving DecidableEq, Repr, Inhabited

/-- The link context of one cell port. -/
structure LinkSt where
  /-- LINK_STATE | 8 bits | 04 Table 4-12 | OFF -/
  state : LinkState := .off
  /-- LINK_LAT_FAULT | 1 bit | 04 Table 4-13 | false -/
  latFault : Bool := false
  /-- role conflict | 1 bit | 04 R110 | false -/
  roleConflict : Bool := false
  /-- slot mismatch | 1 bit | 04 R111 | false -/
  slotMismatch : Bool := false
  /-- alarm tone since the last wake | 1 bit | 04 Table 4-16 | false -/
  tone : Bool := false
  /-- link state at the last alarm tone or wake | 8 bits | 05 Table 5-13 R152 | 0 -/
  alarmState : Nat := 0
  /-- LINK_LATENCY, L in ns | uint16 | 04 R104 | none, read as 0xFFFF -/
  latency : Option Nat := none
  /-- L measured in this start | 1 bit | 04 Table 4-13 | false -/
  measured : Bool := false
  /-- L values of the running measurement | up to 8 | 04 R104 | empty -/
  echoes : List Int := []
  /-- failed measurements in ALIGN | count | 04 Table 4-13 | 0 -/
  alignFails : Nat := 0
  /-- exchanges of the running measurement that are over, failed ones included | 0 to 8 | 04 R104 | 0 -/
  echoTried : Nat := 0
  /-- strobe count at the last completed measurement | count | 04 R104 | 0 -/
  echoFrame : Nat := 0
  /-- a measurement runs | 1 bit | 04 R104 | false -/
  echoRun : Bool := false
  /-- downlink SEQ | 16 bits | 04 R92 | 0 -/
  seq : Nat := 0
  /-- SEQ of this frame's SAMPLE | 16 bits | 04 R98 | 0 -/
  sampleSeq : Nat := 0
  /-- a SAMPLE of this frame was sent | 1 bit | 04 R94 | false -/
  sampled : Bool := false
  /-- CONVERT of this frame's SAMPLE | 1 bit | 04 Table 4-5 | false -/
  convert : Bool := false
  /-- DELAY of the last SAMPLE | uint16, 10 ns | 04 R103 | 60 -/
  delay : Nat := 60
  /-- BAL_MASK of the last CONTROL | 64 bits | 04 Table 4-6 | 0 -/
  balMask : BitVec 64 := 0
  /-- balance request planned for the next CONTROL | 64 bits | 06 R159 | 0 -/
  balPlan : BitVec 64 := 0
  /-- OW_CTRL pattern of the last CONTROL | 2 bits | 04 Table 4-6 R162 | 0 -/
  owCtrl : BitVec 2 := 0
  /-- OW_CTRL pattern of the CONTROL before it | 2 bits | 04 R162 | 0 -/
  owPrev : BitVec 2 := 0
  /-- SLEEP of the last CONTROL | 1 bit | 04 Table 4-6 | false -/
  sleepSent : Bool := false
  /-- ROLE sent in the last downlink frame | 2 bits | 04 R92 | none -/
  roleSent : RoleCode := .none
  /-- wake pattern sent, strobe count of its frame | count | 04 R107 R53 | none -/
  wakeFrame : Option Nat := none
  /-- valid upload held for the present frame | 1 bit | 04 R98 | false -/
  validNow : Bool := false
  /-- payload of the module's own valid upload of the frame | Table 4-7 | 04 R98 | none -/
  own : Option UpData := none
  /-- payload of the upload the peer mirrored in the frame | Table 4-7 | 13 R384 | none -/
  mirror : Option UpData := none
  /-- payload the runtime uses in the frame | Table 4-7 | 13 R384 | none -/
  used : Option UpData := none
  /-- that upload was a repeat | 1 bit | 04 R101 | false -/
  viaRepeat : Bool := false
  /-- REPEAT sent in the present frame | 1 bit | 04 R100 | false -/
  repeated : Bool := false
  /-- consecutive missed frames | count | 04 Table 4-13 | 0 -/
  missRun : Nat := 0
  /-- consecutive valid uploads in LOST | count | 04 Table 4-13 | 0 -/
  validRun : Nat := 0
  /-- UST of the last valid upload | 16 bits | 04 Table 4-8 | 0 -/
  ust : Mask := 0
  /-- APPLIED_MASK of the last valid upload | 64 bits | 04 Table 4-7 | 0 -/
  applied : BitVec 64 := 0
  /-- BAL_TARGET since the last wake: 0 not written, 1 queued, 2 written | 2 bits | 05 R150 | 0 -/
  targets : Nat := 0
  /-- writes waiting for a CONTROL | address and value | 04 Table 4-6 | empty -/
  queued : List (Nat × Word) := []
  /-- queued writes of the last CONTROL, at most 5 | address and value | 04 Table 4-6 | empty -/
  writes : List (Nat × Word) := []
  /-- secondary transactions waiting, first in first out | list | 04 R105 | empty -/
  secQueue : List SecTx := []
  /-- the outstanding secondary transaction | record | 04 R105 | none -/
  sec : Option SecTx := none
  /-- LINK_VALID | uint32 saturating | 04 Table 4-16 | 0 -/
  nValid : Nat := 0
  /-- LINK_CRC_ERR | uint32 saturating | 04 Table 4-16 | 0 -/
  nCrc : Nat := 0
  /-- LINK_FMT_ERR | uint32 saturating | 04 Table 4-16 | 0 -/
  nFmt : Nat := 0
  /-- LINK_FRAME_ERR | uint32 saturating | 04 Table 4-16 | 0 -/
  nFrame : Nat := 0
  /-- LINK_MISSED | uint32 saturating | 04 Table 4-16 | 0 -/
  nMissed : Nat := 0
  /-- LINK_REPEATS | uint32 saturating | 04 Table 4-16 | 0 -/
  nRepeats : Nat := 0
  /-- LINK_RECOVERED | uint32 saturating | 04 Table 4-16 | 0 -/
  nRecovered : Nat := 0
  /-- LINK_DOWN_MISS | uint32 saturating | 04 Table 4-16 | 0 -/
  nDownMiss : Nat := 0
  /-- LINK_TONES | uint32 saturating | 04 Table 4-16 | 0 -/
  nTones : Nat := 0
  /-- LINK_SEC_FAIL | uint32 saturating | 04 Table 4-16 | 0 -/
  nSecFail : Nat := 0
  deriving DecidableEq, Repr, Inhabited

/-- What the module holds of the front end on a port (`CFE_PORT`, Table 5-12). -/
structure CfePort where
  /-- CFE_SERIAL | 16 bytes | 05 Table 5-12 R151 | 0 -/
  serial : Bytes := List.replicate 16 0
  /-- identity registers have been read in this survey | 1 bit | 05 R151, 03 R607 | false -/
  serialRead : Bool := false
  /-- CFE_CONTRACT | 32 bits | 05 Table 5-12 | 0 -/
  contract : Word := 0
  /-- CFE_MODEL | 32 bits | 05 Table 5-12 | 0 -/
  model : Word := 0
  /-- CFE_CAPS | 32 bits | 05 Table 5-12 | 0 -/
  caps : Word := 0
  /-- CFE_FW_RUN | 32 bits | 05 Table 5-12 | 0 -/
  fwRun : Word := 0
  /-- CFE_FW_BANK0 | 32 bits | 05 Table 5-12 | 0 -/
  bank0 : Word := 0
  /-- CFE_FW_BANK1 | 32 bits | 05 Table 5-12 | 0 -/
  bank1 : Word := 0
  /-- calibration block as read so far | 256 words | 05 Table 5-8 R150 | not read -/
  cal : Tab Word := []
  /-- calibration words read | count | 05 Table 5-8 | 0 -/
  calRead : Nat := 0
  /-- CFE_CAL_TIME | 64 bits | 05 Table 5-12 | 0 -/
  calTime : BitVec 64 := 0
  /-- CFE_CAL_CRC | 32 bits | 05 Table 5-12 | 0 -/
  calCrc : Word := 0
  /-- CFE_WEAR_STAT | 32 bits | 05 Table 5-12 | 0 -/
  wearStat : Word := 0
  /-- CFE_ALARM | 32 bits | 05 Table 5-12 R152 | 0 -/
  alarm : Word := 0
  /-- CFE_DIE_TEMP | 16 bits | 05 Table 5-12 | 0 -/
  dieTemp : Mask := 0
  /-- STATUS as last read | 32 bits | 05 Table 5-5 | 0 -/
  status : Word := 0
  /-- frame of the last refresh | 48 bits | 05 R151 | 0 -/
  refreshed : Nat := 0
  /-- policy written and read back | 1 bit | 05 R150 | false -/
  policyDone : Bool := false
  deriving DecidableEq, Repr, Inhabited

/-- The record `CFE_POLICY` (Table 5-11) as in force. -/
structure CfeCfg where
  /-- CFE_SLP_OV | uint32 uV | 05 Table 5-11 | SF-01 limit -/
  slpOv : Nat := 3650000
  /-- CFE_SLP_UV | uint32 uV | 05 Table 5-11 | SF-02 limit -/
  slpUv : Nat := 2500000
  /-- CFE_SLP_OT | int16 0.01 degC | 05 Table 5-11 | SF-03 limit -/
  slpOt : Int := 6000
  /-- CFE_SLP_DEADBAND | 8 bits mV, 1 to 50 | 05 Table 5-11 | 5 -/
  deadband : Nat := 5
  /-- CFE_SLP_BAL_EN | 1 bit | 05 Table 5-11 | 1 -/
  balEn : Bool := true
  /-- CFE_TH_BETA | 16 bits K | 05 Table 5-11 | 3,435 -/
  thBeta : Nat := 3435
  deriving DecidableEq, Repr, Inhabited

end Sys2Proof.Machine
end

