-- ==== Sys2Proof/Machine/State/Meas.lean ====
section
/-! DEFINITION. State of area 0x06: conversion tiers, open-wire tests, thermistor faults and cross-checks.
The per-cell and per-thermistor stores stand in `Cells.lean`. -/

namespace Sys2Proof.Machine

/-- The record `MEAS_POLICY` (Table 6-8) as in force. -/
structure MeasCfg where
  /-- MEAS_OW_INTERVAL | 8 bits s, 2 to 255 | 06 Table 6-8 | 10 -/
  owInterval : Nat := 10
  /-- MEAS_GUARD | 8 bits mV, 10 to 200 | 06 Table 6-8 | 50 -/
  guard : Nat := 50
  /-- MEAS_OW_THRESH | 8 bits 10 mV, 10 to 30 | 06 Table 6-8 | 15 -/
  owThresh : Nat := 15
  /-- MEAS_OW_SUMTOL | 8 bits mV, 5 to 100 | 06 Table 6-8 | 20 -/
  owSumtol : Nat := 20
  /-- MEAS_OW_PAIR_MARGIN | 16 bits mV, 0 to 1,000 | 06 Table 6-8 | 200 -/
  owPairMargin : Nat := 200
  /-- MEAS_TH_DISAGREE | 8 bits K, 3 to 30 | 06 Table 6-8 | 10 -/
  thDisagree : Nat := 10
  /-- MEAS_TH_PERSIST | 8 bits s, 1 to 120 | 06 Table 6-8 | 10 -/
  thPersist : Nat := 10
  /-- MEAS_OW_DEADLINE | 16 bits s, 60 to 600 | 06 Table 6-8 | 600 -/
  owDeadline : Nat := 600
  /-- MEAS_BAL_BAND | 8 bits 0.1 %, 1 to 50 | 06 Table 6-8 | 5 -/
  balBand : Nat := 5
  /-- MEAS_BAL_EN | 1 bit | 06 Table 6-8 | 1 -/
  balEn : Bool := true
  /-- MEAS_ADAPT_EN | 1 bit | 06 Table 6-8 | 1 -/
  adaptEn : Bool := true
  /-- MEAS_STR_TOL | 16 bits mV, 100 to 10,000 | 06 Table 6-8 | 2,000 -/
  strTol : Nat := 2000
  /-- MEAS_BAL_R | 16 bits 0.1 ohm, 100 to 2,000 | 06 Table 6-8 | 330 -/
  balR : Nat := 330
  deriving DecidableEq, Repr, Inhabited

/-- Why an open-wire test runs (R161). -/
inductive TestWhy where
  | rotation | survey | block
  deriving DecidableEq, Repr, Inhabited

/-- One open-wire test under way on a front end (R160, R161). -/
structure OwTest where
  /-- why it runs | name | 06 R161 | rotation -/
  why : TestWhy := .rotation
  /-- start frame T | 48 bits | 06 R160 | 0 -/
  start : Nat := 0
  /-- attempt, 1 to 3 | count | 06 R161 | 1 -/
  attempt : Nat := 1
  /-- string current at pulse 10 of T, T+1, T+2 | int32 mA | 06 R161 | 0 -/
  cur : Tab Int := []
  /-- frames of the three whose upload was valid and converted, bit i | 3 bits | 06 R161 | 0 -/
  got : BitVec 3 := 0
  /-- OW_ACTIVE of the three uploads, bit i | 3 bits | 06 R161 | 0 -/
  active : BitVec 3 := 0
  /-- cell readings of T | 64 x int32 uV | 06 R163 | none -/
  base : Tab Int := []
  /-- cell readings of T+1 | 64 x int32 uV | 06 R163 | none -/
  resp1 : Tab Int := []
  /-- cell readings of T+2 | 64 x int32 uV | 06 R163 | none -/
  resp2 : Tab Int := []
  /-- block readings of the three frames | 3 x 100 uV | 06 R163 | none -/
  blocks : Tab Int := []
  deriving DecidableEq, Repr, Inhabited

/-- What measurement holds for one front end. -/
structure FeMeas where
  /-- declared open wires W0 to W64 | 65 bits | 06 R164 | 0 -/
  wires : BitVec 65 := 0
  /-- unlocated wire fault declared | 1 bit | 06 R164 | false -/
  unlocated : Bool := false
  /-- BLK flag of the port | 1 bit | 06 R172 | false -/
  blk : Bool := false
  /-- consecutive failing block comparisons | count | 06 R172 | 0 -/
  blkFail : Nat := 0
  /-- consecutive passing block comparisons | count | 06 R172 | 0 -/
  blkPass : Nat := 0
  /-- residual of the last block comparison | int32 mV | 06 Table 6-10 | 0 -/
  blkResidual : Int := 0
  /-- block-triggered test due | 1 bit | 06 R172 | false -/
  blkTestDue : Bool := false
  /-- attempts already made of the block-triggered test | count | 06 R161 | 0 -/
  blkAttempts : Nat := 0
  /-- counted as invalid for SF-06 | 1 bit | 06 R172 | false -/
  sf06Invalid : Bool := false
  /-- the test under way | record | 06 R160 | none -/
  test : Option OwTest := none
  /-- retry due at frame, attempt, why | 48 bits | 06 R161 | none -/
  retryAt : Option (Nat × Nat × TestWhy) := none
  /-- void three times in succession | 1 bit | 06 R174 | false -/
  void3 : Bool := false
  /-- last block voltage | int32 mV | 04 R97 | 0 -/
  block : Int := 0
  deriving DecidableEq, Repr, Inhabited

/-- What measurement holds for one string (`MEAS_STRING`, Table 6-9). -/
structure StrMeas where
  /-- MEAS_TIER, the tier in use in the last frame | 0 to 2 | 06 R158 Table 6-9 | 0 -/
  tier : Nat := 0
  /-- MEAS_PERMIT, the permit formed in the last frame, which is the tier in use in this one | 0 to 2 | 06 R158 Table 6-9 | 0 -/
  used : Nat := 0
  /-- permit formed last | 0 to 2 | 06 R155 | 0 -/
  permit : Nat := 0
  /-- a cell condition of R155 held at the last permit | 1 bit | 06 R158 | false -/
  condCell : Bool := false
  /-- another condition of R155 held at the last permit | 1 bit | 06 R158 | false -/
  condOther : Bool := false
  /-- frames whose samples all stayed below 0.02 C | count | 06 Table 6-2 | 0 -/
  quiet1 : Nat := 0
  /-- frames whose samples all stayed below 0.002 C | count | 06 Table 6-2 | 0 -/
  quiet2 : Nat := 0
  /-- a sample of the frame up to pulse 988 reached 0.02 C, 0.002 C | 2 bits | 06 R155 | false -/
  loud1 : Bool := false
  /-- a sample of the frame up to pulse 988 reached 0.002 C | 1 bit | 06 R155 | false -/
  loud2 : Bool := false
  /-- the string check's unlocated wire fault | 1 bit | 06 R173 | false -/
  sumFault : Bool := false
  /-- consecutive failing string comparisons | count | 06 R173 | 0 -/
  sumFail : Nat := 0
  /-- first declared wire fault: port and wire | 2 x 8 bits | 06 Table 6-9 | none -/
  first : Option (Nat × Nat) := none
  /-- pending opening for a wire fault, deadline frame | 48 bits | 06 R165 | none -/
  wireDeadline : Option Nat := none
  /-- pending opening for thermistors, deadline frame | 48 bits | 06 R170 | none -/
  thDeadline : Option Nat := none
  /-- taken out of service for thermistors, and not yet again in order | 1 bit | 06 R170 | false -/
  thService : Bool := false
  /-- MEAS_TESTS | uint32 saturating | 06 Table 6-9 | 0 -/
  tests : Nat := 0
  /-- MEAS_VOIDS | uint32 saturating | 06 Table 6-9 | 0 -/
  voids : Nat := 0
  deriving DecidableEq, Repr, Inhabited

/-- State of area 0x06. -/
structure MeasSt where
  /-- MEAS_POLICY in force | record | 06 Table 6-8 | defaults -/
  cfg : MeasCfg := {}
  /-- front ends P0 to P127 | table | 06 R160 R172 | no fault -/
  fe : Tab FeMeas := []
  /-- strings S0 to S15 | table | 06 Table 6-9 | tier 0 -/
  str : Tab StrMeas := []
  /-- the tier permit path from Markhor is lost | 1 bit | 06 R174 | false -/
  permitLost : Bool := false
  deriving DecidableEq, Repr, Inhabited

end Sys2Proof.Machine
end

