-- ==== Sys2Proof/Machine/State/Mode.lean ====
section
/-! DEFINITION. State of area 0x03: the module mode, the string states and the surveys. -/

namespace Sys2Proof.Machine

/-- The record `MODE_POLICY` (Table 3-12) as in force. -/
structure ModeCfg where
  /-- MODE_CONNECT_RETRIES | 8 bits, 1 to 10 | 03 Table 3-12 | 3 -/
  connectRetries : Nat := 3
  /-- MODE_OPEN_WAIT | 8 bits, 100 ms, 5 to 50 | 03 Table 3-12 | 20 -/
  openWait : Nat := 20
  /-- MODE_SERVE_HOLDUP | 8 bits, percent, 80 to 100 | 03 Table 3-12 | 80 -/
  serveHoldup : Nat := 80
  deriving DecidableEq, Repr, Inhabited

/-- Why a commanded opening of a string is under way (row 8 of Table 3-9). -/
inductive OpenWhy where
  | command | roster | lone
  deriving DecidableEq, Repr, Inhabited

/-- The survey of one string (R66, R79): what its steps have found so far. -/
structure SurveySt where
  /-- frame in which the survey started | 48 bits | 03 R79 | 0 -/
  from_ : Nat := 0
  /-- command that started it, 0 for the start-up Survey | 32 bits | 03 R608 | 0 -/
  cmd : Word := 0
  /-- front ends with a valid upload within step 1, bit k | 8 bits | 03 Table 3-5 step 1 | 0 -/
  seen : BitVec 8 := 0
  /-- slot mismatch in WAKE or ALIGN, step 1 failed, bit k | 8 bits | 04 R111 | 0 -/
  slotBad : BitVec 8 := 0
  /-- step 2 failed by identity, bit k | 8 bits | 03 R607 | 0 -/
  badSerial : BitVec 8 := 0
  /-- step 2 failed by cell count or thermistor set, bit k | 8 bits | 03 R607 | 0 -/
  badCaps : BitVec 8 := 0
  /-- step 2 complete, bit k | 8 bits | 03 R607 | 0 -/
  step2Done : BitVec 8 := 0
  /-- step 3 passed, bit k | 8 bits | 03 Table 3-5 step 3 | 0 -/
  step3Done : BitVec 8 := 0
  /-- step 3 failed its CRC, bit k | 8 bits | 03 Table 3-5 step 3 | 0 -/
  step3Bad : BitVec 8 := 0
  /-- frames compared in step 6 | count | 03 Table 3-5 step 6 | 0 -/
  step6Frames : Nat := 0
  /-- step 6 comparison failed | 1 bit | 03 Table 3-5 step 6 | false -/
  step6Bad : Bool := false
  /-- open-wire tests finished, bit k | 8 bits | 03 R79 | 0 -/
  owDone : BitVec 8 := 0
  /-- wear-record copies of a readmission queued | 1 bit | 19 R558 | false -/
  rewrite : Bool := false
  /-- open-wire test void three times | 1 bit | 03 R79 | false -/
  owVoid : Bool := false
  deriving DecidableEq, Repr, Inhabited

/-- One installed string. -/
structure StrSt where
  /-- MODE_STRING_STATE | 8 bits | 03 Table 3-2 | UNSURVEYED -/
  state : SState := .unsurveyed
  /-- MODE_STRING_CAUSE | 8 bits | 03 Table 3-3 | 0 -/
  cause : Byte := 0
  /-- safety function of the last protection action, 0 if none | 8 bits | 03 Table 3-14 | 0 -/
  sf : Nat := 0
  /-- connect retry count | count | 03 R78 | 0 -/
  retry : Nat := 0
  /-- frame of the last change that restarts the roster dwell | 48 bits | 03 R81, 12 R371 | none -/
  dwellFrom : Option Nat := none
  /-- opening under way and its deadline frame | 48 bits | 03 R71 | none -/
  opening : Option (OpenWhy × Nat) := none
  /-- survey of the string under way | record | 03 R79 | none -/
  survey : Option SurveySt := none
  /-- frame and least row of Table 3-9 of the string's changes in that frame | 48 bits, 1 to 12 | 03 R77 | none -/
  lastRow : Option (Nat × Nat) := none
  /-- retry count before the latest hand-over | count | 03 R77, 10 R287 | 0 -/
  retryWas : Nat := 0
  /-- held closed by Markhor through a restart with cause 0x04 | 1 bit | 03 R63 Table 3-6 row 1 | false -/
  keptClosed : Bool := false
  deriving DecidableEq, Repr, Inhabited

/-- A command whose string surveys are under way (R608). -/
structure SurveyCmd where
  /-- command ID | 32 bits | 03 R608 | 0 -/
  cmd : Word := 0
  /-- `MODE_STRING_READMIT` by an Installer or above: identities are recorded anew | 1 bit | 03 R79 | false -/
  renew : Bool := false
  /-- code per string so far: 0xFFFF not named, 0 carried out, else its status | 16 x 16 bits | 03 R85 R608 | empty -/
  codes : List Nat := []
  deriving DecidableEq, Repr, Inhabited

/-- State of area 0x03. -/
structure ModeSt where
  /-- MODE_POLICY in force | record | 03 Table 3-12 | defaults -/
  cfg : ModeCfg := {}
  /-- MODE_MODE | 8 bits | 03 Table 3-1 R69 | Fill -/
  mode : Mode := .fill
  /-- MODE_TARGET | 8 bits | 03 Table 3-13 | none -/
  target : Option Mode := none
  /-- command that set MODE_TARGET, 0 if none | 32 bits | 03 R608 | 0 -/
  targetCmd : Word := 0
  /-- MODE_TARGET set by low hold-up charge | 1 bit | 03 R72 | false -/
  targetHoldup : Bool := false
  /-- MODE_SAFE_CAUSE | 8 bits | 03 Table 3-8 | 0 -/
  safeCause : Byte := 0
  /-- configuration-fault hold | 1 bit | 03 R65 | false -/
  configHold : Bool := false
  /-- join refused in Maintain | 1 bit | 03 R76 | false -/
  joinRefused : Bool := false
  /-- MODE_ENTRY_FRAME | 48 bits | 03 Table 3-13 | 0 -/
  entryFrame : Nat := 0
  /-- MODE_STRING_ENABLED | 16 bits | 03 R80 | 0 -/
  enabled : Mask := 0
  /-- strings S0 to S15 | table | 03 R60 | UNSURVEYED -/
  str : Tab StrSt := []
  /-- restart due at pulse 999 and its reset cause | 8 bits | 03 R86 R75 | none -/
  restart : Option Byte := none
  /-- frames for which the hold-up charge has stayed low in Serve | count | 03 R72 | 0 -/
  holdupLow : Nat := 0
  /-- frames for which both modules' charges have stayed low in Serve | count | 03 R72 | 0 -/
  holdupBoth : Nat := 0
  /-- frame up to which the charge is not judged after an input loss | 48 bits | 03 R72 | 0 -/
  holdupIgnore : Nat := 0
  /-- frame of the last hand-over asked for low charge | 48 bits | 03 R72 | none -/
  handoverAsked : Option Nat := none
  /-- wake-burst frames left in Rest | count | 03 R73 | 0 -/
  wakeBurst : Nat := 0
  /-- leaving Rest: front ends being woken | 1 bit | 03 R73 | false -/
  leavingRest : Bool := false
  /-- frame in which the front ends were woken to leave Rest | 48 bits | 03 R73 | none -/
  leaveFrom : Option Nat := none
  /-- commands whose string surveys run | list | 03 R608 | empty -/
  surveyCmds : List SurveyCmd := []
  /-- frame at which Survey began | 48 bits | 03 Table 3-5 | 0 -/
  surveyFrom : Nat := 0
  /-- Survey goes on for a pair join after its steps ended | 1 bit | 03 R67 | false -/
  surveyWait : Bool := false
  /-- the mode by R67 items 3 and 4 is due at the next frame boundary | 1 bit | 13 R400 | false -/
  aloneDue : Bool := false
  /-- work on the strings at pulse 0 waits for the commands of the frame | 1 bit | 03 R82 | false -/
  workDue : Bool := false
  /-- fill failed: Safe without a runtime | 1 bit | 03 R61 | false -/
  noRuntime : Bool := false
  /-- invalid MODE_POLICY seen at Load | 1 bit | 03 R87 | false -/
  cfgInvalid : Bool := false
  deriving DecidableEq, Repr, Inhabited

end Sys2Proof.Machine
end

