-- ==== Sys2Proof/Machine/State/Power.lean ====
section
/-! DEFINITION. State of area 0x0A: power ports PP0 to PP15, the power stages behind them, the control loops
L0 to L63 and the thermal outputs. -/

namespace Sys2Proof.Machine

/-- The record `PP_PORTS`, words of one port (Table 10-13), as in force. -/
structure PortCfg where
  /-- PP_ICUR_FS | uint32 mA | 10 Table 10-13 | 600,000 -/
  icurFs : Nat := 600000
  /-- PP_ICUR_OFS | int32 mA | 10 Table 10-13 | 0 -/
  icurOfs : Int := 0
  /-- PP_VSTR_FS | uint32 mV | 10 Table 10-13 | 1,600,000 -/
  vstrFs : Nat := 1600000
  /-- PP_VBUS_FS | uint32 mV | 10 Table 10-13 | 1,600,000 -/
  vbusFs : Nat := 1600000
  /-- PP_RATING | uint32 mA | 10 Table 10-13 | 250,000 -/
  rating : Nat := 250000
  /-- PP_CHOKE | uint32 nH | 10 Table 10-13 | 200,000 -/
  choke : Nat := 200000
  /-- PP_VCLAMP | uint32 mV | 10 Table 10-13 | 400,000 -/
  vclamp : Nat := 400000
  deriving DecidableEq, Repr, Inhabited

/-- The records of area 0x0A (Tables 10-13, 10-14) as in force. -/
structure PpCfg where
  /-- PP_PORTS as loaded or patched, port s at key s | 16 x 8 words | 10 Table 10-13, 17 R502 | defaults -/
  ports : Tab PortCfg := []
  /-- PP_CONN_TARGET | 16 bits 100 mA | 10 Table 10-14 | 200 -/
  connTarget : Nat := 200
  /-- PP_CONN_BAND | 16 bits 100 mA | 10 Table 10-14 | 50 -/
  connBand : Nat := 50
  /-- PP_CONN_DV_MAX | 16 bits 100 mV | 10 Table 10-14 | 300 -/
  connDvMax : Nat := 300
  /-- PP_CONN_TIME | 16 bits 10 ms | 10 Table 10-14 | 500 -/
  connTime : Nat := 500
  /-- PP_PLAUS_TOL | 16 bits mA | 10 Table 10-14 | 1,000 -/
  plausTol : Nat := 1000
  /-- PP_PLAUS_PCT | 8 bits % | 10 Table 10-14 | 25 -/
  plausPct : Nat := 25
  /-- PP_FF_STEPS | 4 bits, 1 to 4 | 10 Table 10-14 | 2 -/
  ffSteps : Nat := 2
  /-- PP_GATE_LAG | 4 bits, 1 to 4 | 10 Table 10-14 | 2 -/
  gateLag : Nat := 2
  /-- PP_CONV_PULSES | 16 bits | 10 Table 10-14 | 100 -/
  convPulses : Nat := 100
  /-- PP_K_CLOSE | 8 bits 10 ms | 10 Table 10-14 | 10 -/
  kClose : Nat := 10
  /-- a record of the area was replaced by its defaults | 1 bit | 10 R296 | false -/
  replaced : Bool := false
  deriving DecidableEq, Repr, Inhabited

/-- The fields of one command word (Table 10-3); the word on the line, with its CRC8, is formed from them (R269, R270). -/
structure CmdWord where
  /-- PSEQ | 8 bits | 10 Table 10-3 | 0 -/
  pseq : Nat := 0
  /-- ROLE | 2 bits | 10 Table 10-3 | 0b00 -/
  role : RoleCode := .none
  /-- SLOT | 1 bit | 10 Table 10-3 | slot A -/
  slot : Slot := .a
  /-- GATE | 1 bit | 10 Table 10-3 | 0 -/
  gate : Bool := false
  /-- TRIP | 1 bit | 10 Table 10-3 | 0 -/
  trip : Bool := false
  /-- KPOS | 1 bit | 10 Table 10-3 | 0 -/
  kpos : Bool := false
  /-- KNEG | 1 bit | 10 Table 10-3 | 0 -/
  kneg : Bool := false
  deriving DecidableEq, Repr, Inhabited

/-- The fields of one status word (Table 10-5), read from a word whose framing and CRC8 pass. -/
structure StatWord where
  /-- ESEQ | 8 bits | 10 Table 10-5 | 0 -/
  eseq : Nat := 0
  /-- FOLLOW | 2 bits | 10 Table 10-5 | 0b00 -/
  follow : Follow := .none
  /-- GATE_ST | 1 bit | 10 Table 10-5 | 0 -/
  gateSt : Bool := false
  /-- TRIP_ST | 1 bit | 10 Table 10-5 | 0 -/
  tripSt : Bool := false
  /-- DESAT | 1 bit | 10 Table 10-5 | 0 -/
  desat : Bool := false
  /-- KPOS_AUX | 1 bit | 10 Table 10-5 | 0 -/
  kposAux : Bool := false
  /-- KNEG_AUX | 1 bit | 10 Table 10-5 | 0 -/
  knegAux : Bool := false
  /-- STG_FAULT | 1 bit | 10 Table 10-5 | 0 -/
  stgFault : Bool := false
  /-- STG_DATA | 16 bits | 10 Table 10-5 | 0 -/
  data : Mask := 0
  deriving DecidableEq, Repr, Inhabited

/-- One modulator bitstream with its filters (R264 to R267). -/
structure ChanSt where
  /-- the last 60 modulator bits, newest first | 60 bits | 10 R264 | DESIGN CHOICE a stream at zero (log 1) -/
  bits : List Bool := (List.replicate 30 [true, false]).flatten
  /-- newest sinc3 sample | int32 | 10 R265 | 0 -/
  sample : Int := 0
  /-- the sinc3 sample before it | int32 | 10 R283 | 0 -/
  prev : Int := 0
  /-- length of the present run of equal bits | count | 10 R267 | 0 -/
  run : Nat := 0
  /-- pulses since the last stuck run | count | 10 R267 | 0 -/
  clean : Nat := 0
  /-- a stuck run was seen in the present pulse or stands | 1 bit | 10 R267 | false -/
  stuck : Bool := false
  /-- channel invalid | 1 bit | 10 R267 Table 10-15 | false -/
  invalid : Bool := false
  /-- sample of pulse 10 of the frame | int32 | 10 Table 10-15 | 0 -/
  at10 : Int := 0
  deriving DecidableEq, Repr, Inhabited

/-- The sums of one interval (R268). -/
structure Sums where
  /-- sum of i | int64 mA.us | 10 R268 | 0 -/
  sum : Int := 0
  /-- sum of i squared | uint64 saturating | 10 R268 | 0 -/
  sq : Nat := 0
  /-- positive part | uint64 | 10 R268 | 0 -/
  pos : Nat := 0
  /-- magnitude of the negative part | uint64 | 10 R268 | 0 -/
  neg : Nat := 0
  /-- lowest sample | int32 | 10 R268 | none -/
  lo : Option Int := none
  /-- highest sample | int32 | 10 R268 | none -/
  hi : Option Int := none
  /-- samples summed | count | 10 R268 | 0 -/
  n : Nat := 0
  deriving DecidableEq, Repr, Inhabited

/-- One connect loop context L0 to L15 (Table 10-6). -/
structure LoopSt where
  /-- LOOP_KIND is 0x1 | 1 bit | 10 Table 10-7 R280 | false (idle) -/
  on : Bool := false
  /-- LOOP_SP | int32 mA | 10 Table 10-6 | 0 -/
  sp : Int := 0
  /-- LOOP_BAND | int32 mA | 10 Table 10-6 | 0 -/
  band : Int := 0
  /-- LOOP_C1, shift 24 | int32 | 10 R281 | 0 -/
  c1 : Int := 0
  /-- LOOP_C2, shift 0 | int32 mA | 10 R281 | 0 -/
  c2 : Int := 0
  /-- LOOP_OUT | 8 bits | 10 Table 10-6 | 0 -/
  out : Bool := false
  /-- LOOP_FLAGS converged | 1 bit | 10 Table 10-6 | false -/
  converged : Bool := false
  /-- LOOP_FLAGS hand-over window open | 1 bit | 10 Table 10-6 | false -/
  window : Bool := false
  /-- LOOP_FLAGS implausible | 1 bit | 10 Table 10-6 | false -/
  implausible : Bool := false
  /-- LOOP_Y | int32 | 10 Table 10-6 | 0 -/
  y : Int := 0
  /-- LOOP_YP | int32 | 10 Table 10-6 | 0 -/
  yp : Int := 0
  /-- LOOP_RES | int32 mA | 10 Table 10-6 | 0 -/
  res : Int := 0
  /-- last expected change | int32 mA | 10 Table 10-16 | 0 -/
  expected : Int := 0
  /-- LOOP_RUN | 8 bits | 10 Table 10-6 | 0 -/
  run : Nat := 0
  /-- LOOP_CONV | uint16 saturating | 10 Table 10-6 | 0 -/
  conv : Nat := 0
  /-- LOOP_COUNT | uint32 | 10 Table 10-6 | 0 -/
  count : Nat := 0
  /-- LOOP_ON | uint32 saturating | 10 Table 10-6 | 0 -/
  onCount : Nat := 0
  /-- LOOP_ENTRY | 48 bits | 10 Table 10-6 | 0 -/
  entry : Nat := 0
  /-- pulses since the hand-over window opened | count, to 2,000 | 10 R284 | 0 -/
  windowAge : Nat := 0
  deriving DecidableEq, Repr, Inhabited

/-- One power port. -/
structure PpSt where
  /-- pulse of the present frame next to be sent | 0 to 999 | 10 R269 | 0 -/
  pulse : Nat := 0
  /-- pulse counter PSEQ | 8 bits | 10 R271 | 0 -/
  pseq : Nat := 0
  /-- last word sent | record | 10 Table 10-3 | GATE, KPOS, KNEG, TRIP 0, ROLE 0b00 -/
  word : CmdWord := {}
  /-- GATE of the last six words, newest first | 6 bits | 10 R283 | empty reads as 0 -/
  gates : List Bool := []
  /-- contactor request of the sequencer | 1 bit | 10 R272 | false -/
  kReq : Bool := false
  /-- closed-state output, GATE held at 1 | 1 bit | 10 R284 | false -/
  hold : Bool := false
  /-- PP_PHASE | 8 bits | 10 Table 10-15 | none -/
  phase : Phase := .none
  /-- frame in which the connect started | 48 bits | 10 Table 10-8 | 0 -/
  connFrom : Nat := 0
  /-- pulses in the present phase | count | 10 Table 10-8 | 0 -/
  phasePulses : Nat := 0
  /-- opening in progress | 1 bit | 10 R288 | false -/
  opening : Bool := false
  /-- consecutive samples of ICUR below 1 A in the opening | count | 10 R288 | 0 -/
  lowRun : Nat := 0
  /-- ICUR | record | 10 R264 | zeros -/
  icur : ChanSt := {}
  /-- VSTR | record | 10 R264 | zeros -/
  vstr : ChanSt := {}
  /-- VBUS | record | 10 R264 | zeros -/
  vbus : ChanSt := {}
  /-- newest coarse outputs, newest first | int32 mA | 10 R266 | empty -/
  coarse : List Int := []
  /-- two consecutive coarse outputs at or above the SF-04 threshold | 1 bit | 11 R317 | false -/
  coarseHit : Bool := false
  /-- interval sums being formed | record | 10 R268 | zero -/
  acc : Sums := {}
  /-- interval sums handed over at pulse 12 | record | 10 R268 | zero -/
  last : Sums := {}
  /-- Sigma i of past frames, newest first, up to 1,000, with the state being CLOSED or HELD | mA.us | 11 R322 | empty -/
  means : List (Nat × Int × Bool) := []
  /-- CRC-32C register over the words sent since the last frame digest, without SLOT, ROLE and CRC8 | 32 bits | 13 Table 13-6 | 0xFFFFFFFF -/
  wordCrc : Word := 0xFFFFFFFF
  /-- last status word | record | 10 Table 10-5 | zeros -/
  stat : StatWord := {}
  /-- consecutive bad status words | count | 10 R276 | 0 -/
  badRun : Nat := 0
  /-- consecutive valid status words while invalid | count | 10 R276 | 0 -/
  goodRun : Nat := 0
  /-- status stream invalid | 1 bit | 10 R276 | false -/
  statInvalid : Bool := false
  /-- a status word has been received since reset | 1 bit | 10 R276, 03 Table 3-5 step 4 | false -/
  statSeen : Bool := false
  /-- consecutive echo mismatches | count | 10 R277 | 0 -/
  echoBad : Nat := 0
  /-- consecutive matching checked pulses during a fault | count | 10 R277 | 0 -/
  echoGood : Nat := 0
  /-- echo fault | 1 bit | 10 R277 | false -/
  echoFault : Bool := false
  /-- an auxiliary contact read closed in the present frame | 1 bit | 11 R321 | false -/
  auxNow : Bool := false
  /-- an auxiliary contact read closed in the previous frame | 1 bit | 11 R321 | false -/
  auxPrev : Bool := false
  /-- PP_CHOKE_T | int16 | 10 Table 10-15 | 0 -/
  chokeT : Int := 0
  /-- PP_STG_CODE | uint16 | 10 Table 10-15 | 0 -/
  stgCode : Nat := 0
  /-- PP_STAT_ERR | uint32 saturating | 10 Table 10-15 | 0 -/
  nStatErr : Nat := 0
  /-- PP_ECHO_ERR | uint32 saturating | 10 Table 10-15 | 0 -/
  nEcho : Nat := 0
  /-- PP_STUCK | uint32 saturating | 10 Table 10-15 | 0 -/
  nStuck : Nat := 0
  /-- frame of the latest hand-over | 48 bits | 10 R287 | none -/
  takenAt : Option Nat := none
  /-- PP_CONNECTS | uint32 saturating | 10 Table 10-15 | 0 -/
  nConnects : Nat := 0
  /-- PP_ABORTS | uint32 saturating | 10 Table 10-15 | 0 -/
  nAborts : Nat := 0
  /-- PP_LAST_ABORT | 8 bits | 10 Table 10-15 | 0 -/
  lastAbort : Nat := 0
  /-- the connect loop of the string | record | 10 Table 10-6 | idle -/
  loop : LoopSt := {}
  deriving DecidableEq, Repr, Inhabited

/-- One input of a power stage (R274). -/
structure StageIn where
  /-- PSEQ of the last valid word | 8 bits | 10 R274 | 0 -/
  pseq : Nat := 0
  /-- consecutive invalid words | count | 10 R274 | 0 -/
  badRun : Nat := 0
  /-- resynchronising; PSEQ of the first intact word of the pair | 8 bits | 10 R274 | resynchronising -/
  resync : Option (Option Nat) := some none
  /-- pulses since the last valid word with ROLE 0b01 | count | 10 Table 10-4 | 16, so that none is recent -/
  sinceActive : Nat := 16
  /-- pulses without a followable word | count | 10 Table 10-4 | 0 -/
  sinceFollow : Nat := 0
  /-- latest valid word that may be acted on, of a ROLE that may be followed | record | 10 Table 10-4 | none -/
  word : Option CmdWord := none
  /-- TRIP of an intact word in the present and the previous pulse | 2 bits | 10 Table 10-4 | 0 -/
  trip0 : Bool := false
  /-- TRIP of an intact word in the previous pulse | 1 bit | 10 Table 10-4 | 0 -/
  trip1 : Bool := false
  deriving DecidableEq, Repr, Inhabited

/-- One power stage (the power-stage contract, Table 10-4). -/
structure StageSt where
  /-- input A | record | 10 R274 | resynchronising -/
  a : StageIn := {}
  /-- input B | record | 10 R274 | resynchronising -/
  b : StageIn := {}
  /-- pulses observed since the stage's power-on | count, to 4 | 10 Table 10-4 | 0 -/
  observed : Nat := 0
  /-- followed input | 2 bits | 10 Table 10-4 | none -/
  follow : Follow := .none
  /-- switch on | 1 bit | 10 Table 10-4 | false -/
  sw : Bool := false
  /-- positive contactor closed | 1 bit | 10 Table 10-4 | false -/
  kpos : Bool := false
  /-- negative contactor closed | 1 bit | 10 Table 10-4 | false -/
  kneg : Bool := false
  /-- consecutive pulses with the switch off and the current below 1 A | count | 10 Table 10-4 | 0 -/
  lowRun : Nat := 0
  /-- opening ordered by the loss of both inputs | 1 bit | 10 Table 10-4 | false -/
  lossOpen : Bool := false
  /-- PSEQ of the followed source's word applied in the pulse | 8 bits | 10 Table 10-5 | none while no source is followed -/
  eseq : Option Nat := none
  /-- a TRIP of an intact word acted in the pulse | 1 bit | 10 Table 10-5 | false -/
  tripSt : Bool := false
  /-- the rule for both actives held in the pulse | 1 bit | 10 Tables 10-4 and 10-5 | false -/
  both : Bool := false
  deriving DecidableEq, Repr, Inhabited

/-- One thermal loop L16 to L63 (Table 10-6). -/
structure ThermLoop where
  /-- LOOP_KIND is 0x2 | 1 bit | 10 Table 10-7 | false (idle) -/
  on : Bool := false
  /-- LOOP_DIR lowering | 1 bit | 10 Table 10-7 | 0 -/
  lowering : Bool := false
  /-- LOOP_FAIL | 2 bits | 10 Table 10-7 | 0b11 -/
  fail : Nat := 3
  /-- LOOP_IN | 8 bits | 10 Table 10-7 | 0 -/
  input : Nat := 0
  /-- LOOP_OUTSEL | 8 bits | 10 Table 10-7 | 0 -/
  outsel : Nat := 0
  /-- LOOP_DWELL | 8 bits s | 10 Table 10-7 | 30 -/
  dwell : Nat := 30
  /-- LOOP_SP | int32 | 10 Table 10-6 | 0 -/
  sp : Int := 0
  /-- LOOP_BAND | int32 | 10 Table 10-6 | 0 -/
  band : Int := 0
  /-- LOOP_OUT_HI | int32 | 10 Table 10-6 | 0 -/
  hi : Int := 0
  /-- LOOP_OUT_LO | int32 | 10 Table 10-6 | 0 -/
  lo : Int := 0
  /-- LOOP_OUT | 8 bits | 10 Table 10-6 | 0 -/
  out : Bool := false
  /-- LOOP_FLAGS input invalid | 1 bit | 10 Table 10-6 | false -/
  invalid : Bool := false
  /-- LOOP_FLAGS fail state applied | 1 bit | 10 Table 10-6 | false -/
  failed : Bool := false
  /-- LOOP_Y | int32 | 10 Table 10-6 | 0 -/
  y : Int := 0
  /-- LOOP_YP | int32 | 10 Table 10-6 | 0 -/
  yp : Int := 0
  /-- LOOP_COUNT | uint32 frames | 10 Table 10-6 | 0 -/
  count : Nat := 0
  /-- LOOP_ON | uint32 saturating | 10 Table 10-6 | 0 -/
  onCount : Nat := 0
  /-- LOOP_ENTRY | 48 bits | 10 Table 10-6 | 0 -/
  entry : Nat := 0
  deriving DecidableEq, Repr, Inhabited

/-- One thermal output TO0 to TO15 (`PP_TO_STATUS`). -/
structure ThermOut where
  /-- output on | 1 bit | 10 R294 | off -/
  on : Bool := false
  /-- short circuit, open load, over-temperature | 3 bits | 10 R294 | 0 -/
  faults : BitVec 3 := 0
  /-- switched off for a short circuit until the next retry | 1 bit | 10 R291 | false -/
  cut : Bool := false
  deriving DecidableEq, Repr, Inhabited

/-- State of area 0x0A. -/
structure PowerSt where
  /-- records of area 0x0A in force | records | 10 Table 10-11 | defaults -/
  cfg : PpCfg := {}
  /-- PP_PORTS words as Markhor took them at Load | 16 x 8 words | 11 Table 11-1, 17 R504 | defaults -/
  loadPorts : Tab PortCfg := []
  /-- power ports PP0 to PP15 | table | 10 | idle -/
  port : Tab PpSt := []
  /-- power stages | table | 10 Table 10-4 | open -/
  stage : Tab StageSt := []
  /-- contexts of L0 to L15 at pulse 999 of the last frame | table | 10 R294 | idle -/
  loops999 : Tab LoopSt := []
  /-- contexts of L16 to L63 at pulse 999 of the last frame, by loop number | table | 10 R294 | idle -/
  therm999 : Tab ThermLoop := []
  /-- thermal loops L16 to L63 | table | 10 R289 | idle -/
  therm : Tab ThermLoop := []
  /-- thermal outputs TO0 to TO15 | table | 10 R291 | off -/
  out : Tab ThermOut := []
  deriving DecidableEq, Repr, Inhabited

end Sys2Proof.Machine
end

