-- ==== Sys2Proof/Machine/State/Pair.lean ====
section
/-! DEFINITION. State of area 0x0E: the redundant pair. What the peer does reaches the module as commands. -/

namespace Sys2Proof.Machine

/-- The record `PAIR_POLICY` (Table 13-10) as in force. -/
structure PairCfg where
  /-- PAIR_HOME_HOLD | 16 bits s | 13 Table 13-10 | 60 -/
  homeHold : Nat := 60
  /-- PAIR_JOIN_MAX | 8 bits s | 13 Table 13-10 | 10 -/
  joinMax : Nat := 10
  /-- PAIR_HOME_EN | 1 bit | 13 Table 13-10 | 1 -/
  homeEn : Bool := true
  /-- PAIR_DETACH_WAIT | 16 bits s | 13 Table 13-10 | 600 -/
  detachWait : Nat := 600
  /-- PAIR_JOIN_LIMIT | 8 bits | 13 Table 13-10 | 3 -/
  joinLimit : Nat := 3
  /-- PAIR_POLICY replaced by its defaults | 1 bit | 13 R409 | false -/
  replaced : Bool := false
  deriving DecidableEq, Repr, Inhabited

/-- What an input item carries (R385, R463): an accepted container-bus frame, a partner command, or a change of one
of a module's CAN controllers (state, `LIMITS` object enabled). -/
inductive ItemBody where
  | can (msg frame16 : Nat) (body : Bytes)
  | command (code : Nat) (role : Role) (siteSeq : Nat) (body : Bytes)
  | ctl (slot : Slot) (c : Nat) (state : CanState) (limits : Bool)
  | step (slot : Slot) (step code info : Nat)
  deriving DecidableEq, Repr, Inhabited

/-- An input item shared by the pair (R385): its identifier, sequence and content digest tell it from others. -/
structure PairItem where
  /-- identifier: CAN identifier, command ID, or controller | 32 bits | 13 R385 | 0 -/
  id : Word := 0
  /-- sequence | 48 bits | 13 R385 | 0 -/
  seq : Nat := 0
  /-- content digest | 32 bits | 13 R385 | 0 -/
  digest : Word := 0
  /-- frame of arrival | 48 bits | 13 R385 | 0 -/
  frame : Nat := 0
  /-- content | record | 13 R385 | none -/
  body : ItemBody := .can 0 0 []
  deriving DecidableEq, Repr, Inhabited

/-- A Markhor summary for one string (R386). -/
structure SumStr where
  /-- stages standing | 12 bits | 13 R386 | 0 -/
  stages : Mask := 0
  /-- actions in force | 8 bits | 13 R386 | 0 -/
  actions : Byte := 0
  /-- latched functions | 12 bits | 13 R386 | 0 -/
  latched : Mask := 0
  /-- reset-ready | 1 bit | 13 R386 | false -/
  ready : Bool := false
  deriving DecidableEq, Repr, Inhabited

/-- A Markhor summary (R386). -/
structure Summary where
  /-- frame of the summary | 48 bits | 13 R386 | 0 -/
  frame : Nat := 0
  /-- strings S0 to S15 | table | 13 R386 | nothing stands -/
  str : Tab SumStr := []
  /-- interlock health, ILK0 to ILK3 | 4 bits | 13 R386 | 0xF -/
  ilk : BitVec 4 := 0xF
  deriving DecidableEq, Repr, Inhabited

/-- A message sent on the pair link (Table 13-4). A mirror carries its upload's payload; the summary is that of the
present frame; the body of a copied page is the region of Table 13-7 as it stands. `homeAsk` asks the active for a
return home (R404); `ask` in a heartbeat asks for a copy epoch (R395); `timeSet` carries the
announcement of the epoch (R392, R500, R528). -/
inductive PairMsg where
  | heartbeat (state : Option PairState) (active loss ask : Bool) (mode : Nat) (frame time : Nat)
  | mirror (port : Nat) (body : Bytes)
  | summary (sum : Summary)
  | assign (frame : Nat) (items : List PairItem) (ai : List Int)
  | list (items : List PairItem) (tj power : Int) (holdup : Nat) (ai : List Int)
  | digest (frame : Nat) (crcs : List Word)
  | step (boundary number : Nat)
  | handover (frame kind : Nat) (cmd : Word)
  | homeAsk
  | timeSet (epoch frame : Nat) (pseqs : List Nat) (imageSeq digest release : Word)
  | copyPage (page : Nat)
  | copyAck (pages : List Nat)
  | loopLive (frame : Nat) (loops : List LoopSt) (sums : List Sums)
  deriving DecidableEq, Repr, Inhabited

/-- State of area 0x0E. -/
structure PairSt where
  /-- PAIR_POLICY in force | record | 13 Table 13-10 | defaults -/
  cfg : PairCfg := {}
  /-- PAIR_STATE; none before Survey | 8 bits | 13 Table 13-1 R377 | none -/
  state : Option PairState := none
  /-- PAIR_PEER_STATE, none is 0xFF | 8 bits | 13 Table 13-11 | none -/
  peerState : Option PairState := none
  /-- active flag of the peer's last heartbeat | 1 bit | 13 R378 | false -/
  peerActive : Bool := false
  /-- input-loss flag of the peer's last heartbeat | 1 bit | 13 Table 13-4, 21 R585 | false -/
  peerLoss : Bool := false
  /-- mode of the peer's last heartbeat | 8 bits | 13 Table 13-4 | none -/
  peerMode : Option Mode := none
  /-- first pulse whose word carries the role of a takeover, and the role of the words before it | count, 2 bits | 13 R397 | none -/
  claimFrom : Option (Nat × RoleCode) := none
  /-- CHG_OUT asserted | 1 bit | 13 R379 | false -/
  chgOut : Bool := false
  /-- CHG_IN asserted | 1 bit | 13 R378 | false -/
  chgIn : Bool := false
  /-- lanes 0 and 1 up | 2 bits | 13 R381 | up; DESIGN CHOICE (log 1) -/
  lane0 : Bool := true
  /-- lane 1 up | 1 bit | 13 R381 | up; DESIGN CHOICE (log 1) -/
  lane1 : Bool := true
  /-- heartbeat valid, none lost since | 1 bit | 13 Table 13-11 | false -/
  hbValid : Bool := false
  /-- a peer has been heard since the start | 1 bit | 13 R409 | false -/
  heard : Bool := false
  /-- charge line faulted | 1 bit | 13 R398 | false -/
  lineFault : Bool := false
  /-- return home suspended | 1 bit | 13 R404 | false -/
  homeOff : Bool := false
  /-- cold start degraded | 1 bit | 13 R400 | false -/
  cold : Bool := false
  /-- two actives seen since Fill | 1 bit | 13 Table 13-11 | false -/
  twoActive : Bool := false
  /-- frames of failed join attempts in the last hour | 48 bits each | 13 Table 13-11 | empty -/
  fails : List Nat := []
  /-- PAIR_SYNC_FRAME | 48 bits | 13 Table 13-11 | 0 -/
  syncFrame : Nat := 0
  /-- frame of the last entry to the present pair state | 48 bits | 13 R404 | 0 -/
  since : Nat := 0
  /-- PAIR_PAGES_RX: pages received and passed | set of page numbers | 13 Table 13-11 | empty -/
  pagesRx : List Nat := []
  /-- PAIR_PAGES | 16 bits | 13 Table 13-11 | 0 -/
  pages : Nat := 0
  /-- PAIR_MATCH | 16 bits saturating | 13 Table 13-11 | 0 -/
  matched : Nat := 0
  /-- PAIR_EPOCH | 48 bits | 13 Table 13-11 | 0 -/
  epoch : Nat := 0
  /-- the copy epoch of the join attempt under way has been announced | 1 bit | 13 R392 R395 | false -/
  joining : Bool := false
  /-- all pages received | 1 bit | 13 R394 | false -/
  copyDone : Bool := false
  /-- caught up | 1 bit | 13 R394 | false -/
  caughtUp : Bool := false
  /-- LOOP_LIVE received: its frame, contexts of L0 to L15, interval sums | records | 13 R393 | none -/
  live : Option (Nat × List LoopSt × List Sums) := none
  /-- STANDBY is left at the next frame boundary for a mismatch | 1 bit | 13 R390 | false -/
  leaveNext : Bool := false
  /-- pages sent to a joiner and not acknowledged: page, frame sent | 13 R393 | empty -/
  sentPages : List (Nat × Nat) := []
  /-- next page to send to a joiner | 16 bits | 13 R393 | 0 -/
  nextPage : Nat := 0
  /-- pages acknowledged by the joiner | count | 13 R393 | 0 -/
  acked : Nat := 0
  /-- copy in progress to a joiner | 1 bit | 13 R392 | false -/
  copying : Bool := false
  /-- transition join, or the pair that results from it | 1 bit | 17 R500, 18 R528 | false -/
  transition : Bool := false
  /-- a difference of other sections has been journaled in this transition join | 1 bit | 17 R500 | false -/
  transTold : Bool := false
  /-- an unresolved meeting of two actives | 1 bit | 13 R401 | false -/
  twoNow : Bool := false
  /-- own items received and not yet covered by an assignment | list | 13 R385 | empty -/
  items : List PairItem := []
  /-- items listed by the standby and not yet assigned | list | 13 R385 | empty -/
  peerItems : List PairItem := []
  /-- items assigned, by frame | list | 13 R385 | empty -/
  assigned : Tab (List PairItem) := []
  /-- AI samples assigned, by frame | 8 x int32 | 13 R385 | empty -/
  assignedAi : Tab (List Int) := []
  /-- frame of the latest assignment received or sent | 48 bits | 13 R387 | none -/
  assignedTo : Option Nat := none
  /-- own summary of pulse 800 | record | 13 R386 | none -/
  own : Option Summary := none
  /-- peer's latest summary | record | 13 R386 | none -/
  peer : Option Summary := none
  /-- own section CRCs and their frame | 8 x 32 bits | 13 R390 | none -/
  digest : Option (Nat × List Word) := none
  /-- peer's section CRCs and their frame | 8 x 32 bits | 13 R390 | none -/
  peerDigest : Option (Nat × List Word) := none
  /-- PAIR_DIGEST | 32 bits | 13 Table 13-11 | 0 -/
  frameDigest : Word := 0
  /-- ports with a mirrored upload valid for the present frame | 128 bits | 13 R384 | 0 -/
  mirrored : BitVec 128 := 0
  /-- announced hand-over frame H, its kind and command ID | 48 bits | 13 R403 | none -/
  handover : Option (Nat × Nat × Word) := none
  /-- a hand-over is asked of this active | kind and command ID | 13 R403 R404 | none -/
  handoverReq : Option (Nat × Word) := none
  /-- peer's hold-up charge of LIST | percent | 13 Table 13-4, 03 R72 | 0 -/
  peerHoldup : Nat := 0
  /-- pair outputs queued in the present frame: content digests in order | 32 bits each | 13 R390 | empty -/
  outputs : List Word := []
  /-- messages sent on the pair link in the present frame, newest first | list | 13 Table 13-4 | empty -/
  sent : List PairMsg := []
  /-- restart of a module frozen in LONE | 1 bit | 13 R396 | false -/
  frozenLone : Bool := false
  /-- PAIR_DIVERGENCES | uint32 saturating | 13 Table 13-11 | 0 -/
  nDivergence : Nat := 0
  /-- PAIR_TAKEOVERS | uint32 saturating | 13 Table 13-11 | 0 -/
  nTakeover : Nat := 0
  /-- PAIR_HB_LOST | uint32 saturating | 13 Table 13-11 | 0 -/
  nLost : Nat := 0
  /-- heartbeats sent | count | 13 Table 13-4 | 0 -/
  nHeartbeat : Nat := 0
  deriving DecidableEq, Repr, Inhabited

end Sys2Proof.Machine
end

