-- ==== Sys2Proof/Machine/State/Site.lean ====
section
/-! DEFINITION. State of areas 0x0F (site link, sessions, command ledger, bulk window, history). -/

namespace Sys2Proof.Machine

/-- One `SITE_NET` port block (Table 14-16). -/
structure NetBlock where
  /-- SITE_IP4 | 32 bits | 14 Table 14-16 | 192.168.58.10 on port 0 -/
  ip4 : Word := 0xC0A83A0A
  /-- SITE_GW4 | 32 bits | 14 Table 14-16 | 0 -/
  gw4 : Word := 0
  /-- SITE_IP6 | 128 bits | 14 Table 14-16 | 0 -/
  ip6 : BitVec 128 := 0
  /-- SITE_PFX4 | 8 bits | 14 Table 14-16 | 24 -/
  pfx4 : Nat := 24
  /-- SITE_PFX6 | 8 bits | 14 Table 14-16 | 64 -/
  pfx6 : Nat := 64
  /-- SITE_VLAN | 16 bits | 14 Table 14-16 | 0 -/
  vlan : Nat := 0
  /-- SITE_DSCP | 6 bits | 14 Table 14-16 | 46 -/
  dscp : Nat := 46
  /-- SITE_PFLAGS: enabled, IPv4, IPv6 | 3 bits | 14 Table 14-16 | 7 on port 0, 6 on port 1 -/
  flags : Nat := 7
  deriving DecidableEq, Repr, Inhabited

/-- A command ledger entry with its detail (Table 14-7). -/
structure LedgerEntry where
  /-- SITE_CMD_ID | 32 bits | 14 Table 14-7 | 0 -/
  id : Word := 0
  /-- SITE_CMD_CODE | 16 bits | 14 Table 14-7 | 0 -/
  code : Nat := 0
  /-- SITE_L_STATE | 8 bits | 14 Table 14-8 | empty -/
  state : LedgerState := .empty
  /-- SITE_L_STATUS | 16 bits | 14 Table 14-7 | OK -/
  status : Status := .ok
  /-- SITE_L_STEP | 8 bits | 14 Table 14-7 | 0 -/
  step : Nat := 0
  /-- SITE_L_STEPS | 8 bits | 14 Table 14-7 | 1 -/
  steps : Nat := 1
  /-- SITE_L_ARRIVAL | 48 bits | 14 Table 14-7 | 0 -/
  arrival : Nat := 0
  /-- SITE_L_ROLE | 8 bits | 14 Table 14-7 | Operator -/
  role : Role := .operator
  /-- SITE_L_EFFECTIVE | 48 bits | 14 Table 14-7 | 0 -/
  effective : Nat := 0
  /-- SITE_L_DIGEST | 32 bits | 14 Table 14-7 | 0 -/
  digest : Word := 0
  /-- SITE_L_CHANGED | 48 bits | 14 Table 14-7 | 0 -/
  changed : Nat := 0
  /-- detail | up to 192 bytes | 14 Table 14-7 | empty -/
  detail : Bytes := []
  /-- digest of the audited object at the start of the effective frame | 32 bits | 20 R577 | 0 -/
  before : Word := 0
  /-- body of the command, held until it ends | bytes | 14 R420 | empty -/
  body : Bytes := []
  /-- site sequence number, for the order of R82 | 48 bits | 03 R82 | 0 -/
  seq : Nat := 0
  deriving DecidableEq, Repr, Inhabited

/-- A message the module has sent on the site link: its type, its kind and its payload. -/
structure SiteMsg where
  /-- SITE_TYPE | 8 bits | 14 Table 14-4 | 0 -/
  type : Nat := 0
  /-- pair output rather than module output | 1 bit | 14 R417 | false -/
  pairOut : Bool := false
  /-- SITE_SEQ | 48 bits | 14 R417 | 0 -/
  seq : Nat := 0
  /-- SITE_FRAME | 48 bits | 14 Table 14-1 | 0 -/
  frame : Nat := 0
  /-- port sent on | 0 or 1 | 14 R416 | 0 -/
  port : Nat := 0
  /-- SITE_HFLAGS | 8 bits | 14 Table 14-1 R418 | 0 -/
  hflags : Byte := 0
  /-- SITE_SLOT | 8 bits | 14 Table 14-1 | 0 -/
  slot : Byte := 0
  /-- SITE_SESSION | 32 bits | 14 Table 14-1 | 0 -/
  session : Word := 0
  /-- tag | 16 bytes | 14 R411 | empty -/
  tag : Bytes := []
  /-- payload | up to 1,400 bytes | 14 Table 14-4 | empty -/
  payload : Bytes := []
  deriving DecidableEq, Repr, Inhabited

/-- One window page: header fields and payload (Table 14-9). -/
structure Page where
  /-- WIN_STREAM | 8 bits | 14 Table 14-9 | 0 -/
  stream : Nat := 0
  /-- WIN_HFLAGS owner | 2 bits | 14 Table 14-9 | free -/
  owner : Owner := .free
  /-- WIN_HFLAGS written since Fill | 1 bit | 14 Table 14-9 | false -/
  written : Bool := false
  /-- WIN_HFLAGS first page of a record | 1 bit | 14 Table 14-9 | false -/
  first : Bool := false
  /-- WIN_HFLAGS last page of a record | 1 bit | 14 Table 14-9 | false -/
  last : Bool := false
  /-- WIN_GEN | 16 bits | 14 Table 14-9 | 0 -/
  gen : Nat := 0
  /-- WIN_SEQ | 48 bits | 14 Table 14-9 | 0 -/
  seq : Nat := 0
  /-- WIN_LEN | 16 bits | 14 Table 14-9 | 0 -/
  len : Nat := 0
  /-- WIN_FRAME | 48 bits | 14 Table 14-9 | 0 -/
  frame : Nat := 0
  /-- WIN_SUB | 8 bits | 14 Table 14-9 | 0 -/
  sub : Nat := 0
  /-- WIN_CRC | 32 bits | 14 Table 14-9 | 0 -/
  crc : Word := 0
  /-- WIN_REC | 48 bits | 14 Table 14-9 | 0 -/
  rec_ : Nat := 0
  /-- payload; bytes beyond the list read 0 | 4,096 bytes | 14 R429 | zero -/
  payload : Bytes := []
  /-- the record the page belongs to is complete | 1 bit | 14 Table 14-10 | false -/
  complete : Bool := false
  /-- frame of its RETURN, for R435 | 48 bits | 14 R435 | 0 -/
  returned : Nat := 0
  /-- owner before poisoning | 2 bits | 14 Table 14-12 | free -/
  prevOwner : Owner := .free
  deriving DecidableEq, Repr, Inhabited

/-- A change of page ownership waiting for the hand-over slot (pulses 820 to 950). -/
inductive WinReq where
  | release (entries : List (Nat × Nat))
  | claim (count : Nat)
  | return_ (entries : List (Nat × Nat × Nat × Word))
  | freed (pages : List Nat) (status : Status)
  deriving DecidableEq, Repr, Inhabited

/-- What the window holds for one stream (`WIN_STREAM`). -/
structure StreamSt where
  /-- next WIN_SEQ | 48 bits | 14 Table 14-9 | 0 -/
  nextSeq : Nat := 0
  /-- records or minutes lost | uint32 saturating | 14 WIN_STREAM | 0 -/
  lost : Nat := 0
  /-- pages poisoned | uint32 saturating | 14 WIN_STREAM | 0 -/
  poisoned : Nat := 0
  /-- losses in the present second, by kind 1 to 5 | counts | 14 R443 | 0 -/
  lossSec : Tab Nat := []
  deriving DecidableEq, Repr, Inhabited

/-- A trip capture (R438). Its samples stand in the DRAM capture buffer. -/
structure Capture where
  /-- string | 4 bits | 14 R438 | 0 -/
  s : Nat := 0
  /-- first-out function | 8 bits | 14 R438 | 0 -/
  fn : Nat := 0
  /-- decision frame | 48 bits | 14 R438 | 0 -/
  frame : Nat := 0
  /-- decision pulse | 16 bits | 14 R438 | 0 -/
  pulse : Nat := 0
  /-- still recording | 1 bit | 14 R438 | true -/
  recording : Bool := true
  /-- capture bytes when complete | 480,064 bytes | 14 R438 | empty -/
  data : Bytes := []
  deriving DecidableEq, Repr, Inhabited

/-- Aggregates of the present minute for one cell (Table 14-13). -/
structure HistCell where
  /-- sum of converted EST_V | uV | 14 Table 14-13 | 0 -/
  vSum : Int := 0
  /-- converted frames | count | 14 Table 14-13 | 0 -/
  n : Nat := 0
  /-- highest core temperature | int16 | 14 Table 14-13 | none -/
  tcMax : Option Int := none
  /-- MEAS_BAL_Q at the start of the minute | uint32 | 14 Table 14-13 | 0 -/
  balQ0 : Nat := 0
  /-- OR of MEAS_FLAGS | 8 bits | 14 Table 14-13 | 0 -/
  flags : Byte := 0
  deriving DecidableEq, Repr, Inhabited

/-- Aggregates of the present second for one string (Table 14-13). -/
structure HistStr where
  /-- sum of i | mA.us | 14 Table 14-13 | 0 -/
  iSum : Int := 0
  /-- lowest current | mA | 14 Table 14-13 | none -/
  lo : Option Int := none
  /-- highest current | mA | 14 Table 14-13 | none -/
  hi : Option Int := none
  /-- sum of VSTR of pulse 10 | mV | 14 Table 14-13 | 0 -/
  vSum : Int := 0
  /-- frames | count | 14 Table 14-13 | 0 -/
  n : Nat := 0
  /-- charge throughput at the start of the second | mA.s | 14 Table 14-13 | 0 -/
  c0 : Nat := 0
  /-- discharge throughput at the start of the second | mA.s | 14 Table 14-13 | 0 -/
  d0 : Nat := 0
  /-- closed seconds of the present minute, oldest first | 64 bytes each | 14 Table 14-13 | empty -/
  seconds : List Bytes := []
  deriving DecidableEq, Repr, Inhabited

/-- State of area 0x0F. -/
structure SiteSt where
  /-- SITE_NET port 0 | record | 14 Table 14-16 | defaults -/
  net0 : NetBlock := {}
  /-- SITE_NET port 1 | record | 14 Table 14-16 | defaults, disabled, address 0 -/
  net1 : NetBlock := { ip4 := 0, flags := 6 }
  /-- SITE_PUSH object indices | up to 32 | 14 Table 14-15 | empty -/
  push : List Nat := []
  /-- SITE_NET replaced by its defaults | 1 bit | 14 R444 | false -/
  netReplaced : Bool := false
  /-- SITE_SSTATE | 8 bits | 14 Table 14-2 | NONE -/
  sstate : SessState := .none
  /-- SITE_SESSION_ID | 32 bits | 14 Table 14-17 | 0 -/
  session : Word := 0
  /-- certificate role of the session | 2 bits | 20 | Operator -/
  certRole : Role := .operator
  /-- session opened under a certificate chained to the Maker root | 1 bit | 03 R65 | false -/
  makerChain : Bool := false
  /-- PRK of the session, which its tag keys are expanded from; erased with it | 32 bytes | 20 R572 | empty -/
  prk : Bytes := []
  /-- SITE_OPENED | 48 bits | 14 Table 14-17 | 0 -/
  opened : Nat := 0
  /-- frame of the SESSION_OPEN | 48 bits | 14 Table 14-2 | 0 -/
  openingAt : Nat := 0
  /-- frame of the last valid message | 48 bits | 14 R415 | 0 -/
  lastValid : Nat := 0
  /-- highest accepted SITE_SEQ | 48 bits | 14 R413 | none -/
  seqTop : Option Nat := none
  /-- accepted sequences up to 63 below it | set | 14 R413 | empty -/
  seqSeen : List Nat := []
  /-- partner address recorded on port 0 | address and UDP port | 14 R416 | none -/
  addr0 : Option Nat := none
  /-- partner address recorded on port 1 | address and UDP port | 14 R416 | none -/
  addr1 : Option Nat := none
  /-- SITE_PORT | 8 bits | 14 Table 14-17 | none -/
  port : Option Nat := none
  /-- site port 0 link up | 1 bit | 14 Table 14-17 | false -/
  link0 : Bool := false
  /-- site port 1 link up | 1 bit | 14 Table 14-17 | false -/
  link1 : Bool := false
  /-- SITE_RX | uint32 saturating | 14 Table 14-17 | 0 -/
  nRx : Nat := 0
  /-- SITE_FMT_ERR | uint32 saturating | 14 Table 14-17 | 0 -/
  nFmt : Nat := 0
  /-- SITE_TAG_ERR | uint32 saturating | 14 Table 14-17 | 0 -/
  nTag : Nat := 0
  /-- SITE_REPLAY | uint32 saturating | 14 Table 14-17 | 0 -/
  nReplay : Nat := 0
  /-- SITE_BUSY | uint32 saturating | 14 Table 14-17 | 0 -/
  nBusy : Nat := 0
  /-- SITE_LAPSES | uint32 saturating | 14 Table 14-17 | 0 -/
  nLapse : Nat := 0
  /-- command ledger, 1,024 slots, NV | 256 bytes each | 14 Table 14-7 | empty -/
  ledger : Tab LedgerEntry := []
  /-- SITE_LEDGER_NEWEST | 32 bits | 14 Table 14-17 | 0 -/
  newest : Word := 0
  /-- messages sent in the present frame, newest first | list | 14 R417 | empty -/
  sent : List SiteMsg := []
  /-- module outputs waiting for the next frame, oldest first | list | 14 R417 | empty -/
  waiting : List SiteMsg := []
  /-- module outputs sent in the present frame | count, at most 64 | 14 R417 | 0 -/
  nModOut : Nat := 0
  /-- window pages | 16,384 pages | 14 Table 14-9 | free -/
  pages : Tab Page := []
  /-- streams 0 to 4 and 8 | table | 14 Table 14-11 | 0 -/
  streams : Tab StreamSt := []
  /-- ownership changes waiting for the hand-over slot, oldest first | list | 14 R428 | empty -/
  winReqs : List WinReq := []
  /-- captures recording or waiting | up to 16 buffers | 14 R438 | empty -/
  captures : List Capture := []
  /-- lower streams stalled | 1 bit | 14 R438 | false -/
  stalled : Bool := false
  /-- snapshot being written: second and pages not yet written | 14 R439 | none -/
  snapshot : Option (Nat × List Nat) := none
  /-- history of the present minute, cells | table | 14 R440 | 0 -/
  histCell : Tab HistCell := []
  /-- history of the present second, strings | table | 14 R440 | 0 -/
  histStr : Tab HistStr := []
  /-- closed minutes not yet sent on stream 4, oldest first: frame, cell record, string record | DRAM ring of 7 days | 14 R440 | empty -/
  history : List (Nat × List Bytes × List Bytes) := []
  /-- journal records already extracted to stream 2, per journal | 3 x count | 14 Table 14-11 | 0 -/
  extracted : Tab Nat := []
  /-- next sequence to push, per journal | 3 x 48 bits | 14 R427 | 0 -/
  pushed : Tab Nat := []
  /-- next sequence of each journal at the start of the frame | 3 x 48 bits | 14 R427 | 0 -/
  pushMark : Tab Nat := []
  /-- frame of the last WIN_LOSS | 48 bits | 14 R444 | none -/
  lastLoss : Option Nat := none
  deriving DecidableEq, Repr, Inhabited

end Sys2Proof.Machine
end

