-- ==== Sys2Proof/Machine/State/Store.lean ====
section
/-! DEFINITION. State of areas 0x12 (configuration), 0x13 (update), 0x14 (memory and journals), 0x15 (access) and
0x16 (power and hold-up). -/

namespace Sys2Proof.Machine

/-- One entry of the patch area (Table 17-10). -/
structure PatchEntry where
  /-- CFG_P_SEQ | uint32 NV | 17 Table 17-10 | 0 -/
  seq : Nat := 0
  /-- record type | 16 bits NV | 17 Table 17-10 | 0 -/
  type : Nat := 0
  /-- word index | 16 bits NV | 17 Table 17-10 | 0 -/
  word : Nat := 0
  /-- mask | 32 bits NV | 17 Table 17-10 | 0 -/
  mask : Word := 0
  /-- value | 32 bits NV | 17 Table 17-10 | 0 -/
  value : Word := 0
  /-- frame of application | 48 bits NV | 17 Table 17-10 | 0 -/
  frame : Nat := 0
  /-- role of the command | 8 bits NV | 17 Table 17-10 | Operator -/
  role : Role := .operator
  /-- command ID | 32 bits NV | 17 Table 17-10 | 0 -/
  cmd : Word := 0
  deriving DecidableEq, Repr, Inhabited

/-- One half of the patch area (R505). -/
structure PatchHalf where
  /-- the half header is valid | 1 bit NV | 17 R505 | false (erased) -/
  valid : Bool := false
  /-- generation | uint32 NV | 17 R505 | 0 -/
  gen : Nat := 0
  /-- CFG_SEQ of the image the patches belong to | uint32 NV | 17 R505 | 0 -/
  imageSeq : Nat := 0
  /-- entries in order of writing | up to 16,383 entries NV | 17 R505 | empty -/
  entries : List PatchEntry := []
  deriving DecidableEq, Repr, Inhabited

/-- One patched word (`CFG_PATCH_SET`). -/
structure PatchWord where
  /-- record type | 16 bits | 17 | 0 -/
  type : Nat := 0
  /-- word index | 16 bits | 17 | 0 -/
  word : Nat := 0
  /-- effective value | 32 bits | 17 | 0 -/
  eff : Word := 0
  /-- image value | 32 bits | 17 | 0 -/
  img : Word := 0
  deriving DecidableEq, Repr, Inhabited

/-- One entry of a `CFG_PATCH` body (Table 17-9). -/
structure PatchItem where
  /-- record type | 16 bits | 17 Table 17-9 | 0 -/
  type : Nat := 0
  /-- word index | 16 bits | 17 Table 17-9 | 0 -/
  word : Nat := 0
  /-- mask | 32 bits | 17 Table 17-9 | 0 -/
  mask : Word := 0
  /-- value | 32 bits | 17 Table 17-9 | 0 -/
  value : Word := 0
  deriving DecidableEq, Repr, Inhabited

/-- An accepted patch on its way (R503). -/
structure PatchJob where
  /-- command ID | 32 bits | 17 R503 | 0 -/
  cmd : Word := 0
  /-- frame after the effective frame | 48 bits | 17 R503 | 0 -/
  at_ : Nat := 0
  /-- entries in body order | list | 17 R502 | empty -/
  items : List PatchItem := []
  /-- role of the command | 8 bits | 17 Table 17-10 | Installer -/
  role : Role := .installer
  /-- step 1 has been done | 1 bit | 17 R503 | false -/
  applied : Bool := false
  /-- this module has done or failed step 2, and lists it | 1 bit | 17 R503 R499 | false -/
  own : Bool := false
  /-- steps of slot A's module, as assigned | count | 17 R503 R499 | 0 -/
  doneA : Nat := 0
  /-- steps of slot B's module, as assigned | count | 17 R503 R499 | 0 -/
  doneB : Nat := 0
  deriving DecidableEq, Repr, Inhabited

/-- A staging under way (R498). -/
structure StageJob where
  /-- command ID | 32 bits | 17 R498 | 0 -/
  cmd : Word := 0
  /-- target slot | 1 bit | 17 R497 | 0 -/
  target : Nat := 0
  /-- image length | bytes | 17 Table 17-6 | 0 -/
  length : Nat := 0
  /-- inbound pages in image order | list | 17 Table 17-6 | empty -/
  pages : List Nat := []
  /-- CFG_STAGE_STEP, this module's steps done | 0 to 4 | 17 Table 17-13 | 0 -/
  own : Nat := 0
  /-- this module has failed a step, and lists it | 1 bit | 17 R499 | false -/
  failed : Bool := false
  /-- steps of slot A's module, as assigned | 0 to 4 | 17 R499 | 0 -/
  doneA : Nat := 0
  /-- steps of slot B's module, as assigned | 0 to 4 | 17 R499 | 0 -/
  doneB : Nat := 0
  /-- digest of the target slot before staging | 32 bits | 20 R577 | 0 -/
  oldDigest : Word := 0
  deriving DecidableEq, Repr, Inhabited

/-- State of area 0x12. -/
structure CfgSt where
  /-- image slot 0 of the carrier NOR, its image's bytes | 2 MiB NV | 17 Table 17-1 | erased (empty); DESIGN CHOICE (log 1) -/
  slot0 : Bytes := []
  /-- image slot 1 of the carrier NOR | 2 MiB NV | 17 Table 17-1 | erased (empty); DESIGN CHOICE (log 1) -/
  slot1 : Bytes := []
  /-- patch area half 0 | 512 KiB NV | 17 R505 | erased -/
  half0 : PatchHalf := {}
  /-- patch area half 1 | 512 KiB NV | 17 R505 | erased -/
  half1 : PatchHalf := {}
  /-- CFG_SLOT | 8 bits | 17 Table 17-13 | none, read as 0xFF -/
  slot : Option Nat := none
  /-- CFG_FORMAT_LOADED | 8 bits | 17 Table 17-13 | 0 -/
  format : Nat := 0
  /-- CFG_RES0 | 8 bits | 17 Table 17-13 | 1 empty -/
  res0 : Nat := 1
  /-- CFG_RES1 | 8 bits | 17 Table 17-13 | 1 empty -/
  res1 : Nat := 1
  /-- CFG_SEQ_LOADED | uint32 | 17 Table 17-13 | 0 -/
  seqLoaded : Nat := 0
  /-- CFG_SEQ_OTHER | uint32 | 17 Table 17-13 | 0 -/
  seqOther : Nat := 0
  /-- CFG_DIGEST_LOADED | 32 bits | 17 R489 | 0 -/
  digestLoaded : Word := 0
  /-- CFG_DIGEST_OTHER | 32 bits | 17 R489 | 0 -/
  digestOther : Word := 0
  /-- CFG_CREATED_LOADED | 64 bits | 17 Table 17-13 | 0 -/
  created : Nat := 0
  /-- CFG_SFLAGS bit 0 fallback | 1 bit | 17 R494 | false -/
  fallback : Bool := false
  /-- CFG_SFLAGS bit 1 migrated | 1 bit | 17 R495 | false -/
  migrated : Bool := false
  /-- CFG_SFLAGS bit 2 patch persistence failed | 1 bit | 17 R503 | false -/
  persistFail : Bool := false
  /-- CFG_SFLAGS bit 4 staged image awaiting a start | 1 bit | 17 Table 17-13 | false -/
  staged : Bool := false
  /-- staging running, CFG_SFLAGS bit 3 | record | 17 R498 | none -/
  stage : Option StageJob := none
  /-- patched words in force, ascending type and word | up to 81 | 17 CFG_PATCH_SET | empty -/
  patches : List PatchWord := []
  /-- patches accepted and not finished, in the order of R82 | list | 17 R503 | empty -/
  jobs : List PatchJob := []
  deriving DecidableEq, Repr, Inhabited

/-- A manifest header with what it stands on (Table 18-4). -/
structure Manifest where
  /-- UPD_M_RUNTIME | 32 bits | 18 Table 18-4 | 0 -/
  runtime : Word := 0
  /-- UPD_M_SECV | uint32 | 18 Table 18-4 | 0 -/
  secv : Nat := 0
  /-- UPD_M_LEN | 1 to 33,488,896 | 18 Table 18-4 | 0 -/
  len : Nat := 0
  /-- UPD_M_BLOCKS | 16 bits | 18 Table 18-4 | 0 -/
  blocks : Nat := 0
  /-- UPD_M_FMT | 8 bits | 18 Table 18-4 | 0 -/
  fmt : Nat := 0
  /-- UPD_M_FMT_FROM | 8 bits | 18 Table 18-4 | 0 -/
  fmtFrom : Nat := 0
  /-- UPD_M_BOOT_ROM | 32 bits | 18 Table 18-4 | 0 -/
  bootRom : Word := 0
  /-- UPD_M_PREONG | 1 to 3 | 18 Table 18-4 | 1 -/
  preong : Nat := 1
  /-- UPD_M_BUILT | uint64 ns TAI | 18 Table 18-4 | 0 -/
  built : Nat := 0
  /-- SHA-384 hash of each image block, in block order | 48 bytes each | 18 R513 | empty -/
  hashes : List Bytes := []
  deriving DecidableEq, Repr, Inhabited

/-- A 32 MiB area of the module NOR: a boot bank or Velvet (R511). -/
structure BankSt where
  /-- manifest of block 0 | record NV | 18 R511 | none -/
  manifest : Option Manifest := none
  /-- blocks 1 to 511 as programmed | 64 KiB each NV | 18 R511 | empty -/
  blocks : Tab Bytes := []
  deriving DecidableEq, Repr, Inhabited

/-- An `UPD_STAGE`, `UPD_ACTIVATE` or `UPD_CONFIRM` under way (R515). -/
structure UpdJob where
  /-- command ID | 32 bits | 18 R515 | 0 -/
  cmd : Word := 0
  /-- slot mask | 2 bits | 18 R515 | 0 -/
  mask : BitVec 2 := 0
  /-- 1 manifest, 2 blocks, 3 abandon, 4 activate, 5 confirm | name | 18 R516 R518 R527 | 1 -/
  op : Nat := 1
  /-- first block | 16 bits | 18 Table 18-6 | 0 -/
  first : Nat := 0
  /-- count | 16 bits | 18 Table 18-6 | 0 -/
  count : Nat := 0
  /-- inbound pages | list | 18 Table 18-6 | empty -/
  pages : List Nat := []
  /-- steps this module has done, and lists | count | 18 R515 | 0 -/
  own : Nat := 0
  /-- this module has failed a step, and lists it | 1 bit | 18 R515 | false -/
  failed : Bool := false
  /-- steps done by the module of slot A, as assigned | count | 18 R515 | 0 -/
  doneA : Nat := 0
  /-- steps done by the module of slot B, as assigned | count | 18 R515 | 0 -/
  doneB : Nat := 0
  deriving DecidableEq, Repr, Inhabited

/-- A `CFE_FW_UPDATE` under way (R530). -/
structure CfeFwJob where
  /-- command ID | 32 bits | 18 R530 | 0 -/
  cmd : Word := 0
  /-- UPD_CFE_PORT | 8 bits | 18 Table 18-13 | 0 -/
  port : Nat := 0
  /-- bank | 1 bit | 18 Table 18-10 | 0 -/
  bank : Nat := 0
  /-- image bytes | count | 18 Table 18-10 | 0 -/
  length : Nat := 0
  /-- expected FW_RUN | 32 bits | 18 Table 18-10 | 0 -/
  version : Word := 0
  /-- inbound pages | list | 18 Table 18-10 | empty -/
  pages : List Nat := []
  /-- step under way, 1 to 3 | count | 18 R530 | 1 -/
  step : Nat := 1
  /-- UPD_CFE_SENT, blocks acknowledged | uint16 | 18 Table 18-13 | 0 -/
  sent : Nat := 0
  /-- frame in which step 3 began | 48 bits | 18 R530 | 0 -/
  from_ : Nat := 0
  /-- steps this module has completed and lists | 0 to 3 | 18 R530 R515 | 0 -/
  done : Nat := 0
  /-- failure this module lists: code of Table 18-5 and RSTAT | 2 x 16 bits | 18 R530 | none -/
  failed : Option (Nat × Nat) := none
  deriving DecidableEq, Repr, Inhabited

/-- The content of one copy of the update record (Table 18-2). -/
structure UpdRec where
  /-- UPD_GEN | uint32 NV | 18 Table 18-2 | 1 -/
  gen : Nat := 1
  /-- UPD_VSTATE | 8 bits NV | 18 Table 18-2 | IDLE -/
  vstate : VState := .idle
  /-- UPD_CONFIRMED | 8 bits NV | 18 Table 18-2 | 0 -/
  confirmed : Nat := 0
  /-- UPD_BFLAGS bit 0 | 1 bit NV | 18 Table 18-2 | false -/
  fallback : Bool := false
  /-- UPD_BFLAGS bit 1 | 1 bit NV | 18 Table 18-2 | false -/
  revertNew : Bool := false
  /-- UPD_BFLAGS bit 2 | 1 bit NV | 18 Table 18-2 | false -/
  copyNew : Bool := false
  /-- UPD_TRIALS | 0 to 3 NV | 18 Table 18-2 | 0 -/
  trials : Nat := 0
  /-- UPD_COPY_INDEX | 16 bits NV | 18 Table 18-2 | 0 -/
  copyIndex : Nat := 0
  /-- UPD_SET | 0 or 1 NV | 18 Table 18-2 | 0 -/
  set : Nat := 0
  /-- UPD_MIG | 0 to 2 NV | 18 Table 18-2 | none -/
  mig : Mig := .none
  /-- UPD_FMT of set 0 | 8 bits NV | 18 Table 18-2 | 0 -/
  fmt0 : Nat := 0
  /-- UPD_FMT of set 1 | 8 bits NV | 18 Table 18-2 | 0 -/
  fmt1 : Nat := 0
  /-- UPD_CAUSE | 8 bits NV | 18 Table 18-2 | 0 -/
  cause : Nat := 0
  /-- UPD_LOAD_FAILS | 8 bits NV | 18 Table 18-2 | 0 -/
  loadFails : Nat := 0
  /-- UPD_VER of bank A, bank B and Velvet | 3 x 32 bits NV | 18 Table 18-2 | as UPD_VER -/
  ver : Word × Word × Word := (0x03000000, 0, 0)
  /-- UPD_SECV | uint32 NV | 18 Table 18-2 | 0 -/
  secv : Nat := 0
  /-- UPD_MAN_HASH | 48 bytes NV | 18 Table 18-2 | zero -/
  manHash : Bytes := List.replicate 48 0
  /-- UPD_BITMAP | 512 bits NV | 18 Table 18-2 | 0 -/
  bitmap : BitVec 512 := 0
  deriving DecidableEq, Repr, Inhabited

/-- State of area 0x13: the update record, the module NOR and the commands under way. -/
structure UpdSt where
  /-- UPD_CONFIRM_TIME | 16 bits min, 1 to 1,440 | 18 Table 18-12 | 10 -/
  confirmTime : Nat := 10
  /-- UPD_AUTO_CONFIRM | 1 bit | 18 Table 18-12 | 0 -/
  autoConfirm : Bool := false
  /-- UPD_POLICY replaced by its defaults | 1 bit | 18 R534 | false -/
  replaced : Bool := false
  /-- the copy of the update record that holds the newest generation | 256 bytes NV | 18 R512 | the factory's -/
  newest : Option UpdRec := some {}
  /-- the other copy | 256 bytes NV | 18 R512 | none; DESIGN CHOICE (log 1) -/
  older : Option UpdRec := none
  /-- a valid copy of the update record exists | 1 bit NV | 18 R512 R533 | true (modules leave the factory with one) -/
  valid : Bool := true
  /-- UPD_GEN | uint32 NV | 18 Table 18-2 | DESIGN CHOICE 1 (log 1) -/
  gen : Nat := 1
  /-- UPD_VSTATE | 8 bits NV | 18 Table 18-3 | IDLE -/
  vstate : VState := .idle
  /-- UPD_CONFIRMED, 0 A, 1 B | 8 bits NV | 18 Table 18-2 | 0 -/
  confirmed : Nat := 0
  /-- UPD_BFLAGS bit 0 fallback valid | 1 bit NV | 18 Table 18-2 | false -/
  fallback : Bool := false
  /-- UPD_BFLAGS bit 1 revert not yet journaled | 1 bit NV | 18 Table 18-2 | false -/
  revertNew : Bool := false
  /-- UPD_BFLAGS bit 2 copy not yet journaled | 1 bit NV | 18 Table 18-2 | false -/
  copyNew : Bool := false
  /-- UPD_TRIALS | 0 to 3 NV | 18 Table 18-2 | 0 -/
  trials : Nat := 0
  /-- UPD_COPY_INDEX | 16 bits NV | 18 Table 18-2 | 0 -/
  copyIndex : Nat := 0
  /-- UPD_SET | 0 or 1 NV | 18 R523 | 0 -/
  set : Nat := 0
  /-- UPD_MIG | 0 to 2 NV | 18 R523 | none -/
  mig : Mig := .none
  /-- UPD_FMT of set 0 | 8 bits NV | 18 Table 18-2 | DESIGN CHOICE 0 (log 1) -/
  fmt0 : Nat := 0
  /-- UPD_FMT of set 1 | 8 bits NV | 18 Table 18-2 | 0 -/
  fmt1 : Nat := 0
  /-- UPD_CAUSE | 8 bits NV | 18 Table 18-8 | 0 -/
  cause : Nat := 0
  /-- UPD_LOAD_FAILS | 8 bits NV | 18 R521 | 0 -/
  loadFails : Nat := 0
  /-- UPD_VER of bank A | 32 bits NV | 18 Table 18-2 | DESIGN CHOICE 3.0 build 0 (log 1) -/
  verA : Word := 0x03000000
  /-- UPD_VER of bank B | 32 bits NV | 18 Table 18-2 | 0 empty -/
  verB : Word := 0
  /-- UPD_VER of Velvet | 32 bits NV | 18 Table 18-2 | 0 -/
  verV : Word := 0
  /-- UPD_SECV | uint32 NV | 18 Table 18-2 | 0 -/
  secv : Nat := 0
  /-- UPD_MAN_HASH | 48 bytes NV | 18 Table 18-2 | zero -/
  manHash : Bytes := List.replicate 48 0
  /-- UPD_BITMAP | 512 bits NV | 18 Table 18-2 | 0 -/
  bitmap : BitVec 512 := 0
  /-- boot bank A | 32 MiB NV | 18 Table 18-1 | a factory runtime; DESIGN CHOICE (log 1) -/
  bankA : BankSt := { manifest := some { runtime := 0x03000000 } }
  /-- boot bank B | 32 MiB NV | 18 Table 18-1 | empty -/
  bankB : BankSt := {}
  /-- Velvet | 32 MiB NV | 18 Table 18-1 | empty -/
  velvet : BankSt := {}
  /-- rollback counter | OTP | 18 R514 | DESIGN CHOICE 0 (log 1) -/
  rollback : Nat := 0
  /-- running bank, 0 A, 1 B | 1 bit | 01 Table 1-10, 18 R519 | 0 -/
  running : Nat := 0
  /-- the running bank is TRIAL | 1 bit | 18 R519 | false -/
  trial : Bool := false
  /-- boot hold | 1 bit | 18 R522 | false -/
  bootHold : Bool := false
  /-- clean run | frames | 18 R526 | 0 -/
  cleanRun : Nat := 0
  /-- state set in use | 0 or 1 | 18 R523 | 0 -/
  inUse : Nat := 0
  /-- conversion made in this trial start | 1 bit | 18 Table 18-14 | false -/
  converted : Bool := false
  /-- format of the live set before a conversion | 8 bits | 18 Table 18-14 | 0 -/
  oldFmt : Nat := 0
  /-- blocks copied in this start | 16 bits | 18 Table 18-14 | 0 -/
  copied : Nat := 0
  /-- update commands under way | list | 18 R515 | empty -/
  jobs : List UpdJob := []
  /-- ACTIVATING written and restart due at pulse 999 of this frame | 48 bits | 18 R518 | none -/
  activateAt : Option Nat := none
  /-- verification after Survey due | 1 bit | 18 R517 | false -/
  verifyDue : Bool := false
  /-- the running CFE_FW_UPDATE | record | 18 R530 | none -/
  cfe : Option CfeFwJob := none
  deriving DecidableEq, Repr, Inhabited

/-- An error address entry (Table 19-11). -/
structure ErrEntry where
  /-- region | 8 bits NV | 19 Table 19-11 | table memory -/
  region : MemRegion := .table
  /-- block address | 64 bits NV | 19 Table 19-11 | 0 -/
  addr : Nat := 0
  /-- kind bit 0 hard fault | 1 bit NV | 19 Table 19-11 | false -/
  hard : Bool := false
  /-- kind bit 1 remapped | 1 bit NV | 19 Table 19-11 | false -/
  remapped : Bool := false
  /-- count | 16 bits saturating NV | 19 Table 19-11 | 0 -/
  count : Nat := 0
  /-- first error frame | 48 bits NV | 19 Table 19-11 | 0 -/
  first : Nat := 0
  /-- last error frame | 48 bits NV | 19 Table 19-11 | 0 -/
  last : Nat := 0
  deriving DecidableEq, Repr, Inhabited

/-- Counters of one memory region (Table 19-11). -/
structure MemReg where
  /-- MEM_CORR | uint32 saturating | 19 Table 19-11 | 0 -/
  corr : Nat := 0
  /-- MEM_PAGE_CORR | uint32 saturating | 19 Table 19-11 | 0 -/
  page : Nat := 0
  /-- MEM_UNCORR | uint32 saturating | 19 Table 19-11 | 0 -/
  uncorr : Nat := 0
  /-- corrected errors of the present second, words | count | 19 R565 | 0 -/
  secWord : Nat := 0
  /-- corrected errors of the present second, pages | count | 19 R565 | 0 -/
  secPage : Nat := 0
  /-- frame of the last uncorrectable error | 48 bits | 19 R566 | none -/
  lastUncorr : Option Nat := none
  /-- an uncorrectable error is not remapped | 1 bit | 19 R566 | false -/
  unmapped : Bool := false
  /-- MEM_SCRUB_POS | 0.1 % | 19 Table 19-11 | 0 -/
  pos : Nat := 0
  /-- start frame of the pass | 48 bits | 19 R547 | 0 -/
  passFrom : Nat := 0
  /-- MEM_SCRUB_DONE | 48 bits | 19 Table 19-11 | 0 -/
  done : Nat := 0
  /-- scrub late | 1 bit | 19 R547 | false -/
  late : Bool := false
  deriving DecidableEq, Repr, Inhabited

/-- State of the memory integrity engines (area 0x14, `MEM_`). -/
structure MemSt where
  /-- MEM_WEAR_HOLDUP | 8 bits % | 19 Table 19-10 | 50 -/
  wearHoldup : Nat := 50
  /-- MEM_WEAR_CFE | 8 bits | 19 Table 19-10 | 24 -/
  wearCfe : Nat := 24
  /-- MEM_SCRUB_SRAM | 8 bits min | 19 Table 19-10 | 10 -/
  scrubSram : Nat := 10
  /-- MEM_SCRUB_DRAM | 8 bits h | 19 Table 19-10 | 24 -/
  scrubDram : Nat := 24
  /-- MEM_POLICY replaced by its defaults | 1 bit | 19 R563 | false -/
  replaced : Bool := false
  /-- table memory | record | 19 Table 19-11 | 0 -/
  table : MemReg := {}
  /-- DRAM | record | 19 Table 19-11 | 0 -/
  dram : MemReg := {}
  /-- Markhor private SRAM | record | 19 Table 19-11 | 0 -/
  markhor : MemReg := {}
  /-- main remap table: region and block address | 16 entries NV | 19 R544 | empty -/
  remap : List (MemRegion × Nat) := []
  /-- Markhor remap table | 4 entries NV | 19 R544 | empty -/
  remapMk : List Nat := []
  /-- error address table | 32 entries NV | 19 R543 | empty -/
  errs : List ErrEntry := []
  /-- MEM_ERR_OVF | uint32 saturating | 19 Table 19-11 | 0 -/
  ovf : Nat := 0
  /-- MEM_FLAGS bit 2, a hard fault is not remapped | 1 bit | 19 Table 19-11 | false -/
  notRemapped : Bool := false
  /-- MEM_H_GEN | uint32 NV | 19 Table 19-3 | 0 -/
  healthGen : Nat := 0
  /-- memory health record copy: remaps, Markhor remaps, errors | NV | 19 Table 19-3 | empty -/
  health : List (MemRegion × Nat) × List Nat × List ErrEntry := ([], [], [])
  /-- frame of the first change not yet written | 48 bits | 19 R545 | none -/
  dirty : Option Nat := none
  deriving DecidableEq, Repr, Inhabited

/-- A journal record (Table 19-4); its CRC is a function of the rest. -/
structure JRec where
  /-- JNL_SEQ | 48 bits NV | 19 Table 19-4 | 0 until committed -/
  seq : Nat := 0
  /-- JNL_FRAME | 48 bits NV | 19 Table 19-4 | 0 -/
  frame : Nat := 0
  /-- JNL_TIME | uint64 ns NV | 19 Table 19-4 | 0 -/
  time : Nat := 0
  /-- JNL_CODE | 16 bits NV | 19 Table 19-4 | 0 -/
  code : Nat := 0
  /-- JNL_SLOT | 8 bits NV | 19 Table 19-4 | A -/
  slot : Slot := .a
  /-- JNL_ROLE | 2 bits NV | 19 Table 19-4 | none -/
  role : RoleCode := .none
  /-- JNL_PAYLOAD; bytes beyond the list are 0 | 32 bytes NV | 19 Table 19-4 | empty -/
  payload : Bytes := []
  deriving DecidableEq, Repr, Inhabited

/-- One journal ring (R549). -/
structure Ring where
  /-- valid records, newest first, at most N | 64 bytes each NV | 19 R549 | empty -/
  recs : List JRec := []
  /-- next sequence | 48 bits | 19 R550 | 1 -/
  next : Nat := 1
  /-- records lost | uint32 saturating | 19 Table 19-11 | 0 -/
  lost : Nat := 0
  /-- records dropped since the last JNL_LOST | count | 19 R551 | 0 -/
  dropped : Nat := 0
  deriving DecidableEq, Repr, Inhabited

/-- The string part of a wear record (Table 19-5). -/
structure WearStr where
  /-- MEM_W_CHG | uint64 mA.s NV | 19 Table 19-5 | 0 -/
  chg : Nat := 0
  /-- MEM_W_DIS | uint64 mA.s NV | 19 Table 19-5 | 0 -/
  dis : Nat := 0
  /-- MEM_W_NEQ | uint32 centicycles NV | 19 Table 19-5 | 0 -/
  neq : Nat := 0
  /-- MEM_W_SSTATE | 1 bit NV | 19 Table 19-5 | not SERVICE -/
  service : Bool := false
  /-- MEM_W_FIRST | 8 bits NV | 19 Table 19-5 | 0 -/
  first : Nat := 0
  /-- MEM_W_LATCH | 16 bits NV | 19 Table 19-5 | 0 -/
  latch : Mask := 0
  deriving DecidableEq, Repr, Inhabited

/-- The port part of a wear record. -/
structure WearPort where
  /-- MEM_W_SERIAL | 16 bytes NV; empty reads as zeros | 19 Table 19-5 | none -/
  serial : Bytes := []
  /-- MEM_W_CAL_CRC | 32 bits NV | 19 Table 19-5 | 0 -/
  calCrc : Word := 0
  deriving DecidableEq, Repr, Inhabited

/-- A wear record (Table 19-5). -/
structure WearRec where
  /-- MEM_W_SEQ | uint32 NV | 19 Table 19-5 | 0 -/
  seq : Nat := 0
  /-- MEM_W_FRAME | 48 bits NV | 19 Table 19-5 | 0 -/
  frame : Nat := 0
  /-- MEM_W_SLOT | 8 bits NV | 19 Table 19-5 | A -/
  slot : Slot := .a
  /-- MEM_W_CONTAINER | 8 bits NV | 19 Table 19-5 | 0 -/
  container : Nat := 0
  /-- MEM_W_PLANT | 32 bits NV | 19 Table 19-5 | 0 -/
  plant : Word := 0
  /-- MEM_W_STRINGS | 16 bits NV | 19 Table 19-5 | 0 -/
  strings : Mask := 0
  /-- strings S0 to S15 | 32 bytes each NV | 19 Table 19-5 | 0 -/
  str : Tab WearStr := []
  /-- ports P0 to P127 | 20 bytes each NV | 19 Table 19-5 | none -/
  port : Tab WearPort := []
  deriving DecidableEq, Repr, Inhabited

/-- A last-gasp record (Table 19-6). -/
structure LastGasp where
  /-- JNL_LG_GEN | uint32 NV | 19 Table 19-6 | 0 -/
  gen : Nat := 0
  /-- JNL_LG_BASE | uint32 NV | 19 Table 19-6 | 0 -/
  base : Nat := 0
  /-- JNL_LG_BASE_FRAME | 48 bits NV | 19 Table 19-6 | 0 -/
  baseFrame : Nat := 0
  /-- JNL_LG_FRAME | 48 bits NV | 19 Table 19-6 | 0 -/
  frame : Nat := 0
  /-- JNL_LG_DELTA, charge and discharge by string | 2 x uint64 NV | 19 Table 19-6 | 0 -/
  delta : Tab (Nat × Nat) := []
  deriving DecidableEq, Repr, Inhabited

/-- One cell of the Herd level record (R254). -/
structure HerdRec where
  /-- levels of features 1 to 5 | 5 x 2 bits NV | 09 R254 | None -/
  lvl : List Level := []
  /-- cell at Act | 1 bit NV | 09 R254 | false -/
  act : Bool := false
  /-- act age | uint16 min NV | 09 R254 | 0 -/
  actAge : Nat := 0
  deriving DecidableEq, Repr, Inhabited

/-- The journals, the wear record and the other MRAM records (area 0x14, `JNL_`). -/
structure JnlSt where
  /-- safety journal | 16,384 slots NV | 19 R549 | empty -/
  safety : Ring := {}
  /-- event journal | 131,072 slots NV | 19 R549 | empty -/
  event : Ring := {}
  /-- audit journal | 65,536 slots NV | 19 R549 | empty -/
  audit : Ring := {}
  /-- runtime queue, oldest first: journal and record | 4,096 records | 19 R551 | empty -/
  queue : List (JournalId × JRec) := []
  /-- MRAM wear mirror, two copies | 2 x 4,096 bytes NV | 19 R554 | none -/
  mirror0 : Option WearRec := none
  /-- second mirror copy | 4,096 bytes NV | 19 R554 | none -/
  mirror1 : Option WearRec := none
  /-- carrier wear slot 0 | 64 KiB NV | 17 Table 17-1, 19 R554 | none -/
  carrier0 : Option WearRec := none
  /-- carrier wear slot 1 | 64 KiB NV | 17 Table 17-1, 19 R554 | none -/
  carrier1 : Option WearRec := none
  /-- wear mirror of the state set not in use, two copies | 2 x 4,096 bytes NV | 18 R523 | none -/
  otherMirror : Option WearRec × Option WearRec := (none, none)
  /-- port identities in force | 20 bytes each | 19 R561, 03 Table 3-5 step 2 | none -/
  ident : Tab WearPort := []
  /-- a wear write is due at the next second | 1 bit | 19 R555 | false -/
  wearDue : Bool := false
  /-- the postponement was journaled | 1 bit | 19 R555 | false -/
  wearPostponed : Bool := false
  /-- carrier write to be retried at the next second | 1 bit | 19 R556 | false -/
  carrierRetry : Bool := false
  /-- JNL_W_SOURCE, none is 0xFF | 8 bits | 19 Table 19-11 | none -/
  wSource : Option Nat := none
  /-- JNL_W_SEQ | uint32 | 19 Table 19-11 | 0 -/
  wSeq : Nat := 0
  /-- JNL_W_FRAME | 48 bits | 19 Table 19-11 | 0 -/
  wFrame : Nat := 0
  /-- no wear candidate was found and no write since | 1 bit | 19 R561 item 4 | false -/
  wearNone : Bool := false
  /-- Markhor's throughputs, charge and discharge by string | mA.us | 19 R559 | 0 -/
  mkThru : Tab (Nat × Nat) := []
  /-- Markhor's throughputs at the last 4 second boundaries, newest first: frame and values | mA.us | 19 R559 | empty -/
  mkAt : List (Nat × Tab (Nat × Nat)) := []
  /-- Markhor's base: sequence, frame, values | record | 19 R559 | none -/
  mkBase : Option (Nat × Nat × Tab (Nat × Nat)) := none
  /-- last-gasp record, copy 0 | 512 bytes NV | 19 Table 19-6 | none -/
  gasp0 : Option LastGasp := none
  /-- last-gasp record, copy 1 | 512 bytes NV | 19 Table 19-6 | none -/
  gasp1 : Option LastGasp := none
  /-- Herd level record, by cell | NV | 09 R254 | empty -/
  herd : Tab HerdRec := []
  /-- blocks of the Herd level record whose CRC fails | 32 bits NV | 09 R254 | 0 -/
  herdBad : BitVec 32 := 0
  /-- Safe latch | 8 bits NV, from the safety journal | 03 R64, 19 R552 | 0 -/
  safeLatch : Byte := 0
  /-- frame of the last failed MRAM read-back | 48 bits | 19 R566 | none -/
  lastReadback : Option Nat := none
  /-- FE wear-record copies being committed: port, tries, frame of the commit | list | 19 R558 | empty -/
  feCommits : List (Nat × Nat × Nat) := []
  deriving DecidableEq, Repr, Inhabited

/-- State of area 0x15. -/
structure AccSt where
  /-- ACC_MAX_ROLE is Installer | 1 bit | 20 Table 20-6 | 1 -/
  maxInstaller : Bool := true
  /-- ACC_VALIDITY | 1 bit | 20 Table 20-6 | 1 -/
  validity : Bool := true
  /-- ACC_POLICY replaced by its defaults | 1 bit | 20 R578 | false -/
  replaced : Bool := false
  /-- root slots written | 4 bits OTP | 20 R574 | slot 0 -/
  written : BitVec 4 := 1
  /-- root slots retired | 4 bits OTP | 20 R575 | 0 -/
  retired : BitVec 4 := 0
  /-- root public keys | 4 x 49 bytes OTP | 20 R574 | slot 0 factory; DESIGN CHOICE empty (log 1) -/
  roots : Tab Bytes := []
  /-- OTP deny list | 32 x 8 bytes OTP | 20 R575 | empty -/
  denyOtp : List (BitVec 64) := []
  /-- deny list of ACC_CREDENTIALS | up to 64 x 8 bytes | 20 Table 20-5 | empty -/
  denyImg : List (BitVec 64) := []
  /-- plant CA certificates | up to 4 DER | 20 Table 20-5 | none -/
  plantCa : List Bytes := []
  /-- ACC_SFPR, 0 if none | 64 bits | 20 Table 20-7 | 0 -/
  fpr : BitVec 64 := 0
  /-- fingerprints of the session's chain | up to 3 x 64 bits | 20 R569 R575 | empty -/
  chain : List (BitVec 64) := []
  /-- root slot the session's chain stands on | 2 bits | 20 R575 | none -/
  chainRoot : Option Nat := none
  /-- ACC_AUTH_FAILS | uint32 saturating | 20 Table 20-7 | 0 -/
  authFails : Nat := 0
  /-- refused SESSION_OPEN of the present second | count | 20 R579 | 0 -/
  failsSec : Nat := 0
  /-- debug port open | 1 bit | 20 R576 | false -/
  debugOpen : Bool := false
  /-- the debug port opens at the restart under way | 1 bit | 20 R576 | false -/
  debugDue : Bool := false
  deriving DecidableEq, Repr, Inhabited

/-- The input-loss sequence under way (Table 21-4). -/
structure LossSeq where
  /-- instant of the declaration | us of the clock | 21 R583 | 0 -/
  at_ : Nat := 0
  /-- the pair rule has not yet been judged | 1 bit | 21 R585 | false -/
  judging : Bool := false
  /-- Table 21-4 runs | 1 bit | 21 R584 | false -/
  runs : Bool := false
  /-- the wait has ended | 1 bit | 21 Table 21-4 | false -/
  waitEnded : Bool := false
  /-- strings opened for input loss | 16 bits | 21 Table 21-4 | 0 -/
  opened : Mask := 0
  /-- last-gasp record written | 1 bit | 21 Table 21-4, 19 R560 | false -/
  gasped : Bool := false
  /-- the input has returned too late to cancel | 1 bit | 21 R586 | false -/
  returned : Bool := false
  deriving DecidableEq, Repr, Inhabited

/-- State of area 0x16. -/
structure PsvSt where
  /-- PSV_AI_MODE | 16 bits | 21 Table 21-13 | 0 -/
  aiMode : Mask := 0
  /-- PSV_LOSS_WAIT | 8 bits ms | 21 Table 21-13 | 100 -/
  lossWait : Nat := 100
  /-- PSV_POLICY replaced by its defaults | 1 bit | 21 R603 | false -/
  replaced : Bool := false
  /-- PSV_VIN | int32 mV | 21 Table 21-14 | DESIGN CHOICE 24,000 nominal (log 1) -/
  vin : Int := 24000
  /-- PSV_IIN | int32 mA | 21 Table 21-14 | DESIGN CHOICE 0 (log 1) -/
  iin : Int := 0
  /-- PSV_PIN | int32 W | 21 Table 21-14 | DESIGN CHOICE 0 (log 1) -/
  pin : Int := 0
  /-- PSV_STATE | 8 bits | 21 Table 21-14 | 0 normal -/
  state : SupplyState := .normal
  /-- PSV_HU_V | int32 mV | 21 Table 21-14 | DESIGN CHOICE 0 (log 1) -/
  huV : Int := 0
  /-- PSV_HU_E | int64 J | 21 Table 21-14 | DESIGN CHOICE 0 (log 1) -/
  huE : Int := 0
  /-- PSV_HU_FULL | int64 J | 21 Table 21-14 | DESIGN CHOICE 75, a new bank (log 1) -/
  huFull : Int := 75
  /-- measured bank capacitance | uint32 0.1 F | 21 R582 | DESIGN CHOICE 0 (log 1) -/
  huCap : Nat := 0
  /-- PSV_FLAGS bit 0 charging | 1 bit | 21 Table 21-14 | true -/
  charging : Bool := true
  /-- kind of the last PSV_HOLDUP condition | 8 bits | 21 Table 21-15 | none stands -/
  holdupCond : Nat := 0
  /-- frame of the last capacitance measurement | 48 bits | 21 R582 | 0 -/
  huMeasured : Nat := 0
  /-- PSV_RAIL, rails 0 to 9 | 10 x int32 mW | 21 Table 21-14 | 0 -/
  rails : Tab Int := []
  /-- PSV_AI, AI0 to AI7; an input that is off reads 0x80000000 | 8 x int32 | 21 R595 | off -/
  ai : Tab Int := []
  /-- factory sector: module calibration block | 512 bytes NV | 21 Table 21-10, 18 Table 18-1 | erased; DESIGN CHOICE (log 1) -/
  cal : Bytes := []
  /-- the block in force at this start | 512 bytes | 21 R601 | none, unit gains -/
  calUsed : Bytes := []
  /-- PSV_LOSS_FRAME | 48 bits | 21 Table 21-14 | 0 -/
  lossFrame : Nat := 0
  /-- input-loss sequence under way | record | 21 R584 | none -/
  loss : Option LossSeq := none
  /-- this module has dropped the role for input loss | 1 bit | 21 R585 | false -/
  dropped : Bool := false
  /-- frame of the last cancellation, for the DERATE_OUT request | 48 bits | 21 R586 | none -/
  cancelledAt : Option Nat := none
  /-- DERATE_OUT request of an input loss | 1 bit | 21 Table 21-4 | false -/
  derate : Bool := false
  /-- frame since which the input has been within range | 48 bits | 19 R555 | 0 -/
  inRangeFrom : Nat := 0
  /-- supply present | 1 bit | 21 R583 | true -/
  powered : Bool := true
  deriving DecidableEq, Repr, Inhabited

end Sys2Proof.Machine
end

