-- ==== Sys2Proof/Machine/State/Sys.lean ====
section
/-! DEFINITION. State of areas 0x01 (system and identity) and 0x02 (time and frame). -/

namespace Sys2Proof.Machine

/-- One port word of `SYS_TOPOLOGY` (Table 1-6). -/
structure PortWord where
  /-- SYS_CELLS | 7 bits, 0 or 16 to 64 | 01 Table 1-6 R23 | image value; 0 before an image is read -/
  cells : Nat := 0
  /-- SYS_TH_MASK | 16 bits | 01 Table 1-6 R23 | image value; 0 before an image is read -/
  thMask : Mask := 0
  deriving DecidableEq, Repr, Inhabited

/-- State of area 0x01. -/
structure SysSt where
  /-- SYS_SERIAL | 16 bytes | 01 Table 1-7 | factory value; DESIGN CHOICE zero bytes (log 1) -/
  serial : Bytes := List.replicate 16 0
  /-- module certificate chain, OTP, DER certificates end entity first | up to 1,244 bytes | 20 Table 20-2 R571 | DESIGN CHOICE empty (log 1) -/
  certChain : Bytes := []
  /-- SYS_ORDER_CODE | 12 bytes | 01 Table 1-7 | ASCII MBT-M16-C padded; DESIGN CHOICE of the two codes (log 1) -/
  orderCode : Bytes := [0x4D, 0x42, 0x54, 0x2D, 0x4D, 0x31, 0x36, 0x2D, 0x43, 0, 0, 0]
  /-- SYS_HW_ISSUE | 8 bits | 01 Table 1-7 R1 | 0x42 -/
  hwIssue : Byte := 0x42
  /-- SYS_SLOT | 1 bit, SLOT_ID pins | 01 Table 1-7, 21 | strap; DESIGN CHOICE slot A (log 1) -/
  slot : Slot := .a
  /-- the SLOT_ID pins name a slot | 1 bit | 21 R590 | strap; DESIGN CHOICE true (log 1) -/
  slotOk : Bool := true
  /-- SYS_RUNTIME | 32 bits | 01 Table 1-7 R1 | release of the running bank; DESIGN CHOICE 3.0 build 0 (log 1) -/
  runtime : Word := 0x03000000
  /-- SYS_BOOT_ROM | 32 bits | 01 Table 1-7 | factory value; DESIGN CHOICE zero (log 1) -/
  bootRom : Word := 0
  /-- SYS_IMAGE_SEQ | 32 bits | 01 Table 1-7 R26 | 0 before Load has finished -/
  imageSeq : Word := 0
  /-- SYS_START_FRAME | 48 bits | 01 Table 1-7 R26 | 0 before Load has finished -/
  startFrame : Nat := 0
  /-- reset cause of the present start | 8 bits | 01 Table 1-10 | 0x01 -/
  resetCause : Byte := 0x01
  /-- SYS_FAULT | 26 bits | 01 Table 1-8 | 0 -/
  fault : BitVec 26 := 0
  /-- SYS_DEGRADED | 26 bits | 01 Table 1-8 | 0 -/
  degraded : BitVec 26 := 0
  /-- count of SYS_SUBSYSTEM_CHANGE events | 32 bits | 01 Table 1-8 | 0 -/
  changes : Nat := 0
  /-- self-test failures, bit n - 1 for subsystem n; an absent NOR, PHY or MRAM counts as one | 26 bits | 01 R27 and each chapter's health rule | 0 -/
  selfTestFail : BitVec 26 := 0
  /-- Topology accepted | 1 bit | 01 R23 | false -/
  topoOk : Bool := false
  /-- SYS_STRING_MASK | 16 bits | 01 Table 1-5 | image value; 0 before an image is read -/
  stringMask : Mask := 0
  /-- SYS_CONTAINER | 8 bits | 01 Table 1-5 R26 | 0 before Load has finished -/
  container : Nat := 0
  /-- Port words P0 to P127 | 128 words | 01 Table 1-6 | image values; 0 before an image is read -/
  ports : Tab PortWord := []
  /-- SYS_PLANT_ID | 32 bits | 01 Table 1-4 R26 | 0 -/
  plantId : Word := 0
  /-- SYS_CONTAINER_NAME | 16 bytes | 01 Table 1-4 R26 | zero bytes -/
  containerName : Bytes := List.replicate 16 0
  deriving DecidableEq, Repr, Inhabited

/-- The record `TIME_SOURCES` (Table 2-8) as in force. -/
structure TimeCfg where
  /-- TIME_PTP_DOMAIN | 8 bits, 0 to 127 | 02 Table 2-8 | 0 -/
  domain : Nat := 0
  /-- TIME_PTP_PROFILE | 2 bits | 02 Table 2-8 | 0 -/
  profile : Nat := 0
  /-- TIME_PTP_PORTS | 2 bits | 02 Table 2-8 | 3 -/
  ports : Nat := 3
  /-- TIME_PPS_EN | 1 bit | 02 Table 2-8 | 0 -/
  ppsEn : Bool := false
  /-- TIME_PPS_EDGE | 1 bit | 02 Table 2-8 | 0 -/
  ppsFalling : Bool := false
  /-- TIME_REF10_EN | 1 bit | 02 Table 2-8 | 0 -/
  ref10En : Bool := false
  /-- TIME_PREFER_PPS | 1 bit | 02 Table 2-8 | 0 -/
  preferPps : Bool := false
  /-- TIME_TOD_SRC | 2 bits | 02 Table 2-8 | 0 -/
  todCmd : Bool := false
  /-- TIME_PPS_DELAY | int32 ns, 0 to 10,000 | 02 R59 | 0 -/
  ppsDelay : Nat := 0
  /-- TIME_ALIGN_LIMIT | uint32 ns | 02 R59 | 100,000 -/
  alignLimit : Nat := 100000
  deriving DecidableEq, Repr, Inhabited

/-- The Announce data held for one site port (R41, R42). -/
structure Announce where
  /-- A master is present on the port | 1 bit | 02 R42 | false -/
  present : Bool := false
  /-- Announce quality for the best-master comparison, lower is better | IEEE 1588 dataset as one number | 02 R42 | 0 -/
  rank : Nat := 0
  /-- Grandmaster identity | 64 bits | 02 Table 2-9 | 0 -/
  gmId : BitVec 64 := 0
  /-- Grandmaster clockClass | 8 bits | 02 Table 2-9 | 0 -/
  gmClass : Byte := 0
  /-- UTC offset | int16 s | 02 R43 | 0 -/
  utcOffset : Int := 0
  /-- Steps removed | 16 bits | 02 Table 2-9 | 0 -/
  stepsRemoved : Nat := 0
  deriving DecidableEq, Repr, Inhabited

/-- State of area 0x02. -/
structure TimeSt where
  /-- TIME_SOURCES in force | record | 02 Table 2-8 | defaults -/
  cfg : TimeCfg := {}
  /-- TIME_FRAME | 48 bits | 02 Table 2-9 R47 | last journal frame plus 1; DESIGN CHOICE 0 for an empty journal (log 1) -/
  frame : Nat := 0
  /-- Markhor's own frame count | 48 bits | 02 R33 | as TIME_FRAME -/
  markhorFrame : Nat := 0
  /-- pulse of the present frame at which the latest command acted | 0 to 999 | 02 R32, 00 R9 | 0 -/
  pulse : Nat := 0
  /-- frame strobes given, never stepped and never reset; the model's own clock of the links (log 166) | count | 02 R53 | 0 -/
  ticks : Nat := 0
  /-- frames since the reset | count | 02 R47 R54 | 0 -/
  uptime : Nat := 0
  /-- frames since power-on | count | 02 R54 | 0 -/
  sincePower : Nat := 0
  /-- TIME_STATE | 3 bits | 02 Table 2-4 | FREERUN -/
  state : TimeState := .freerun
  /-- TIME_SOURCE | 8 bits | 02 Table 2-9 | 0 none -/
  source : TimeSource := .none
  /-- TIME_FREQ_SOURCE | 8 bits | 02 Table 2-9 R46 | 0 oscillator model -/
  freqSource : FreqSource := .model
  /-- module has been LOCKED since start | 1 bit | 02 Table 2-4 | false -/
  everLocked : Bool := false
  /-- the followed active had been LOCKED | 1 bit | 02 Table 2-4 row 4 | false -/
  activeEverLocked : Bool := false
  /-- TIME_UNSYNCED | 1 bit | 02 R47 | true -/
  unsynced : Bool := true
  /-- TIME_ALIGNED | 1 bit | 02 R48 | false -/
  aligned : Bool := false
  /-- TIME_STEP_PENDING | 1 bit | 02 R52 | false -/
  stepPending : Bool := false
  /-- TIME_OSC_WARM | 1 bit | 02 Table 2-9 | false -/
  oscWarm : Bool := false
  /-- slewing | 1 bit | 02 Table 2-9 R51 | false -/
  slewing : Bool := false
  /-- TIME_OFFSET | int32 ns | 02 Table 2-9 | 0 -/
  offset : Int := 0
  /-- TIME_ERROR_BOUND | uint32 ns | 02 R49 | 0xFFFFFFFF -/
  errorBound : Nat := 0xFFFFFFFF
  /-- the followed active's error bound | uint32 ns | 02 R49 | 0 -/
  activeBound : Nat := 0
  /-- the followed active is healthy | 1 bit | 02 R50 | false -/
  activeHealthy : Bool := false
  /-- frame of entry to HOLDOVER | 48 bits | 02 R54 | 0 -/
  holdoverFrom : Nat := 0
  /-- R54's three conditions held at the loss | 1 bit | 02 R54 | false -/
  holdoverGood : Bool := false
  /-- frame of entry to LOCKED | 48 bits | 02 R54 | 0 -/
  lockedFrom : Nat := 0
  /-- ambient temperature at the loss of the source | 0.01 degC | 02 R54 | 0 -/
  ambientAtLoss : Int := 0
  /-- TIME_FREQ_CORR | int32 | 02 Table 2-9 | 0 -/
  freqCorr : Int := 0
  /-- TIME_OSC_TEMP | int16 0.01 degC | 02 Table 2-9 | DESIGN CHOICE 0 (log 1) -/
  oscTemp : Int := 0
  /-- the oven oscillator fails its monitor | 1 bit | 02 R50 | false -/
  oscFault : Bool := false
  /-- Announce data of site port 0 | record | 02 R42 | absent -/
  ann0 : Announce := {}
  /-- Announce data of site port 1 | record | 02 R42 | absent -/
  ann1 : Announce := {}
  /-- a 1PPS source is present | 1 bit | 02 Table 2-4 | false -/
  ppsPresent : Bool := false
  /-- consecutive missing or misplaced edges | count | 02 Table 2-4 | 0 -/
  ppsMissed : Nat := 0
  /-- TAI second given by TIME_SET_TOD for the next edge | uint64 | 02 R44 | none -/
  todNext : Option Nat := none
  /-- the TAI second of the edges is known | 1 bit | 02 R44 | false -/
  todKnown : Bool := false
  /-- TAI second of the latest edge whose second was known, and the strobe count at that edge | uint64, count | 02 R44 | none -/
  ppsAt : Option (Nat × Nat) := none
  /-- offset by the latest Sync of either port, local minus source | ns | 02 R44 | none -/
  ptpOffset : Option Int := none
  /-- REF10_IN within 10 ppm | 1 bit | 02 R45 | false -/
  ref10Ok : Bool := false
  /-- Pdelay_Req answered | count | 02 R41 | 0 -/
  pdelayAnswered : Nat := 0
  /-- step announced: boundary frame and new number | 2 x 48 bits | 02 R57 | none -/
  stepAt : Option (Nat × Nat) := none
  /-- run length of Eland overrun | uint32 | 02 R39 | 0 -/
  runEland : Nat := 0
  /-- run length of envelope overrun | uint32 | 02 R39 | 0 -/
  runEnvelope : Nat := 0
  /-- run length of output-queuing overrun | uint32 | 02 R39 | 0 -/
  runOutput : Nat := 0
  /-- run length of journal-commit overrun | uint32 | 02 R39 | 0 -/
  runJournal : Nat := 0
  /-- kinds that overran in the present frame, bits 0 to 3 | 4 bits | 02 R39 | 0 -/
  overrunNow : BitVec 4 := 0
  /-- PPS_OUT edges given | count | 02 Table 2-1 | 0 -/
  ppsOut : Nat := 0
  deriving DecidableEq, Repr, Inhabited

end Sys2Proof.Machine
end

