-- ==== Sys2Proof/Machine/State/Inputs.lean ====
section
/-! DEFINITION. The shapes of the values a command takes from outside the block. -/

namespace Sys2Proof.Machine

/-- A pulse of a frame (R9). -/
abbrev Pulse := Fin 1000

/-- A string S0 to S15 (Table 0-4). -/
abbrev StrIx := Fin 16

/-- A cell port P0 to P127, and the front end on it (Table 0-4). -/
abbrev PortIx := Fin 128

/-- What an uncorrectable memory error strikes (Table 19-1): a Cell Table entry with its Herd entry, a Thermistor Table
entry, a window page, the oldest history minute kept, a capture buffer, a loop context, or other memory. -/
inductive MemHit where
  | plain
  | cell (g : Fin 8192)
  | thermistor (i : Fin 2048)
  | page (n : Fin 16384)
  | history
  | capture (k : StrIx)
  | loop (l : Fin 64)
  deriving DecidableEq, Repr, Inhabited

/-- Kind of a memory error (R541). -/
inductive MemErrKind where
  | word | page | uncorrectable
  deriving DecidableEq, Repr, Inhabited

/-- One word the engine reads: its 64-byte block, its 72 stored bits, the places of the wrong bytes of its page with the
page's check bytes (R539), and what lies there. -/
structure MemErr where
  block : Nat
  word : BitVec 72
  wrong : List Nat
  hit : MemHit
  deriving DecidableEq, Repr, Inhabited

/-- The transports of Table 2-3. -/
inductive PtpTransport where
  | ethernet | udp4 | udp6
  deriving DecidableEq, Repr, Inhabited

/-- The transport of a profile of Table 2-3; profile 0b11 is reserved. -/
def PtpTransport.profile : PtpTransport → Nat
  | .ethernet => 0
  | .udp4 => 1
  | .udp6 => 2

/-- What a Sync or Follow_Up gives (R40): its domain and transport; local minus source time at its arrival before the path
delay is taken off; the path delay by the peer-to-peer and by the request-response mechanism; what the filter makes of
the measurement, a correction in ns; the frequency correction. -/
structure PtpSync where
  domain : Nat := 0
  transport : PtpTransport := .ethernet
  raw : Int := 0
  peerDelay : Nat := 0
  endDelay : Nat := 0
  filter : Int := 0
  freq : Int := 0
  deriving DecidableEq, Repr, Inhabited

/-- What the power supervisor and the thermal sensors report once per frame (R581, R582, R363, Table 21-14). -/
structure Sensors where
  rails : List Int := []
  diodes : List Int := []
  base : Int := 0
  vin : Int := 0
  iin : Int := 0
  huV : Int := 0
  huE : Int := 0
  charging : Bool := false
  oscTemp : Int := 0
  deriving DecidableEq, Repr, Inhabited

/-- What a front end's uncalibrated transfer function gives at a conversion: cells in µV, block in 100 µV, the resistance
of each thermistor input in ohm (R123), the die temperature in 0.01 °C. -/
structure FeIn where
  cells : List Int := []
  block : Nat := 0
  ths : List Nat := []
  die : Int := 2500
  deriving DecidableEq, Repr, Inhabited

/-- A datagram from the partner beside its payload (R410; Table 14-1): the header's fields as it carries them, the tag,
whether IP brought it in fragments, and where it came from. -/
structure SiteIn where
  ver : Nat := 1
  type : Nat := 0
  hflags : Byte := 0
  slot : Byte := 0xFF
  session : Word := 0
  seq : Nat := 0
  len : Nat := 0
  digest : Word := 0
  frame : Nat := 0
  rest : Nat := 0
  tag : Bytes := []
  fragmented : Bool := false
  port : Fin 2 := 0
  addr : Nat := 1
  deriving DecidableEq, Repr, Inhabited

/-- What a partner's `SESSION_OPEN` presents (Table 20-3, R568 to R572), with what the spec's cryptography makes of it:
whether the profiles of its certificates fit, whether the chain's and its own signature verify and the validity periods
hold, the role of the end entity's profile, the root slot that verifies the chain; and beside it what the module draws
for its answer: nonce, ephemeral public key, signature, and the x-coordinate Z of the shared point. -/
structure OpenIn where
  ver : Nat := 1
  nonce : Bytes := []
  eph : Bytes := []
  certs : List Bytes := []
  sig : Bytes := []
  profileOk : Bool := true
  chainOk : Bool := true
  sigOk : Bool := true
  validNow : Bool := true
  role : Role := .operator
  root : Nat := 0
  ourNonce : Bytes := []
  ourEph : Bytes := []
  ourSig : Bytes := []
  z : Bytes := []
  deriving DecidableEq, Repr, Inhabited

/-- A frame as a CAN controller receives it (R445, R449): whether it arrived without error, whether it is an FD data
frame with a 29-bit identifier, BRS, identifier and payload. -/
structure CanFrame where
  ok : Bool := true
  fd29 : Bool := true
  brs : Bool := true
  ident : BitVec 29 := 0
  payload : Bytes := []
  deriving DecidableEq, Repr, Inhabited

/-- How a transmission attempt fails (R456, R458). -/
inductive TxError where
  | ack | dataBit | other
  deriving DecidableEq, Repr, Inhabited

/-- A sensor of R364: a rail power monitor, an on-die diode, the base-plate sensor. -/
inductive SensorId where
  | rail (r : Fin 10)
  | diode (d : Fin 4)
  | base
  deriving DecidableEq, Repr, Inhabited

/-- An output that is queued by pulse 950 (R36): `LIMITS`, `MODULE_STATE`, a `THERMAL_SET`, the dispatch set, the objects
of `SITE_PUSH`. -/
inductive OutKind where
  | limits | moduleState | dispatch | sitePush
  | thermalSet (i : Fin 3)
  deriving DecidableEq, Repr, Inhabited

/-- Why a front end starts (Table 5-5). -/
inductive FeCause where
  | powerOn
  | watchdog
  | blockLow
  deriving DecidableEq, Repr, Inhabited

/-- A heartbeat of the peer (Table 13-4): its pair state, active flag, input-loss flag and mode; `ask` when a joining peer
asks for a copy epoch (R392, R395); what a follower takes of its time (R47, R49, R50, R55); and the image sequence and
runtime release by which the active knows a transition join (R500, R528). -/
structure PairHb where
  state : Option PairState := none
  active : Bool := false
  loss : Bool := false
  mode : Mode := .survey
  ask : Bool := false
  unsynced : Bool := true
  bound : Nat := 0
  healthy : Bool := false
  everLocked : Bool := false
  imageSeq : Word := 0
  release : Word := 0
  deriving DecidableEq, Repr, Inhabited

/-- The announcement of a copy epoch (R56, R271, R392, R500, R528): E, the active's frame number and pulse counters, its
image sequence and runtime release, and whether both images carry the same `SYS_TOPOLOGY` body. -/
structure EpochIn where
  epoch : Nat := 0
  frame : Nat := 0
  pseqs : List Nat := []
  imageSeq : Word := 0
  release : Word := 0
  sameTopology : Bool := true
  deriving DecidableEq, Repr, Inhabited

/-- What the state copy and the replay have given a joiner that is caught up (Table 13-7, R394): the regions as the
replayed frames leave them. `readable` is false when a region other than the module records and the ledger could not be
converted (R528). Of `ports` the sequencers alone are taken (string records). -/
structure CopyIn where
  readable : Bool := true
  cells : Tab CellEntry := []
  aux : Tab CellAux := []
  th : Tab ThEntry := []
  herdTab : Tab HerdEntry := []
  herd : Tab StrHerd := []
  str : Tab StrSt := []
  measFe : Tab FeMeas := []
  measStr : Tab StrMeas := []
  est : Tab StrEst := []
  thm : Tab StrThm := []
  ports : Tab PpSt := []
  loops : Tab LoopSt := []
  therm : Tab ThermLoop := []
  dsp : DspSt := {}
  grz : GrzSt := {}
  mode : Mode := .idle
  target : Option Mode := none
  targetCmd : Word := 0
  safeLatch : Byte := 0
  enabled : Mask := 0
  ledger : Tab LedgerEntry := []
  newest : Word := 0
  memCounts : List (Nat × Nat × Nat) := []
  lost : List Nat := []
  histCell : Tab HistCell := []
  histStr : Tab HistStr := []
  deriving DecidableEq, Repr, Inhabited

/-- What the boot ROM finds by cryptography and in the flash at a start: the verdict on each bank, and the first
Velvet block whose copy does not read back. -/
structure BootFind where
  bankA : Verdict := .pass
  bankB : Verdict := .pass
  badBlock : Option Nat := none
  newestBad : Bool := false
  olderBad : Bool := false
  deriving DecidableEq, Repr, Inhabited

/-- What Load finds outside the module's own rules: the verdicts of R488 on the two slots, those on the certificates of
their `ACC_CREDENTIALS` (R578), and that of the conversion of stored state with its read-back (R523, R524). -/
structure LoadIn where
  chain0 : Verdict := .pass
  chain1 : Verdict := .pass
  cred0 : Verdict := .pass
  cred1 : Verdict := .pass
  convert : Verdict := .pass
  herdBad : BitVec 32 := 0
  patchBad : List Nat := []
  deriving DecidableEq, Repr, Inhabited

end Sys2Proof.Machine
end

