-- ==== Sys2Proof/Syntax.lean ====
section
/-! DEFINITION. The commands of the block: one constructor per row of the operation table, with the values the row takes from outside. -/

namespace Sys2Proof

open Sys2Proof.Machine

/-- The commands, those without operands last. A `p` of type `Pulse` is the pulse of the present frame at which the event
occurs. -/
inductive Instr where
  /-- `POWER_ON` (R69). Supply applied: Markhor starts from ROM with all ports safe, and Fill begins with reset cause 0x01. -/
  | powerOn (vin : Int) (idA idB : Bool) (twa : BitVec 2)
  /-- `RESET_IN` (R597). RESET_IN released after at least 10 ms asserted resets the module with cause 0x03 into Fill. -/
  | resetIn (p : Pulse) (heldMs : Nat)
  /-- `FILL_COMPLETE` (R536). Fill of table memory and DRAM completes and the cores are released into Load. -/
  | fillComplete (p : Pulse) (bad : List (MemRegion × Nat)) (f : BootFind)
  /-- `FILL_TIMEOUT` (R61). Fill not complete 0.6 s after reset: Markhor latches Safe cause 0x01 and asserts the safe outputs. -/
  | fillTimeout (p : Pulse)
  /-- `LOAD_COMPLETE` (R62). Load ends: the image is selected, patches replayed, migration done, and Survey starts. -/
  | loadComplete (x : LoadIn)
  /-- `LOAD_OVERRUN` (R521). Load not finished 2.4 s after Fill: Markhor restarts the runtime side and counts the failure. -/
  | loadOverrun (p : Pulse)
  /-- `FREEZE_TRIGGER` (R327). On a freeze trigger, Markhor holds the outputs, asserts DERATE_OUT and restarts the runtime side with cause 0x04. -/
  | freezeTrigger (p : Pulse) (diag : Fin 17)
  /-- `FREEZE_MAX_EXPIRY` (R327). Survey not completed within PROT_FREEZE_MAX of a freeze raises SF-12. -/
  | freezeMaxExpiry (p : Pulse)
  /-- `INPUT_LOSS_DECLARED` (R583). The input has been below 16 V for 200 µs: input loss is declared and the input-loss sequence or pair rule starts. -/
  | inputLossDeclared (p : Pulse)
  /-- `INPUT_LOSS_WAIT_END` (R584). At the end of PSV_LOSS_WAIT, Markhor opens each closed string below 5 % of rating. -/
  | inputLossWaitEnd (p : Pulse)
  /-- `INPUT_LOSS_FULL_PHASE_END` (R584). 150 ms after declaration, Markhor opens every string still closed and the last-gasp phase begins. -/
  | inputLossFullPhaseEnd (p : Pulse)
  /-- `INPUT_RETURNED` (R586). The input is back in range for 100 ms: the sequence is cancelled, or the module restarts with cause 0x02. -/
  | inputReturned (p : Pulse) (vin : Int)
  /-- `HOLDUP_EXHAUSTED` (R583). The hold-up bank is exhausted and the island loses supply, opening the safe outputs. -/
  | holdupExhausted (p : Pulse)
  /-- `HOLDUP_LOW_TIMEOUT` (R72). In Serve, hold-up charge below MODE_SERVE_HOLDUP for 10 s sets MODE_TARGET Idle or asks for a hand-over. -/
  | holdupLowTimeout (p : Pulse)
  /-- `HOLDUP_CAPACITY_MEASURE` (R582). The supervisor measures bank capacitance at the end of a charge and every 24 h. -/
  | holdupCapacityMeasure (p : Pulse) (cap : Nat) (full : Int)
  /-- `PSV_SUPPLY` (R605). The input leaves or re-enters 18 to 32 V and the change is journaled. -/
  | psvSupply (p : Pulse) (vin : Int)
  /-- `GRZ_SENSOR` (R364). A rail monitor, diode or base sensor fails or is restored, and a substitute value applies. -/
  | grzSensor (p : Pulse) (sensor : SensorId) (failed : Bool)
  /-- `UPLOAD_RECEIVED` (R98). An uplink UPLOAD arrives and is judged valid, counted, written to table memory and Markhor SRAM, and mirrored. -/
  | uploadReceived (p : Pulse) (port : PortIx) (u : UpFrame) (old : List MemErr)
  /-- `REPEAT_SEND` (R100). At pulse 205, REPEAT is sent on a port without a valid upload. -/
  | repeatSend (port : PortIx)
  /-- `LINK_LOST` (R112). After 5 consecutive missed frames, a RUN link context becomes LOST. -/
  | linkLost (port : PortIx)
  /-- `LINK_RECOVERED` (R112). After LINK_RECOVER_FRAMES valid uploads, a LOST context returns to RUN. -/
  | linkRecovered (port : PortIx)
  /-- `LINK_WAKE_RETRY` (R112). No valid upload 100 frames after a wake pattern: a new wake pattern is sent. -/
  | linkWakeRetry (port : PortIx)
  /-- `LINK_LOST_WAKE` (R112). After 200 missed frames, then every 1,000, a LOST port receives a wake pattern. -/
  | linkLostWake (port : PortIx)
  /-- `LINK_ALIGN_RETRY` (R112). 8 exchanges without acceptance start a new latency measurement and may set LINK_LAT_FAULT. -/
  | linkAlignRetry (port : PortIx)
  /-- `LINK_ECHO_INTERVAL` (R104). In RUN, the 8-exchange latency measurement repeats every LINK_ECHO_INTERVAL. -/
  | linkEchoInterval (port : PortIx)
  /-- `ECHO_REPLY` (R104). An ECHO_REPLY is timestamped, latency L is formed, and alignment may be accepted. -/
  | echoReply (p : Pulse) (port : PortIx) (h : LinkHead) (ticks : Nat)
  /-- `REG_DATA` (R105). A REG_DATA reply completes a register read or write transaction. -/
  | regData (p : Pulse) (port : PortIx) (h : LinkHead) (rstat addr count : Nat) (data : List Word)
  /-- `FW_ACK` (R147). An FW_ACK completes a firmware block transaction. -/
  | fwAck (p : Pulse) (port : PortIx) (h : LinkHead) (rstat blockNo : Nat)
  /-- `SECONDARY_TIMEOUT` (R105). No reply SFD within 2L + 6,200 ns: the transaction fails and is retried up to 3 times. -/
  | secondaryTimeout (p : Pulse) (port : PortIx)
  /-- `LINK_ALARM_TONE` (R108). The tone detector declares an alarm tone; in SLEEP it is the Rest wake alarm. -/
  | linkAlarmTone (p : Pulse) (port : PortIx)
  /-- `ESTIMATION_PASS` (R195). From pulse 420, Eland runs the estimation pass, thermal pass and Herd increments. -/
  | estimationPass (late : Nat)
  /-- `OUTPUT_QUEUE_OVERRUN` (R36). An output not queued by pulse 950 is not sent for the frame. -/
  | outputQueueOverrun (out : OutKind)
  /-- `FRAME_CLOSURE` (R551). From pulse 950, journals commit, lists are sent, the junction model and admission update, and events are pushed. -/
  | frameClosure (x : Sensors) (more : Nat)
  /-- `ELASTIC_RECOVERY` (R367). After 10,000 frames without overrun or power excess, the elastic level falls by 1. -/
  | elasticRecovery (p : Pulse)
  /-- `DERATE_CURRENT_EXCESS` (R358). Container current beyond the 2 s limit for 200 frames requests DERATE_OUT. -/
  | derateCurrentExcess (p : Pulse)
  /-- `DERATE_RELEASE` (R358). The DERATE_OUT request ends after 1 s without its conditions. -/
  | derateRelease (p : Pulse)
  /-- `ROSTER_COMPUTE` (R370). In frame 1,000N − 1, Graze computes the roster of second N. -/
  | rosterCompute (p : Pulse)
  /-- `PTP_SYNC` (R40). A PTP Sync or Follow_Up arrives and updates the filtered offset. -/
  | ptpSync (p : Pulse) (port : Fin 2) (m : PtpSync)
  /-- `PTP_ANNOUNCE` (R42). A PTP Announce arrives and the best master clock algorithm runs. -/
  | ptpAnnounce (p : Pulse) (port : Fin 2) (domain : Nat) (t : PtpTransport) (ann : Announce)
  /-- `PTP_PDELAY_REQ` (R41). A Pdelay_Req is answered under the power utility profile. -/
  | ptpPdelayReq (p : Pulse) (port : Fin 2)
  /-- `PTP_ANNOUNCE_TIMEOUT` (R46). The announce receipt timeout expires with no other master: the source is lost. -/
  | ptpAnnounceTimeout (p : Pulse) (port : Fin 2)
  /-- `PPS_EDGE` (R44). A PPS_IN edge marks pulse 0 of a second or serves frequency only. -/
  | ppsEdge (p : Pulse) (sub : Fin 1000) (falling : Bool) (late filter freq : Int)
  /-- `PPS_MISSING` (R46). Three consecutive expected PPS edges are missing or misplaced: the source is lost. -/
  | ppsMissing (p : Pulse)
  /-- `TIME_LOCKED` (R47). Offset within ±250 ns for 10 s: the timebase enters LOCKED. -/
  | timeLocked (p : Pulse)
  /-- `TIME_OFFSET_EXCURSION` (R49). Offset outside ±1 µs for 10 s in LOCKED returns the timebase to ACQUIRING. -/
  | timeOffsetExcursion (p : Pulse)
  /-- `TIME_ALIGN_LOST` (R48). The error bound exceeds TIME_ALIGN_LIMIT and TIME_ALIGNED clears. -/
  | timeAlignLost (p : Pulse)
  /-- `TIME_OSC_WARM` (R54). 15 min after power-on, the oscillator counts as warm. -/
  | timeOscWarm (p : Pulse)
  /-- `TIME_SET_TOD` (R44). Command giving the TAI second of the next PPS edge. -/
  | timeSetTod (id : Word)
  /-- `MODE_REQUEST_IDLE` (R71). Command to Idle: sets MODE_TARGET, aborts connects, zeroes limits and opens strings. -/
  | modeRequestIdle (id : Word)
  /-- `MODE_REQUEST_SERVE` (R70). Command to enter Serve when hold-up, OPEN string and latch conditions hold. -/
  | modeRequestServe (id : Word)
  /-- `MODE_REQUEST_REST` (R73). Command to enter Rest from Idle. -/
  | modeRequestRest (id : Word)
  /-- `MODE_REQUEST_MAINTAIN` (R76). Command to enter Maintain from Idle outside a pair. -/
  | modeRequestMaintain (id : Word)
  /-- `OPEN_WAIT_EXPIRY` (R71). MODE_OPEN_WAIT after a commanded opening, the string opens regardless of current. -/
  | openWaitExpiry (str : StrIx)
  /-- `MODE_SAFE_REQUEST` (R74). Partner command entering Safe with cause 0x05. -/
  | modeSafeRequest (id : Word)
  /-- `MODE_SAFE_RESET` (R75). Command clearing the Safe latch when its cause has cleared, then restarting with cause 0x05. -/
  | modeSafeReset (id : Word)
  /-- `MODE_RESTART` (R86). Command restarting the standby, or the module in Load hold or Maintain, with cause 0x08. -/
  | modeRestart (id : Word)
  /-- `MODE_STRING_ENABLE_ON` (R78). Command setting enable bits of named strings and clearing their retry counts. -/
  | modeStringEnableOn (id : Word)
  /-- `MODE_STRING_ENABLE_OFF` (R71). Command clearing enable bits, aborting connects and opening named strings. -/
  | modeStringEnableOff (id : Word)
  /-- `MODE_STRING_SERVICE` (R77). Command taking named strings to SERVICE. -/
  | modeStringService (id : Word)
  /-- `MODE_STRING_READMIT` (R79). Command clearing latches and Herd state and starting string surveys of SERVICE or UNSURVEYED strings. -/
  | modeStringReadmit (id : Word)
  /-- `MODE_STRING_RESET` (R311). Command clearing an ISOLATED latch whose causes have cleared and starting a string survey. -/
  | modeStringReset (id : Word)
  /-- `STRING_SURVEY_END` (R79). A string survey ends and the string becomes OPEN, UNSURVEYED or ISOLATED. -/
  | stringSurveyEnd (p : Pulse) (str : StrIx)
  /-- `OW_TEST_START` (R160). At the rotation slot, an open-wire test of a front end starts with pattern 1. -/
  | owTestStart (port : PortIx)
  /-- `OW_TEST_EVALUATE` (R163). At pulse 450 of T + 2, Markhor evaluates the test, judges void and declares wire faults. -/
  | owTestEvaluate (port : PortIx)
  /-- `OW_TEST_RETRY` (R161). A void test is started again at T + 5, up to twice more. -/
  | owTestRetry (port : PortIx)
  /-- `BLOCK_TRIGGERED_TEST` (R161). A block-triggered open-wire test starts in the first frame with the port in RUN and no other test. -/
  | blockTriggeredTest (port : PortIx)
  /-- `MEAS_BLOCK_FAULT` (R172). After 10 failing block comparisons, the port's cells are flagged BLK. -/
  | measBlockFault (p : Pulse) (port : PortIx)
  /-- `BLK_CLEAR` (R172). After 10 passing comparisons, BLK clears. -/
  | blkClear (p : Pulse) (port : PortIx)
  /-- `STRING_SUM_FAULT` (R173). String block sum against VSTR failing for 100 frames is an unlocated wire fault. -/
  | stringSumFault (str : StrIx)
  /-- `WIRE_OPEN_DEADLINE` (R165). MEAS_OW_DEADLINE after declaration, the string is opened by SF-07 regardless of current. -/
  | wireOpenDeadline (p : Pulse) (str : StrIx)
  /-- `THERMISTOR_OPEN_FAULT` (R167). Two consecutive open or shorted readings make a thermistor broken. -/
  | thermistorOpenFault (p : Pulse) (port : PortIx) (t : Fin 16)
  /-- `THERMISTOR_DISAGREE` (R167). A thermistor disagreeing with its expected value for MEAS_TH_PERSIST becomes broken. -/
  | thermistorDisagree (p : Pulse) (port : PortIx) (t : Fin 16)
  /-- `THERMISTOR_RESTORED` (R168). A broken thermistor within 5 K of expectation for 60 s is restored. -/
  | thermistorRestored (p : Pulse) (port : PortIx) (t : Fin 16)
  /-- `MARKHOR_TH_RESTORE` (R304). Markhor restores a thermistor once its own copies show no open or shorted reading for 60 s. -/
  | markhorThRestore (p : Pulse) (port : PortIx) (t : Fin 16)
  /-- `EST_REST_START` (R201). The string has been at rest for EST_REST_MIN and a rest episode begins. -/
  | estRestStart (p : Pulse) (str : StrIx)
  /-- `EST_REQUEST_REPEAT` (R203). A standing reference request is journaled again every EST_REQ_REPEAT. -/
  | estRequestRepeat (p : Pulse) (str : StrIx)
  /-- `EST_REFERENCE_GRANT` (R204). Command opening an excursion on named strings. -/
  | estReferenceGrant (id : Word)
  /-- `EXCURSION_DURATION_END` (R205). The granted duration elapses and the excursion ends. -/
  | excursionDurationEnd (p : Pulse) (str : StrIx)
  /-- `PLATE_SOURCE_INVALID` (R224). No HVAC_BUDGET for 1 s makes the plate source invalid and the fallback applies. -/
  | plateSourceInvalid (p : Pulse) (str : StrIx)
  /-- `HERD_SWEEP_DONE` (R237). An admitted sweep completes and scores features and advances levels. -/
  | herdSweepDone (p : Pulse)
  /-- `COMMAND_WORD` (R269). Each pulse, a command word with GATE, TRIP, contactors and PSEQ is sent on each power port. -/
  | commandWord (str : StrIx) (icur vstr vbus : BitVec 20) (peer : BitVec 42) (cur : Int)
  /-- `STATUS_WORD` (R275). A status word arrives and is checked, echoed and passed to Markhor. -/
  | statusWord (str : StrIx) (line : BitVec 42)
  /-- `BITSTREAM_STUCK` (R267). 64 equal bits make a channel invalid. -/
  | bitstreamStuck (p : Pulse) (str : StrIx) (chan : Fin 3)
  /-- `BITSTREAM_RECOVER` (R267). 1,000 pulses without a stuck run make the channel valid again. -/
  | bitstreamRecover (p : Pulse) (str : StrIx) (chan : Fin 3)
  /-- `STATUS_STREAM_INVALID` (R276). The fourth consecutive bad status word makes the stream invalid. -/
  | statusStreamInvalid (p : Pulse) (str : StrIx)
  /-- `STATUS_STREAM_VALID` (R276). 1,000 consecutive valid status words make the stream valid again. -/
  | statusStreamValid (p : Pulse) (str : StrIx)
  /-- `PP_ECHO_FAULT` (R277). 3 consecutive echo mismatches make an echo fault. -/
  | ppEchoFault (p : Pulse) (str : StrIx)
  /-- `ECHO_FAULT_CLEAR` (R277). 1,000 consecutive matching checked pulses clear the echo fault. -/
  | echoFaultClear (p : Pulse) (str : StrIx)
  /-- `PP_IMPLAUSIBLE` (R283). 8 residuals beyond tolerance declare the current feedback implausible. -/
  | ppImplausible (p : Pulse) (str : StrIx)
  /-- `CONTACTOR_CLOSE_TIMEOUT` (R285). Auxiliaries not closed within PP_K_CLOSE abort the connect with cause 0x03. -/
  | contactorCloseTimeout (p : Pulse) (str : StrIx)
  /-- `LOOP_PHASE_START` (R285). 20 ms after both auxiliaries close, the loop phase starts. -/
  | loopPhaseStart (p : Pulse) (str : StrIx)
  /-- `HANDOVER_WINDOW_OPEN` (R284). PP_CONV_PULSES converged pulses open the 2 ms hand-over window. -/
  | handoverWindowOpen (p : Pulse) (str : StrIx)
  /-- `HANDOVER_WINDOW_EXPIRE` (R284). The window ends without the output on and the connect aborts with cause 0x05. -/
  | handoverWindowExpire (p : Pulse) (str : StrIx)
  /-- `CONN_TIME_EXPIRE` (R286). The loop phase lasts PP_CONN_TIME without a window and the connect aborts with cause 0x04. -/
  | connTimeExpire (p : Pulse) (str : StrIx)
  /-- `OPEN_CURRENT_LOW` (R288). ICUR below 1 A for 100 pulses: KPOS and KNEG are set to 0. -/
  | openCurrentLow (p : Pulse) (str : StrIx)
  /-- `LOOP_OUTPUT_FAULT` (R291). A thermal output reports short circuit, open load or over-temperature. -/
  | loopOutputFault (p : Pulse) (out : Fin 16) (faults : BitVec 3)
  /-- `THERMAL_OUTPUT_RETRY` (R291). A shorted thermal output is retried once per second. -/
  | thermalOutputRetry (p : Pulse) (out : Fin 16)
  /-- `SF04_TRIP` (R317). Two coarse outputs at or above threshold, or DESAT, set TRIP in hardware. -/
  | sf04Trip (p : Pulse) (str : StrIx)
  /-- `SF05_CHECK` (R318). At pulse 12, the I²t accumulator is updated and its stages decided. -/
  | sf05Check (str : StrIx)
  /-- `SF06_WARNING` (R319). 5 consecutive missed frames on a port raise the SF-06 warning. -/
  | sf06Warning (port : PortIx)
  /-- `SF06_TRIP` (R319). 100 consecutive missed frames trip SF-06. -/
  | sf06Trip (port : PortIx)
  /-- `SF06_RELEASE` (R319). All ports valid for PROT_SF06_RELEASE frames end the SF-06 warning. -/
  | sf06Release (str : StrIx)
  /-- `ILK_INPUT_CHANGE` (R320). An interlock channel changes its reading. -/
  | ilkInputChange (p : Pulse) (ilk : Fin 4) (loop contact : Bool)
  /-- `ILK_FAULT` (R320). A faulted condition lasting PROT_ILK_DEBOUNCE trips SF-08 or SF-11. -/
  | ilkFault (p : Pulse) (ilk : Fin 4)
  /-- `SF09_AUX_TIMEOUT` (R321). An auxiliary contact in the wrong state for 200 ms trips SF-09. -/
  | sf09AuxTimeout (p : Pulse) (str : StrIx)
  /-- `SF12_FAULT` (R323). An internal fault: the collector trips all ports, asserts outputs and enters Safe cause 0x02. -/
  | sf12Fault (p : Pulse) (diag : Fin 17) (detail : Word)
  /-- `PROT_WARNING_RELEASE` (R306). A warning condition absent for PROT_W_RELEASE ends with its actions. -/
  | protWarningRelease (p : Pulse) (str : StrIx) (fn : Fin 12)
  /-- `INHIBIT_ENFORCE` (R308). Current beyond an inhibit for PROT_INH_TIME takes the trip stage. -/
  | inhibitEnforce (p : Pulse) (str : StrIx)
  /-- `MODEL_INPUT_STALE` (R304). A model input older than 2 s is stale and SF-03 uses thermistors alone. -/
  | modelInputStale (p : Pulse) (str : StrIx)
  /-- `CLOCK_MONITOR_FAULT` (R324). A clock domain is lost or off by more than 5 %. -/
  | clockMonitorFault (p : Pulse) (domain : ClockDomain)
  /-- `FRAME_STROBE_FAULT` (R325). Strobe intervals out of tolerance or a missing strobe raise SF-12. -/
  | frameStrobeFault (p : Pulse) (interval : Option Nat)
  /-- `SAFE_OUT_READBACK` (R324). Every 10 ms, SAFE_OUT contacts are read back. -/
  | safeOutReadback (p : Pulse) (a b : Bool)
  /-- `LIMIT_CHECKER_SELFTEST` (R324). Every second, values near each limit are injected into the checker. -/
  | limitCheckerSelftest (p : Pulse) (v : Verdict)
  /-- `FRAME_TOKEN_MISSING` (R324). 10 missing runtime frame tokens trigger a freeze. -/
  | frameTokenMissing (p : Pulse)
  /-- `IMAGE_CRC_CHECK` (R324). Every 24 h, the boot ROM and Markhor image CRCs are checked. -/
  | imageCrcCheck (p : Pulse) (v : Verdict)
  /-- `PROT_ALARM_ACK` (R312). Command acknowledging matching unacknowledged alarms. -/
  | protAlarmAck (id : Word)
  /-- `DSP_SOC_WINDOW` (R360). Command replacing the SoC window of every string. -/
  | dspSocWindow (id : Word)
  /-- `LONE_NODE_OPEN_TIMEOUT` (R466). 2 s after the PCS became unreachable, remaining strings open regardless of current. -/
  | loneNodeOpenTimeout (p : Pulse) (str : StrIx)
  /-- `PAIR_HEARTBEAT_SEND` (R381). At pulses 0, 100 … 900, each module sends HEARTBEAT. -/
  | pairHeartbeatSend (n : Fin 10)
  /-- `PAIR_HEARTBEAT_RX` (R378). A peer heartbeat arrives and may change the pair state or start a copy epoch. -/
  | pairHeartbeatRx (p : Pulse) (h : PairHb)
  /-- `PAIR_MIRROR_RX` (R384). A mirrored upload arrives from the peer. -/
  | pairMirrorRx (p : Pulse) (port : PortIx) (d : UpData)
  /-- `PAIR_SUMMARY_RX` (R386). The peer's Markhor summary arrives. -/
  | pairSummaryRx (p : Pulse) (x : Summary)
  /-- `PAIR_ASSIGN_RX` (R385). An assignment arrives and fixes the inputs of a frame. -/
  | pairAssignRx (p : Pulse) (frame : Nat) (items : List PairItem) (ai : List Int)
  /-- `PAIR_LIST_RX` (R385). The standby's LIST arrives at the active. -/
  | pairListRx (p : Pulse) (frame : Nat) (items : List PairItem) (tj power : Int) (holdup : Nat)
  /-- `PAIR_DIGEST_RX` (R390). The peer's digest arrives for comparison. -/
  | pairDigestRx (p : Pulse) (frame : Nat) (crcs : List Word)
  /-- `PAIR_STEP_RX` (R57). A step announcement arrives and both modules step at its boundary. -/
  | pairStepRx (p : Pulse) (boundary number : Nat)
  /-- `PAIR_HANDOVER_RX` (R403). A HANDOVER announcement fixes hand-over frame H. -/
  | pairHandoverRx (p : Pulse) (frame kind : Nat) (cmd : Word)
  /-- `PAIR_TIME_SET_RX` (R56). A joiner takes the active's local time and pulse counters. -/
  | pairTimeSetRx (p : Pulse) (e : EpochIn)
  /-- `COPY_PAGE_RX` (R393). A COPY_PAGE arrives and is checked and acknowledged. -/
  | copyPageRx (p : Pulse) (page : Fin 708) (epoch : Nat) (crcOk : Bool)
  /-- `COPY_ACK_RX` (R393). The joiner's acknowledgement of 16 pages arrives. -/
  | copyAckRx (p : Pulse) (pages : List Nat)
  /-- `COPY_PAGE_RESEND` (R393). A page unacknowledged for 2 frames is sent again. -/
  | copyPageResend (p : Pulse) (page : Fin 708)
  /-- `LOOP_LIVE_RX` (R393). The live loop contexts and accumulators arrive. -/
  | loopLiveRx (p : Pulse) (frame : Nat) (loops : List LoopSt) (sums : List Sums)
  /-- `REPLAY_CAUGHT_UP` (R394). The joiner catches up, loads LOOP_LIVE and starts digests. -/
  | replayCaughtUp (c : CopyIn)
  /-- `CHG_IN_CHANGE` (R378). The peer's charge line changes state. -/
  | chgInChange (p : Pulse) (up : Bool)
  /-- `PAIR_TAKEOVER` (R397). The takeover condition makes the module LONE. -/
  | pairTakeover (p : Pulse) (silent : Bool)
  /-- `PAIR_PEER_LOST` (R378). No heartbeat for 500 µs: the peer is lost. -/
  | pairPeerLost (p : Pulse)
  /-- `PAIR_LISTEN_TIMEOUT` (R391). The listen time elapses without an active peer and the module becomes LONE. -/
  | pairListenTimeout (p : Pulse)
  /-- `PAIR_JOIN_TIMEOUT` (R395). A join not reaching STANDBY within PAIR_JOIN_MAX fails. -/
  | pairJoinTimeout (p : Pulse)
  /-- `PAIR_DETACH_WAIT_END` (R378). PAIR_DETACH_WAIT elapses and a DETACHED module tries to join again. -/
  | pairDetachWaitEnd (p : Pulse)
  /-- `PAIR_ASSIGN_MISSING` (R387). A missing assignment or summary sends the standby to JOINING. -/
  | pairAssignMissing (p : Pulse)
  /-- `PAIR_HOME_HOLD_EXPIRY` (R404). Slot A in STANDBY for PAIR_HOME_HOLD asks for return home. -/
  | pairHomeHoldExpiry (p : Pulse)
  /-- `PAIR_HANDOVER_FRAME` (R403). At frame H, the roles swap. -/
  | pairHandoverFrame (late : Bool)
  /-- `PAIR_HANDOVER` (R405). Command for a planned hand-over. -/
  | pairHandover (id : Word)
  /-- `SESSION_OPEN` (R414). A partner SESSION_OPEN is verified and answered. -/
  | sessionOpen (p : Pulse) (m : SiteIn) (o : OpenIn)
  /-- `SESSION_CLOSE` (R414). The partner closes the session. -/
  | sessionClose (p : Pulse) (m : SiteIn) (code : BitVec 16)
  /-- `SITE_HEARTBEAT_RX` (R415). A partner heartbeat opens or refreshes the session. -/
  | siteHeartbeatRx (p : Pulse) (m : SiteIn)
  /-- `SESSION_OPENING_TIMEOUT` (R414). No tagged message within 1 s of opening returns the session to NONE. -/
  | sessionOpeningTimeout (p : Pulse)
  /-- `SESSION_LAPSE` (R414). 3 s without a valid partner message ends the session. -/
  | sessionLapse (p : Pulse)
  /-- `COMMAND` (R420). A partner COMMAND enters the ledger as PENDING or is answered from it. -/
  | command (p : Pulse) (m : SiteIn) (id : Word) (code : BitVec 16) (body : Bytes)
  /-- `COMMAND_STATUS` (R423). A ledger entry is returned, or UNKNOWN. -/
  | commandStatus (p : Pulse) (m : SiteIn) (id : Word)
  /-- `STATUS_READ` (R412). A status object is read and returned. -/
  | statusRead (p : Pulse) (m : SiteIn) (index : BitVec 16)
  /-- `WINDOW_READ` (R430). A chunk of a partner-owned page image is returned. -/
  | windowRead (p : Pulse) (m : SiteIn) (page : Fin 16384) (gen : BitVec 16) (chunk : Fin 4)
  /-- `WINDOW_WRITE` (R431). 1,024 bytes are written to a partner-owned inbound page. -/
  | windowWrite (p : Pulse) (m : SiteIn) (page : Fin 16384) (gen : BitVec 16) (chunk : Fin 4) (data : Bytes)
  /-- `PAGE_RELEASE` (R432). Partner-owned pages are freed. -/
  | pageRelease (p : Pulse) (m : SiteIn) (entries : List (Nat × Nat))
  /-- `PAGE_CLAIM` (R433). Inbound pages are granted to the partner. -/
  | pageClaim (p : Pulse) (m : SiteIn) (count : Nat)
  /-- `PAGE_RETURN` (R434). Written inbound pages return to the module after length and CRC checks. -/
  | pageReturn (p : Pulse) (m : SiteIn) (entries : List (Nat × Nat × Nat × Word))
  /-- `INBOUND_PAGE_EXPIRE` (R435). A returned page no command names within 60 s expires and is freed. -/
  | inboundPageExpire (p : Pulse) (page : Fin 16384)
  /-- `TRIP_CAPTURE` (R438). A trip capture of 40,000 pulses completes and waits for pages. -/
  | tripCapture (p : Pulse) (str : StrIx) (samples : Bytes)
  /-- `PCS_STATE_RX` (R453). A PCS_STATE frame is accepted and its current and demand are taken. -/
  | pcsStateRx (p : Pulse) (ctl : Fin 2) (f : CanFrame) (full : Bool)
  /-- `HVAC_BUDGET_RX` (R452). A HVAC_BUDGET frame updates the coolant budget and supply temperature. -/
  | hvacBudgetRx (p : Pulse) (ctl : Fin 2) (f : CanFrame) (full : Bool)
  /-- `FIRE_STATUS_RX` (R454). A FIRE_STATUS frame is reported only. -/
  | fireStatusRx (p : Pulse) (ctl : Fin 2) (f : CanFrame) (full : Bool)
  /-- `IMD_STATUS_RX` (R454). An IMD_STATUS frame is reported only. -/
  | imdStatusRx (p : Pulse) (ctl : Fin 2) (f : CanFrame) (full : Bool)
  /-- `PCS_STATE_TIMEOUT` (R465). No valid PCS_STATE within CAN_PCS_TIMEOUT makes the PCS unreachable. -/
  | pcsStateTimeout (p : Pulse)
  /-- `CAN_TX_DONE` (R457). A frame is sent and acknowledged and the object takes its next content. -/
  | canTxDone (p : Pulse) (ctl : Fin 2) (obj : Fin 7) (sof : Nat) (early : Bool)
  /-- `CAN_TX_FAIL` (R456). An attempt fails; after 8 the content is UNDELIVERED or dropped. -/
  | canTxFail (p : Pulse) (ctl : Fin 2) (obj : Fin 7) (err : TxError) (early : Bool)
  /-- `CAN_BUS_OFF` (R448). A controller goes bus-off. -/
  | canBusOff (p : Pulse) (ctl : Fin 2)
  /-- `CAN_BUSOFF_RECOVERED` (R448). Bus-off recovery completes and the controller detects or runs. -/
  | canBusoffRecovered (p : Pulse) (ctl : Fin 2)
  /-- `CAN_DETECT_DWELL` (R447). A candidate rate pair is held CAN_DWELL and the next is tried. -/
  | canDetectDwell (p : Pulse) (ctl : Fin 2)
  /-- `CAN_DETECT_ACCEPT` (R447). 3 error-free frames accept a rate pair and the controller runs. -/
  | canDetectAccept (p : Pulse) (ctl : Fin 2)
  /-- `CAN_DETECT_TIMEOUT` (R447). CAN_DETECT_TO elapses and the configured pair is taken. -/
  | canDetectTimeout (p : Pulse) (ctl : Fin 2)
  /-- `CAN_LONE` (R464). 16 ACK errors and 100 ms without a frame put the controller in LONE. -/
  | canLone (p : Pulse) (ctl : Fin 2)
  /-- `CAN_PROBE` (R464). In LONE, a PROBE is sent by transmit-at-time every 100 frames. -/
  | canProbe (ctl : Fin 2)
  /-- `CAN_STANDBY_TIME_REF` (R460). A standby hearing no TIME_REF for 30 ms sends its own. -/
  | canStandbyTimeRef (ctl : Fin 2)
  /-- `CAN_CLASH` (R458). An identifier clash disables the object. -/
  | canClash (p : Pulse) (ctl : Fin 2) (obj : Fin 7)
  /-- `TRANSMIT_AT_TIME` (R461). A MODULE_STATE at pulse 500 after RUN in Survey records its start-of-frame instant. -/
  | transmitAtTime (ctl : Fin 2)
  /-- `TW_ADDRESS` (R473). An address byte on the two-wire bus is acknowledged, refused while asleep, or latches the read image. -/
  | twAddress (p : Pulse) (address : BitVec 7) (read : Bool) (sent : Nat)
  /-- `TW_REGISTER_ADDRESS` (R473). A register address byte becomes the pointer at the end of the transaction. -/
  | twRegisterAddress (p : Pulse) (reg : Byte)
  /-- `TW_STOP` (R474). A STOP commits written data bytes in order. -/
  | twStop (p : Pulse) (sent : Nat) (data : Bytes)
  /-- `TW_SAFE_REQ_ARM` (R480). A committed 0xA5 to TW_SAFE_REQ arms the safe-state request. -/
  | twSafeReqArm (p : Pulse)
  /-- `TW_SAFE_REQ_COMPLETE` (R481). A committed 0x5A within 100 ms completes the request: Safe cause 0x04. -/
  | twSafeReqComplete (p : Pulse)
  /-- `TW_SAFE_REQ_DISARM` (R480). Any other value written disarms the request. -/
  | twSafeReqDisarm (p : Pulse) (value : Byte)
  /-- `TW_ARM_TIMEOUT` (R480). 100 ms after arming without completion disarms the request. -/
  | twArmTimeout (p : Pulse)
  /-- `TW_WRITE_DISCARD` (R474). A data byte written to any other register is not acknowledged and is discarded. -/
  | twWriteDiscard (p : Pulse)
  /-- `TW_BAD_CONDITION` (R475). A START or STOP at a wrong bit position ends the transaction without writing. -/
  | twBadCondition (p : Pulse) (start : Bool)
  /-- `TW_S_PORT_READ_CLEAR` (R482). Reading TW_S_PORT returns and clears its flags. -/
  | twSPortReadClear (p : Pulse)
  /-- `TW_STRETCH_TIMEOUT` (R477). Clock stretching reaching 10 ms releases the lines and resets the transaction. -/
  | twStretchTimeout (p : Pulse)
  /-- `TW_STUCK_BUS` (R478). SCL or SDA low for 35 ms resets pointers and disarms the request. -/
  | twStuckBus (p : Pulse) (sda : Bool)
  /-- `TW_SLEEP` (R479). In Rest, 2 s without a START puts the port to sleep. -/
  | twSleep (p : Pulse)
  /-- `CFG_PATCH` (R502). Command for calibration patches, judged whole with Markhor confirmation. -/
  | cfgPatch (id : Word)
  /-- `CFG_PATCH_APPLY` (R503). At pulse 0 after the effective frame, the patch is applied. -/
  | cfgPatchApply (id : Word)
  /-- `CFG_PATCH_PERSISTED` (R503). The patch is appended to the patch area, compacting if needed. -/
  | cfgPatchPersisted (id : Word) (flash : Verdict)
  /-- `CFG_IMAGE_STAGE` (R497). Command staging a new image into the target slot. -/
  | cfgImageStage (id : Word)
  /-- `CFG_STAGE_STEP_DONE` (R499). A module's staging step completes or fails. -/
  | cfgStageStepDone (id : Word) (step : Nat) (st : Status) (chain cred : Verdict)
  /-- `CFG_FACTORY_CAL` (R508). Command writing the module calibration block to the factory sector. -/
  | cfgFactoryCal (id : Word) (flash : Verdict)
  /-- `UPD_STAGE_MANIFEST` (R516). Command accepting a manifest into Velvet. -/
  | updStageManifest (id : Word)
  /-- `UPD_STAGE_BLOCKS` (R516). Command writing image blocks to Velvet and verifying when complete. -/
  | updStageBlocks (id : Word)
  /-- `UPD_STAGE_ABANDON` (R516). Command setting Velvet IDLE. -/
  | updStageAbandon (id : Word)
  /-- `UPD_STEP_DONE` (R515). A named module's update step completes or fails. -/
  | updStepDone (id : Word) (step code block : Nat)
  /-- `UPD_VERIFY` (R517). After Survey, a complete Velvet download is verified as deferrable work. -/
  | updVerify (code block : Nat)
  /-- `UPD_ACTIVATE` (R518). Command activating Velvet on one named module. -/
  | updActivate (id : Word)
  /-- `UPD_CONFIRM` (R527). Command hardening the trial bank and raising the rollback counter. -/
  | updConfirm (id : Word)
  /-- `UPD_CLEAN_RUN_REACHED` (R526). The trial's clean run reaches UPD_CONFIRM_TIME and auto-confirms. -/
  | updCleanRunReached (otp : Verdict)
  /-- `CFE_FW_UPDATE` (R530). Command sending firmware to a front end and restarting it. -/
  | cfeFwUpdate (id : Word)
  /-- `CFE_FW_RETURN_TIMEOUT` (R530). The port does not return on the new image within 1 s. -/
  | cfeFwReturnTimeout (port : PortIx)
  /-- `SYS_OTP_PROVISION` (R574). Command writing a Maker root key into an OTP root slot. -/
  | sysOtpProvision (id : Word)
  /-- `ACC_KEY_ROTATE_RETIRE` (R575). Command retiring the current Maker root. -/
  | accKeyRotateRetire (id : Word)
  /-- `ACC_KEY_ROTATE_DENY` (R575). Command adding a fingerprint to the OTP deny list. -/
  | accKeyRotateDeny (id : Word)
  /-- `ACC_DEBUG_UNLOCK` (R576). Command entering Safe cause 0x06 and restarting with the debug port open. -/
  | accDebugUnlock (id : Word)
  /-- `DEBUG_SESSION_CLOSED` (R576). The debug session closes. -/
  | debugSessionClosed (p : Pulse)
  /-- `SCRUB_BURST` (R546). An admitted scrub burst reads and corrects blocks. -/
  | scrubBurst (dram : Bool) (pos : Fin 1001) (errs : List MemErr)
  /-- `MARKHOR_SCRUB` (R546). Markhor's engine scrubs its SRAM in idle time. -/
  | markhorScrub (p : Pulse) (errs : List MemErr)
  /-- `MEM_SCRUB` (R547). A pass not ended after twice its interval sets the late flag. -/
  | memScrub (p : Pulse) (dram : Bool)
  /-- `HEALTH_RECORD_WRITE` (R545). Remap and error tables are written to MRAM within 1 s of a change. -/
  | healthRecordWrite (p : Pulse)
  /-- `WEAR_WRITE` (R555). The wear record is written to mirror and carrier hourly or on a triggering change. -/
  | wearWrite (carrier : Verdict)
  /-- `WEAR_CARRIER_RETRY` (R556). A failed carrier write is retried at the next second. -/
  | wearCarrierRetry (carrier : Verdict)
  /-- `CFE_WEAR_COMMIT_CHECK` (R558). A front-end commit not seen valid within 200 ms is retried once. -/
  | cfeWearCommitCheck (p : Pulse) (port : PortIx)
  /-- `FE_SAMPLE` (R120). Front end: the first valid SAMPLE of a frame fixes the sample instant. -/
  | feSample (port : PortIx) (side : Slot) (h : LinkHead) (delay : Nat) (conv : Bool) (inp : FeIn) (owBad : BitVec 65)
  /-- `FE_CONTROL` (R95). Front end: CONTROL from the authority port applies mask, pattern and queued writes. -/
  | feControl (port : PortIx) (side : Slot) (h : LinkHead) (mask : BitVec 64) (pat : Fin 3) (sleep : Bool) (writes : List (Nat × Word)) (fw : Verdict) (ver : Word)
  /-- `FE_CONTROL_MISSING` (R95). Front end: no valid CONTROL by pulse 40 gives a zero mask and CTRL_MISSING. -/
  | feControlMissing (port : PortIx)
  /-- `FE_UPLOAD` (R96). Front end: the upload is sent on both ports at pulse 100. -/
  | feUpload (port : PortIx)
  /-- `FE_REPEAT` (R101). Front end: a valid REPEAT resends the upload at pulse 220. -/
  | feRepeat (p : Pulse) (port : PortIx) (side : Slot) (h : LinkHead)
  /-- `FE_REG_READ` (R143). Front end: REG_READ returns registers. -/
  | feRegRead (p : Pulse) (port : PortIx) (side : Slot) (h : LinkHead) (addr : Nat) (count : Fin 33)
  /-- `FE_REG_WRITE` (R144). Front end: a write to registers without their own row is applied wholly or refused. -/
  | feRegWrite (p : Pulse) (port : PortIx) (side : Slot) (h : LinkHead) (addr : Nat) (data : List Word) (fw : Verdict) (ver : Word)
  /-- `FE_WEAR_COMMIT` (R146). Front end: a write of the shadow's CRC to WEAR_COMMIT commits the wear copy. -/
  | feWearCommit (p : Pulse) (port : PortIx) (side : Slot) (h : LinkHead) (crc : Word)
  /-- `FE_FW_RESTART` (R148). Front end: FW_CTRL with key and FW_RESTART validates the bank and restarts at pulse 900. -/
  | feFwRestart (p : Pulse) (port : PortIx) (side : Slot) (h : LinkHead) (sel : Fin 2) (fw : Verdict) (ver : Word)
  /-- `FE_ALARM_CLEAR` (R141). Front end: writing 1 to ALARM bits clears them. -/
  | feAlarmClear (p : Pulse) (port : PortIx) (side : Slot) (h : LinkHead) (v : Word)
  /-- `FE_FW_BLOCK` (R147). Front end: FW_BLOCK writes image bytes to a bank. -/
  | feFwBlock (p : Pulse) (port : PortIx) (side : Slot) (h : LinkHead) (bank blockNo : Nat) (data : Bytes)
  /-- `FE_ECHO` (R104). Front end: ECHO is answered 4,000 ns after its reference edge. -/
  | feEcho (p : Pulse) (port : PortIx) (side : Slot) (h : LinkHead)
  /-- `FE_SLEEP_ENTRY` (R138). Front end: SLEEP from the authority enters sleep at pulse 900. -/
  | feSleepEntry (port : PortIx)
  /-- `FE_SLEEP_TIMEOUT` (R138). Front end: 200 ms without a valid downlink frame enters sleep. -/
  | feSleepTimeout (p : Pulse) (port : PortIx)
  /-- `FE_SLEEP_CONVERSION` (R139). Front end: sleep conversions check limits and set balancing. -/
  | feSleepConversion (p : Pulse) (port : PortIx) (inp : FeIn)
  /-- `FE_ALARM_TONE_SEND` (R141). Front end: a new alarm bit sends the tone, repeated every 10 s. -/
  | feAlarmToneSend (p : Pulse) (port : PortIx) (waking : Bool)
  /-- `FE_WAKE` (R142). Front end: a valid wake pattern wakes it. -/
  | feWake (p : Pulse) (port : PortIx)
  /-- `REF10_IN_CHANGE` (R45). REF10_IN comes within, or leaves, ±10 ppm of 10 MHz, and the timebase's frequency source changes. -/
  | ref10InChange (p : Pulse) (good : Bool) (freq : Int)
  /-- `FE_AUTHORITY_EXPIRY` (R136). 10 ms pass since a port's last valid downlink frame with ROLE 0b01, so the front end's authority port or role conflict changes. -/
  | feAuthorityExpiry (p : Pulse) (port : PortIx) (side : Slot)
  /-- `FE_WEAR_COMMIT_DONE` (R146). A front-end wear commit finishes within 200 ms: WEAR_BUSY clears and WEAR_SEQ rises. -/
  | feWearCommitDone (p : Pulse) (port : PortIx)
  /-- `FE_FW_BLOCK_PROGRAMMED` (R147). A buffered firmware block finishes flash programming, which frees buffer space and clears FW_BUSY. -/
  | feFwBlockProgrammed (p : Pulse) (port : PortIx)
  /-- `FE_POWER_ON` (R145). A front end powers on, or resets with its block below 20 V or by watchdog, sets its registers to reset values and checks CAL_CRC. -/
  | fePowerOn (p : Pulse) (port : PortIx) (cause : FeCause) (fellBack : Bool) (newer older : Verdict)
  /-- `STAGE_LOSS_OF_BOTH_INPUTS` (R274). A power stage has had no valid word on either input for 20 ms, so it turns the switch off and opens its contactors. -/
  | stageLossOfBothInputs (p : Pulse) (str : StrIx) (low : Bool)
  /-- `CAN_FRAME_RX` (R448). A CAN frame from another node is received, outside the four accepted message types, and takes LONE to RUN, counts toward rate detection, or reveals an identifier clash. -/
  | canFrameRx (p : Pulse) (ctl : Fin 2) (f : CanFrame)
  /-- `PAIR_LANE_CHANGE` (R381). One pair-link lane fails or returns, so traffic moves to the other lane and PAIR_LINK is journaled. -/
  | pairLaneChange (p : Pulse) (lane : Fin 2) (up : Bool)
  /-- `SITE_PORT_LINK_CHANGE` (R416). A site Ethernet port's link goes down or comes up, so the module sends on the other port and subsystem 17 changes health. -/
  | sitePortLinkChange (p : Pulse) (port : Fin 2) (up : Bool)
  /-- `ANALOG_INPUT_CONVERSION` (R595). At pulse 900 of every frame, AI0 to AI7 are converted and reported, and are used for plate sources, loops and the pair's LIST. -/
  | analogInputConversion (vals : List Int)
  /-- `SURVEY_END` (R66). Survey steps done or 6 s elapsed: each string takes its state and the module takes its mode. -/
  | surveyEnd
  /-- `RESTART_AT_PULSE_999` (R86). A module due to restart after MODE_RESTART or MODE_SAFE_RESET restarts at pulse 999 of the effective frame. -/
  | restartAtPulse999
  /-- `FRAME_STROBE` (R32). Pulse 0 of a frame: mode and roster changes, SAMPLE and CONTROL issue, command evaluation, and thermal loops. -/
  | frameStrobe
  /-- `SECOND_BOUNDARY` (R34). Pulse 0 of a second: PPS_OUT edge, lead and candidate cells, balancing budget, snapshot and sweep start. -/
  | secondBoundary
  /-- `PORT_RESULT` (R114). At pulse 400, the valid or missed result of each port goes to Markhor and link counters. -/
  | portResult
  /-- `REST_WAKE_BURST` (R113). Every 60 s in Rest, the front ends are woken and sampled 10 frames at full rate. -/
  | restWakeBurst
  /-- `MARKHOR_SUMMARY` (R386). At pulse 800, each module sends its Markhor summary. -/
  | markhorSummary
  /-- `ELAND_OVERRUN` (R36). At pulse 900, Eland stops and unreached cells are flagged stale. -/
  | elandOverrun
  /-- `ENVELOPE` (R346). At pulse 820, the envelope computes string and module limits, the voltage window and outputs. -/
  | envelope
  /-- `WINDOW_HANDOVER_SLOT` (R428). Pending page ownership changes are applied between pulses 820 and 950, including GIVE. -/
  | windowHandoverSlot
  /-- `ENVELOPE_OVERRUN` (R36). An envelope not complete by pulse 950 repeats the last envelope marked stale. -/
  | envelopeOverrun
  /-- `ENVELOPE_OVERRUN_ZERO` (R36). From the 11th consecutive envelope overrun, all charge and discharge limits sent are 0. -/
  | envelopeOverrunZero
  /-- `JOURNAL_COMMIT_OVERRUN` (R36). Records not committed by pulse 999 stay queued for the next closure. -/
  | journalCommitOverrun
  /-- `TIER_PERMIT` (R155). At pulse 990, Markhor computes each string's conversion tier permit. -/
  | tierPermit
  /-- `TIME_STEP` (R52). At a permitted frame boundary, the frame number is stepped by the whole offset. -/
  | timeStep
  /-- `HERD_SWEEP_SKIP` (R237). A sweep unfinished by its deadline is abandoned. -/
  | herdSweepSkip
  /-- `ASSIGN_SEND` (R385). At pulse 100, the active sends the assignment of the next frame. -/
  | assignSend
  /-- `DIGEST_SEND` (R390). At pulse 960, each module sends its section CRCs. -/
  | digestSend
  /-- `DIGEST_COMPARE` (R390). By pulse 990, digests are compared; a mismatch sends the standby to JOINING. -/
  | digestCompare
  /-- `HISTORY_MINUTE` (R440). One minute of history closes in frames with F ≡ 0 mod 60,000. -/
  | historyMinute
  /-- `UPD_ACTIVATE_RESTART` (R518). At pulses 950 and 999, ACTIVATING is written and the module restarts. -/
  | updActivateRestart
  deriving DecidableEq, Repr, Inhabited

end Sys2Proof
end

