-- ==== Sys2Proof/Config.lean ====
section
/-! DEFINITION. What the spec leaves open: opaque constants, applied to the state's count of free values taken. -/

namespace Sys2Proof

/-- A byte no rule states. -/
opaque Config.freeByte : Nat → Byte

/-- A 32-bit word no rule states. -/
opaque Config.freeWord : Nat → Word

/-- A number no rule states. -/
opaque Config.freeInt : Nat → Int

/-- A choice no rule makes. -/
opaque Config.freeBool : Nat → Bool

/-- What a division of R179 by zero gives: no rule states it; log 195. -/
opaque Config.quotientByZero : Int → Int

/-- The front-end maker's own balancing characteristic (R127, R129): a channel's dissipation in mW at a cell voltage in
µV. The contract fixes no characteristic; log 20. -/
opaque Config.feDissipation : Int → Nat

/-- The temperature in 0.01 °C a front end converts a thermistor's resistance in ohm to, with a B value in K (R123). The
contract states no conversion formula; log 167. -/
opaque Config.ntcTemp : Nat → Nat → Int

end Sys2Proof
end

