-- ==== Sys2Proof/Machine/Arith.lean ====
section
/-! DEFINITION. Exact arithmetic, saturation, byte strings and the two cyclic codes. -/

namespace Sys2Proof.Machine

/-- Limit a value to an interval. -/
def clampI (lo hi v : Int) : Int := if v < lo then lo else if hi < v then hi else v

/-- Limit a count to `0 … hi`. -/
def satN (hi n : Nat) : Nat := if hi < n then hi else n

/-- A uint32 counter that saturates (R442 and the counter rule of every chapter). -/
def sat32u (n : Nat) : Nat := satN 0xFFFFFFFF n

/-- An int32 that saturates (R179). -/
def sat32 (v : Int) : Int := clampI (-2147483648) 2147483647 v

/-- An int16 that saturates. -/
def sat16 (v : Int) : Int := clampI (-32768) 32767 v

/-- An int64 that saturates (R179). -/
def sat64 (v : Int) : Int := clampI (-9223372036854775808) 9223372036854775807 v

/-- Quotient rounded to nearest, halves away from zero (R179); by zero a free value (log 195). -/
def divRound (a b : Int) : Int :=
  if b = 0 then Config.quotientByZero a
  else
    let q := (2 * a.natAbs + b.natAbs) / (2 * b.natAbs)
    if (a < 0) = (b < 0) then (q : Int) else -(q : Int)

/-- `muldiv(a, b, c)`: `a × b ÷ c` exactly, then rounded to nearest with halves away from zero (R179). -/
def muldiv (a b c : Int) : Int := divRound (a * b) c

/-- Integer square root rounded down, by bisection over 64 bits. -/
def isqrtAux : Nat → Nat → Nat → Nat
  | 0, acc, _ => acc
  | k + 1, acc, n =>
    let t := acc + 2 ^ k
    isqrtAux k (if t * t ≤ n then t else acc) n

/-- Integer square root rounded down, for arguments below 2^128. -/
def isqrt (n : Nat) : Nat := isqrtAux 64 0 n

/-- `k` bytes of a number, least significant byte first (R6). -/
def le : Nat → Nat → Bytes
  | 0, _ => []
  | k + 1, n => BitVec.ofNat 8 n :: le k (n / 256)

/-- `k` bytes of a signed number in two's complement (R5, R6). -/
def leI (k : Nat) (v : Int) : Bytes := le k (v % (2 ^ (8 * k) : Nat)).toNat

/-- The number that bytes spell, least significant byte first. -/
def ofLe : Bytes → Nat
  | [] => 0
  | b :: t => b.toNat + 256 * ofLe t

/-- The two's complement reading of a number of `8 k` bits. -/
def signedOf (k n : Nat) : Int := if n < 2 ^ (8 * k - 1) then (n : Int) else (n : Int) - (2 ^ (8 * k) : Nat)

/-- `n` bytes of a string from an offset. -/
def slice (bs : Bytes) (off n : Nat) : Bytes := (bs.drop off).take n

/-- The number in `n` bytes of a string at an offset. -/
def rdU (bs : Bytes) (off n : Nat) : Nat := ofLe (slice bs off n)

/-- The signed number in `n` bytes of a string at an offset. -/
def rdI (bs : Bytes) (off n : Nat) : Int := signedOf n (rdU bs off n)

/-- The word at word index `i` of a record body. -/
def wordAt (bs : Bytes) (i : Nat) : Nat := rdU bs (4 * i) 4

/-- Bits `[lo + n - 1 : lo]` of a number. -/
def bitsOf (w lo n : Nat) : Nat := w / 2 ^ lo % 2 ^ n

/-- Bit `i` of a number. -/
def bitOf (w i : Nat) : Bool := bitsOf w i 1 = 1

/-- A string padded with zero bytes, or cut, to `n` bytes. -/
def padTo (n : Nat) (bs : Bytes) : Bytes := (bs ++ List.replicate (n - bs.length) 0).take n

/-- Eight shifts of the CRC-32C register. -/
def crcByteAux : Nat → Word → Word
  | 0, c => c
  | k + 1, c => crcByteAux k (if c.getLsbD 0 then (c >>> 1) ^^^ 0x82F63B78 else c >>> 1)

/-- One byte into the CRC-32C register. -/
def crcByte (c : Word) (b : Byte) : Word := crcByteAux 8 (c ^^^ b.zeroExtend 32)

/-- CRC-32C with the parameters of R90. -/
def crc32c (bs : Bytes) : Word := (bs.foldl crcByte 0xFFFFFFFF) ^^^ 0xFFFFFFFF

/-- Eight shifts of the CRC8 register of R270. -/
def crc8Aux : Nat → Byte → Byte
  | 0, c => c
  | k + 1, c => crc8Aux k (if c.getLsbD 7 then (c <<< 1) ^^^ 0x2F else c <<< 1)

/-- CRC8 of R270: polynomial 0x2F, first value 0xFF, inverted at the end. -/
def crc8 (bs : Bytes) : Byte := (bs.foldl (fun c b => crc8Aux 8 (c ^^^ b)) 0xFF) ^^^ 0xFF

/-- A Bool as 0 or 1. -/
def b2n (b : Bool) : Nat := if b then 1 else 0

/-- Flags packed into a number, bit 0 first. -/
def packBits : List Bool → Nat
  | [] => 0
  | b :: t => b2n b + 2 * packBits t

/-- A number put into its place in a list sorted from the lowest. -/
def insertI (v : Int) : List Int → List Int
  | [] => [v]
  | a :: t => if v ≤ a then v :: a :: t else a :: insertI v t

/-- A list of numbers sorted from the lowest, by insertion. -/
def sortI : List Int → List Int
  | [] => []
  | a :: t => insertI a (sortI t)

/-- Least of a list, or a value for the empty list. -/
def minL (d : Int) : List Int → Int
  | [] => d
  | a :: t => t.foldl (fun x y => if y < x then y else x) a

/-- Greatest of a list, or a value for the empty list. -/
def maxL (d : Int) : List Int → Int
  | [] => d
  | a :: t => t.foldl (fun x y => if x < y then y else x) a

/-- Sum of a list. -/
def sumL (l : List Int) : Int := l.foldl (· + ·) 0

/-- `0, 1, …, n - 1` from a first number. -/
def upFrom : Nat → Nat → List Nat
  | _, 0 => []
  | a, n + 1 => a :: upFrom (a + 1) n

end Sys2Proof.Machine
end

