-- ==== Sys2Proof/Machine/Hash.lean ====
section
/-! DEFINITION. SHA-256, SHA-384, HMAC-SHA-256 and HKDF, which R411, R569, R571, R572 and chapters 17 and 18 name: the standards'
own functions (PRESUMED, log 196). -/

namespace Sys2Proof.Machine

/-- Round constants of SHA-256. -/
def shaK : List Word :=
  [0x428a2f98, 0x71374491, 0xb5c0fbcf, 0xe9b5dba5, 0x3956c25b, 0x59f111f1, 0x923f82a4, 0xab1c5ed5] ++
  [0xd807aa98, 0x12835b01, 0x243185be, 0x550c7dc3, 0x72be5d74, 0x80deb1fe, 0x9bdc06a7, 0xc19bf174] ++
  [0xe49b69c1, 0xefbe4786, 0x0fc19dc6, 0x240ca1cc, 0x2de92c6f, 0x4a7484aa, 0x5cb0a9dc, 0x76f988da] ++
  [0x983e5152, 0xa831c66d, 0xb00327c8, 0xbf597fc7, 0xc6e00bf3, 0xd5a79147, 0x06ca6351, 0x14292967] ++
  [0x27b70a85, 0x2e1b2138, 0x4d2c6dfc, 0x53380d13, 0x650a7354, 0x766a0abb, 0x81c2c92e, 0x92722c85] ++
  [0xa2bfe8a1, 0xa81a664b, 0xc24b8b70, 0xc76c51a3, 0xd192e819, 0xd6990624, 0xf40e3585, 0x106aa070] ++
  [0x19a4c116, 0x1e376c08, 0x2748774c, 0x34b0bcb5, 0x391c0cb3, 0x4ed8aa4a, 0x5b9cca4f, 0x682e6ff3] ++
  [0x748f82ee, 0x78a5636f, 0x84c87814, 0x8cc70208, 0x90befffa, 0xa4506ceb, 0xbef9a3f7, 0xc67178f2]

/-- The eight working words of SHA-256. -/
structure Sha where
  a : Word := 0x6a09e667
  b : Word := 0xbb67ae85
  c : Word := 0x3c6ef372
  d : Word := 0xa54ff53a
  e : Word := 0x510e527f
  f : Word := 0x9b05688c
  g : Word := 0x1f83d9ab
  h : Word := 0x5be0cd19
  deriving DecidableEq, Repr, Inhabited

/-- A rotation right of a word. -/
def rotr (x : Word) (n : Nat) : Word := (x >>> n) ||| (x <<< (32 - n))

/-- One round with its constant and schedule word. -/
def shaRound (s : Sha) (k w : Word) : Sha :=
  let t1 := s.h + (rotr s.e 6 ^^^ rotr s.e 11 ^^^ rotr s.e 25) + ((s.e &&& s.f) ^^^ (~~~s.e &&& s.g)) + k + w
  let t2 := (rotr s.a 2 ^^^ rotr s.a 13 ^^^ rotr s.a 22) + ((s.a &&& s.b) ^^^ (s.a &&& s.c) ^^^ (s.b &&& s.c))
  { a := t1 + t2, b := s.a, c := s.b, d := s.c, e := s.d + t1, f := s.e, g := s.f, h := s.g }

/-- The next schedule word from the sixteen before it, oldest first. -/
def shaNext : List Word → Word
  | [w0, w1, _, _, _, _, _, _, _, w9, _, _, _, _, w14, _] =>
    w0 + (rotr w1 7 ^^^ rotr w1 18 ^^^ (w1 >>> 3)) + w9 + (rotr w14 17 ^^^ rotr w14 19 ^^^ (w14 >>> 10))
  | _ => 0

/-- The rounds over a list of constants, with the window of sixteen schedule words. -/
def shaRounds : List Word → List Word → Sha → Sha
  | k :: ks, w :: ws, s => shaRounds ks (ws ++ [shaNext (w :: ws)]) (shaRound s k w)
  | _, _, s => s

/-- A word from four bytes, most significant first. -/
def beWords : List Byte → List Word
  | a :: b :: c :: d :: t => (a ++ b ++ c ++ d : Word) :: beWords t
  | _ => []

/-- Take a block of sixteen words into the state. -/
def shaBlock (s : Sha) (ws : List Word) : Sha :=
  let r := shaRounds shaK ws s
  { a := s.a + r.a, b := s.b + r.b, c := s.c + r.c, d := s.d + r.d, e := s.e + r.e, f := s.f + r.f, g := s.g + r.g,
    h := s.h + r.h }

/-- Take the blocks of a padded message, `n` of them. -/
def shaBlocks : Nat → List Word → Sha → Sha
  | 0, _, s => s
  | n + 1, ws, s => shaBlocks n (ws.drop 16) (shaBlock s (ws.take 16))

/-- Bytes of a word, most significant first. -/
def beBytes (w : Word) : Bytes := (le 4 w.toNat).reverse

/-- SHA-256. -/
def sha256 (m : Bytes) : Bytes :=
  let n := m.length
  let z := (119 - n % 64) % 64
  let p := m ++ [0x80] ++ List.replicate z 0 ++ (le 8 (8 * n)).reverse
  let s := shaBlocks ((n + z + 9) / 64) (beWords p) {}
  [s.a, s.b, s.c, s.d, s.e, s.f, s.g, s.h].flatMap beBytes

/-- HMAC-SHA-256. -/
def hmac (key m : Bytes) : Bytes :=
  let k := padTo 64 (if 64 < key.length then sha256 key else key)
  sha256 (k.map (· ^^^ 0x5C) ++ sha256 (k.map (· ^^^ 0x36) ++ m))

/-- HKDF-Extract with SHA-256. -/
def hkdfExtract (salt z : Bytes) : Bytes := hmac salt z

/-- HKDF-Expand with SHA-256 to 32 bytes. -/
def hkdfExpand (prk info : Bytes) : Bytes := hmac prk (info ++ [1])

/-! ### SHA-384 (R488, R513) -/

/-- Round constants of SHA-384. -/
def shaLK : List (BitVec 64) :=
  [0x428a2f98d728ae22, 0x7137449123ef65cd, 0xb5c0fbcfec4d3b2f, 0xe9b5dba58189dbbc] ++
  [0x3956c25bf348b538, 0x59f111f1b605d019, 0x923f82a4af194f9b, 0xab1c5ed5da6d8118] ++
  [0xd807aa98a3030242, 0x12835b0145706fbe, 0x243185be4ee4b28c, 0x550c7dc3d5ffb4e2] ++
  [0x72be5d74f27b896f, 0x80deb1fe3b1696b1, 0x9bdc06a725c71235, 0xc19bf174cf692694] ++
  [0xe49b69c19ef14ad2, 0xefbe4786384f25e3, 0x0fc19dc68b8cd5b5, 0x240ca1cc77ac9c65] ++
  [0x2de92c6f592b0275, 0x4a7484aa6ea6e483, 0x5cb0a9dcbd41fbd4, 0x76f988da831153b5] ++
  [0x983e5152ee66dfab, 0xa831c66d2db43210, 0xb00327c898fb213f, 0xbf597fc7beef0ee4] ++
  [0xc6e00bf33da88fc2, 0xd5a79147930aa725, 0x06ca6351e003826f, 0x142929670a0e6e70] ++
  [0x27b70a8546d22ffc, 0x2e1b21385c26c926, 0x4d2c6dfc5ac42aed, 0x53380d139d95b3df] ++
  [0x650a73548baf63de, 0x766a0abb3c77b2a8, 0x81c2c92e47edaee6, 0x92722c851482353b] ++
  [0xa2bfe8a14cf10364, 0xa81a664bbc423001, 0xc24b8b70d0f89791, 0xc76c51a30654be30] ++
  [0xd192e819d6ef5218, 0xd69906245565a910, 0xf40e35855771202a, 0x106aa07032bbd1b8] ++
  [0x19a4c116b8d2d0c8, 0x1e376c085141ab53, 0x2748774cdf8eeb99, 0x34b0bcb5e19b48a8] ++
  [0x391c0cb3c5c95a63, 0x4ed8aa4ae3418acb, 0x5b9cca4f7763e373, 0x682e6ff3d6b2b8a3] ++
  [0x748f82ee5defb2fc, 0x78a5636f43172f60, 0x84c87814a1f0ab72, 0x8cc702081a6439ec] ++
  [0x90befffa23631e28, 0xa4506cebde82bde9, 0xbef9a3f7b2c67915, 0xc67178f2e372532b] ++
  [0xca273eceea26619c, 0xd186b8c721c0c207, 0xeada7dd6cde0eb1e, 0xf57d4f7fee6ed178] ++
  [0x06f067aa72176fba, 0x0a637dc5a2c898a6, 0x113f9804bef90dae, 0x1b710b35131c471b] ++
  [0x28db77f523047d84, 0x32caab7b40c72493, 0x3c9ebe0a15c9bebc, 0x431d67c49c100d4c] ++
  [0x4cc5d4becb3e42b6, 0x597f299cfc657e2a, 0x5fcb6fab3ad6faec, 0x6c44198c4a475817]

/-- The eight working words of SHA-384. -/
structure ShaL where
  a : BitVec 64 := 0xcbbb9d5dc1059ed8
  b : BitVec 64 := 0x629a292a367cd507
  c : BitVec 64 := 0x9159015a3070dd17
  d : BitVec 64 := 0x152fecd8f70e5939
  e : BitVec 64 := 0x67332667ffc00b31
  f : BitVec 64 := 0x8eb44a8768581511
  g : BitVec 64 := 0xdb0c2e0d64f98fa7
  h : BitVec 64 := 0x47b5481dbefa4fa4
  deriving DecidableEq, Repr, Inhabited

/-- A rotation right of a 64-bit word. -/
def rotrL (x : BitVec 64) (n : Nat) : BitVec 64 := (x >>> n) ||| (x <<< (64 - n))

/-- One round of SHA-384 with its constant and schedule word. -/
def shaLRound (s : ShaL) (k w : BitVec 64) : ShaL :=
  let t1 := s.h + (rotrL s.e 14 ^^^ rotrL s.e 18 ^^^ rotrL s.e 41) + ((s.e &&& s.f) ^^^ (~~~s.e &&& s.g)) + k + w
  let t2 := (rotrL s.a 28 ^^^ rotrL s.a 34 ^^^ rotrL s.a 39) + ((s.a &&& s.b) ^^^ (s.a &&& s.c) ^^^ (s.b &&& s.c))
  { a := t1 + t2, b := s.a, c := s.b, d := s.c, e := s.d + t1, f := s.e, g := s.f, h := s.g }

/-- The next schedule word of SHA-384 from the sixteen before it, oldest first. -/
def shaLNext : List (BitVec 64) → BitVec 64
  | [w0, w1, _, _, _, _, _, _, _, w9, _, _, _, _, w14, _] =>
    w0 + (rotrL w1 1 ^^^ rotrL w1 8 ^^^ (w1 >>> 7)) + w9 + (rotrL w14 19 ^^^ rotrL w14 61 ^^^ (w14 >>> 6))
  | _ => 0

/-- The rounds of SHA-384 over a list of constants, with the window of sixteen schedule words. -/
def shaLRounds : List (BitVec 64) → List (BitVec 64) → ShaL → ShaL
  | k :: ks, w :: ws, s => shaLRounds ks (ws ++ [shaLNext (w :: ws)]) (shaLRound s k w)
  | _, _, s => s

/-- 64-bit words from pairs of 32-bit words. -/
def pairWords : List Word → List (BitVec 64)
  | a :: b :: t => (a ++ b : BitVec 64) :: pairWords t
  | _ => []

/-- Take the blocks of a padded message, `n` of sixteen words, into the state of SHA-384. -/
def shaLBlocks : Nat → List (BitVec 64) → ShaL → ShaL
  | 0, _, s => s
  | n + 1, ws, s =>
    let r := shaLRounds shaLK (ws.take 16) s
    shaLBlocks n (ws.drop 16)
      { a := s.a + r.a, b := s.b + r.b, c := s.c + r.c, d := s.d + r.d, e := s.e + r.e, f := s.f + r.f, g := s.g + r.g,
        h := s.h + r.h }

/-- SHA-384, 48 bytes. -/
def sha384 (m : Bytes) : Bytes :=
  let n := m.length
  let z := (239 - n % 128) % 128
  let p := m ++ [0x80] ++ List.replicate z 0 ++ (le 16 (8 * n)).reverse
  let s := shaLBlocks ((n + z + 17) / 128) (pairWords (beWords p)) {}
  [s.a, s.b, s.c, s.d, s.e, s.f].flatMap (fun x => (le 8 x.toNat).reverse)

end Sys2Proof.Machine
end

