-- ==== Sys2Proof/Machine/State/Bus.lean ====
section
/-! DEFINITION. State of areas 0x10 (container bus) and 0x11 (two-wire port). -/

namespace Sys2Proof.Machine

/-- The record `CAN_POLICY` (Table 15-10) as in force. -/
structure CanCfg where
  /-- CAN_NOM | 2 bits | 15 Table 15-10 | 2 -/
  nom : Nat := 2
  /-- CAN_DATA | 4 bits | 15 Table 15-10 | 2 -/
  data : Nat := 2
  /-- CAN_CAND_MASK | 24 bits | 15 Table 15-10 | 0xFFFFFF -/
  cand : BitVec 24 := 0xFFFFFF
  /-- CAN_NODE_A | 8 bits | 15 Table 15-10 | 0x01 -/
  nodeA : Nat := 0x01
  /-- CAN_NODE_B | 8 bits | 15 Table 15-10 | 0x02 -/
  nodeB : Nat := 0x02
  /-- CAN_DETECT_TO | 8 bits s | 15 Table 15-10 | 5 -/
  detectTo : Nat := 5
  /-- CAN_DWELL | 4 bits 100 ms | 15 Table 15-10 | 2 -/
  dwell : Nat := 2
  /-- CAN_DETECT_EN | 1 bit | 15 Table 15-10 | 1 -/
  detectEn : Bool := true
  /-- CAN_B_EN | 1 bit | 15 Table 15-10 | 1 -/
  bEn : Bool := true
  /-- CAN_A_EN | 1 bit | 15 Table 15-10 | 1 -/
  aEn : Bool := true
  /-- CAN_PCS_NODE | 8 bits | 15 Table 15-10 | 0x10 -/
  pcsNode : Nat := 0x10
  /-- CAN_HVAC_NODE | 8 bits | 15 Table 15-10 | 0x11 -/
  hvacNode : Nat := 0x11
  /-- CAN_FIRE_NODE | 8 bits | 15 Table 15-10 | 0x12 -/
  fireNode : Nat := 0x12
  /-- CAN_IMD_NODE | 8 bits | 15 Table 15-10 | 0x13 -/
  imdNode : Nat := 0x13
  /-- CAN_PCS_TIMEOUT | 16 bits ms | 15 Table 15-10 | 100 -/
  pcsTimeout : Nat := 100
  /-- CAN_POLICY replaced by its defaults | 1 bit | 15 R470 | false -/
  replaced : Bool := false
  deriving DecidableEq, Repr, Inhabited

/-- The content of a transmit object: frame of queuing and payload bytes. -/
structure CanContent where
  /-- frame of queuing | 48 bits | 15 R456 | 0 -/
  frame : Nat := 0
  /-- payload, header and body | up to 64 bytes | 15 R450 | empty -/
  payload : Bytes := []
  /-- transmit-at-time pulse | 0 to 999 | 15 R461 | none -/
  atPulse : Option Nat := none
  deriving DecidableEq, Repr, Inhabited

/-- One transmit object 0 to 6 (Table 15-7). -/
structure CanObj where
  /-- state | 3 bits | 15 Table 15-7 | IDLE -/
  state : TxState := .idle
  /-- content waiting or being sent | record | 15 R456 | none -/
  cur : Option CanContent := none
  /-- next slot | record | 15 R456 | none -/
  next : Option CanContent := none
  /-- report or time content whose place the newer one took | record | 15 Table 15-7 | none -/
  older : Option CanContent := none
  /-- failed attempts at the present content | count | 15 R456 | 0 -/
  fails : Nat := 0
  /-- consecutive attempts failed with a bit error in the data field | count | 15 R458 | 0 -/
  bitErrs : Nat := 0
  /-- the last content ended UNDELIVERED | 1 bit | 15 R469 | false -/
  undelivered : Bool := false
  deriving DecidableEq, Repr, Inhabited

/-- One CAN controller. -/
structure CanCtl where
  /-- CAN_CSTATE | 8 bits | 15 Table 15-2 | OFF -/
  state : CanState := .off
  /-- state as applied to the module's rules | 8 bits | 15 R463 | OFF -/
  applied : CanState := .off
  /-- LIMITS object enabled, as applied | 1 bit | 15 R463 | true -/
  limitsApplied : Bool := true
  /-- nominal code in use | 2 bits | 15 Table 15-11 | 2 -/
  nom : Nat := 2
  /-- data code in use | 4 bits | 15 Table 15-11 | 2 -/
  data : Nat := 2
  /-- rates from detection | 1 bit | 15 Table 15-11 | false -/
  detected : Bool := false
  /-- index of the candidate pair on trial; 0 is the configured pair | 5 bits | 15 R447 | 0 -/
  cand : Nat := 0
  /-- error-free frames at the pair on trial | count | 15 R447 | 0 -/
  good : Nat := 0
  /-- one of them had BRS set | 1 bit | 15 R447 | false -/
  brs : Bool := false
  /-- frame since which the pair on trial is held | 48 bits | 15 R447 | 0 -/
  candFrom : Nat := 0
  /-- frame of entry to DETECT | 48 bits | 15 R447 | 0 -/
  detectFrom : Nat := 0
  /-- CAN_TEC | 8 bits saturating | 15 Table 15-11 | 0 -/
  tec : Nat := 0
  /-- CAN_REC | 8 bits | 15 Table 15-11 | 0 -/
  rec_ : Nat := 0
  /-- transmit objects 0 to 6 | table | 15 R455 | IDLE -/
  obj : Tab CanObj := []
  /-- consecutive attempts failed with an ACK error | count | 15 R464 | 0 -/
  ackRun : Nat := 0
  /-- instant of the last frame received from any node, or of the end of OFF | us of the clock | 15 R464 | none -/
  lastRx : Option Nat := none
  /-- instant of the last TIME_REF received from the peer | us of the clock | 15 R460 | none -/
  peerTime : Option Nat := none
  /-- start-of-frame instant of the previous own TIME_REF | uint64 ns | 15 R459 | 0 -/
  trSof : Nat := 0
  /-- CAN_SEQ of it | 16 bits | 15 Table 15-6 | 0 -/
  trSeq : Nat := 0
  /-- CAN_TAT_SOF | uint64 ns | 15 Table 15-11 | 0 -/
  tatSof : Nat := 0
  /-- transmit-at-time MODULE_STATE still due after RUN in Survey | 1 bit | 15 R461 | false -/
  tatDue : Bool := false
  /-- frames received | uint32 saturating | 15 Table 15-11 | 0 -/
  nRx : Nat := 0
  /-- frames sent | uint32 saturating | 15 Table 15-11 | 0 -/
  nTx : Nat := 0
  /-- ACK errors | uint32 saturating | 15 Table 15-11 | 0 -/
  nAck : Nat := 0
  /-- other bus errors | uint32 saturating | 15 Table 15-11 | 0 -/
  nErr : Nat := 0
  /-- bus-off events | uint32 saturating | 15 Table 15-11 | 0 -/
  nBusOff : Nat := 0
  /-- format errors and duplicates | uint32 saturating | 15 Table 15-11 | 0 -/
  nFmt : Nat := 0
  /-- UNDELIVERED and dropped contents | uint32 saturating | 15 Table 15-11 | 0 -/
  nDrop : Nat := 0
  /-- queue overflows | uint32 saturating | 15 Table 15-11 | 0 -/
  nOverflow : Nat := 0
  /-- superseded contents | count | 15 Table 15-7 | 0 -/
  nSuper : Nat := 0
  deriving DecidableEq, Repr, Inhabited

/-- State of area 0x10. -/
structure BusSt where
  /-- CAN_POLICY in force | record | 15 Table 15-10 | defaults -/
  cfg : CanCfg := {}
  /-- CAN-A | record | 15 Table 15-2 | OFF -/
  a : CanCtl := {}
  /-- CAN-B | record | 15 Table 15-2 | OFF -/
  b : CanCtl := {}
  /-- frame in which MODULE_STATE was last queued for transmit-at-time | 48 bits | 15 R462 | none -/
  stateAt : Option Nat := none
  /-- recently received: arrival instant, source node, message, CAN_SEQ | list, us of the clock | 15 R451 | empty -/
  seen : List (Nat × Nat × Nat × Nat) := []
  /-- the peer's controllers as applied: state and LIMITS object enabled | 2 records | 15 R463 R465 | OFF -/
  peer : List (CanState × Bool) := []
  /-- CAN_PCS_I | int32 mA | 15 Table 15-11 | 0 -/
  pcsI : Int := 0
  /-- CAN_PCS_DEMAND | int32 mA | 15 Table 15-11 | 0 -/
  pcsDemand : Int := 0
  /-- CAN_PCS_V | int32 mV | 15 Table 15-11 | 0 -/
  pcsV : Int := 0
  /-- CAN_PCS_STATE | 8 bits | 15 Table 15-11 | 0 -/
  pcsState : Nat := 0
  /-- effective frame of the latest PCS_STATE | 48 bits | 15 R453 | none -/
  pcsFrame : Option Nat := none
  /-- demand of the latest PCS_STATE with its demand-valid bit | int32 mA | 15 R453 | none -/
  demand : Option (Nat × Int) := none
  /-- CAN_HV_BUDGET | int32 mW | 15 Table 15-11 | 0 -/
  hvBudget : Int := 0
  /-- CAN_HV_SUPPLY | int16 | 15 Table 15-11 | 0 -/
  hvSupply : Int := 0
  /-- CAN_HV_RETURN | int16 | 15 Table 15-11 | 0 -/
  hvReturn : Int := 0
  /-- CAN_HV_STATE | 8 bits | 15 Table 15-11 | 0 -/
  hvState : Nat := 0
  /-- CAN_FIRE_STATE | 8 bits | 15 Table 15-11 | 0xFF -/
  fireState : Nat := 0xFF
  /-- CAN_FIRE_ZONES | 16 bits | 15 Table 15-11 | 0 -/
  fireZones : Nat := 0
  /-- CAN_IMD_R | uint32 kOhm | 15 Table 15-11 | 0 -/
  imdR : Nat := 0
  /-- CAN_IMD_STATE | 8 bits | 15 Table 15-11 | 0xFF -/
  imdState : Nat := 0xFF
  /-- PCS unreachable | 1 bit | 15 R465 | false -/
  unreachable : Bool := false
  /-- CAN_UNREACH_FRAME | 48 bits | 15 Table 15-11 | 0 -/
  unreachFrame : Nat := 0
  /-- strings opened since | 16 bits | 15 Table 15-12 | 0 -/
  unreachOpened : Mask := 0
  /-- overflows in the present second, Q0 and Q1 of both controllers | 4 counts | 15 R469 | 0 -/
  overSec : Tab Nat := []
  deriving DecidableEq, Repr, Inhabited

/-- The record `TW_POLICY` (Table 16-5) as in force. -/
structure TwCfg where
  /-- TW_ADDR_BASE | 7 bits | 16 Table 16-5 | 0x58 -/
  base : Nat := 0x58
  /-- TW_PIN_MASK | 2 bits | 16 Table 16-5 | 3 -/
  pinMask : Nat := 3
  /-- TW_ADDR_MODE | 1 bit | 16 Table 16-5 | 0 -/
  maskMode : Bool := false
  /-- TW_POLICY replaced by its defaults | 1 bit | 16 R486 | false -/
  replaced : Bool := false
  deriving DecidableEq, Repr, Inhabited

/-- The transaction under way on the two-wire bus: none, one not addressed to the port or refused, a write with its
pointer once the register address has come, a read; `secondary` tells the address. -/
inductive TwTx where
  | idle
  | ignored
  | write (secondary : Bool) (reg : Option Nat)
  | read (secondary : Bool)
  deriving DecidableEq, Repr, Inhabited

/-- State of area 0x11. -/
structure TwSt where
  /-- TW_POLICY in force | record | 16 Table 16-5 | defaults -/
  cfg : TwCfg := {}
  /-- TWA[1:0] as read at reset | 2 bits | 16 R472 | strap; DESIGN CHOICE 0 (log 1) -/
  pins : Nat := 0
  /-- TW_PRIMARY | 7 bits | 16 R472 | 0x58 + TWA -/
  primary : Nat := 0x58
  /-- register pointer of the primary address | 8 bits | 16 | DESIGN CHOICE 0 (log 1) -/
  ptr1 : Nat := 0
  /-- register pointer of the secondary address | 8 bits | 16 | DESIGN CHOICE 0 (log 1) -/
  ptr2 : Nat := 0
  /-- transaction under way | record | 16 | idle -/
  tx : TwTx := .idle
  /-- register image latched for the read under way | 32 bytes | 16 R476 | empty -/
  latch : Bytes := []
  /-- primary register image | 32 bytes | 16 Table 16-1 | reset column; TW_HW and TW_SLOT as factory and pins -/
  image1 : Bytes := [0x01, 0xFF, 0x42] ++ List.replicate 29 0
  /-- frames since the runtime last wrote the primary image | 8 bits | 16 Table 16-1 | 0xFF -/
  age : Nat := 0xFF
  /-- secondary register image | 32 bytes | 16 Table 16-2 | reset column -/
  image2 : Bytes := [0x01, 0x1C] ++ List.replicate 15 0 ++ [0xFF] ++ List.replicate 14 0
  /-- TW_S_PORT | 4 bits | 16 Table 16-2 | 0 -/
  sport : BitVec 4 := 0
  /-- data bytes of the last read transaction as the controller sees them | bytes | 16 R476 R477 | empty -/
  line : Bytes := []
  /-- request armed, instant of the STOP that armed it | us of the clock | 16 R480 | none -/
  armed : Option Nat := none
  /-- instant of the last START | us of the clock | 16 R479 | 0 -/
  lastStart : Nat := 0
  /-- TW_PSTATE asleep | 1 bit | 16 Table 16-6 | awake -/
  asleep : Bool := false
  /-- drives neither line until the next START or STOP | 1 bit | 16 R477 | false -/
  muted : Bool := false
  /-- last latch: first-out function, string, frame | 16 Table 16-2 | 0, 0xFF, 0 -/
  lastLatch : Nat × Nat × Nat := (0, 0xFF, 0)
  /-- TW_TRANSACTIONS | uint32 saturating | 16 Table 16-6 | 0 -/
  nTrans : Nat := 0
  /-- TW_NACKED | uint32 saturating | 16 Table 16-6 | 0 -/
  nNack : Nat := 0
  /-- TW_STRETCH_TOS | uint32 saturating | 16 Table 16-6 | 0 -/
  nStretch : Nat := 0
  /-- TW_STUCKS | uint32 saturating | 16 Table 16-6 | 0 -/
  nStuck : Nat := 0
  /-- TW_WAKES | uint32 saturating | 16 Table 16-6 | 0 -/
  nWake : Nat := 0
  /-- TW_REQUESTS | uint32 saturating | 16 Table 16-6 | 0 -/
  nReq : Nat := 0
  /-- TW_DISARMS | uint32 saturating | 16 Table 16-6 | 0 -/
  nDisarm : Nat := 0
  /-- stretch timeouts in the present second | count | 16 R485 | 0 -/
  stretchSec : Nat := 0
  /-- stuck buses in the present second | count | 16 R485 | 0 -/
  stuckSec : Nat := 0
  /-- frame of the last stuck bus | 48 bits | 16 R486 | none -/
  lastStuck : Option Nat := none
  deriving DecidableEq, Repr, Inhabited

end Sys2Proof.Machine
end

