-- ==== Sys2Proof/Machine/State/Fe.lean ====
section
/-! DEFINITION. State of one cell front end (the front-end contract): registers, sample, balancing, sleep,
wear copy and firmware banks. The block's conversions are operands of `FE_SAMPLE` and `FE_SLEEP_CONVERSION`. -/

namespace Sys2Proof.Machine

/-- An uplink frame other than `UPLOAD` that a front end has sent (Tables 4-2, 4-10). -/
structure FeReply where
  /-- header, SEQ that of the request | record | 04 R92 | zero -/
  head : LinkHead := {}
  /-- RSTAT | 16 bits | 04 Table 4-11 | 0 -/
  rstat : Nat := 0
  /-- ADDR of REG_DATA, BLOCK_NO of FW_ACK | 16 bits | 04 Table 4-10 | 0 -/
  addr : Nat := 0
  /-- DATA of REG_DATA | up to 32 words | 04 Table 4-10 | empty -/
  data : List Word := []
  deriving DecidableEq, Repr, Inhabited

/-- What a front end holds of one of its two ports. -/
structure FePort where
  /-- time of the last valid downlink frame with ROLE 0b01 | model's clock, us (log 166) | 05 R136 | none -/
  claimAt : Option Nat := none
  /-- a valid SAMPLE of the present frame arrived here | 1 bit | 04 Table 4-8 | false -/
  sampleHere : Bool := false
  /-- SEQ of that SAMPLE | 16 bits | 04 R92 | 0 -/
  sampleSeq : Nat := 0
  /-- SEQ of the last valid downlink frame | 16 bits | 04 R92 | 0 -/
  lastSeq : Nat := 0
  /-- the original upload last sent | frame | 04 R96 R101 | none -/
  up : Option UpFrame := none
  /-- the repeated upload last sent | frame | 04 R101 | none -/
  rep : Option UpFrame := none
  /-- a REPEAT of the present frame has been answered | 1 bit | 04 R101 | false -/
  repeated : Bool := false
  /-- uploads sent, repeats included | count | 04 R96 R101 | 0 -/
  sent : Nat := 0
  /-- the last reply sent | frame | 04 R92 R104, 05 R143 | none -/
  reply : Option FeReply := none
  /-- PORT_ERR half of this port | 16 bits saturating | 05 Table 5-4, 04 R91 | 0 -/
  err : Nat := 0
  /-- downlink frames discarded as format errors | count | 04 R93 | 0 -/
  fmt : Nat := 0
  deriving DecidableEq, Repr, Inhabited

/-- One front end. -/
structure FeSt where
  /-- front end powered and running | 1 bit | 05 R118 R145 | true; DESIGN CHOICE (log 1) -/
  on : Bool := true
  /-- CONTRACT | 32 bits | 05 Table 5-4 | factory; major 1 minor 0 -/
  contract : Word := 0x01000000
  /-- MODEL | 32 bits | 05 Table 5-4 | factory; DESIGN CHOICE 0 (log 1) -/
  model : Word := 0
  /-- SERIAL | 16 bytes | 05 Table 5-4 | factory; DESIGN CHOICE 0 (log 1) -/
  serial : Bytes := List.replicate 16 0
  /-- CAPS cell count | 7 bits | 05 Table 5-4 | factory; DESIGN CHOICE 64 (log 1) -/
  cells : Nat := 64
  /-- CAPS thermistor mask | 16 bits | 05 Table 5-4 | factory; DESIGN CHOICE all fitted (log 1) -/
  thMask : Mask := 0xFFFF
  /-- FW_RUN | 32 bits | 05 Table 5-4 | version of the running image; DESIGN CHOICE 0 (log 1) -/
  fwRun : Word := 0
  /-- FW_BANK0 | 32 bits NV | 05 Table 5-4 | DESIGN CHOICE 0 (log 1) -/
  bank0 : Word := 0
  /-- FW_BANK1 | 32 bits NV | 05 Table 5-4 | 0xFFFFFFFF when empty -/
  bank1 : Word := 0xFFFFFFFF
  /-- bank running | 1 bit | 05 R147 | 0 -/
  runBank : Nat := 0
  /-- image bytes of bank 0, by block | 256-byte blocks | 05 R147 | empty -/
  image0 : Tab Bytes := []
  /-- image bytes of bank 1, by block | 256-byte blocks | 05 R147 | empty -/
  image1 : Tab Bytes := []
  /-- FW_SIZE | 32 bits | 05 Table 5-4 | factory, at least 2,048; DESIGN CHOICE 2,048 (log 1) -/
  fwSize : Nat := 2048
  /-- FW_SEL | 1 bit NV | 05 Table 5-6 | DESIGN CHOICE 0 (log 1) -/
  fwSel : Nat := 0
  /-- buffered firmware blocks waiting for the flash: bank, block, bytes | at least 4 | 05 R147 | empty -/
  fwBuf : List (Nat × Nat × Bytes) := []
  /-- restart due at pulse 900, and its bank | 1 bit | 05 R148 | none -/
  restartDue : Option Nat := none
  /-- CAL_FAULT | 1 bit | 05 R126 | false -/
  calFault : Bool := false
  /-- a pattern other than 0b00 flows, OW_ON; the pattern | 2 bits | 05 R133 | 0 -/
  pattern : BitVec 2 := 0
  /-- pattern that flowed at the last sample instant | 2 bits | 05 R133 | 0 -/
  patternAtSample : BitVec 2 := 0
  /-- RESET_CAUSE | 8 bits | 05 Table 5-5 | 0x01 -/
  resetCause : Byte := 0x01
  /-- ALARM bits [5:0] | 6 bits | 05 Table 5-7 | 0 -/
  alarm : BitVec 6 := 0
  /-- ALARM_CH | 8 bits | 05 Table 5-7 | 0xFF -/
  alarmCh : Nat := 0xFF
  /-- DIE_TEMP | 16 bits | 05 Table 5-4 | DESIGN CHOICE 0 (log 1) -/
  dieTemp : Int := 0
  /-- die over-temperature hold, 110 to 100 degC | 1 bit | 05 R130 | false -/
  dieHot : Bool := false
  /-- OW_FLAG | 65 bits | 05 R135 | 0 -/
  owFlag : BitVec 65 := 0
  /-- SLP_OV | 24 bits uV | 05 Table 5-4 | 0x419CE0 -/
  slpOv : Nat := 0x419CE0
  /-- SLP_UV | 24 bits uV | 05 Table 5-4 | 0x1E8480 -/
  slpUv : Nat := 0x1E8480
  /-- SLP_OT | int16 | 05 Table 5-4 | 0x1770 -/
  slpOt : Int := 0x1770
  /-- SLP_BAL deadband | 8 bits mV | 05 Table 5-4 | 5 -/
  deadband : Nat := 5
  /-- SLP_BAL_EN | 1 bit | 05 Table 5-4 | 0 -/
  balEn : Bool := false
  /-- TH_BETA | 16 bits K | 05 Table 5-4 | 0x0D6B -/
  thBeta : Nat := 0x0D6B
  /-- BAL_TARGET offset from 0xFFFFFF of channels 0 to 63 | 24 bits uV | 05 Table 5-4 | 0xFFFFFF (offset 0) -/
  balTargetGap : Tab Nat := []
  /-- CAL words 0x0100 to 0x01FF | 256 words | 05 Table 5-8 | factory; DESIGN CHOICE format 1, no correction, good CRC (log 1) -/
  cal : Tab Word := [(0, 0x00010096), (255, 0x6211B6A8)]
  /-- wear shadow, 1,024 words | 32 bits | 05 R146 | equals the committed copy -/
  wearShadow : Tab Word := []
  /-- newer wear copy, 1,024 words | 32 bits NV | 05 R146 | DESIGN CHOICE none committed (log 1) -/
  wearCopy : Tab Word := []
  /-- older wear copy, 1,024 words | 32 bits NV | 05 R146 | DESIGN CHOICE none committed (log 1) -/
  wearOld : Tab Word := []
  /-- the older copy is whole | 1 bit NV | 05 R146 | false -/
  wearOldOk : Bool := false
  /-- WEAR_VALID | 1 bit NV | 05 Table 5-9 | false -/
  wearValid : Bool := false
  /-- WEAR_SEQ | 16 bits NV | 05 Table 5-9 | 0 if none -/
  wearSeq : Nat := 0
  /-- WEAR_BUSY | 1 bit | 05 Table 5-9 | 0 -/
  wearBusy : Bool := false
  /-- WEAR_DIRTY | 1 bit | 05 Table 5-9 | 0 -/
  wearDirty : Bool := false
  /-- port A | record | 05 R136 R137 | no claim -/
  a : FePort := {}
  /-- port B | record | 05 R136 R137 | no claim -/
  b : FePort := {}
  /-- strobe count of the frame that the marks of a frame below belong to | count | 05 R120, 04 R53 | 0 -/
  frameT : Nat := 0
  /-- FRAME of the SAMPLE sampled on in the present frame | 48 bits | 05 R120 R137 | none -/
  sampled : Option Nat := none
  /-- SAMPLE of the frame carried CONVERT | 1 bit | 04 R96 | false -/
  convert : Bool := false
  /-- commanded sample instant after the reference edge | 10 ns | 05 R120 | 0 -/
  delay : Nat := 0
  /-- last converted cell voltages, coded as CELL | 64 x int24 | 04 Table 4-7 | DESIGN CHOICE 0 (log 1) -/
  cellV : Tab Int := []
  /-- last converted thermistors, coded as TEMP | 16 x int16 | 04 Table 4-7 | DESIGN CHOICE 0 (log 1) -/
  temp : Tab Int := []
  /-- last converted block voltage | uint24, 100 uV | 04 Table 4-7 | DESIGN CHOICE 0 (log 1) -/
  block : Nat := 0
  /-- a valid CONTROL of the frame came from the authority port | 1 bit | 04 R95 | false -/
  ctrlSeen : Bool := false
  /-- CTRL_MISSING of the present frame | 1 bit | 04 Table 4-8 | false -/
  ctrlMissing : Bool := false
  /-- WR_REFUSED of the present frame | 1 bit | 04 Table 4-8 | false -/
  wrRefused : Bool := false
  /-- BAL_MASK requested | 64 bits | 04 Table 4-6 | 0 -/
  reqMask : BitVec 64 := 0
  /-- mask applied in the present frame, asleep in the present period; APPLIED_MASK | 64 bits | 05 R131 R140 | 0 -/
  appliedMask : BitVec 64 := 0
  /-- BAL_LIMITED | 1 bit | 05 R131 | false -/
  balLimited : Bool := false
  /-- SLEEP received for pulse 900 of the present frame | 1 bit | 05 R138 | false -/
  sleepDue : Bool := false
  /-- asleep | 1 bit | 05 R138 | false -/
  asleep : Bool := false
  /-- sleep due as soon as a wear commit completes | 1 bit | 05 R138 | false -/
  sleepAfterCommit : Bool := false
  /-- time of the entry to sleep | model's clock, us (log 166) | 05 R139 | 0 -/
  sleepAt : Nat := 0
  /-- period of the present sleep whose mask was decided | count | 05 R140 | none -/
  period : Option Nat := none
  /-- time of the last valid downlink frame, wake or start | model's clock, us (log 166) | 05 R138 R142 | 0 -/
  heardAt : Nat := 0
  /-- sleep balancing stopped by UV, OT or TH_FAULT until the next wake | 1 bit | 05 R140 | false -/
  sleepStop : Bool := false
  /-- alarm tones sent | count | 05 R141 | 0 -/
  tones : Nat := 0
  /-- time of the last alarm tone | model's clock, us (log 166) | 05 R141 | 0 -/
  toneAt : Nat := 0
  /-- a tone is due | 1 bit | 05 R141 | false -/
  toneDue : Bool := false
  /-- awake and no CONTROL from an authority port yet | 1 bit | 05 R142 | false -/
  wakeHold : Bool := false
  deriving DecidableEq, Repr, Inhabited

end Sys2Proof.Machine
end

