-- ==== Sys2Proof/Machine/State/Prot.lean ====
section
/-! DEFINITION. State of area 0x0B: Markhor's limits, trip matrix, stages, latches, alarms and diagnostics.
Safety functions SF-01 to SF-12 stand at bits 0 to 11 of a `Mask`. -/

namespace Sys2Proof.Machine

/-- The record `PROT_LIMITS` (Table 11-10) as in force. -/
structure LimitCfg where
  /-- PROT_OV_TRIP | uV | 11 Table 11-10 | 3,550,000 -/
  ovTrip : Int := 3550000
  /-- PROT_OV_WARN | uV | 11 Table 11-10 | 3,500,000 -/
  ovWarn : Int := 3500000
  /-- PROT_UV_TRIP | uV | 11 Table 11-10 | 2,500,000 -/
  uvTrip : Int := 2500000
  /-- PROT_UV_WARN | uV | 11 Table 11-10 | 2,700,000 -/
  uvWarn : Int := 2700000
  /-- PROT_OT_WARN | int16 | 11 Table 11-10 | 5,000 -/
  otWarn : Int := 5000
  /-- PROT_OT_TRIP | int16 | 11 Table 11-10 | 6,000 -/
  otTrip : Int := 6000
  /-- PROT_CORE_WARN | int16 | 11 Table 11-10 | 5,500 -/
  coreWarn : Int := 5500
  /-- PROT_CORE_TRIP | int16 | 11 Table 11-10 | 6,500 -/
  coreTrip : Int := 6500
  /-- PROT_V_HYST | mV | 11 Table 11-10 | 20 -/
  vHyst : Int := 20
  /-- PROT_T_HYST | 0.01 K | 11 Table 11-10 | 200 -/
  tHyst : Int := 200
  deriving DecidableEq, Repr, Inhabited

/-- One word of `PROT_TRIP_MATRIX` (Table 11-11), the minimum masks ORed in (R301). -/
structure MatrixRow where
  /-- PROT_W_ACT | 8 bits | 11 Table 11-11 | Table 11-3 -/
  warn : Byte
  /-- PROT_T_ACT | 8 bits | 11 Table 11-11 | Table 11-3 -/
  trip : Byte
  /-- PROT_RESET_ROLE | 2 bits | 11 Table 11-11 | Table 11-3 -/
  role : Role
  deriving DecidableEq, Repr, Inhabited

/-- The records of area 0x0B as in force. -/
structure ProtCfg where
  /-- PROT_LIMITS | record | 11 Table 11-10 | defaults -/
  lim : LimitCfg := {}
  /-- PROT_TRIP_MATRIX, SF-01 first | 12 words | 11 Table 11-3 | defaults -/
  matrix : List MatrixRow :=
    [⟨0x05, 0x11, .installer⟩, ⟨0x09, 0x11, .installer⟩, ⟨0x03, 0x11, .operator⟩, ⟨0x00, 0x11, .installer⟩,
     ⟨0x03, 0x11, .operator⟩, ⟨0x05, 0x11, .operator⟩, ⟨0x05, 0x11, .installer⟩, ⟨0x00, 0x21, .installer⟩,
     ⟨0x00, 0x11, .installer⟩, ⟨0x03, 0x11, .installer⟩, ⟨0x00, 0x21, .operator⟩, ⟨0x00, 0x00, .operator⟩]
  /-- PROT_FAST_OC_PCT | 16 bits % | 11 Table 11-12 | 200 -/
  fastOcPct : Nat := 200
  /-- PROT_I2T_T2 | 16 bits s | 11 Table 11-12 | 10 -/
  i2tT2 : Nat := 10
  /-- PROT_INH_TOL | 8 bits % | 11 Table 11-12 | 2 -/
  inhTol : Nat := 2
  /-- PROT_INH_TIME | 8 bits 100 ms | 11 Table 11-12 | 20 -/
  inhTime : Nat := 20
  /-- PROT_PCS_TOL_PCT | 8 bits % | 11 Table 11-12 | 2 -/
  pcsTolPct : Nat := 2
  /-- PROT_PCS_TOL_A | 8 bits A | 11 Table 11-12 | 5 -/
  pcsTolA : Nat := 5
  /-- PROT_DERATE | 8 bits % | 11 Table 11-12 | 50 -/
  derate : Nat := 50
  /-- PROT_W_RELEASE | 8 bits s | 11 Table 11-12 | 5 -/
  wRelease : Nat := 5
  /-- PROT_SF06_RELEASE | 8 bits frames | 11 Table 11-12 | 10 -/
  sf06Release : Nat := 10
  /-- PROT_FREEZE_MAX | 8 bits s | 11 Table 11-12 | 15 -/
  freezeMax : Nat := 15
  /-- PROT_ILK_DEBOUNCE | 4 bits ms | 11 Table 11-12 | 5 -/
  ilkDebounce : Nat := 5
  /-- PROT_ILK_EN | 4 bits | 11 Table 11-12 | 0xF -/
  ilkEn : BitVec 4 := 0xF
  /-- PROT_LIMITS absent | 1 bit | 11 R302 | false -/
  limitsAbsent : Bool := false
  /-- a record of the area was replaced by its defaults | 1 bit | 11 R342 | false -/
  replaced : Bool := false
  deriving DecidableEq, Repr, Inhabited

/-- What Markhor holds for one front-end port. -/
structure MkPort where
  /-- consecutive missed frames, counted for SF-06 | count | 11 R319 | 0 -/
  missRun : Nat := 0
  /-- consecutive valid frames | count | 11 R319 | 0 -/
  validRun : Nat := 0
  /-- valid in the last frame | 1 bit | 11 R313 | false -/
  validLast : Bool := false
  deriving DecidableEq, Repr, Inhabited

/-- What Markhor holds for one string. -/
structure ProtStr where
  /-- warning stages that stand, bit n-1 for SF-n | 12 bits | 11 R306 | 0 -/
  warn : Mask := 0
  /-- warning conditions present | 12 bits | 11 R306 | 0 -/
  warnCond : Mask := 0
  /-- frame plus 1 since which a stage's condition has been absent, 0 for none: key n for the warning of SF-n, 16 + n for its trip | 48 bits each | 11 R306 | none -/
  absentFrom : Tab Nat := []
  /-- trip stages that stand | 12 bits | 11 R305 | 0 -/
  tripStage : Mask := 0
  /-- PROT_LATCHED | 12 bits NV | 11 R307 | 0 -/
  latched : Mask := 0
  /-- PROT_FIRST_OUT | 8 bits NV | 11 R310 | 0 -/
  firstOut : Nat := 0
  /-- PROT_LATCH_FRAME | 48 bits NV | 11 Table 11-14 | 0 -/
  latchFrame : Nat := 0
  /-- pulse of the latch | 0 to 999 | 11 R310 | 0 -/
  latchPulse : Nat := 0
  /-- TRIP of the port | 1 bit | 10 R272 | 0 -/
  trip : Bool := false
  /-- TRIP was set before Load by SF-08 or SF-11 | 1 bit | 11 R314 | false -/
  preLoadTrip : Bool := false
  /-- contactor permit | 1 bit | 10 R272 | withdrawn -/
  permit : Bool := false
  /-- alarms raised and not cleared, bit 15 Herd | 16 bits | 11 R312 | 0 -/
  alarm : Mask := 0
  /-- alarms unacknowledged | 16 bits | 11 R312 | 0 -/
  unack : Mask := 0
  /-- SF-05 accumulator E | 96 bits mA^2.us | 11 R318 | 0 -/
  i2t : Nat := 0
  /-- discharge inhibited by the SF-02 pair rule of a declared wire fault | 1 bit | 06 R165 | false -/
  pairInhDis : Bool := false
  /-- frame since which an auxiliary contact has read the wrong state | 48 bits | 11 R321 | none -/
  auxWrong : Option Nat := none
  /-- pulses for which the current has breached INH_CHG | count | 11 R308 | 0 -/
  inhChgRun : Nat := 0
  /-- pulses for which the current has breached INH_DIS | count | 11 R308 | 0 -/
  inhDisRun : Nat := 0
  /-- discharge current at pulse 10 of the frame of the last INH_CHG, by function | mA | 12 R350 | none -/
  disHeld : Tab Nat := []
  /-- frame of the last INH_CHG, by function | 48 bits | 12 R350 | none -/
  disAt : Tab Nat := []
  /-- last model input | int16 | 11 R229 | none -/
  model : Option Int := none
  /-- frame of the last model input | 48 bits | 11 R304 | 0 -/
  modelFrame : Nat := 0
  /-- model input stale | 1 bit | 11 R304 | false -/
  modelStale : Bool := false
  /-- frame of the last model input below the core warning limit | 48 bits | 11 R316 | none -/
  modelBelowWarn : Option Nat := none
  /-- frame of the last model input below the core trip limit | 48 bits | 11 R316 | none -/
  modelBelowTrip : Option Nat := none
  /-- a freeze had this string closed; held closed by Markhor | 1 bit | 11 R327 | false -/
  frozenClosed : Bool := false
  deriving DecidableEq, Repr, Inhabited

/-- One interlock input (R320). -/
structure IlkSt where
  /-- loop current at or above 2 mA | 1 bit | 11 R320 | true; DESIGN CHOICE, the input's first reading (log 1) -/
  loop : Bool := true
  /-- contact channel closed | 1 bit | 11 R320 | true; DESIGN CHOICE (log 1) -/
  contact : Bool := true
  /-- fault condition present since frame | 48 bits | 11 R320 | none -/
  from_ : Option Nat := none
  /-- faulted | 1 bit | 11 R320 | false -/
  faulted : Bool := false
  deriving DecidableEq, Repr, Inhabited

/-- State of area 0x0B. -/
structure ProtSt where
  /-- records of area 0x0B in force | records | 11 Table 11-9 | defaults -/
  cfg : ProtCfg := {}
  /-- PROT_LIMIT_DIGEST | 32 bits | 11 R301 | 0 before the end of Load -/
  digest : Word := 0
  /-- the records of Load have been taken | 1 bit | 11 R301 R314 | false -/
  loaded : Bool := false
  /-- strings S0 to S15 | table | 11 Table 11-14 | nothing stands -/
  str : Tab ProtStr := []
  /-- Markhor's view of ports P0 to P127 | table | 11 R319 | 0 -/
  port : Tab MkPort := []
  /-- interlock inputs ILK0 to ILK3 | table | 11 R320 | healthy -/
  ilk : Tab IlkSt := []
  /-- SAFE_OUT_A asserted | 1 bit | 11 R299 | asserted -/
  safeA : Bool := true
  /-- SAFE_OUT_B asserted | 1 bit | 11 R299 | asserted -/
  safeB : Bool := true
  /-- runtime frozen | 1 bit | 11 R327 | false -/
  frozen : Bool := false
  /-- frame of the last freeze trigger | 48 bits | 11 R327 | 0 -/
  freezeAt : Nat := 0
  /-- frames of the freezes within the last hour | 48 bits each | 11 R328 | empty -/
  freezes : List Nat := []
  /-- diagnostic that triggered the freeze | 8 bits | 11 Table 11-15 | 0 -/
  freezeBy : Nat := 0
  /-- diagnostics that have failed, bit n-1 for number n | 17 bits | 11 Table 11-6 | 0 -/
  diag : BitVec 17 := 0
  /-- frame of the last failure of any diagnostic | 48 bits | 03 Table 3-8 | none -/
  diagLast : Option Nat := none
  /-- strobe count at Markhor's start | count | 03 Table 3-8 | 0 -/
  startTick : Nat := 0
  /-- consecutive readback mismatches of SAFE_OUT_A | count | 11 Table 11-6 | 0 -/
  readbackA : Nat := 0
  /-- consecutive readback mismatches of SAFE_OUT_B | count | 11 Table 11-6 | 0 -/
  readbackB : Nat := 0
  /-- consecutive frames without runtime token | count | 11 Table 11-6 | 0 -/
  tokenMiss : Nat := 0
  /-- consecutive strobe intervals out of tolerance | count | 11 R325 | 0 -/
  strobeBad : Nat := 0
  /-- Markhor keeps its frame count on its own oscillator | 1 bit | 11 R325 | false -/
  ownCount : Bool := false
  /-- clock domains lost or off by more than 5 %, in the order of `ClockDomain` | 15 bits | 11 Table 11-6 | 0 -/
  clocks : BitVec 15 := 0
  /-- sequence after the safety record that was rewritten for a failed write verify | 48 bits | 11 Table 11-6 diagnostic 9 | none -/
  verifyFail : Option Nat := none
  /-- island-origin SF-12 | 1 bit | 11 R342 | false -/
  islandFault : Bool := false
  /-- remap in Markhor SRAM or diagnostic 9 | 1 bit | 11 R342 | false -/
  islandDegraded : Bool := false
  /-- corrected errors on Markhor SRAM and ROM | count | 11 Table 11-6 diagnostic 4 | 0 -/
  corrected : Nat := 0
  /-- PCS DC currents received in the last 100 frames: arrival frame, frame named, value | mA | 11 R322 | empty -/
  pcs : List (Nat × Nat × Int) := []
  /-- SF-10 warning stands for the container | 1 bit | 11 R322 | false -/
  pcsWarn : Bool := false
  deriving DecidableEq, Repr, Inhabited

end Sys2Proof.Machine
end

