-- ==== Sys2Proof/Machine/State.lean ====
section
/-! DEFINITION. The whole state of the module, its front ends and its power stages, and the state after reset. The
parts stand in the files of `Sys2Proof/Machine/State/`, one per group of areas of Table 0-5. -/

namespace Sys2Proof.Machine

/-- A step of this block never faults: every command of the table has an effect, or by the spec none, in every
state. No command raises a fault, so the type has no constructor. -/
inductive Fault where
  deriving DecidableEq, Repr

/-- The reasons a command can be refused by the model. -/
inductive Refusal where
  /-- The model gives the command of this mnemonic no meaning yet. Raised by `exec` alone; safe, nothing is claimed
  of the command. -/
  | notModelled (mnemonic : String)
  deriving DecidableEq, Repr

/-- The state: plain data. Each part's fields carry name, width, rule and reset value. -/
structure State where
  /-- area 0x01 | record | 01 Area 0x01 | part resets -/
  sys : SysSt := {}
  /-- area 0x02 | record | 02 Area 0x02 | part resets -/
  time : TimeSt := {}
  /-- area 0x03 | record | 03 Area 0x03 | part resets -/
  mode : ModeSt := {}
  /-- LINK_POLICY in force | record | 04 Table 4-15 | defaults -/
  linkCfg : LinkCfg := {}
  /-- link contexts P0 to P127 | table | 04 Table 4-12 | OFF -/
  link : Tab LinkSt := []
  /-- CFE_POLICY in force | record | 05 Table 5-11 | defaults -/
  cfeCfg : CfeCfg := {}
  /-- a record of areas 0x04 to 0x06 was replaced by its defaults: bit 0 LINK_POLICY, bit 1 CFE_POLICY, bit 2 MEAS_POLICY, bit 3 TIME_SOURCES, bit 4 MODE_POLICY | 5 bits | 04 R116, 05 R149, 06 R175 | 0 -/
  cfgReplaced : BitVec 5 := 0
  /-- front-end data read on ports P0 to P127 | table | 05 Table 5-12 | 0 -/
  cfe : Tab CfePort := []
  /-- front ends on ports P0 to P127 | table | 05 | powered -/
  fe : Tab FeSt := []
  /-- area 0x06 | record | 06 | part resets -/
  meas : MeasSt := {}
  /-- Cell Table, 8,192 entries | table | 07 Table 7-2 | zero after Fill -/
  cells : Tab CellEntry := []
  /-- cell state outside the Cell Table | table | 07 | zero -/
  aux : Tab CellAux := []
  /-- Thermistor Table, 2,048 entries | table | 08 Table 8-3 | zero after Fill -/
  th : Tab ThEntry := []
  /-- Herd Table, 8,192 entries | table | 09 Table 9-5 | zero after Fill -/
  herdTab : Tab HerdEntry := []
  /-- Markhor's cell copies | table | 01 R18 | zero -/
  mkCell : Tab MkCell := []
  /-- Markhor's thermistor copies | table | 01 R18 | zero -/
  mkTh : Tab MkTh := []
  /-- area 0x07 | record | 07 | part resets -/
  est : EstSt := {}
  /-- area 0x08 | record | 08 | part resets -/
  thm : ThmSt := {}
  /-- area 0x09 | record | 09 | part resets -/
  herd : HerdSt := {}
  /-- area 0x0A | record | 10 | part resets -/
  power : PowerSt := {}
  /-- area 0x0B | record | 11 | part resets -/
  prot : ProtSt := {}
  /-- area 0x0C | record | 12 | part resets -/
  dsp : DspSt := {}
  /-- area 0x0D | record | 12 | part resets -/
  grz : GrzSt := {}
  /-- area 0x0E | record | 13 | part resets -/
  pair : PairSt := {}
  /-- area 0x0F | record | 14 | part resets -/
  site : SiteSt := {}
  /-- command ledger of the state set not in use | 1,024 entries NV | 18 R523 | empty -/
  ledgerOther : Tab LedgerEntry := []
  /-- area 0x10 | record | 15 | part resets -/
  bus : BusSt := {}
  /-- area 0x11 | record | 16 | part resets -/
  tw : TwSt := {}
  /-- area 0x12 | record | 17 | part resets -/
  cfg : CfgSt := {}
  /-- area 0x13 | record | 18 | part resets -/
  upd : UpdSt := {}
  /-- area 0x14, memory | record | 19 | part resets -/
  mem : MemSt := {}
  /-- area 0x14, journals and MRAM records | record | 19 | part resets -/
  jnl : JnlSt := {}
  /-- area 0x15 | record | 20 | part resets -/
  acc : AccSt := {}
  /-- area 0x16 | record | 21 | part resets -/
  psv : PsvSt := {}
  /-- commands waiting, first in first out | list | the model's own | empty -/
  pending : List Instr := []
  /-- count of free values taken | count | the model's own | DESIGN CHOICE 0 (log 2); no statement rests on it -/
  free : Nat := 0
  deriving DecidableEq, Repr, Inhabited

/-- The module right after reset, Fill not yet complete: every field at the reset value its own line names. -/
def State.reset : State := {}

end Sys2Proof.Machine
end

