-- ==== Sys2Proof/Machine/Datagram.lean ====
section
/-! DEFINITION. Datagrams of the site link: header, digest, tag and the payloads of its messages (R410, R411, R572; Tables
14-1, 14-4, 14-5 and 20-3). -/

namespace Sys2Proof.Machine

/-- The 32 bytes of a message header (Table 14-1). -/
def siteHead (ver type : Nat) (hflags slot : Byte) (session : Word) (seq len : Nat) (digest : Word) (frame rest : Nat) :
    Bytes :=
  le 1 ver ++ le 1 type ++ [hflags, slot] ++ le 4 session.toNat ++ le 6 seq ++ le 2 len ++ le 4 digest.toNat ++
    le 6 frame ++ le 6 rest

/-- The header of a partner's datagram. -/
def SiteIn.head (m : SiteIn) : Bytes :=
  siteHead m.ver m.type m.hflags m.slot m.session m.seq m.len m.digest m.frame m.rest

/-- The code of a role in `SITE_HFLAGS` [1:0]. -/
def SiteIn.roleBits (m : SiteIn) : Nat := m.hflags.toNat % 4

/-- The role a partner's datagram claims; 0b11 claims none. -/
def SiteIn.claim (m : SiteIn) : Option Role :=
  if m.roleBits = 0 then some .operator else if m.roleBits = 1 then some .installer
  else if m.roleBits = 2 then some .maker else none

/-- The role of a message that has passed the tag check. -/
def SiteIn.role (m : SiteIn) : Role := m.claim.getD .operator

/-- Check 1 of R412: an unfragmented datagram of protocol version 0x01 and a length that R410 allows. -/
def SiteIn.formOk (m : SiteIn) (payload : Bytes) : Bool :=
  !m.fragmented && decide (m.ver = 1) && decide (payload.length ≤ 1400)

/-- Check 2 of R412: `SITE_LEN` and `SITE_DIGEST`. -/
def SiteIn.digestOk (m : SiteIn) (payload : Bytes) : Bool :=
  decide (m.len = payload.length) && decide (m.digest = crc32c payload)

/-- A tag key (R572): the role byte, and the direction byte 0x00 from the partner, 0x01 from the module. -/
def tagKey (prk : Bytes) (session : Word) (role dir : Nat) : Bytes :=
  hkdfExpand prk (([0x4D, 0x42, 0x54, 0x53, 0x49, 0x54, 0x45] : Bytes) ++ le 4 session.toNat ++ le 1 role ++ le 1 dir)

/-- The tag of a message under a key (R411). -/
def siteTag (key m : Bytes) : Bytes := (hmac key m).take 16

/-- The fingerprint of a certificate (R569). -/
def fingerprint (der : Bytes) : BitVec 64 := BitVec.ofNat 64 (ofLe ((sha256 der).take 8))

/-- The 32 bytes of the header of a message the module sends. -/
def SiteMsg.head (m : SiteMsg) : Bytes :=
  siteHead 1 m.type m.hflags m.slot m.session m.seq m.payload.length (crc32c m.payload) m.frame 0

/-- The datagram of a message the module sends (R410). -/
def SiteMsg.bytes (m : SiteMsg) : Bytes := m.head ++ m.payload ++ m.tag

/-- A message with its tag under the session's key for the role the module sends; that of a `SESSION_OPEN` is all zero
(R411). -/
def SiteMsg.seal (m : SiteMsg) (prk : Bytes) : SiteMsg :=
  { m with tag := if m.type = 1 then List.replicate 16 0
      else siteTag (tagKey prk m.session (m.hflags.toNat % 4) 1) (m.head ++ m.payload) }

/-! ### Payloads from the partner -/

/-- `COMMAND` (Table 14-5). -/
def commandBytes (id : Word) (code : Nat) (body : Bytes) : Bytes := le 4 id.toNat ++ le 2 code ++ le 2 body.length ++ body

/-- `STATUS_READ` (Table 14-4). -/
def statusReadBytes (index : Nat) : Bytes := le 2 index ++ [0, 0]

/-- `WINDOW_READ` (R430) and the head of `WINDOW_WRITE` (R431). -/
def windowBytes (page gen chunk : Nat) : Bytes := le 2 page ++ le 2 gen ++ le 1 chunk ++ le 3 0

/-- One entry of a `PAGE_HANDOVER` (R432): page, generation, arg, CRC. -/
def handoverItem (page gen arg : Nat) (crc : Word) : Bytes := le 2 page ++ le 2 gen ++ le 2 arg ++ le 2 0 ++ le 4 crc.toNat

/-- `PAGE_HANDOVER` of an op with its count and entries (R432). -/
def handoverBytes (op count : Nat) (items : List Bytes) : Bytes := le 1 op ++ le 1 count ++ [0, 0] ++ items.flatten

/-- `SESSION_OPEN` (Table 20-3). -/
def openBytes (ver : Nat) (nonce eph chain sig : Bytes) : Bytes :=
  le 1 ver ++ le 3 0 ++ padTo 16 nonce ++ padTo 65 eph ++ le 3 0 ++ le 2 chain.length ++ [0, 0] ++ chain ++ padTo 64 sig

/-- The payload of a partner's `SESSION_OPEN`. -/
def OpenIn.bytes (o : OpenIn) : Bytes := openBytes o.ver o.nonce o.eph o.certs.flatten o.sig

/-- The fingerprints of its chain, end entity first. -/
def OpenIn.chain (o : OpenIn) : List (BitVec 64) := o.certs.map fingerprint

/-- The plant CA certificate of its chain, none under the Maker root. -/
def OpenIn.ca (o : OpenIn) : Option Bytes := o.certs[1]?

/-- PRK of a session (R572). -/
def OpenIn.prk (o : OpenIn) : Bytes := hkdfExtract (padTo 16 o.nonce ++ padTo 16 o.ourNonce) (padTo 32 o.z)

end Sys2Proof.Machine
end

