-- ==== Sys2Proof/Machine/Ops.lean ====
section
/-! DEFINITION. Named operations over the state: sparse tables, strings and ports, roles, journals and messages. -/

namespace Sys2Proof.Machine

/-! ### Sparse tables -/

/-- Entry `i` of a table; an unlisted index reads as the default. -/
def tget {α : Type} [Inhabited α] : Tab α → Nat → α
  | [], _ => default
  | (k, v) :: t, i => if i = k then v else tget t i

/-- Write entry `i`, keeping the canonical form: rising indexes, no entry equal to the default. -/
def tput {α : Type} [Inhabited α] [DecidableEq α] : Tab α → Nat → α → Tab α
  | [], i, v => if v = default then [] else [(i, v)]
  | (k, w) :: t, i, v =>
    if i = k then (if v = default then tput t i v else (i, v) :: t)
    else if i < k ∧ v ≠ default then (i, v) :: (k, w) :: t
    else (k, w) :: tput t i v

/-- Change entry `i` by a function. -/
def tmod {α : Type} [Inhabited α] [DecidableEq α] (t : Tab α) (i : Nat) (f : α → α) : Tab α :=
  tput t i (f (tget t i))

/-- Change each entry of a list of indexes by a function of the index. -/
def tmodAll {α : Type} [Inhabited α] [DecidableEq α] (t : Tab α) (is : List Nat) (f : Nat → α → α) : Tab α :=
  is.foldl (fun u i => tmod u i (f i)) t

/-- The indexes a table lists, with a lower bound on the first: the canonical form. -/
def twfFrom {α : Type} [Inhabited α] [DecidableEq α] : Nat → Tab α → Bool
  | _, [] => true
  | b, (k, v) :: t => decide (b ≤ k) && decide (v ≠ default) && twfFrom (k + 1) t

/-- The canonical form of a table. -/
def twf {α : Type} [Inhabited α] [DecidableEq α] (t : Tab α) : Bool := twfFrom 0 t

/-- A table in canonical form that reads as a given one. -/
def tcanon {α : Type} [Inhabited α] [DecidableEq α] (t : Tab α) : Tab α := t.foldr (fun e u => tput u e.1 e.2) []

/-! ### Identifiers (Table 0-4) -/

/-- The strings S0 to S15. -/
def allStr : List Nat := upFrom 0 16

/-- The ports P0 to P127. -/
def allPorts : List Nat := upFrom 0 128

/-- The string a port belongs to (Table 0-4: p = 8 s + k). -/
def strOfPort (p : Nat) : Nat := p / 8

/-- The eight ports of a string. -/
def portsOf (s : Nat) : List Nat := upFrom (8 * s) 8

/-- The global index of channel `c` of port `p` (g = 512 s + 64 k + c). -/
def cellIx (p c : Nat) : Nat := 64 * p + c

/-- The index of thermistor `t` of port `p` in the Thermistor Table. -/
def thIx (p t : Nat) : Nat := 16 * p + t

/-- Bit `i` of a mask as a Bool. -/
def has (m : Mask) (i : Nat) : Bool := m.getLsbD i

/-- A mask with bit `i` set. -/
def withBit (m : Mask) (i : Nat) : Mask := m ||| ((1 : Mask) <<< i)

/-- A mask with bit `i` cleared. -/
def withoutBit (m : Mask) (i : Nat) : Mask := m &&& ~~~((1 : Mask) <<< i)

/-- A mask with bit `i` set to a value. -/
def putBit (m : Mask) (i : Nat) (b : Bool) : Mask := if b then withBit m i else withoutBit m i

/-- The strings a mask names, lowest first. -/
def namedIn (m : Mask) : List Nat := allStr.filter (has m)

/-! ### Readers of the state -/

/-- The present frame number (R32). -/
def State.now (s : State) : Nat := s.time.frame

/-- The pulse at which a command acts. -/
def State.atP (s : State) (p : Nat) : State := { s with time.pulse := p }

/-- Time of the present pulse, ns TAI (R9). -/
def State.nowNs (s : State) : Nat := s.time.frame * 1000000 + s.time.pulse * 1000

/-- The model's own clock of the links in µs: the strobes given and the pulse (log 166). No step moves it (R53). -/
def State.clockUs (s : State) : Nat := s.time.ticks * 1000 + s.time.pulse

/-- The entry of one string in area 0x03. -/
def State.str (s : State) (k : Nat) : StrSt := tget s.mode.str k

/-- Change the entry of one string in area 0x03. -/
def State.modStr (s : State) (k : Nat) (f : StrSt → StrSt) : State :=
  { s with mode.str := tmod s.mode.str k f }

/-- The link context of a port. -/
def State.lnk (s : State) (p : Nat) : LinkSt := tget s.link p

/-- Change the link context of a port. -/
def State.modLnk (s : State) (p : Nat) (f : LinkSt → LinkSt) : State := { s with link := tmod s.link p f }

/-- The front end of a port. -/
def State.fee (s : State) (p : Nat) : FeSt := tget s.fe p

/-- Change the front end of a port. -/
def State.modFee (s : State) (p : Nat) (f : FeSt → FeSt) : State := { s with fe := tmod s.fe p f }

/-- The power port of a string. -/
def State.pp (s : State) (k : Nat) : PpSt := tget s.power.port k

/-- Change the power port of a string. -/
def State.modPp (s : State) (k : Nat) (f : PpSt → PpSt) : State :=
  { s with power.port := tmod s.power.port k f }

/-- What Markhor holds of a string. -/
def State.pst (s : State) (k : Nat) : ProtStr := tget s.prot.str k

/-- Change what Markhor holds of a string. -/
def State.modPst (s : State) (k : Nat) (f : ProtStr → ProtStr) : State :=
  { s with prot.str := tmod s.prot.str k f }

/-- The string is installed (R23). -/
def State.installed (s : State) (k : Nat) : Bool := has s.sys.stringMask k && decide (k < 16)

/-- The installed strings. -/
def State.strings (s : State) : List Nat := allStr.filter s.installed

/-- Cells fitted on a port (Table 1-6). -/
def State.cellsOn (s : State) (p : Nat) : Nat := if s.installed (strOfPort p) then (tget s.sys.ports p).cells else 0

/-- Thermistors fitted on a port (Table 1-6). -/
def State.thOn (s : State) (p : Nat) : Mask := if s.installed (strOfPort p) then (tget s.sys.ports p).thMask else 0

/-- A port is fitted: it carries cells (R23). -/
def State.fitted (s : State) (p : Nat) : Bool := decide (0 < s.cellsOn p)

/-- The fitted ports of a string. -/
def State.fittedOf (s : State) (k : Nat) : List Nat := (portsOf k).filter s.fitted

/-- All fitted ports. -/
def State.fittedPorts (s : State) : List Nat := allPorts.filter s.fitted

/-- The cells of a string by global index. -/
def State.cellsOf (s : State) (k : Nat) : List Nat :=
  (s.fittedOf k).flatMap (fun p => upFrom (cellIx p 0) (s.cellsOn p))

/-- The fitted thermistors of a string by Thermistor Table index. -/
def State.thsOf (s : State) (k : Nat) : List Nat :=
  (s.fittedOf k).flatMap (fun p => ((upFrom 0 16).filter (has (s.thOn p))).map (thIx p))

/-- `ROLE` of Table 13-1, sent on the cell link and in command words (R92, R377); a module that has dropped the role
for input loss sends none (R585). -/
def State.roleCode (s : State) : RoleCode :=
  if s.psv.dropped then .none
  else match s.pair.state with
  | some .lone => .active
  | some .active => .active
  | some .standby => .standby
  | _ => .none

/-- The module holds the role: LONE or ACTIVE. -/
def State.leads (s : State) : Bool := decide (s.roleCode = .active)

/-- The module is one of a synchronised pair: STANDBY, or ACTIVE with a STANDBY peer (Table 13-1). -/
def State.inPair (s : State) : Bool :=
  decide (s.pair.state = some .standby) ||
    (decide (s.pair.state = some .active) && decide (s.pair.peerState = some .standby))

/-- The module's inputs reach it by the active's assignment (R385). -/
def State.byAssignment (s : State) : Bool :=
  decide (s.pair.state = some .active) || decide (s.pair.state = some .standby)

/-- The pair state is one that sends pair outputs (R388); after an input loss R585 ends them. -/
def State.sendsPair (s : State) : Bool :=
  (decide (s.pair.state = some .lone) || s.byAssignment) && !s.psv.dropped &&
    !(s.psv.loss.isSome && decide (s.pair.state = some .standby))

/-- A module that evaluates its own commands alone without being LONE (R388). -/
def State.aloneOnly (s : State) : Bool :=
  !s.sendsPair && (decide (s.mode.mode = .safe) || decide (s.mode.mode = .maintain) || s.mode.configHold)

/-- A runtime runs: Fill and the boot ROM are done, no boot hold stops it, and it has supply (R583). -/
def State.runtimeRuns (s : State) : Bool :=
  !(decide (s.mode.mode = .fill)) && !s.upd.bootHold && !s.mode.noRuntime && s.psv.powered &&
    !(decide (s.psv.state = .lastGasp))

/-! ### Codes of the enumerations -/

/-- `JNL_ROLE`, `ROLE` (Table 4-3). -/
def RoleCode.code : RoleCode → Nat
  | .none => 0
  | .active => 1
  | .standby => 2
  | .reserved => 3

/-- 0 for A, 1 for B. -/
def Slot.code : Slot → Nat
  | .a => 0
  | .b => 1

/-- The other slot. -/
def Slot.other : Slot → Slot
  | .a => .b
  | .b => .a

/-- Operator 0, Installer 1, Maker 2 (Table 14-1). -/
def Role.code : Role → Nat
  | .operator => 0
  | .installer => 1
  | .maker => 2

/-- `MODE_MODE` (Table 3-1). -/
def Mode.code : Mode → Nat
  | .fill => 0
  | .load => 1
  | .survey => 2
  | .idle => 3
  | .serve => 4
  | .rest => 5
  | .maintain => 6
  | .safe => 7

/-- String state code (Table 3-2). -/
def SState.code : SState → Nat
  | .unsurveyed => 0
  | .opened => 1
  | .connecting => 2
  | .closed => 3
  | .held => 4
  | .isolated => 5
  | .service => 6

/-- Status code (Table 0-6). -/
def Status.code : Status → Nat
  | .ok => 0x0000
  | .refusedState => 0x0101
  | .refusedRole => 0x0102
  | .refusedFormat => 0x0103
  | .refusedRange => 0x0104
  | .refusedBusy => 0x0105
  | .refusedSafety => 0x0106
  | .notOwner => 0x0107
  | .failedTimeout => 0x0201
  | .failedFault => 0x0202
  | .failedAborted => 0x0203
  | .partially => 0x0301
  | .unknown => 0x0302

/-- Ledger state code (Table 14-8). -/
def LedgerState.code : LedgerState → Nat
  | .empty => 0
  | .pending => 1
  | .accepted => 2
  | .started => 3
  | .done => 4
  | .failed => 5
  | .refused => 6

/-- `PAIR_STATE` (Table 13-1). -/
def PairState.code : PairState → Nat
  | .listen => 0
  | .lone => 1
  | .active => 2
  | .standby => 3
  | .joining => 4
  | .detached => 5

/-- Journal number (Table 14-4 `EVENT_PUSH`). -/
def JournalId.code : JournalId → Nat
  | .safety => 0
  | .event => 1
  | .audit => 2

/-! ### Journals (R549 to R552) -/

/-- The journal an event of a code belongs to (R549): area 0x0B, `TW_SAFE_REQUEST` (0x1101) and `JNL_CHECKPOINT` to
the safety journal, area 0x15 to the audit journal, every other event to the event journal. -/
def journalOf (code : Nat) : JournalId :=
  if code / 256 = 0x0B ∨ code = 0x1101 ∨ code = 0x1406 then .safety
  else if code / 256 = 0x15 then .audit else .event

/-- A record of the present instant (Table 19-4); its sequence is given at commit. -/
def State.record (s : State) (code : Nat) (pl : Bytes) : JRec :=
  { frame := s.time.frame, time := s.nowNs, code := code, slot := s.sys.slot, role := s.roleCode,
    payload := padTo 32 pl }

/-- Slots of each journal (R549). -/
def JournalId.slots : JournalId → Nat
  | .safety => 16384
  | .event => 131072
  | .audit => 65536

/-- Commit a record to a ring: the next sequence, oldest-first wrap (R549, R550). -/
def ringPush (n : Nat) (r : Ring) (rec : JRec) : Ring :=
  { r with recs := ({ rec with seq := r.next } :: r.recs).take n, next := r.next + 1 }

/-- The strings that are ISOLATED. -/
def State.isolatedMask (s : State) : Mask :=
  s.strings.foldl (fun m k => if (s.pst k).latched ≠ 0 then withBit m k else m) 0

/-- Payload of `JNL_CHECKPOINT` (Table 19-12): every latch that stands, before Load too. -/
def State.checkpointPayload (s : State) : Bytes :=
  let iso := allStr.foldl (fun m k => if (s.pst k).latched ≠ 0 then withBit m k else m) (0 : Mask)
  [s.jnl.safeLatch] ++ le 2 iso.toNat ++ [0] ++ allStr.flatMap (fun k => le 1 (s.pst k).firstOut)

/-- Write a safety record, with the checkpoint of R552 before a slot whose index is a multiple of 1,024. -/
def State.writeSafety (s : State) (rec : JRec) : State :=
  let r := s.jnl.safety
  let r1 := if (r.next - 1) % 1024 = 0 then ringPush 16384 r (s.record 0x1406 s.checkpointPayload) else r
  { s with jnl.safety := ringPush 16384 r1 rec }

/-- The ring of a journal. -/
def State.ring (s : State) : JournalId → Ring
  | .safety => s.jnl.safety
  | .event => s.jnl.event
  | .audit => s.jnl.audit

/-- Change the ring of a journal. -/
def State.modRing (s : State) (j : JournalId) (f : Ring → Ring) : State :=
  match j with
  | .safety => { s with jnl.safety := f s.jnl.safety }
  | .event => { s with jnl.event := f s.jnl.event }
  | .audit => { s with jnl.audit := f s.jnl.audit }

/-- Queue a runtime record (R551): dropped and counted while the queue of 4,096 is full; the count of the dropped is
journaled as `JNL_LOST` when space returns, ahead of the record. -/
def State.enqueue (s : State) (j : JournalId) (rec : JRec) : State :=
  let d := (s.ring j).dropped
  let room := 4096 - s.jnl.queue.length
  if room = 0 ∨ (0 < d ∧ room < 2) then
    s.modRing j (fun r => { r with dropped := r.dropped + 1, lost := sat32u (r.lost + 1) })
  else if 0 < d then
    let s1 := s.modRing j (fun r => { r with dropped := 0 })
    { s1 with jnl.queue := s1.jnl.queue ++
        [(.event, s.record 0x1407 (le 1 j.code ++ le 4 d)), (j, rec)] }
  else { s with jnl.queue := s.jnl.queue ++ [(j, rec)] }

/-- Journal an event at the present pulse: Markhor's records at once (R341, R551), the runtime's through the queue. -/
def State.ev (s : State) (code : Nat) (pl : Bytes) : State :=
  match journalOf code with
  | .safety => s.writeSafety (s.record code pl)
  | j => s.enqueue j (s.record code pl)

/-- Journal an event when a condition holds. -/
def State.evIf (s : State) (c : Bool) (code : Nat) (pl : Bytes) : State := if c then s.ev code pl else s

/-! ### Site messages (R417, R418) -/

/-- The cold-start factor of R351 applies. -/
def State.degradedFlag (s : State) : Bool := s.pair.cold

/-- `SITE_HFLAGS` of a message the module sends (Table 14-1, R418). -/
def State.hflags (s : State) (pairOut : Bool) : Byte :=
  BitVec.ofNat 8 (s.roleCode.code + packBits [false, false, pairOut, !s.time.aligned, s.degradedFlag])

/-- The site port messages are sent on (R416). -/
def State.sendPort (s : State) : Nat :=
  let up (k : Nat) : Bool := if k = 0 then s.site.link0 else s.site.link1
  let known (k : Nat) : Bool := if k = 0 then s.site.addr0.isSome else s.site.addr1.isSome
  match s.site.port with
  | none => 0
  | some k => if !up k && known (1 - k) then 1 - k else k

/-- A message of the present frame and session with its tag (R410, R411). -/
def State.newMsg (s : State) (type : Nat) (pairOut : Bool) (seq : Nat) (payload : Bytes) : SiteMsg :=
  SiteMsg.seal { type := type, pairOut := pairOut, seq := seq, frame := s.now, port := s.sendPort,
                 hflags := s.hflags pairOut, slot := s.sys.slot.code, session := s.site.session, payload := payload }
    s.site.prk

/-- Queue a message of the present frame. A pair output counts its place among those of its type, a module output
among all module outputs of the frame, of which 64 are sent and the rest wait (R417). -/
def State.send (s : State) (type : Nat) (pairOut : Bool) (payload : Bytes) : State :=
  if pairOut then
    if s.sendsPair then
      let j := (s.site.sent.filter (fun m => m.pairOut && decide (m.type = type) && decide (m.frame = s.now))).length
      let m := s.newMsg type true (s.now % 2 ^ 42 * 64 + j) payload
      { s with site.sent := m :: s.site.sent, pair.outputs := s.pair.outputs ++ [crc32c payload] }
    else s
  else
    let m := s.newMsg type false (s.now % 2 ^ 42 * 64 + s.site.nModOut) payload
    if s.site.nModOut < 64 then
      { s with site.sent := m :: s.site.sent, site.nModOut := s.site.nModOut + 1 }
    else { s with site.waiting := s.site.waiting ++ [m] }

/-- Queue a pair output of an OPEN session, or the module output that R388 lets a module alone send in its place. -/
def State.sendPairOpen (s : State) (type : Nat) (payload : Bytes) : State :=
  if s.site.sstate = .opened then
    if s.aloneOnly then s.send type false payload else s.send type true payload
  else s

end Sys2Proof.Machine
end

