-- ==== Sys2Proof/Machine/ObjStore.lean ====
section
/-! DEFINITION. Status objects of areas 0x12 to 0x16. -/

namespace Sys2Proof.Machine

/-- The live half of the patch area: a valid header and the higher generation (R505). -/
def State.liveHalf (s : State) : Option Nat :=
  match s.cfg.half0.valid, s.cfg.half1.valid with
  | true, true => some (if s.cfg.half0.gen < s.cfg.half1.gen then 1 else 0)
  | true, false => some 0
  | false, true => some 1
  | false, false => none

/-- A half of the patch area by number. -/
def State.half (s : State) (k : Nat) : PatchHalf := if k = 0 then s.cfg.half0 else s.cfg.half1

/-- Entries a half of 512 KiB takes after its 32-byte header (R505). -/
def halfCapacity : Nat := 16383

/-- `CFG_PATCH_FREE` (Table 17-13). -/
def State.patchFree (s : State) : Nat :=
  match s.liveHalf with
  | none => 0
  | some k => halfCapacity - (s.half k).entries.length

/-- `CFG_STATUS` (Table 17-13). -/
def State.objCfgStatus (s : State) : Bytes :=
  le 1 (s.cfg.slot.getD 0xFF) ++ le 1 s.cfg.format ++ le 1 s.cfg.res0 ++ le 1 s.cfg.res1 ++ le 4 s.cfg.seqLoaded ++
  le 4 s.cfg.seqOther ++ le 4 s.cfg.digestLoaded.toNat ++ le 4 s.cfg.digestOther.toNat ++
  le 1 (packBits [s.cfg.fallback, s.cfg.migrated, s.cfg.persistFail, s.cfg.stage.isSome, s.cfg.staged]) ++
  le 1 ((s.cfg.stage.map (·.own)).getD 0) ++ le 2 s.cfg.patches.length ++
  le 4 ((s.liveHalf.map (fun k => (s.half k).gen)).getD 0) ++ le 4 s.patchFree ++ le 8 s.cfg.created ++ le 8 0

/-- `CFG_PATCH_SET`. -/
def State.objPatchSet (s : State) : Bytes :=
  le 2 s.cfg.patches.length ++ le 2 0 ++
  s.cfg.patches.flatMap (fun w => le 2 w.type ++ le 2 w.word ++ le 4 w.eff.toNat ++ le 4 w.img.toNat)

/-- `UPD_VSTATE` (Table 18-3). -/
def VState.code : VState → Nat
  | .idle => 0
  | .downloading => 1
  | .verified => 2
  | .activating => 3
  | .trial => 4
  | .rejected => 5

/-- `UPD_MIG` (Table 18-2). -/
def Mig.code : Mig → Nat
  | .none => 0
  | .running => 1
  | .ready => 2

/-- Image blocks of a bank's manifest. -/
def BankSt.imageBlocks (b : BankSt) : Nat := (b.manifest.map (·.blocks)).getD 0

/-- Image blocks of Velvet with their bit set. -/
def State.blocksDone (s : State) : Nat :=
  ((upFrom 1 s.upd.velvet.imageBlocks).filter (fun b => s.upd.bitmap.getLsbD b)).length

/-- `UPD_STATUS` (Table 18-13). -/
def State.objUpdStatus (s : State) : Bytes :=
  le 1 s.upd.vstate.code ++ le 1 (packBits [s.upd.fallback, s.upd.revertNew, s.upd.copyNew]) ++ le 1 s.upd.trials ++
  le 1 s.upd.cause ++ le 4 (if s.upd.running = 0 then s.upd.verB else s.upd.verA).toNat ++ le 4 s.upd.verV.toNat ++
  le 4 s.upd.rollback ++ le 4 s.upd.secv ++ le 2 s.upd.velvet.imageBlocks ++ le 2 s.blocksDone ++
  le 4 (satN 0xFFFFFFFF (s.upd.cleanRun / 1000)) ++ le 1 s.upd.fmt0 ++ le 1 s.upd.fmt1 ++ le 1 s.upd.set ++
  le 1 s.upd.mig.code ++ le 1 ((s.upd.cfe.map (·.port)).getD 0xFF) ++ le 1 0 ++
  le 2 ((s.upd.cfe.map (·.sent)).getD 0) ++ le 12 0

/-- Region number (Table 19-11). -/
def MemRegion.code : MemRegion → Nat
  | .table => 0
  | .dram => 1
  | .markhor => 2

/-- `MEM_STATUS` (Table 19-11). -/
def State.objMemStatus (s : State) : Bytes :=
  le 4 s.mem.table.corr ++ le 4 s.mem.dram.corr ++ le 4 s.mem.markhor.corr ++ le 4 s.mem.table.page ++
  le 4 s.mem.dram.page ++ le 4 s.mem.table.uncorr ++ le 4 s.mem.dram.uncorr ++ le 4 s.mem.markhor.uncorr ++
  le 1 s.mem.remap.length ++ le 1 s.mem.remapMk.length ++ le 1 s.mem.errs.length ++
  le 1 (packBits [s.mem.table.late, s.mem.dram.late, s.mem.notRemapped]) ++ le 2 s.mem.table.pos ++
  le 2 s.mem.dram.pos ++ le 6 s.mem.table.done ++ le 6 s.mem.dram.done ++ le 4 s.mem.ovf ++ le 8 0

/-- An error address entry (Table 19-11). -/
def ErrEntry.bytes (e : ErrEntry) : Bytes :=
  le 8 e.addr ++ le 1 e.region.code ++ le 1 (packBits [e.hard, e.remapped]) ++ le 2 e.count ++ le 6 e.first ++
  le 6 e.last

/-- `MEM_ERRORS` (R564): the count, then 32 entries. -/
def State.objMemErrors (s : State) : Bytes :=
  le 1 s.mem.errs.length ++ le 3 0 ++ padTo 768 (s.mem.errs.flatMap ErrEntry.bytes)

/-- One journal of `JNL_STATUS`. -/
def Ring.bytes (r : Ring) : Bytes :=
  le 6 r.next ++ le 6 ((r.recs.getLast?.map (·.seq)).getD 0) ++ le 4 r.lost

/-- `JNL_STATUS` (Table 19-11). -/
def State.objJnlStatus (s : State) : Bytes :=
  s.jnl.safety.bytes ++ s.jnl.event.bytes ++ s.jnl.audit.bytes ++ le 2 s.jnl.queue.length ++
  le 1 (s.jnl.wSource.getD 0xFF) ++ le 1 0 ++ le 4 s.jnl.wSeq ++ le 6 s.jnl.wFrame ++ le 2 0

/-- The current root: the lowest written slot that has not been retired (chapter 20, Certificates). -/
def State.currentRoot (s : State) : Option Nat :=
  (upFrom 0 4).find? (fun k => s.acc.written.getLsbD k && !s.acc.retired.getLsbD k)

/-- The roles a session certificate holds, bit r (Table 20-2). -/
def Role.held : Role → Nat
  | .operator => 1
  | .installer => 3
  | .maker => 7

/-- `ACC_STATUS` (Table 20-7). -/
def State.objAccStatus (s : State) : Bytes :=
  le 1 (s.currentRoot.getD 0xFF) ++ le 1 (s.acc.written.toNat + 16 * s.acc.retired.toNat) ++
  le 1 s.acc.denyOtp.length ++
  le 1 ((if s.site.sstate = .none then 0 else s.site.certRole.held) + 128 * b2n s.acc.debugOpen) ++
  le 8 s.acc.fpr.toNat ++ le 4 s.acc.authFails ++ le 8 0

/-- `PSV_HU_PCT` (R582): min(100, 100 × E ÷ 60 J). -/
def State.huPct (s : State) : Nat := satN 100 (100 * s.psv.huE.toNat / 60)

/-- Mode of an analog input (Table 21-7). -/
def State.aiModeOf (s : State) (n : Nat) : Nat := bitsOf s.psv.aiMode.toNat (2 * n) 2

/-- The value of an analog input: 0x80000000 while it is off (R595). -/
def State.aiVal (s : State) (n : Nat) : Int := if s.aiModeOf n = 0 then -2147483648 else tget s.psv.ai n

/-- An analog input holds a valid value (R595). -/
def State.aiValid (s : State) (n : Nat) : Bool := decide (0 ≤ s.aiVal n) && decide (s.aiVal n ≤ 100000)

/-- The value of an analog input assigned to a frame (R385): in a synchronised pair the active's sample, else the
module's own. -/
def State.aiUse (s : State) (f n : Nat) : Int :=
  match tget s.pair.assignedAi f with
  | [] => s.aiVal n
  | l => if s.byAssignment then (l[n]?).getD 0 else s.aiVal n

/-- The calibration block is valid (R601). -/
def calBlockValid (b : Bytes) : Bool :=
  decide (b.length = 512) && decide (rdU b 0 4 = 0x4D43414C) && decide (rdU b 4 2 = 1) && decide (rdU b 6 2 = 512) &&
    decide (rdU b 508 4 = (crc32c (slice b 0 508)).toNat)

/-- A value with the gain correction (ppm) and offset that the block in force holds at a place (R601); none: unit gain and
zero offset. -/
def State.calibrated (s : State) (off : Nat) (x : Int) : Int :=
  divRound (x * (1000000 + rdI s.psv.calUsed off 4)) 1000000 + rdI s.psv.calUsed (off + 4) 4

/-- The readings of the rail monitors, the diodes and the base-plate sensor, calibrated (Table 21-10). -/
def State.calSensors (s : State) (x : Sensors) : Sensors :=
  { x with
    rails := x.rails.mapIdx (fun r v => s.calibrated (32 + 8 * r) v),
    diodes := x.diodes.mapIdx (fun d v => v + rdI s.psv.calUsed (242 + 2 * d) 2),
    base := x.base + rdI s.psv.calUsed 240 2 }

/-- `PSV_STATE` (Table 21-14). -/
def SupplyState.code : SupplyState → Nat
  | .normal => 0
  | .outOfRange => 1
  | .fullFunction => 2
  | .lastGasp => 3

/-- `PSV_STATUS` (Table 21-14). -/
def State.objPsvStatus (s : State) : Bytes :=
  leI 4 s.psv.vin ++ leI 4 s.psv.iin ++ leI 4 s.psv.pin ++ le 1 s.psv.state.code ++ le 1 s.huPct ++ le 2 0 ++
  leI 4 s.psv.huV ++ leI 8 s.psv.huE ++ leI 8 s.psv.huFull ++
  (upFrom 0 10).flatMap (fun r => leI 4 (tget s.psv.rails r)) ++ (upFrom 0 8).flatMap (fun n => leI 4 (s.aiVal n)) ++
  le 2 s.grz.railFail.toNat ++
  le 1 (packBits [s.psv.charging, decide (s.psv.huFull < 60), !calBlockValid s.psv.calUsed,
    (upFrom 0 8).any (fun n => decide (s.aiModeOf n ≠ 0) && !s.aiValid n)]) ++ le 1 0 ++ le 6 s.psv.lossFrame ++ le 2 0

/-- The zone entry of a string; an unlisted string has the defaults (Table 8-8). -/
def ThmCfg.zone (c : ThmCfg) (k : Nat) : Nat × Nat × Int := c.zones.getD k (1, 100, 2500)

end Sys2Proof.Machine
end

