-- ==== Sys2Proof/Machine/ObjAudit.lean ====
section
/-! DEFINITION. The status objects whose digests an audit record can carry (R577), and what they are formed from. -/

namespace Sys2Proof.Machine

/-- The place in a list of coded values, 0 beyond its end. -/
def nthI (l : List Int) (i : Nat) : Int := (l[i]?).getD 0

/-- A mask of the strings with a property. -/
def State.maskOf (s : State) (f : Nat → Bool) : Mask := (s.strings.filter f).foldl withBit 0

/-- `TIME_FLAGS` (Table 2-9). -/
def State.timeFlags (s : State) : Nat :=
  packBits [s.time.unsynced, s.time.aligned, s.time.stepPending, s.time.oscWarm, s.time.slewing]

/-- The string is CLOSED or HELD. -/
def State.onBus (s : State) (k : Nat) : Bool := decide ((s.str k).state = .closed) || decide ((s.str k).state = .held)

/-- `DERATE_OUT` as Markhor drives it (R300). -/
def State.derateOut (s : State) : Bool :=
  s.dsp.reqCurrent || s.dsp.reqZero || s.bus.unreachable || s.psv.derate || s.prot.frozen ||
    decide (s.mode.mode ∈ [Mode.fill, Mode.load, Mode.survey, Mode.safe])

/-- `SERVICE` as Markhor drives it (R597, R61): on in Safe, the Safe of a failed Fill included, in Maintain, in the
configuration-fault hold and in the boot hold. -/
def State.serviceOut (s : State) : Bool :=
  s.psv.powered && (decide (s.mode.mode ∈ [Mode.safe, .maintain]) || s.mode.configHold || s.upd.bootHold)

/-- The OR of the action masks of the stages of a set. -/
def orStages (f : Nat → Byte) (m : Mask) : Byte :=
  (upFrom 1 12).foldl (fun a n => if has m (n - 1) then a ||| f n else a) 0

/-- The word of a safety function in the trip matrix. -/
def State.matrix (s : State) (n : Nat) : MatrixRow := (s.prot.cfg.matrix[n - 1]?).getD ⟨0, 0, .operator⟩

/-- Actions in force on a string: those of its standing stages. -/
def State.actions (s : State) (k : Nat) : Byte :=
  orStages (fun n => (s.matrix n).warn) (s.pst k).warn ||| orStages (fun n => (s.matrix n).trip) (s.pst k).tripStage

/-- Charge is inhibited on the string. -/
def State.inhChg (s : State) (k : Nat) : Bool := (s.actions k).getLsbD 2

/-- Discharge is inhibited on the string, by an action or by the pair rule of R165. -/
def State.inhDis (s : State) (k : Nat) : Bool := (s.actions k).getLsbD 3 || (s.pst k).pairInhDis

/-- Alarms unacknowledged on any string (`PROT_ALARMS`). -/
def State.protAlarms (s : State) : Mask := s.strings.foldl (fun m k => m ||| (s.pst k).unack) 0

/-- `MODE_SERVE_READY` (R70): the hold-up charge suffices and no Safe latch is pending. -/
def State.serveReady (s : State) : Bool :=
  decide (s.mode.cfg.serveHoldup ≤ s.huPct) && decide (s.jnl.safeLatch = 0)

/-- The chemistry set in use: the image's, or the built-in set of Table 7-5. -/
def State.chem (s : State) : Chem := s.est.chem.getD default

/-- The built-in set is in use. -/
def State.builtIn (s : State) : Bool := s.est.chem.isNone

/-- Q_design in mA·s (R185, Table 7-8). -/
def State.qDesign (s : State) : Nat := (s.est.chem.map (·.capacity)).getD 360000000

/-- An excursion is open on a string. -/
def State.excursionOpen (s : State) : Bool := s.strings.any (fun k => (tget s.est.str k).excursion.isSome)

/-- `CFE_PORT` (Table 5-12); a port without a front end reports 0. -/
def State.objCfe (s : State) (p : Nat) : Bytes :=
  if !s.fitted p then List.replicate 64 0
  else
    let c := tget s.cfe p
    padTo 16 c.serial ++ le 4 c.contract.toNat ++ le 4 c.model.toNat ++ le 4 c.caps.toNat ++ le 4 c.fwRun.toNat ++
      le 4 c.bank0.toNat ++ le 4 c.bank1.toNat ++ le 8 c.calTime.toNat ++ le 4 c.calCrc.toNat ++
      le 4 c.wearStat.toNat ++ le 4 c.alarm.toNat ++ le 2 c.dieTemp.toNat ++ le 1 (bitsOf c.status.toNat 30 2) ++ [0]

/-- `EST_MODULE` (Table 7-10). -/
def State.objEstModule (s : State) : Bytes :=
  le 4 s.chem.id.toNat ++ le 1 (packBits [s.builtIn, s.est.filterInvalid]) ++ [0, 0, 0] ++ le 8 s.qDesign ++
    le 2 s.est.stepped ++ le 2 s.est.stale ++ [0, 0, 0, 0]

/-- The body of LIMITS, `DSP_LIMITS` (Table 12-3). -/
def State.objLimits (s : State) : Bytes :=
  let mask (f : Nat → Bool) : Nat := ((s.strings.filter f).foldl withBit 0).toNat
  (upFrom 0 4).flatMap (fun h => leI 4 (sat32 (nthI s.dsp.chg h))) ++
    (upFrom 0 4).flatMap (fun h => leI 4 (-(sat32 (nthI s.dsp.dis h)))) ++ leI 4 (sat32 s.dsp.vmax) ++
    leI 4 (sat32 s.dsp.vmin) ++
    le 2 (packBits [s.dsp.stale, s.dsp.zeroed, !s.time.aligned, s.degradedFlag, s.dsp.reqCurrent || s.dsp.reqZero,
      s.excursionOpen]) ++
    le 2 (mask s.onBus) ++ le 2 (mask (fun k => decide ((s.str k).state = .held))) ++ [0, 0]

/-! ### Areas 0x01 to 0x03 -/

/-- `SYS_IDENTITY` (Table 1-7, R26). -/
def State.objIdentity (s : State) : Bytes :=
  padTo 16 s.sys.serial ++ padTo 12 s.sys.orderCode ++ [s.sys.hwIssue] ++ le 1 s.sys.slot.code ++ le 2 0 ++
    le 4 s.sys.runtime.toNat ++ le 4 s.sys.bootRom.toNat ++ le 1 s.upd.running ++ le 1 (b2n s.upd.trial) ++ le 2 0 ++
    le 4 s.sys.imageSeq.toNat ++ le 4 s.sys.plantId.toNat ++ le 1 s.sys.container ++ le 3 0 ++ le 6 s.sys.startFrame ++
    le 2 0 ++ padTo 16 s.sys.containerName

/-- `TIME_SOURCE` code (Table 2-9). -/
def TimeSource.code : TimeSource → Nat
  | .none => 0
  | .ptp0 => 1
  | .ptp1 => 2
  | .pps => 3
  | .pair => 4

/-- `TIME_FREQ_SOURCE` code (Table 2-9). -/
def FreqSource.code : FreqSource → Nat
  | .model => 0
  | .ptp => 1
  | .pps => 2
  | .ref10 => 3
  | .pair => 4

/-- `TIME_STATE` code (Table 2-4). -/
def TimeState.code : TimeState → Nat
  | .freerun => 0
  | .acquiring => 1
  | .locked => 2
  | .holdover => 3
  | .following => 4

/-- The port of the best master: the lowest Announce rank among the enabled ports with a master (R42). -/
def State.bestPort (s : State) : Option Nat :=
  let a (k : Nat) : Announce := if k = 0 then s.time.ann0 else s.time.ann1
  let on (k : Nat) : Bool := s.time.cfg.ports.testBit k && (a k).present
  if on 0 && on 1 then some (if (a 1).rank < (a 0).rank then 1 else 0)
  else if on 0 then some 0 else if on 1 then some 1 else none

/-- The Announce data the module reports: of the best master; none present reads as its absence. -/
def State.curAnn (s : State) : Announce :=
  match s.bestPort with
  | some 0 => s.time.ann0
  | some _ => s.time.ann1
  | none => { gmClass := 0xFF }

/-- `TIME_STATUS` (Table 2-9). -/
def State.objTime (s : State) : Bytes :=
  let a := s.curAnn
  le 6 s.now ++ le 1 s.time.state.code ++ le 1 s.time.source.code ++ le 1 s.time.freqSource.code ++
    le 1 s.timeFlags ++ le 2 0 ++ leI 4 (sat32 s.time.offset) ++ le 4 (sat32u s.time.errorBound) ++
    le 4 (if s.time.state = .holdover then (s.now - s.time.holdoverFrom) / 1000 else 0) ++ leI 4 s.time.freqCorr ++
    leI 2 s.time.oscTemp ++ leI 2 a.utcOffset ++ le 8 a.gmId.toNat ++ [a.gmClass] ++ le 1 0 ++ le 2 a.stepsRemoved ++
    le 4 0

/-- `MODE_STATUS` (Table 3-13). -/
def State.objMode (s : State) : Bytes :=
  le 1 s.mode.mode.code ++ le 1 ((s.mode.target.map Mode.code).getD 0xFF) ++ [s.mode.safeCause] ++
    le 1 (packBits [s.serveReady, s.mode.configHold, s.inPair, s.mode.joinRefused]) ++ le 6 s.mode.entryFrame ++
    le 2 s.mode.enabled.toNat ++
    allStr.flatMap (fun k => le 1 (if s.installed k then (s.str k).state.code else 0xFF)) ++
    allStr.map (fun k => (s.str k).cause) ++ le 4 0

/-! ### Areas 0x0B and 0x0E -/

/-- An interlock input is healthy, or not enabled (R320). -/
def State.ilkBits (s : State) : Nat :=
  packBits ((upFrom 0 4).map (fun k => !(tget s.prot.ilk k).faulted))

/-- `PROT_STATUS` (Table 11-13). -/
def State.objProt (s : State) : Bytes :=
  le 2 (s.maskOf (fun k => (s.pst k).trip)).toNat ++ le 2 s.isolatedMask.toNat ++ le 2 (s.maskOf s.inhChg).toNat ++
    le 2 (s.maskOf s.inhDis).toNat ++ le 2 (s.maskOf (fun k => (s.actions k).getLsbD 1)).toNat ++
    le 2 s.protAlarms.toNat ++
    le 1 (s.ilkBits + 16 * packBits [s.prot.safeA, s.prot.safeB, s.derateOut, s.prot.frozen]) ++ le 3 0 ++
    le 4 s.prot.digest.toNat ++ le 6 s.time.markhorFrame ++ le 6 0

/-- `PAIR_HOME_WAIT` (Table 13-11): seconds until slot A has been STANDBY for `PAIR_HOME_HOLD` (R404). -/
def State.homeWait (s : State) : Nat :=
  let from_ : Option Nat :=
    if s.sys.slot = .a ∧ s.pair.state = some .standby then some s.pair.since
    else if s.sys.slot = .b ∧ s.pair.state = some .active ∧ s.pair.peerState = some .standby then some s.pair.syncFrame
    else none
  match from_ with
  | some f =>
    if s.pair.cfg.homeEn && !s.pair.homeOff then (f + 1000 * s.pair.cfg.homeHold - s.now + 999) / 1000 else 0xFFFFFFFF
  | none => 0xFFFFFFFF

/-- `PAIR_STATUS` (Table 13-11). -/
def State.objPair (s : State) : Bytes :=
  let q := s.pair
  le 1 ((q.state.map PairState.code).getD 0xFF) ++ le 1 ((q.peerState.map PairState.code).getD 0xFF) ++
    le 1 (packBits [q.chgOut, q.chgIn, q.lane0, q.lane1, q.hbValid, q.homeOff, q.cold, q.twoActive]) ++
    le 1 (satN 255 (q.fails.filter (fun f => decide (s.now < f + 3600000))).length) ++ le 6 q.syncFrame ++
    le 2 q.pagesRx.length ++ le 2 q.pages ++ le 2 (satN 65535 q.matched) ++ le 6 q.epoch ++ le 2 0 ++
    le 4 q.nDivergence ++ le 4 q.nTakeover ++ le 4 q.nLost ++ le 4 s.homeWait ++ le 4 q.frameDigest.toNat ++ le 4 0

end Sys2Proof.Machine
end

