-- ==== Sys2Proof/Machine/Objects.lean ====
section
/-! DEFINITION. The status objects by index (R11) that the audit digests use. -/

namespace Sys2Proof.Machine

/-- The body of a status object of the store areas, or of one an audit record can name. -/
def State.statusObject (s : State) (idx : Nat) : Option Bytes :=
  if idx = 0x0101 then some s.objIdentity
  else if idx = 0x0201 then some s.objTime
  else if idx = 0x0301 then some s.objMode
  else if 0x0510 ≤ idx ∧ idx < 0x0590 then some (s.objCfe (idx - 0x0510))
  else if idx = 0x0701 then some s.objEstModule
  else if idx = 0x0B01 then some s.objProt
  else if idx = 0x0C01 then some s.objLimits
  else if idx = 0x0E01 then some s.objPair
  else if idx = 0x1201 then some s.objCfgStatus
  else if idx = 0x1210 then some s.objPatchSet
  else if idx = 0x1301 then some s.objUpdStatus
  else if idx = 0x1401 then some s.objMemStatus
  else if idx = 0x1402 then some s.objMemErrors
  else if idx = 0x1410 then some s.objJnlStatus
  else if idx = 0x1501 then some s.objAccStatus
  else if idx = 0x1601 then some s.objPsvStatus
  else none

/-- CRC-32C of a status object (R577). -/
def State.objDigest (s : State) (idx : Nat) : Word := crc32c ((s.statusObject idx).getD [])

end Sys2Proof.Machine
end

