-- ==== Sys2Proof/Machine/Ledger.lean ====
section
/-! DEFINITION. The command ledger and the evaluation of a partner command (R82 to R86, R419 to R425, R577). -/

namespace Sys2Proof.Machine

/-- The slot of the ledger that holds a command ID. -/
def slotOf (t : Tab LedgerEntry) (id : Word) : Option Nat :=
  (t.find? (fun e => decide (e.2.id = id) && decide (e.2.state ≠ .empty))).map (·.1)

/-- The ledger entry of a command ID. -/
def State.entry (s : State) (id : Word) : Option LedgerEntry :=
  (slotOf s.site.ledger id).map (tget s.site.ledger)

/-- `COMMAND_RESULT` payload of an entry (Table 14-7). -/
def LedgerEntry.bytes (e : LedgerEntry) (flags : Nat) : Bytes :=
  le 4 e.id.toNat ++ le 2 e.code ++ le 1 e.state.code ++ le 1 flags ++ le 2 e.status.code ++ le 1 e.step ++
  le 1 e.steps ++ le 6 e.arrival ++ le 1 e.role.code ++ le 1 0 ++ le 6 e.effective ++ le 2 e.detail.length ++
  le 4 e.digest.toNat ++ le 6 e.changed ++ le 26 0 ++ e.detail

/-- Page numbers in a list of uint16. -/
def pageList (b : Bytes) (off : Nat) : Nat → List Nat
  | 0 => []
  | n + 1 => rdU b off 2 :: pageList b (off + 2) n

/-- The inbound pages a command names (R435; Tables 17-6, 18-6, 18-10). -/
def LedgerEntry.pages (e : LedgerEntry) : List Nat :=
  if e.code = 0x1202 then pageList e.body 8 (rdU e.body 4 2)
  else if e.code = 0x1301 then
    if rdU e.body 1 1 = 1 then pageList e.body 8 (rdU e.body 4 2)
    else if rdU e.body 1 1 = 2 then pageList e.body 8 (16 * rdU e.body 4 2) else []
  else if e.code = 0x0501 then pageList e.body 16 (rdU e.body 12 2)
  else []

/-- The status object whose digests the audit record of a command carries (R577). -/
def LedgerEntry.auditObject (e : LedgerEntry) : Nat :=
  if e.code = 0x0501 then 0x0510 + rdU e.body 0 1 else e.code / 256 * 256 + 1

/-- Image of a carrier slot. -/
def State.slotImage (s : State) (k : Nat) : Bytes := if k = 0 then s.cfg.slot0 else s.cfg.slot1

/-- `CFG_DIGEST` of an image (R489); 0 of an empty slot. -/
def imageDigest (b : Bytes) : Word := if b = [] then 0 else crc32c b

/-- The digest at the start or the end of a command (R577): of its object, or of the target slot for a staging. -/
def State.auditDigest (s : State) (e : LedgerEntry) : Word :=
  if e.code = 0x1202 then
    match s.cfg.stage with
    | some j => imageDigest (s.slotImage j.target)
    | none => 0
  else s.objDigest e.auditObject

/-- An `ACC_AUDIT` record (Table 20-4). -/
def State.audit (s : State) (e : LedgerEntry) (object word : Nat) (old new : Word) : State :=
  s.ev 0x1501 (le 1 e.role.code ++ le 1 e.state.code ++ le 2 e.code ++ le 8 s.acc.fpr.toNat ++ le 2 object ++
    le 2 word ++ le 4 old.toNat ++ le 4 new.toNat ++ le 4 e.id.toNat)

/-- Move a command's ledger entry to a state: the entry is written, then its result queued (R421); a command that
ends is audited (R577) and its pages are freed (R435). -/
def State.cmdTo (s : State) (id : Word) (st : LedgerState) (status : Status) (step : Nat) (detail : Bytes) : State :=
  match slotOf s.site.ledger id with
  | none => s
  | some k =>
    let e : LedgerEntry := { tget s.site.ledger k with
      state := st, status := status, step := step, detail := detail.take 192, changed := s.now }
    let s1 := { s with site.ledger := tput s.site.ledger k e }
    let s2 := s1.sendPairOpen 0x11 (e.bytes 0)
    let s3 := if st = .done ∨ st = .failed then s2.audit e e.auditObject 0 e.before (s2.auditDigest e) else s2
    if (st = .done ∨ st = .failed ∨ st = .refused) ∧ e.pages ≠ [] then
      { s3 with site.winReqs := s3.site.winReqs ++ [.freed e.pages .ok] }
    else s3

/-- Change the step count and the audit digest of an entry that starts. -/
def State.cmdBegin (s : State) (id : Word) (steps : Nat) : State :=
  match slotOf s.site.ledger id with
  | none => s
  | some k =>
    let e := tget s.site.ledger k
    { s with site.ledger := tput s.site.ledger k { e with steps := steps, before := s.auditDigest e } }

/-- A command DONE in the present frame. -/
def State.cmdDone (s : State) (id : Word) : State :=
  let n := ((s.entry id).map (·.steps)).getD 1
  s.cmdTo id .done .ok n []

/-- A command STARTED at a step. -/
def State.cmdStep (s : State) (id : Word) (k : Nat) : State := s.cmdTo id .started .ok k []

/-- A command FAILED with a code at a step. -/
def State.cmdFail (s : State) (id : Word) (st : Status) (k : Nat) (detail : Bytes) : State :=
  s.cmdTo id .failed st k detail

/-- The command is ACCEPTED or STARTED: it has not ended. -/
def State.cmdOpen (s : State) (id : Word) : Bool :=
  match s.entry id with
  | some e => decide (e.state = .accepted) || decide (e.state = .started)
  | none => false

/-- The step a command has reached. -/
def State.cmdAt (s : State) (id : Word) : Nat := ((s.entry id).map (·.step)).getD 0

/-- A command stopped by a protection action or a Safe cause ends FAILED_ABORTED at the step it had reached (R84). -/
def State.cmdAbort (s : State) (id : Word) : State :=
  if s.cmdOpen id then s.cmdFail id .failedAborted (s.cmdAt id) [] else s

/-! ### Acceptance (Table 3-10) -/

/-- An entry of Table 3-10. -/
inductive Accept where
  | no | yes | pair
  deriving DecidableEq, Repr

/-- A row of Table 3-10: the least role, then Load hold, Survey, Idle, Serve, Rest, Maintain, Safe. -/
structure AcceptRow where
  role : Role
  hold : Accept := .no
  survey : Accept := .no
  idle : Accept := .no
  serve : Accept := .no
  rest : Accept := .no
  maintain : Accept := .no
  safe : Accept := .no
  deriving DecidableEq, Repr

/-- Table 3-10 by command code; `MODE_REQUEST` by the mode of its body. A mode with no row passes the state check
(R419). The role of `MODE_SAFE_RESET` and `MODE_STRING_RESET` is judged by R75 and R311. -/
def acceptRow (code : Nat) (body : Bytes) : AcceptRow :=
  if code = 0x0301 then
    match rdU body 0 1 with
    | 3 => { role := .operator, serve := .yes, rest := .yes, maintain := .yes }
    | 4 => { role := .operator, idle := .yes }
    | 5 => { role := .operator, idle := .yes }
    | 6 => { role := .installer, idle := .yes }
    | _ => { role := .operator, hold := .yes, survey := .yes, idle := .yes, serve := .yes, rest := .yes,
             maintain := .yes, safe := .yes }
  else if code = 0x0302 then
    { role := .operator, survey := .yes, idle := .yes, serve := .yes, rest := .yes, maintain := .yes }
  else if code = 0x0303 then { role := .operator, safe := .yes }
  else if code = 0x0304 then
    { role := .installer, hold := .yes, idle := .pair, serve := .pair, rest := .pair, maintain := .yes }
  else if code = 0x0305 then { role := .operator, idle := .yes, serve := .yes, rest := .yes }
  else if code = 0x0306 then { role := .installer, idle := .yes, serve := .yes, maintain := .yes }
  else if code = 0x0307 then { role := .installer, idle := .yes, serve := .yes, maintain := .yes }
  else if code = 0x0308 then { role := .operator, idle := .yes, serve := .yes, maintain := .yes }
  else if code = 0x0C01 then { role := .operator, idle := .yes, serve := .yes, rest := .yes, maintain := .yes }
  else if code = 0x0B01 then
    { role := .operator, survey := .yes, idle := .yes, serve := .yes, rest := .yes, maintain := .yes, safe := .yes }
  else if code = 0x0701 then { role := .operator, serve := .yes }
  else if code = 0x0201 then
    { role := .operator, survey := .yes, idle := .yes, serve := .yes, rest := .yes, maintain := .yes, safe := .yes }
  else if code = 0x1201 then { role := .installer, idle := .yes, serve := .yes, maintain := .yes }
  else if code = 0x1202 then
    { role := .installer, hold := .yes, idle := .yes, serve := .yes, rest := .yes, maintain := .yes, safe := .yes }
  else if code = 0x1301 then
    { role := .installer, idle := .yes, serve := .yes, rest := .yes, maintain := .yes, safe := .yes }
  else if code = 0x1302 then { role := .installer, idle := .pair, serve := .pair, rest := .pair, maintain := .yes }
  else if code = 0x1303 then { role := .installer, idle := .yes, serve := .yes, maintain := .yes }
  else if code = 0x0501 then { role := .installer, idle := .yes, serve := .yes, maintain := .yes }
  else if code = 0x0E01 then { role := .installer, idle := .yes, serve := .yes, rest := .yes }
  else if code = 0x1203 then { role := .maker, maintain := .yes }
  else if code = 0x0101 then { role := .maker, hold := .yes, maintain := .yes }
  else if code = 0x1501 then
    { role := .maker, hold := .yes, idle := .yes, serve := .yes, rest := .yes, maintain := .yes, safe := .yes }
  else if code = 0x1502 then { role := .maker, maintain := .yes, safe := .yes }
  else { role := .operator }

/-- The entry of Table 3-10 for the present mode; in Fill and in Load outside the hold nothing is accepted. -/
def AcceptRow.at (r : AcceptRow) (s : State) : Accept :=
  match s.mode.mode with
  | .fill => .no
  | .load => if s.mode.configHold then r.hold else .no
  | .survey => r.survey
  | .idle => r.idle
  | .serve => r.serve
  | .rest => r.rest
  | .maintain => r.maintain
  | .safe => r.safe

/-- The mode admits the command (Table 3-10); "P" is met in a synchronised pair alone (R86). -/
def State.admits (s : State) (e : LedgerEntry) : Bool :=
  match (acceptRow e.code e.body).at s with
  | .yes => true
  | .pair => s.inPair
  | .no => false

/-- The claimed role holds the rights of the required one (R567). -/
def roleAtLeast (have_ need : Role) : Bool := decide (need.code ≤ have_.code)

/-- What a command's owner adds to the checks of R82; each is true where the check passes. -/
structure Checks where
  format : Bool := true
  role : Bool := true
  state : Bool := true
  busy : Bool := true
  range : Bool := true
  safety : Bool := true
  deriving DecidableEq, Repr

/-- The first check of R82 that fails, in the order of R82. -/
def State.firstFail (s : State) (e : LedgerEntry) (c : Checks) : Option Status :=
  if !c.format then some .refusedFormat
  else if !(roleAtLeast e.role (acceptRow e.code e.body).role && c.role) then some .refusedRole
  else if !(s.admits e && c.state) then some .refusedState
  else if !c.busy then some .refusedBusy
  else if !c.range then some .refusedRange
  else if !c.safety then some .refusedSafety
  else none

/-- Refuse a command: `MODE_CMD_REFUSED` and the ledger entry, nothing else (R14, R83). -/
def State.cmdRefuse (s : State) (e : LedgerEntry) (st : Status) (strState : Nat) : State :=
  (s.ev 0x0303 (le 2 e.code ++ le 2 st.code ++ le 4 e.id.toNat ++ le 1 s.mode.mode.code ++ le 1 strState)).cmdTo e.id
    .refused st 0 []

/-- No other command of the present frame with a lower site sequence number still waits (R82). -/
def State.inOrder (s : State) (e : LedgerEntry) : Bool :=
  s.site.ledger.all (fun x => !(decide (x.2.state = .pending) && decide (x.2.effective = s.now) && decide (x.2.seq < e.seq)))

/-- Evaluate a partner command at its effective frame (R82): only an entry that is PENDING, carries the code, is effective
in the present frame and is next in the order of site sequence numbers. `strState` is the state of the first refused
string, 0xFF if none. -/
def State.evaluate (s : State) (id : Word) (code : Nat) (steps : Nat) (checks : State → LedgerEntry → Checks)
    (strState : State → LedgerEntry → Nat) (go : State → LedgerEntry → State) : State :=
  match s.entry id with
  | none => s
  | some e =>
    if e.state = .pending ∧ e.code = code ∧ e.effective = s.now ∧ s.inOrder e then
      let s0 := s.atP 0
      match s0.firstFail e (checks s0 e) with
      | some st => s0.cmdRefuse e st (strState s0 e)
      | none => go (s0.cmdBegin id steps) e
    else s

/-- No string names a refusal. -/
def noStr : State → LedgerEntry → Nat := fun _ _ => 0xFF

/-! ### Commands that name strings (R85) -/

/-- The mask of a string command. -/
def LedgerEntry.mask (e : LedgerEntry) : Mask := BitVec.ofNat 16 (rdU e.body 0 2)

/-- The strings carried out and the strings refused, of the named ones (R85): an installed string in an admitted
state, by a judgement of the command. -/
def State.judged (s : State) (m : Mask) (ok : Nat → Option Status) : List Nat × List (Nat × Status) :=
  (namedIn m).foldl (fun (a : List Nat × List (Nat × Status)) k =>
    match (if s.installed k then ok k else some .refusedState) with
    | none => (a.1 ++ [k], a.2)
    | some st => (a.1, a.2 ++ [(k, st)])) ([], [])

/-- The detail of PARTIAL: one code for each string, 0 carried out, 0xFFFF not named (Table 14-7). -/
def partialDetail (m : Mask) (refused : List (Nat × Status)) : Bytes :=
  allStr.flatMap (fun k => le 2 (if !has m k then 0xFFFF else
    match refused.find? (fun r => decide (r.1 = k)) with
    | some r => r.2.code
    | none => 0))

/-- End a string command in its effective frame: DONE, or DONE with PARTIAL and the detail (R85). -/
def State.cmdEndStrings (s : State) (id : Word) (m : Mask) (refused : List (Nat × Status)) : State :=
  let n := ((s.entry id).map (·.steps)).getD 1
  if refused = [] then s.cmdTo id .done .ok n [] else s.cmdTo id .done .partially n (partialDetail m refused)

/-- State of the lowest-numbered refused string for `MODE_CMD_REFUSED`. -/
def State.firstRefusedState (s : State) (refused : List (Nat × Status)) : Nat :=
  match refused with
  | [] => 0xFF
  | (k, _) :: _ => if s.installed k then (s.str k).state.code else 0xFF

/-- Evaluate a command that names strings by the mask in its first two bytes, under R85: refused whole when no named
string is acceptable, with the code of the lowest one; else carried out for the acceptable ones. -/
def State.evaluateStrings (s : State) (id : Word) (code steps : Nat) (checks : State → LedgerEntry → Checks)
    (ok : State → LedgerEntry → Nat → Option Status)
    (go : State → LedgerEntry → List Nat → List (Nat × Status) → State) : State :=
  match s.entry id with
  | none => s
  | some e =>
    if e.state = .pending ∧ e.code = code ∧ e.effective = s.now ∧ s.inOrder e then
      let s0 := s.atP 0
      let c := checks s0 e
      let j := s0.judged e.mask (ok s0 e)
      let none_ := decide (j.1 = []) && decide (e.mask ≠ 0)
      let first := (j.2.head?.map (·.2)).getD .refusedState
      let c1 := { c with
        role := c.role && !(none_ && decide (first = .refusedRole)),
        state := c.state && !(none_ && decide (first = .refusedState)),
        busy := c.busy && !(none_ && decide (first = .refusedBusy)),
        range := c.range && decide (e.mask ≠ 0) && !(none_ && decide (first = .refusedRange)),
        safety := c.safety && !(none_ && decide (first = .refusedSafety)) }
      match s0.firstFail e c1 with
      | some st => s0.cmdRefuse e st (s0.firstRefusedState j.2)
      | none => go (s0.cmdBegin id steps) e j.1 j.2
    else s

/-- The next state, always. -/
def ok (s : State) : Host.Outcome State Fault Refusal := .next s

end Sys2Proof.Machine
end

