-- ==== Sys2Proof/Machine/Items.lean ====
section
/-! DEFINITION. The input items of a frame, their listing and their assignment to frames (R385, R499, R515). -/

namespace Sys2Proof.Machine

/-! ### Input items (R385) -/

/-- Set the effective frame of a PENDING command (R385, R420). -/
def State.setEffective (s : State) (id : Word) (f : Nat) : State :=
  match slotOf s.site.ledger id with
  | none => s
  | some k =>
    let e := tget s.site.ledger k
    if e.state = .pending ∧ e.effective = 0 then
      { s with site.ledger := tput s.site.ledger k { e with effective := f, changed := s.now } }
    else s

/-- Two items are the same (R385). -/
def PairItem.same (a b : PairItem) : Bool :=
  decide (a.id = b.id) && decide (a.seq = b.seq) && decide (a.digest = b.digest)

/-- A command of an assigned item that this module has not received itself enters its ledger as PENDING. -/
def State.adoptCommand (s : State) (it : PairItem) (f : Nat) : State :=
  match it.body with
  | .command code role q body =>
    match slotOf s.site.ledger it.id with
    | some _ => s.setEffective it.id f
    | none =>
      match (upFrom 0 1024).find? (fun k => decide ((tget s.site.ledger k).state = .empty)) with
      | none => s
      | some k =>
        { s with
          site.ledger := tput s.site.ledger k
            { id := it.id, code := code, state := .pending, role := role, seq := q, body := body, arrival := s.now,
              digest := it.digest, effective := f, changed := s.now },
          site.newest := it.id }
  | _ => s

/-- Assign items to a frame: commands take it as their effective frame, the others are taken when it begins. -/
def State.assign (s : State) (f : Nat) (its : List PairItem) : State :=
  let s1 := its.foldl (fun u it => u.adoptCommand it f) s
  { s1 with
    pair.assigned := tput s1.pair.assigned f (tget s1.pair.assigned f ++ its),
    pair.items := s1.pair.items.filter (fun a => !(its.any a.same)) }

/-- The module assigns its own inputs: LONE, or evaluating alone (R385). -/
def State.assignsAlone (s : State) : Bool := decide (s.pair.state = some .lone) || s.aloneOnly

/-- An input item that passed the module's own checks arrives (R385). -/
def State.itemIn (s : State) (it : PairItem) : State :=
  if s.assignsAlone then s.assign (s.now + 2) [it]
  else { s with pair.items := s.pair.items ++ [it] }

/-! ### Steps of commands that modules complete at different times (R499, R515) -/

/-- List the completion of a step of a command on this module, or its failure (`code` not 0), as an input of this frame. -/
def State.listStep (s : State) (cmd : Word) (step code info : Nat) : State :=
  s.itemIn { id := cmd, seq := 2 * step + s.sys.slot.code,
             digest := crc32c (le 1 s.sys.slot.code ++ le 1 step ++ le 2 code ++ le 2 info), frame := s.now,
             body := .step s.sys.slot step code info }

/-- The progress that counts for a command both modules of a synchronised pair work on: the lesser of the two; a lone
module's own. -/
def State.pairDone (s : State) (a b : Nat) : Nat :=
  if s.inPair then min a b
  else match s.sys.slot with
    | .a => a
    | .b => b

end Sys2Proof.Machine
end

