-- ==== Sys2Proof/Machine/SiteOps.lean ====
section
/-! DEFINITION. Operations on window pages and the session that several families share (R428 to R436). -/

namespace Sys2Proof.Machine

/-- Take a free byte: a value the spec leaves open. -/
def State.freeByte (s : State) : Byte × State := (Config.freeByte s.free, { s with free := s.free + 1 })

/-- Apply a function to every listed entry, dropping those that become the default. -/
def tmap {α : Type} [Inhabited α] [DecidableEq α] (t : Tab α) (f : Nat → α → α) : Tab α :=
  (t.map (fun e => (e.1, f e.1 e.2))).filter (fun e => decide (e.2 ≠ default))

/-- A page of the inbound pool (pages 12,288 to 16,383). -/
def isInbound (p : Nat) : Bool := decide (12288 ≤ p) && decide (p < 16384)

/-- A page of the outbound pool (pages 0 to 12,287). -/
def isOutbound (p : Nat) : Bool := decide (p < 12288)

/-- A page of the window. -/
def State.page (s : State) (p : Nat) : Page := tget s.site.pages p

/-- Change a page of the window. -/
def State.modPage (s : State) (p : Nat) (f : Page → Page) : State :=
  { s with site.pages := tmod s.site.pages p f }

/-- A free page keeps its generation and nothing else. -/
def Page.freed (p : Page) : Page := { gen := p.gen }

/-- Codes of the page owner (Table 14-9). -/
def Owner.code : Owner → Nat
  | .free => 0
  | .module => 1
  | .partner => 2
  | .poisoned => 3

/-- One entry of a `PAGE_HANDOVER` (R432): page, generation, arg. -/
def handoverEntry (p gen arg : Nat) : Bytes := le 2 p ++ le 2 gen ++ le 2 arg ++ le 2 0 ++ le 4 0

/-- A `PAGE_HANDOVER` of the module (Table 14-12), with entries of page and arg. It is a module output. -/
def State.handoverMsg (s : State) (op : Nat) (es : List (Nat × Nat)) : State :=
  if s.site.sstate = .opened then
    s.send 0x32 false (le 1 op ++ le 1 es.length ++ le 2 0 ++
      es.flatMap (fun e => handoverEntry e.1 (s.page e.1).gen e.2))
  else s

/-- Poison a page (Table 14-10): `WIN_POISONED` and the notice `POISONED`. -/
def State.poisonPage (s : State) (p : Nat) : State :=
  let g := s.page p
  if g.owner = .poisoned then s
  else
    let s1 := s.modPage p (fun x => { x with owner := .poisoned, prevOwner := g.owner })
    let s2 := { s1 with site.streams := tmod s1.site.streams g.stream (fun x =>
      { x with poisoned := sat32u (x.poisoned + 1) }) }
    (s2.ev 0x0F03 (le 2 p ++ le 1 g.stream ++ le 1 g.owner.code)).handoverMsg 0x06 [(p, g.owner.code)]

/-- Count a loss of a stream (R443): `WIN_LOSS` at the first of each kind in each second. -/
def State.winLoss (s : State) (stream kind : Nat) : State :=
  let n := tget (tget s.site.streams stream).lossSec kind
  let s1 := s.evIf (decide (n = 0)) 0x0F04 (le 1 stream ++ le 1 kind ++ le 4 (n + 1))
  { s1 with
    site.streams := tmod s1.site.streams stream (fun x =>
      { x with lost := sat32u (x.lost + 1), lossSec := tput x.lossSec kind (n + 1) }),
    site.lastLoss := some s.now }

/-- An inbound page owned by the module, as a command may name it (R435). -/
def State.ownsInbound (s : State) (p : Nat) : Bool :=
  isInbound p && decide ((s.page p).owner = .module)

/-- The payload of pages in order, 4,096 bytes each. -/
def State.pageBytes (s : State) (ps : List Nat) : Bytes := ps.flatMap (fun p => padTo 4096 (s.page p).payload)

/-- What becomes of the partner's pages when a session ends (R436). -/
def pageAtSessionEnd (p : Nat) (g : Page) : Page :=
  if g.owner = .partner then (if isInbound p then g.freed else { g with owner := .module }) else g

/-- End the session: NONE, keys erased, pages as R436; `SITE_SESSION` of a kind. -/
def State.endSession (s : State) (kind : Byte) : State :=
  if s.site.sstate = .none then s
  else
    let s1 := s.ev 0x0F01 ([kind] ++ le 4 s.site.session.toNat ++ le 1 (s.site.port.getD 0xFF) ++
      le 1 s.site.certRole.code)
    { s1 with
      site := { s1.site with sstate := .none, session := 0, prk := [], opened := 0, makerChain := false,
                             pages := tmap s1.site.pages pageAtSessionEnd },
      acc := { s1.acc with fpr := 0, chain := [], chainRoot := none } }

end Sys2Proof.Machine
end

