-- ==== Sys2Proof/Machine/Access.lean ====
section
/-! DEFINITION. Area 0x15: OTP provisioning, key rotation and the debug session (R574 to R576). -/

namespace Sys2Proof.Machine

/-- The body of a pending command. -/
def State.bodyOf (s : State) (id : Word) : Bytes := ((s.entry id).map (·.body)).getD []

/-- Bytes of a body that are reserved and must be 0 (R419). -/
def zeros (b : Bytes) (off n : Nat) : Bool := (slice b off n).all (· = 0)

/-- The prime of the curve P-384 (PRESUMED, the standard's, log 196). -/
def p384 : Nat := 2 ^ 384 - 2 ^ 128 - 2 ^ 96 + 2 ^ 32 - 1

/-- The coefficient b of the curve P-384 (PRESUMED, the standard's, log 196). -/
def p384B : Nat :=
  0xb3312fa7e23ee7e4988e056be3f82d19181d9c6efe8141120314088f5013875ac656398d8a2ed19d2a85c8edd3ec2aef

/-- A power modulo `m`, over the low `n` bits of the exponent. -/
def powMod (m : Nat) : Nat → Nat → Nat → Nat
  | 0, _, _ => 1 % m
  | n + 1, a, e => (if e % 2 = 1 then a else 1) * powMod m n (a * a % m) (e / 2) % m

/-- 49 bytes are a point of P-384 in compressed form: 0x02 or 0x03, then a coordinate x, most significant byte first, below
the prime for which x³ − 3x + b is a square (Euler's criterion). -/
def isPoint (b : Bytes) : Bool :=
  let x := ofLe (b.drop 1).reverse
  let y2 := (x * x % p384 * x + (p384 - 3) * x + p384B) % p384
  decide (b.length = 49) && (decide (b.head? = some 2) || decide (b.head? = some 3)) && decide (x < p384) &&
    (decide (y2 = 0) || decide (powMod p384 384 y2 ((p384 - 1) / 2) = 1))

/-- Checks of `SYS_OTP_PROVISION` (R574): body of 60 bytes; the slot not yet written; op, slot and point in range. -/
def otpChecks (s : State) (e : LedgerEntry) : Checks :=
  let k := rdU e.body 4 1
  { format := decide (e.body.length = 60) && zeros e.body 1 3 && zeros e.body 5 3 && zeros e.body 57 3,
    state := !(decide (k < 4) && s.acc.written.getLsbD k),
    range := decide (rdU e.body 0 1 = 1) && decide (k < 4) && isPoint (slice e.body 8 49) }

/-- `SYS_OTP_PROVISION`: write the root slot once. -/
def execSysOtpProvision (id : Word) (s : State) : Host.Outcome State Fault Refusal :=
  ok (s.evaluate id 0x0101 1 otpChecks noStr (fun t e =>
    let k := rdU e.body 4 1
    ({ t with acc.written := t.acc.written ||| ((1 : BitVec 4) <<< k),
              acc.roots := tput t.acc.roots k (slice e.body 8 49) }).cmdDone id))

/-- A higher root slot is written (R575). -/
def State.higherRoot (s : State) : Bool :=
  match s.currentRoot with
  | none => false
  | some k => (upFrom (k + 1) (3 - k)).any (fun j => s.acc.written.getLsbD j)

/-- Format of an `ACC_KEY_ROTATE` body: op, 3 reserved bytes, 8-byte fingerprint. -/
def rotateFormat (b : Bytes) : Bool := decide (b.length = 12) && zeros b 1 3

/-- The fingerprint of an `ACC_KEY_ROTATE` body. -/
def rotateFpr (b : Bytes) : BitVec 64 := BitVec.ofNat 64 (rdU b 4 8)

/-- End a session whose chain a key rotation has invalidated (R575). The spec gives the kind of its `SITE_SESSION`
no value: a free byte. -/
def State.dropInvalidSession (s : State) : State :=
  let bad := s.acc.chain.any (fun f => s.acc.denyOtp.contains f) || decide (s.acc.chainRoot ≠ s.currentRoot)
  if s.site.sstate ≠ .none ∧ bad then
    let f := s.freeByte
    f.2.endSession f.1
  else s

/-- `ACC_KEY_ROTATE` op 0x01: retire the current root. A body whose op is neither 0x01 nor 0x02 is refused here. -/
def execAccKeyRotateRetire (id : Word) (s : State) : Host.Outcome State Fault Refusal :=
  ok (if rdU (s.bodyOf id) 0 1 = 2 then s else
    s.evaluate id 0x1501 1
      (fun t e => { format := rotateFormat e.body, state := decide (rdU e.body 0 1 ≠ 1) || t.higherRoot,
                    range := decide (rdU e.body 0 1 = 1) })
      noStr (fun t e =>
        let k := t.currentRoot.getD 0
        let t1 := { t with acc.retired := t.acc.retired ||| ((1 : BitVec 4) <<< k) }
        ((t1.ev 0x1503 (le 1 1 ++ le 8 k ++ le 4 e.id.toNat)).cmdDone id).dropInvalidSession))

/-- `ACC_KEY_ROTATE` op 0x02: add a fingerprint to the OTP deny list. -/
def execAccKeyRotateDeny (id : Word) (s : State) : Host.Outcome State Fault Refusal :=
  ok (if rdU (s.bodyOf id) 0 1 ≠ 2 then s else
    s.evaluate id 0x1501 1
      (fun t e => { format := rotateFormat e.body, busy := decide (t.acc.denyOtp.length < 32) })
      noStr (fun t e =>
        let t1 := { t with acc.denyOtp := t.acc.denyOtp ++ [rotateFpr e.body] }
        ((t1.ev 0x1503 (le 1 2 ++ slice e.body 4 8 ++ le 4 e.id.toNat)).cmdDone id).dropInvalidSession))

/-- The debug session closes: the port closes, `ACC_DEBUG` kind 0x02 (R576). -/
def execDebugSessionClosed (p : Pulse) (s : State) : Host.Outcome State Fault Refusal :=
  ok (if s.acc.debugOpen then
    let s1 := s.atP p.val
    { s1.ev 0x1504 (le 1 2 ++ le 8 s1.acc.fpr.toNat) with acc.debugOpen := false }
  else s)

end Sys2Proof.Machine
end

