-- ==== Sys2Proof/Machine/Exp.lean ====
section
/-! DEFINITION. The exponential table of R179: entry i is round(2^32 e^(-i/16)), entry 0 set to 0xFFFFFFFF. -/

namespace Sys2Proof.Machine

/-- Entries 0 to 31 of the table of R179. -/
def elandExp0 : List Nat :=
  [4294967295, 4034748382, 3790295335, 3560652950, 3344923893, 3142265200, 2951884975, 2773039306, 2605029347,
   2447198598, 2298930330, 2159645183, 2028798896, 1905880184, 1790408741, 1681933360, 1580030169, 1484300980,
   1394371730, 1309891017, 1230528733, 1155974766, 1085937795, 1020144150, 958336741, 900274053, 845729205,
   794489063, 746353404, 701134137, 658654567, 618748704]

/-- Entries 32 to 63 of the table of R179. -/
def elandExp1 : List Nat :=
  [581260615, 546043815, 512960693, 481881975, 452686223, 425259351, 399494189, 375290060, 352552385,
   331192315, 311126387, 292276193, 274568073, 257932835, 242305474, 227624928, 213833830, 200878294,
   188707693, 177274472, 166533955, 156444172, 146965699, 138061498, 129696774, 121838844, 114457002,
   107522402, 101007949, 94888187, 89139202, 83738531]

/-- Entries 64 to 95 of the table of R179. -/
def elandExp2 : List Nat :=
  [78665070, 73898994, 69421681, 65215634, 61264418, 57552595, 54065659, 50789987, 47712777, 44822006,
   42106378, 39555281, 37158748, 34907413, 32792480, 30805684, 28939262, 27185921, 25538809, 23991491,
   22537920, 21172416, 19889645, 18684592, 17552550, 16489094, 15490071, 14551575, 13669939, 12841720,
   12063679, 11332778]

/-- Entries 96 to 127 of the table of R179. -/
def elandExp3 : List Nat :=
  [10646160, 10001141, 9395203, 8825976, 8291237, 7788897, 7316991, 6873677, 6457222, 6065999, 5698479,
   5353225, 5028890, 4724205, 4437980, 4169096, 3916503, 3679214, 3456302, 3246895, 3050176, 2865375, 2691771,
   2528685, 2375479, 2231556, 2096353, 1969341, 1850025, 1737938, 1632641, 1533725]

/-- Entries 128 to 159 of the table of R179. -/
def elandExp4 : List Nat :=
  [1440801, 1353507, 1271502, 1194466, 1122097, 1054113, 990247, 930251, 873890, 820944, 771205, 724480,
   680586, 639352, 600615, 564226, 530041, 497928, 467760, 439419, 412796, 387786, 364292, 342220, 321486,
   302008, 283711, 266521, 250374, 235204, 220954, 207567]

/-- Entries 160 to 191 of the table of R179. -/
def elandExp5 : List Nat :=
  [194991, 183177, 172079, 161653, 151859, 142659, 134015, 125896, 118268, 111103, 104371, 98048, 92107, 86527,
   81284, 76360, 71733, 67387, 63304, 59469, 55866, 52481, 49301, 46314, 43508, 40872, 38396, 36070, 33884,
   31831, 29903, 28091]

/-- Entries 192 to 223 of the table of R179. -/
def elandExp6 : List Nat :=
  [26389, 24790, 23288, 21877, 20552, 19307, 18137, 17038, 16006, 15036, 14125, 13269, 12465, 11710, 11001,
   10334, 9708, 9120, 8567, 8048, 7561, 7103, 6672, 6268, 5888, 5531, 5196, 4882, 4586, 4308, 4047, 3802]

/-- Entries 224 to 255 of the table of R179. -/
def elandExp7 : List Nat :=
  [3571, 3355, 3152, 2961, 2781, 2613, 2455, 2306, 2166, 2035, 1912, 1796, 1687, 1585, 1489, 1399, 1314, 1234,
   1159, 1089, 1023, 961, 903, 848, 797, 749, 703, 661, 621, 583, 548, 515]

/-- The 257 entries of the table of R179. -/
def elandExp : List Nat :=
  elandExp0 ++ elandExp1 ++ elandExp2 ++ elandExp3 ++ elandExp4 ++ elandExp5 ++ elandExp6 ++ elandExp7 ++ [483]

/-- exp(−x) for x in Q16.16, as Q0.32 (R179): linear interpolation, 0 from x = 16 on. -/
def expNeg (x : Int) : Int :=
  if x < 0 then 0xFFFFFFFF
  else if 16 * 65536 ≤ x then 0
  else
    let i := (x / 4096).toNat
    let f := x % 4096
    let a : Int := (elandExp[i]?).getD 0
    let b : Int := (elandExp[i + 1]?).getD 0
    a + divRound ((b - a) * f) 4096

end Sys2Proof.Machine
end

