-- ==== Sys2Proof/Machine/Codes.lean ====
section
/-! DEFINITION. The two codes of on-chip SRAM and DRAM (R538 to R541): the word code with its stored check field, and the
page code with the check bytes of its Reed–Solomon codewords. -/

namespace Sys2Proof.Machine

/-! ### The word code (R538) -/

/-- The places of a code word that hold no check bit: those of 1 to 71 that are no power of two. Data bit `i` stands at the
`i`-th of them. The spec gives the code by name alone, so its matrix is the textbook one (PRESUMED, log 188). -/
def dataPlaces : List Nat := (upFrom 1 71).filter (fun n => decide (2 ^ n.log2 ≠ n))

/-- The seven Hamming check bits of a data word: the exclusive or of the places of its set bits. -/
def hamming (d : BitVec 64) : Nat := (dataPlaces.zipIdx.filter (fun e => d.getLsbD e.2)).foldl (fun a e => a ^^^ e.1) 0

/-- The number of set bits of a word is odd. -/
def oddBits {n : Nat} (b : BitVec n) : Bool := (upFrom 0 n).foldl (fun a i => a != b.getLsbD i) false

/-- The 8-bit check field of a data word: the Hamming bits, and at bit 7 the bit that makes the whole even. -/
def wordCheck (d : BitVec 64) : Byte :=
  let c : Byte := BitVec.ofNat 8 (hamming d)
  if oddBits d != oddBits c then c ||| 0x80 else c

/-- A word as memory stores it: the data below the inverted check field. -/
def storeWord (d : BitVec 64) : BitVec 72 := (~~~wordCheck d) ++ d

/-- What a read makes of a stored word. -/
inductive WordRead where
  | good (d : BitVec 64)
  | corrected (d : BitVec 64)
  | bad
  deriving DecidableEq, Repr, Inhabited

/-- Read a stored word (R538, R541): one wrong bit is corrected, two are detected, and 72 bits all 0 or all 1 are
uncorrectable. -/
def readWord (w : BitVec 72) : WordRead :=
  if w = 0 ∨ w = BitVec.allOnes 72 then .bad
  else
    let d := w.truncate 64
    let c : Byte := ~~~(w >>> 64).truncate 8
    let syn := hamming d ^^^ (c.toNat % 128)
    if oddBits d != oddBits c then
      if syn = 0 ∨ 2 ^ syn.log2 = syn then .corrected d
      else match dataPlaces.findIdx? (fun n => decide (n = syn)) with
        | some i => .corrected (d ^^^ ((1 : BitVec 64) <<< i))
        | none => .bad
    else if syn = 0 then .good d else .bad

/-! ### The page code (R539, R540) -/

/-- A product in GF(2⁸). The spec names the field and not its polynomial; the model takes x⁸ + x⁴ + x³ + x² + 1 (PRESUMED,
log 188). -/
def gfMulAux : Nat → Byte → Byte → Byte
  | 0, _, _ => 0
  | k + 1, a, b =>
    (if b.getLsbD 0 then a else 0) ^^^ gfMulAux k (if a.getLsbD 7 then (a <<< 1) ^^^ 0x1D else a <<< 1) (b >>> 1)

/-- A product in GF(2⁸). -/
def gfMul (a b : Byte) : Byte := gfMulAux 8 a b

/-- A polynomial, highest power first, times x − α, with α = 2. -/
def timesRoot (r : Byte) (p : List Byte) : List Byte :=
  List.zipWith (fun a b => a ^^^ gfMul r b) (p ++ [0]) (0 :: p)

/-- The generator polynomial of a codeword below its leading 1: roots α⁰ to α⁷ (PRESUMED, log 188). -/
def rsGen : List Byte :=
  ((upFrom 0 8).foldl (fun (s : List Byte × Byte) _ => (timesRoot s.2 s.1, gfMul s.2 2)) ([1], 1)).1.tail

/-- One data byte into the eight check bytes. -/
def rsStep (c : List Byte) (b : Byte) : List Byte :=
  let f := b ^^^ c.headD 0
  List.zipWith (fun x g => x ^^^ gfMul f g) (c.tail ++ [0]) rsGen

/-- The 8 check bytes of the data bytes of a codeword; those of zeros are zero. -/
def rsCheck (ds : Bytes) : List Byte := ds.foldl rsStep (List.replicate 8 0)

/-- The data bytes of codeword `j` of a page: byte `n` belongs to codeword `n mod 32`. -/
def codeword (page : Bytes) (j : Nat) : Bytes := (upFrom 0 128).map (fun i => (page[32 * i + j]?).getD 0)

/-- The 256 check bytes of a page. -/
def pageCheck (page : Bytes) : List (List Byte) := (upFrom 0 32).map (fun j => rsCheck (codeword page j))

/-- The page decodes: no codeword of it holds more than 4 wrong bytes. Places 0 to 4,095 are the data bytes, 4,096 to 4,351
the check bytes, of codeword `place mod 32` as the data bytes are. -/
def pageDecodes (wrong : List Nat) : Bool :=
  (upFrom 0 32).all (fun j => decide (((upFrom 0 136).filter (fun i => wrong.contains (32 * i + j))).length ≤ 4))

/-- A page of table memory or DRAM with its check bytes and its written-since-Fill bit. -/
structure CodedPage where
  data : Bytes
  check : List (List Byte)
  written : Bool
  deriving DecidableEq, Repr, Inhabited

/-- A page after Fill: zero data, check bytes of zero, not written (R536, R539, R540). -/
def CodedPage.filled : CodedPage :=
  { data := List.replicate 4096 0, check := List.replicate 32 (List.replicate 8 0), written := false }

/-- Write one byte (R540): the check bytes of its codeword change by what the difference of the old and the new byte gives
alone, and the page counts as written since Fill. -/
def CodedPage.write (p : CodedPage) (n : Nat) (b : Byte) : CodedPage :=
  let diff := b ^^^ (p.data[n]?).getD 0
  let alone := rsCheck ((upFrom 0 128).map (fun i => if i = n / 32 then diff else 0))
  { data := p.data.set n b, written := true,
    check := p.check.zipIdx.map (fun e => if e.2 = n % 32 then List.zipWith (· ^^^ ·) e.1 alone else e.1) }

/-! ### An access (R541) -/

/-- What the engine makes of a word it reads and, where the word code fails, of its page: `none` where all is well. Markhor
private SRAM has no page code. -/
def MemErr.kind (e : MemErr) (r : MemRegion) : Option MemErrKind :=
  match readWord e.word with
  | .good _ => none
  | .corrected _ => some .word
  | .bad => if r ≠ .markhor ∧ pageDecodes e.wrong then some .page else some .uncorrectable

end Sys2Proof.Machine
end

