-- ==== Sys2Proof/Machine/Update.lean ====
section
/-! DEFINITION. Area 0x13: staging, verification, activation, trial and confirmation of a runtime, and front-end
firmware (R511 to R533). -/

namespace Sys2Proof.Machine

/-! ### The update record and the boot selection -/

/-- The content of the update record (Table 18-2). -/
def UpdSt.record (u : UpdSt) : UpdRec :=
  { gen := u.gen, vstate := u.vstate, confirmed := u.confirmed, fallback := u.fallback, revertNew := u.revertNew,
    copyNew := u.copyNew, trials := u.trials, copyIndex := u.copyIndex, set := u.set, mig := u.mig, fmt0 := u.fmt0,
    fmt1 := u.fmt1, cause := u.cause, loadFails := u.loadFails, ver := (u.verA, u.verB, u.verV), secv := u.secv,
    manHash := u.manHash, bitmap := u.bitmap }

/-- Take the content of a copy of the update record. -/
def UpdSt.takeRecord (u : UpdSt) (r : UpdRec) : UpdSt :=
  { u with
    gen := r.gen, vstate := r.vstate, confirmed := r.confirmed, fallback := r.fallback, revertNew := r.revertNew,
    copyNew := r.copyNew, trials := r.trials, copyIndex := r.copyIndex, set := r.set, mig := r.mig, fmt0 := r.fmt0,
    fmt1 := r.fmt1, cause := r.cause, loadFails := r.loadFails, verA := r.ver.1, verB := r.ver.2.1, verV := r.ver.2.2,
    secv := r.secv, manHash := r.manHash, bitmap := r.bitmap, valid := true }

/-- A write of the update record goes to the copy that does not hold the newest generation, and raises it (R512). -/
def UpdSt.wrote (u : UpdSt) : UpdSt :=
  let v := { u with gen := u.gen + 1, valid := true }
  { v with older := u.newest, newest := some v.record }

/-- `n` writes of the record in a row, of which only the last two can still be read. -/
def UpdSt.wroteN (u : UpdSt) (n : Nat) : UpdSt := if n = 0 then u else { u with gen := u.gen + (n - 1) }.wrote

/-- `newest_valid_copy()` of R519: a copy whose CRC fails (a torn write) leaves the other to stand (R512). -/
def UpdSt.readRecord (u : UpdSt) (f : BootFind) : UpdSt :=
  match (if f.newestBad then none else u.newest), (if f.olderBad then none else u.older) with
  | some r, o => { u.takeRecord r with newest := some r, older := o }
  | none, some r => { u.takeRecord r with newest := some r, older := none }
  | none, none => { u with newest := none, older := none, valid := false }

/-- A boot bank by number, 0 A and 1 B. -/
def UpdSt.bank (u : UpdSt) (k : Nat) : BankSt := if k = 0 then u.bankA else u.bankB

/-- Write a boot bank and its release. -/
def UpdSt.setBank (u : UpdSt) (k : Nat) (b : BankSt) (ver : Word) : UpdSt :=
  if k = 0 then { u with bankA := b, verA := ver } else { u with bankB := b, verB := ver }

/-- Release of a bank. -/
def UpdSt.release (u : UpdSt) (k : Nat) : Word := if k = 0 then u.verA else u.verB

/-- Security version of a bank's manifest. -/
def UpdSt.secvOf (u : UpdSt) (k : Nat) : Nat := ((u.bank k).manifest.map (·.secv)).getD 0

/-- `verify(b)` of R519: the manifest and the hashes pass, and the security version is not below the counter. -/
def UpdSt.verify (u : UpdSt) (f : BootFind) (k : Nat) : Bool :=
  (u.bank k).manifest.isSome && decide ((if k = 0 then f.bankA else f.bankB) = .pass) &&
    decide (u.rollback ≤ u.secvOf k)

/-- `reject` of R519. -/
def UpdSt.reject (u : UpdSt) (cause : Nat) : UpdSt :=
  { u with vstate := .rejected, cause := cause, revertNew := true, mig := .none }.wrote

/-- `promote` of R519: the fallback becomes the hardened bank. The count of Load overruns restarts, since it counts
those of the hardened bank (Table 18-2). -/
def UpdSt.promote (u : UpdSt) (k cause : Nat) : UpdSt :=
  { u with confirmed := k, fallback := false, cause := cause, revertNew := true, loadFails := 0 }.wrote

/-- A fresh record when neither copy is valid (R533). -/
def UpdSt.fresh (u : UpdSt) (f : BootFind) : UpdSt :=
  if u.valid then u
  else { u with confirmed := if u.verify f 0 then 0 else 1, fallback := false, vstate := .idle, set := 0,
                revertNew := false, copyNew := false, trials := 0, copyIndex := 0, mig := .none, cause := 0,
                loadFails := 0, secv := 0, bitmap := 0 }.wrote

/-- The Velvet copy into the idle bank (R519, R520): all blocks from the copy index, each followed by a write of the
record, or as far as the first block whose read-back fails. -/
def UpdSt.copyVelvet (u : UpdSt) (f : BootFind) : UpdSt :=
  let t := 1 - u.confirmed
  let n := u.velvet.imageBlocks
  let u1 := { u with fallback := false }.wrote
  let upTo (e : Nat) : UpdSt := { u1 with copyIndex := e, copied := e - u.copyIndex }.wroteN (e - u.copyIndex)
  let bad : Option Nat := f.badBlock.filter (fun b => decide (u.copyIndex ≤ b) && decide (b ≤ n))
  match bad with
  | some b => { upTo b with copied := b - u.copyIndex }.setBank t {} 0 |>.reject 0x02
  | none =>
    { (upTo (n + 1)).setBank t u.velvet u.verV with vstate := .trial, trials := 0, mig := .none, copyNew := true }.wrote

/-- The hardened selection of R519: raise the counter, start the hardened bank, or promote the fallback, or hold. -/
def UpdSt.bootHardened (u : UpdSt) (f : BootFind) : UpdSt :=
  let u1 := { u with rollback := if u.rollback < u.secvOf u.confirmed then u.secvOf u.confirmed else u.rollback }
  let t := 1 - u1.confirmed
  if 3 ≤ u1.loadFails then
    if u1.fallback ∧ u1.verify f t then { u1.promote t 0x06 with running := t, trial := false, bootHold := false }
    else { u1 with bootHold := true, trial := false }
  else if u1.verify f u1.confirmed then { u1 with running := u1.confirmed, trial := false, bootHold := false }
  else if u1.fallback ∧ u1.verify f t then
    { u1.promote t 0x05 with running := t, trial := false, bootHold := false }
  else { u1 with bootHold := true, trial := false }

/-- The selection the boot ROM makes at every start (R519, R521, R533). -/
def UpdSt.boot (u0 : UpdSt) (f : BootFind) : UpdSt :=
  let u := { (u0.readRecord f).fresh f with copied := 0, converted := false }
  let u1 := if u.vstate = .activating then u.copyVelvet f else u
  let t := 1 - u1.confirmed
  if u1.vstate = .trial then
    if u1.trials = 3 then (u1.reject 0x01).bootHardened f
    else
      let u2 := { u1 with trials := u1.trials + 1 }.wrote
      if u2.verify f t then { u2 with running := t, trial := true, bootHold := false }
      else (u2.reject 0x03).bootHardened f
  else u1.bootHardened f

/-- The state set a start uses: the live set, or the target set of a trial (R523). -/
def UpdSt.trialTarget (u : UpdSt) : Nat :=
  let fmt := ((u.bank u.running).manifest.map (·.fmt)).getD 0
  if fmt = (if u.set = 0 then u.fmt0 else u.fmt1) then u.set else 1 - u.set

/-- Bring another state set into use: the ledger and the wear mirror change places (R523). -/
def State.useSet (s : State) (k : Nat) : State :=
  if s.upd.inUse = k then s
  else { s with
    site.ledger := s.ledgerOther, ledgerOther := s.site.ledger,
    jnl := { s.jnl with mirror0 := s.jnl.otherMirror.1, mirror1 := s.jnl.otherMirror.2,
                        otherMirror := (s.jnl.mirror0, s.jnl.mirror1) },
    upd.inUse := k }

/-! ### Commands that act on one module (R515) -/

/-- The modules of a command's mask that count: both in a synchronised pair, else this one alone. -/
def State.maskNames (s : State) (m : BitVec 2) (k : Slot) : Bool :=
  m.getLsbD k.code && (s.inPair || decide (k = s.sys.slot))

/-- A mask as R515 admits it: reserved bits 0; a lone module needs its own bit; a mask that names no module has no
module to act (DEDUCED, log 12). -/
def State.maskOk (s : State) (m : Nat) : Bool :=
  if s.inPair then decide (m = 1) || decide (m = 2) || decide (m = 3) else bitOf m s.sys.slot.code

/-- Steps of an update command (R516, R518, R527). -/
def UpdJob.total (j : UpdJob) : Nat := if j.op = 2 then j.count + 1 else if j.op = 4 then 2 else 1

/-- Steps a named module completes itself: the second of an activation is its restart. -/
def UpdJob.ownTotal (j : UpdJob) : Nat := if j.op = 4 then 1 else j.total

/-- Steps every named module has completed. -/
def State.jobReached (s : State) (j : UpdJob) : Nat :=
  if s.maskNames j.mask .a then (if s.maskNames j.mask .b then min j.doneA j.doneB else j.doneA) else j.doneB

/-- Format of an `UPD_STAGE` body (Table 18-6). -/
def stageBodyOk (b : Bytes) : Bool :=
  let op := rdU b 1 1
  let n := if op = 1 then rdU b 4 2 else if op = 2 then 16 * rdU b 4 2 else 0
  decide (8 ≤ b.length) && decide (b.length = 8 + 2 * n) && zeros b 6 2 && decide (rdU b 0 1 < 4)

/-- Ranges of an `UPD_STAGE` body (Table 18-6). -/
def stageRangeOk (b : Bytes) : Bool :=
  let op := rdU b 1 1
  let first := rdU b 2 2
  let count := rdU b 4 2
  if op = 1 then decide (first = 0) && decide (1 ≤ count) && decide (count ≤ 16)
  else if op = 2 then
    decide (1 ≤ first) && decide (first ≤ 511) && decide (1 ≤ count) && decide (count ≤ 8)
  else if op = 3 then decide (first = 0) && decide (count = 0)
  else false

/-- Checks of `UPD_STAGE` (R515): the body, the role, Table 3-10 and the mask. -/
def updStageChecks (s : State) (e : LedgerEntry) : Checks :=
  { format := stageBodyOk e.body, range := s.maskOk (rdU e.body 0 1) && stageRangeOk e.body }

/-- Accept an update command: its work is under way from here. -/
def State.acceptUpd (s : State) (e : LedgerEntry) (op first count : Nat) (pages : List Nat) : State :=
  let j : UpdJob := { cmd := e.id, mask := BitVec.ofNat 2 (rdU e.body 0 1), op := op, first := first, count := count,
                      pages := pages }
  { s with upd.jobs := s.upd.jobs ++ [j] }.cmdTo e.id .accepted .ok 0 []

/-- Evaluate `UPD_STAGE` with an op. -/
def State.evalStage (s : State) (id : Word) : State :=
  let b := s.bodyOf id
  let n := if rdU b 1 1 = 2 then rdU b 4 2 + 1 else 1
  s.evaluate id 0x1301 n updStageChecks noStr
    (fun t e => t.acceptUpd e (rdU e.body 1 1) (rdU e.body 2 2) (rdU e.body 4 2) e.pages)

/-- `UPD_STAGE` op 0x01: a manifest into Velvet. A body with an unknown op is refused here. -/
def execUpdStageManifest (id : Word) (s : State) : Host.Outcome State Fault Refusal :=
  ok (if rdU (s.bodyOf id) 1 1 = 2 ∨ rdU (s.bodyOf id) 1 1 = 3 then s else s.evalStage id)

/-- `UPD_STAGE` op 0x02: blocks into Velvet. -/
def execUpdStageBlocks (id : Word) (s : State) : Host.Outcome State Fault Refusal :=
  ok (if rdU (s.bodyOf id) 1 1 = 2 then s.evalStage id else s)

/-- `UPD_STAGE` op 0x03: abandon. -/
def execUpdStageAbandon (id : Word) (s : State) : Host.Outcome State Fault Refusal :=
  ok (if rdU (s.bodyOf id) 1 1 = 3 then s.evalStage id else s)

/-- The slot a mask of exactly one slot names. -/
def oneSlot (m : Nat) : Option Slot := if m = 1 then some .a else if m = 2 then some .b else none

/-- The standby's slot of a synchronised pair. -/
def State.standbySlot (s : State) : Slot :=
  if s.pair.state = some .standby then s.sys.slot else s.sys.slot.other

/-- Checks of `UPD_ACTIVATE` (R518, R529): exactly one slot; in a pair, the standby's. -/
def activateChecks (s : State) (e : LedgerEntry) : Checks :=
  let m := rdU e.body 0 1
  { format := decide (e.body.length = 4) && zeros e.body 1 3 && decide (m < 4),
    state := !s.inPair || decide (oneSlot m = some s.standbySlot) || decide (oneSlot m = none),
    range := (oneSlot m).isSome && s.maskOk m }

/-- `UPD_ACTIVATE`: activate Velvet on one module (R518). -/
def execUpdActivate (id : Word) (s : State) : Host.Outcome State Fault Refusal :=
  ok (s.evaluate id 0x1302 2 activateChecks noStr (fun t e => t.acceptUpd e 4 0 0 []))

/-- Checks of `UPD_CONFIRM` (R515, R527). -/
def confirmChecks (s : State) (e : LedgerEntry) : Checks :=
  { format := decide (e.body.length = 4) && zeros e.body 1 3 && decide (rdU e.body 0 1 < 4),
    range := s.maskOk (rdU e.body 0 1) }

/-- `UPD_CONFIRM`: harden the trial bank (R527). -/
def execUpdConfirm (id : Word) (s : State) : Host.Outcome State Fault Refusal :=
  ok (s.evaluate id 0x1303 1 confirmChecks noStr (fun t e => t.acceptUpd e 5 0 0 []))

/-- A manifest header (Table 18-4) whose fixed fields, lengths and ranges are right (R513). -/
def parseManifest (b : Bytes) : Option Manifest :=
  let len := rdU b 16 4
  let blocks := rdU b 20 2
  let cert := rdU b 40 2
  if rdU b 0 4 = 0x5348ED01 ∧ rdU b 4 2 = 1 ∧ rdU b 6 2 = 128 ∧ 1 ≤ len ∧ len ≤ 33488896 ∧
      blocks = (len + 65535) / 65536 ∧ 1 ≤ rdU b 28 1 ∧ rdU b 28 1 ≤ 3 ∧
      128 + 48 * blocks + cert + 96 ≤ b.length then
    some { runtime := BitVec.ofNat 32 (rdU b 8 4), secv := rdU b 12 4, len := len, blocks := blocks, fmt := rdU b 22 1,
           fmtFrom := rdU b 23 1, bootRom := BitVec.ofNat 32 (rdU b 24 4), preong := rdU b 28 1, built := rdU b 32 8,
           hashes := (upFrom 0 blocks).map (fun i => slice b (128 + 48 * i) 48) }
  else none

/-- `UPD_DOWNLOAD` (Table 18-14). -/
def State.evDownload (s : State) (kind : Nat) (cmd : Word) : State :=
  s.ev 0x1301 (le 1 kind ++ le 4 s.upd.verV.toNat ++ le 4 s.upd.secv ++ le 2 s.upd.velvet.imageBlocks ++
    le 4 cmd.toNat)

/-- Every block of Velvet, the manifest among them, is written and read back. -/
def UpdSt.complete (u : UpdSt) : Bool := (upFrom 0 (u.velvet.imageBlocks + 1)).all (fun b => u.bitmap.getLsbD b)

/-- The whole manifest: header, block hashes, certificate field and signature (R513). -/
def manifestBytes (b : Bytes) : Bytes := b.take (128 + 48 * rdU b 20 2 + rdU b 40 2 + 96)

/-- Op 0x01 of R516: the code of Table 18-5, 0 for none, and the state after. `code`: what the check of the signature and
its chain, and the flash, find (0x02, 0x06). -/
def State.workManifest (s : State) (j : UpdJob) (code : Nat) : Nat × State :=
  let b := s.pageBytes j.pages
  if !j.pages.all s.ownsInbound then (0x01, s)
  else if s.upd.trial then (0x08, s)
  else
    match parseManifest b with
    | none => (0x02, s)
    | some m =>
      if code = 0x02 then (0x02, s)
      else if m.secv < s.upd.rollback then (0x03, s)
      else if s.sys.bootRom.toNat < m.bootRom.toNat ∨ s.cfg.format < m.preong then (0x04, s)
      else if code ≠ 0 then (0x06, s)
      else
        let u := { s.upd with velvet := { manifest := some m, blocks := [] }, bitmap := 1, vstate := .downloading,
                              manHash := sha384 (manifestBytes b), secv := m.secv, verV := m.runtime }.wrote
        (0, { s with upd := u }.evDownload 0x01 j.cmd)

/-- The bytes of Velvet block `b` from the pages of a command: 16 pages, the last image block cut to the image
length (R513). -/
def State.blockBytes (s : State) (j : UpdJob) (b : Nat) : Bytes :=
  let data := s.pageBytes ((j.pages.drop (16 * (b - j.first))).take 16)
  let len := (s.upd.velvet.manifest.map (·.len)).getD 0
  data.take (min 65536 (len - 65536 * (b - 1)))

/-- One block step of op 0x02 (R516): the hash of the pages' bytes is compared with the manifest's; `code` is what the flash
finds. -/
def State.workBlock (s : State) (j : UpdJob) (k code : Nat) : Nat × State :=
  let b := j.first + k - 1
  if k = 1 ∧ !j.pages.all s.ownsInbound then (0x01, s)
  else if s.upd.vstate ≠ .downloading ∨ s.upd.velvet.imageBlocks < b then (0x07, s)
  else if s.upd.bitmap.getLsbD b then (0, s)
  else if sha384 (s.blockBytes j b) ≠ (((s.upd.velvet.manifest.map (·.hashes)).getD [])[b - 1]?).getD [] then (0x05, s)
  else if code ≠ 0 then (0x06, s)
  else
    let u := { s.upd with velvet.blocks := tput s.upd.velvet.blocks b (s.blockBytes j b),
                          bitmap := s.upd.bitmap ||| ((1 : BitVec 512) <<< b) }.wrote
    (0, if u.complete then { s with upd := u }.evDownload 0x02 j.cmd else { s with upd := u })

/-- Verification of Velvet (R516, R517): VERIFIED, or failed at a block. -/
def State.verifyVelvet (s : State) (code block : Nat) : State :=
  if code = 0 then { s with upd := { s.upd with vstate := .verified }.wrote }.ev 0x1302 (le 1 1 ++ le 2 0)
  else s.ev 0x1302 (le 1 2 ++ le 2 block)

/-- The last step of op 0x02: verification once every bit is set (R516). -/
def State.workVerify (s : State) (code block : Nat) : Nat × State :=
  if s.upd.vstate ≠ .downloading then (0x07, s)
  else if !s.upd.complete then (0, s)
  else (code, s.verifyVelvet code block)

/-- The clean run of a trial has reached `UPD_CONFIRM_TIME` (R526). -/
def State.cleanReached (s : State) : Bool := decide (s.upd.confirmTime * 60000 ≤ s.upd.cleanRun)

/-- Confirmation (R527): the record first, then the rollback counter where the OTP takes it. -/
def State.confirm (s : State) (by_ : Nat) (otp : Verdict) : State :=
  let secv := s.upd.secvOf s.upd.running
  let u := { s.upd with confirmed := s.upd.running, fallback := true, set := s.upd.inUse, vstate := .idle, trials := 0,
                        mig := .none, trial := false }.wrote
  let u1 := { u with rollback := if u.rollback < secv ∧ otp = .pass then secv else u.rollback }
  { s with upd := u1 }.ev 0x1306 (le 1 u1.running ++ le 4 (u1.release u1.running).toNat ++ le 4 u1.rollback ++
    le 1 by_)

/-- The confirmation needs a rise of the counter. -/
def State.needsOtp (s : State) : Bool := decide (s.upd.rollback < s.upd.secvOf s.upd.running)

/-- This module's own work for step `k` of an update command: a code of Table 18-5, 0 when the step completes. -/
def State.updWork (s : State) (j : UpdJob) (k code block : Nat) : Nat × State :=
  if j.op = 1 then s.workManifest j code
  else if j.op = 2 then (if k ≤ j.count then s.workBlock j k code else s.workVerify code block)
  else if j.op = 3 then
    (0, { s with upd := { s.upd with vstate := .idle, bitmap := 0 }.wrote }.evDownload 0x03 j.cmd)
  else if j.op = 4 then
    if s.upd.vstate ≠ .verified then (0x09, s) else if s.upd.trial then (0x08, s) else (0, s)
  else if !(s.upd.trial && s.cleanReached) then (0x0A, s)
  else
    let bad := s.needsOtp && decide (code = 0x0D)
    (if bad then 0x0D else 0, s.confirm 1 (if bad then .fail else .pass))

/-- The failure detail of Table 18-5. -/
def updDetail (slot : Slot) (code block : Nat) : Bytes := le 1 slot.code ++ le 1 code ++ le 2 block

/-- Take a command out of the list of those under way. -/
def State.dropUpd (s : State) (id : Word) : State :=
  { s with upd.jobs := s.upd.jobs.filter (fun j => decide (j.cmd ≠ id)) }

/-- Record that a module has completed step `k`, and move the ledger when every named module has (R515). -/
def State.updRecord (s : State) (j : UpdJob) (slot : Slot) (k : Nat) : State :=
  let j1 : UpdJob := match slot with
    | .a => { j with doneA := max j.doneA k }
    | .b => { j with doneB := max j.doneB k }
  let s1 := { s with upd.jobs := s.upd.jobs.map (fun i => if i.cmd = j.cmd then j1 else i) }
  let r := s1.jobReached j1
  if r ≤ s.jobReached j then s1
  else if j1.op = 4 then
    -- R518: both modules record DONE in the frame assigned to step 1; the named one restarts in that frame
    let s2 := (s1.cmdTo j.cmd .done .ok 2 []).dropUpd j.cmd
    if s.maskNames j.mask s.sys.slot then { s2 with upd.activateAt := some s.now } else s2
  else if r = j1.total then (s1.cmdTo j.cmd .done .ok r []).dropUpd j.cmd
  else s1.cmdTo j.cmd .started .ok r []

/-- Change an update command under way. -/
def State.setUpd (s : State) (j : UpdJob) : State :=
  { s with upd.jobs := s.upd.jobs.map (fun i => if i.cmd = j.cmd then j else i) }

/-- A step of a `CFE_FW_UPDATE` that the module doing the work has listed, in the frame assigned to it (R515, R530). -/
def State.cfeTake (s : State) (j : CfeFwJob) (slot : Slot) (k code rstat : Nat) : State :=
  if code ≠ 0 then
    { s.cmdFail j.cmd .failedFault (s.cmdAt j.cmd) (updDetail slot code rstat) with upd.cfe := none }
  else if k = s.cmdAt j.cmd + 1 then
    if k = 3 then { s.cmdTo j.cmd .done .ok 3 [] with upd.cfe := none } else s.cmdTo j.cmd .started .ok k []
  else s

/-- A listed step of an update command, in the frame assigned to it: the ledger moves when every named module has completed
it; a failure of any ends the command (R515). -/
def State.updTake (s : State) (id : Word) (slot : Slot) (step code info : Nat) : State :=
  match s.upd.jobs.find? (fun j => decide (j.cmd = id)) with
  | some j =>
    if !s.maskNames j.mask slot then s
    else if code = 0 then s.updRecord j slot step
    else (s.cmdFail id .failedFault step (updDetail slot code info)).dropUpd id
  | none =>
    match s.upd.cfe with
    | some j => if j.cmd = id then s.cfeTake j slot step code info else s
    | none => s

/-- UPD_STEP_DONE (R515, R516, R518, R527): this module, where the command names it, completes its next step or fails it,
and lists that as an input of the frame. `code` and `block` are what its flash, its OTP and the check of a signature find. The
steps of a `CFE_FW_UPDATE` list themselves (`State.cfeDone`). -/
def execUpdStepDone (id : Word) (step code block : Nat) (s : State) : Host.Outcome State Fault Refusal :=
  ok (match s.upd.jobs.find? (fun j => decide (j.cmd = id)) with
  | some j =>
    if !s.maskNames j.mask s.sys.slot ∨ j.failed ∨ j.own + 1 ≠ step ∨ j.ownTotal < step then s
    else
      let w := s.updWork j step code block
      if w.1 = 0 then (w.2.setUpd { j with own := step }).listStep id step 0 0
      else (w.2.setUpd { j with failed := true }).listStep id step w.1 block
  | none => s)

/-- After Survey, a complete download is verified as deferrable work (R517). -/
def execUpdVerify (code block : Nat) (s : State) : Host.Outcome State Fault Refusal :=
  ok (if s.upd.verifyDue ∧ s.grz.admitted ∧ s.upd.vstate = .downloading ∧ s.upd.complete then
    { s.verifyVelvet code block with upd.verifyDue := false }
  else s)

/-- The trial's clean run reaches `UPD_CONFIRM_TIME`: confirmed at once with `UPD_AUTO_CONFIRM` (R526). -/
def execUpdCleanRunReached (otp : Verdict) (s : State) : Host.Outcome State Fault Refusal :=
  ok (if s.upd.trial ∧ s.cleanReached ∧ s.upd.autoConfirm then s.confirm 2 otp else s)

/-! ### Front-end firmware (R530) -/

/-- Checks of `CFE_FW_UPDATE` (Table 18-10, R530): the port of a SERVICE string, its pages owned by the module that
does the work. -/
def cfeFwChecks (s : State) (e : LedgerEntry) : Checks :=
  let port := rdU e.body 0 1
  let len := rdU e.body 4 4
  let n := rdU e.body 12 2
  { format := decide (e.body.length = 16 + 2 * n) && zeros e.body 2 2 && zeros e.body 14 2,
    state := !s.fitted port || decide ((s.str (strOfPort port)).state = .service),
    busy := s.upd.cfe.isNone,
    range := decide (port < 128) && s.fitted port && decide (rdU e.body 1 1 < 2) && decide (256 ≤ len) &&
      decide (len ≤ 2818048) && decide (n = (len + 4095) / 4096) && (!s.leads || e.pages.all s.ownsInbound) }

/-- The firmware blocks of an image, the last padded with 0xFF (R147, R530). -/
def fwBlocks (bank : Nat) (image : Bytes) : Nat → Nat → List SecTx
  | _, 0 => []
  | k, n + 1 =>
    let d := slice image (256 * k) 256
    { req := .fwBlock bank k (d ++ List.replicate (256 - d.length) 0xFF), by_ := .fwBlock } ::
      fwBlocks bank image (k + 1) n

/-- `CFE_FW_UPDATE`: the module that leads sends the image in `FW_BLOCK` frames (R530). -/
def execCfeFwUpdate (id : Word) (s : State) : Host.Outcome State Fault Refusal :=
  ok (s.evaluate id 0x0501 3 cfeFwChecks
    (fun t e => if t.installed (strOfPort (rdU e.body 0 1)) then (t.str (strOfPort (rdU e.body 0 1))).state.code else 0xFF)
    (fun t e =>
      let port := rdU e.body 0 1
      let len := rdU e.body 4 4
      let j : CfeFwJob := { cmd := e.id, port := port, bank := rdU e.body 1 1, length := len,
                            version := BitVec.ofNat 32 (rdU e.body 8 4), pages := e.pages }
      let t1 := { t with upd.cfe := some j }
      let t2 := if t.leads then
          let txs := fwBlocks j.bank ((t.pageBytes e.pages).take len) 0 ((len + 255) / 256)
          t1.modLnk port (fun l => { l with secQueue := l.secQueue ++ txs })
        else t1
      t2.cmdTo e.id .accepted .ok 0 []))

/-- The working module has completed a step of the running `CFE_FW_UPDATE`, and lists it (R530). -/
def State.cfeDone (s : State) (k : Nat) : State :=
  match s.upd.cfe with
  | none => s
  | some j =>
    { s with upd.cfe := some { j with done := max j.done k, step := k + 1, from_ := s.now } }.listStep j.cmd k 0 0

/-- Queue transactions on a port. -/
def State.secQueue (s : State) (p : Nat) (ts : List SecTx) : State :=
  s.modLnk p (fun l => { l with secQueue := l.secQueue ++ ts })

/-- A transaction of a requester waits or is outstanding on a port. -/
def LinkSt.hasSec (l : LinkSt) (r : Requester) : Bool :=
  l.secQueue.any (fun t => decide (t.by_ = r)) || (l.sec.any (fun t => decide (t.by_ = r)))

/-- The policy words as they stand in `SLP_OV` to `TH_BETA` (R150, Tables 5-4, 5-11). -/
def CfeCfg.words (c : CfeCfg) : List Word :=
  [BitVec.ofNat 32 c.slpOv, BitVec.ofNat 32 c.slpUv, BitVec.ofNat 32 (c.slpOt % 65536).toNat,
   BitVec.ofNat 32 (c.deadband * 65536 + b2n c.balEn), BitVec.ofNat 32 c.thBeta]

/-- Write `CFE_POLICY` to a front end (R150): only under active authority. -/
def State.policyWrite (s : State) (p : Nat) : State :=
  if s.leads && !(s.lnk p).hasSec .policy && !(s.lnk p).hasSec .readback then
    s.secQueue p [{ req := .regWrite 0x0020 s.cfeCfg.words, by_ := .policy }]
  else s

/-- The end of a switch of a front end's firmware (R530): `CFE_FW_SWITCH` with the versions run before and now, and the
policy written anew. -/
def State.cfeSwitch (s : State) (p : Nat) (now : Word) (rstat : Nat) : State :=
  let c := tget s.cfe p
  let s1 := s.ev 0x0503 (le 1 p ++ le 4 c.fwRun.toNat ++ le 4 now.toNat ++ le 2 rstat ++ le 1 (bitsOf c.status.toNat 8 8))
  { s1 with cfe := tmod s1.cfe p (fun x => { x with fwRun := now }) }.policyWrite p

/-- The working module's step failed, with the code of Table 18-5, and is listed; `now` is the version read, if one was. -/
def State.cfeFailed (s : State) (code rstat : Nat) (now : Option Word) : State :=
  match s.upd.cfe with
  | none => s
  | some j =>
    if j.failed.isSome then s
    else
      { s.cfeSwitch j.port (now.getD (tget s.cfe j.port).fwRun) rstat with
        upd.cfe := some { j with failed := some (code, rstat) } }.listStep j.cmd j.step code rstat

/-- A change of role ends the running `CFE_FW_UPDATE` FAILED_ABORTED at the step reached (R530); blocks not yet sent
are dropped. -/
def State.cfeAbort (s : State) : State :=
  match s.upd.cfe with
  | none => s
  | some j =>
    let s1 := s.modLnk j.port (fun l => { l with secQueue := l.secQueue.filter (fun t => decide (t.by_ ≠ .fwBlock)) })
    { s1.cmdFail j.cmd .failedAborted (s1.cmdAt j.cmd) [] with upd.cfe := none }

/-- The port has not returned on the new image within 1 s: step 3 fails with code 0x0C (R530). -/
def execCfeFwReturnTimeout (port : PortIx) (s : State) : Host.Outcome State Fault Refusal :=
  ok (match s.upd.cfe with
  | some j => if j.port = port.val ∧ j.step = 3 ∧ j.done = 2 ∧ j.from_ + 1000 ≤ s.now then s.cfeFailed 0x0C 0 none else s
  | none => s)

end Sys2Proof.Machine
end

