-- ==== Sys2Proof/Machine/ModeOps.lean ====
section
/-! DEFINITION. Mode, string state, pair state and protection: the operations every family shares. Entry to Safe,
stages and their actions, latches, openings, ends of connects, restarts. -/

namespace Sys2Proof.Machine

/-! ### Pair state and mode -/

/-- Cancel a hand-over that is asked for or announced (R403, R405). -/
def State.cancelHandover (s : State) : State :=
  let kill (u : State) (h : Nat) (cmd : Word) : State :=
    let u1 := u.ev 0x0E06 ([4] ++ le 6 h ++ le 4 cmd.toNat)
    if cmd = 0 then u1 else u1.cmdAbort cmd
  let s1 := match s.pair.handover with
    | some (h, _, cmd) => kill s h cmd
    | none => match s.pair.handoverReq with
      | some (_, cmd) => kill s 0 cmd
      | none => s
  { s1 with pair.handover := none, pair.handoverReq := none }

/-- Change the pair state (R378), with `PAIR_STATE_CHANGE` and `CHG_OUT` (R379). A change other than the planned
hand-over's own (cause 0x09) cancels a hand-over; a new state begins with no copy in progress. -/
def State.setPair (s0 : State) (new : PairState) (cause : Nat) : State :=
  let s := if cause = 9 then s0 else s0.cancelHandover
  let old := (s.pair.state.map PairState.code).getD 0xFF
  let s1 := s.ev 0x0E01 (le 1 old ++ le 1 new.code ++ le 1 cause ++
    le 1 ((s.pair.peerState.map PairState.code).getD 0xFF))
  { s1 with
    pair.state := some new, pair.since := s.now,
    pair.chgOut := (decide (new = .lone) || decide (new = .active)) && !s.psv.dropped,
    pair.joining := false, pair.copying := false, pair.copyDone := false, pair.caughtUp := false,
    pair.live := none, pair.pagesRx := [], pair.leaveNext := false, pair.sentPages := [],
    pair.transition := s.pair.transition && (decide (new = .standby) || decide (new = .active)),
    pair.transTold := s.pair.transTold && (decide (new = .standby) || decide (new = .active)),
    pair.matched := if new = .standby ∨ new = .active then s.pair.matched else 0 }

/-- Enter a mode (R69) with `MODE_CHANGE`; the two-wire port is awake in every mode but Rest (R479). -/
def State.setMode (s : State) (m : Mode) (cause : Nat) (cmd : Word) : State :=
  let s1 := s.ev 0x0301 (le 1 s.mode.mode.code ++ le 1 m.code ++ le 1 cause ++ le 4 cmd.toNat)
  { s1 with
    mode.mode := m, mode.entryFrame := s.now, mode.target := none, mode.targetCmd := 0,
    mode.targetHoldup := false, mode.holdupLow := 0, tw.asleep := false }

/-! ### String states -/

/-- The row of Table 3-9 of a change of state; rows 5 and 6 are one here, as both take CONNECTING to OPEN. -/
def strRow (old new : SState) (cause : Byte) : Nat :=
  match new with
  | .isolated => 1
  | .held => 3
  | .service => 10
  | .connecting => 9
  | .closed => if old = .held then 4 else 7
  | .opened =>
    if cause = 0x0B then 2
    else match old with
      | .connecting => 5
      | .closed | .held => 8
      | .isolated => 12
      | _ => 11
  | .unsurveyed => if old = .isolated then 12 else 11

/-- An event of a row is void for the string in this frame: one of a lower row has taken effect (R77). -/
def State.voided (s : State) (k row : Nat) : Bool :=
  match (s.str k).lastRow with
  | some (f, r) => decide (f = s.now) && decide (r < row)
  | none => false

/-- The lowest row of Table 3-9 that a string has taken in a frame, a further row among them (R77). -/
def lowestRow (last : Option (Nat × Nat)) (now row : Nat) : Nat :=
  match last with
  | some (f, r) => if f = now then min r row else row
  | none => row

/-- Set a string's state and cause (R77) with `MODE_STRING_CHANGE`; `dwell` for the changes that restart the dwell
(rows 1 to 9 of Table 3-9). A change into or out of SERVICE makes a wear write due (R555). -/
def State.setStr (s : State) (k : Nat) (new : SState) (cause : Byte) (sf : Nat) (dwell : Bool) : State :=
  let o := s.str k
  let s1 := s.ev 0x0302 (le 1 k ++ le 1 o.state.code ++ le 1 new.code ++ [cause] ++ le 1 sf)
  let row := strRow o.state new cause
  let s2 := s1.modStr k (fun x =>
    { x with
      state := new, cause := cause, sf := sf, lastRow := some (s.now, lowestRow x.lastRow s.now row),
      opening := if new ∈ [SState.closed, .held] ∧ o.state ∈ [SState.closed, .held] then x.opening else none,
      dwellFrom := if dwell then some s.now else x.dwellFrom })
  { s2 with jnl.wearDue := s2.jnl.wearDue || decide (o.state = .service) || decide (new = .service) }

/-- Start the open sequence of a port (R288): the loop leaves, `GATE` is 0 from the next word. Where no contactor is
asked for or reads closed there is nothing to open, and the permit goes at once. -/
def State.startOpening (s : State) (k : Nat) : State :=
  let q := s.pp k
  let opens := q.kReq || q.stat.kposAux || q.stat.knegAux
  (s.modPst k (fun x => { x with permit := x.permit && opens })).modPp k (fun p =>
    { p with
      hold := false, phase := .none, phasePulses := 0, lowRun := 0,
      opening := opens,
      loop := { p.loop with out := false, window := false, count := 0 } })

/-- A connect of the string is under way. -/
def State.connecting (s : State) (k : Nat) : Bool := decide ((s.str k).state = .connecting)

/-- End a connect with an abort cause (R285 to R287) and take the string to a state: the retry count rises but under
causes 6 and 8 (R78). -/
def State.endConnect (s : State) (k : Nat) (cause : Nat) (new : SState) (why : Byte) (sf : Nat) : State :=
  let o := s.str k
  let counted := decide (cause ≠ 6) && decide (cause ≠ 8)
  let retry := if counted then o.retry + 1 else o.retry
  let spent := counted && decide (s.mode.cfg.connectRetries ≤ retry)
  let s1 := s.ev 0x0A01 (le 1 k ++ [3] ++ le 1 cause ++ le 4 (s.now - (s.pp k).connFrom) ++ le 1 retry)
  let s2 := (s1.startOpening k).modPp k (fun p =>
    { p with nAborts := sat32u (p.nAborts + 1), lastAbort := cause })
  let s3 := s2.setStr k new (if spent then 0x09 else why) sf true
  let s4 := s3.modStr k (fun x => { x with retry := retry })
  if spent then { s4 with mode.enabled := withoutBit s4.mode.enabled k } else s4

/-- Abort a connect with a cause (R286, R287). -/
def State.abortConnect (s : State) (k : Nat) (cause : Nat) : State :=
  if s.connecting k then s.endConnect k cause .opened 0 0 else s

/-- The string took its hand-over in this frame (row 7 of Table 3-9). -/
def State.justTaken (s : State) (k : Nat) : Bool :=
  decide ((s.str k).state ∈ [SState.closed, .held]) && decide ((s.pp k).takenAt = some s.now)

/-- A hand-over of the same frame does not stand against an abort by command or mode change: the connect ends as though
it had not been taken (R77, R287). -/
def State.undoTaken (s : State) (k : Nat) : State :=
  if s.justTaken k then
    let s1 := s.modStr k (fun x => { x with state := .connecting, cause := 0, retry := x.retryWas })
    s1.modPp k (fun p => { p with nConnects := p.nConnects - 1, takenAt := none })
  else s

/-- Abort the connects of a list of strings with cause 6 (R287), a hand-over taken in this frame included. -/
def State.abortConnects (s : State) (ks : List Nat) : State := ks.foldl (fun u k => (u.undoTaken k).abortConnect k 6) s

/-- Open a CLOSED or HELD string now (row 8 of Table 3-9), unless an event of a lower row voids the opening for this
frame. -/
def State.openNow (s : State) (k : Nat) : State :=
  if ((s.str k).state = .closed ∨ (s.str k).state = .held) ∧ !s.voided k 8 then
    (s.startOpening k).setStr k .opened 0 0 true
  else s

/-- Order the opening of a CLOSED or HELD string, with its deadline frame (row 8 of Table 3-9). A standing order
keeps the earlier deadline. -/
def State.orderOpen (s : State) (k : Nat) (why : OpenWhy) (deadline : Nat) : State :=
  if (s.str k).state = .closed ∨ (s.str k).state = .held then
    s.modStr k (fun x =>
      { x with opening := match x.opening with
          | none => some (why, deadline)
          | some (w, d) => if d ≤ deadline then some (w, d) else some (why, deadline) })
  else s

/-- A port's configuration as in force. -/
def State.portCfg (s : State) (k : Nat) : PortCfg := tget s.power.cfg.ports k

/-- The current is below 5 % of the rating. -/
def State.lowCurrent (s : State) (k : Nat) (i : Int) : Bool :=
  decide (20 * i.natAbs < (s.portCfg k).rating)

/-! ### Stages, actions and latches (R305 to R312) -/

/-- Raise an alarm (R312): bit `n - 1` of a function, bit 15 for Herd. -/
def State.raiseAlarm (s : State) (k bit : Nat) : State :=
  if has (s.pst k).alarm bit then s
  else
    (s.ev 0x0B03 (le 1 (if bit = 15 then 0x80 else bit + 1) ++ le 1 k ++ [1])).modPst k
      (fun x => { x with alarm := withBit x.alarm bit, unack := withBit x.unack bit })

/-- Clear alarms that are acknowledged and whose condition no longer stands (R312). -/
def State.clearAlarm (s : State) (k bit : Nat) (stands : Bool) : State :=
  if has (s.pst k).alarm bit && !has (s.pst k).unack bit && !stands then
    (s.ev 0x0B03 (le 1 (if bit = 15 then 0x80 else bit + 1) ++ le 1 k ++ [3])).modPst k
      (fun x => { x with alarm := withoutBit x.alarm bit })
  else s

/-- A stage of function `n` stands on the string; for the SF-12 alarm, the failure of diagnostic 9 (Table 11-6). -/
def State.stands (s : State) (k n : Nat) : Bool :=
  has (s.pst k).warn (n - 1) || has (s.pst k).tripStage (n - 1) || (decide (n = 12) && s.prot.diag.getLsbD 8)

/-- Record Markhor's protection in a string's state (Table 3-9 rows 1, 3, 4): a latch isolates, an inhibit holds, the
end of every holding cause closes, in a later frame than the hold (R77). -/
def State.recordProt (s : State) (k : Nat) (isolate hold : Bool) (sf : Nat) : State :=
  match (s.str k).state with
  | .connecting => if isolate then s.endConnect k 8 .isolated 0x08 sf else s
  | .opened => if isolate then s.setStr k .isolated 0x08 sf true else s
  | .closed =>
    if isolate then (s.startOpening k).setStr k .isolated 0x08 sf true
    else if hold then s.setStr k .held 0x0D sf true else s
  | .held =>
    if isolate then (s.startOpening k).setStr k .isolated 0x08 sf true
    else if hold || s.voided k 4 then s else s.setStr k .closed 0 0 true
  | _ => s

/-- Record protection at once where the module alone judges; a synchronised pair records it from the summaries of
pulse 800 (R386). -/
def State.recordOwn (s : State) (k : Nat) : State :=
  if s.inPair then s
  else s.recordProt k (decide ((s.pst k).latched ≠ 0)) (s.inhChg k || s.inhDis k) (s.pst k).firstOut

/-- Function `n` latching now is the first-out function of a string (R310). -/
def State.firstWith (s : State) (k n : Nat) : Nat :=
  let o := s.pst k
  let same := decide (o.latchFrame = s.now) && decide (o.latchPulse = s.time.pulse)
  if o.firstOut = 0 ∨ (same ∧ n < o.firstOut) then n else o.firstOut

/-- Start a trip capture (R438) with the first-out function that the stage leaves; a string whose capture still records
starts no new one, and with all 16 buffers full the capture is lost. -/
def State.startCapture (s : State) (k n : Nat) : State :=
  if s.site.captures.any (fun c => decide (c.s = k) && c.recording) then s
  else if 16 ≤ s.site.captures.length then s.winLoss 1 2
  else { s with site.captures := s.site.captures ++ [{ s := k, fn := s.firstWith k n, frame := s.now, pulse := s.time.pulse }] }

/-- A protection action on a string under survey ends the command of the survey FAILED_ABORTED (R84, R608). -/
def State.surveyStop (s : State) (k : Nat) : State :=
  match (s.str k).survey with
  | some v =>
    if v.cmd = 0 then s
    else { s with mode.surveyCmds := s.mode.surveyCmds.filter (fun c => decide (c.cmd ≠ v.cmd)) }.cmdAbort v.cmd
  | none => s

/-- Latch function `n` on a string (R307, R310): `TRIP`, the latch with `PROT_LATCH`, the first-out function, the
open sequence. -/
def State.latch (s : State) (k n : Nat) : State :=
  let o := s.pst k
  let s1 := s.evIf (!has o.latched (n - 1)) 0x0B02 (le 1 k ++ le 1 n ++ [1] ++ le 4 0 ++ [0])
  let first := s.firstWith k n
  let s2 := s1.modPst k (fun x =>
    { x with
      trip := true, latched := withBit x.latched (n - 1), firstOut := first,
      latchFrame := if o.firstOut = 0 then s.now else x.latchFrame,
      latchPulse := if o.firstOut = 0 then s.time.pulse else x.latchPulse })
  { (s2.startOpening k).surveyStop k with tw.lastLatch := (first, k, s.now), jnl.wearDue := true }

/-- The magnitude of a string's discharge current, 0 while it charges, mA. -/
def disOf (i : Int) : Nat := (-i).toNat

/-- Take the actions of a stage of function `n` on a string (Table 11-2). Under `INH_CHG` the discharge current of pulse
10 of this frame is kept (R350); before pulse 12, which has that sample, the value is made good there. -/
def State.takeActions (s : State) (k n : Nat) (acts : Byte) : State :=
  let s1 := if acts.getLsbD 0 then s.raiseAlarm k (n - 1) else s
  let s2 := if acts.getLsbD 2 then
      s1.modPst k (fun x =>
        { x with disHeld := tput x.disHeld n (disOf (s1.pp k).icur.at10), disAt := tput x.disAt n s1.now })
    else s1
  let opens := if acts.getLsbD 5 then s2.strings else if acts.getLsbD 4 then [k] else []
  let s3 := opens.foldl (fun u j => u.latch j n) s2
  (if opens = [] then [k] else opens).foldl (fun u j => u.recordOwn j) s3

/-- The warning stage of function `n` starts on a string. -/
def State.warnStart (s : State) (k n idx : Nat) (value : Int) : State :=
  if has (s.pst k).warn (n - 1) then s
  else
    let acts := (s.matrix n).warn
    let s1 := s.modPst k (fun x => { x with warn := withBit x.warn (n - 1), warnCond := withBit x.warnCond (n - 1) })
    let s2 := s1.ev 0x0B01 (le 1 n ++ le 1 k ++ [0x01, acts] ++ le 2 idx ++ leI 4 value ++ [0])
    s2.takeActions k n acts

/-- The warning stage of function `n` ends on a string, and its actions with it (R306). -/
def State.warnEnd (s : State) (k n : Nat) : State :=
  if has (s.pst k).warn (n - 1) then
    let s1 := s.modPst k (fun x =>
      { x with
        warn := withoutBit x.warn (n - 1), warnCond := withoutBit x.warnCond (n - 1),
        absentFrom := tput x.absentFrom n 0 })
    let s2 := s1.ev 0x0B01 (le 1 n ++ le 1 k ++ [0x81, (s.matrix n).warn] ++ le 2 0xFFFF ++ leI 4 0 ++ [0])
    (s2.clearAlarm k (n - 1) (s2.stands k n)).recordOwn k
  else s

/-- Function `n` is, or becomes by this decision, the first to latch the string (R310). -/
def State.firstOutOf (s : State) (k n : Nat) : Bool :=
  decide ((s.pst k).firstOut = 0) || decide ((s.pst k).firstOut = n)

/-- The trip stage of function `n` starts on one string: the stage, `PROT_ACTION`, a capture, the actions. A stage
that stands already starts none. -/
def State.tripStart (s : State) (k n idx : Nat) (value : Int) : State :=
  if has (s.pst k).tripStage (n - 1) then s
  else
    let acts := (s.matrix n).trip
    let s1 := s.modPst k (fun x => { x with tripStage := withBit x.tripStage (n - 1) })
    let s2 := s1.ev 0x0B01 (le 1 n ++ le 1 k ++ [0x02, acts] ++ le 2 idx ++ leI 4 value ++
      le 1 (b2n (s.firstOutOf k n)))
    (s2.startCapture k n).takeActions k n acts

/-- The trip stage of a module-scoped function (SF-08, SF-11) starts on every installed string (R305). -/
def State.tripModule (s : State) (n idx : Nat) (value : Int) : State :=
  let acts := (s.matrix n).trip
  let s1 := s.ev 0x0B01 (le 1 n ++ [0xFF, 0x02, acts] ++ le 2 idx ++ leI 4 value ++
    le 1 (b2n (s.strings.all (fun k => s.firstOutOf k n))))
  let live := s.strings.filter (fun k => decide ((s.str k).state ∈ [SState.connecting, .closed, .held]))
  let s2 := live.foldl (fun u k => u.startCapture k n) s1
  s2.strings.foldl (fun u k =>
    (u.modPst k (fun x => { x with tripStage := withBit x.tripStage (n - 1) })).takeActions k n acts) s2

/-- Clear the latches of a string (R311): the latch, `TRIP`, the first-out function, with `PROT_LATCH` per function. -/
def State.clearLatches (s : State) (k : Nat) (cmd : Word) (role : Role) : State :=
  let s1 := (upFrom 1 12).foldl (fun u n =>
    u.evIf (has (s.pst k).latched (n - 1)) 0x0B02 (le 1 k ++ le 1 n ++ [2] ++ le 4 cmd.toNat ++ le 1 role.code)) s
  let s2 := { s1 with jnl.wearDue := true }.modPst k (fun x =>
    { x with
      latched := 0, firstOut := 0, latchFrame := 0, latchPulse := 0, trip := false, tripStage := 0,
      preLoadTrip := false })
  (upFrom 1 12).foldl (fun u n => u.clearAlarm k (n - 1) (u.stands k n)) s2

/-! ### Safe -/

/-- A string that entry to Safe takes to OPEN with cause 0x0B (R74). -/
def State.safeStr (s : State) (k : Nat) : State :=
  let s1 := (s.modPst k (fun x => { x with trip := true }))
  match (s.str k).state with
  | .connecting => s1.endConnect k 6 .opened 0x0B 0
  | .closed | .held | .opened => (s1.startOpening k).setStr k .opened 0x0B 0 true
  | _ => s1.startOpening k

/-- End every command that entry to Safe stops (R84): a pending mode request, string surveys, a firmware update. -/
def State.safeAborts (s : State) : State :=
  let s1 := if s.mode.targetCmd = 0 then s else s.cmdAbort s.mode.targetCmd
  let s2 := s1.mode.surveyCmds.foldl (fun u c => u.cmdAbort c.cmd) s1
  { s2 with mode.surveyCmds := [], mode.str := tmap s2.mode.str (fun _ x => { x with survey := none }) }.cfeAbort

/-- Write the Safe latch with its cause (R74); a latch that stands keeps its first cause. The cause stands in the
function byte of `PROT_LATCH`. -/
def State.safeLatchSet (s : State) (cause : Byte) : State :=
  if s.jnl.safeLatch = 0 then
    { s with jnl.safeLatch := cause }.ev 0x0B02 ([0xFF, cause, 3] ++ le 4 0 ++ [0])
  else s

/-- A Safe cause (R74): the safe outputs, every string open, the latch; the mode Safe from the modes of Table 3-7; the
pair state DETACHED (Table 13-2 row 14). In Fill and Load the latch takes effect at the end of Load (R64). -/
def State.enterSafe (s : State) (cause : Byte) (cmd : Word) : State :=
  let s1 := { s with prot.safeA := true, prot.safeB := true, pair.chgOut := false }.safeLatchSet cause
  match s.mode.mode with
  | .fill | .load => s1.strings.foldl (fun u k => u.safeStr k) s1
  | .safe => s1.ev 0x0301 ([7, 7, 3] ++ le 4 cmd.toNat)
  | _ =>
    let s2 := s1.strings.foldl (fun u k => u.safeStr k) s1.safeAborts
    let s3 := s2.setMode .safe 0x03 cmd
    let s4 : State := { s3 with mode.safeCause := s3.jnl.safeLatch, mode.wakeBurst := 0, mode.leavingRest := false }
    if s4.pair.state.isSome && decide (s4.pair.state ≠ some .detached) then s4.setPair .detached 0x0B
    else s4

/-- A diagnostic of Table 11-6 has failed: `PROT_DIAG` and the time of the failure (Table 3-8). -/
def State.diagFail (s : State) (n detail : Nat) : State :=
  let s1 := s.ev 0x0B04 (le 1 n ++ [1] ++ le 4 detail)
  { s1 with prot.diag := s1.prot.diag ||| ((1 : BitVec 17) <<< (n - 1)), prot.diagLast := some s.now }

/-- SF-12 (R323): `TRIP` on every port, the safe outputs, the Safe latch with cause 0x02, Safe. `island` for the
diagnostics of island origin (R342). -/
def State.sf12 (s : State) (n detail : Nat) (island : Bool) : State :=
  let s1 := s.diagFail n detail
  let s2 := s1.ev 0x0B01 ([12, 0xFF, 0x02, 0] ++ le 2 n ++ leI 4 detail ++ [0])
  let s3 := { s2 with
    prot.str := tmodAll s2.prot.str allStr (fun _ x => { x with trip := true }),
    prot.islandFault := s2.prot.islandFault || island }
  s3.enterSafe 0x02 0

/-! ### Restarts -/

/-- The rings keep their records at a start; the counters of area 0x14 begin again. -/
def Ring.kept (r : Ring) : Ring := { recs := r.recs, next := r.next }

/-- The last frame number of the event journal plus 1 (R47). -/
def State.journalFrame (s : State) : Nat :=
  match s.jnl.event.recs with
  | r :: _ => r.frame + 1
  | [] => 0

/-- What a start keeps of area 0x12. -/
def CfgSt.kept (c : CfgSt) : CfgSt := { slot0 := c.slot0, slot1 := c.slot1, half0 := c.half0, half1 := c.half1 }

/-- What a start keeps of area 0x13: the update record and the module NOR. -/
def UpdSt.kept (u : UpdSt) : UpdSt :=
  { newest := u.newest, older := u.older, valid := u.valid, gen := u.gen, vstate := u.vstate, confirmed := u.confirmed, fallback := u.fallback,
    revertNew := u.revertNew, copyNew := u.copyNew, trials := u.trials, copyIndex := u.copyIndex, set := u.set,
    mig := u.mig, fmt0 := u.fmt0, fmt1 := u.fmt1, cause := u.cause, loadFails := u.loadFails, verA := u.verA,
    verB := u.verB, verV := u.verV, secv := u.secv, manHash := u.manHash, bitmap := u.bitmap, bankA := u.bankA,
    bankB := u.bankB, velvet := u.velvet, rollback := u.rollback, inUse := u.inUse }

/-- What a start keeps of the journals and MRAM records: all that is non-volatile. -/
def JnlSt.kept (j : JnlSt) : JnlSt :=
  { safety := j.safety.kept, event := j.event.kept, audit := j.audit.kept, mirror0 := j.mirror0,
    mirror1 := j.mirror1, carrier0 := j.carrier0, carrier1 := j.carrier1, otherMirror := j.otherMirror,
    gasp0 := j.gasp0, gasp1 := j.gasp1, herd := j.herd, herdBad := j.herdBad, safeLatch := j.safeLatch }

/-- What a start keeps of area 0x15: the one-time-programmable parts. -/
def AccSt.kept (a : AccSt) : AccSt :=
  { written := a.written, retired := a.retired, roots := a.roots, denyOtp := a.denyOtp, debugDue := a.debugDue }

/-- What a start keeps of the power supply: measurements of the hardware, and the factory sector. -/
def PsvSt.kept (p : PsvSt) : PsvSt :=
  { vin := p.vin, iin := p.iin, pin := p.pin, state := p.state, huV := p.huV, huE := p.huE, huFull := p.huFull,
    huCap := p.huCap, charging := p.charging, rails := p.rails, cal := p.cal, powered := p.powered }

/-- What a start keeps of a string's protection: the latches of the safety journal (R552), and `TRIP` with them until the
latch is cleared (R272, R307, R311). -/
def ProtStr.kept (x : ProtStr) : ProtStr :=
  { trip := decide (x.latched ≠ 0), latched := x.latched, firstOut := x.firstOut, latchFrame := x.latchFrame, latchPulse := x.latchPulse }

/-- SERVICE survives every start (R80); of any other state nothing does. -/
def StrSt.keptService (x : StrSt) : StrSt := if x.state = .service then { state := .service, cause := 0x0C } else {}

/-- What Markhor holds of a front end's wires and blocks (R164, R172), kept while Markhor runs on. -/
def FeMeas.kept (x : FeMeas) : FeMeas := { x with test := none, retryAt := none, block := 0 }

/-- What Markhor holds of a string's tier permit, wire faults and pending openings (R155, R164, R165, R170, R173). -/
def StrMeas.kept (x : StrMeas) : StrMeas := { x with tests := 0, voids := 0 }

/-- What a restart of the whole module keeps: non-volatile parts, factory values, straps, and what stands outside the
module. -/
def State.keptAll (s : State) (cause : Byte) : State :=
  { sys := { serial := s.sys.serial, certChain := s.sys.certChain, orderCode := s.sys.orderCode, hwIssue := s.sys.hwIssue, slot := s.sys.slot,
             slotOk := s.sys.slotOk,
             runtime := s.sys.runtime, bootRom := s.sys.bootRom, resetCause := cause },
    time := { frame := s.journalFrame, markhorFrame := s.journalFrame, sincePower := s.time.sincePower,
              ticks := s.time.ticks,
              oscWarm := s.time.oscWarm, oscTemp := s.time.oscTemp },
    fe := s.fe,
    mode := { str := tmap s.mode.str (fun _ x => x.keptService) },
    power := { stage := s.power.stage },
    prot := { startTick := s.time.ticks, str := tmap s.prot.str (fun _ x => x.kept),
              ilk := tmap s.prot.ilk (fun _ x => { loop := x.loop, contact := x.contact }) },
    grz := { diode := s.grz.diode, tBase := s.grz.tBase },
    pair := { chgIn := s.pair.chgIn, lane0 := s.pair.lane0, lane1 := s.pair.lane1 },
    site := { ledger := s.site.ledger, newest := s.site.newest, link0 := s.site.link0, link1 := s.site.link1 },
    ledgerOther := s.ledgerOther,
    tw := { pins := s.tw.pins, primary := 0x58 + s.tw.pins },
    cfg := s.cfg.kept, upd := s.upd.kept,
    mem := { remap := s.mem.health.1, remapMk := s.mem.health.2.1, errs := s.mem.health.2.2, healthGen := s.mem.healthGen,
             health := s.mem.health },
    jnl := s.jnl.kept, acc := s.acc.kept, psv := s.psv.kept,
    pending := s.pending, free := s.free }

/-- Every thermal output is off (R290). -/
def State.outputsOff (s : State) : State :=
  { s with power.out := tmap s.power.out (fun _ x => { x with on := false }) }

/-- Restart of the runtime side alone (R63): Markhor, its SRAM with the topology and the records it was handed, the power
ports, Pronghorn and the loop contexts go on; the strings Markhor held closed are marked for readoption. -/
def State.keptRuntime (s : State) : State :=
  let b := s.keptAll 0x04
  let closed (k : Nat) : Bool := decide ((s.str k).state = .closed) || decide ((s.str k).state = .held)
  State.outputsOff { b with
    time.frame := s.time.markhorFrame, time.markhorFrame := s.time.markhorFrame,
    sys.stringMask := s.sys.stringMask, sys.ports := s.sys.ports,
    mode.str := tmodAll b.mode.str s.strings (fun k x => { x with keptClosed := closed k }),
    mode.enabled := (s.strings.filter closed).foldl (fun m k => if has s.mode.enabled k then withBit m k else m) 0,
    meas.cfg := s.meas.cfg, meas.fe := tmap s.meas.fe (fun _ x => x.kept), meas.str := tmap s.meas.str (fun _ x => x.kept),
    mkCell := s.mkCell, mkTh := s.mkTh, power := s.power, prot := s.prot,
    pair.chgOut := s.pair.chgOut, pair.frozenLone := s.pair.frozenLone,
    tw := s.tw, psv := s.psv,
    jnl.mkThru := s.jnl.mkThru, jnl.mkAt := s.jnl.mkAt, jnl.mkBase := s.jnl.mkBase,
    bus.unreachable := false }

/-- A start with a reset cause (Table 3-7): the mode is Fill. -/
def State.restart (s : State) (cause : Byte) : State :=
  if cause = 0x04 then s.keptRuntime else s.keptAll cause

/-- A freeze of the runtime (R327, R328, R396): the outputs stand, CONNECTING strings end without `TRIP`, the runtime
side restarts; a third freeze within 1 h is SF-12. -/
def State.freeze (s : State) (trigger : Nat) : State :=
  let recent := s.prot.freezes.filter (fun f => decide (s.now < f + 3600000)) ++ [s.now]
  let s1 := s.diagFail trigger 0
  let s2 := s1.ev 0x0B05 ([1] ++ le 1 trigger ++ le 1 recent.length)
  let lone := decide (s.pair.state = some .lone)
  let connecting := s2.strings.filter s2.connecting
  let s3 := connecting.foldl (fun u k =>
    ((u.modPst k (fun x => { x with permit := false })).modPp k (fun p =>
      { p with kReq := false, hold := false })).endConnect k 6 .opened 0 0) s2
  let s4 := { s3 with
    prot.frozen := true, prot.freezeAt := s.now, prot.freezeBy := trigger, prot.freezes := recent,
    pair.frozenLone := lone, pair.chgOut := s3.pair.chgOut && lone }
  let s5 := if 3 ≤ recent.length then s4.sf12 17 0 false else s4
  s5.restart 0x04

/-! ### Commands of the whole module -/

/-- MODE_SAFE_REQUEST (R74). -/
def execModeSafeRequest (id : Word) (s : State) : Host.Outcome State Fault Refusal :=
  ok (s.evaluate id 0x0302 1 (fun _ e => { format := decide (e.body = []) }) noStr
    (fun s' e => (s'.cmdDone e.id).enterSafe 0x05 e.id))

/-- ACC_DEBUG_UNLOCK (R576): Safe with cause 0x06, then a restart with cause 0x07 with the debug port open. -/
def execAccDebugUnlock (id : Word) (s : State) : Host.Outcome State Fault Refusal :=
  ok (s.evaluate id 0x1502 1 (fun _ e => { format := decide (e.body = []) }) noStr
    (fun s' e =>
      let s1 := s'.cmdDone e.id
      let s2 := s1.ev 0x1504 [1]
      let s3 := s2.enterSafe 0x06 e.id
      { s3 with mode.restart := some 0x07, acc.debugDue := true }))

end Sys2Proof.Machine
end

