-- ==== Sys2Proof/Machine/Prot.lean ====
section
/-! DEFINITION. Protection (chapter 11): the safety functions SF-01 to SF-12, their conditions, releases and resets,
and the internal diagnostics. -/

namespace Sys2Proof.Machine

/-! ### Conditions that come and go (R306) -/

/-- Record that the condition behind a stage is absent, or is present again. -/
def State.setAbsent (s : State) (k key : Nat) (absent : Bool) : State :=
  s.modPst k (fun x =>
    { x with
      absentFrom := if absent then (if tget x.absentFrom key = 0 then tput x.absentFrom key (s.now + 1)
                                    else x.absentFrom)
                    else tput x.absentFrom key 0 })

/-- The condition behind a stage has been absent for `PROT_W_RELEASE`. -/
def State.released (s : State) (k key : Nat) : Bool :=
  let f := tget (s.pst k).absentFrom key
  decide (0 < f) && decide (f - 1 + 1000 * s.prot.cfg.wRelease ≤ s.now)

/-- A trip stage ends without its latch: its actions other than openings end (R306). -/
def State.tripEnd (s : State) (k n : Nat) : State :=
  if has (s.pst k).tripStage (n - 1) then
    let s1 := s.modPst k (fun x =>
      { x with tripStage := withoutBit x.tripStage (n - 1), absentFrom := tput x.absentFrom (16 + n) 0 })
    (s1.clearAlarm k (n - 1) (s1.stands k n)).recordOwn k
  else s

/-! ### SF-01 and SF-02 (R303, R165) -/

/-- The wire `w` of a port is a declared inner wire. -/
def State.innerWire (s : State) (p w : Nat) : Bool :=
  (tget s.meas.fe p).wires.getLsbD w && decide (0 < w) && decide (w < s.cellsOn p)

/-- The voltage the checker uses for a channel, doubled: its own reading twice, or the sum of the pair beside a
declared inner wire while no unlocated fault stands on the front end (R165). -/
def State.checked2 (s : State) (p c : Nat) : Int :=
  let v (d : Nat) : Int := (tget s.mkCell (cellIx p d)).v
  if (tget s.meas.fe p).unlocated || (tget s.meas.str (strOfPort p)).sumFault then 2 * v c
  else if s.innerWire p c then v (c - 1) + v c
  else if s.innerWire p (c + 1) then v c + v (c + 1)
  else 2 * v c

/-- The run of a limit after a converted sample. -/
def nextRun (beyond : Bool) (r : Nat) : Nat := if beyond then r + 1 else 0

/-- The channel is checked as half of the pair beside a declared inner wire (R165). -/
def State.isPaired (s : State) (p c : Nat) : Bool :=
  !((tget s.meas.fe p).unlocated || (tget s.meas.str (strOfPort p)).sumFault) &&
    (s.innerWire p c || s.innerWire p (c + 1))

/-- The limit checker on one cell's converted sample (R303); a sample flagged `TEST` leaves the runs. A pair has no
warning of its own: the SF-07 hold and the pair rule stand in its place (R165). -/
def MkCell.check (x : MkCell) (lim : LimitCfg) (v2 : Int) (paired test : Bool) : MkCell :=
  if test then x
  else
    { x with
      ovTrip := nextRun (x.sat || decide (2 * lim.ovTrip ≤ v2)) x.ovTrip,
      ovWarn := nextRun (!paired && (x.sat || decide (2 * lim.ovWarn ≤ v2))) x.ovWarn,
      uvTrip := nextRun (x.sat || decide (v2 ≤ 2 * lim.uvTrip)) x.uvTrip,
      uvWarn := nextRun (!paired && (x.sat || decide (v2 ≤ 2 * lim.uvWarn))) x.uvWarn }

/-- The first cell of a list whose run, by a reading, has reached ten samples. -/
def State.tenth (s : State) (gs : List Nat) (f : MkCell → Nat) : Option Nat :=
  gs.find? (fun g => decide (10 ≤ f (tget s.mkCell g)))

/-- Start the warning or the trip stage of a function where a cell has reached ten samples. -/
def State.decideCell (s : State) (k n : Nat) (trip : Bool) (gs : List Nat) (f : MkCell → Nat) : State :=
  match s.tenth gs f with
  | none => s
  | some g =>
    if trip then s.tripStart k n g (tget s.mkCell g).v else s.warnStart k n g (tget s.mkCell g).v

/-- The conditions of SF-01 and SF-02 of a string, for the release of their stages (R306, Table 11-10). -/
def State.cellAbsence (s : State) (k : Nat) : State :=
  let st := s.pst k
  if has st.warn 0 || has st.warn 1 || has st.tripStage 0 || has st.tripStage 1 then
    let lim := s.prot.cfg.lim
    let h := 1000 * lim.vHyst
    let gs := s.cellsOf k
    let all (q : Int → Bool) (pairs : Bool) : Bool := gs.all (fun g =>
      (!pairs && s.isPaired (g / 64) (g % 64)) || (!(tget s.mkCell g).sat && q (s.checked2 (g / 64) (g % 64))))
    let s1 := s.setAbsent k 1 (all (fun v2 => decide (v2 < 2 * (lim.ovWarn - h))) false)
    let s2 := s1.setAbsent k 2 (all (fun v2 => decide (2 * (lim.uvWarn + h) < v2)) false)
    let s3 := s2.setAbsent k 17 (all (fun v2 => decide (v2 < 2 * lim.ovTrip)) true)
    s3.setAbsent k 18 (all (fun v2 => decide (2 * lim.uvTrip < v2)) true)
  else s

/-- The pair rule of SF-02 inhibits discharge of the string (R165). -/
def State.pairInhibit (s : State) (k : Nat) : Bool :=
  let lim := 2 * s.prot.cfg.lim.uvTrip + 1000 * (s.meas.cfg.owPairMargin : Int)
  !(tget s.meas.str k).sumFault && (s.fittedOf k).any (fun p => !(tget s.meas.fe p).unlocated && (upFrom 1 63).any (fun w =>
    s.innerWire p w && decide ((tget s.mkCell (cellIx p (w - 1))).v + (tget s.mkCell (cellIx p w)).v ≤ lim)))

/-- LIMIT_CHECK of one port after its converted upload (R303): runs, then the stages of SF-01 and SF-02. `test` is the
upload's own mark (R297). -/
def State.limitCheck (s : State) (p : Nat) (test : Bool) : State :=
  let k := strOfPort p
  let gs := upFrom (cellIx p 0) (s.cellsOn p)
  let s1 := { s with mkCell := tmodAll s.mkCell gs (fun g x =>
    x.check s.prot.cfg.lim (s.checked2 p (g - cellIx p 0)) (s.isPaired p (g - cellIx p 0)) test) }
  let s2 := s1.decideCell k 1 false gs (·.ovWarn)
  let s3 := s2.decideCell k 1 true gs (·.ovTrip)
  let s4 := s3.decideCell k 2 false gs (·.uvWarn)
  let s5 := s4.decideCell k 2 true gs (·.uvTrip)
  let s6 := (s5.modPst k (fun x => { x with pairInhDis := s5.pairInhibit k })).cellAbsence k
  if (s5.pst k).pairInhDis = (s6.pst k).pairInhDis then s6 else s6.recordOwn k

/-! ### SF-03 (R304, R316) -/

/-- A thermistor is broken for Markhor. -/
def MkTh.isBroken (x : MkTh) : Bool := x.broken || x.disagree

/-- The value Markhor uses of a thermistor: its reading, or the substitute of R169 while it is broken. -/
def State.mkThValue (s : State) (i : Nat) : Int :=
  let x := tget s.mkTh i
  if x.isBroken then s.prot.cfg.lim.otWarn + 100 else x.reading

/-- A converted value of a thermistor enters Markhor's judgement; an open or shorted code of one that is not broken is
no value. -/
def State.mkThTake (s : State) (i : Nat) : State :=
  let v := s.mkThValue i
  let x := tget s.mkTh i
  if x.badRun ≠ 0 ∧ !x.isBroken then s
  else
    let y : MkTh :=
      { x with
        lastSeen := some s.now,
        lastBelowWarn := if v < s.prot.cfg.lim.otWarn then some s.now else x.lastBelowWarn,
        lastBelowTrip := if v < s.prot.cfg.lim.otTrip then some s.now else x.lastBelowTrip }
    { s with mkTh := tput s.mkTh i y }

/-- Every converted value of the last 1,000 frames meets a limit, and there is one (R316). -/
def for1s (now : Nat) (seen below : Option Nat) : Bool :=
  (match seen with | some f => decide (now < f + 1000) | none => false) &&
  (match below with | some f => decide (f + 1000 ≤ now) | none => true)

/-- SF03_CHECK of a string (R316): its thermistors, and the model input unless it is stale or the module frozen (R304,
R327). -/
def State.sf03Check (s : State) (k : Nat) : State :=
  let lim := s.prot.cfg.lim
  let ths := s.thsOf k
  let st := s.pst k
  let modelSeen : Option Nat := if st.modelStale || st.model.isNone || s.prot.frozen then none else some st.modelFrame
  let warn := ths.find? (fun i => for1s s.now (tget s.mkTh i).lastSeen (tget s.mkTh i).lastBelowWarn)
  let trip := ths.find? (fun i => for1s s.now (tget s.mkTh i).lastSeen (tget s.mkTh i).lastBelowTrip)
  let mWarn := for1s s.now modelSeen st.modelBelowWarn
  let mTrip := for1s s.now modelSeen st.modelBelowTrip
  let at_ (o : Option Nat) : Nat × Int :=
    match o with
    | some i => (i, s.mkThValue i)
    | none => (0xFFFF, st.model.getD 0)
  let s1 := if warn.isSome || mWarn then s.warnStart k 3 (at_ warn).1 (at_ warn).2 else s
  let s2 := if trip.isSome || mTrip then s1.tripStart k 3 (at_ trip).1 (at_ trip).2 else s1
  if has (s2.pst k).warn 2 || has (s2.pst k).tripStage 2 then
    let hot (t m : Int) : Bool := (s2.thsOf k).any (fun i => (tget s2.mkTh i).seen && decide (t ≤ s2.mkThValue i)) ||
      (modelSeen.isSome && decide (m ≤ st.model.getD 0))
    (s2.setAbsent k 3 (!hot (lim.otWarn - lim.tHyst) (lim.coreWarn - lim.tHyst))).setAbsent k 19
      (!hot (lim.otTrip - lim.tHyst) (lim.coreTrip - lim.tHyst))
  else s2

/-- A model input of a string reaches Markhor (R229, R316). -/
def State.modelInput (s : State) (k : Nat) (v : Int) : State :=
  let lim := s.prot.cfg.lim
  (s.modPst k (fun x =>
    { x with
      model := some v, modelFrame := s.now, modelStale := false,
      modelBelowWarn := if v < lim.coreWarn then some s.now else x.modelBelowWarn,
      modelBelowTrip := if v < lim.coreTrip then some s.now else x.modelBelowTrip })).sf03Check k

/-- MODEL_INPUT_STALE (R304): a model input older than 2 s is stale. -/
def execModelInputStale (p : Pulse) (str : StrIx) (s : State) : Host.Outcome State Fault Refusal :=
  let s0 := s.atP p.val
  ok (if (s0.pst str.val).modelFrame + 2000 < s.now then s0.modPst str.val (fun x => { x with modelStale := true })
      else s0)

/-! ### SF-04 and SF-05 (R317, R318) -/

/-- The SF-04 threshold of a port, the least whole mA at or above it (R317); before Load 0.95 of the sinc3 full scale
(R314). -/
def State.sf04Threshold (s : State) (k : Nat) : Int :=
  let c := s.portCfg k
  let fs := 95 * c.icurFs
  (((if s.prot.loaded then min (c.rating * s.prot.cfg.fastOcPct) fs else fs) + 99) / 100 : Nat)

/-- SF04_TRIP (R317): two coarse outputs at or above the threshold, or `DESAT`. -/
def execSf04Trip (p : Pulse) (str : StrIx) (s : State) : Host.Outcome State Fault Refusal :=
  let s0 := s.atP p.val
  let q := s0.pp str.val
  ok (if q.coarseHit || q.stat.desat then s0.tripStart str.val 4 str.val (q.coarse.headD q.icur.sample) else s0)

/-- `K` of SF-05 for a string (R318). -/
def State.i2tK (s : State) (k : Nat) : Nat := 3 * (s.portCfg k).rating ^ 2 * s.prot.cfg.i2tT2 * 1000000

/-- SF05_CHECK (R318): at pulse 12, the accumulator takes the frame's sum of squares and its stages decide. -/
def execSf05Check (str : StrIx) (s : State) : Host.Outcome State Fault Refusal :=
  let k := str.val
  let s0 := s.atP 12
  if !s0.prot.loaded || !s0.installed k then ok s0
  else
    let e := (s0.pst k).i2t + (s0.pp k).last.sq - (s0.portCfg k).rating ^ 2 * 1000
    let s1 := s0.modPst k (fun x => { x with i2t := e })
    let kk := s1.i2tK k
    let hot := decide (8 * kk ≤ 10 * e)
    let pct := ((100 * e / (kk + b2n (decide (kk = 0)))) : Nat)
    let s2 := if hot then s1.warnStart k 5 k pct else s1
    let s3 := if kk ≤ e then s2.tripStart k 5 k pct else s2
    ok ((s3.setAbsent k 5 (has (s3.pst k).warn 4 && !hot)).setAbsent k 21
      (has (s3.pst k).tripStage 4 && decide (e < kk)))

/-! ### SF-06 (R319) -/

/-- The string's ports count for SF-06: CONNECTING, CLOSED or HELD, or with the contactor permit given. -/
def State.sf06Counts (s : State) (k : Nat) : Bool :=
  s.installed k && (decide ((s.str k).state ∈ [SState.connecting, .closed, .held]) || (s.pst k).permit)

/-- SF06_WARNING (R319): 5 consecutive missed frames on a port. -/
def execSf06Warning (port : PortIx) (s : State) : Host.Outcome State Fault Refusal :=
  let k := strOfPort port.val
  let s0 := s.atP 400
  let run := (tget s0.prot.port port.val).missRun
  ok (if s0.sf06Counts k ∧ s0.fitted port.val ∧ 5 ≤ run then s0.warnStart k 6 port.val run else s0)

/-- SF06_TRIP (R319): 100 consecutive missed frames on a port. -/
def execSf06Trip (port : PortIx) (s : State) : Host.Outcome State Fault Refusal :=
  let k := strOfPort port.val
  let s0 := s.atP 400
  let run := (tget s0.prot.port port.val).missRun
  ok (if s0.sf06Counts k ∧ s0.fitted port.val ∧ 100 ≤ run then s0.tripStart k 6 port.val run else s0)

/-- Every port of the string has been valid for `PROT_SF06_RELEASE` frames. -/
def State.portsValid (s : State) (k : Nat) : Bool :=
  (s.fittedOf k).all (fun p => decide (s.prot.cfg.sf06Release ≤ (tget s.prot.port p).validRun))

/-- SF06_RELEASE (R319): the warning ends once every port has been valid long enough. -/
def execSf06Release (str : StrIx) (s : State) : Host.Outcome State Fault Refusal :=
  let s0 := s.atP 400
  ok (if s0.portsValid str.val then (s0.warnEnd str.val 6).tripEnd str.val 6 else s0)

/-! ### SF-08 and SF-11 (R314, R320) -/

/-- The function an interlock input serves. -/
def ilkFn (i : Nat) : Nat := if i = 3 then 8 else 11

/-- The input is evaluated: all before the end of Load, then those of `PROT_ILK_EN`. -/
def State.ilkOn (s : State) (i : Nat) : Bool := !s.prot.loaded || s.prot.cfg.ilkEn.getLsbD i

/-- Debounce in frames: the default before the end of Load. -/
def State.ilkDebounce (s : State) : Nat := if s.prot.loaded then s.prot.cfg.ilkDebounce else 5

/-- The fault condition of an input: loop current below 2 mA, or the channels disagree. -/
def IlkSt.bad (x : IlkSt) : Bool := !x.loop || x.loop != x.contact

/-- An input reads healthy or is not evaluated. -/
def State.ilkHealthy (s : State) (i : Nat) : Bool := !s.ilkOn i || !(tget s.prot.ilk i).faulted

/-- Every enabled input is healthy. -/
def State.allIlkHealthy (s : State) : Bool := (upFrom 0 4).all s.ilkHealthy

/-- The conditions of SF-08 and SF-11 on every string, for the end of their stages. -/
def State.ilkAbsence (s : State) : State :=
  s.strings.foldl (fun u k =>
    (u.setAbsent k 24 (has (u.pst k).tripStage 7 && s.ilkHealthy 3)).setAbsent k 27
      (has (u.pst k).tripStage 10 && (upFrom 0 3).all s.ilkHealthy)) s

/-- ILK_INPUT_CHANGE (R320): a channel changes its reading; the fault condition starts or ends. -/
def execIlkInputChange (p : Pulse) (ilk : Fin 4) (loop contact : Bool) (s : State) :
    Host.Outcome State Fault Refusal :=
  let s0 := s.atP p.val
  let s1 := { s0 with prot.ilk := tmod s0.prot.ilk ilk.val (fun x =>
    let y := { x with loop := loop, contact := contact }
    if y.bad then { y with from_ := if x.from_.isSome then x.from_ else some s0.now }
    else { y with from_ := none, faulted := false }) }
  ok s1.ilkAbsence

/-- The stage of a faulted input: before the end of Load `TRIP` on every port without a latch, then the trip stage of
its function (R314). -/
def State.ilkTrip (s : State) (i : Nat) : State :=
  if s.prot.loaded then s.tripModule (ilkFn i) i 0
  else
    let s1 := s.ev 0x0B01 (le 1 (ilkFn i) ++ [0xFF, 0x02, (s.matrix (ilkFn i)).trip] ++ le 2 i ++ leI 4 0 ++ [0])
    allStr.foldl (fun u k => (u.modPst k (fun x => { x with trip := true, preLoadTrip := true })).startOpening k) s1

/-- ILK_FAULT (R320): the condition has lasted the debounce. -/
def execIlkFault (p : Pulse) (ilk : Fin 4) (s : State) : Host.Outcome State Fault Refusal :=
  let s0 := s.atP p.val
  let x := tget s0.prot.ilk ilk.val
  ok (match x.from_ with
    | some f =>
      if x.bad ∧ !x.faulted ∧ s0.ilkOn ilk.val ∧ f + s0.ilkDebounce ≤ s0.now then
        ({ s0 with prot.ilk := tput s0.prot.ilk ilk.val { x with faulted := true } }.ilkTrip ilk.val).ilkAbsence
      else s0
    | none => s0)

/-! ### SF-09 (R321) -/

/-- An auxiliary contact of the string reads the wrong state. -/
def State.auxBad (s : State) (k : Nat) : Bool :=
  let q := s.pp k
  let cmd := q.word.kpos || q.word.kneg
  (!cmd && (q.stat.kposAux || q.stat.knegAux)) ||
    (decide ((s.str k).state ∈ [SState.closed, .held]) && !(q.stat.kposAux && q.stat.knegAux))

/-- Keep the time since which a contact has read the wrong state. -/
def State.auxWatch (s : State) (k : Nat) : State :=
  let bad := s.auxBad k
  s.modPst k (fun x =>
    { x with auxWrong := if bad then (if x.auxWrong.isSome then x.auxWrong else some s.now) else none })

/-- SF09_AUX_TIMEOUT (R321): a contact has read the wrong state for 200 ms. -/
def execSf09AuxTimeout (p : Pulse) (str : StrIx) (s : State) : Host.Outcome State Fault Refusal :=
  let s0 := s.atP p.val
  let q := s0.pp str.val
  ok (match (s0.pst str.val).auxWrong with
    | some f =>
      if f + 200 ≤ s0.now ∧ s0.auxBad str.val then
        s0.tripStart str.val 9 str.val (packBits [q.stat.kposAux, q.stat.knegAux])
      else s0
    | none => s0)

/-- SF-09 on a string that is CONNECTING, CLOSED or HELD (R321). -/
def State.sf09 (s : State) (k : Nat) (value : Int) : State :=
  if (s.str k).state ∈ [SState.connecting, .closed, .held] then s.tripStart k 9 k value else s

/-- SF-09 of what stands on the stage of a string (R321): an echo fault, an invalid status stream, `STG_FAULT`. -/
def State.sf09Stands (s : State) (k : Nat) : State :=
  let q := s.pp k
  if q.echoFault then s.sf09 k 3
  else if q.statInvalid then s.sf09 k 4
  else if q.stat.stgFault then s.sf09 k q.stgCode
  else s

/-- SF-10 on a string that is CONNECTING, CLOSED or HELD (R322). -/
def State.sf10 (s : State) (k : Nat) (value : Int) : State :=
  if (s.str k).state ∈ [SState.connecting, .closed, .held] then s.tripStart k 10 k value else s

/-- Σi of string `k` in the interval of a frame, where the string was CLOSED or HELD in it (R322): 1,000 times its mean
current. -/
def State.meanIn (s : State) (k f : Nat) : Option Int :=
  ((s.pp k).means.find? (fun m => decide (m.1 = f) && m.2.2)).map (·.2.1)

/-- One PCS value differs from the strings' sum by more than the tolerance (R322). -/
def State.pcsFar (s : State) (f : Nat) (v : Int) : Bool :=
  let ms := s.strings.filterMap (fun k => (s.meanIn k f).map (fun m => (k, m)))
  let sum := sumL (ms.map (·.2))
  let tol := sumL (ms.map (fun m => ((s.portCfg m.1).rating : Int))) * s.prot.cfg.pcsTolPct
  decide (1000 * (tol + 100000 * s.prot.cfg.pcsTolA) < 100 * (1000 * v - sum).natAbs)

/-- The SF-10 check is paused: fewer than 5 values in the last 100 frames, or the module frozen (R322, R327). -/
def State.sf10Paused (s : State) : Bool :=
  decide ((s.prot.pcs.filter (fun x => decide (s.now < x.1 + 100))).length < 5) || s.prot.frozen

/-- The SF-10 warning check (R322), while it is not paused. -/
def State.sf10Check (s : State) : State :=
  let vs := s.prot.pcs.filter (fun x => decide (s.now < x.1 + 100))
  let s1 := { s with prot.pcs := vs }
  let ks := s1.strings.filter (fun k => decide ((s1.str k).state ∈ [SState.closed, .held]))
  let standing := s1.strings.filter (fun k => has (s1.pst k).warn 9)
  if s1.sf10Paused then s1
  else if vs.all (fun x => s1.pcsFar x.2.1 x.2.2) then
    let s2 := ks.foldl (fun u k => u.warnStart k 10 0xFFFF ((vs.getLast?.map (·.2.2)).getD 0)) s1
    standing.foldl (fun u k => u.setAbsent k 10 false) { s2 with prot.pcsWarn := true }
  else
    standing.foldl (fun u k => u.setAbsent k 10 true) { s1 with prot.pcsWarn := false }

/-- The SF-10 check at a frame: in a pause a standing warning holds and the frame does not enter its release time (R306,
R322). -/
def State.sf10Frame (s : State) : State :=
  if s.sf10Paused then
    (s.strings.filter (fun k => has (s.pst k).warn 9 && decide (0 < tget (s.pst k).absentFrom 10))).foldl (fun u k =>
      u.modPst k (fun x => { x with absentFrom := tmod x.absentFrom 10 (· + 1) })) s
  else s.sf10Check

/-! ### Releases and inhibits -/

/-- PROT_WARNING_RELEASE (R306): a stage whose condition has been absent for `PROT_W_RELEASE` ends. SF-06 ends as R319
states, SF-07 is latched, and the SF-10 warning holds in a pause of its check. -/
def execProtWarningRelease (p : Pulse) (str : StrIx) (fn : Fin 12) (s : State) :
    Host.Outcome State Fault Refusal :=
  let s0 := s.atP p.val
  let k := str.val
  let n := fn.val + 1
  let s1 := if n ≠ 6 ∧ n ≠ 7 ∧ !(n = 10 && s0.sf10Paused) ∧ s0.released k n then s0.warnEnd k n else s0
  ok (if n ≠ 6 ∧ n ≠ 7 ∧ s1.released k (16 + n) then s1.tripEnd k n else s1)

/-- The pulses of `PROT_INH_TIME`. -/
def State.inhPulses (s : State) : Nat := 100000 * s.prot.cfg.inhTime

/-- One pulse of the watch on an inhibit (R308): count the pulses at which the current exceeds the tolerance. -/
def State.inhWatch (s : State) (k : Nat) (i : Int) : State :=
  let tol := ((s.portCfg k).rating * s.prot.cfg.inhTol : Nat)
  let c := s.inhChg k && decide ((tol : Int) < 100 * i)
  let d := s.inhDis k && decide (100 * i < -(tol : Int))
  s.modPst k (fun x =>
    { x with
      inhChgRun := if c then x.inhChgRun + 1 else 0
      inhDisRun := if d then x.inhDisRun + 1 else 0 })

/-- The functions whose standing stages hold an inhibit bit on the string. -/
def State.holding (s : State) (k bit : Nat) : List Nat :=
  (upFrom 1 12).filter (fun n =>
    (has (s.pst k).warn (n - 1) && ((s.matrix n).warn.getLsbD bit)) ||
    (has (s.pst k).tripStage (n - 1) && ((s.matrix n).trip.getLsbD bit)) ||
    (decide (n = 7) && decide (bit = 3) && (s.pst k).pairInhDis))

/-- INHIBIT_ENFORCE (R308): the trip stage of every function that holds the breached inhibit. -/
def execInhibitEnforce (p : Pulse) (str : StrIx) (s : State) : Host.Outcome State Fault Refusal :=
  let s0 := s.atP p.val
  let k := str.val
  let i := (s0.pp k).icur.sample
  let trip (u : State) (bit : Nat) : State := (u.holding k bit).foldl (fun v n => v.tripStart k n k i) u
  let c := decide (s0.inhPulses ≤ (s0.pst k).inhChgRun)
  let d := decide (s0.inhPulses ≤ (s0.pst k).inhDisRun)
  let s1 := if c then trip s0 2 else s0
  ok (if d then trip s1 3 else s1)

/-! ### Latched causes cleared (Table 11-5) -/

/-- The cause of a latch of function `n` has cleared. -/
def State.causeCleared (s : State) (k n : Nat) : Bool :=
  let lim := s.prot.cfg.lim
  let q := s.pp k
  let cells (f : MkCell → Bool) : Bool := (s.cellsOf k).all (fun g =>
    let x := tget s.mkCell g
    x.seen && !x.sat && f x)
  match n with
  | 1 => cells (fun x => decide (x.v < lim.ovWarn))
  | 2 => cells (fun x => decide (lim.uvTrip < x.v))
  | 3 => (s.thsOf k).all (fun i => decide (s.mkThValue i < lim.otWarn - lim.tHyst)) &&
      ((s.pst k).modelStale || (match (s.pst k).model with
        | some m => decide (m < lim.coreWarn - lim.tHyst)
        | none => true))
  | 4 => !q.stat.desat && !q.icur.invalid
  | 5 => decide (2 * (s.pst k).i2t < s.i2tK k)
  | 6 => s.portsValid k
  | 7 => true
  | 8 => s.allIlkHealthy
  | 9 => !q.statInvalid && !q.echoFault && !q.stat.stgFault && !q.auxPrev
  | 10 => !q.icur.invalid
  | 11 => s.allIlkHealthy
  | _ => true

/-- The conditions of the trip stages of SF-04, SF-09 and SF-10, for the end of their actions other than openings
(R306). -/
def State.powerAbsence (s : State) (k : Nat) : State :=
  [4, 9, 10].foldl (fun u n =>
    if has (u.pst k).tripStage (n - 1) then
      u.setAbsent k (16 + n) (u.causeCleared k n && !(decide (n = 4) && (u.pp k).coarseHit))
    else u) s

/-- Every latched cause of the string has cleared: the reset-ready bit of R386. -/
def State.resetReady (s : State) (k : Nat) : Bool :=
  (upFrom 1 12).all (fun n => !has (s.pst k).latched (n - 1) || s.causeCleared k n)

/-- The functions latched on a string, in a pair by either Markhor (R386). -/
def State.latchedUnion (s : State) (k : Nat) : Mask :=
  let peer := match s.pair.peer with
    | some x => if s.inPair then (tget x.str k).latched else 0
    | none => 0
  (s.pst k).latched ||| peer

/-- A role suffices to reset a string's latches (R311). -/
def State.resetRole (s : State) (k : Nat) (r : Role) : Bool :=
  (upFrom 1 12).all (fun n => !has (s.latchedUnion k) (n - 1) || roleAtLeast r (s.matrix n).role)

/-- The causes have cleared at the effective frame; in a pair both summaries of the previous frame show the string
reset-ready (R386). -/
def State.resetCleared (s : State) (k : Nat) : Bool :=
  if s.inPair then
    (match s.pair.own with | some x => decide (x.frame + 1 = s.now) && (tget x.str k).ready | none => false) &&
    (match s.pair.peer with | some x => decide (x.frame + 1 = s.now) && (tget x.str k).ready | none => false)
  else s.resetReady k

/-! ### Internal diagnostics (Table 11-6) -/

/-- Diagnostics of island origin (R342). -/
def islandDiag (n : Nat) : Bool := decide (n ∈ [1, 4, 10, 13])

/-- A diagnostic that had failed passes again: `PROT_DIAG` kind 0x80. -/
def State.diagPass (s : State) (n : Nat) : State :=
  if s.prot.diag.getLsbD (n - 1) then
    let s1 : State := { s.ev 0x0B04 (le 1 n ++ [0x80] ++ le 4 0) with
      prot.diag := s.prot.diag &&& ~~~((1 : BitVec 17) <<< (n - 1)) }
    if n = 9 then s1.strings.foldl (fun u k => u.clearAlarm k 11 (u.stands k 12)) s1 else s1
  else s

/-- A diagnostic that runs every frame or oftener finds its fault still standing. -/
def State.diagStands (s : State) (n : Nat) : Bool :=
  if n = 3 then decide (s.prot.clocks ≠ 0)
  else if n = 10 then decide (0 < s.prot.strobeBad)
  else if n = 12 then decide (0 < s.prot.tokenMiss)
  else if n = 17 then s.prot.frozen else false

/-- At each frame the diagnostics that run every frame or oftener pass again where their fault no longer stands (Table 11-6,
`PROT_DIAG`; log 182). -/
def State.diagsPass (s : State) : State :=
  if s.prot.diagLast.all (fun f => decide (f < s.now)) then
    [1, 2, 3, 4, 9, 10, 12, 17].foldl (fun u n => if u.diagStands n then u else u.diagPass n) s
  else s

/-- Commit the newest safety record again, as the next record. -/
def State.rewriteSafety (s : State) : State :=
  match s.jnl.safety.recs with
  | r :: _ => s.writeSafety r
  | [] => s

/-- A write of a safety record failed its verify (Table 11-6 diagnostic 9, R548): the record is written again in the next
one; where that fails too, subsystem 2 is degraded and the SF-12 alarm is raised. -/
def State.verifyFault (s : State) (detail : Nat) : State :=
  let again := decide (s.prot.verifyFail = some s.jnl.safety.next)
  let s0 : State := { s with jnl.lastReadback := some s.now }
  if again then
    let s1 : State := { s0.diagFail 9 detail with prot.islandDegraded := true, prot.verifyFail := none }
    s1.strings.foldl (fun u k => u.raiseAlarm k 11) s1
  else
    let s1 := s0.rewriteSafety.diagFail 9 detail
    { s1 with prot.verifyFail := some s1.jnl.safety.next }

/-- Diagnostics whose failure is SF-12 (Table 11-6); of diagnostic 3 those of MARKHOR, TIME and PWR. -/
def sf12Diag (n : Nat) : Bool := decide (n ∈ [1, 3, 4, 8, 10, 11, 13, 17])

/-- SF12_FAULT (R323): a diagnostic of Table 11-6 has failed. One whose reaction is SF-12 is; diagnostic 9 has the
reaction of `State.verifyFault`; the freezes and the reactions of other chapters have rows of their own. -/
def execSf12Fault (p : Pulse) (diag : Fin 17) (detail : Word) (s : State) : Host.Outcome State Fault Refusal :=
  let s0 := s.atP p.val
  let n := diag.val + 1
  ok (if sf12Diag n then s0.sf12 n detail.toNat (islandDiag n)
    else if n = 9 then s0.verifyFault detail.toNat
    else s0)

/-- The index of a clock domain, for the mask of failed domains. -/
def ClockDomain.code : ClockDomain → Nat
  | .core => 0
  | .markhor => 1
  | .fabric => 2
  | .dram => 3
  | .linkA => 4
  | .linkB => 5
  | .eland => 6
  | .pwr => 7
  | .time => 8
  | .eth0 => 9
  | .eth1 => 10
  | .can => 11
  | .aon => 12
  | .pair => 13
  | .qspi => 14

/-- CLOCK_MONITOR_FAULT (Table 11-6 diagnostic 3): SF-12, a freeze, or the owning chapter's health bit. -/
def execClockMonitorFault (p : Pulse) (domain : ClockDomain) (s : State) : Host.Outcome State Fault Refusal :=
  let s0 := s.atP p.val
  let s1 := { s0 with prot.clocks := s0.prot.clocks ||| ((1 : BitVec 15) <<< domain.code) }
  ok (match domain with
    | .markhor => s1.sf12 3 domain.code true
    | .time => { s1 with time.oscFault := true }.sf12 3 domain.code false
    | .pwr => s1.sf12 3 domain.code false
    | .core => s1.freeze 3
    | .eland => s1.freeze 3
    | .fabric => s1.freeze 3
    | .dram => s1.freeze 3
    | _ => s1.diagFail 3 domain.code)

/-- FRAME_STROBE_FAULT (R325): a strobe interval in ns, or none for a strobe that is missing 2 µs after its instant. -/
def execFrameStrobeFault (p : Pulse) (interval : Option Nat) (s : State) : Host.Outcome State Fault Refusal :=
  let s0 := s.atP p.val
  let bad := match interval with
    | none => 3
    | some n => if ((n : Int) - 1000000).natAbs ≤ 500 then 0 else s0.prot.strobeBad + 1
  let s1 := { s0 with prot.strobeBad := bad }
  ok (if 3 ≤ bad then { s1 with prot.ownCount := true }.sf12 10 (interval.getD 0) true else s1)

/-- SAFE_OUT_READBACK (Table 11-6 diagnostic 8): the contacts as read back, true for open. -/
def execSafeOutReadback (p : Pulse) (a b : Bool) (s : State) : Host.Outcome State Fault Refusal :=
  let s0 := s.atP p.val
  let ra := if a = s0.prot.safeA then 0 else s0.prot.readbackA + 1
  let rb := if b = s0.prot.safeB then 0 else s0.prot.readbackB + 1
  let s1 := { s0 with prot.readbackA := ra, prot.readbackB := rb }
  ok (if ra = 3 ∨ rb = 3 then s1.sf12 8 (packBits [a, b]) false else if ra = 0 ∧ rb = 0 then s1.diagPass 8 else s1)

/-- LIMIT_CHECKER_SELFTEST (Table 11-6 diagnostic 11). -/
def execLimitCheckerSelftest (p : Pulse) (v : Verdict) (s : State) : Host.Outcome State Fault Refusal :=
  let s0 := s.atP p.val
  ok (if v = .fail then s0.sf12 11 0 false else s0.diagPass 11)

/-- FRAME_TOKEN_MISSING (Table 11-6 diagnostic 12): a frame without the runtime's token; the tenth in a row freezes. -/
def execFrameTokenMissing (p : Pulse) (s : State) : Host.Outcome State Fault Refusal :=
  let s0 := s.atP p.val
  let n := s0.prot.tokenMiss + 1
  let s1 := { s0 with prot.tokenMiss := n }
  ok (if 10 ≤ n then { s1 with prot.tokenMiss := 0 }.freeze 12 else s1)

/-- IMAGE_CRC_CHECK (Table 11-6 diagnostic 13). -/
def execImageCrcCheck (p : Pulse) (v : Verdict) (s : State) : Host.Outcome State Fault Refusal :=
  let s0 := s.atP p.val
  ok (if v = .fail then s0.sf12 13 0 true else s0.diagPass 13)

/-- FREEZE_TRIGGER (R327) by a diagnostic whose reaction is a freeze (Table 11-6). Cores held in reset by Fill cannot
freeze. -/
def execFreezeTrigger (p : Pulse) (diag : Fin 17) (s : State) : Host.Outcome State Fault Refusal :=
  let s0 := s.atP p.val
  ok (if s0.mode.mode = .fill ∨ diag.val + 1 ∉ [2, 3, 12] then s0 else s0.freeze (diag.val + 1))

/-- FREEZE_MAX_EXPIRY (R327): Survey not complete within `PROT_FREEZE_MAX` of the trigger. -/
def execFreezeMaxExpiry (p : Pulse) (s : State) : Host.Outcome State Fault Refusal :=
  let s0 := s.atP p.val
  ok (if s0.prot.frozen ∧ s0.prot.freezeAt + 1000 * s0.prot.cfg.freezeMax ≤ s0.now then
      (s0.ev 0x0B05 ([3] ++ le 1 s0.prot.freezeBy ++ le 1 s0.prot.freezes.length)).sf12 17 0 false
    else s0)

/-! ### Alarms -/

/-- A Herd level of Suspect stands on a cell of the string (R312 with Table 9-4). -/
def State.herdStands (s : State) (k : Nat) : Bool :=
  s.herdTab.any (fun e => decide (e.1 / 512 = k) && e.2.lvl.any (fun l => decide (l = .suspect)))

/-- Acknowledge the unacknowledged alarms of a string that a function mask names, and clear those whose condition no
longer stands (R312). -/
def State.ackString (s : State) (fm : Mask) (k : Nat) : State :=
  (upFrom 0 16).foldl (fun u b =>
    if has fm b && has (u.pst k).unack b then
      let s1 := (u.ev 0x0B03 (le 1 (if b = 15 then 0x80 else b + 1) ++ le 1 k ++ [2])).modPst k
        (fun x => { x with unack := withoutBit x.unack b })
      s1.clearAlarm k b (if b = 15 then s1.herdStands k else s1.stands k (b + 1))
    else u) s

/-- PROT_ALARM_ACK (R312): done, even when it matched none. -/
def execProtAlarmAck (id : Word) (s : State) : Host.Outcome State Fault Refusal :=
  ok (s.evaluate id 0x0B01 1 (fun _ e => { format := decide (e.body.length = 4) }) noStr
    (fun s' e =>
      let fm : Mask := BitVec.ofNat 16 (rdU e.body 0 2)
      let sm : Mask := BitVec.ofNat 16 (rdU e.body 2 2)
      (((namedIn sm).filter s'.installed).foldl (fun u k => u.ackString fm k) s').cmdDone e.id))

end Sys2Proof.Machine
end

