-- ==== Sys2Proof/Machine/LinkOps.lean ====
section
/-! DEFINITION. The cell link (chapter 04) as its shared operations: link context states, secondary transactions and
the use of an upload's payload. -/

namespace Sys2Proof.Machine

/-! ### Frames on the line (R90 to R93) -/

/-- The 12 header bytes (Tables 4-2 and 4-3). -/
def LinkHead.bytes (h : LinkHead) : Bytes :=
  le 1 h.type ++ le 1 (64 * (h.role % 4) + 32 * h.slot.code + 16 * b2n h.up + 8 * b2n h.rpt) ++ le 6 h.frame ++
    le 2 h.seq ++ le 2 h.len

/-- The CRC of a frame: over header and payload (R90). -/
def LinkHead.crcOf (h : LinkHead) (payload : Bytes) : Word := crc32c (h.bytes ++ payload)

/-- A header completed for its payload: `LEN` and CRC. -/
def LinkHead.seal (h : LinkHead) (payload : Bytes) : LinkHead :=
  let g := { h with len := payload.length }
  { g with crc := g.crcOf payload }

/-- The frame passes R91: no Manchester violation, complete, and its CRC holds. -/
def LinkHead.intact (h : LinkHead) (payload : Bytes) : Bool :=
  !h.broken && decide (h.len = payload.length) && decide (h.crc = h.crcOf payload)

/-- Direction (true: up) and the payload bytes from least to most of a frame type (Table 4-4); none is reserved. -/
def linkType : Nat → Option (Bool × Nat × Nat)
  | 0x01 => some (false, 4, 4)
  | 0x02 => some (false, 12, 52)
  | 0x03 => some (false, 0, 0)
  | 0x10 => some (true, 10, 237)
  | 0x20 => some (false, 4, 4)
  | 0x21 => some (false, 8, 132)
  | 0x22 => some (true, 6, 134)
  | 0x30 => some (false, 260, 260)
  | 0x31 => some (true, 4, 4)
  | 0x40 => some (false, 0, 0)
  | 0x41 => some (true, 0, 0)
  | _ => none

/-- The frame passes R93 at a receiver of the given direction: a `TYPE` that is not reserved, `DIR`, and `LEN`. -/
def LinkHead.formOk (h : LinkHead) (up : Bool) : Bool :=
  match linkType h.type with
  | none => false
  | some (dir, lo, hi) => (dir == up) && (h.up == up) && decide (lo ≤ h.len) && decide (h.len ≤ hi)

/-- Register values on the line, least significant byte first (R90). -/
def wordsBytes (d : List Word) : Bytes := d.flatMap (fun w => le 4 w.toNat)

/-- The payload of `SAMPLE` (Table 4-5). -/
def sampleBytes (delay : Nat) (conv : Bool) : Bytes := le 2 delay ++ [BitVec.ofNat 8 (b2n conv), 0]

/-- The payload of `CONTROL` (Table 4-6). -/
def controlBytes (mask : BitVec 64) (pat : Nat) (sleep : Bool) (writes : List (Nat × Word)) : Bytes :=
  le 8 mask.toNat ++ le 2 (16384 * pat) ++ [BitVec.ofNat 8 (b2n sleep), BitVec.ofNat 8 writes.length] ++
    writes.flatMap (fun w => le 2 w.1 ++ le 4 w.2.toNat ++ [0, 0])

/-- The payload of `REG_READ`, and the head of that of `REG_WRITE` (Table 4-10). -/
def regBytes (addr count : Nat) : Bytes := le 2 addr ++ le 1 count ++ [0]

/-- The payload of `REG_WRITE` (Table 4-10). -/
def regWriteBytes (addr : Nat) (d : List Word) : Bytes := regBytes addr d.length ++ wordsBytes d

/-- The payload of `REG_DATA` (Table 4-10). -/
def regDataBytes (rstat addr count : Nat) (d : List Word) : Bytes :=
  le 2 rstat ++ le 2 addr ++ le 1 count ++ [0] ++ wordsBytes d

/-- The payload of `FW_BLOCK` (Table 4-10). -/
def fwBlockBytes (bank blockNo : Nat) (d : Bytes) : Bytes := le 1 bank ++ [0] ++ le 2 blockNo ++ padTo 256 d

/-- The payload of `FW_ACK` (Table 4-10). -/
def fwAckBytes (rstat blockNo : Nat) : Bytes := le 2 rstat ++ le 2 blockNo

/-- The upload carries conversions. -/
def UpData.converted (d : UpData) : Bool := has d.ust 15

/-- The upload was sampled under an open-wire pattern. -/
def UpData.test (d : UpData) : Bool := has d.ust 10

/-- The bytes of an upload's payload (Table 4-7). -/
def UpData.bytes (d : UpData) : Bytes :=
  le 2 d.ust.toNat ++ le 8 d.applied.toNat ++
    (if d.converted then
      le 3 d.block ++ (upFrom 0 16).flatMap (fun t => leI 2 (nthI d.temp t)) ++
        (upFrom 0 64).flatMap (fun c => leI 3 (nthI d.cell c))
     else [])

/-- The payload as a receiver takes it: the reserved bits of `UST` are ignored (R7, Table 4-8). -/
def UpData.heeded (d : UpData) : UpData := { d with ust := d.ust &&& 0xFF80 }

/-- `ROLE` on the cell link (R92): in frame H of a planned hand-over it has moved from the start of the frame (R403). -/
def State.linkRole (s : State) : RoleCode :=
  match s.pair.handover with
  | some (h, _, _) =>
    if h = s.now ∧ s.pair.since ≠ s.now ∧ !s.strings.any (fun k => decide ((s.str k).state = .connecting)) then
      match s.pair.state with
      | some .standby => if s.psv.dropped then .none else .active
      | some .active => if s.psv.dropped then .none else .standby
      | _ => s.roleCode
    else s.roleCode
  | none => s.roleCode

/-- The header of a downlink frame of a port with a sequence, sealed (R92, R94). -/
def State.downHead (s : State) (role : RoleCode) (type seq : Nat) (payload : Bytes) : LinkHead :=
  { type := type, role := role.code, slot := s.sys.slot, frame := s.now, seq := seq : LinkHead }.seal payload

/-! ### Link context states -/

/-- `LINK_STATE` (Table 4-12). -/
def LinkState.code : LinkState → Nat
  | .off => 0
  | .wake => 1
  | .align => 2
  | .run => 3
  | .lost => 4
  | .sleep => 5

/-- Change the state of a link context with `LINK_STATE_CHANGE` (R112); a change to the same state is none. The missed
count it carries is the run of consecutive missed frames (log 172). -/
def State.setLink (s : State) (p : Nat) (new : LinkState) (cause : Nat) : State :=
  let l := s.lnk p
  if l.state = new then s
  else (s.ev 0x0401 (le 1 p ++ le 1 l.state.code ++ le 1 new.code ++ le 1 cause ++ le 4 l.missRun)).modLnk p
    (fun x => { x with state := new })

/-- Send the wake pattern on a port in the present frame (R107): the next `SAMPLE` goes out two frames later. The link
state at the wake is kept for `CFE_ALARM` (R152). -/
def State.sendWake (s : State) (p : Nat) : State :=
  s.modLnk p (fun l => { l with wakeFrame := some s.time.ticks, tone := false, alarmState := l.state.code })

/-- Take a port that is in a given state, OFF or SLEEP, to WAKE with a wake pattern (Table 4-13). -/
def State.wakePort (s : State) (p : Nat) (from_ : LinkState) : State :=
  if (s.lnk p).state = from_ then
    ((s.sendWake p).setLink p .wake 5).modLnk p (fun l => { l with missRun := 0, targets := 0, queued := [] })
  else s

/-- A pair link message is sent (R381): while a lane is up. -/
def State.pairSend (s : State) (m : PairMsg) : State :=
  if s.pair.lane0 || s.pair.lane1 then { s with pair.sent := m :: s.pair.sent } else s

/-! ### Secondary transactions (R105, R106) -/

/-- Bits of the request and of its reply (Table 4-4). -/
def SecReq.bits : SecReq → Nat
  | .regRead _ n => 188 + (204 + 32 * n)
  | .regWrite _ d => (188 + 32 * d.length) + 204
  | .fwBlock _ _ _ => 2236 + 188
  | .echo => 156 + 156

/-- The latency in ns a port uses, 200 before the first measurement (R103). -/
def LinkSt.lat (l : LinkSt) : Nat := l.latency.getD 200

/-- `DELAY` of the next `SAMPLE` (R103). -/
def LinkSt.delayOf (l : LinkSt) : Nat := (divRound (800 - (l.lat : Int)) 10).toNat

/-- Time a transaction occupies the port, ns (R105). -/
def LinkSt.secTime (l : LinkSt) (r : SecReq) : Nat := 50 * r.bits + 2 * l.lat + 5000

/-- A request the module may send in a link state: state-changing ones only while it leads (R106), in WAKE and ALIGN
only `ECHO` (Table 4-12), and a retry only in a later frame (R105). -/
def State.secMay (s : State) (l : LinkSt) (t : SecTx) : Bool :=
  (match t.req with
    | .echo => decide (l.state ∈ [LinkState.align, .run])
    | .regRead _ _ => decide (l.state = .run)
    | .regWrite _ _ => decide (l.state = .run) && s.leads
    | .fwBlock _ _ _ => decide (l.state = .run) && s.leads) && decide (t.sentIn ≠ some s.time.ticks)

/-- Take the first element that meets a test out of a list. -/
def takeFirst {α : Type} (f : α → Bool) : List α → Option (α × List α)
  | [] => none
  | a :: t => if f a then some (a, t) else (takeFirst f t).map (fun r => (r.1, a :: r.2))

/-- Start the next transaction of a port if none is outstanding and it ends by pulse 880 (R105). -/
def State.secStart (s : State) (p : Nat) : State :=
  let l := s.lnk p
  if l.sec.isSome then s
  else
    match takeFirst (s.secMay l) l.secQueue with
    | none => s
    | some (t, rest) =>
      if s.time.pulse * 1000 + l.secTime t.req ≤ 880000 then
        let q := (l.seq + 1) % 65536
        s.modLnk p (fun x =>
          { x with
            seq := q, secQueue := rest,
            sec := some { t with seq := some q, tries := t.tries + 1, sentIn := some s.time.ticks } })
      else s

/-- The deferred policy writes of a module that becomes LONE or ACTIVE (R150). -/
def State.policyDeferred (s : State) : State :=
  s.fittedPorts.foldl (fun u p =>
    match (u.str (strOfPort p)).survey with
    | some v => if v.step2Done.getLsbD (p % 8) && !(tget u.cfe p).policyDone then u.policyWrite p else u
    | none => u) s

/-- The reads of a refresh (R151). -/
def refreshReads : List SecTx :=
  [{ req := .regRead 0x0010 3, by_ := .refresh }, { req := .regRead 0x0201 1, by_ := .refresh }]

/-! ### The payload of an upload (R97, R99) -/

/-- A coded thermistor value that is no temperature: open, shorted, not fitted (R97, R167). -/
def thBad (v : Int) : Bool := decide (v = 0x7FFF) || decide (v = -0x8000) || decide (v = 0x7FFE)

/-- Set or clear bits of a flags byte. -/
def flagIf (b : Byte) (i : Nat) (c : Bool) : Byte :=
  if c then b ||| ((1 : Byte) <<< i) else b &&& ~~~((1 : Byte) <<< i)

/-- The Cell Table as it stands when nothing has been measured: every channel without a cell is marked ABSENT (R24). -/
def State.absentCells (s : State) : Tab CellEntry :=
  ((upFrom 0 8192).filter (fun g => decide (s.cellsOn (g / 64) ≤ g % 64))).map (fun g => (g, { flags := 0x01 }))

/-- The cell link controller writes a valid upload's conversions to table memory (R18, R97, R153, R384): cell values with
their flags, the block voltage in mV, thermistor readings with the runs of R167. -/
def State.tableWrite (s : State) (p : Nat) (d : UpData) : State :=
  if !d.converted then s
  else
    let cells := upFrom (cellIx p 0) (s.cellsOn p)
    let ths := ((upFrom 0 16).filter (has (s.thOn p))).map (thIx p)
    { s with
      cells := tmodAll s.cells cells (fun g x =>
        let v := nthI d.cell (g - cellIx p 0)
        { x with
          v := v,
          flags := flagIf (flagIf (flagIf x.flags 5 false) 4 (decide (v = 0x7FFFFF))) 2 d.test }),
      th := tmodAll s.th ths (fun i x =>
        let r := nthI d.temp (i - thIx p 0)
        { x with
          reading := r, good := !thBad r,
          badRun := if thBad r then x.badRun + 1 else 0 }),
      meas.fe := tmod s.meas.fe p (fun m => { m with block := divRound d.block 10 }) }

/-- The port's string takes part in estimation: its context is RUN, or LOST with a valid upload (Table 4-12). -/
def LinkSt.usable (l : LinkSt) : Bool := decide (l.state = .run) || decide (l.state = .lost)

/-- A payload reaches table memory, and where the port's uploads are used it is the one the runtime uses in the frame
(Table 4-12, R384). -/
def State.tableTake (s : State) (p : Nat) (d : UpData) : State :=
  let s1 := s.tableWrite p d
  if (s.lnk p).usable then s1.modLnk p (fun l => { l with used := some d }) else s1

/-- The front end's own charge of balancing in the frame: 880 µs at the cell's voltage over `MEAS_BAL_R` (R159), as
whole mA·s with the remainder in mA·µs. A front end in role conflict balances nothing (R110). -/
def State.balCount (s : State) (p : Nat) : State :=
  let l := s.lnk p
  match l.used with
  | none => s
  | some d =>
    if l.roleConflict then s
    else
      let cs := (upFrom 0 (s.cellsOn p)).filter (fun c => d.applied.getLsbD c)
      let add (c : Nat) : Nat := 88 * (tget s.cells (cellIx p c)).v.toNat / (10 * s.meas.cfg.balR)
      let sum (c : Nat) : Nat := (tget s.aux (cellIx p c)).balRem + add c
      { s with
        cells := cs.foldl (fun t c => tmod t (cellIx p c) (fun x =>
          { x with balQ := (x.balQ + sum c / 1000000) % 4294967296 })) s.cells,
        aux := cs.foldl (fun t c => tmod t (cellIx p c) (fun x => { x with balRem := sum c % 1000000 })) s.aux }

/-- Markhor takes a converted payload into its own copies (R18, R154, R303): a value under test leaves them. -/
def State.markhorTake (s : State) (p : Nat) (d : UpData) : State :=
  let cells := upFrom (cellIx p 0) (s.cellsOn p)
  let ths := ((upFrom 0 16).filter (has (s.thOn p))).map (thIx p)
  let s1 : State :=
    { s with
      mkCell := if d.test then s.mkCell else tmodAll s.mkCell cells (fun g x =>
        let v := nthI d.cell (g - cellIx p 0)
        { x with v := v, seen := true, sat := decide (v = 0x7FFFFF) }),
      mkTh := tmodAll s.mkTh ths (fun i x =>
        let r := nthI d.temp (i - thIx p 0)
        { x with
          reading := if thBad r then x.reading else r, seen := x.seen || !thBad r, badRun := if thBad r then x.badRun + 1 else 0,
          lastBad := if thBad r then s.now else x.lastBad }) }
  ths.foldl (fun u i => u.mkThTake i) s1

/-- The block voltage in µV against the sum of the port's cells (R171): the difference, and whether it passes. -/
def blockDiff (d : UpData) (n : Nat) : Int := 100 * (d.block : Int) - sumL ((upFrom 0 n).map (nthI d.cell))

/-- The block comparison passes: 0.05 % of the block voltage, 20 mV and 1 mV per cell. -/
def blockOk (d : UpData) (n : Nat) : Bool :=
  decide (2000 * (blockDiff d n).natAbs ≤ 100 * d.block + 2000 * (20000 + 1000 * n))

/-- BLOCK_COMPARE of a port (R171, R172). -/
def State.blockCompare (s : State) (p : Nat) (d : UpData) : State :=
  let n := s.cellsOn p
  let pass := blockOk d n
  { s with meas.fe := tmod s.meas.fe p (fun m =>
      { m with
        blkResidual := divRound (blockDiff d n) 1000,
        blkFail := if pass then 0 else m.blkFail + 1,
        blkPass := if pass then m.blkPass + 1 else 0,
        sf06Invalid := m.sf06Invalid && !pass }) }

/-! ### Declared wire faults (R164, R165) -/

/-- Set `WIRE` on the cells of a port that its declared faults affect (R164). -/
def State.wireFlags (s : State) (p : Nat) : State :=
  let m := tget s.meas.fe p
  let n := s.cellsOn p
  let all := m.unlocated || (tget s.meas.str (strOfPort p)).sumFault
  { s with cells := tmodAll s.cells (upFrom (cellIx p 0) n) (fun g x =>
      let c := g - cellIx p 0
      { x with flags := flagIf x.flags 3 (all || m.wires.getLsbD c || m.wires.getLsbD (c + 1)) }) }

/-- Take the opening of a declared wire fault now (R165, R307): the trip stage of SF-07. -/
def State.wireOpen (s : State) (k : Nat) : State :=
  { s with meas.str := tmod s.meas.str k (fun m => { m with wireDeadline := none }) }.tripStart k 7 k 0

/-- Take the opening of R170 now: the trip stage of SF-03. -/
def State.thOpen (s : State) (k : Nat) : State :=
  { s with meas.str := tmod s.meas.str k (fun m => { m with thDeadline := none }) }.tripStart k 3 0xFFFF 0

/-- A wire fault is declared on a string (R165, R166): the SF-07 hold, the pending opening with its deadline; an OPEN
string, and one whose survey found the fault, opens at once. -/
def State.wireDeclared (s : State) (k value : Nat) (atOnce : Bool) : State :=
  let s1 := s.warnStart k 7 k value
  if atOnce ∨ (s1.str k).state = .opened then s1.wireOpen k
  else if (tget s1.meas.str k).wireDeadline.isSome ∨ has (s1.pst k).latched 6 then s1
  else
    let d := s1.now + 1000 * s1.meas.cfg.owDeadline
    { s1.ev 0x0606 (le 1 k ++ [1] ++ le 6 d) with
      meas.str := tmod s1.meas.str k (fun m => { m with wireDeadline := some d }) }

/-- A string survey without a response clears the string's declared wire faults (R164). -/
def State.wiresClear (s : State) (k : Nat) : State :=
  let s1 : State := { s with
    meas.fe := tmodAll s.meas.fe (portsOf k) (fun _ m => { m with wires := 0, unlocated := false }),
    meas.str := tmod s.meas.str k (fun m =>
      { m with sumFault := false, sumFail := 0, first := none, wireDeadline := none }) }
  ((portsOf k).foldl (fun u p => u.wireFlags p) s1).warnEnd k 7

/-- The upload's part in a running open-wire test (R160 to R162). -/
def State.testTake (s : State) (p : Nat) (d : UpData) : State :=
  match (tget s.meas.fe p).test with
  | none => s
  | some t =>
    let i := s.now - t.start
    if s.now < t.start ∨ 3 ≤ i then s
    else
      let vs : Tab Int := (upFrom 0 (s.cellsOn p)).foldl (fun u c => tput u c (nthI d.cell c)) []
      let bit : BitVec 3 := (1 : BitVec 3) <<< i
      let t1 : OwTest :=
        { t with
          got := if d.converted then t.got ||| bit else t.got,
          active := if d.test then t.active ||| bit else t.active,
          cur := tput t.cur i (s.pp (strOfPort p)).icur.at10,
          blocks := tput t.blocks i d.block,
          base := if i = 0 then vs else t.base,
          resp1 := if i = 1 then vs else t.resp1,
          resp2 := if i = 2 then vs else t.resp2 }
      { s with meas.fe := tmod s.meas.fe p (fun m => { m with test := some t1 }) }

end Sys2Proof.Machine
end

