-- ==== Sys2Proof/Machine/Memory.lean ====
section
/-! DEFINITION. Memory integrity, the wear record and the last-gasp record (chapter 19). -/

namespace Sys2Proof.Machine

/-! ### Errors and remapping (R541 to R544) -/

/-- The counters of a region. -/
def State.memReg (s : State) : MemRegion → MemReg
  | .table => s.mem.table
  | .dram => s.mem.dram
  | .markhor => s.mem.markhor

/-- Change the counters of a region. -/
def State.modMem (s : State) (r : MemRegion) (f : MemReg → MemReg) : State :=
  match r with
  | .table => { s with mem.table := f s.mem.table }
  | .dram => { s with mem.dram := f s.mem.dram }
  | .markhor => { s with mem.markhor := f s.mem.markhor }

/-- The entry names a block. -/
def ErrEntry.names (e : ErrEntry) (r : MemRegion) (addr : Nat) : Bool :=
  decide (e.region = r) && decide (e.addr = addr)

/-- The frame of the oldest last error among entries of count 1. -/
def oldestSingle (es : List ErrEntry) : Option Nat :=
  (es.filter (fun e => decide (e.count = 1))).foldl (fun (m : Option Nat) e =>
    match m with
    | none => some e.last
    | some f => some (if e.last < f then e.last else f)) none

/-- Replace the first entry of count 1 with a given last frame. -/
def replaceSingle (f : Nat) (n : ErrEntry) : List ErrEntry → List ErrEntry
  | [] => []
  | e :: t => if e.count = 1 ∧ e.last = f then n :: t else e :: replaceSingle f n t

/-- Log a correctable or page-corrected error of a block (R543). -/
def MemSt.logErr (m : MemSt) (now : Nat) (r : MemRegion) (addr : Nat) : MemSt :=
  let fresh : ErrEntry := { region := r, addr := addr, count := 1, first := now, last := now }
  if m.errs.any (fun e => e.names r addr) then
    { m with errs := m.errs.map (fun e =>
        if e.names r addr then { e with count := satN 65535 (e.count + 1), last := now } else e) }
  else if m.errs.length < 32 then { m with errs := m.errs ++ [fresh] }
  else
    match oldestSingle m.errs with
    | some f => { m with errs := replaceSingle f fresh m.errs }
    | none => { m with ovf := sat32u (m.ovf + 1) }

/-- The block has a remap entry. -/
def MemSt.isRemapped (m : MemSt) (r : MemRegion) (addr : Nat) : Bool :=
  match r with
  | .markhor => decide (addr ∈ m.remapMk)
  | _ => decide ((r, addr) ∈ m.remap)

/-- Make a block a hard fault and remap it where an entry is free (R544); one already logged as a hard fault stays as it
is. -/
def State.hardFault (s : State) (r : MemRegion) (addr : Nat) : State :=
  if s.mem.isRemapped r addr || s.mem.errs.any (fun e => e.names r addr && e.hard) then s
  else
    let mk := decide (r = .markhor)
    let used := if mk then s.mem.remapMk.length else s.mem.remap.length
    let free := decide (used < if mk then 4 else 16)
    let mark (es : List ErrEntry) : List ErrEntry := es.map (fun e =>
      if e.names r addr then { e with hard := true, remapped := free } else e)
    let s1 := s.ev 0x1403 (le 1 r.code ++ le 1 (if free then 1 else 2) ++ le 8 (64 * addr) ++ le 1 (used + b2n free))
    let s2 := { s1 with mem.errs := mark s1.mem.errs, mem.dirty := some (s1.mem.dirty.getD s.now) }
    if !free then { s2 with mem.notRemapped := true }
    else if mk then { s2 with mem.remapMk := s2.mem.remapMk ++ [addr], prot.islandDegraded := true }
    else { s2 with mem.remap := s2.mem.remap ++ [(r, addr)] }

/-- A corrected error (R541, R543, R565). -/
def State.corrected (s : State) (r : MemRegion) (page : Bool) (addr : Nat) : State :=
  let q := s.memReg r
  let n := if page then q.secPage else q.secWord
  let s1 := s.evIf (decide (n = 0)) 0x1401 (le 1 r.code ++ le 1 (if page then 2 else 1) ++ le 4 (n + 1))
  let s2 := s1.modMem r (fun x =>
    if page then { x with page := sat32u (x.page + 1), secPage := x.secPage + 1 }
    else { x with corr := sat32u (x.corr + 1), secWord := x.secWord + 1 })
  let s3 := { s2 with mem := { s2.mem.logErr s.now r addr with dirty := some (s2.mem.dirty.getD s.now) } }
  if s3.mem.errs.any (fun e => e.names r addr && decide (3 ≤ e.count)) then s3.hardFault r addr else s3

/-- The block of the Herd level record that holds a cell fails its CRC (R254). -/
def State.herdBlockBad (s : State) (g : Nat) : Bool := s.jnl.herdBad.getLsbD (g / 256)

/-- The Cell Table entry of a cell is lost (Table 19-1): zero, `STALE` and `THM_STALE`, cold at its next usable sample;
its Herd entry is cleared but for the levels and act age of the Herd level record. An absent channel's is ABSENT again (R24). -/
def State.cellLost (s : State) (g : Nat) : State :=
  let h := if s.herdBlockBad g then {} else tget s.jnl.herd g
  let present := decide (g % 64 < s.cellsOn (g / 64))
  { s with
    cells := tput s.cells g (if present then { eflags := 0x80, tflags := 0x04 } else { flags := 0x01 }),
    aux := tput s.aux g {},
    herdTab := tput s.herdTab g (if present then { lvl := h.lvl, act := h.act, actAge := h.actAge } else {}) }

/-- The row of Table 19-1 by what the error struck. -/
def MemHit.row : MemHit → Nat
  | .plain => 8
  | .cell _ => 4
  | .thermistor _ => 4
  | .page _ => 7
  | .history => 2
  | .capture _ => 2
  | .loop _ => 5

/-- The outcome of Table 19-1. -/
def State.memOutcome (s : State) : MemHit → State
  | .plain => s
  | .cell g => s.cellLost g.val
  | .thermistor i => { s with th := tput s.th i.val {} }
  | .page n => s.poisonPage n.val
  | .history => { s with site.history := s.site.history.drop 1 }.winLoss 4 4
  | .capture k =>
    if s.site.captures.any (fun c => decide (c.s = k.val)) then
      { s with site.captures := s.site.captures.filter (fun c => decide (c.s ≠ k.val)) }.winLoss 1 2
    else s
  | .loop l =>
    if l.val < 16 then
      { s.modPp l.val (fun p => { p with loop := { p.loop with implausible := true } }) with free := s.free }.sf10 l.val 0
    else { s with power.therm := tmod s.power.therm l.val (fun t => { t with failed := t.on }) }

/-- An uncorrectable error of table memory or DRAM, met in an access of a row of Table 19-1 whose outcome is given (R541,
R542, R544). -/
def State.uncorrectable (s : State) (r : MemRegion) (addr row : Nat) (outcome : State → State) : State :=
  let s1 := (s.ev 0x1402 (le 1 r.code ++ le 1 row ++ le 8 (64 * addr))).modMem r (fun x =>
    { x with uncorr := sat32u (x.uncorr + 1), lastUncorr := some s.now })
  let s2 := (outcome s1).hardFault r addr
  if s2.mem.isRemapped r addr then s2 else s2.modMem r (fun x => { x with unmapped := true })

/-- One word met by a pass. -/
def State.memError (s : State) (r : MemRegion) (e : MemErr) : State :=
  match e.kind r with
  | none => s
  | some .word => s.corrected r false e.block
  | some .page => s.corrected r true e.block
  | some .uncorrectable => s.uncorrectable r e.block e.hit.row (fun u => u.memOutcome e.hit)

/-- What an upload that is lost to table memory leaves: the word of the entry it struck reads zero (R542; log 190). -/
def State.uploadLost (s : State) : MemHit → State
  | .cell g => { s with cells := tmod s.cells g.val (fun x => { x with v := 0, i := 0 }) }
  | _ => s

/-- The old words of a write of less than a whole word (R540): each is treated as a load of it is, by row 6 of Table 19-1. -/
def State.oldWords (s : State) (es : List MemErr) : State :=
  es.foldl (fun u e =>
    match e.kind .table with
    | none => u
    | some .word => u.corrected .table false e.block
    | some .page => u.corrected .table true e.block
    | some .uncorrectable => u.uncorrectable .table e.block 6 (fun v => v.uploadLost e.hit)) s

/-- A write of less than a whole word fails where an old word is uncorrectable (R540). -/
def writeFails (es : List MemErr) : Bool := es.any (fun e => decide (e.kind .table = some .uncorrectable))

/-! ### Scrub (R546, R547) -/

/-- The interval of a region's pass, frames. -/
def State.scrubInterval (s : State) (r : MemRegion) : Nat :=
  match r with
  | .dram => 3600000 * s.mem.scrubDram
  | _ => 60000 * s.mem.scrubSram

/-- SCRUB_BURST (R546): an admitted burst of table memory or DRAM reads on to a position of the pass, 1,000 at its
end, and treats the errors it met. -/
def execScrubBurst (dram : Bool) (pos : Fin 1001) (errs : List MemErr) (s : State) :
    Host.Outcome State Fault Refusal :=
  let r : MemRegion := if dram then .dram else .table
  if s.grz.admitted && decide (s.now % (if dram then 1000 else 100) = 0) then
    let s1 := errs.foldl (fun u e => u.memError r e) s
    if pos.val = 1000 then
      let q := s1.memReg r
      let inTime := decide (s.now ≤ q.passFrom + s.scrubInterval r)
      let s2 := s1.evIf (q.late && inTime) 0x1404 (le 1 r.code ++ [0x80])
      ok (s2.modMem r (fun x =>
        { x with pos := 0, passFrom := s.now, done := s.now, late := x.late && !inTime }))
    else ok (s1.modMem r (fun x => { x with pos := pos.val }))
  else ok s

/-- MARKHOR_SCRUB (R546): Markhor's engine; an uncorrectable error is SF-12 (Table 11-6 diagnostic 4). -/
def execMarkhorScrub (p : Pulse) (errs : List MemErr) (s : State) : Host.Outcome State Fault Refusal :=
  ok (errs.foldl (fun u e =>
    match e.kind .markhor with
    | none => u
    | some .uncorrectable =>
      let s1 := (u.ev 0x1402 ([2, 9] ++ le 8 (64 * e.block))).modMem .markhor (fun x =>
        { x with uncorr := sat32u (x.uncorr + 1), lastUncorr := some u.now })
      (s1.hardFault .markhor e.block).sf12 4 e.block true
    | some _ => { u with prot.corrected := u.prot.corrected + 1 }.corrected .markhor false e.block) (s.atP p.val))

/-- MEM_SCRUB (R547): a pass not ended after twice its interval is late. -/
def execMemScrub (p : Pulse) (dram : Bool) (s : State) : Host.Outcome State Fault Refusal :=
  let r : MemRegion := if dram then .dram else .table
  let s0 := s.atP p.val
  let q := s0.memReg r
  ok (if !q.late ∧ q.passFrom + 2 * s0.scrubInterval r ≤ s0.now then
      (s0.ev 0x1404 (le 1 r.code ++ [1])).modMem r (fun x => { x with late := true })
    else s0)

/-- HEALTH_RECORD_WRITE (R545): the tables go to the memory health record. -/
def execHealthRecordWrite (p : Pulse) (s : State) : Host.Outcome State Fault Refusal :=
  let s0 := s.atP p.val
  ok (if s0.mem.dirty.isSome then
      { s0 with
        mem.dirty := none, mem.healthGen := s0.mem.healthGen + 1,
        mem.health := (s0.mem.remap, s0.mem.remapMk, s0.mem.errs) }
    else s0)

/-! ### The wear record (R554 to R558) -/

/-- N_eq of a string in centicycles (R188). -/
def State.neq (s : State) (k : Nat) : Nat :=
  let e := tget s.est.str k
  (e.thruC + e.thruD) * 100 / (2 * s.qDesign)

/-- The bytes of a wear record (Table 19-5). -/
def WearRec.bytes (w : WearRec) : Bytes :=
  let head := le 4 0x5745A201 ++ le 2 1 ++ le 2 4096 ++ le 4 w.seq ++ le 6 w.frame ++ le 1 w.slot.code ++
    le 1 w.container ++ le 4 w.plant.toNat ++ le 2 w.strings.toNat ++ le 38 0
  let strs := allStr.flatMap (fun k =>
    let x := tget w.str k
    le 8 x.chg ++ le 8 x.dis ++ le 4 x.neq ++ le 1 (b2n x.service) ++ le 1 x.first ++ le 2 x.latch.toNat ++ le 8 0)
  let ports := allPorts.flatMap (fun p =>
    let x := tget w.port p
    padTo 16 x.serial ++ le 4 x.calCrc.toNat)
  let body := head ++ strs ++ ports ++ List.replicate 956 0
  body ++ le 4 (crc32c body).toNat

/-- Read a wear record from 4,096 bytes; none where a check of R554 on the bytes fails. -/
def wearOfBytes (b : Bytes) : Option WearRec :=
  if rdU b 0 4 = 0x5745A201 ∧ rdU b 6 2 = 4096 ∧ b.length = 4096 ∧ rdU b 4092 4 = (crc32c (b.take 4092)).toNat then
    some {
      seq := rdU b 8 4, frame := rdU b 12 6, slot := if rdU b 18 1 = 1 then .b else .a, container := rdU b 19 1,
      plant := BitVec.ofNat 32 (rdU b 20 4), strings := BitVec.ofNat 16 (rdU b 24 2),
      str := tmodAll [] allStr (fun k x =>
        let o := 64 + 32 * k
        { x with
          chg := rdU b o 8, dis := rdU b (o + 8) 8, neq := rdU b (o + 16) 4,
          service := decide (rdU b (o + 20) 1 = 1), first := rdU b (o + 21) 1,
          latch := BitVec.ofNat 16 (rdU b (o + 22) 2) }),
      port := tmodAll [] allPorts (fun p x =>
        let o := 576 + 20 * p
        let ser := slice b o 16
        { x with
          serial := if ser.all (fun c => decide (c = 0)) then [] else ser,
          calCrc := BitVec.ofNat 32 (rdU b (o + 16) 4) }) }
  else none

/-- A record belongs to this container and plant (R554). -/
def State.wearValid (s : State) (w : WearRec) : Bool :=
  decide (w.container = s.sys.container) && decide (w.plant = s.sys.plantId)

/-- The wear record of the present values (R555). -/
def State.wearNow (s : State) (seq : Nat) : WearRec :=
  { seq := seq, frame := s.now, slot := s.sys.slot, container := s.sys.container, plant := s.sys.plantId,
    strings := s.sys.stringMask,
    str := tmodAll [] s.strings (fun k x =>
      { x with
        chg := (tget s.est.str k).thruC, dis := (tget s.est.str k).thruD, neq := s.neq k,
        service := decide ((s.str k).state = .service), first := (s.pst k).firstOut, latch := (s.pst k).latched }),
    port := s.jnl.ident }

/-- The sequence of an optional record. -/
def seqOf (w : Option WearRec) : Nat := (w.map (·.seq)).getD 0

/-- The newest record this module holds in mirror or carrier. -/
def State.wearNewest (s : State) : Option WearRec :=
  [s.jnl.mirror0, s.jnl.mirror1, s.jnl.carrier0, s.jnl.carrier1].foldl (fun (m : Option WearRec) c =>
    match m, c with
    | none, c => c
    | some a, some b => if a.seq < b.seq then some b else some a
    | some a, none => some a) none

/-- The words of a byte string. -/
def wordsOf (b : Bytes) : Nat → Nat → List Word
  | 0, _ => []
  | n + 1, o => BitVec.ofNat 32 (rdU b o 4) :: wordsOf b n (o + 4)

/-- The secondary transactions that write a wear record into a front end's shadow and commit it (R146, R557). -/
def wearTxs (w : WearRec) : List SecTx :=
  let b := w.bytes
  (upFrom 0 32).map (fun j =>
    { req := .regWrite (0x0400 + 32 * j) (wordsOf b 32 (128 * j)), by_ := .wearWrite }) ++
  [{ req := .regWrite 0x0200 [crc32c b], by_ := .wearCommit }]

/-- Queue the write of a wear record to a list of front ends (R557, R558). -/
def State.wearToFe (s : State) (w : WearRec) (ports : List Nat) (tries : Nat) : State :=
  let s1 := ports.foldl (fun u p => u.modLnk p (fun l => { l with secQueue := l.secQueue ++ wearTxs w })) s
  { s1 with jnl.feCommits := s1.jnl.feCommits.filter (fun c => !(ports.contains c.1)) ++
      ports.map (fun p => (p, tries, 0)) }

/-- The ports whose front ends take a copy of the record (R557). -/
def State.wearPorts (s : State) : List Nat :=
  s.fittedPorts.filter (fun p => decide ((s.lnk p).state = .run) &&
    decide ((s.str (strOfPort p)).state ≠ .unsurveyed))

/-- Conditions of a wear write (R555): hold-up charge, input in range for 1 s, no input loss. -/
def State.wearMay (s : State) : Bool :=
  decide (s.mem.wearHoldup ≤ s.huPct) && decide (s.psv.state = .normal) &&
    decide (s.psv.inRangeFrom + 1000 ≤ s.now) && s.psv.loss.isNone

/-- Write the mirror copy not holding the newest sequence (R556 item 1). -/
def State.mirrorWrite (s : State) (w : WearRec) : State :=
  if seqOf s.jnl.mirror0 < seqOf s.jnl.mirror1 ∨ s.jnl.mirror0 = none then { s with jnl.mirror0 := some w }
  else { s with jnl.mirror1 := some w }

/-- Write the carrier slot not holding the newest valid record, and erase the other (R556 items 2 and 3); a failed
read-back leaves the slot without a valid record. -/
def State.carrierWrite (s : State) (w : WearRec) (v : Verdict) : State :=
  let first := decide (seqOf s.jnl.carrier0 < seqOf s.jnl.carrier1) || s.jnl.carrier0.isNone
  let rec_ : Option WearRec := if v = .pass then some w else none
  let s1 : State :=
    if first then { s with jnl.carrier0 := rec_, jnl.carrier1 := if v = .pass then none else s.jnl.carrier1 }
    else { s with jnl.carrier1 := rec_, jnl.carrier0 := if v = .pass then none else s.jnl.carrier0 }
  if v = .pass then { s1 with jnl.carrierRetry := false }
  else { s1.ev 0x1408 ([3] ++ le 4 w.seq ++ [0xFF] ++ le 4 0) with jnl.carrierRetry := true }

/-- WEAR_WRITE (R555 to R557), at pulse 0 of a second boundary at which a write is due. -/
def execWearWrite (carrier : Verdict) (s : State) : Host.Outcome State Fault Refusal :=
  let s0 := s.atP 0
  if s0.now % 1000 = 0 ∧ (s0.jnl.wearDue ∨ s0.now % 3600000 = 0) then
    if s0.wearMay then
      let w := s0.wearNow (s0.jnl.wSeq + 1)
      let s1 := (s0.mirrorWrite w).carrierWrite w carrier
      let s2 := s1.ev 0x1408 ([1] ++ le 4 w.seq ++ [0xFF] ++ le 4 0)
      let s3 := { s2 with
        jnl.wSeq := w.seq, jnl.wFrame := w.frame, jnl.wearDue := false, jnl.wearPostponed := false,
        jnl.wearNone := false }
      ok (if w.seq % s3.mem.wearCfe = 0 ∧ s3.leads then s3.wearToFe w s3.wearPorts 1 else s3)
    else
      let s1 := s0.evIf (!s0.jnl.wearPostponed) 0x1408 ([2] ++ le 4 (s0.jnl.wSeq + 1) ++ [0xFF] ++ le 4 0)
      ok { s1 with jnl.wearDue := true, jnl.wearPostponed := true }
  else ok s0

/-- WEAR_CARRIER_RETRY (R556): the carrier write that failed is made again at the next second. -/
def execWearCarrierRetry (carrier : Verdict) (s : State) : Host.Outcome State Fault Refusal :=
  let s0 := s.atP 0
  if s0.now % 1000 = 0 ∧ s0.jnl.carrierRetry then
    match s0.wearNewest with
    | some w => ok (s0.carrierWrite w carrier)
    | none => ok { s0 with jnl.carrierRetry := false }
  else ok s0

/-- `CFE_WEAR_FAULT` on a port. -/
def State.wearFault (s : State) (p cause : Nat) : State :=
  s.ev 0x0504 (le 1 p ++ le 1 cause ++ le 2 (bitsOf (tget s.cfe p).wearStat.toNat 16 16))

/-- A front-end commit failed (R558): journaled, tried once more, then left. -/
def State.commitFailed (s : State) (p cause : Nat) : State :=
  match s.jnl.feCommits.find? (fun c => decide (c.1 = p)) with
  | none => s
  | some c =>
    let s1 := s.wearFault p cause
    let s2 := s1.modLnk p (fun l => { l with secQueue := l.secQueue.filter (fun t =>
      !(decide (t.by_ = .wearWrite) || decide (t.by_ = .wearCommit) || decide (t.by_ = .wearCheck))) })
    match c.2.1, s2.wearNewest with
    | 1, some w => s2.wearToFe { w with port := s2.jnl.ident } [p] 2
    | _, _ => { s2 with jnl.feCommits := s2.jnl.feCommits.filter (fun d => decide (d.1 ≠ p)) }

/-- CFE_WEAR_COMMIT_CHECK (R558): 200 ms after the commit, `WEAR_STAT` has not shown a new valid sequence. -/
def execCfeWearCommitCheck (p : Pulse) (port : PortIx) (s : State) : Host.Outcome State Fault Refusal :=
  let s0 := s.atP p.val
  ok (if s0.jnl.feCommits.any (fun c => decide (c.1 = port.val) && decide (0 < c.2.2) &&
        decide (c.2.2 - 1 + 200 ≤ s0.now)) then s0.commitFailed port.val 2
    else s0)

/-! ### The last-gasp record (R559, R560) -/

/-- mA·µs to whole mA·s. -/
def toMas (x : Nat) : Nat := x / 1000000

/-- Write the last-gasp record, over the copy not holding the higher generation (R560). -/
def State.gaspWrite (s : State) : State :=
  match s.jnl.mkBase with
  | none => s
  | some (seq, frame, base) =>
    let genOf (g : Option LastGasp) : Nat := (g.map (·.gen)).getD 0
    let gen := (if genOf s.jnl.gasp0 < genOf s.jnl.gasp1 then genOf s.jnl.gasp1 else genOf s.jnl.gasp0) + 1
    let r : LastGasp :=
      { gen := gen, base := seq, baseFrame := frame, frame := s.now,
        delta := tmodAll [] s.strings (fun k _ =>
          (toMas ((tget s.jnl.mkThru k).1 - (tget base k).1), toMas ((tget s.jnl.mkThru k).2 - (tget base k).2))) }
    if genOf s.jnl.gasp0 < genOf s.jnl.gasp1 ∨ s.jnl.gasp0 = none then { s with jnl.gasp0 := some r }
    else { s with jnl.gasp1 := some r }

/-- LAST_GASP_BASE at a second boundary (R559): Markhor records its throughputs and takes a new base when the newest
mirror copy is new and its frame is among the last four recorded. -/
def State.gaspBase (s : State) : State :=
  let at_ := ((s.now, s.jnl.mkThru) :: s.jnl.mkAt).take 4
  let s1 := { s with jnl.mkAt := at_ }
  let newest := if seqOf s1.jnl.mirror0 < seqOf s1.jnl.mirror1 then s1.jnl.mirror1 else s1.jnl.mirror0
  match newest with
  | none => s1
  | some w =>
    if (s1.jnl.mkBase.map (fun b => (b.1, b.2.1))) = some (w.seq, w.frame) then s1
    else
      match at_.find? (fun x => decide (x.1 = w.frame)) with
      | some x => { s1 with jnl.mkBase := some (w.seq, w.frame, x.2) }
      | none => s1

/-! ### Reconciliation (R561) -/

/-- A front end's committed copy as bytes. -/
def FeSt.wearBytes (f : FeSt) : Bytes := (upFrom 0 1024).flatMap (fun i => le 4 (tget f.wearCopy i).toNat)

/-- The front-end candidate of a port (R561 item 1). -/
def State.feCandidate (s : State) (p : Nat) : Option WearRec :=
  let f := s.fee p
  if (s.lnk p).state = .run ∧ f.wearValid then
    match wearOfBytes f.wearBytes with
    | some w => if s.wearValid w ∧ padTo 16 (tget w.port p).serial = padTo 16 (tget s.cfe p).serial then some w else none
    | none => none
  else none

/-- A last-gasp record on a candidate that holds its base: that candidate with the deltas added. -/
def gaspOn (g : LastGasp) (w : WearRec) : WearRec :=
  { w with str := tmodAll w.str allStr (fun k x =>
    { x with chg := x.chg + (tget g.delta k).1, dis := x.dis + (tget g.delta k).2 }) }

/-- The newest valid last-gasp record. -/
def State.gaspNewest (s : State) : Option LastGasp :=
  match s.jnl.gasp0, s.jnl.gasp1 with
  | some a, some b => if a.gen < b.gen then some b else some a
  | some a, none => some a
  | none, b => b

/-- The record of the highest sequence of a list. -/
def highest (ws : List WearRec) : Option WearRec :=
  ws.foldl (fun (m : Option WearRec) w =>
    match m with
    | none => some w
    | some a => if a.seq < w.seq then some w else some a) none

/-- The module's own valid records, carrier slots first (R561). -/
def State.wearOwnAll (s : State) : List WearRec :=
  ([s.jnl.carrier0, s.jnl.carrier1, s.jnl.mirror0, s.jnl.mirror1].flatMap Option.toList).filter s.wearValid

/-- The newest of the module's own valid records. -/
def State.wearOwn (s : State) : Option WearRec := highest s.wearOwnAll

/-- Adopt a latch of the wear record that the module's own journal lacks (R561 item 3). -/
def State.adoptLatch (s : State) (k n : Nat) : State :=
  let s1 := s.ev 0x0B02 (le 1 k ++ le 1 n ++ [1] ++ le 4 0 ++ [0])
  s1.modPst k (fun x =>
    { x with
      latched := withBit x.latched (n - 1), trip := true, permit := false,
      latchFrame := if x.firstOut = 0 then s.now else x.latchFrame,
      firstOut := if x.firstOut = 0 then n else x.firstOut })

/-- WEAR_RECONCILE of Survey step 5 (R561). -/
def State.reconcile (s : State) : State :=
  let keep (o : Option WearRec) : List WearRec := (o.toList).filter s.wearValid
  let carriers := keep s.jnl.carrier0 ++ keep s.jnl.carrier1
  let mirrors := keep s.jnl.mirror0 ++ keep s.jnl.mirror1
  let fes := s.fittedPorts.filterMap s.feCandidate
  let base := carriers ++ mirrors ++ fes
  let gasp : List WearRec := match s.gaspNewest with
    | some g => ((base.find? (fun w => decide (w.seq = g.base))).map (gaspOn g)).toList
    | none => []
  let all := base ++ gasp
  match all with
  | [] =>
    { s.ev 0x1408 ([4] ++ le 4 0 ++ [0xFF] ++ le 4 0) with jnl.wSource := none, jnl.wearNone := true, jnl.ident := [] }
  | _ =>
    let maxOf (ws : List WearRec) (f : WearStr → Nat) (k : Nat) : Nat :=
      ws.foldl (fun m w => if m < f (tget w.str k) then f (tget w.str k) else m) 0
    let from_ (ws : List WearRec) : Mask := s.strings.foldl (fun m k =>
      let top := decide (0 < maxOf ws (·.chg) k) && decide (maxOf ws (·.chg) k = maxOf all (·.chg) k) ||
        decide (0 < maxOf ws (·.dis) k) && decide (maxOf ws (·.dis) k = maxOf all (·.dis) k)
      let others := all.filter (fun w => !(ws.contains w))
      let beaten := decide (maxOf others (·.chg) k < maxOf all (·.chg) k) ||
        decide (maxOf others (·.dis) k < maxOf all (·.dis) k)
      if top && beaten then withBit m k else m) 0
    let s1 := { s with est.str := tmodAll s.est.str s.strings (fun k e =>
      { e with thruC := maxOf all (·.chg) k, thruD := maxOf all (·.dis) k }) }
    let own := highest (carriers ++ mirrors)
    let src := match own with | some w => some w | none => highest fes
    let source : Option Nat := match own with
      | some w => if carriers.contains w then some 0 else some 1
      | none => some 2
    match src with
    | none => s1
    | some w =>
      let s2 := { s1 with jnl.ident := w.port, jnl.wSeq := w.seq, jnl.wFrame := w.frame, jnl.wSource := source }
      let s3 := s2.strings.foldl (fun u k =>
        (upFrom 1 12).foldl (fun v n =>
          if has (tget w.str k).latch (n - 1) && !has (v.pst k).latched (n - 1) then v.adoptLatch k n else v) u) s2
      let s4 := { s3 with mode.str := tmodAll s3.mode.str s3.strings (fun k x =>
        { x with state := if (tget w.str k).service then .service else x.state }) }
      s4.ev 0x1408 ([4] ++ le 4 w.seq ++ le 1 (source.getD 0xFF) ++ le 2 (from_ gasp).toNat ++ le 2 (from_ fes).toNat)

end Sys2Proof.Machine
end

