-- ==== Sys2Proof/Machine/EstMath.lean ====
section
/-! DEFINITION. The chemistry tables and the covariance arithmetic of chapter 07: bilinear look-up (R184), effective
capacity (R187), prediction and measurement update (R195). -/

namespace Sys2Proof.Machine

/-! ### Chemistry tables (R184 to R187) -/

/-- `a + (b − a) × f ÷ 65,536` (R184). -/
def lerp (a b f : Int) : Int := a + divRound ((b - a) * f) 65536

/-- Row and fraction of a temperature in the nine temperatures of `EST_CHEM` (R184). -/
def Chem.tempPos (c : Chem) (temp : Int) : Nat × Int :=
  let t (i : Nat) : Int := nthI c.temps i
  if temp ≤ t 0 then (0, 0)
  else if t 8 ≤ temp then (7, 65536)
  else
    let j := ((upFrom 1 8).filter (fun i => decide (t i ≤ temp))).length
    (j, muldiv (temp - t j) 65536 (t (j + 1) - t j))

/-- Entry `(j, i)` of a table of `n` SoC points; the built-in set's value where the image gives none. -/
def chemAt (l : List Int) (d : Int) (n j i : Nat) : Int := if l = [] then d else nthI l (j * n + i)

/-- `look` of R184 on a table given as a function of row and column. -/
def lookTab (tab : Nat → Nat → Int) (n soc : Nat) (tp : Nat × Int) : Int :=
  let x := soc * (n - 1)
  let i := x / 4294967296
  let fs : Int := (x / 65536 % 65536 : Nat)
  lerp (lerp (tab tp.1 i) (tab tp.1 (i + 1)) fs) (lerp (tab (tp.1 + 1) i) (tab (tp.1 + 1) (i + 1)) fs) tp.2

/-- A branch of the open-circuit voltage as a table: the line of Table 7-5 for the built-in set. -/
def ocvTab (l : List Int) (j i : Nat) : Int := if l = [] then 2900000 + 5500 * (i : Int) else nthI l (j * 101 + i)

/-- Open-circuit voltage of one branch, µV. -/
def Chem.ocvOf (c : Chem) (charge : Bool) (soc : Nat) (tp : Nat × Int) : Int :=
  lookTab (ocvTab (if charge then c.ocvC else c.ocvD)) 101 soc tp

/-- A table of 21 SoC points. -/
def look21 (l : List Int) (d : Int) (soc : Nat) (tp : Nat × Int) : Int := lookTab (chemAt l d 21) 21 soc tp

/-- Rs of the table, nΩ. -/
def Chem.rsOf (c : Chem) (soc : Nat) (tp : Nat × Int) : Int := look21 c.rsTab 1000000 soc tp

/-- Ra, nΩ. -/
def Chem.raOf (c : Chem) (soc : Nat) (tp : Nat × Int) : Int := look21 c.raTab 500000 soc tp

/-- Ca, 0.1 F. -/
def Chem.caOf (c : Chem) (soc : Nat) (tp : Nat × Int) : Int := look21 c.caTab 20000 soc tp

/-- Rb, nΩ. -/
def Chem.rbOf (c : Chem) (soc : Nat) (tp : Nat × Int) : Int := look21 c.rbTab 500000 soc tp

/-- Cb, 0.1 F. -/
def Chem.cbOf (c : Chem) (soc : Nat) (tp : Nat × Int) : Int := look21 c.cbTab 2000000 soc tp

/-- R_comp, nΩ. -/
def Chem.rcompOf (c : Chem) (soc : Nat) (tp : Nat × Int) : Int := look21 c.rcomp 1500000 soc tp

/-- Difference of the two entries of a branch that bracket the SoC, µV per 1 % (R184). -/
def slopeOf (l : List Int) (soc : Nat) (tp : Nat × Int) : Int :=
  let i := soc * 100 / 4294967296
  let d (j : Nat) : Int := ocvTab l j (i + 1) - ocvTab l j i
  lerp (d tp.1) (d (tp.1 + 1)) tp.2

/-- A value between the branches by the hysteresis state: `d + (1 + h) ÷ 2 × (c − d)` with h in 2⁻¹⁴. -/
def byHyst (d c h : Int) : Int := d + divRound ((16384 + h) * (c - d)) 32768

/-- A one-dimensional table interpolated linearly and held at its end values (R184). -/
def interp1 (x : Int) : List (Int × Int) → Int
  | [] => 0
  | [(_, y)] => y
  | (x0, y0) :: (x1, y1) :: t =>
    if x ≤ x0 then y0
    else if x ≤ x1 then y0 + muldiv (y1 - y0) (x - x0) (x1 - x0)
    else interp1 x ((x1, y1) :: t)

/-- Q_eff at a cycle count and a core temperature, mA·s (R187). -/
def Chem.qEff (c : Chem) (neq : Nat) (tc : Int) : Int :=
  let fade := if c.fade = [] then 1000000 else interp1 (neq : Int) c.fade
  let temp := if c.tempcap = [] then 1000000 else interp1 tc (c.temps.zip c.tempcap)
  muldiv (muldiv (c.capacity : Int) fade 1000000) temp 1000000

/-- dU/dT at a SoC, nV/K (Table 7-7). -/
def Chem.entropicOf (c : Chem) (soc : Nat) : Int :=
  let x := soc * 20
  let i := x / 4294967296
  if c.entropic = [] then 0 else lerp (nthI c.entropic i) (nthI c.entropic (i + 1)) ((x / 65536 % 65536 : Nat) : Int)

/-! ### The covariance (R180) -/

/-- Place of an element of the symmetric covariance in the order ss, sa, sb, sh, aa, ab, ah, bb, bh, hh. -/
def covIx (i j : Nat) : Nat := min i j * (7 - min i j) / 2 + max i j

/-- An element of the covariance. -/
def covAt (p : List Int) (i j : Nat) : Int := nthI p (covIx i j)

/-- A covariance from its upper triangle. -/
def covOf (f : Nat → Nat → Int) : List Int :=
  [f 0 0, f 0 1, f 0 2, f 0 3, f 1 1, f 1 2, f 1 3, f 2 2, f 2 3, f 3 3].map sat32

/-- Raise a diagonal element to a floor; cross terms beyond the geometric mean of their diagonals are cleared. -/
def covFloor (i : Nat) (fl : Int) (p : List Int) : List Int :=
  if fl ≤ covAt p i i then p
  else
    let d (k : Nat) : Int := if k = i then fl else covAt p k k
    covOf (fun a b =>
      if a = b then d a
      else if (a = i ∨ b = i) ∧ d a * d b < covAt p a b * covAt p a b then 0 else covAt p a b)

/-- The floors of R180 and R186. -/
def covFloors (p : List Int) (sigma : Int) : List Int :=
  covFloor 3 1 (covFloor 2 1 (covFloor 1 1 (covFloor 0 (sigma * sigma) p)))

/-- σ = floor(√P_ss), 0.001 %, as `EST_SIGMA` holds it. -/
def covSigma (p : List Int) : Nat := satN 0xFFFF (isqrt (covAt p 0 0).toNat)

/-! ### The filter step (R195) -/

/-- The four states of Table 7-1 with their covariance; `clamp` when one of them saturated. -/
structure Filt where
  soc : Nat := 0
  va : Int := 0
  vb : Int := 0
  h : Int := 0
  p : List Int := []
  clamp : Bool := false
  deriving DecidableEq, Repr, Inhabited

/-- States limited to their formats (R179). -/
def filtSat (soc va vb h : Int) (p : List Int) (clamp : Bool) : Filt :=
  let s1 := clampI 0 0xFFFFFFFF soc
  let a1 := sat32 va
  let b1 := sat32 vb
  let h1 := clampI (-16384) 16384 h
  { soc := s1.toNat, va := a1, vb := b1, h := h1, p := p,
    clamp := clamp || decide (s1 ≠ soc) || decide (a1 ≠ va) || decide (b1 ≠ vb) || decide (h1 ≠ h) }

/-- What a step has beside the cell's own states: Δt in µs, q in mA·µs, core temperature row and Q_eff. -/
structure StepIn where
  dt : Int := 0
  q : Int := 0
  tp : Nat × Int := (0, 0)
  qe : Int := 1
  deriving DecidableEq, Repr, Inhabited

/-- SoC moved in a step, Q0.32 (R195). -/
def StepIn.ds (i : StepIn) (c : Chem) : Int :=
  muldiv (i.q * (if 0 < i.q then (c.etaC : Int) else 1000000)) 4294967296 (i.qe * 1000000000000)

/-- exp(−Δt ÷ (R·C)) with R in nΩ and C in 0.1 F, Q0.32. -/
def decay (dt r c : Int) : Int := expNeg (muldiv (dt * 10000) 65536 (r * c))

/-- A relaxation voltage after Δt: `e × v + (1 − e) × R × Ī`, µV. -/
def relax (e v r ibar : Int) : Int := divRound (e * v * 1000000 + (4294967296 - e) * r * ibar) (4294967296 * 1000000)

/-- The prediction of R195. -/
def predict (c : Chem) (cfg : EstCfg) (i : StepIn) (x : Filt) : Filt :=
  let ibar := divRound i.q i.dt
  let ds := i.ds c
  let ra := c.raOf x.soc i.tp
  let rb := c.rbOf x.soc i.tp
  let ea := decay i.dt ra (c.caOf x.soc i.tp)
  let eb := decay i.dt rb (c.cbOf x.soc i.tp)
  let eh := expNeg (divRound ((c.gamma : Int) * ds.natAbs) 65536)
  let sg : Int := if i.q < 0 then -1 else if i.q = 0 then 0 else 1
  let e (k : Nat) : Int := if k = 0 then 4294967296 else if k = 1 then ea else if k = 2 then eb else eh
  let noise (k : Nat) : Int :=
    if k = 0 then muldiv cfg.qTime i.dt 3600000000 + divRound ((cfg.qThru : Int) * ds.natAbs * 100) 4294967296
    else muldiv (if k = 3 then cfg.qH else cfg.qRc) i.dt 1000000
  filtSat (x.soc + ds) (relax ea x.va ra ibar) (relax eb x.vb rb ibar)
    (divRound (eh * x.h + (4294967296 - eh) * sg * 16384) 4294967296)
    (covOf (fun a b => divRound (covAt x.p a b * e a * e b) (4294967296 * 4294967296) + (if a = b then noise a else 0)))
    x.clamp

/-- The model at a sample instant: OCV, both branches, slope, Rs with ρ, V_comp and the innovation (R195). -/
structure Obs where
  ocv : Int := 0
  gap : Int := 0
  hs : Int := 0
  vcomp : Int := 0
  y : Int := 0
  deriving DecidableEq, Repr, Inhabited

/-- Rs in use, nΩ: the table value times ρ (R177). -/
def Chem.rsUse (c : Chem) (soc : Nat) (tp : Nat × Int) (rho : Nat) : Int := divRound (c.rsOf soc tp * rho) 4096

/-- The comparison of a usable sample `v` at string current `is` with the model. -/
def observe (c : Chem) (tp : Nat × Int) (rho : Nat) (v is : Int) (x : Filt) : Obs :=
  let ocd := c.ocvOf false x.soc tp
  let occ := c.ocvOf true x.soc tp
  let ocv := byHyst ocd occ x.h
  { ocv := ocv, gap := occ - ocd,
    hs := byHyst (slopeOf c.ocvD x.soc tp) (slopeOf c.ocvC x.soc tp) x.h,
    vcomp := sat32 (v - muldiv is (c.rcompOf x.soc tp) 1000000),
    y := v - (ocv + x.va + x.vb + muldiv is (c.rsUse x.soc tp rho) 1000000) }

/-- The measurement update of R195 in exact rationals over the common scale 256,000, each state and covariance element
rounded once; `gated` takes the SoC gain out (R196). -/
def measure (o : Obs) (r : Nat) (gated : Bool) (x : Filt) : Filt :=
  let hv (i : Nat) : Int := if i = 0 then o.hs * 256 else if i = 3 then o.gap * 125 else 2560000
  let ph (i : Nat) : Int := sumL ((upFrom 0 4).map (fun j => covAt x.p i j * hv j))
  let d : Int := sumL ((upFrom 0 4).map (fun i => hv i * ph i)) + (r : Int) * 65536000000
  let n (i : Nat) : Int := if i = 0 ∧ gated then 0 else ph i * 256000
  let kd : Int := 256000 * d
  let m (i j : Nat) : Int := (if i = j then kd else 0) - n i * hv j
  let mpm (a b : Nat) : Int := sumL ((upFrom 0 4).map (fun i => m a i * sumL ((upFrom 0 4).map (fun j =>
    covAt x.p i j * m b j))))
  filtSat (x.soc + divRound (n 0 * o.y * 4294967296) (d * 100000)) (x.va + divRound (n 1 * o.y * 10) d)
    (x.vb + divRound (n 2 * o.y * 10) d) (x.h + divRound (n 3 * o.y * 16) d)
    (covOf (fun a b => divRound (mpm a b + n a * n b * (r : Int) * 65536000000) (kd * kd))) x.clamp

/-- The rest update's reset of the relaxation voltages (R201). -/
def restReset (x : Filt) : Filt :=
  { x with
    va := 0, vb := 0,
    p := covOf (fun a b =>
      if a = b then (if a = 1 ∨ a = 2 then 1 else covAt x.p a b)
      else if a = 1 ∨ a = 2 ∨ b = 1 ∨ b = 2 then 0 else covAt x.p a b) }

/-! ### Cold initialisation (R206) -/

/-- A branch of the open-circuit voltage at SoC point `i` of its table and a temperature. -/
def ocvPoint (l : List Int) (tp : Nat × Int) (i : Nat) : Int := lerp (ocvTab l tp.1 i) (ocvTab l (tp.1 + 1) i) tp.2

/-- The SoC, Q0.32, at which a branch reaches `v` between its points `i` and `i + 1`, by the line between them. -/
def branchSoc (at_ : Nat → Int) (i : Nat) (v : Int) : Int :=
  let d := at_ (i + 1) - at_ i
  muldiv (i * d + (v - at_ i)) 4294967296 (100 * d)

/-- The SoC interval of R206 in Q0.32. The mean of the branches lies within 2 mV plus half their gap of v₀ where the
discharge branch is at most v₀ + 2 mV and the charge branch at least v₀ − 2 mV. A v₀ below both branches at SoC 0 lies
below the whole table, one above both at SoC 1 above it (log 75). -/
def coldInterval (c : Chem) (tp : Nat × Int) (v0 : Int) : Int × Int :=
  let ocd := ocvPoint c.ocvD tp
  let occ := ocvPoint c.ocvC tp
  if v0 < min (ocd 0) (occ 0) then (0, divRound 4294967296 100)
  else if max (ocd 100) (occ 100) < v0 then (divRound (99 * 4294967296) 100, 4294967296)
  else
    let lo := match (upFrom 0 101).find? (fun i => decide (v0 - 2000 ≤ occ i)) with
      | some 0 => 0
      | some (i + 1) => branchSoc occ i (v0 - 2000)
      | none => 4294967296
    let hi := match (upFrom 0 101).find? (fun i => decide (v0 + 2000 < ocd i)) with
      | some 0 => 0
      | some (i + 1) => branchSoc ocd i (v0 + 2000)
      | none => 4294967296
    (lo, hi)

/-- A cell initialised cold from its first usable sample (R206). -/
def coldInit (c : Chem) (cfg : EstCfg) (tp : Nat × Int) (v is : Int) : Filt :=
  let iv := coldInterval c tp (v - muldiv is (c.rcompOf 0x80000000 tp) 1000000)
  let wide := muldiv (iv.2 - iv.1) 28870 4294967296
  let sg : Int := if wide < cfg.sigmaCold then cfg.sigmaCold else wide
  { soc := satN 0xFFFFFFFF (divRound (iv.1 + iv.2) 2).toNat,
    p := covOf (fun a b => if a = b then (if a = 0 then sg * sg else if a = 3 then 1048576 else 250000) else 0) }

end Sys2Proof.Machine
end

