-- ==== Sys2Proof/Machine/Modes.lean ====
section
/-! DEFINITION. Modes and string states (chapter 03): the commands that change them, openings, string surveys, restarts. -/

namespace Sys2Proof.Machine

/-! ### Surveys (R66, R79, R607) -/

/-- The register reads of steps 2 and 3 on a port: identity, calibration, status and wear status (Tables 3-5, 5-4). -/
def surveyReads : List SecTx :=
  [{ req := .regRead 0x0000 11, by_ := .identity }] ++
  (upFrom 0 8).map (fun j => { req := .regRead (0x0100 + 32 * j) 32, by_ := .calibration }) ++
  [{ req := .regRead 0x0010 3, by_ := .refresh }, { req := .regRead 0x0201 1, by_ := .refresh }]

/-- Begin the survey of one string: its record, its OFF ports woken (Table 4-13), and the reads on its ports. -/
def State.surveyStart (s : State) (k : Nat) (cmd : Word) : State :=
  let s0 : State := { s with meas.str := tmod s.meas.str k (fun m => { m with sumFail := 0 }) }
  let s1 := s0.modStr k (fun x => { x with survey := some { from_ := s.now, cmd := cmd } })
  (s1.fittedOf k).foldl (fun u p =>
    { (u.wakePort p .off).secQueue p surveyReads with
      cfe := tmod u.cfe p (fun c => { c with serialRead := false, calRead := 0, policyDone := false }) }) s1

/-- A bit of the eight front ends of a string for each of a list of ports. -/
def portBits (f : Nat → Bool) (ps : List Nat) : BitVec 8 :=
  ps.foldl (fun m p => if f p then m ||| ((1 : BitVec 8) <<< (p % 8)) else m) 0

/-- Every fitted port of a string has its bit in a mask. -/
def State.allPortBits (s : State) (k : Nat) (m : BitVec 8) : Bool :=
  (s.fittedOf k).all (fun p => m.getLsbD (p % 8))

/-- Step 4 on a string's power port: status stream valid and seen, `GATE` echo 0, no echo fault (Table 3-5, R277). -/
def State.step4 (s : State) (k : Nat) : Bool :=
  let q := s.pp k
  q.statSeen && !q.statInvalid && !q.stat.gateSt && !q.echoFault

/-- Step 4 found an auxiliary contact closed. -/
def State.auxClosed (s : State) (k : Nat) : Bool := (s.pp k).stat.kposAux || (s.pp k).stat.knegAux

/-- A port of the string failed step 1: not seen, or its slot did not match (Table 3-5, R111). -/
def State.step1Bad (s : State) (k : Nat) (v : SurveySt) : Bool := !s.allPortBits k v.seen || decide (v.slotBad ≠ 0)

/-- A port of the string failed step 3: calibration unreadable or bad, or a read not complete by the step's bound on a port
whose step 2 is complete; a port with step 2 unfinished is unfinished (R607; log 178). -/
def State.step3Bad (s : State) (k : Nat) (v : SurveySt) : Bool :=
  decide (v.step3Bad ≠ 0) || (s.fittedOf k).any (fun p => v.step2Done.getLsbD (p % 8) && !v.step3Done.getLsbD (p % 8))

/-- Rows 4 to 11 of Table 3-6 for a string: its state and cause. `tests` asks for the open-wire tests of R79. -/
def State.surveyResult (s : State) (k : Nat) (v : SurveySt) (tests : Bool) : SState × Byte :=
  if s.auxClosed k then (.isolated, 0x06)
  else if s.step1Bad k v then (.unsurveyed, 0x01)
  else if v.badSerial ≠ 0 then (.unsurveyed, 0x02)
  else if v.badCaps ≠ 0 then (.unsurveyed, 0x03)
  else if s.step3Bad k v then (.unsurveyed, 0x04)
  else if !s.step4 k then (.unsurveyed, 0x05)
  else if v.step6Bad then (.unsurveyed, 0x07)
  else if !s.allPortBits k v.step2Done ∨ v.step6Frames < 100 ∨ v.owVoid ∨ (tests ∧ !s.allPortBits k v.owDone) then
    (.unsurveyed, 0x0A)
  else (.opened, 0)

/-- Every check of a string's survey is finished. -/
def State.surveyDone (s : State) (k : Nat) (v : SurveySt) (tests : Bool) : Bool :=
  let all (m : BitVec 8) : Bool := s.allPortBits k m
  all v.seen && all v.step2Done && all (v.step3Done ||| v.step3Bad) && decide (100 ≤ v.step6Frames) &&
    (!tests || all v.owDone)

/-- The outcome of a string's survey is settled (Tables 3-5, 3-6): every check finished, 6 s passed, or the first row of
Table 3-6 that can still match has matched, each step being decided once it is complete or its bound has passed. -/
def State.surveyOver (s : State) (k : Nat) (v : SurveySt) (tests : Bool) : Bool :=
  let t := s.now - v.from_
  if s.surveyDone k v tests ∨ 6000 ≤ t then true
  else if t < 1000 then false
  else if s.auxClosed k || s.step1Bad k v then true
  else if !s.allPortBits k v.step2Done && decide (t < 2000) then false
  else if v.badSerial ≠ 0 ∨ v.badCaps ≠ 0 then true
  else if !s.allPortBits k (v.step3Done ||| v.step3Bad) && decide (t < 4500) then false
  else if s.step3Bad k v || !s.step4 k then true
  else if decide (v.step6Frames < 100) && !v.step6Bad && decide (t < 4600) then false
  else v.step6Bad || !s.allPortBits k v.step2Done || decide (v.step6Frames < 100) || v.owVoid ||
    !tests || s.allPortBits k v.owDone

/-- Record the identities of a string's ports (R607, R79): an identity where none is recorded, or anew at a readmission;
a calibration CRC that differs. `CFE_IDENTITY` for each. -/
def State.recordIdentities (s : State) (k : Nat) (renew : Bool) : State :=
  (s.fittedOf k).foldl (fun u p =>
    let c := tget u.cfe p
    let w := tget u.jnl.ident p
    let none_ := decide (w = {})
    let same := decide (padTo 16 w.serial = padTo 16 c.serial)
    if c.serialRead && (none_ || (renew && !same) || (same && decide (w.calCrc ≠ c.calCrc))) then
      { u.ev 0x0501 (le 1 p ++ padTo 16 c.serial ++ le 4 c.calCrc.toNat) with
        jnl.ident := tput u.jnl.ident p
          { serial := if c.serial.all (fun b => decide (b = 0)) then [] else c.serial, calCrc := c.calCrc },
        jnl.wearDue := true }
    else u) s

/-- Write a code into place `k` of a list of sixteen. -/
def setCode (l : List Nat) (k v : Nat) : List Nat :=
  (upFrom 0 16).map (fun i => if i = k then v else (l[i]?).getD 0xFFFF)

/-- End a survey command whose last string has taken its state (R608). -/
def State.surveyCmdEnd (s : State) (c : SurveyCmd) : State :=
  let named := c.codes.filter (fun v => decide (v ≠ 0xFFFF))
  let detail := c.codes.flatMap (le 2)
  if named.all (fun v => decide (v = 0)) then s.cmdTo c.cmd .done .ok 2 []
  else if named.any (fun v => decide (v = 0)) then s.cmdTo c.cmd .done .partially 2 detail
  else s.cmdFail c.cmd .failedFault 2 []

/-- A string of a survey command has taken its state: `code` is 0 for OPEN, else FAILED_FAULT. -/
def State.surveyCode (s : State) (k : Nat) (cmd : Word) (code : Nat) : State :=
  match s.mode.surveyCmds.find? (fun c => decide (c.cmd = cmd)) with
  | none => s
  | some c =>
    let c1 := { c with codes := setCode c.codes k code }
    let live := s.strings.any (fun j => match (s.str j).survey with
      | some v => decide (v.cmd = cmd)
      | none => false)
    if live then
      { s with mode.surveyCmds := s.mode.surveyCmds.map (fun d => if d.cmd = cmd then c1 else d) }
    else
      { s with mode.surveyCmds := s.mode.surveyCmds.filter (fun d => decide (d.cmd ≠ cmd)) }.surveyCmdEnd c1

/-- A wear-record copy of the string's front ends is still to be committed (R558). -/
def State.commitsOf (s : State) (k : Nat) : Bool :=
  s.jnl.feCommits.any (fun c => decide (strOfPort c.1 = k))

/-- Take the outcome of a string survey: the new state, and the command's code. An auxiliary contact found closed
latches SF-09 again (R321). -/
def State.surveyTake (s : State) (k : Nat) (v : SurveySt) (r : SState × Byte) : State :=
  let s1 := s.modStr k (fun x => { x with survey := none })
  let s2 := if s1.auxClosed k then
      { s1 with prot.str := tmod s1.prot.str k (fun x => { x with tripStage := withoutBit x.tripStage 8 }) }.tripStart k 9 k 0
    else s1
  let s3 :=
    if (s2.pst k).latched ≠ 0 then
      (if (s2.str k).state = .isolated ∧ (s2.str k).cause = 0x08 then s2
       else s2.setStr k .isolated 0x08 (s2.pst k).firstOut false)
    else if (s2.str k).state = r.1 ∧ (s2.str k).cause = r.2 then s2
    else s2.setStr k r.1 r.2 0 false
  s3.surveyCode k v.cmd (if (s3.str k).state = .opened then 0 else 0x0202)

/-- STRING_SURVEY_END (R79): the outcome is settled, or a latch stops the survey. A readmission that succeeds first records
the identities and rewrites the front-end copies (R558); the string becomes OPEN once these are done, and a rewriting not
done after 6 s is a check unfinished (log 179). -/
def execStringSurveyEnd (p : Pulse) (str : StrIx) (s : State) : Host.Outcome State Fault Refusal :=
  let s0 := s.atP p.val
  let k := str.val
  ok (match (s0.str k).survey with
    | none => s0
    | some v =>
      if s0.mode.mode = .survey then s0
      else if s0.surveyOver k v true ∨ (s0.pst k).latched ≠ 0 then
        let r := s0.surveyResult k v true
        let renew := s0.mode.surveyCmds.any (fun c => decide (c.cmd = v.cmd) && c.renew)
        if r.1 = .opened ∧ (s0.pst k).latched = 0 then
          if renew ∧ !v.rewrite ∧ s0.leads then
            let s1 := s0.recordIdentities k true
            let s2 := s1.modStr k (fun x => { x with survey := some { v with rewrite := true } })
            match s2.wearNewest with
            | some w => s2.wearToFe { w with port := s2.jnl.ident } (s2.fittedOf k) 1
            | none => (s2.wiresClear k).surveyTake k v r
          else if renew ∧ s0.commitsOf k then
            (if v.from_ + 6000 ≤ s0.now then s0.surveyTake k v (.unsurveyed, 0x0A) else s0)
          else ((s0.recordIdentities k renew).wiresClear k).surveyTake k v r
        else s0.surveyTake k v r
      else s0)

/-! ### Entry to Idle -/

/-- A string is CONNECTING, CLOSED or HELD. -/
def State.anyLive (s : State) : Bool :=
  s.strings.any (fun k => decide ((s.str k).state ∈ [SState.connecting, .closed, .held]))

/-- IDLE_ENTRY (R71, Table 3-7): Serve ends once no string is connected and Idle is the target, or once no string is
available. -/
def State.idleEntry (s : State) : State :=
  if s.mode.mode = .serve ∧ !s.anyLive then
    if s.mode.target = some .idle then
      let id := s.mode.targetCmd
      let s1 := s.setMode .idle (if s.mode.targetHoldup then 0x06 else 0x01) id
      if id = 0 then s1 else s1.cmdTo id .done .ok 2 []
    else if s.strings.any (fun k => decide ((s.str k).state = .opened)) then s
    else s.setMode .idle 0x04 0
  else s

/-- Target Idle in Serve (R71): connects abort, every closed string is ordered open. -/
def State.targetIdle (s : State) (cmd : Word) (holdup : Bool) : State :=
  let s1 := { s with mode.target := some .idle, mode.targetCmd := cmd, mode.targetHoldup := holdup }
  let s2 := s1.abortConnects s1.strings
  s2.strings.foldl (fun u k => u.orderOpen k .command (s.now + 100 * s.mode.cfg.openWait)) s2

/-! ### Mode requests (R70, R71, R86) -/

/-- The checks of `MODE_REQUEST`: the body, the pending target, the mode's own conditions. -/
def requestChecks (st : State → Bool) (s : State) (e : LedgerEntry) : Checks :=
  { format := decide (e.body.length = 4) && decide (rdU e.body 1 3 = 0),
    state := st s,
    busy := s.mode.target.isNone,
    range := decide (3 ≤ rdU e.body 0 1) && decide (rdU e.body 0 1 ≤ 6) }

/-- MODE_REQUEST_IDLE (R71): every `MODE_REQUEST` for a mode other than Serve, Rest and Maintain. -/
def execModeRequestIdle (id : Word) (s : State) : Host.Outcome State Fault Refusal :=
  let m := rdU (s.bodyOf id) 0 1
  ok (if m = 4 ∨ m = 5 ∨ m = 6 then s
    else
      s.evaluate id 0x0301 (if s.mode.mode = .maintain then 1 else 2) (requestChecks (fun _ => true)) noStr
        (fun s' e =>
          match s'.mode.mode with
          | .serve => ((s'.cmdStep e.id 1).targetIdle e.id false).idleEntry
          | .rest =>
            { s'.cmdStep e.id 1 with
              mode.target := some .idle, mode.targetCmd := e.id, mode.leavingRest := true }
          | _ => (s'.setMode .idle 0x01 e.id).cmdDone e.id))

/-- MODE_REQUEST_SERVE (R70). -/
def execModeRequestServe (id : Word) (s : State) : Host.Outcome State Fault Refusal :=
  ok (if rdU (s.bodyOf id) 0 1 ≠ 4 then s
    else
      s.evaluate id 0x0301 1
        (requestChecks (fun s' => s'.serveReady && s'.strings.any (fun k => decide ((s'.str k).state = .opened))))
        noStr (fun s' e => (s'.setMode .serve 0x01 e.id).cmdDone e.id))

/-- MODE_REQUEST_REST (Table 3-7). -/
def execModeRequestRest (id : Word) (s : State) : Host.Outcome State Fault Refusal :=
  ok (if rdU (s.bodyOf id) 0 1 ≠ 5 then s
    else s.evaluate id 0x0301 1 (requestChecks (fun _ => true)) noStr
      (fun s' e => (s'.setMode .rest 0x01 e.id).cmdDone e.id))

/-- MODE_REQUEST_MAINTAIN (Table 3-7): not by a member of a synchronised pair. -/
def execModeRequestMaintain (id : Word) (s : State) : Host.Outcome State Fault Refusal :=
  ok (if rdU (s.bodyOf id) 0 1 ≠ 6 then s
    else s.evaluate id 0x0301 1 (requestChecks (fun s' => !s'.inPair)) noStr
      (fun s' e => (s'.setMode .maintain 0x01 e.id).cmdDone e.id))

/-- OPEN_WAIT_EXPIRY (R71): the deadline of a commanded opening has come. -/
def execOpenWaitExpiry (str : StrIx) (s : State) : Host.Outcome State Fault Refusal :=
  let s0 := s.atP 0
  ok (match (s0.str str.val).opening with
    | some (_, d) => if d ≤ s0.now then (s0.openNow str.val).idleEntry else s0
    | none => s0)

/-! ### Safe reset and restarts (R75, R86) -/

/-- The role that may reset a Safe cause (Table 3-8). -/
def safeRole (cause : Byte) : Role :=
  if cause = 0x01 ∨ cause = 0x02 then .installer else if cause = 0x06 then .maker else .operator

/-- Every diagnostic of Table 11-6 has passed throughout the last 10 s (Table 3-8): none stands failed, none failed in that
time, and Markhor has run that long (R75). -/
def State.diagsClean (s : State) : Bool :=
  decide (s.prot.diag = 0) && decide (s.prot.startTick + 10000 ≤ s.time.ticks) &&
    (match s.prot.diagLast with
     | none => true
     | some f => decide (f + 10000 ≤ s.now))

/-- The latched Safe cause is cleared (Table 3-8, R75). -/
def State.safeCleared (s : State) : Bool :=
  if s.mode.safeCause = 0x02 then s.diagsClean
  else if s.mode.safeCause = 0x03 then decide (s.grz.tj < 10000)
  else if s.mode.safeCause = 0x06 then !s.acc.debugOpen
  else true

/-- MODE_SAFE_RESET (R75): the latch is cleared and journaled, and the module restarts with cause 0x05. The spec names no
instant for the restart: DESIGN CHOICE, pulse 999 of the effective frame, as R86 has it for `MODE_RESTART` (log 177). -/
def execModeSafeReset (id : Word) (s : State) : Host.Outcome State Fault Refusal :=
  ok (s.evaluate id 0x0303 1
    (fun s' e =>
      { format := decide (e.body = []), role := roleAtLeast e.role (safeRole s'.mode.safeCause),
        state := s'.safeCleared }) noStr
    (fun s' e =>
      let s1 := s'.ev 0x0B02 ([0xFF, s'.jnl.safeLatch, 4] ++ le 4 e.id.toNat ++ le 1 e.role.code)
      { s1.cmdDone e.id with jnl.safeLatch := 0, mode.restart := some 0x05 }))

/-- MODE_RESTART (R86): in a pair the standby restarts; in the Load hold and in Maintain the module itself. -/
def execModeRestart (id : Word) (s : State) : Host.Outcome State Fault Refusal :=
  ok (s.evaluate id 0x0304 1 (fun _ e => { format := decide (e.body = []) }) noStr
    (fun s' e =>
      let s1 := s'.cmdDone e.id
      if s1.pair.state = some .active then s1 else { s1 with mode.restart := some 0x08 }))

/-- RESTART_AT_PULSE_999 (R86, R75): a module due to restart restarts at pulse 999. -/
def execRestartAtPulse999 (s : State) : Host.Outcome State Fault Refusal :=
  let s0 := s.atP 999
  ok (match s0.mode.restart with
    | some c => s0.restart c
    | none => s0)

/-! ### String commands -/

/-- The body of a string command with two reserved bytes. -/
def maskBody (e : LedgerEntry) : Bool := decide (e.body.length = 4) && decide (rdU e.body 2 2 = 0)

/-- The body of `MODE_STRING_ENABLE`. -/
def enableBody (e : LedgerEntry) : Bool := decide (e.body.length = 4) && decide (rdU e.body 3 1 = 0)

/-- `MODE_STRING_ENABLE` is accepted in any string state but SERVICE. -/
def notService (s : State) (_ : LedgerEntry) (k : Nat) : Option Status :=
  if (s.str k).state = .service then some .refusedState else none

/-- MODE_STRING_ENABLE_ON (R78): enable bits set, retry counts and cause 0x09 cleared. -/
def execModeStringEnableOn (id : Word) (s : State) : Host.Outcome State Fault Refusal :=
  ok (if rdU (s.bodyOf id) 2 1 ≠ 1 then s
    else s.evaluateStrings id 0x0305 1 (fun _ e => { format := enableBody e }) notService
      (fun s' e ks refused =>
        let s1 := { s' with
          mode.enabled := ks.foldl withBit s'.mode.enabled,
          mode.str := tmodAll s'.mode.str ks (fun _ x =>
            { x with retry := 0, cause := if x.state = SState.opened ∧ x.cause = 0x09 then 0 else x.cause }) }
        s1.cmdEndStrings e.id e.mask refused))

/-- MODE_STRING_ENABLE_OFF (Table 3-9 rows 5 and 8): connects abort, closed strings are ordered open. A body whose
enable byte is neither 0 nor 1 is refused. -/
def execModeStringEnableOff (id : Word) (s : State) : Host.Outcome State Fault Refusal :=
  ok (if rdU (s.bodyOf id) 2 1 = 1 then s
    else s.evaluateStrings id 0x0305 1
      (fun _ e => { format := enableBody e, range := decide (rdU e.body 2 1 ≤ 1) }) notService
      (fun s' e ks refused =>
        let s1 := { s' with mode.enabled := ks.foldl withoutBit s'.mode.enabled }
        let s2 := s1.abortConnects ks
        let s3 := ks.foldl (fun u k => u.orderOpen k .command (s'.now + 100 * s'.mode.cfg.openWait)) s2
        (s3.cmdEndStrings e.id e.mask refused).idleEntry))

/-- MODE_STRING_SERVICE (Table 3-9 row 10). -/
def execModeStringService (id : Word) (s : State) : Host.Outcome State Fault Refusal :=
  ok (s.evaluateStrings id 0x0306 1 (fun _ e => { format := maskBody e })
    (fun s' _ k => if (s'.str k).state ∈ [SState.opened, .unsurveyed, .isolated] then none else some .refusedState)
    (fun s' e ks refused =>
      (ks.foldl (fun u k => u.setStr k .service 0x0C 0 false) s').cmdEndStrings e.id e.mask refused))

/-- The judgement of latches before a string survey (R309, R311): the role, then the causes; one survey at a time. -/
def State.latchJudge (s : State) (e : LedgerEntry) (k : Nat) : Option Status :=
  if (s.str k).survey.isSome then some .refusedBusy
  else if s.latchedUnion k = 0 then none
  else if !s.resetRole k e.role then some .refusedRole
  else if !s.resetCleared k then some .refusedState
  else none

/-- Clear the Herd state of a string (R251). -/
def State.herdClear (s : State) (k : Nat) (cmd : Word) : State :=
  let level (u : State) (g f : Nat) : State :=
    let l := ((tget s.herdTab g).lvl[f - 1]?).getD .none
    u.evIf (decide (l ≠ .none)) 0x0901 (le 2 g ++ le 1 f ++ le 1 (if l = .suspect then 2 else 1) ++ [0] ++ leI 2 (-32768) ++ leI 4 0)
  let s0 := (s.cellsOf k).foldl (fun u g => (upFrom 1 5).foldl (fun v f => level v g f) u) s
  let s1 := (s0.ev 0x0905 (le 1 k ++ le 2 (s.cellsOf k).length ++ le 4 cmd.toNat)).evIf
    (decide ((tget s.herd.str k).actions ≠ 0)) 0x0902 (le 1 k ++ [0] ++ le 2 0xFFFF ++ [0])
  let gone (g : Nat) : Bool := decide (g / 512 = k)
  let bad : BitVec 32 := s1.jnl.herdBad &&& ~~~((3 : BitVec 32) <<< (2 * k))
  ({ s1 with
    herdTab := s1.herdTab.filter (fun e => !gone e.1),
    jnl.herd := s1.jnl.herd.filter (fun e => !gone e.1), jnl.herdBad := bad,
    herd.str := tmod s1.herd.str k (fun h =>
      { h with actions := 0, actionsOld := 0, actFrame := none, nmin0 := 0, nmina := 0, epStart := 0, epWin := 0,
               eligPrev := false, eligNow := false }) } : State).clearAlarm k 15 false

/-- Start the string surveys of a command (R608): step 1, one survey per string, the codes so far. -/
def State.surveysStart (s : State) (e : LedgerEntry) (renew : Bool) (ks : List Nat) (refused : List (Nat × Status)) :
    State :=
  let s1 := s.cmdStep e.id 1
  let s2 := ks.foldl (fun u k => ((u.clearLatches k e.id e.role).surveyStart k e.id)) s1
  let codes := (upFrom 0 16).map (fun k =>
    if !has e.mask k then 0xFFFF
    else match refused.find? (fun r => decide (r.1 = k)) with
      | some r => r.2.code
      | none => 0)
  { s2 with mode.surveyCmds := s2.mode.surveyCmds ++ [{ cmd := e.id, renew := renew, codes := codes }] }

/-- MODE_STRING_READMIT (R79, R309, R251). -/
def execModeStringReadmit (id : Word) (s : State) : Host.Outcome State Fault Refusal :=
  ok (s.evaluateStrings id 0x0307 2 (fun _ e => { format := maskBody e })
    (fun s' e k =>
      if (s'.str k).state ∈ [SState.service, .unsurveyed] then s'.latchJudge e k else some .refusedState)
    (fun s' e ks refused =>
      (ks.foldl (fun u k => u.herdClear k e.id) s').surveysStart e true ks refused))

/-- MODE_STRING_RESET (R311). -/
def execModeStringReset (id : Word) (s : State) : Host.Outcome State Fault Refusal :=
  ok (s.evaluateStrings id 0x0308 2 (fun _ e => { format := maskBody e })
    (fun s' e k =>
      if (s'.str k).state ∉ [SState.isolated] then some .refusedState else s'.latchJudge e k)
    (fun s' e ks refused => s'.surveysStart e false ks refused))

/-! ### Hold-up charge in Serve (R72) -/

/-- HOLDUP_LOW_TIMEOUT (R72): the charge has stayed low for 10 s. Alone, or with both charges low, Idle becomes the
target; with only the active's own low, it asks for a hand-over, at most once per 60 s. -/
def execHoldupLowTimeout (p : Pulse) (s : State) : Host.Outcome State Fault Refusal :=
  let s0 := s.atP p.val
  let judged := decide (s0.mode.mode = .serve) && s0.psv.loss.isNone && decide (s0.mode.holdupIgnore ≤ s0.now) &&
    s0.mode.target.isNone
  ok (if !judged then s0
    else if s0.inPair then
      if 10000 ≤ s0.mode.holdupBoth then s0.targetIdle 0 true
      else if s0.pair.state = some .active ∧ 10000 ≤ s0.mode.holdupLow ∧
          (s0.mode.handoverAsked.all (fun f => decide (f + 60000 ≤ s0.now))) = true then
        { s0 with mode.handoverAsked := some s0.now,
                  pair.handoverReq := if s0.pair.handoverReq.isSome then s0.pair.handoverReq else some (0, 0) }
      else s0
    else if 10000 ≤ s0.mode.holdupLow then s0.targetIdle 0 true
    else s0)

end Sys2Proof.Machine
end

