-- ==== Sys2Proof/Machine/Meas.lean ====
section
/-! DEFINITION. Measurement and wire diagnosis (chapter 06): conversion tiers, open-wire tests, thermistor faults and
cross-checks. -/

namespace Sys2Proof.Machine

/-- Change what measurement holds of a front end. -/
def State.modMf (s : State) (p : Nat) (f : FeMeas → FeMeas) : State := { s with meas.fe := tmod s.meas.fe p f }

/-- Change what measurement holds of a string. -/
def State.modMs (s : State) (k : Nat) (f : StrMeas → StrMeas) : State := { s with meas.str := tmod s.meas.str k f }

/-! ### Conversion tiers (R155 to R158) -/

/-- A cell is within the guard of a limit, or flagged `WIRE`, `SAT` or `BLK` (R155). -/
def State.cellGuard (s : State) (g : Nat) : Bool :=
  let v := (tget s.mkCell g).v
  let f := (tget s.cells g).flags
  let d := 1000 * (s.meas.cfg.guard : Int)
  decide (s.prot.cfg.lim.ovTrip - v ≤ d) || decide (v - s.prot.cfg.lim.uvTrip ≤ d) || f.getLsbD 3 ||
    (tget s.mkCell g).sat || f.getLsbD 7

/-- A cell condition of R155 holds on the string. -/
def State.tierCell (s : State) (k : Nat) : Bool :=
  (s.cellsOf k).any s.cellGuard || (s.thsOf k).any (fun i => (tget s.th i).broken)

/-- Another condition of R155 holds on the string. -/
def State.tierOther (s : State) (k : Nat) : Bool :=
  !s.meas.cfg.adaptEn || s.connecting k || decide (s.mode.mode = .survey) || (s.str k).survey.isSome

/-- The tier whose current condition holds (Table 6-2). -/
def tierOf (q1 q2 : Nat) : Nat := if 60000 ≤ q2 then 2 else if 10000 ≤ q1 then 1 else 0

/-- The permit of one string at pulse 990, and `MEAS_RATE_CHANGE` where the tier in use of the next frame differs: the
change is journaled where the permit that makes it is formed (DESIGN CHOICE, log 184). -/
def State.tierPermit (s : State) (k : Nat) : State :=
  let m := tget s.meas.str k
  let q1 := if m.loud1 then 0 else m.quiet1 + 1
  let q2 := if m.loud2 then 0 else m.quiet2 + 1
  let cell := s.tierCell k
  let other := s.tierOther k || s.meas.permitLost
  let permit := if cell || other then 0 else tierOf q1 q2
  let cause := if other != m.condOther then 3 else if cell != m.condCell then 2 else 1
  let s1 := s.evIf (decide (permit ≠ m.permit)) 0x0601 (le 1 k ++ le 1 m.permit ++ le 1 permit ++ le 1 cause)
  s1.modMs k (fun x =>
    { x with
      permit := permit, condCell := cell, condOther := other, quiet1 := q1, quiet2 := q2,
      loud1 := false, loud2 := false })

/-- TIER_PERMIT (R155): at pulse 990, for every installed string. -/
def execTierPermit (s : State) : Host.Outcome State Fault Refusal :=
  let s0 := s.atP 990
  ok (s0.strings.foldl (fun u k => u.tierPermit k) s0)

/-- The tier in use of a string in the present frame (R158): 0 while the permit path is lost (R174). -/
def State.tierUsed (s : State) (k : Nat) : Nat := if s.meas.permitLost then 0 else (tget s.meas.str k).used

/-- A frame is a converted frame of a tier (Table 6-2). -/
def tierConverts (tier frame : Nat) : Bool :=
  if tier = 0 then true else if tier = 1 then decide (frame % 10 = 0) else decide (frame % 100 = 0)

/-! ### Open-wire tests (R160 to R164) -/

/-- A test runs on a front end of the string. -/
def State.testRuns (s : State) (k : Nat) : Bool := (portsOf k).any (fun p => (tget s.meas.fe p).test.isSome)

/-- The conditions of R161 on mode and string for a test of the rotation. -/
def State.rotationMay (s : State) (k : Nat) : Bool :=
  decide (s.mode.mode ∈ [Mode.idle, .serve, .maintain]) && decide ((s.str k).state ≠ .unsurveyed) &&
    decide ((s.str k).state ≠ .service) && (s.str k).survey.isNone

/-- Start a test in the present frame: its `SAMPLE` converts and its `CONTROL` carries pattern 1 (Table 6-3). -/
def State.testStart (s : State) (p : Nat) (why : TestWhy) (attempt : Nat) : State :=
  (s.modMf p (fun m => { m with test := some { why := why, start := s.now, attempt := attempt }, retryAt := none })).modLnk
    p (fun l => { l with convert := true, owCtrl := 1 })

/-- The frame is the slot of the front end in the rotation (R160). -/
def State.slotNow (s : State) (p : Nat) : Bool :=
  let i := s.meas.cfg.owInterval
  decide (s.now % (1000 * i) = 125 * i * (p % 8) + 16 * strOfPort p)

/-- The front end whose survey test comes next in a running string survey (R161). -/
def State.surveyTestNext (s : State) (k : Nat) : Option Nat :=
  match (s.str k).survey with
  | some v =>
    if s.mode.mode = .survey ∨ v.cmd = 0 then none
    else (s.fittedOf k).find? (fun p => !v.owDone.getLsbD (p % 8))
  | none => none

/-- OW_TEST_START (R160, R161): at pulse 0 of its slot, or as the next test of a string survey. A slot that falls while
another test of the string runs is skipped (DESIGN CHOICE, log 185). -/
def execOwTestStart (port : PortIx) (s : State) : Host.Outcome State Fault Refusal :=
  let s0 := s.atP 0
  let p := port.val
  let k := strOfPort p
  let free := s0.fitted p && decide ((s0.lnk p).state = .run) && !s0.testRuns k
  ok (if free && s0.slotNow p && s0.rotationMay k then s0.testStart p .rotation 1
    else if free && decide (s0.surveyTestNext k = some p) && (tget s0.meas.fe p).retryAt.isNone then
      s0.testStart p .survey 1
    else s0)

/-- OW_TEST_RETRY (R161): a void test is started again; one of the rotation under the conditions of R161. -/
def execOwTestRetry (port : PortIx) (s : State) : Host.Outcome State Fault Refusal :=
  let s0 := s.atP 0
  let p := port.val
  let k := strOfPort p
  ok (match (tget s0.meas.fe p).retryAt with
    | none => s0
    | some (f, attempt, why) =>
      if s0.now < f ∨ s0.testRuns k then s0
      else if (s0.lnk p).state ≠ .run then
        (if why = .rotation then s0.modMf p (fun m => { m with retryAt := none }) else s0)
      else if why = .rotation ∧ !s0.rotationMay k then s0.modMf p (fun m => { m with retryAt := none })
      else s0.testStart p why attempt)

/-- BLOCK_TRIGGERED_TEST (R161, R172): in the first frame with the port in RUN and no other test of the string. -/
def execBlockTriggeredTest (port : PortIx) (s : State) : Host.Outcome State Fault Refusal :=
  let s0 := s.atP 0
  let p := port.val
  let m := tget s0.meas.fe p
  ok (if m.blkTestDue && decide ((s0.lnk p).state = .run) && !s0.testRuns (strOfPort p) then
      s0.testStart p .block (m.blkAttempts + 1)
    else s0)

/-- The shift of cell `w` under pattern 1: up for an odd wire index, down for an even one (R163). -/
def shift1 (w : Nat) : Int := if w % 2 = 1 then 1 else -1

/-- `pair_resp` of R163 for inner wire `w` under one pattern. -/
def pairResp (tOw tol sgn_ : Int) (d : Nat → Int) (w : Nat) : Bool :=
  decide (tOw ≤ sgn_ * d w) && decide (tOw ≤ -sgn_ * d (w - 1)) && decide (((d w + d (w - 1)).natAbs : Int) ≤ tol)

/-- `end_resp` of R163. -/
def endResp (tOw tol db : Int) (d1 d2 : Nat → Int) (cell other : Nat) (sgn_ : Int) : Bool :=
  decide (tOw ≤ sgn_ * d1 cell) && decide (tOw ≤ -sgn_ * d2 cell) && decide (((d1 other).natAbs : Int) < tOw) &&
    decide (((d2 other).natAbs : Int) < tOw) && decide ((db.natAbs : Int) ≤ tol)

/-- `open[w]` of R163 for a front end of `n` cells. -/
def wireOpens (n : Nat) (tOw tol db : Int) (d1 d2 : Nat → Int) (w : Nat) : Bool :=
  if w = 0 then endResp tOw tol db d1 d2 0 1 (shift1 0)
  else if w = n then endResp tOw tol db d1 d2 (n - 1) (n - 2) (-shift1 n)
  else if w < n then pairResp tOw tol (shift1 w) d1 w && pairResp tOw tol (-shift1 w) d2 w
  else false

/-- `unlocated` of R163: a response left unexplained. -/
def unlocatedOf (n : Nat) (tOw : Int) (opens : Nat → Bool) (d1 d2 : Nat → Int) : Bool :=
  (upFrom 0 n).any (fun c =>
    (decide (tOw ≤ ((d1 c).natAbs : Int)) || decide (tOw ≤ ((d2 c).natAbs : Int))) && !opens c && !opens (c + 1))

/-- The larger in magnitude of two changes. -/
def larger (a b : Int) : Int := if a.natAbs < b.natAbs then b else a

/-- What a test found: open wires, an unlocated fault, and the changes it decided on. -/
structure OwFound where
  wires : List Nat
  unlocated : Bool
  d1 : Nat → Int
  d2 : Nat → Int
  db : Int

/-- The decision of R163 on a finished test of a front end with `n` cells. -/
def OwTest.decide_ (t : OwTest) (cfg : MeasCfg) (n : Nat) : OwFound :=
  let d1 (c : Nat) : Int := tget t.resp1 c - tget t.base c
  let d2 (c : Nat) : Int := tget t.resp2 c - tget t.base c
  let db := 100 * larger (tget t.blocks 1 - tget t.blocks 0) (tget t.blocks 2 - tget t.blocks 0)
  let tOw := 10000 * (cfg.owThresh : Int)
  let opens := wireOpens n tOw (1000 * (cfg.owSumtol : Int)) db d1 d2
  { wires := (upFrom 0 (n + 1)).filter opens, unlocated := unlocatedOf n tOw opens d1 d2, d1 := d1, d2 := d2, db := db }

/-- `MEAS_WIRE_OPEN` for a wire, with the changes of the cells below and above it. -/
def State.wireEvent (s : State) (p w n : Nat) (r : OwFound) : State :=
  let lo (d : Nat → Int) : Int := if 0 < w ∧ w ≤ n then d (w - 1) else 0
  let hi (d : Nat → Int) : Int := if w < n then d w else 0
  s.ev 0x0602 (le 1 p ++ le 1 w ++ leI 4 (lo r.d1) ++ leI 4 (lo r.d2) ++ leI 4 (hi r.d1) ++ leI 4 (hi r.d2) ++
    leI 4 r.db)

/-- Declare what a test found (R164): an event per new fault, `WIRE` on the affected cells, the SF-07 hold. -/
def State.wireDeclare (s : State) (p : Nat) (r : OwFound) (atOnce : Bool) : State :=
  let m := tget s.meas.fe p
  let n := s.cellsOn p
  let k := strOfPort p
  let fresh := r.wires.filter (fun w => !m.wires.getLsbD w)
  let freshUn := r.unlocated && !m.unlocated
  let s1 := fresh.foldl (fun u w => u.wireEvent p w n r) s
  let s2 := if freshUn then s1.wireEvent p 0xFF n r else s1
  let first := match r.wires with
    | w :: _ => w
    | [] => 0xFF
  let s3 := s2.modMf p (fun x =>
    { x with
      wires := r.wires.foldl (fun b w => b ||| ((1 : BitVec 65) <<< w)) x.wires,
      unlocated := x.unlocated || r.unlocated })
  let s4 := s3.modMs k (fun x => { x with first := if x.first.isSome then x.first else some (p, first) })
  if fresh = [] ∧ !freshUn ∧ !atOnce then s4.wireFlags p
  else (s4.wireFlags p).wireDeclared k first atOnce

/-- Why a finished test is void: 1 an upload, 2 the pattern flags, 3 the current (R161); 0 for none. -/
def State.voidCause (s : State) (t : OwTest) : Nat :=
  let far (i : Nat) : Bool := decide (s.qDesign < 72000 * (tget t.cur i - tget t.cur 0).natAbs)
  if t.got ≠ 7 then 1 else if t.active ≠ 6 then 2 else if far 1 || far 2 then 3 else 0

/-- A void test (R161, R174, R79). -/
def State.testVoid (s : State) (p : Nat) (t : OwTest) (cause : Nat) : State :=
  let k := strOfPort p
  let block := decide (t.why = .block)
  let s1 := s.ev 0x0603 (le 1 p ++ le 1 (if block then 4 else cause) ++ le 1 t.attempt ++ le 1 (if block then cause else 0))
  let s2 := s1.modMs k (fun x => { x with voids := sat32u (x.voids + 1) })
  if t.attempt < 3 then
    s2.modMf p (fun m =>
      { m with
        test := none,
        retryAt := match t.why with
          | .rotation => some (t.start + 5, t.attempt + 1, .rotation)
          | .survey => some (s.now + 1, t.attempt + 1, .survey)
          | .block => none,
        blkAttempts := if block then t.attempt else m.blkAttempts })
  else
    let s3 := s2.modMf p (fun m =>
      { m with
        test := none, retryAt := none, void3 := true, blkTestDue := m.blkTestDue && !block,
        blkAttempts := if block then 0 else m.blkAttempts, sf06Invalid := m.sf06Invalid || block })
    if t.why = .survey then
      s3.modStr k (fun x => { x with survey := x.survey.map (fun v => { v with owVoid := true }) })
    else s3

/-- A test that is not void (R163, R164, R172). -/
def State.testGood (s : State) (p : Nat) (t : OwTest) : State :=
  let k := strOfPort p
  let r := t.decide_ s.meas.cfg (s.cellsOn p)
  let none_ := decide (r.wires = []) && !r.unlocated
  let block := decide (t.why = .block)
  let s1 := (s.modMs k (fun x => { x with tests := sat32u (x.tests + 1) })).modMf p (fun m =>
    { m with
      test := none, retryAt := none, void3 := false, blkTestDue := m.blkTestDue && !block,
      blkAttempts := if block then 0 else m.blkAttempts, sf06Invalid := m.sf06Invalid || (block && none_) })
  let s2 := if t.why = .survey then
      s1.modStr k (fun x => { x with survey := x.survey.map (fun v =>
        { v with owDone := v.owDone ||| ((1 : BitVec 8) <<< (p % 8)) }) })
    else s1
  if none_ then s2 else s2.wireDeclare p r (decide (t.why = .survey))

/-- OW_TEST_EVALUATE (R163): at pulse 450 of T + 2, void or decided. -/
def execOwTestEvaluate (port : PortIx) (s : State) : Host.Outcome State Fault Refusal :=
  let s0 := s.atP 450
  let p := port.val
  ok (match (tget s0.meas.fe p).test with
    | none => s0
    | some t =>
      if s0.now < t.start + 2 then s0
      else
        let c := s0.voidCause t
        if c = 0 then s0.testGood p t else s0.testVoid p t c)

/-! ### Cross-checks (R172, R173) -/

/-- Set or clear `BLK` on the cells of a port. -/
def State.blkFlags (s : State) (p : Nat) (b : Bool) : State :=
  { s with cells := tmodAll s.cells (upFrom (cellIx p 0) (s.cellsOn p)) (fun _ x => { x with flags := flagIf x.flags 7 b }) }

/-- `MEAS_BLOCK_FAULT`. -/
def State.blockEvent (s : State) (p k : Nat) (residual : Int) (kind : Byte) : State :=
  s.ev 0x0605 (le 1 p ++ le 1 k ++ leI 4 residual ++ [kind])

/-- MEAS_BLOCK_FAULT (R172): 10 consecutive failing comparisons. -/
def execMeasBlockFault (p : Pulse) (port : PortIx) (s : State) : Host.Outcome State Fault Refusal :=
  let s0 := s.atP p.val
  let q := port.val
  let m := tget s0.meas.fe q
  ok (if 10 ≤ m.blkFail ∧ !m.blk then
      ((s0.blkFlags q true).blockEvent q (strOfPort q) m.blkResidual 0x01).modMf q (fun x =>
        { x with blk := true, blkTestDue := true, blkAttempts := 0 })
    else s0)

/-- BLK_CLEAR (R172): 10 consecutive passing comparisons. -/
def execBlkClear (p : Pulse) (port : PortIx) (s : State) : Host.Outcome State Fault Refusal :=
  let s0 := s.atP p.val
  let q := port.val
  let m := tget s0.meas.fe q
  ok (if 10 ≤ m.blkPass ∧ m.blk then
      ((s0.blkFlags q false).blockEvent q (strOfPort q) m.blkResidual 0x80).modMf q (fun x =>
        { x with blk := false, blkTestDue := false, sf06Invalid := false })
    else s0)

/-- STRING_SUM_FAULT (R173): 100 consecutive failing string comparisons are an unlocated wire fault of the string. -/
def execStringSumFault (str : StrIx) (s : State) : Host.Outcome State Fault Refusal :=
  let s0 := s.atP 400
  let k := str.val
  let m := tget s0.meas.str k
  ok (if 100 ≤ m.sumFail ∧ !m.sumFault then
      let sum := sumL ((s0.fittedOf k).map (fun p => (tget s0.meas.fe p).block))
      let s1 := s0.blockEvent 0xFF k (sum - (s0.pp k).vstr.at10) 0x01
      let s2 := s1.modMs k (fun x =>
        { x with sumFault := true, first := if x.first.isSome then x.first else some (0xFF, 0xFF) })
      ((portsOf k).foldl (fun u p => u.wireFlags p) s2).wireDeclared k 0xFF false
    else s0)

/-- WIRE_OPEN_DEADLINE (R165, R170): the opening is taken regardless of current. -/
def execWireOpenDeadline (p : Pulse) (str : StrIx) (s : State) : Host.Outcome State Fault Refusal :=
  let s0 := s.atP p.val
  let k := str.val
  let due (d : Option Nat) : Bool := d.any (fun f => decide (f ≤ s0.now))
  let s1 := if due (tget s0.meas.str k).wireDeadline then s0.wireOpen k else s0
  ok (if due (tget s1.meas.str k).thDeadline then s1.thOpen k else s1)

/-- The pending openings of R165 and R170 in a frame with low current. -/
def State.wireOpenLow (s : State) (k : Nat) : State :=
  let m := tget s.meas.str k
  if (m.wireDeadline.isSome ∨ m.thDeadline.isSome) ∧ s.lowCurrent k (s.pp k).icur.sample then
    let s1 := if m.wireDeadline.isSome then s.wireOpen k else s
    if m.thDeadline.isSome then s1.thOpen k else s1
  else s

/-! ### Thermistors (R167 to R170, R304) -/

/-- Two thermistors next to each other in a string's list are adjacent (R170): on one front end, or on neighbouring
ones. -/
def adjacentTh (i j : Nat) : Bool := decide (j / 16 = i / 16) || decide (j / 16 = i / 16 + 1)

/-- Two neighbours of a list meet a test. -/
def anyNeighbours (f : Nat → Nat → Bool) : List Nat → Bool
  | a :: b :: t => f a b || anyNeighbours f (b :: t)
  | _ => false

/-- The string is to be taken out of service for its thermistors (R170); a thermistor that either side holds broken
counts (R168). -/
def State.thOut (s : State) (k : Nat) : Bool :=
  let br (i : Nat) : Bool := (tget s.th i).broken || (tget s.mkTh i).isBroken
  let l := s.thsOf k
  decide (3 ≤ (l.filter br).length) || anyNeighbours (fun i j => br i && br j && adjacentTh i j) l

/-- MEAS_OUT_OF_SERVICE of a string for thermistors (R170): the pending opening, or its cancellation. -/
def State.outOfService (s : State) (k : Nat) : State :=
  let m := tget s.meas.str k
  let open_ := has (s.pst k).latched 2
  if s.thOut k then
    if m.thDeadline.isSome ∨ (open_ ∧ m.thService) then s
    else
      let d := s.now + 1000 * s.meas.cfg.owDeadline
      let s1 := (s.ev 0x0606 (le 1 k ++ [2] ++ le 6 d)).modMs k (fun x =>
        { x with thService := true, thDeadline := if open_ then none else some d })
      if (s1.str k).state = .opened ∧ !open_ then s1.thOpen k else s1
  else s.modMs k (fun x => { x with thDeadline := none, thService := false })

/-- `MEAS_TH_FAULT` of a thermistor, with the reading it was judged on. -/
def State.thEvent (s : State) (p t kind : Nat) (reading : Int) : State :=
  s.ev 0x0604 (le 1 p ++ le 1 t ++ le 1 kind ++ leI 2 reading ++ leI 2 (tget s.th (thIx p t)).te)

/-- The kind of an open or shorted reading (Table 6-10); a not-fitted code counts as open. -/
def thKind (v : Int) : Nat := if v = -0x8000 then 2 else 1

/-- THERMISTOR_OPEN_FAULT (R167, R168): two consecutive open or shorted converted frames, judged on each side from its own
copies; the measurement logic journals the break once, whichever side judged it first. -/
def execThermistorOpenFault (p : Pulse) (port : PortIx) (t : Fin 16) (s : State) : Host.Outcome State Fault Refusal :=
  let s0 := s.atP p.val
  let i := thIx port.val t.val
  let x := tget s0.th i
  let y := tget s0.mkTh i
  let s1 := if 2 ≤ y.badRun ∧ !y.broken then { s0 with mkTh := tput s0.mkTh i { y with broken := true, seen := true } } else s0
  ok (if (2 ≤ x.badRun ∨ 2 ≤ y.badRun) ∧ !x.broken ∧ has (s0.thOn port.val) t.val then
      let v := if 2 ≤ x.badRun then x.reading else y.reading
      let s2 := if y.isBroken then s1 else s1.thEvent port.val t.val (thKind v) v
      ({ s2 with th := tput s2.th i { x with broken := true, kind := thKind v, goodFrom := none } }).outOfService
        (strOfPort port.val)
    else s1)

/-- THERMISTOR_DISAGREE (R167, R304): the disagreement has lasted `MEAS_TH_PERSIST`. -/
def execThermistorDisagree (p : Pulse) (port : PortIx) (t : Fin 16) (s : State) : Host.Outcome State Fault Refusal :=
  let s0 := s.atP p.val
  let i := thIx port.val t.val
  let x := tget s0.th i
  ok (match x.disagreeFrom with
    | none => s0
    | some f =>
      if !x.broken ∧ f + 1000 * s0.meas.cfg.thPersist ≤ s0.now then
        let s1 := s0.thEvent port.val t.val 3 x.reading
        ({ s1 with
          th := tput s1.th i { x with broken := true, kind := 3, goodFrom := none },
          mkTh := tmod s1.mkTh i (fun y => { y with disagree := true }) }).outOfService (strOfPort port.val)
      else s0)

/-- THERMISTOR_RESTORED (R168): within 5 K of its expected value for 60 s. -/
def execThermistorRestored (p : Pulse) (port : PortIx) (t : Fin 16) (s : State) : Host.Outcome State Fault Refusal :=
  let s0 := s.atP p.val
  let i := thIx port.val t.val
  let x := tget s0.th i
  ok (match x.goodFrom with
    | none => s0
    | some f =>
      if x.broken ∧ f + 60000 ≤ s0.now then
        let s1 := s0.thEvent port.val t.val 0x80 x.reading
        ({ s1 with
          th := tput s1.th i { x with broken := false, kind := 0, goodFrom := none, disagreeFrom := none },
          mkTh := tmod s1.mkTh i (fun y => { y with restoreAsked := y.isBroken }) }).outOfService (strOfPort port.val)
      else s0)

/-- MARKHOR_TH_RESTORE (R304): the runtime has reported the restoration, and Markhor's copies show no open or shorted
reading in the last 60 s. -/
def execMarkhorThRestore (p : Pulse) (port : PortIx) (t : Fin 16) (s : State) : Host.Outcome State Fault Refusal :=
  let s0 := s.atP p.val
  let i := thIx port.val t.val
  let y := tget s0.mkTh i
  ok (if y.restoreAsked ∧ y.badRun = 0 ∧ y.lastBad + 60000 ≤ s0.now then
      { s0 with
        mkTh := tput s0.mkTh i { y with broken := false, disagree := false, restoreAsked := false } }.outOfService
          (strOfPort port.val)
    else s0)

/-! ### Status object 0x0610 + s -/

/-- The first frame after the present one in which no test now running on the string still runs. -/
def State.testsOver (s : State) (k : Nat) : Nat :=
  (portsOf k).foldl (fun f p => match (tget s.meas.fe p).test with
    | some t => max f (t.start + 3)
    | none => f) (s.now + 1)

/-- The frames after the present one in which a test of a port is to start: its slot of the rotation (R160), a void test's
new start, a block-triggered test that is due, the next test of a string survey (R161). -/
def State.testsDue (s : State) (k p : Nat) : List Int :=
  let i := s.meas.cfg.owInterval
  let per := 1000 * i
  let base := s.now / per * per + (125 * i * (p % 8) + 16 * k)
  let m := tget s.meas.fe p
  let after : Int := s.testsOver k
  [((if s.now < base then base else base + per : Nat) : Int)] ++
    (match m.retryAt with | some r => [max (r.1 : Int) after] | none => []) ++
    (if m.blkTestDue || decide (s.surveyTestNext k = some p) then [after] else [])

/-- `MEAS_NEXT_TEST`: the next frame in which a test starts on the string. -/
def State.nextTest (s : State) (k : Nat) : Nat := (minL 0 ((s.fittedOf k).flatMap (s.testsDue k))).toNat

/-- Set bits of a 65-bit mask. -/
def popcount65 (b : BitVec 65) : Nat := ((upFrom 0 65).filter (fun i => b.getLsbD i)).length

/-- `MEAS_STRING` (Table 6-9); a string not installed reports 0. -/
def State.objMeas (s : State) (k : Nat) : Bytes :=
  if !s.installed k then List.replicate 32 0
  else
    let m := tget s.meas.str k
    let ps := s.fittedOf k
    let faults := (ps.map (fun p =>
      let x := tget s.meas.fe p
      popcount65 x.wires + b2n x.unlocated)).foldl (· + ·) (b2n m.sumFault)
    let deadline := match m.wireDeadline, m.thDeadline with
      | some a, some b => min a b
      | some a, none => a
      | none, some b => b
      | none, none => 0
    le 1 m.tier ++ le 1 (s.tierUsed k) ++ le 1 (satN 255 faults) ++
      le 1 ((s.thsOf k).filter (fun i => (tget s.th i).broken)).length ++
      le 1 ((m.first.map (·.1)).getD 0xFF) ++ le 1 ((m.first.map (·.2)).getD 0xFF) ++
      le 1 (packBits ((upFrom 0 8).map (fun j => (tget s.meas.fe (8 * k + j)).blk))) ++ [0] ++ le 6 (s.nextTest k) ++
      [0, 0] ++ le 4 m.tests ++ le 4 m.voids ++ le 6 deadline ++ [0, 0]

end Sys2Proof.Machine
end

