-- ==== Sys2Proof/Machine/Thermal.lean ====
section
/-! DEFINITION. The cell thermal model (chapter 08): thermistor entries, plate, initialisation, the thermal step with
its observer, lead cells and prediction sets. -/

namespace Sys2Proof.Machine

/-- The Thermistor Table index of the thermistor that covers a cell (Table 0-4: THt covers cells 4t to 4t + 3). -/
def thOfCell (g : Nat) : Nat := 16 * (g / 64) + g % 64 / 4

/-- The thermistor input is fitted. -/
def State.thFitted (s : State) (i : Nat) : Bool := has (s.thOn (i / 16)) (i % 16)

/-- The port holds a converted upload of the present frame. -/
def State.portConv (s : State) (p : Nat) : Bool := (s.lnk p).used.any UpData.converted

/-- The thermistor gave a valid reading in the present frame. -/
def State.thGood (s : State) (i : Nat) : Bool := s.thFitted i && s.portConv (i / 16) && !thBad (tget s.th i).reading

/-! ### Plate (R223, R224) -/

/-- The value of the configured plate source, none while it is invalid. -/
def State.plateSource (s : State) (k : Nat) : Option Int :=
  let z := s.thm.cfg.zone k
  let inRange (v : Int) : Option Int := if -4000 ≤ v ∧ v ≤ 8000 then some v else none
  if z.1 = 0 then inRange z.2.2
  else if z.1 = 1 then
    match s.grz.hvacFrame with
    | none => none
    | some f => if s.now < f + 1000 then inRange s.grz.coolantT else none
  else
    let n := z.1 - 0x10
    let v := s.aiUse s.now n
    if 0 ≤ v ∧ v ≤ 100000 then inRange (s.thm.cfg.aiLo + muldiv (s.thm.cfg.aiHi - s.thm.cfg.aiLo) v 100000)
    else none

/-- Valid readings of the string's thermistors in its last converted frame; a broken one influences nothing (R222). -/
def State.validReadings (s : State) (k : Nat) : List Int :=
  ((s.thsOf k).filter (fun i => (tget s.th i).good && !(tget s.th i).broken)).map (fun i => (tget s.th i).reading)

/-- Plate temperature in use, and the source in use (R223, R224; Table 8-10). -/
def State.plateNow (s : State) (k : Nat) : Int × Nat :=
  match s.plateSource k with
  | some v => (v, (s.thm.cfg.zone k).1)
  | none =>
    match s.validReadings k with
    | [] => (s.prot.cfg.lim.otWarn, 0xFF)
    | vs => (maxL 0 vs, 0xFE)

/-- Take the plate temperature of a string, with `THM_PLATE_SOURCE` when its source turns invalid or valid again. -/
def State.plateTake (s : State) (k : Nat) : State :=
  let pl := s.plateNow k
  let bad := (s.plateSource k).isNone
  let s1 := s.evIf (decide (bad ≠ (tget s.thm.str k).plateInvalid)) 0x0802
    (le 1 k ++ le 1 (s.thm.cfg.zone k).1 ++ [if bad then 0x01 else 0x80] ++ leI 2 pl.1)
  { s1 with thm.str := tmod s1.thm.str k (fun x => { x with plate := pl.1, plateUsed := pl.2, plateInvalid := bad }) }

/-- PLATE_SOURCE_INVALID (R224): no `HVAC_BUDGET` for 1 s. -/
def execPlateSourceInvalid (p : Pulse) (str : StrIx) (s : State) : Host.Outcome State Fault Refusal :=
  let s0 := s.atP p.val
  ok (if (s0.plateSource str.val).isNone ∧ s0.installed str.val then s0.plateTake str.val else s0)

/-! ### Core temperature (R213, R225, R226) -/

/-- Mean of a list of readings, none of the empty list. -/
def meanI (l : List Int) : Option Int := if l = [] then none else some (divRound (sumL l) l.length)

/-- The temperature R225 initialises a cell with, 0.01 °C. -/
def State.initTemp (s : State) (g : Nat) : Int :=
  let i := thOfCell g
  let sound (j : Nat) : Bool := s.thGood j && !(tget s.th j).broken
  let good (is : List Nat) : Option Int := meanI ((is.filter sound).map (fun j => (tget s.th j).reading))
  if sound i then (tget s.th i).reading
  else
    match good (upFrom (16 * (g / 64)) 16) with
    | some v => v
    | none =>
      match good (s.thsOf (g / 512)) with
      | some v => v
      | none => (s.plateNow (g / 512)).1

/-- A stored temperature in 0.01 °C (R213). -/
def centi (v : Int) : Int := divRound v 100000

/-- Core temperature of a cell as the estimation pass uses it (R213, R226). -/
def State.coreTemp (s : State) (g : Nat) : Int :=
  let x := tget s.cells g
  if x.tflags.getLsbD 0 then centi x.tc else s.initTemp g

/-! ### Thermistor entries and initialisation (R215, R225) -/

/-- The thermal pass's update of a converted port: `THM_TX`, `THM_XFLAGS` and `THM_TH` (R215, R169). -/
def State.thUpdate (s : State) (p : Nat) : State :=
  if !s.portConv p then s
  else
    let is := ((upFrom 0 16).filter (has (s.thOn p))).map (thIx p)
    let th := tmodAll s.th is (fun _ x =>
      { x with
        fitted := true, valid := x.good, xBroken := x.broken, openShort := !x.good,
        tx := if x.broken then s.prot.cfg.lim.otWarn + 100 else if thBad x.reading then x.tx else x.reading })
    { s with
      th := th,
      cells := tmodAll s.cells (upFrom (cellIx p 0) (s.cellsOn p)) (fun g x =>
        { x with th := if s.thFitted (thOfCell g) then (tget th (thOfCell g)).tx else 0x7FFE }) }

/-- Initialise the thermal state of a string's cells whose port converted (R225), with `THM_INIT`. -/
def State.thInit (s : State) (k : Nat) : State :=
  let gs := (s.cellsOf k).filter (fun g => !(tget s.cells g).tflags.getLsbD 0 && s.portConv (g / 64))
  if gs = [] then s
  else
    let t := tget s.thm.str k
    let occ := if (tget s.est.str k).leftUnsurveyed then 2 else 1
    let s1 := s.evIf (!t.initSeen) 0x0801 (le 1 k ++ le 2 gs.length ++ le 1 occ)
    { s1 with
      cells := tmodAll s1.cells gs (fun g x =>
        { x with tc := sat32 (100000 * s.initTemp g), ts := sat32 (100000 * s.initTemp g), tflags := x.tflags ||| 1, miss := 0 }),
      aux := tmodAll s1.aux gs (fun _ a => { a with thmFirst := true }),
      thm.str := tmod s1.thm.str k (fun x => { x with initSeen := true }),
      est.str := tmod s1.est.str k (fun e =>
        if e.thmPrev.isNone then { e with thmPrev := some s.now, sqSum := 0, sqN := 0, sqPast := [] } else e) }

/-! ### The thermal step (R216 to R222) -/

/-- `phi` of R219: `1 − exp(−Δt × g ÷ (c × 10⁶))`, Q0.32. -/
def phi (dt g c : Int) : Int :=
  let x := muldiv (dt * g) 4294967296 (c * 1000000)
  if x < 16777216 then x - muldiv x x 8589934592 else 0xFFFFFFFF - expNeg (x / 65536)

/-- The heat of a cell in mW (R216). -/
def State.heat (s : State) (g : Nat) (ims : Int) : Int :=
  let x := tget s.cells g
  sat32 (divRound (ims * x.rs) 1000000000000 + divRound (x.i * (x.va + x.vb)) 1000000 +
    divRound (x.i * (centi x.tc + 27315) * s.chem.entropicOf x.soc) 100000000000)

/-- Gp × z ÷ 100 of a string. -/
def State.gpz (s : State) (k : Nat) : Int := divRound ((s.thm.cfg.gp : Int) * (s.thm.cfg.zone k).2.1) 100

/-- One node update of R219 without the observer: the surface and the core after Δt ms. `nb` are the neighbours'
surface temperatures. -/
def nodeStep (c : ThmCfg) (gpz tplate dt p tc ts : Int) (nb : List Int) : Int × Int :=
  let gt := (c.gcs : Int) + gpz + c.gn * nb.length
  let teqS := divRound (c.gcs * tc + gpz * tplate + c.gn * sumL nb) gt
  let ts2 := ts + muldiv (teqS - ts) (phi dt gt c.cs) 4294967296
  let teqC := ts + divRound (p * 10000000) c.gcs
  (tc + muldiv (teqC - tc) (phi dt c.gcs c.cc) 4294967296, ts2)

/-- The observer's correction of a surface (R221): Δs and whether the clamp acted. -/
def observerDs (c : ThmCfg) (r dt : Int) : Int × Bool :=
  let d := if 32768 * 1000 < (c.obsKs : Int) * dt then divRound (r * 32768) 65536 else muldiv r (c.obsKs * dt) 65536000
  let m := (c.obsMax : Int) * dt * 100
  (clampI (-m) m d, decide (m < d) || decide (d < -m))

/-- A cell's stepped temperatures while a pass runs. -/
structure Stepped where
  g : Nat := 0
  tc : Int := 0
  ts : Int := 0
  dt : Int := 0
  p : Int := 0
  deriving DecidableEq, Repr, Inhabited

/-- The thermal step of the cells `gs` of string `k` (R217 to R222): node updates from the values before the pass,
then the observer per thermistor. -/
def State.thStep (s : State) (k : Nat) (gs : List Nat) : State :=
  let c := s.thm.cfg
  let e := tget s.est.str k
  let ims (g : Nat) : Int :=
    let past := e.sqPast.take (tget s.cells g).miss
    divRound (e.sqSum + (past.map (·.1)).sum : Nat) (e.sqN + (past.map (·.2)).sum : Nat)
  let tplate := 100000 * (tget s.thm.str k).plate
  let base : Int := (s.now - e.thmPrev.getD (s.now - 10) : Nat)
  let dtOf (g : Nat) : Int :=
    if (tget s.aux g).thmFirst then 10 else base * (1 + (tget s.cells g).miss)
  let node (g : Nat) : Stepped :=
    let x := tget s.cells g
    let nb := (([(g : Int) - 1, g + 1]).filter (fun j =>
      decide (0 ≤ j) && decide (j.toNat / 64 = g / 64) && decide (j.toNat % 64 < s.cellsOn (g / 64)))).map
        (fun j => (tget s.cells j.toNat).ts)
    let p := s.heat g (ims g)
    let r := nodeStep c (s.gpz k) tplate (dtOf g) p x.tc x.ts nb
    { g := g, tc := r.1, ts := r.2, dt := dtOf g, p := p }
  let ns := gs.map node
  let ofTh (i : Nat) : List Stepped := ns.filter (fun n => decide (thOfCell n.g = i))
  let mean (i : Nat) : Int := divRound (sumL ((ofTh i).map (·.ts))) (ofTh i).length
  let acts (i : Nat) : Bool := s.thGood i && !(tget s.th i).broken
  let corr (i : Nat) : Int × Bool :=
    if acts i then
      observerDs c (100000 * (tget s.th i).reading - mean i) (((ofTh i).head?.map (·.dt)).getD 10)
    else (0, false)
  let ths := (s.thsOf k).filter (fun i => decide (ofTh i ≠ []))
  let cells := ns.foldl (fun t n =>
    let i := thOfCell n.g
    let d := corr i
    tmod t n.g (fun x =>
      { x with
        tc := sat32 (n.tc + divRound (d.1 * c.obsKc) 65536), ts := sat32 (n.ts + d.1), pw := n.p, miss := 0,
        tflags := BitVec.ofNat 8 (packBits [true, true, false, acts i, d.2, !acts i]) })) s.cells
  { s with
    cells := cells,
    aux := tmodAll s.aux gs (fun _ a => { a with thmFirst := false }),
    th := tmodAll s.th ths (fun i x =>
      let te := sat16 (centi (mean i))
      let diff := (x.reading - te).natAbs
      let good := s.thGood i
      { x with
        te := te,
        tr := if acts i then sat16 (centi (100000 * x.reading - mean i)) else 0,
        disagreeFrom :=
          if good && decide (100 * s.meas.cfg.thDisagree < diff) then some (x.disagreeFrom.getD s.now) else none,
        goodFrom := if x.broken && good && decide (diff ≤ 500) then some (x.goodFrom.getD s.now) else none }) }

/-- A cell whose due thermal step was not reached (R218). -/
def CellEntry.thMiss (x : CellEntry) : CellEntry :=
  { x with tflags := (x.tflags &&& ~~~(0x02 : Byte)) ||| 0x04, miss := satN 255 (x.miss + 1) }

/-! ### Lead cells and prediction (R227 to R229) -/

/-- A Thermistor Table entry as table memory holds it (Table 8-3). -/
def ThEntry.bytes (x : ThEntry) : Bytes :=
  leI 2 x.tx ++ leI 2 x.te ++ leI 2 x.tr ++ [BitVec.ofNat 8 (packBits [x.fitted, x.valid, x.xBroken, x.openShort]), 0]

/-- A prediction set entry as table memory holds it (Table 8-5). -/
def PredEntry.bytes (e : PredEntry) : Bytes :=
  le 2 e.g ++ [0, 0] ++ le 4 e.reff ++ leI 4 e.e ++ (upFrom 0 4).flatMap (fun i => leI 4 (nthI e.a i)) ++
    (upFrom 0 4).flatMap (fun i => leI 4 (nthI e.b i)) ++ [0, 0, 0, 0]

/-- Put a cell into a list sorted from the highest key, ties with the lower cell first. -/
def insertTop (key : Nat → Int) (g : Nat) : List Nat → List Nat
  | [] => [g]
  | a :: t => if key a < key g ∨ (key a = key g ∧ g < a) then g :: a :: t else a :: insertTop key g t

/-- The `n` cells with the highest keys, ties to the lower cell. -/
def topBy (n : Nat) (key : Nat → Int) (gs : List Nat) : List Nat :=
  (gs.foldl (fun l g => (insertTop key g l).take n) [])

/-- R_eff of a cell (R227), nΩ. -/
def State.rEff (s : State) (g : Nat) : Int :=
  let x := tget s.cells g
  let tp := s.chem.tempPos (s.coreTemp g)
  x.rs + s.chem.raOf x.soc tp + s.chem.rbOf x.soc tp

/-- The cells a string models: present, in a surveyed string. -/
def State.modelled (s : State) (k : Nat) : List Nat :=
  if (s.str k).state = .unsurveyed then [] else s.cellsOf k

/-- LEAD_CELL_SELECT (R227). -/
def State.leadSelect (s : State) (k : Nat) : State :=
  let n := s.thm.cfg.lead / 2
  let gs := s.modelled k
  let a := topBy n (fun g => (tget s.cells g).tc) gs
  let b := topBy n s.rEff (gs.filter (fun g => !a.contains g))
  { s with thm.str := tmod s.thm.str k (fun x => { x with leads := a ++ b }) }

/-- `n` sub-steps of the lead-cell model, without neighbours, from a core and a surface temperature. -/
def leadRun (c : ThmCfg) (gpz tplate p dt : Int) : Nat → Int × Int → Int × Int
  | 0, x => x
  | n + 1, x => leadRun c gpz tplate p dt n (nodeStep { c with gn := 0 } gpz tplate dt p x.1 x.2 [])

/-- Table 8-4: sub-steps and their length in ms. Each horizon's sub-steps go on from the horizon before. -/
def predSteps : List (Nat × Int) := [(4, 500), (4, 2000), (5, 10000), (14, 60000)]

/-- The core temperature at each horizon of a list of sub-steps, one horizon after the other. -/
def leadCores (c : ThmCfg) (gpz tplate p : Int) : List (Nat × Int) → Int × Int → List Int
  | [], _ => []
  | h :: t, x =>
    let y := leadRun c gpz tplate p h.2 h.1 x
    y.1 :: leadCores c gpz tplate p t y

/-- The prediction entry of a lead cell (R228, Table 8-5). -/
def State.predEntry (s : State) (k g : Nat) : PredEntry :=
  let x := tget s.cells g
  let c := s.thm.cfg
  { g := g, reff := sat32u (s.rEff g).toNat,
    e := sat32 (divRound ((centi x.tc + 27315) * s.chem.entropicOf x.soc) 100000),
    a := (leadCores c (s.gpz k) (100000 * (tget s.thm.str k).plate) 0 predSteps (x.tc, x.ts)).map sat32,
    b := (leadCores c (s.gpz k) 0 1000 predSteps (0, 0)).map (clampI 0 0xFFFFFFFF) }

/-- PREDICTION_SET of a string (R228). -/
def State.predSet (s : State) (k : Nat) : State :=
  let l := (tget s.thm.str k).leads
  { s with thm.str := tmod s.thm.str k (fun x =>
      { x with pred := l.map (s.predEntry k), predFrame := s.now, predStale := false }) }

/-- Heat of a lead cell at a current, mW (R228). -/
def PredEntry.heatAt (e : PredEntry) (i : Int) : Int := divRound (i * i * e.reff) 1000000000000 + divRound (i * e.e) 1000000

/-- Predicted core temperature at horizon `h` (0 to 3) and a current, 0.1 µK (R228). -/
def PredEntry.tempAt (e : PredEntry) (h : Nat) (i : Int) : Int := nthI e.a h + divRound (nthI e.b h * e.heatAt i) 1000

/-! ### Status object (R232) -/

/-- The cell of a list with the highest value, ties to the first. -/
def argMax (key : Nat → Int) : List Nat → Option Nat
  | [] => none
  | a :: t => some (t.foldl (fun m g => if key m < key g then g else m) a)

/-- `THM_STRING` (Table 8-10). -/
def State.objThm (s : State) (k : Nat) : Bytes :=
  if !s.installed k then List.replicate 32 0
  else
    let t := tget s.thm.str k
    let gs := s.modelled k
    let cell (g : Nat) : CellEntry := tget s.cells g
    let hot := (argMax (fun g => (cell g).tc) gs).getD 0
    let cur := (tget s.est.str k).cur10
    let pred (h : Nat) : Int := centi (maxL 0 (t.pred.map (fun e => e.tempAt h cur)))
    leI 2 (sat16 (centi (maxL 0 (gs.map (fun g => (cell g).tc))))) ++ le 2 hot ++
      leI 2 (sat16 (centi (maxL 0 (gs.map (fun g => (cell g).ts))))) ++ leI 2 t.plate ++ le 1 t.plateUsed ++
      le 1 (packBits [t.predStale, t.plateInvalid, gs.any (fun g => (cell g).tflags.getLsbD 5)]) ++ [0, 0] ++
      (upFrom 0 4).flatMap (fun h => leI 2 (sat16 (pred h))) ++ le 6 t.predFrame ++
      leI 4 (sat32 (sumL (gs.map (fun g => (cell g).pw)))) ++ [0, 0]

end Sys2Proof.Machine
end

