-- ==== Sys2Proof/Machine/Est.lean ====
section
/-! DEFINITION. Cell state estimation (chapter 07): the step of one cell, references, requests and excursions. -/

namespace Sys2Proof.Machine

/-! ### The step of one cell (R191 to R202) -/

/-- The cell's sample of the present frame is usable (R192): a converted frame, and none of `TEST`, `WIRE`, `SAT`,
`HOLD`, `BLK`. -/
def State.usableSample (s : State) (g : Nat) : Bool :=
  s.portConv (g / 64) && decide ((tget s.cells g).flags &&& 0xBC = 0)

/-- What estimation reads of a string for the steps of a frame. -/
structure StrIn where
  now : Nat := 0
  cur : Int := 0
  curPrev : Int := 0
  qSum : Int := 0
  atRest : Bool := false
  builtIn : Bool := false
  neq : Nat := 0
  balR : Nat := 330
  deriving DecidableEq, Repr, Inhabited

/-- A reference taken in a step: kind (Table 7-13) and SoC correction in 0.001 %. -/
abbrev RefTaken := Nat × Int

/-- The result of a step: the cell, what Eland holds of it, the references taken, and whether it was initialised. -/
structure CellOut where
  x : CellEntry := {}
  a : CellAux := {}
  refs : List RefTaken := []
  cold : Bool := false
  deriving DecidableEq, Repr, Inhabited

/-- The filter states of an entry. -/
def CellEntry.filt (x : CellEntry) : Filt := { soc := x.soc, va := x.va, vb := x.vb, h := x.h, p := x.p }

/-- Filter states written to an entry with σ. -/
def CellEntry.withFilt (x : CellEntry) (f : Filt) : CellEntry :=
  { x with soc := f.soc, va := f.va, vb := f.vb, h := f.h, p := f.p, sigma := covSigma f.p }

/-- A SoC difference in 0.001 %. -/
def socUnits (d : Int) : Int := muldiv d 100000 4294967296

/-- Cold initialisation of a cell at its first usable sample (R206). -/
def cellCold (c : Chem) (cfg : EstCfg) (i : StrIn) (temp : Int) (x : CellEntry) (a : CellAux) : CellOut :=
  let f := coldInit c cfg (c.tempPos temp) x.v i.cur
  { x := { x.withFilt f with
             rho := 4096, eflags := 0x40, eocRun := 0, eodRun := 0, eocArmed := true, eodArmed := true, refFrame := 0,
             i := 0, innov := 0, rs := sat32u (c.rsUse f.soc (c.tempPos temp) 4096).toNat,
             stepFrame := i.now % 4294967296 },
    a := { a with init := true, qStep := i.qSum, balQStep := x.balQ, usablePrev := none, sleepOwed := false },
    cold := true }

/-- The resistance factor after a measurement update (R197). -/
def rhoNext (cfg : EstCfg) (rho : Nat) (num di rsTab : Int) : Nat :=
  let m := clampI 1024 32768 (muldiv (num * 1000000) 4096 (di * rsTab))
  (clampI 2048 16384 (rho + divRound (m - rho) (2 ^ cfg.rsShift : Nat))).toNat

/-- The end runs of R199 and R200 with a usable sample: end of discharge, then end of charge. Run and armed of each,
and which end's reference is taken. -/
def endRuns (c : Chem) (vcomp cur : Int) (x : CellEntry) : CellEntry × Bool × Bool :=
  let dRun := if x.eodArmed ∧ vcomp ≤ c.vEod ∧ cur ≤ 0 then x.eodRun + 1 else 0
  let cRun := if x.eocArmed ∧ c.vEoc ≤ vcomp ∧ 0 ≤ cur then x.eocRun + 1 else 0
  let dTake := decide (3 ≤ dRun)
  let cTake := decide (3 ≤ cRun)
  ({ x with
     eodRun := if dTake then 0 else dRun, eocRun := if cTake then 0 else cRun,
     eodArmed := !dTake && (x.eodArmed || decide (c.vEod + 50000 < vcomp)),
     eocArmed := !cTake && (x.eocArmed || decide (vcomp < c.vEoc - 50000)) }, dTake, cTake)

/-- Set the SoC of an end reference with its variance (R200). -/
def endSet (soc sigma : Nat) (f : Filt) : Filt :=
  { f with
    soc := soc,
    p := covOf (fun a b => if a = 0 ∧ b = 0 then (sigma * sigma : Nat) else if a = 0 ∨ b = 0 then 0 else covAt f.p a b) }

/-- One step of an initialised cell (R195 to R202). -/
def cellStep (c : Chem) (cfg : EstCfg) (i : StrIn) (temp : Int) (usable : Bool) (x : CellEntry) (a : CellAux) : CellOut :=
  let tp := c.tempPos temp
  let dt : Int := ((i.now + 4294967296 - x.stepFrame) % 4294967296 * 1000 : Nat)
  let qe := c.qEff i.neq temp
  let qmax : Int := if a.sleepOwed then divRound (x.v * dt * 9855) (1000000 * i.balR) else 0
  let bal : Int := ((x.balQ + 4294967296 - a.balQStep) % 4294967296 : Nat)
  let q := i.qSum - a.qStep - bal * 1000000 - divRound qmax 2
  let f0 := x.filt
  let f1 := { f0 with
    p := covOf (fun k j => covAt f0.p k j + (if k = 0 ∧ j = 0 then divRound (qmax * qmax) (1200 * qe * qe) else 0)) }
  let fp := predict c cfg { dt := dt, q := q, tp := tp, qe := qe } f1
  let rest := usable && i.atRest && !a.restDone
  let fr := if rest then restReset fp else fp
  let o := observe c tp x.rho x.v i.cur fr
  let gated := decide (o.hs.natAbs < cfg.slopeMin) && !rest
  let fm := if usable then measure o (if rest then cfg.rRest else cfg.rMeas) gated fr else fp
  let di := i.cur - i.curPrev
  let rhoDue := usable && decide (a.usablePrev = some (i.now - 1)) && decide (0 < i.now) &&
    decide (cfg.rsStep * c.capacity ≤ 360000 * di.natAbs) && decide (di ≠ 0)
  let vab := fr.va + fr.vb
  let rho := if rhoDue then
      rhoNext cfg x.rho (x.v - a.vPrev - (vab - a.vabPrev) - (o.ocv - a.ocvPrev)) di (c.rsOf fr.soc tp)
    else x.rho
  let ends := if usable then endRuns c o.vcomp i.cur x else (x, false, false)
  let fe := if ends.2.1 then endSet c.socEod cfg.sigmaSet fm else fm
  let ff := if ends.2.2 then endSet c.socEoc cfg.sigmaSet fe else fe
  let floored := { ff with p := covFloors ff.p (if i.builtIn then cfg.sigmaCold else cfg.sigmaSet) }
  let sigma := covSigma floored.p
  let isRef := decide (sigma ≤ cfg.sigmaRef)
  let x1 := ends.1.withFilt floored
  { x := { x1 with
      i := sat32 (divRound q dt),
      rs := sat32u (c.rsUse fr.soc tp x.rho).toNat, rho := rho,
      innov := if usable then sat16 (divRound o.y 10) else x.innov,
      vcomp := if usable then o.vcomp else x.vcomp,
      refFrame := if isRef then i.now else x.refFrame,
      stepFrame := i.now % 4294967296,
      eflags := BitVec.ofNat 8 (packBits [true, ff.clamp, usable && gated, rest, ends.2.1, ends.2.2,
        x.eflags.getLsbD 6 && !isRef]) },
    a := { a with
      qStep := i.qSum, balQStep := x.balQ, sleepOwed := false, restDone := a.restDone || rest,
      vPrev := if usable then x.v else a.vPrev, vabPrev := if usable then vab else a.vabPrev,
      ocvPrev := if usable then o.ocv else a.ocvPrev, usablePrev := if usable then some i.now else none },
    refs := (if ends.2.1 then [(1, socUnits ((c.socEod : Int) - fm.soc))] else []) ++
      (if ends.2.2 then [(2, socUnits ((c.socEoc : Int) - fe.soc))] else []) ++
      (if rest && isRef then [(3, socUnits ((fm.soc : Int) - fp.soc))] else []) }

/-! ### The pass over a string (R191, R193, R194, R207) -/

/-- The string is stepped in the present frame (R191, R194). -/
def State.stepDue (s : State) (k : Nat) : Bool :=
  s.installed k && decide ((s.str k).state ≠ .unsurveyed) &&
    (if s.mode.mode = .rest then decide (1 ≤ s.mode.wakeBurst ∧ s.mode.wakeBurst ≤ 10)
     else decide (s.now % (tget s.est.str k).interval = 0))

/-- What estimation reads of a string. -/
def State.strIn (s : State) (k : Nat) : StrIn :=
  let e := tget s.est.str k
  { now := s.now, cur := e.cur10, curPrev := e.cur10Prev, qSum := e.qSum, atRest := e.atRest, builtIn := s.builtIn,
    neq := s.neq k, balR := s.meas.cfg.balR }

/-- A reference with its cell, while a pass collects them. -/
abbrev RefCell := Nat × Nat × Int

/-- Step the cells `gs` of a string in ascending order; the references taken and the cells initialised. -/
def State.stepCells (s : State) (k : Nat) (gs : List Nat) : State × List RefCell × Nat :=
  let i := s.strIn k
  gs.foldl (fun (acc : State × List RefCell × Nat) g =>
    let u := acc.1
    let x := tget u.cells g
    let a := tget u.aux g
    let usable := u.usableSample g
    if !a.init ∧ !usable then acc
    else
      let o := if a.init then cellStep u.chem u.est.cfg i (u.coreTemp g) usable x a
        else cellCold u.chem u.est.cfg i (u.coreTemp g) x a
      ({ u with cells := tput u.cells g o.x, aux := tput u.aux g o.a },
        acc.2.1 ++ o.refs.map (fun r => (r.1, g, r.2)), acc.2.2 + b2n o.cold)) (s, [], 0)

/-- `EST_REFERENCE` for one kind of a string (R211): the cells, and the largest correction with its cell. -/
def State.refEvent (s : State) (k : Nat) (refs : List RefCell) (kind : Nat) : State :=
  match refs.filter (fun r => decide (r.1 = kind)) with
  | [] => s
  | r :: t =>
    let big := t.foldl (fun m x => if m.2.2.natAbs < x.2.2.natAbs then x else m) r
    s.ev 0x0701 (le 1 k ++ le 1 kind ++ le 2 (t.length + 1) ++ leI 4 big.2.2 ++ le 2 big.2.1)

/-- The estimation of a string in the present frame: its cells up to the last one reached, the others `STALE` (R193). -/
def State.estString (s : State) (k : Nat) (reached unreached : List Nat) : State :=
  let r := s.stepCells k reached
  let s1 : State := { r.1 with
    cells := tmodAll r.1.cells unreached (fun _ x => { x with eflags := x.eflags ||| 0x80 }),
    est.stepped := r.1.est.stepped + (reached.filter (fun g => (tget r.1.cells g).eflags.getLsbD 0)).length,
    est.stale := r.1.est.stale + unreached.length }
  let e := tget s1.est.str k
  let s2 := s1.evIf (decide (0 < r.2.2) && !e.coldSeen) 0x0704
    (le 1 k ++ le 2 r.2.2 ++ le 1 (if e.leftUnsurveyed then 2 else 1))
  let s3 := (s2.refEvent k r.2.1 1).refEvent k r.2.1 2 |>.refEvent k r.2.1 3
  { s3 with est.str := tmod s3.est.str k (fun x =>
      { x with
        coldSeen := x.coldSeen || decide (0 < r.2.2), cur10Prev := x.cur10, lastStep := some s.now,
        excursion := x.excursion.map (fun q =>
          { q with gotEnd := q.gotEnd || r.2.1.any (fun z => decide (z.1 = if q.charge then 2 else 1)) }) }) }

/-! ### Requests and excursions (R203 to R205) -/

/-- The string's cells that estimation steps and that are not flagged `WIRE`. -/
def State.judgedCells (s : State) (k : Nat) : List Nat :=
  (s.modelled k).filter (fun g => (tget s.aux g).init && !(tget s.cells g).flags.getLsbD 3)

/-- Reference age of a cell in frames, none when unbounded (R202). -/
def State.refAge (s : State) (g : Nat) : Option Nat :=
  let f := (tget s.cells g).refFrame
  if f = 0 then none else some (s.now - f)

/-- Largest reference age of cells in s, 0xFFFFFFFF if unbounded. -/
def State.refAgeMax (s : State) (gs : List Nat) : Nat :=
  gs.foldl (fun m g => max m (match s.refAge g with
    | none => 0xFFFFFFFF
    | some f => satN 0xFFFFFFFE (f / 1000))) 0

/-- Cause of a reference request on a string: 1 σ, 2 horizon, 3 both, 0 none (R203). -/
def State.requestCause (s : State) (k : Nat) : Nat :=
  let gs := s.judgedCells k
  let c := s.est.cfg
  if s.builtIn then 0
  else
    b2n (gs.any (fun g => decide (c.sigmaMax < (tget s.cells g).sigma))) +
      2 * b2n (gs.any (fun g => match s.refAge g with
        | none => true
        | some f => decide (c.horizon * 3600000 ≤ f)))

/-- Mean SoC of cells, Q0.32. -/
def State.meanSoc (s : State) (gs : List Nat) : Nat :=
  (divRound (sumL (gs.map (fun g => ((tget s.cells g).soc : Int)))) gs.length).toNat

/-- `EST_REFERENCE_REQUEST` of a string. -/
def State.requestEvent (s : State) (k cause : Nat) : State :=
  let gs := s.judgedCells k
  let g := (argMax (fun g => ((tget s.cells g).sigma : Int)) gs).getD 0
  s.ev 0x0702 (le 1 k ++ le 1 cause ++ [if 0x80000000 ≤ s.meanSoc gs then 1 else 2] ++ le 2 (tget s.cells g).sigma ++
    le 2 g ++ le 4 (s.refAgeMax gs))

/-- A request arises, stands or clears (R203). -/
def State.requests (s : State) (k : Nat) : State :=
  let c := s.requestCause k
  let old := (tget s.est.str k).request
  let put (u : State) (v : Option Nat) (at_ : Bool) : State :=
    { u with est.str := tmod u.est.str k (fun e =>
        { e with request := v, requestAt := if at_ then s.now else e.requestAt }) }
  match old with
  | none => if c = 0 then s else put (s.requestEvent k c) (some c) true
  | some _ => if c = 0 then put (s.requestEvent k 0x80) none false else put s (some c) false

/-- EST_REQUEST_REPEAT (R203): a standing request is journaled again every `EST_REQ_REPEAT`. -/
def execEstRequestRepeat (p : Pulse) (str : StrIx) (s : State) : Host.Outcome State Fault Refusal :=
  let s0 := s.atP p.val
  let k := str.val
  let e := tget s0.est.str k
  ok (match e.request with
    | none => s0
    | some c =>
      if e.requestAt + 3600000 * s0.est.cfg.reqRepeat ≤ s0.now ∧ s0.requestCause k ≠ 0 then
        { s0.requestEvent k c with est.str := tmod s0.est.str k (fun x => { x with requestAt := s0.now }) }
      else s0)

/-- `EST_EXCURSION` of a string. -/
def State.excEvent (s : State) (k cause : Nat) (q : Excursion) : State :=
  s.ev 0x0703 (le 1 k ++ le 1 cause ++ [if q.charge then 1 else 2] ++ le 4 q.cmd.toNat ++ le 6 q.end_)

/-- End a string's excursion (R205) with the first of its events: a string that has left CLOSED and HELD since ends it with
that cause, whatever is met now. -/
def State.excEnd (s : State) (k cause : Nat) : State :=
  match (tget s.est.str k).excursion with
  | none => s
  | some q =>
    let left := decide ((s.str k).state ≠ .closed) && decide ((s.str k).state ≠ .held)
    { s.excEvent k (if left then 3 else cause) q with
      est.str := tmod s.est.str k (fun e => { e with excursion := none }) }

/-- An excursion of a string that is neither CLOSED nor HELD ends (R205); the model takes it at the frame's strobe and at
its estimation pass (log 186). -/
def State.excOpened (s : State) (k : Nat) : State :=
  if (s.str k).state = .closed ∨ (s.str k).state = .held then s else s.excEnd k 3

/-- An excursion whose references are complete ends (R205). -/
def State.excComplete (s : State) (k : Nat) : State :=
  let s1 := s.excOpened k
  match (tget s1.est.str k).excursion with
  | none => s1
  | some q =>
    if q.gotEnd && (s1.judgedCells k).all (fun g => decide (q.from_ < (tget s1.cells g).refFrame)) then s1.excEnd k 1
    else s1

/-- EXCURSION_DURATION_END (R205): the granted duration has elapsed. -/
def execExcursionDurationEnd (p : Pulse) (str : StrIx) (s : State) : Host.Outcome State Fault Refusal :=
  let s0 := s.atP p.val
  ok (match (tget s0.est.str str.val).excursion with
    | none => s0
    | some q => if q.end_ ≤ s0.now then s0.excEnd str.val 2 else s0)

/-- Form of the body of `EST_REFERENCE_GRANT`. -/
def grantBody (e : LedgerEntry) : Bool := decide (e.body.length = 6) && decide (rdU e.body 3 1 = 0)

/-- EST_REFERENCE_GRANT (R204): excursions open on the named CLOSED strings; one that stands is replaced (R205). -/
def execEstReferenceGrant (id : Word) (s : State) : Host.Outcome State Fault Refusal :=
  ok (s.evaluateStrings id 0x0701 1
    (fun _ e =>
      let d := rdU e.body 2 1
      let t := rdU e.body 4 2
      { format := grantBody e, range := decide (d = 1 ∨ d = 2) && decide (10 ≤ t) && decide (t ≤ 1440) })
    (fun s' _ k => if (s'.str k).state = .closed then none else some .refusedState)
    (fun s' e ks refused =>
      let q : Excursion :=
        { charge := decide (rdU e.body 2 1 = 1), from_ := s'.now, end_ := s'.now + 60000 * rdU e.body 4 2, cmd := e.id }
      let open_ (u : State) (k : Nat) : State :=
        let u1 := (u.excEnd k 4).excEvent k 0 q
        { u1 with est.str := tmod u1.est.str k (fun x => { x with excursion := some q }) }
      (ks.foldl open_ s').cmdEndStrings e.id e.mask refused))

/-- EST_REST_START (R201): every pulse of the last `EST_REST_MIN` was below 0.02 C. -/
def execEstRestStart (p : Pulse) (str : StrIx) (s : State) : Host.Outcome State Fault Refusal :=
  let s0 := s.atP p.val
  let k := str.val
  ok (if 60000 * s0.est.cfg.restMin ≤ (tget s0.est.str k).quiet ∧ s0.installed k then
      { s0 with est.str := tmod s0.est.str k (fun e => { e with atRest := true }) }
    else s0)

/-- End the rest episode of a string whose current is no longer below 0.02 C (R201). -/
def State.restEnd (s : State) (k : Nat) : State :=
  let e := tget s.est.str k
  if e.atRest ∧ e.quiet = 0 then
    { s with
      est.str := tmod s.est.str k (fun x => { x with atRest := false }),
      aux := tmodAll s.aux (s.cellsOf k) (fun _ a => { a with restDone := false }) }
  else s

/-! ### Status objects -/

/-- `EST_STRING` (Table 7-12). -/
def State.objEstString (s : State) (k : Nat) : Bytes :=
  if !s.installed k then List.replicate 64 0
  else
    let e := tget s.est.str k
    let gs := s.judgedCells k
    let soc := gs.map (fun g => ((tget s.cells g).soc : Int))
    let sig := gs.map (fun g => ((tget s.cells g).sigma : Int))
    let cold := (s.modelled k).filter (fun g => (tget s.cells g).eflags.getLsbD 6)
    let dir := match e.excursion with
      | none => 0
      | some q => if q.charge then 1 else 2
    let qeff := (s.modelled k).map (fun g => s.chem.qEff (s.neq k) (s.coreTemp g))
    le 4 (minL 0 soc).toNat ++ le 4 (s.meanSoc gs) ++ le 4 (maxL 0 soc).toNat ++ le 2 (maxL 0 sig).toNat ++
      le 1 (if e.interval = 1 then 0 else if e.interval = 10 then 1 else 2) ++
      le 1 (packBits [e.request.isSome, e.excursion.isSome] + 4 * dir + 16 * b2n e.atRest + 32 * b2n (cold ≠ [])) ++
      le 8 e.thruC ++ le 8 e.thruD ++ le 4 (s.neq k) ++ le 8 (minL 0 qeff).toNat ++ le 4 (s.refAgeMax gs) ++
      le 2 cold.length ++ [0, 0] ++ le 6 ((e.excursion.map (·.end_)).getD 0) ++ List.replicate 6 0

end Sys2Proof.Machine
end

