-- ==== Sys2Proof/Machine/Window.lean ====
section
/-! DEFINITION. The bulk window (R428 to R440): page images, allocation to streams, the hand-over slot. -/

namespace Sys2Proof.Machine

/-! ### Page images (Table 14-9) -/

/-- The 64-byte header of a page. -/
def Page.header (g : Page) : Bytes :=
  le 1 g.stream ++ le 1 (g.owner.code + 4 * packBits [g.written, g.first, g.last]) ++ le 2 g.gen ++ le 6 g.seq ++
    le 2 g.len ++ le 6 g.frame ++ le 1 g.sub ++ [0] ++ le 4 g.crc.toNat ++ le 6 g.rec_ ++ List.replicate 34 0

/-- The page image of R430. -/
def Page.image (g : Page) : Bytes := padTo 64 g.header ++ padTo 4096 g.payload

/-! ### Streams (Table 14-11) -/

/-- Quota of a stream in pages. -/
def streamQuota (st : Nat) : Nat :=
  if st = 0 then 2048 else if st = 1 then 12288 else if st = 2 then 1024 else if st = 3 then 512
  else if st = 4 then 4096 else if st = 8 then 4096 else 0

/-- Pages of a stream that are module-owned or partner-owned. -/
def State.streamPages (s : State) (st : Nat) : List (Nat × Page) :=
  s.site.pages.filter (fun e =>
    decide (e.2.stream = st) && (decide (e.2.owner = .module) || decide (e.2.owner = .partner)) &&
      (if st = 8 then isInbound e.1 else isOutbound e.1))

/-- A capture waits for its pages (R438). -/
def State.captureWaits (s : State) : Bool := s.site.captures.any (fun c => !c.recording)

/-- The lowest `n` free pages from page `i` on, of `fuel` pages. -/
def freeFrom (t : Tab Page) : Nat → Nat → Nat → List Nat
  | _, _, 0 => []
  | 0, _, _ => []
  | fuel + 1, i, n + 1 =>
    if (tget t i).owner = .free then i :: freeFrom t fuel (i + 1) n else freeFrom t fuel (i + 1) (n + 1)

/-- Pages for a stream's record of `n` pages, none when they are unavailable (R437, R438). -/
def State.pagesFor (s : State) (st n : Nat) : Option (List Nat) :=
  let l := freeFrom s.site.pages 12288 0 n
  if (st ≠ 1 ∧ s.captureWaits) ∨ streamQuota st < (s.streamPages st).length + n ∨ l.length < n then none else some l

/-- Write a record into its pages, in order, as pages of a stream. `complete` when the record is complete. The window of
a joiner holds nothing begun before it is STANDBY (Table 14-11). -/
def State.writePages (s : State) (st sub rec_ : Nat) (complete : Bool) (ps : List Nat) (data : List Bytes) : State :=
  let n := ps.length
  let one (u : State) (e : Nat × Nat × Bytes) : State :=
    let q := (tget u.site.streams st).nextSeq
    let g := u.page e.2.1
    { u with
      site.pages := tput u.site.pages e.2.1
        { stream := st, owner := .module, written := true, first := decide (e.1 = 0), last := decide (e.1 + 1 = n),
          gen := (g.gen + 1) % 65536, seq := q, len := e.2.2.length, frame := u.now, sub := sub, crc := crc32c e.2.2,
          rec_ := rec_, payload := e.2.2, complete := complete },
      site.streams := tmod u.site.streams st (fun x => { x with nextSeq := (q + 1) % 2 ^ 48 }) }
  if s.pair.state = some .joining then s else ((upFrom 0 n).zip (ps.zip data)).foldl one s

/-- Bytes cut into payloads of at most 4,096 bytes, `n` of them. -/
def pageCut : Nat → Bytes → List Bytes
  | 0, _ => []
  | n + 1, b => b.take 4096 :: pageCut n (b.drop 4096)

/-- Number of pages a record of `n` bytes takes. -/
def pagesOf (n : Nat) : Nat := (n + 4095) / 4096

/-- Place a record on a stream, none when its pages are unavailable. -/
def State.streamPut (s : State) (st sub rec_ : Nat) (b : Bytes) : Option State :=
  let n := pagesOf b.length
  (s.pagesFor st n).map (fun ps => s.writePages st sub rec_ true ps (pageCut n b))

/-! ### The hand-over slot (R428, R432 to R436) -/

/-- Cut a list into groups of 100, `fuel` of them. -/
def groups100 {α : Type} : Nat → List α → List (List α)
  | 0, _ => []
  | n + 1, l => if l = [] then [] else l.take 100 :: groups100 n (l.drop 100)

/-- A `PAGE_HANDOVER` message per 100 entries. -/
def State.handoverMsgs (s : State) (op : Nat) (es : List (Nat × Nat)) : State :=
  (groups100 (es.length / 100 + 1) es).foldl (fun u g => u.handoverMsg op g) s

/-- `RELEASE` (Table 14-10). -/
def State.doRelease (s : State) (es : List (Nat × Nat)) : State :=
  let one (acc : State × List (Nat × Nat)) (e : Nat × Nat) : State × List (Nat × Nat) :=
    let g := acc.1.page e.1
    if g.owner = .partner ∧ g.gen = e.2 then
      (acc.1.modPage e.1 Page.freed, acc.2 ++ [(e.1, Status.code .ok)])
    else (acc.1, acc.2 ++ [(e.1, Status.code .notOwner)])
  let r := es.foldl one (s, [])
  r.1.handoverMsgs 0x82 r.2

/-- `CLAIM` (R433). -/
def State.doClaim (s : State) (n : Nat) : State :=
  let held := ((s.streamPages 8).filter (fun e => decide (e.2.owner = .partner))).length
  let ps := if n = 0 ∨ 100 < n ∨ 4096 < held + n then [] else freeFrom s.site.pages 4096 12288 n
  let s1 := ps.foldl (fun u p => u.modPage p (fun g =>
    { stream := 8, owner := .partner, gen := (g.gen + 1) % 65536 })) s
  s1.handoverMsg 0x83 (ps.map (fun p => (p, 0)))

/-- `RETURN` (R434); an entry that is refused changes nothing (R14). -/
def State.doReturn (s : State) (es : List (Nat × Nat × Nat × Word)) : State :=
  let one (acc : State × List (Nat × Nat)) (e : Nat × Nat × Nat × Word) : State × List (Nat × Nat) :=
    let u := acc.1
    let g := u.page e.1
    if g.owner ≠ .partner ∨ g.gen ≠ e.2.1 ∨ !isInbound e.1 then (u, acc.2 ++ [(e.1, Status.code .notOwner)])
    else if 4096 < e.2.2.1 then (u, acc.2 ++ [(e.1, Status.code .refusedFormat)])
    else
      let q := (tget u.site.streams 8).nextSeq
      if crc32c ((padTo 4096 g.payload).take e.2.2.1) ≠ e.2.2.2 then (u, acc.2 ++ [(e.1, Status.code .refusedFormat)])
      else
        ({ u.modPage e.1 (fun x =>
            { x with
              stream := 8, len := e.2.2.1, crc := e.2.2.2, seq := q, owner := .module, returned := u.now }) with
          site.streams := tmod u.site.streams 8 (fun x => { x with nextSeq := (q + 1) % 2 ^ 48 }) },
          acc.2 ++ [(e.1, Status.code .ok)])
  let r := es.foldl one (s, [])
  r.1.handoverMsgs 0x84 r.2

/-- Inbound pages consumed or expired become free, with `FREED` (R435). -/
def State.doFreed (s : State) (ps : List Nat) (st : Status) : State :=
  let own := ps.filter s.ownsInbound
  if own = [] then s
  else
    let s1 := own.foldl (fun u p => u.modPage p Page.freed) s
    s1.handoverMsgs 0x05 (own.map (fun p => (p, st.code)))

/-- Apply one waiting change of ownership. -/
def State.winApply (s : State) : WinReq → State
  | .release es => s.doRelease es
  | .claim n => s.doClaim n
  | .return_ es => s.doReturn es
  | .freed ps st => s.doFreed ps st

/-- A page put into a list sorted by stream and sequence. -/
def insertPage (e : Nat × Page) : List (Nat × Page) → List (Nat × Page)
  | [] => [e]
  | a :: t =>
    if e.2.stream < a.2.stream ∨ (e.2.stream = a.2.stream ∧ e.2.seq < a.2.seq) then e :: a :: t
    else a :: insertPage e t

/-- Module-owned pages of complete records, in `WIN_SEQ` order per stream. -/
def State.filledPages (s : State) : List (Nat × Page) :=
  (s.site.pages.filter (fun e => isOutbound e.1 && decide (e.2.owner = .module) && e.2.complete)).foldl
    (fun l e => insertPage e l) []

/-- `GIVE` (Table 14-10, R436): every filled page while a session is OPEN. -/
def State.giveAll (s : State) : State :=
  if s.site.sstate = .opened then
    let l := s.filledPages
    let s1 := l.foldl (fun u e => u.modPage e.1 (fun g => { g with owner := .partner })) s
    s1.handoverMsgs 0x01 (l.map (fun e => (e.1, e.2.stream)))
  else s

/-- `WIN_STALL` at each start and end of a stall (R443). -/
def State.stallCheck (s : State) : State :=
  let w := s.captureWaits
  if w = s.site.stalled then s
  else
    { s with site.stalled := w }.ev 0x0F05 (le 1 (if w then 0x01 else 0x80) ++
      le 1 (s.site.captures.filter (fun (c : Capture) => !c.recording)).length)

/-- Waiting captures take their pages, oldest first, while all the pages of the first can be allocated (R438). -/
def State.placeCaptures (s : State) : List Capture → State
  | [] => s
  | c :: t =>
    match s.streamPut 1 c.s c.frame c.data with
    | none => s
    | some u => { u with site.captures := u.site.captures.filter (fun x => decide (x ≠ c)) }.placeCaptures t

/-- The oldest unsent minute of history takes its pages (R440, Table 14-11). -/
def State.placeHistory (s : State) : State :=
  match s.site.history with
  | [] => s
  | (f, cells, strs) :: t =>
    match s.pagesFor 4 47 with
    | none => s
    | some ps =>
      let s1 := s.writePages 4 0 f true (ps.take 32) cells
      { s1.writePages 4 1 f true (ps.drop 32) strs with site.history := t }

/-- Committed records of a journal, oldest first, that stream 2 has not extracted. -/
def State.unextracted (s : State) (j : JournalId) : List JRec :=
  let n := tget s.site.extracted j.code
  ((s.ring j).recs.filter (fun r => decide (n < r.seq))).reverse

/-- A 64-byte journal record (Table 19-4). -/
def JRec.bytes (r : JRec) : Bytes :=
  let b : Bytes := le 6 r.seq ++ le 6 r.frame ++ le 8 r.time ++ le 2 r.code ++ le 1 r.slot.code ++ le 1 r.role.code ++
    padTo 32 r.payload ++ le 4 0
  b ++ le 4 (crc32c b).toNat

/-- A journal's full extract page of 64 records, while its pages are available (Table 14-11). Records overwritten
before their extraction are counted lost. -/
def State.extract (s : State) (j : JournalId) : State :=
  let n := tget s.site.extracted j.code
  let l := s.unextracted j
  let lost := match l with
    | [] => 0
    | r :: _ => r.seq - (n + 1)
  let s1 : State := if lost = 0 then s
    else
      let u := s.winLoss 2 3
      { u with
        site.streams := tmod u.site.streams 2 (fun x => { x with lost := sat32u (x.lost + (lost - 1)) }),
        site.extracted := tput u.site.extracted j.code (n + lost) }
  if l.length < 64 then s1
  else
    let page := l.take 64
    match s1.streamPut 2 j.code s1.now (page.flatMap JRec.bytes) with
    | none => s1
    | some u => { u with site.extracted := tput u.site.extracted j.code (tget u.site.extracted j.code + 64) }

/-- Deferrable writing of the cores (Table 12-4): the pages of a snapshot become complete, then extracts, then history. -/
def State.deferrable (s : State) : State :=
  if !s.grz.admitted then s
  else
    let s1 : State := match s.site.snapshot with
      | none => s
      | some (_, ps) =>
        { ps.foldl (fun u p => u.modPage p (fun g => { g with complete := true })) s with site.snapshot := none }
    (((s1.extract .safety).extract .event).extract .audit).placeHistory

/-- WINDOW_HANDOVER_SLOT (R428): at pulse 820, the waiting changes in order of arrival, then captures, then `GIVE`. The
streams' deferrable writing of the frame is finished before it (R362). -/
def execWindowHandoverSlot (s : State) : Host.Outcome State Fault Refusal :=
  let s0 := (s.atP 820).deferrable
  let s1 := s0.site.winReqs.foldl State.winApply { s0 with site.winReqs := [] }
  let s2 := s1.placeCaptures s1.site.captures.reverse.reverse |>.stallCheck
  ok s2.giveAll

end Sys2Proof.Machine
end

