-- ==== Sys2Proof/Machine/Herd.lean ====
section
/-! DEFINITION. The Herd comparator (chapter 09): increments, sweep, levels, actions and reports. -/

namespace Sys2Proof.Machine

/-! ### Eligibility and increments (R235, R236, R238) -/

/-- The string is in a state that Herd uses, and Herd runs. -/
def State.herdUses (s : State) (k : Nat) : Bool :=
  s.herd.cfg.en && s.installed k &&
    decide ((s.str k).state ∈ [SState.opened, .connecting, .closed, .held, .isolated])

/-- A mode in which Herd sweeps (R238). -/
def State.herdMode (s : State) : Bool := decide (s.mode.mode ∈ [Mode.idle, .serve, .rest, .maintain, .safe])

/-- The cells Herd takes of a string: present and not flagged `WIRE`. -/
def State.herdCells (s : State) (k : Nat) : List Nat :=
  (s.cellsOf k).filter (fun g => !(tget s.cells g).flags.getLsbD 3)

/-- Change the Herd record of a string. -/
def State.modHerd (s : State) (k : Nat) (f : StrHerd → StrHerd) : State :=
  { s with herd.str := tmod s.herd.str k f }

/-- A converted frame of the string's tier (R156), or a frame of a wake burst. -/
def State.strConv (s : State) (k : Nat) : Bool :=
  tierConverts (s.tierUsed k) s.now ||
    (decide (s.mode.mode = .rest) && decide (1 ≤ s.mode.wakeBurst ∧ s.mode.wakeBurst ≤ 10))

/-- Bank `b` of a cell: `HERD_RSUM` and `HERD_DSUM`. -/
def CellEntry.bank (x : CellEntry) (b : Nat) : Option Int × Int :=
  if b = 0 then (x.rsum0, x.dsum0) else (x.rsum1, x.dsum1)

/-- Write bank `b` of a cell. -/
def CellEntry.putBank (x : CellEntry) (b : Nat) (v : Option Int × Int) : CellEntry :=
  if b = 0 then { x with rsum0 := v.1, dsum0 := v.2 } else { x with rsum1 := v.1, dsum1 := v.2 }

/-- Bank `b` of a thermistor accumulator. -/
def ThEntry.bank (x : ThEntry) (b : Nat) : Int × Nat := if b = 0 then x.acc0 else x.acc1

/-- Write bank `b` of a thermistor accumulator. -/
def ThEntry.putBank (x : ThEntry) (b : Nat) (v : Int × Nat) : ThEntry :=
  if b = 0 then { x with acc0 := v } else { x with acc1 := v }

/-- `n[s][b]`. -/
def StrHerd.n (h : StrHerd) (b : Nat) : Nat := if b = 0 then h.n0 else h.n1

/-- Write `n[s][b]`. -/
def StrHerd.putN (h : StrHerd) (b n : Nat) : StrHerd := if b = 0 then { h with n0 := n } else { h with n1 := n }

/-- The first increment of a second clears the banks (R235). -/
def State.herdStart (s : State) (k : Nat) (gs : List Nat) : State :=
  let n := s.now / 1000
  let b := n % 2
  if (tget s.herd.str k).second = some n then s
  else
    { s with
      cells := tmodAll s.cells gs (fun _ x => x.putBank b (some 0, 0)),
      th := tmodAll s.th (s.thsOf k) (fun _ x => x.putBank b (0, 0)),
      herd.str := tmod s.herd.str k (fun h => { (h.putN b 0) with second := some n, wrote := some s.now }) }

/-- Herd increments of a string in a frame (R235, R236). `ths` are the thermistors for which the observer acted. -/
def State.herdIncr (s : State) (k : Nat) (ths : List Nat) : State :=
  if !s.herdUses k then s.modHerd k (fun h => { h with eligNow := false })
  else
    let b := s.now / 1000 % 2
    let gs := s.herdCells k
    let s1 := s.herdStart k gs
    let s2 : State := { s1 with th := tmodAll s1.th ths (fun _ x =>
      let a := x.bank b
      x.putBank b (sat32 (a.1 + x.tr), satN 0xFFFF (a.2 + 1))) }
    if !(s2.strConv k && s2.stepDue k) then s2
    else
      let okCell (g : Nat) : Bool :=
        let x := tget s2.cells g
        s2.usableSample g && x.eflags.getLsbD 0 && !x.eflags.getLsbD 7 && decide (x.stepFrame = s2.now % 4294967296)
      let oks := gs.filter okCell
      let vm := divRound (sumL (oks.map (fun g => (tget s2.cells g).v))) oks.length
      let tm := divRound (sumL (oks.map (fun g => centi (tget s2.cells g).tc))) oks.length
      { s2 with
        cells := tmodAll s2.cells gs (fun g x =>
          if !okCell g then x.putBank b (none, (x.bank b).2)
          else
            match (x.bank b).1 with
            | none => x
            | some r =>
              x.putBank b (some (sat32 (r + x.innov)),
                sat32 ((x.bank b).2 + (x.v - vm - divRound (s2.chem.entropicOf x.soc * (centi x.tc - tm)) 100000)))),
        herd.str := tmod s2.herd.str k (fun h => { (h.putN b (h.n b + 1)) with wrote := some s2.now }) }

/-! ### Statistics (R239) -/

/-- The lower median of a list, 0 of the empty list. -/
def lowMedian (l : List Int) : Int := nthI (sortI l) ((l.length - 1) / 2)

/-- Population, median, MAD and denominator of a feature, and whether it scores. -/
structure FeatStat where
  vals : List (Nat × Int) := []
  med : Int := 0
  mad : Int := 0
  den : Int := 1
  scored : Bool := false
  deriving DecidableEq, Repr, Inhabited

/-- The statistics of one feature with its floor (R239). -/
def featStat (minPop : Nat) (floor_ : Nat) (vals : List (Nat × Int)) : FeatStat :=
  let xs := vals.map (·.2)
  let m := lowMedian xs
  let mad := lowMedian (xs.map (fun x => ((x - m).natAbs : Int)))
  { vals := vals, med := m, mad := mad, den := (mad * 14826 + 5000) / 10000 + floor_,
    scored := decide (minPop ≤ vals.length) }

/-- The value of a member. -/
def FeatStat.value (f : FeatStat) (i : Nat) : Option Int := (f.vals.find? (fun e => decide (e.1 = i))).map (·.2)

/-- The score of a member, 0.01 per LSB. -/
def FeatStat.score (f : FeatStat) (i : Nat) : Option Int :=
  if f.scored then (f.value i).map (fun x => sat16 (divRound ((x - f.med) * 100) f.den)) else none

/-! ### Features (R233, R240, R246) -/

/-- x₃ and e₃ of a cell in µA, none below `HERD_SD_MIN_T` (R246). -/
def HerdEntry.sd (h : HerdEntry) (c : HerdCfg) : Option (Int × Nat) :=
  let t := h.sdT + h.sdTp
  if t < 3600 * c.sdMinT ∨ t = 0 then none
  else some (sat32 (divRound ((h.sdQ + h.sdQp) * 1000) t),
    (divRound ((isqrt (h.sdVar + h.sdVarp) * 100000 : Nat) : Int) t).toNat)

/-- The excess self-discharge rule of R246. -/
def sdRule (c : HerdCfg) (v : Option (Int × Nat)) : Bool :=
  match v with
  | none => false
  | some (x, e) => decide ((c.sdLimit : Int) * 1000 ≤ x * 1000 - 1645 * e)

/-- Keep the members of a list that have a value. -/
def withVal (is : List Nat) (f : Nat → Option Int) : List (Nat × Int) := is.filterMap (fun i => (f i).map (fun v => (i, v)))

/-- The five features of a string in the sweep of second `n`. Feature 4 is by thermistor. -/
def State.features (s : State) (k n : Nat) (gs : List Nat) : List FeatStat :=
  let c := s.herd.cfg
  let b := n % 2
  let h := tget s.herd.str k
  let fl (i : Nat) : Nat := (c.floors[i]?).getD 0
  let rs := withVal gs (fun g => (tget s.aux g).rsEnd.map (fun (v : Nat) => (v : Int)))
  let rsm := lowMedian (rs.map (·.2))
  let f1 := withVal gs (fun g =>
    if h.n b = 0 then none else ((tget s.cells g).bank b).1.map (fun r => divRound (r * 10) (h.n b)))
  let f2 := rs.map (fun e => (e.1, sat32 (muldiv e.2 1000000 rsm)))
  let f3 := if s.builtIn then [] else withVal gs (fun g => ((tget s.herdTab g).sd c).map (·.1))
  let f4 := withVal ((s.thsOf k).filter (fun i => !(tget s.th i).broken)) (fun i =>
    let a := (tget s.th i).bank b
    if a.2 = 0 then none else some (divRound a.1 a.2))
  let f5 := withVal gs (fun g =>
    let e := tget s.herdTab g
    if e.x5State = 2 then some (e.x5 : Int) else none)
  [featStat c.minPop (fl 0) f1, featStat c.minPop (fl 1) f2, featStat c.minPop (fl 2) f3, featStat c.minPop (fl 3) f4,
    featStat c.minPop (fl 4) f5]

/-! ### Balancing demand and rest episodes (R241 to R245) -/

/-- The hourly update of a cell (R241). -/
def HerdEntry.hourly (h : HerdEntry) (balQ shift : Nat) : HerdEntry :=
  let d : Int := ((balQ + 4294967296 - h.bqH) % 4294967296 : Nat)
  let v := divRound (d * 1000) 3600
  if h.x5State = 0 then { h with bqH := balQ, x5State := 1 }
  else if h.x5State = 1 then { h with bqH := balQ, x5 := sat32u v.toNat, x5State := 2 }
  else { h with bqH := balQ, x5 := sat32u (h.x5 + divRound (v - h.x5) (2 ^ shift : Nat)).toNat }

/-- Clear the window state and provisional fields of a cell, adding them to the committed ones (R244). -/
def HerdEntry.commit (h : HerdEntry) : HerdEntry :=
  { h with
    sdQ := sat32 (h.sdQ + h.sdQp), sdVar := sat32u (h.sdVar + h.sdVarp), sdT := sat32u (h.sdT + h.sdTp),
    sdQp := 0, sdVarp := 0, sdTp := 0, off0 := 0, offa := 0, n0 := 0, na := 0, bq0 := 0 }

/-- End the rest episode of a string (R242, R244). -/
def State.episodeEnd (s : State) (k : Nat) : State :=
  if (tget s.herd.str k).epStart = 0 then s
  else
    { s with
      herdTab := tmodAll s.herdTab (s.cellsOf k) (fun _ h => h.commit),
      herd.str := tmod s.herd.str k (fun h => { h with epStart := 0, epWin := 0, nmin0 := 0, nmina := 0 }) }

/-- Charge lost by a cell between window 0 and the window just complete, with its variance (R243); none where the
conditions fail. -/
def State.windowLoss (s : State) (k g : Nat) : Option (Int × Nat) :=
  let h := tget s.herdTab g
  let r := tget s.herd.str k
  let x := tget s.cells g
  let c := s.herd.cfg
  let temp := centi x.tc
  let tp := s.chem.tempPos temp
  let slope := byHyst (slopeOf s.chem.ocvD x.soc tp) (slopeOf s.chem.ocvC x.soc tp) x.h
  if h.n0 < 5 ∨ h.na < 5 ∨ slope.natAbs < c.sdSlope ∨ slope = 0 ∨ (tget s.aux g).sleepFrame.any (fun f => decide (r.epStart ≤ f)) then none
  else
    let d10 := divRound h.offa h.na - divRound h.off0 h.n0
    let kq := divRound (s.chem.qEff (s.neq k) temp) (100 * slope)
    let db : Int := ((x.balQ + 4294967296 - h.bq0) % 4294967296 : Nat)
    let a := h.n0 * r.nmin0
    let b := h.na * r.nmina
    let var := divRound ((c.sdVnoise * c.sdVnoise * (a + b) : Nat) * (kq * kq)) (10000 * a * b : Nat)
    some (sat32 (-(divRound (d10 * kq) 10) - db), sat32u var.toNat)

/-- The completion of a window (R243). -/
def State.windowDone (s : State) (k idx : Nat) (gs : List Nat) : State :=
  let zero (u : State) : State :=
    { u with
      herdTab := tmodAll u.herdTab gs (fun _ h => { h with offa := 0, na := 0 }),
      herd.str := tmod u.herd.str k (fun r => { r with nmina := 0, epWin := idx + 1 }) }
  if idx = 0 then
    zero { s with
      herdTab := tmodAll s.herdTab gs (fun g h =>
        { h with off0 := h.offa, n0 := h.na, bq0 := (tget s.cells g).balQ }),
      herd.str := tmod s.herd.str k (fun r => { r with nmin0 := r.nmina }) }
  else
    let vs := gs.filterMap (fun g => (s.windowLoss k g).map (fun v => (g, v)))
    if vs.length < s.herd.cfg.minPop then zero s
    else
      let lm := lowMedian (vs.map (fun v => v.2.1))
      zero { s with herdTab := vs.foldl (fun t v => tmod t v.1 (fun h =>
        { h with sdQp := sat32 (v.2.1 - lm), sdVarp := v.2.2, sdTp := idx * s.herd.cfg.sdWin })) s.herdTab }

/-- The rest episode of an eligible string in the sweep of second `n` (R242, R243, R245). -/
def State.episode (s : State) (k n : Nat) (gs : List Nat) : State :=
  if s.builtIn ∨ !(tget s.est.str k).atRest then s.episodeEnd k
  else
    let b := n % 2
    let s1 := if (tget s.herd.str k).epStart = 0 then s.modHerd k (fun r => { r with epStart := 1000 * n }) else s
    let r := tget s1.herd.str k
    let nb := r.n b
    let add (g : Nat) (h : HerdEntry) : HerdEntry :=
      let v := (tget s1.cells g).bank b
      if v.1.isNone ∨ nb = 0 then h
      else { h with offa := sat32 (h.offa + divRound (v.2 * 10) nb), na := satN 0xFFFF (h.na + 1) }
    let s2 : State :=
      { s1 with
        herdTab := tmodAll s1.herdTab gs add,
        herd.str := tmod s1.herd.str k (fun q =>
          { q with nmina := if nb = 0 then q.nmina else if q.nmina = 0 ∨ nb < q.nmina then nb else q.nmina }) }
    let j := n - r.epStart / 1000
    let w := s.herd.cfg.sdWin
    if (j + 1) % w = 0 then s2.windowDone k (j / w) gs else s2

/-! ### Levels and actions (R246, R248 to R250) -/

/-- Code of a level. -/
def Level.code : Level → Nat
  | .none => 0
  | .watch => 1
  | .suspect => 2

/-- Level of feature `f` (1 to 5). -/
def HerdEntry.lvlOf (h : HerdEntry) (f : Nat) : Level := (h.lvl[f - 1]?).getD .none

/-- Run of feature `f`. -/
def HerdEntry.runOf (h : HerdEntry) (f : Nat) : Int := nthI h.run (f - 1)

/-- One feature's level and run after a sweep (Table 9-3). `sd` when the rule of R246 is met for feature 3. -/
def levelStep (c : HerdCfg) (lvl : Level) (run : Int) (z : Option Int) (sd : Bool) : Level × Int :=
  if sd ∧ lvl ≠ .suspect then (.suspect, 0)
  else
    match z, lvl with
    | none, _ => (lvl, run)
    | some _, .suspect => (lvl, run)
    | some v, .none =>
      if v.natAbs ≤ c.watchZ then (.none, 0)
      else if c.watchTime ≤ run + 1 then (.watch, 0) else (.none, run + 1)
    | some v, .watch =>
      let r : Int :=
        if c.suspectZ < v.natAbs then (if 0 < run then run + 1 else 1)
        else if v.natAbs ≤ c.clearZ then (if run < 0 then run - 1 else -1) else 0
      if c.suspectTime ≤ r then (.suspect, 0)
      else if r ≤ -(c.clearTime : Int) then (.none, 0) else (.watch, r)

/-- Actions of feature `f` in `HERD_ACTION`. -/
def HerdCfg.actionOf (c : HerdCfg) (f : Nat) : BitVec 3 := (c.action >>> (3 * (f - 1))).truncate 3

/-- A feature of the cell is at Suspect. -/
def HerdEntry.anySuspect (h : HerdEntry) : Bool := h.lvl.any (fun l => decide (l = .suspect))

/-- The cell level of `HERD_LVL` [11:10]. -/
def HerdEntry.cellLevel (h : HerdEntry) : Nat :=
  if h.act then 3 else h.lvl.foldl (fun m l => max m l.code) 0

/-- `HERD_LVL` (Table 9-5). -/
def HerdEntry.lvlWord (h : HerdEntry) : Nat :=
  (upFrom 1 5).foldl (fun a f => a + (h.lvlOf f).code * 4 ^ (f - 1)) (1024 * h.cellLevel)

/-- A score as int16, 0x8000 when none. -/
def zCode (z : Option Int) : Int := z.getD (-32768)

/-- One cell's levels in a sweep (R248, R249) with `HERD_LEVEL` for each change; whether anything changed. -/
def State.herdCell (s : State) (n g : Nat) (fs : List FeatStat) : State × Bool :=
  let c := s.herd.cfg
  let h := tget s.herdTab g
  let stat (f : Nat) : FeatStat := (fs[f - 1]?).getD {}
  let key (f : Nat) : Nat := if f = 4 then thOfCell g else g
  let z (f : Nat) : Option Int := (stat f).score (key f)
  let sd := h.sd c
  let rule (f : Nat) : Bool := decide (f = 3) && !s.builtIn && sdRule c sd
  let step (f : Nat) : Level × Int := levelStep c (h.lvlOf f) (h.runOf f) (z f) (rule f)
  let lvls := (upFrom 1 5).map (fun f => (step f).1)
  let nowSus := lvls.any (fun l => decide (l = .suspect))
  let age := if !h.anySuspect then 0
    else if n % 60 = 0 then satN 0xFFFF (h.actAge + 1) else h.actAge
  let act := h.act || ((upFrom 1 5).any (fun f => decide ((step f).1 = .suspect) && decide (c.actionOf f ≠ 0)) &&
    decide (c.actDelay ≤ age))
  let s1 := (upFrom 1 5).foldl (fun u f =>
    u.evIf (decide ((step f).1 ≠ h.lvlOf f)) 0x0901 (le 2 g ++ le 1 f ++ le 1 (h.lvlOf f).code ++ le 1 (step f).1.code ++
      leI 2 (zCode (z f)) ++ leI 4 (sat32 (((stat f).value (key f)).getD 0)))) s
  let s2 := s1.evIf (act && !h.act) 0x0901 (le 2 g ++ [0, 2, 3] ++ leI 2 (-32768) ++ leI 4 0)
  let h1 : HerdEntry :=
    { h with
      z := (upFrom 1 5).map z, lvl := lvls, run := (upFrom 1 5).map (fun f => sat16 (step f).2),
      actAge := if nowSus then age else h.actAge, act := act }
  ({ s2 with herdTab := tput s2.herdTab g h1 },
    (act && !h.act) || (upFrom 1 5).any (fun f => decide ((step f).1 ≠ h.lvlOf f)))

/-- The Herd actions of a string, and the first cell and feature that give them (R250). -/
def State.herdUnion (s : State) (gs : List Nat) : BitVec 3 :=
  gs.foldl (fun a g =>
    let h := tget s.herdTab g
    if h.act then
      (upFrom 1 5).foldl (fun b f => if h.lvlOf f = .suspect then b ||| s.herd.cfg.actionOf f else b) a
    else a) 0

/-- The first cell and feature whose actions hold a bit outside a mask. -/
def State.herdCause (s : State) (gs : List Nat) (old : BitVec 3) : Nat × Nat :=
  let l := gs.flatMap (fun g => ((upFrom 1 5).filter (fun f =>
    let h := tget s.herdTab g
    h.act && decide (h.lvlOf f = .suspect) && decide (s.herd.cfg.actionOf f &&& ~~~old ≠ 0))).map (fun f => (g, f)))
  l.head?.getD (0xFFFF, 0)

/-- HERD_ACT (R250): a string's actions after a sweep, in effect from the next frame. -/
def State.herdAct (s : State) (k : Nat) : State :=
  let gs := s.cellsOf k
  let old := (tget s.herd.str k).actions
  let new := s.herdUnion gs
  if new = old then s
  else
    let c := s.herdCause gs old
    let s1 := (s.ev 0x0902 (le 1 k ++ le 1 new.toNat ++ le 2 c.1 ++ le 1 c.2)).modHerd k (fun h =>
      { h with actions := new, actionsOld := old, actFrame := some s.now })
    if new.getLsbD 0 then s1.raiseAlarm k 15 else s1

/-- The Herd actions in effect in the present frame (R250). -/
def State.herdActions (s : State) (k : Nat) : BitVec 3 :=
  let h := tget s.herd.str k
  if h.actFrame = some s.now then h.actionsOld else h.actions

/-! ### Reports (R255) -/

/-- A Herd report of a string (Table 9-6). -/
def State.reportBytes (s : State) (k n kind : Nat) (fs : List FeatStat) : Bytes :=
  let gs := (s.cellsOf k).filter (fun g => decide (0 < (tget s.herdTab g).cellLevel))
  le 1 kind ++ le 1 k ++ le 2 gs.length ++ le 6 (1000 * n) ++ [0, 0] ++ fs.flatMap (fun f => le 2 f.vals.length) ++
    [0, 0] ++ fs.flatMap (fun f => leI 4 f.med) ++ fs.flatMap (fun f => leI 4 f.mad) ++
    gs.flatMap (fun g =>
      let h := tget s.herdTab g
      let v := h.sd s.herd.cfg
      le 2 g ++ le 2 h.lvlWord ++ (upFrom 0 5).flatMap (fun i => leI 2 (zCode ((h.z[i]?).getD none))) ++ [0, 0] ++
        (match v with
          | none => leI 4 (-2147483648) ++ le 4 0xFFFFFFFF
          | some (x, e) => leI 4 x ++ le 4 (sat32u e)))

/-- HERD_REPORT (R255): on stream 3, or lost. -/
def State.herdReport (s : State) (k n kind : Nat) (fs : List FeatStat) : State :=
  match s.streamPut 3 k (1000 * n) (s.reportBytes k n kind fs) with
  | some u => u
  | none =>
    { s with
      herd.str := tmod s.herd.str k (fun h => { h with lost := sat32u (h.lost + 1) }),
      site.streams := tmod s.site.streams 3 (fun x => { x with lost := sat32u (x.lost + 1) }) }

/-! ### The sweep (R237) -/

/-- The largest |z| among cells and features: cell, feature, score. -/
def State.herdWorst (s : State) (gs : List Nat) : Option (Nat × Nat × Int) :=
  gs.foldl (fun w g => (upFrom 1 5).foldl (fun (v : Option (Nat × Nat × Int)) f =>
    match (((tget s.herdTab g).z)[f - 1]?).getD none, v with
    | none, _ => v
    | some z, none => some (g, f, z)
    | some z, some x => if x.2.2.natAbs < z.natAbs then some (g, f, z) else v) w) none

/-- Cells of a string at Watch, at Suspect and at Act. -/
def State.herdCounts (s : State) (k : Nat) : List Nat :=
  (upFrom 1 3).map (fun l => ((s.cellsOf k).filter (fun g => decide ((tget s.herdTab g).cellLevel = l))).length)

/-- HERD_LEVEL of one string: the sweep of second `n` (R239 to R250, R255). -/
def State.sweepString (s : State) (n k : Nat) : State :=
  let h := tget s.herd.str k
  if !h.eligPrev then (s.episodeEnd k).modHerd k (fun x => { x with eligible := false, counts := s.herdCounts k })
  else
    let gs := s.herdCells k
    let s1 : State := if n % 3600 = 0 then
        { s with herdTab := tmodAll s.herdTab gs (fun g e => e.hourly (tget s.cells g).balQ s.herd.cfg.balShift) }
      else s
    let s2 := s1.episode k n gs
    let fs := s2.features k n gs
    let r := gs.foldl (fun (acc : State × Bool) g =>
      let o := acc.1.herdCell n g fs
      (o.1, acc.2 || o.2)) (s2, false)
    let w := r.1.herdWorst gs
    let s3 := r.1.modHerd k (fun x =>
      { x with
        eligible := true, counts := r.1.herdCounts k, medians := fs.map (·.med), sweepFrame := 1000 * n, worstG := (w.map (·.1)).getD 0xFFFF,
        worstF := (w.map (·.2.1)).getD 0, worstZ := (w.map (·.2.2)).getD 0 })
    let s4 := s3.herdAct k
    let s5 := if n % 3600 = 0 then s4.herdReport k n 1 fs else s4
    if r.2 then s5.herdReport k n 2 fs else s5

/-- HERD_SWEEP_DONE (R237): the sweep that runs completes, on an Eland that works, in a frame that admits deferrable work and
before its pulse 900. -/
def execHerdSweepDone (p : Pulse) (s : State) : Host.Outcome State Fault Refusal :=
  let s0 := s.atP p.val
  ok (match s0.herd.sweep with
    | none => s0
    | some n =>
      if 900 ≤ p.val ∨ !s0.grz.admitted ∨ s0.sys.selfTestFail.getLsbD 7 then s0
      else
        let s1 := s0.strings.foldl (fun u k => u.sweepString n k) s0
        { s1 with herd.sweep := none, herd.skipRun := 0, herd.swept := true })

/-- HERD_SWEEP_SKIP (R237): at pulse 900 of the last frame of the second, the unfinished sweep is abandoned. -/
def execHerdSweepSkip (s : State) : Host.Outcome State Fault Refusal :=
  let s0 := s.atP 900
  ok (match s0.herd.sweep with
    | none => s0
    | some n =>
      if s0.now < 1000 * (n + 1) + 999 then s0
      else
        let ks := s0.strings.filter (fun k => (tget s0.herd.str k).eligPrev)
        let m := ks.foldl withBit 0
        let s1 := s0.evIf (decide (s0.herd.skipRun = 0)) 0x0903 (le 6 (1000 * n) ++ le 2 m.toNat)
        { s1 with
          herd.sweep := none, herd.skipRun := s1.herd.skipRun + 1, herd.lastSkip := some s1.now,
          herd.str := tmodAll s1.herd.str ks (fun _ h => { h with skipped := sat32u (h.skipped + 1) }) })

/-- The start of a second for Herd (R237, R238): eligibility of the second that ends, its last `EST_RS`, and the start
of its sweep. -/
def State.herdSecond (s : State) : State :=
  let n := s.now / 1000 - 1
  let gs := s.strings.flatMap s.cellsOf
  { s with
    aux := tmodAll s.aux gs (fun g a =>
      let x := tget s.cells g
      { a with rsEnd :=
          if a.init ∧ (s.now % 4294967296 + 4294967296 - x.stepFrame) % 4294967296 ≤ 1000 then some x.rs else none }),
    herd.sweep := some n,
    herd.str := tmodAll s.herd.str s.strings (fun k h =>
      { h with eligPrev := h.eligNow && s.herdMode && h.second = some n, eligNow := s.herdUses k }) }

/-- What the Herd level record holds of the Herd Table: levels and act ages (R254). -/
def State.herdLevels (s : State) : Tab HerdRec :=
  s.herdTab.filterMap (fun e =>
    let r : HerdRec := { lvl := e.2.lvl, act := e.2.act, actAge := e.2.actAge }
    if r = default ∨ (r.actAge = 0 ∧ !r.act ∧ r.lvl.all (fun l => decide (l = Level.none))) then none
    else some (e.1, r))

/-- The cells of one of the 32 blocks of the Herd level record. -/
def herdBlock (i : Nat) (t : Tab HerdRec) : Tab HerdRec := t.filter (fun e => decide (e.1 / 256 = i))

/-- The bytes of a cell in the record: `HERD_LVL` and `HERD_ACT_AGE`. -/
def HerdRec.bytes (r : HerdRec) : Bytes :=
  le 2 ({ lvl := r.lvl, act := r.act } : HerdEntry).lvlWord ++ le 2 r.actAge

/-- A block of the Herd level record as MRAM holds it: 256 cells and their CRC-32C (R254). -/
def herdBlockBytes (i : Nat) (t : Tab HerdRec) : Bytes :=
  let b := (upFrom (256 * i) 256).flatMap (fun g => (tget t g).bytes)
  b ++ le 4 (crc32c b).toNat

/-- HERD_LEVEL_RECORD_WRITE (R254): the blocks in which a level or act age changed go to MRAM, with a good CRC. -/
def State.herdRecord (s : State) : State :=
  let new := s.herdLevels
  let changed (i : Nat) : Bool := decide (herdBlock i new ≠ herdBlock i s.jnl.herd)
  { s with
    jnl.herd := new,
    jnl.herdBad := (upFrom 0 32).foldl (fun b i => if changed i then b &&& ~~~((1 : BitVec 32) <<< i) else b) s.jnl.herdBad }

/-- A Herd Table entry as table memory holds it (Table 9-5). -/
def HerdEntry.bytes (h : HerdEntry) : Bytes :=
  (upFrom 0 5).flatMap (fun i => leI 2 (zCode ((h.z[i]?).getD (some 0)))) ++ le 2 h.lvlWord ++
    (upFrom 0 5).flatMap (fun i => leI 2 (nthI h.run i)) ++ le 2 h.actAge ++ leI 4 h.off0 ++ leI 4 h.offa ++ le 2 h.n0 ++
    le 2 h.na ++ le 4 h.bq0 ++ leI 4 h.sdQ ++ le 4 h.sdVar ++ le 4 h.sdT ++ leI 4 h.sdQp ++ le 4 h.sdVarp ++
    le 4 h.sdTp ++ le 4 h.bqH ++ le 4 h.x5 ++ le 24 0

/-- A Herd string record as table memory holds it (Table 9-5). -/
def StrHerd.bytes (h : StrHerd) : Bytes :=
  le 2 h.n0 ++ le 2 h.n1 ++ le 2 h.nmin0 ++ le 2 h.nmina ++ le 6 h.epStart ++ le 2 h.epWin ++ le 16 0

/-- `HERD_STRING` (Table 9-10). -/
def State.objHerd (s : State) (k : Nat) : Bytes :=
  if !s.installed k then List.replicate 56 0
  else
    let h := tget s.herd.str k
    le 1 (h.actions.toNat + 8 * packBits [has (s.pst k).unack 15, decide (h.epStart ≠ 0), h.eligible]) ++ [0] ++
      (upFrom 0 3).flatMap (fun i => le 2 ((h.counts[i]?).getD 0)) ++ le 2 h.worstG ++ leI 2 h.worstZ ++ le 1 h.worstF ++
      [0, 0, 0] ++ (upFrom 0 5).flatMap (fun i => leI 4 (nthI h.medians i)) ++ le 6 h.sweepFrame ++ [0, 0] ++
      le 4 h.skipped ++ le 4 h.lost ++ [0, 0, 0, 0]

end Sys2Proof.Machine
end

