-- ==== Sys2Proof/Machine/Eland.lean ====
section
/-! DEFINITION. The passes of a frame on Eland (R19, R195, R217, R235) and the history they feed (R440). -/

namespace Sys2Proof.Machine

/-! ### History (R440, Table 14-13) -/

/-- The frame's share of the minute's cell aggregates and of the second's string aggregates. -/
def State.histFrame (s : State) : State :=
  let cell (g : Nat) (h : HistCell) : HistCell :=
    let x := tget s.cells g
    let t := sat16 (centi x.tc)
    let h1 : HistCell := if s.portConv (g / 64) then { h with vSum := h.vSum + x.v, n := h.n + 1 } else h
    { h1 with
      tcMax := match h1.tcMax with
        | none => some t
        | some m => some (if m < t then t else m),
      flags := h1.flags ||| x.flags }
  let str (k : Nat) (h : HistStr) : HistStr :=
    let l := (s.pp k).last
    let opt (f : Int → Int → Int) (a b : Option Int) : Option Int := match a, b with
      | none, x => x
      | x, none => x
      | some x, some y => some (f x y)
    { h with
      iSum := h.iSum + l.sum, lo := opt (fun x y => if y < x then y else x) h.lo l.lo,
      hi := opt (fun x y => if x < y then y else x) h.hi l.hi, vSum := h.vSum + (s.pp k).vstr.at10, n := h.n + 1 }
  { s with
    site.histCell := tmodAll s.site.histCell (s.strings.flatMap s.cellsOf) cell,
    site.histStr := tmodAll s.site.histStr s.strings str }

/-- The aggregates of a string for the second that ends (Table 14-13, 64 bytes). -/
def State.histSecBytes (s : State) (k : Nat) : Bytes :=
  let h := tget s.site.histStr k
  let e := tget s.est.str k
  let d := tget s.dsp.str k
  let gs := s.judgedCells k
  let soc := gs.map (fun g => ((tget s.cells g).soc : Int))
  leI 4 (sat32 (divRound h.iSum (1000 * h.n))) ++ leI 4 (h.lo.getD 0) ++ leI 4 (h.hi.getD 0) ++
    leI 4 (sat32 (divRound h.vSum h.n)) ++ le 8 (e.thruC - h.c0) ++ le 8 (e.thruD - h.d0) ++ le 4 (s.meanSoc gs) ++
    le 4 (minL 0 soc).toNat ++ le 4 (maxL 0 soc).toNat ++
    le 2 (maxL 0 (gs.map (fun g => ((tget s.cells g).sigma : Int)))).toNat ++
    leI 2 (sat16 (centi (maxL 0 ((s.modelled k).map (fun g => (tget s.cells g).tc))))) ++
    le 1 (s.str k).state.code ++ le 1 (s.tierUsed k) ++
    le 1 (if e.interval = 1 then 0 else if e.interval = 10 then 1 else 2) ++ [0] ++ leI 4 (nthI d.chg 0) ++
    leI 4 (-(nthI d.dis 0)) ++ List.replicate 4 0

/-- Close the second of every string in the history. -/
def State.histSecond (s : State) : State :=
  { s with site.histStr := tmodAll s.site.histStr s.strings (fun k h =>
      let e := tget s.est.str k
      { seconds := (h.seconds ++ [s.histSecBytes k]).drop ((h.seconds.length + 1) - 60), c0 := e.thruC, d0 := e.thruD }) }

/-- A cell's aggregates of the minute (Table 14-13, 16 bytes); an absent cell has none. -/
def State.histCellBytes (s : State) (g : Nat) : Bytes :=
  if s.cellsOn (g / 64) ≤ g % 64 then List.replicate 16 0
  else
    let h := tget s.site.histCell g
    let x := tget s.cells g
    leI 4 (sat32 (divRound h.vSum h.n)) ++ le 4 x.soc ++ le 2 x.sigma ++ leI 2 (h.tcMax.getD 0) ++
      le 2 (satN 0xFFFF ((x.balQ + 4294967296 - h.balQ0) % 4294967296)) ++ [h.flags, 0]

/-- HISTORY_MINUTE (R440): in frames with F ≡ 0 mod 60,000, the minute closes in the DRAM ring of 7 days. -/
def execHistoryMinute (s : State) : Host.Outcome State Fault Refusal :=
  let s0 := s.atP 0
  ok (if s0.now % 60000 ≠ 0 then s0
    else
      let cells := pageCut 32 ((upFrom 0 8192).flatMap s0.histCellBytes)
      let sec (k i : Nat) : Bytes :=
        let l := (tget s0.site.histStr k).seconds
        if i + l.length < 60 then List.replicate 64 0 else padTo 64 ((l[i + l.length - 60]?).getD [])
      let strs := pageCut 15 ((upFrom 0 60).flatMap (fun i => (upFrom 0 16).flatMap (fun k => sec k i)))
      let full := decide (10080 ≤ s0.site.history.length)
      let s1 := if full then s0.winLoss 4 4 else s0
      { s1 with
        site.history := (if full then s1.site.history.drop 1 else s1.site.history) ++ [(s1.now, cells, strs)],
        site.histCell := tmodAll [] (s1.strings.flatMap s1.cellsOf) (fun g h =>
          { h with balQ0 := (tget s1.cells g).balQ }),
        site.histStr := tmap s1.site.histStr (fun _ h => { h with seconds := [] }) })

/-! ### The passes (R19, R193, R218, R228) -/

/-- A frame of the thermal step (R217): a multiple of 10, in Rest the first frame of a wake burst. -/
def State.thermalFrame (s : State) : Bool :=
  if s.mode.mode = .rest then decide (s.mode.wakeBurst = 10) else decide (s.now % 10 = 0)

/-- Cells of a string due for a thermal step in a frame that steps the string: those with a thermal state (R212, R217),
whether or not the estimator holds a state of them yet. -/
def State.thDue (s : State) (k : Nat) : List Nat := (s.cellsOf k).filter (fun g => (tget s.cells g).tflags.getLsbD 0)

/-- Cells due for estimation in the frame, in the order of R191. -/
def State.estDue (s : State) : List Nat := (s.strings.filter s.stepDue).flatMap s.cellsOf

/-- A string that stands UNSURVEYED after the start's own Survey meets, when it leaves that state, the second occasion of
R207 and R225 (DEDUCED, log 187). -/
def State.unsurveyedMark (s : State) : State :=
  if s.mode.mode ∈ [Mode.fill, .load, .survey] then s
  else
    let ks := s.strings.filter (fun k => decide ((s.str k).state = .unsurveyed))
    { s with
      est.str := tmodAll s.est.str ks (fun _ e => { e with leftUnsurveyed := true, coldSeen := false }),
      thm.str := tmodAll s.thm.str ks (fun _ e => { e with initSeen := false }) }

/-- The estimation pass with its last cells unreached (R191, R193). `EST_FLAGS` tell of the present frame (Table 7-3), so
a frame that steps no cell of a string leaves `COLD` alone standing, and `THM_STEP` and `THM_STALE` tell of the present
frame (Table 8-2) (DEDUCED, log 74). -/
def State.estPass (s : State) (unreached : Nat) : State :=
  let due := s.estDue
  let reached := due.take (due.length - unreached)
  let s0 := s.strings.foldl (fun u k => u.restEnd k) { s with est.stepped := 0, est.stale := 0 }
  let idle := (s0.strings.filter (fun k => !s0.stepDue k && decide ((s0.str k).state ≠ .unsurveyed))).flatMap s0.cellsOf
  let s0 := s0.unsurveyedMark
  let surveyed := (s0.strings.filter (fun k => decide ((s0.str k).state ≠ .unsurveyed))).flatMap s0.cellsOf
  let s1 : State := { s0 with
    cells := tmodAll (tmodAll s0.cells idle (fun _ x => { x with eflags := x.eflags &&& 0x40 })) surveyed
      (fun _ x => { x with tflags := x.tflags &&& 0xF9 }) }
  (s1.strings.filter s1.stepDue).foldl (fun u k =>
    let gs := u.cellsOf k
    u.estString k (gs.filter reached.contains) (gs.filter (fun g => !reached.contains g))) s1

/-- One string of the thermal pass: the plate, the step, and the cells not reached, whose next step covers this one too
(R216 to R218, R229). A pass that reaches none of the string's cells takes no plate and hands Markhor no model input. -/
def State.thPass (s : State) (k : Nat) (reached missed : List Nat) : State :=
  let none_ := decide (reached = []) && decide (missed ≠ [])
  let s1 := if none_ then s else (s.plateTake k).thStep k reached
  let s2 : State :=
    { s1 with
      cells := tmodAll s1.cells missed (fun _ x => x.thMiss),
      thm.str := tmod s1.thm.str k (fun t => { t with lastStale := if missed = [] then t.lastStale else some s.now }),
      est.str := tmod s1.est.str k (fun e =>
        { e with
          thmPrev := some s.now, sqPast := ((e.sqSum, e.sqN) :: e.sqPast).take 255, sqSum := 0, sqN := 0 }) }
  if none_ then s2
  else s2.modelInput k (sat16 (centi (maxL 0 ((s2.modelled k).map (fun g => (tget s2.cells g).tc)))))

/-- ESTIMATION_PASS (R19, R195, R217, R228, R235): from pulse 420, the estimation pass, the thermal pass, the prediction
sets and the Herd increments, strings and cells ascending; then the balancing of the frame is counted, so that a step's
charge takes the balancing up to the frame before (R178). `late` is how many units of this work, from its end, are not
reached by pulse 900: strings of the Herd increments, prediction sets, cells of the thermal pass, cells of the estimation
pass. With its self-test failed Eland is idle and reaches none of it (R208). -/
def execEstimationPass (late : Nat) (s : State) : Host.Outcome State Fault Refusal :=
  let s0 := s.atP 420
  ok (if s0.est.passDone ∨ !s0.runtimeRuns ∨ s0.mode.mode = .load then s0
    else
      let nEst := s0.estDue.length
      let failed := s0.sys.selfTestFail.getLsbD 7
      let thStr := if s0.thermalFrame then s0.strings.filter s0.stepDue else []
      let due := thStr.flatMap s0.thDue
      let hStr := s0.strings
      let lateH := if failed then hStr.length else min late hStr.length
      let lateP := if failed then thStr.length else min (late - lateH) thStr.length
      let lateT := if failed then due.length else min (late - lateH - lateP) due.length
      let lateE := if failed then nEst else min (late - lateH - lateP - lateT) nEst
      let s2 := s0.estPass lateE
      let s3 := if failed then s2 else s2.fittedPorts.foldl (fun u p => u.thUpdate p) s2
      let reached := due.take (due.length - lateT)
      let s4 := thStr.foldl (fun u k =>
        let gs := u.thDue k
        u.thPass k (gs.filter reached.contains) (gs.filter (fun g => !reached.contains g))) s3
      let s5 := if failed then s4
        else (s4.strings.filter (fun k => decide ((s4.str k).state ≠ .unsurveyed))).foldl (fun u k => u.thInit k) s4
      let pred := thStr.take (thStr.length - lateP)
      let s6 := thStr.foldl (fun u k =>
        if pred.contains k then u.predSet k
        else { u with thm.str := tmod u.thm.str k (fun t => { t with predStale := true }) }) s5
      let acts (k : Nat) : List Nat := if !thStr.contains k then []
        else (s6.thsOf k).filter (fun i => s6.thGood i && !(tget s6.th i).broken &&
          reached.any (fun g => decide (thOfCell g = i)))
      let s7 := (hStr.take (hStr.length - lateH)).foldl (fun u k => u.herdIncr k (acts k)) s6
      let s8 := s7.strings.foldl (fun u k => (u.requests k).excComplete k) s7
      let s9 := s8.fittedPorts.foldl (fun u p => u.balCount p) s8
      { s9.histFrame with est.passDone := true })

end Sys2Proof.Machine
end

