-- ==== Sys2Proof/Machine/Image.lean ====
section
/-! DEFINITION. Area 0x12: the image on the carrier, its records and selection, staging, patches and the factory
calibration (R487 to R508). -/

namespace Sys2Proof.Machine

/-! ### Records of an image (R490, R495, R496) -/

/-- One record of a record list. `bad`: its length could not be converted (R496). -/
structure CfgRec where
  type : Nat := 0
  ver : Nat := 1
  body : Bytes := []
  migrated : Bool := false
  bad : Bool := false
  deriving DecidableEq, Repr, Inhabited

/-- Read a record list to its end (R490): headers of 8 bytes, or 6 in format 1; each record padded with zeros to a
multiple of 4; types strictly ascending. The first argument bounds the records read, the third is the least type that
may come. -/
def parseRecs : Nat → Nat → Nat → Bytes → Option (List CfgRec)
  | 0, _, _, b => if b = [] then some [] else none
  | n + 1, fmt, least, b =>
    if b = [] then some []
    else
      let h := if fmt = 1 then 6 else 8
      let len := rdU b 2 4
      let size := (h + len + 3) / 4 * 4
      let type := rdU b 0 2
      if b.length < size ∨ type < least ∨ !zeros b (h + len) (size - h - len) then none
      else
        let r : CfgRec := { type := type, ver := if fmt = 1 then 1 else rdU b 6 2, body := slice b h len }
        (parseRecs n fmt (type + 1) (b.drop size)).map (fun l => r :: l)

/-- The default `SITE_NET` port 1 block, 32 bytes (Table 14-16). -/
def defaultNet1 : Bytes := le 24 0 ++ [24, 64] ++ le 2 0 ++ [46, 6] ++ le 2 0

/-- Convert one record of an older format (Table 17-5, R496). -/
def migrateRec (fmt : Nat) (r : CfgRec) : CfgRec :=
  let conv (old new : Nat) (tail : Bytes) : CfgRec :=
    if r.body.length = new then r
    else if r.body.length = old then { r with body := r.body ++ tail, migrated := true }
    else { r with bad := true }
  if fmt = 1 ∧ r.type = 0x0F01 then conv 32 64 defaultNet1
  else if fmt < 3 ∧ r.type = 0x0708 then conv 32 36 (le 2 16 ++ le 2 100)
  else if fmt < 3 ∧ r.type = 0x0B04 then conv 4 8 (le 4 0x5F)
  else if fmt < 3 ∧ r.type = 0x1001 then conv 12 16 (le 2 0 ++ le 2 100)
  else r

/-- The record list of an image, converted to format 3. -/
def imageRecs (img : Bytes) : Option (List CfgRec) :=
  let fmt := rdU img 4 2
  let n := rdU img 12 4
  if n % 4 ≠ 0 then none
  else (parseRecs (n / 4 + 1) fmt 0 (slice img 64 n)).map (fun l => l.map (migrateRec fmt))

/-- The record of a type, where the list has one that could be converted. -/
def findRec (l : List CfgRec) (type : Nat) : Option CfgRec := l.find? (fun r => decide (r.type = type))

/-- Whole length of an image: header, records, certificates and signature. -/
def imageLength (img : Bytes) : Nat := 64 + rdU img 12 4 + rdU img 24 2 + 96

/-- The result of a slot (Table 17-4). `chain`: the certificate chain and the signature pass R488; `required`: the
records of R492 are present and valid. -/
def judgeImage (img : Bytes) (chain : Verdict) (required : List CfgRec → Bool) : Nat :=
  if img = [] ∨ slice img 0 4 = [0xFF, 0xFF, 0xFF, 0xFF] then 1
  else if rdU img 0 4 ≠ 0x9E0C1F17 ∨ rdU img 6 2 ≠ 64 ∨ rdU img 60 4 ≠ (crc32c (slice img 0 60)).toNat ∨
      img.length < 64 + rdU img 12 4 ∨ rdU img 28 4 ≠ (crc32c (slice img 64 (rdU img 12 4))).toNat then 2
  else if rdU img 4 2 < 1 ∨ 3 < rdU img 4 2 then 3
  else if chain = .fail ∨ img.length < imageLength img then 4
  else
    match imageRecs img with
    | none => 5
    | some l => if required l then 0 else 6

/-- `CFG_SEQ` of an image. -/
def imageSeqOf (img : Bytes) : Nat := rdU img 8 4

/-- A slot that passes codes 2 to 4 (R494). -/
def passes234 (res : Nat) : Bool := decide (res = 0) || decide (res = 5) || decide (res = 6)

/-- The slot the loader takes (R494): the usable one with the higher sequence, slot 0 on a tie. -/
def chooseSlot (r0 r1 q0 q1 : Nat) : Option Nat :=
  if r0 = 0 then (if r1 = 0 ∧ q0 < q1 then some 1 else some 0) else if r1 = 0 then some 1 else none

/-- The loaded slot counts as the newest (R494). -/
def isNewest (best r0 r1 q0 q1 : Nat) : Bool :=
  let p0 := passes234 r0
  let p1 := passes234 r1
  if p0 && p1 then decide (q0 = q1) || decide (best = if q0 < q1 then 1 else 0)
  else if p0 then decide (best = 0) else decide (best = 1)

/-! ### The patchable words (R501) -/

/-- A signed number as a 32-bit word. -/
def wordOfInt (v : Int) : Word := BitVec.ofInt 32 v

/-- The eight words of a port in `PP_PORTS` (Table 10-13). -/
def PortCfg.words (c : PortCfg) : List Word :=
  [BitVec.ofNat 32 c.icurFs, wordOfInt c.icurOfs, BitVec.ofNat 32 c.vstrFs, BitVec.ofNat 32 c.vbusFs,
   BitVec.ofNat 32 c.rating, BitVec.ofNat 32 c.choke, BitVec.ofNat 32 c.vclamp, 0]

/-- Write one of the patchable words of a port. -/
def PortCfg.setWord (c : PortCfg) (w : Nat) (v : Word) : PortCfg :=
  match w with
  | 0 => { c with icurFs := v.toNat }
  | 1 => { c with icurOfs := v.toInt }
  | 2 => { c with vstrFs := v.toNat }
  | 3 => { c with vbusFs := v.toNat }
  | _ => c

/-- Word `k` of `THM_ZONES` (Table 8-8). -/
def ThmCfg.zoneWord (c : ThmCfg) (k : Nat) : Word :=
  let z := c.zone k
  BitVec.ofNat 32 (z.1 * 2 ^ 24 + z.2.1 * 2 ^ 16 + (z.2.2 % 65536).toNat)

/-- Word 2 of `THM_POLICY` (Table 8-9). -/
def ThmCfg.aiWord (c : ThmCfg) : Word :=
  BitVec.ofNat 32 ((c.aiLo % 65536).toNat * 2 ^ 16 + (c.aiHi % 65536).toNat)

/-- Write word `k` of `THM_ZONES`. -/
def ThmCfg.setZone (c : ThmCfg) (k : Nat) (v : Word) : ThmCfg :=
  { c with zones := (upFrom 0 16).map (fun i =>
      if i = k then (bitsOf v.toNat 24 8, bitsOf v.toNat 16 8, signedOf 2 (bitsOf v.toNat 0 16)) else c.zone i) }

/-- Write word 2 of `THM_POLICY`. -/
def ThmCfg.setAi (c : ThmCfg) (v : Word) : ThmCfg :=
  { c with aiLo := signedOf 2 (bitsOf v.toNat 16 16), aiHi := signedOf 2 (bitsOf v.toNat 0 16) }

/-- The present value of a patchable word. -/
def State.cfgWord (s : State) (type word : Nat) : Word :=
  if type = 0x0A01 then (tget s.power.cfg.ports (word / 8)).words.getD (word % 8) 0
  else if type = 0x0802 then s.thm.cfg.zoneWord word
  else s.thm.cfg.aiWord

/-- Write a patchable word. Markhor's copies of the current words are the same store (R504). -/
def State.setCfgWord (s : State) (type word : Nat) (v : Word) : State :=
  if type = 0x0A01 then
    { s with power.cfg.ports := tmod s.power.cfg.ports (word / 8) (fun c => c.setWord (word % 8) v) }
  else if type = 0x0802 then { s with thm.cfg := s.thm.cfg.setZone word v }
  else { s with thm.cfg := s.thm.cfg.setAi v }

/-- The value of a patchable word in the loaded image: the patch set keeps it, else the word is unpatched. -/
def State.imageWord (s : State) (type word : Nat) : Word :=
  match s.cfg.patches.find? (fun w => decide (w.type = type) && decide (w.word = word)) with
  | some w => w.img
  | none => s.cfgWord type word

/-- The patched word: (old AND NOT mask) OR (value AND mask) (R501). -/
def PatchItem.apply (i : PatchItem) (old : Word) : Word := (old &&& ~~~i.mask) ||| (i.value &&& i.mask)

/-- Within ±5 % of an image value. -/
def within5 (img v : Nat) : Bool := decide (100 * v ≤ 105 * img) && decide (95 * img ≤ 100 * v)

/-- The limits of Table 17-8 on a patched word, relative to a base value. -/
def patchLimits (i : PatchItem) (base new : Word) : Bool :=
  if i.type = 0x0A01 then
    match i.word % 8 with
    | 0 => within5 base.toNat new.toNat && decide (10000 ≤ new.toNat) && decide (new.toNat ≤ 2000000)
    | 1 => decide ((new.toInt - base.toInt).natAbs ≤ 2000) && decide (-10000 ≤ new.toInt) && decide (new.toInt ≤ 10000)
    | 2 => within5 base.toNat new.toNat && decide (100000 ≤ new.toNat) && decide (new.toNat ≤ 2000000)
    | 3 => within5 base.toNat new.toNat && decide (100000 ≤ new.toNat) && decide (new.toNat ≤ 2000000)
    | _ => false
  else if i.type = 0x0802 then
    let z := bitsOf new.toNat 16 8
    let t := signedOf 2 (bitsOf new.toNat 0 16)
    decide (10 ≤ z) && decide (z ≤ 250) && decide (-4000 ≤ t) && decide (t ≤ 8000)
  else decide (signedOf 2 (bitsOf new.toNat 16 16) < signedOf 2 (bitsOf new.toNat 0 16))

/-- An entry names a patchable word with a permitted mask (Table 17-8). -/
def PatchItem.permitted (i : PatchItem) : Bool :=
  (decide (i.type = 0x0A01) && decide (i.word < 128) && decide (i.word % 8 < 4)) ||
  (decide (i.type = 0x0802) && decide (i.word < 16) && decide (i.mask &&& 0xFF000000 = 0)) ||
  (decide (i.type = 0x0803) && decide (i.word = 2))

/-- An entry meets R501 at a state. -/
def State.itemOk (s : State) (i : PatchItem) : Bool :=
  i.permitted && patchLimits i (s.imageWord i.type i.word) (i.apply (s.cfgWord i.type i.word))

/-- A patched word of the set with another effective value, or a new one, in ascending type and word order. -/
def insertPatch (w : PatchWord) : List PatchWord → List PatchWord
  | [] => [w]
  | a :: t =>
    if a.type = w.type ∧ a.word = w.word then { a with eff := w.eff } :: t
    else if w.type < a.type ∨ (w.type = a.type ∧ w.word < a.word) then w :: a :: t
    else a :: insertPatch w t

/-- Apply one entry: the word and the patch set change. -/
def State.applyItem (s : State) (i : PatchItem) : State :=
  let old := s.cfgWord i.type i.word
  let new := i.apply old
  let w : PatchWord := { type := i.type, word := i.word, eff := new, img := s.imageWord i.type i.word }
  { s.setCfgWord i.type i.word new with cfg.patches := insertPatch w s.cfg.patches }

/-- Every entry meets R501, each judged after the ones before it (R502: body order). -/
def State.itemsOk (s : State) : List PatchItem → Bool
  | [] => true
  | i :: t => s.itemOk i && (s.applyItem i).itemsOk t

/-- Markhor confirms the current entries against the words it took at the end of Load (R504). -/
def State.markhorConfirms (s : State) : List PatchItem → Bool
  | [] => true
  | i :: t =>
    (if i.type = 0x0A01 then
      patchLimits i ((tget s.power.loadPorts (i.word / 8)).words.getD (i.word % 8) 0)
        (i.apply (s.cfgWord i.type i.word))
    else true) && (s.applyItem i).markhorConfirms t

/-- The entries of a `CFG_PATCH` body (Table 17-9). -/
def patchItems (b : Bytes) : Nat → Nat → List PatchItem
  | _, 0 => []
  | off, n + 1 =>
    { type := rdU b off 2, word := rdU b (off + 2) 2, mask := BitVec.ofNat 32 (rdU b (off + 4) 4),
      value := BitVec.ofNat 32 (rdU b (off + 8) 4) } :: patchItems b (off + 12) n

/-- The entries a ledger entry carries. -/
def LedgerEntry.items (e : LedgerEntry) : List PatchItem := patchItems e.body 4 (rdU e.body 0 1)

/-- Checks of `CFG_PATCH` (R502). -/
def patchChecks (s : State) (e : LedgerEntry) : Checks :=
  let n := rdU e.body 0 1
  { format := decide (e.body.length = 4 + 12 * n) && zeros e.body 1 3,
    state := e.items.all (fun i =>
      !(decide (i.type = 0x0A01) && decide (i.word < 128) && decide ((s.str (i.word / 8)).state = .connecting))),
    range := decide (1 ≤ n) && decide (n ≤ 16) && s.itemsOk e.items,
    safety := s.markhorConfirms e.items }

/-- `CFG_PATCH`: judged whole; applied at pulse 0 of the next frame (R502, R503). -/
def execCfgPatch (id : Word) (s : State) : Host.Outcome State Fault Refusal :=
  ok (s.evaluate id 0x1201 2 patchChecks noStr (fun t e =>
    let j : PatchJob := { cmd := e.id, at_ := t.now + 1, items := e.items, role := e.role }
    { t with cfg.jobs := t.cfg.jobs ++ [j] }.cmdTo e.id .accepted .ok 0 []))

/-- Apply one entry with its event and its audit record (R503, R577). -/
def State.applyLogged (s : State) (e : LedgerEntry) (i : PatchItem) : State :=
  let old := s.cfgWord i.type i.word
  let new := i.apply old
  ((s.applyItem i).ev 0x1204 (le 2 i.type ++ le 2 i.word ++ le 4 old.toNat ++ le 4 new.toNat ++ le 4 e.id.toNat)).audit
    e i.type i.word old new

/-- Step 1 of an accepted patch, at pulse 0 of the frame after its effective frame (R503). -/
def execCfgPatchApply (id : Word) (s : State) : Host.Outcome State Fault Refusal :=
  ok (match s.cfg.jobs.find? (fun j => decide (j.cmd = id)), s.entry id with
  | some j, some e =>
    if j.at_ = s.now ∧ !j.applied then
      let s0 := (s.atP 0).cmdTo id .started .ok 1 []
      let s1 := j.items.foldl (fun t i => t.applyLogged { e with state := .started } i) s0
      { s1 with cfg.jobs := s1.cfg.jobs.map (fun k => if k.cmd = id then { k with applied := true } else k) }
    else s
  | _, _ => s)

/-- Write a half of the patch area. -/
def State.setHalf (s : State) (k : Nat) (h : PatchHalf) : State :=
  if k = 0 then { s with cfg.half0 := h } else { s with cfg.half1 := h }

/-- Number entries with rising sequences. -/
def numberEntries : Nat → List PatchEntry → List PatchEntry
  | _, [] => []
  | q, e :: t => { e with seq := q } :: numberEntries (q + 1) t

/-- The next `CFG_P_SEQ`: one above the last entry of the live half. -/
def State.nextPSeq (s : State) : Nat :=
  match s.liveHalf with
  | none => 1
  | some k => (((s.half k).entries.getLast?).map (·.seq)).getD 0 + 1

/-- Compaction (R506): the other half takes one entry per patched word and the next generation. Where no half is
live, half 0 is written (DEDUCED, log 13). -/
def State.compact (s : State) (role : Role) (cmd : Word) : State :=
  let live := s.liveHalf
  let k := match live with
    | some k => 1 - k
    | none => 0
  let gen := (live.map (fun j => (s.half j).gen)).getD 0 + 1
  let entryOf (w : PatchWord) : PatchEntry :=
    { type := w.type, word := w.word, mask := 0xFFFFFFFF, value := w.eff, frame := s.now, role := role, cmd := cmd }
  let es := s.cfg.patches.map entryOf
  s.setHalf k { valid := true, gen := gen, imageSeq := s.cfg.seqLoaded, entries := numberEntries s.nextPSeq es }

/-- Append a patch to the live half, or compact (R503, R505, R506). -/
def State.persist (s : State) (j : PatchJob) : State :=
  match s.liveHalf with
  | none => s.compact j.role j.cmd
  | some k =>
    let h := s.half k
    if h.imageSeq ≠ s.cfg.seqLoaded ∨ halfCapacity < h.entries.length + j.items.length then s.compact j.role j.cmd
    else
      let entryOf (i : PatchItem) : PatchEntry :=
        { type := i.type, word := i.word, mask := i.mask, value := i.value, frame := j.at_, role := j.role,
          cmd := j.cmd }
      let es := j.items.map entryOf
      s.setHalf k { h with entries := h.entries ++ numberEntries s.nextPSeq es }

/-- Take a patch out of the list of those under way. -/
def State.dropPatch (s : State) (id : Word) : State :=
  { s with cfg.jobs := s.cfg.jobs.filter (fun j => decide (j.cmd ≠ id)) }

/-- Change a patch under way. -/
def State.setPatch (s : State) (j : PatchJob) : State :=
  { s with cfg.jobs := s.cfg.jobs.map (fun k => if k.cmd = j.cmd then j else k) }

/-- CFG_PATCH_PERSISTED (R499, R503): this module appends the patch to its area, or fails to, and lists that. -/
def execCfgPatchPersisted (id : Word) (flash : Verdict) (s : State) : Host.Outcome State Fault Refusal :=
  ok (match s.cfg.jobs.find? (fun j => decide (j.cmd = id)) with
  | none => s
  | some j =>
    if !j.applied ∨ j.own then s
    else
      let s1 := s.setPatch { j with own := true }
      if flash = .fail then
        ({ s1 with cfg.persistFail := true }.ev 0x1205 (le 1 1 ++ le 2 j.items.length)).listStep id 2 1 0
      else (s1.persist j).listStep id 2 0 0)

/-- A listed step 2 of a patch, in the frame assigned to it: DONE when both modules have it, FAILED_FAULT when one has
failed (R503). -/
def State.patchTake (s : State) (j : PatchJob) (slot : Slot) (code : Nat) : State :=
  if code ≠ 0 then (s.cmdFail j.cmd .failedFault 2 []).dropPatch j.cmd
  else
    let j1 : PatchJob := match slot with
      | .a => { j with doneA := 2 }
      | .b => { j with doneB := 2 }
    if s.pairDone j1.doneA j1.doneB = 2 then (s.cmdTo j.cmd .done .ok 2 []).dropPatch j.cmd else s.setPatch j1

/-! ### Staging (R497 to R499) -/

/-- The target slot: the one not loaded; in the hold, the one with the higher result code, slot 0 on a tie (R497). -/
def State.targetSlot (s : State) : Nat :=
  match s.cfg.slot with
  | some k => 1 - k
  | none => if s.cfg.res0 < s.cfg.res1 then 1 else 0

/-- Checks of `CFG_IMAGE_STAGE` (R497, Table 17-6). -/
def stageChecks (s : State) (e : LedgerEntry) : Checks :=
  let len := rdU e.body 0 4
  let n := rdU e.body 4 2
  { format := decide (e.body.length = 8 + 2 * n) && zeros e.body 6 2,
    busy := s.cfg.stage.isNone,
    range := decide (64 ≤ len) && decide (len ≤ 2097152) && decide (n = (len + 4095) / 4096) && decide (1 ≤ n) &&
      decide (n ≤ 512) && e.pages.all s.ownsInbound }

/-- `CFG_IMAGE_STAGE`: stage an image into the target slot in four steps. -/
def execCfgImageStage (id : Word) (s : State) : Host.Outcome State Fault Refusal :=
  ok (s.evaluate id 0x1202 4 stageChecks noStr (fun t e =>
    let k := t.targetSlot
    let j : StageJob := { cmd := e.id, target := k, length := rdU e.body 0 4, pages := e.pages,
                          oldDigest := imageDigest (t.slotImage k) }
    { t with cfg.stage := some j,
             site.ledger := tmodAll t.site.ledger ((slotOf t.site.ledger e.id).toList)
               (fun _ x => { x with before := imageDigest (t.slotImage k) }) }.cmdTo e.id .accepted .ok 0 []))

/-- The image a staging carries. -/
def State.stageImage (s : State) (j : StageJob) : Bytes := (s.pageBytes j.pages).take j.length

/-- Write a carrier slot. -/
def State.setSlot (s : State) (k : Nat) (b : Bytes) : State :=
  if k = 0 then { s with cfg.slot0 := b } else { s with cfg.slot1 := b }

/-- Set what `CFG_STATUS` reports of the target slot. -/
def State.setOther (s : State) (k res : Nat) (b : Bytes) : State :=
  let s1 := if k = 0 then { s with cfg.res0 := res } else { s with cfg.res1 := res }
  { s1 with cfg.seqOther := if res = 1 then 0 else imageSeqOf b, cfg.digestOther := if res = 1 then 0 else imageDigest b }

/-- Step 1 of a staging (Table 17-7): 0, the code of Table 17-4, or 0x07 for the sequence. -/
def State.stageCheck (s : State) (j : StageJob) (chain : Verdict) (required : List CfgRec → Bool) : Nat :=
  let img := s.stageImage j
  let r := judgeImage img chain required
  if r ≠ 0 then r
  else if (passes234 s.cfg.res0 && decide (imageSeqOf img ≤ imageSeqOf s.cfg.slot0)) ||
      (passes234 s.cfg.res1 && decide (imageSeqOf img ≤ imageSeqOf s.cfg.slot1)) then 7
  else 0

/-- `CFG_STAGE` (Table 17-14). -/
def State.evStage (s : State) (kind : Nat) (j : StageJob) (step : Nat) : State :=
  s.ev 0x1203 (le 1 kind ++ le 1 j.target ++ le 4 (imageSeqOf (s.stageImage j)) ++ le 4 j.cmd.toNat ++ le 1 step)

/-- This module's flash work for a step that succeeds (Table 17-7). -/
def State.stageWork (s : State) (j : StageJob) (step : Nat) : State :=
  if step = 1 then s.evStage 1 j 1
  else if step = 2 then (s.setSlot j.target []).setOther j.target 1 []
  else if step = 3 then s.setSlot j.target (s.stageImage j)
  else { (s.setOther j.target 0 (s.stageImage j)).evStage 2 j 4 with cfg.staged := true }

/-- This module completes or fails its next staging step, and lists that (R498, R499). `st` is what its flash reports;
`chain` the verdict on the chain and signature; `required`, the judgement of required records that Load shares. A failure is
listed with 2 for FAILED_TIMEOUT and 1 for FAILED_FAULT, and the code of step 1. -/
def State.stageStep (s : State) (id : Word) (step : Nat) (st : Status) (chain : Verdict)
    (required : List CfgRec → Bool) : State :=
  match s.cfg.stage with
  | none => s
  | some j =>
    if j.cmd ≠ id ∨ j.failed ∨ j.own + 1 ≠ step ∨ 4 < step then s
    else
      let c := if step = 1 then s.stageCheck j chain required else 0
      if c ≠ 0 ∨ st ≠ .ok then
        { s.evStage 3 j step with cfg.stage := some { j with failed := true } }.listStep id step
          (if c = 0 ∧ st = Status.failedTimeout ∧ step ≠ 1 then 2 else 1) c
      else ({ s.stageWork j step with cfg.stage := some { j with own := step } }).listStep id step 0 0

/-- A listed staging step, in the frame assigned to it (R499): a failure in either module fails the command in both, and
what has been written remains (R15); the ledger moves when both modules, or a lone one, have the step. -/
def State.stageTake (s : State) (j : StageJob) (slot : Slot) (step code info : Nat) : State :=
  if code ≠ 0 then
    { s.cmdFail j.cmd (if code = 2 then Status.failedTimeout else Status.failedFault) step (if step = 1 then le 1 info else []) with
      cfg.stage := none }
  else
    let j1 : StageJob := match slot with
      | .a => { j with doneA := max j.doneA step }
      | .b => { j with doneB := max j.doneB step }
    let r := s.pairDone j1.doneA j1.doneB
    let s1 := { s with cfg.stage := some j1 }
    if r ≤ s.pairDone j.doneA j.doneB then s1
    else if r = 4 then { s1.cmdTo j.cmd .done .ok 4 [] with cfg.stage := none }
    else s1.cmdTo j.cmd .started .ok r []

/-- A listed step of a staging or of a patch. -/
def State.cfgTake (s : State) (id : Word) (slot : Slot) (step code info : Nat) : State :=
  match s.cfg.stage, s.cfg.jobs.find? (fun j => decide (j.cmd = id)) with
  | some j, p => if j.cmd = id then s.stageTake j slot step code info else (p.map (s.patchTake · slot code)).getD s
  | none, some j => s.patchTake j slot code
  | none, none => s

/-! ### Factory calibration (R508) -/

/-- `CFG_FACTORY_CAL`: write the block and read it back; `flash` is the read-back. It counts from the next start. -/
def execCfgFactoryCal (id : Word) (flash : Verdict) (s : State) : Host.Outcome State Fault Refusal :=
  ok (s.evaluate id 0x1203 2
    (fun _ e =>
      { format := decide (e.body.length = 512) && decide (rdU e.body 508 4 = (crc32c (slice e.body 0 508)).toNat) })
    noStr (fun t e =>
      let t1 := { t with psv.cal := e.body }
      if flash = .pass then t1.cmdTo e.id .done .ok 2 [] else t1.cmdFail e.id .failedFault 2 []))

end Sys2Proof.Machine
end

