-- ==== Sys2Proof/Machine/Records.lean ====
section
/-! DEFINITION. The records of an image by chapter: field, range and invalidity of each (R11, Tables 1-4 to 21-13). A
parser answers none for an invalid body; a body of another length than its table's is invalid. -/

namespace Sys2Proof.Machine

/-! ### Fields -/

/-- A field of a record: word, lowest bit, width. -/
def fld (b : Bytes) (w lo n : Nat) : Nat := bitsOf (wordAt b w) lo n

/-- A signed 16-bit field of a record. -/
def fldI (b : Bytes) (w lo : Nat) : Int := signedOf 2 (fld b w lo 16)

/-- A signed 32-bit word of a record. -/
def wordI (b : Bytes) (w : Nat) : Int := signedOf 4 (wordAt b w)

/-- A flag of a record. -/
def fldB (b : Bytes) (w i : Nat) : Bool := decide (fld b w i 1 = 1)

/-- A number lies in a range. -/
def rng (lo hi v : Nat) : Bool := decide (lo ≤ v) && decide (v ≤ hi)

/-- A signed number lies in a range. -/
def rngI (lo hi v : Int) : Bool := decide (lo ≤ v) && decide (v ≤ hi)

/-- A record in force when its length and checks hold. -/
def okRec {α : Type} (b : Bytes) (len : Nat) (checks : List Bool) (v : α) : Option α :=
  if b.length = len ∧ checks.all (fun c => c) then some v else none

/-! ### Area 0x01 (R23) -/

/-- The port word of a port in a `SYS_TOPOLOGY` body. -/
def topoWord (b : Bytes) (p : Nat) : Nat := wordAt b (p + 1)

/-- `SYS_CELLS` of a port in a body. -/
def topoCells (b : Bytes) (p : Nat) : Nat := bitsOf (topoWord b p) 16 7

/-- The first failing check of R23 and the port it is tied to, `ov` being the over-voltage limit in µV. Where both the
header word and a port word hold a reserved field that is not zero, the header's comes first (DESIGN CHOICE, log 191): the
rule orders only the ports. -/
def topoFault (b : Bytes) (ov : Int) : Option (Nat × Nat) :=
  let inst (k : Nat) : Bool := bitOf (wordAt b 0) k
  let cells := topoCells b
  let th (p : Nat) : Nat := bitsOf (topoWord b p) 0 16
  let first (check : Nat) (bad : Nat → Bool) (ps : List Nat) : Option (Nat × Nat) :=
    (ps.find? bad).map (fun p => (check, p))
  if b.length ≠ 516 then some (1, 0xFF)
  else
    (first 2 (fun p => decide (cells p = 0)) ((allStr.filter inst).map (fun k => 8 * k))).or
    ((first 3 (fun p => decide (p % 8 ≠ 0) && decide (cells p ≠ 0) && decide (cells (p - 1) = 0) && inst (p / 8))
      allPorts).or
    ((first 4 (fun p => !inst (p / 8) && decide (topoWord b p ≠ 0)) allPorts).or
    ((first 5 (fun p => decide (cells p ≠ 0) && !rng 16 64 (cells p)) allPorts).or
    ((first 6 (fun p => decide ((cells p = 0) ≠ (th p = 0))) allPorts).or
    ((first 7 (fun p => decide (1500000000 < sumL ((portsOf (p / 8)).map (fun q => (cells q : Int))) * ov))
      (allStr.map (fun k => 8 * k))).or
    (if bitsOf (wordAt b 0) 24 8 ≠ 0 then some (8, 0xFF)
     else first 8 (fun p => decide (bitsOf (topoWord b p) 23 9 ≠ 0)) allPorts))))))

/-- The port words of an accepted `SYS_TOPOLOGY`. -/
def topoPorts (b : Bytes) : Tab PortWord :=
  tmodAll [] allPorts (fun p _ => { cells := topoCells b p, thMask := BitVec.ofNat 16 (topoWord b p) })

/-! ### Areas 0x02 to 0x06 -/

/-- `TIME_SOURCES` (Table 2-8, R59): reserved codes are outside their field's range. -/
def parseTime (b : Bytes) : Option TimeCfg :=
  okRec b 12 [rng 0 127 (fld b 0 24 8), rng 0 2 (fld b 0 20 2), rng 0 1 (fld b 0 12 2), rngI 0 10000 (wordI b 1),
      rng 1000 1000000 (wordAt b 2)]
    { domain := fld b 0 24 8, profile := fld b 0 20 2, ports := fld b 0 18 2, ppsEn := fldB b 0 17,
      ppsFalling := fldB b 0 16, ref10En := fldB b 0 15, preferPps := fldB b 0 14, todCmd := fldB b 0 12,
      ppsDelay := wordAt b 1, alignLimit := wordAt b 2 }

/-- `MODE_POLICY` (Table 3-12, R87). -/
def parseMode (b : Bytes) : Option ModeCfg :=
  okRec b 8 [rng 1 10 (fld b 0 16 8), rng 5 50 (fld b 0 8 8), rng 80 100 (fld b 0 0 8)]
    { connectRetries := fld b 0 16 8, openWait := fld b 0 8 8, serveHoldup := fld b 0 0 8 }

/-- `LINK_POLICY` (Table 4-15, R116). -/
def parseLink (b : Bytes) : Option LinkCfg :=
  okRec b 4 [rng 1 255 (fld b 0 16 8), rng 3 100 (fld b 0 8 8)]
    { echoInterval := fld b 0 16 8, recoverFrames := fld b 0 8 8, repeatEn := fldB b 0 0 }

/-- The defaults of `CFE_POLICY`: the SF-01 to SF-03 limits as loaded (Table 5-11, R301). -/
def cfeDefault (l : LimitCfg) : CfeCfg :=
  { slpOv := l.ovTrip.toNat, slpUv := l.uvTrip.toNat, slpOt := l.otTrip }

/-- `CFE_POLICY` (Table 5-11, R149). -/
def parseCfe (b : Bytes) : Option CfeCfg :=
  okRec b 16 [rng 2000000 5000000 (wordAt b 0), rng 1000000 4000000 (wordAt b 1), decide (wordAt b 1 < wordAt b 0),
      rngI 2000 8000 (fldI b 2 16), rng 1 50 (fld b 2 8 8), rng 2500 5000 (fld b 3 0 16)]
    { slpOv := wordAt b 0, slpUv := wordAt b 1, slpOt := fldI b 2 16, deadband := fld b 2 8 8, balEn := fldB b 2 0,
      thBeta := fld b 3 0 16 }

/-- `MEAS_POLICY` (Table 6-8, R175). -/
def parseMeas (b : Bytes) : Option MeasCfg :=
  okRec b 16 [rng 2 255 (fld b 0 24 8), rng 10 200 (fld b 0 16 8), rng 10 30 (fld b 0 8 8), rng 5 100 (fld b 0 0 8),
      rng 0 1000 (fld b 1 16 16), rng 3 30 (fld b 1 8 8), rng 1 120 (fld b 1 0 8), rng 60 600 (fld b 2 16 16),
      rng 1 50 (fld b 2 8 8), rng 100 10000 (fld b 3 16 16), rng 100 2000 (fld b 3 0 16)]
    { owInterval := fld b 0 24 8, guard := fld b 0 16 8, owThresh := fld b 0 8 8, owSumtol := fld b 0 0 8,
      owPairMargin := fld b 1 16 16, thDisagree := fld b 1 8 8, thPersist := fld b 1 0 8, owDeadline := fld b 2 16 16,
      balBand := fld b 2 8 8, balEn := fldB b 2 1, adaptEn := fldB b 2 0, strTol := fld b 3 16 16,
      balR := fld b 3 0 16 }

/-! ### Area 0x07 (Tables 7-4 to 7-11) -/

/-- `n` unsigned words of a body. -/
def wordsU (b : Bytes) (first n : Nat) : List Int := (upFrom first n).map (fun i => (wordAt b i : Int))

/-- Strictly ascending. -/
def strictAsc : List Int → Bool
  | a :: b :: t => decide (a < b) && strictAsc (b :: t)
  | _ => true

/-- Non-decreasing. -/
def nonDec : List Int → Bool
  | a :: b :: t => decide (a ≤ b) && nonDec (b :: t)
  | _ => true

/-- `EST_CHEM` (Tables 7-4, 7-8). -/
def chemOk (b : Bytes) : Bool :=
  let temps := (upFrom 0 9).map (fun i => rdI b (12 + 2 * i) 2)
  decide (b.length = 56) && strictAsc temps && temps.all (rngI (-5000) 10000) &&
    rng 3600000 7200000000 (rdU b 4 8) && decide (rdI b 32 4 < rdI b 36 4) && decide (rdU b 40 4 < rdU b 44 4) &&
    rng 950000 1000000 (rdU b 48 4) && rng 1 1000 (rdU b 52 2) && zeros b 30 2 && zeros b 54 2

/-- `EST_OCV` (Tables 7-4, 7-7). -/
def ocvOk (b : Bytes) : Bool :=
  let d := wordsU b 0 909
  let c := wordsU b 909 909
  let branch (l : List Int) : Bool := (upFrom 0 9).all (fun j => nonDec ((l.drop (101 * j)).take 101))
  decide (b.length = 7272) && (d ++ c).all (rngI 1000000 5000000) && branch d && branch c &&
    (d.zip c).all (fun x => decide (x.1 ≤ x.2))

/-- `EST_FADE` as pairs. -/
def fadePairs (b : Bytes) : List (Int × Int) :=
  (upFrom 0 32).map (fun i => ((wordAt b (2 * i) : Int), (wordAt b (2 * i + 1) : Int)))

/-- `EST_FADE` (Table 7-4). -/
def fadeOk (b : Bytes) : Bool :=
  decide (b.length = 256) && strictAsc ((fadePairs b).map (·.1)) && decide (wordAt b 0 = 0) &&
    (fadePairs b).all (fun x => rngI 100000 1100000 x.2)

/-- The check of one record of the chemistry set, by type. -/
def chemRecOk (type : Nat) (b : Bytes) : Bool :=
  if type = 0x0701 then chemOk b
  else if type = 0x0702 then ocvOk b
  else if type = 0x0703 then decide (b.length = 3780) && (wordsU b 0 945).all (fun x => decide (x ≠ 0))
  else if type = 0x0704 then decide (b.length = 84)
  else if type = 0x0705 then fadeOk b
  else if type = 0x0706 then decide (b.length = 36) && (wordsU b 0 9).all (rngI 100000 1100000)
  else decide (b.length = 756) && (wordsU b 0 189).all (fun x => decide (x ≠ 0))

/-- The chemistry set of seven bodies in type order. -/
def chemOf (b : Nat → Bytes) : Chem :=
  { id := BitVec.ofNat 32 (rdU (b 1) 0 4), capacity := rdU (b 1) 4 8,
    temps := (upFrom 0 9).map (fun i => rdI (b 1) (12 + 2 * i) 2), vEod := rdI (b 1) 32 4, vEoc := rdI (b 1) 36 4,
    socEod := rdU (b 1) 40 4, socEoc := rdU (b 1) 44 4, etaC := rdU (b 1) 48 4, gamma := rdU (b 1) 52 2,
    ocvD := wordsU (b 2) 0 909, ocvC := wordsU (b 2) 909 909, rsTab := wordsU (b 3) 0 189,
    raTab := wordsU (b 3) 189 189, caTab := wordsU (b 3) 378 189, rbTab := wordsU (b 3) 567 189,
    cbTab := wordsU (b 3) 756 189, entropic := (upFrom 0 21).map (wordI (b 4)), fade := fadePairs (b 5),
    tempcap := wordsU (b 6) 0 9, rcomp := wordsU (b 7) 0 189 }

/-- `EST_FILTER` (Table 7-9, R209). -/
def parseEst (b : Bytes) : Option EstCfg :=
  okRec b 36 [rng 500 20000 (fld b 0 16 16), rng 1000 50000 (fld b 0 0 16), rng 100 2000 (fld b 1 16 16),
      rng (fld b 1 16 16) 5000 (fld b 1 0 16), rng 12 720 (fld b 2 16 16), rng 1 168 (fld b 2 8 8),
      rng 10 240 (fld b 2 0 8), rng 0 1000000 (wordAt b 3), rng 0 100000 (wordAt b 4),
      rng 1000000 1000000000 (wordAt b 5), rng 100000 100000000 (wordAt b 6), rng 100 50000 (fld b 7 16 16),
      rng 2 12 (fld b 7 8 8), rng 2 100 (fld b 7 0 8), rng 0 10000 (fld b 8 16 16), rng 0 10000 (fld b 8 0 16)]
    { sigmaMax := fld b 0 16 16, sigmaCold := fld b 0 0 16, sigmaSet := fld b 1 16 16, sigmaRef := fld b 1 0 16,
      horizon := fld b 2 16 16, reqRepeat := fld b 2 8 8, restMin := fld b 2 0 8, qTime := wordAt b 3,
      qThru := wordAt b 4, rMeas := wordAt b 5, rRest := wordAt b 6, slopeMin := fld b 7 16 16,
      rsShift := fld b 7 8 8, rsStep := fld b 7 0 8, qRc := fld b 8 16 16, qH := fld b 8 0 16 }

/-! ### Areas 0x08 and 0x09 -/

/-- `THM_PARAMS` (Table 8-7, R231). -/
def parseThmParams (b : Bytes) (c : ThmCfg) : Option ThmCfg :=
  okRec b 24 [rng 10 100000 (wordAt b 0), rng 10 100000 (wordAt b 1), rng 10 1000000 (wordAt b 2),
      rng 0 1000000 (wordAt b 3), rng 1 1000000 (wordAt b 4)]
    { c with cc := wordAt b 0, cs := wordAt b 1, gcs := wordAt b 2, gn := wordAt b 3, gp := wordAt b 4 }

/-- A plate source that Table 8-8 defines. -/
def plateSrcOk (v : Nat) : Bool := decide (v ≤ 1) || rng 0x10 0x17 v

/-- `THM_ZONES` (Table 8-8, R231). -/
def parseThmZones (b : Bytes) (c : ThmCfg) : Option ThmCfg :=
  okRec b 64 [allStr.all (fun k => plateSrcOk (fld b k 24 8) && rng 10 250 (fld b k 16 8) &&
      rngI (-4000) 8000 (fldI b k 0))]
    { c with zones := allStr.map (fun k => (fld b k 24 8, fld b k 16 8, fldI b k 0)) }

/-- `THM_POLICY` (Table 8-9, R231). -/
def parseThmPolicy (b : Bytes) (c : ThmCfg) : Option ThmCfg :=
  okRec b 12 [rng 0 32768 (fld b 0 16 16), rng 1 1000 (fld b 1 16 16), rng 2 16 (fld b 1 8 8),
      decide (fld b 1 8 8 % 2 = 0), decide (fldI b 2 16 < fldI b 2 0)]
    { c with obsKs := fld b 0 16 16, obsKc := fld b 0 0 16, obsMax := fld b 1 16 16, lead := fld b 1 8 8,
             aiLo := fldI b 2 16, aiHi := fldI b 2 0 }

/-- `HERD_POLICY` (Table 9-9, R256). -/
def parseHerd (b : Bytes) : Option HerdCfg :=
  okRec b 40 [rng 200 1000 (fld b 0 16 16), rng (fld b 0 16 16 + 1) 2000 (fld b 0 0 16), rng 100 1000 (fld b 1 16 16),
      decide (fld b 1 16 16 < fld b 0 16 16), rng 60 3600 (fld b 1 0 16), rng 600 32400 (fld b 2 16 16),
      rng 600 32400 (fld b 2 0 16), rng 10 10000 (fld b 3 16 16), rng 1000 60000 (fld b 3 0 16),
      rng 50 10000 (fld b 4 16 16), rng 5 500 (fld b 4 0 16), rng 100 50000 (fld b 5 16 16),
      rng 1000 50000 (fld b 5 0 16), rng 1 48 (fld b 6 24 8), rng 5 64 (fld b 6 16 8), rng 100 10000 (fld b 6 0 16),
      rng 60 3600 (fld b 7 16 16), rng 20 255 (fld b 7 8 8), rng 0 8 (fld b 7 4 4), rng 0 1440 (fld b 8 16 16),
      rng 0 100 (fld b 8 8 8)]
    { watchZ := fld b 0 16 16, suspectZ := fld b 0 0 16, clearZ := fld b 1 16 16, watchTime := fld b 1 0 16,
      suspectTime := fld b 2 16 16, clearTime := fld b 2 0 16,
      floors := [fld b 3 16 16, fld b 3 0 16, fld b 4 16 16, fld b 4 0 16, fld b 5 16 16],
      sdLimit := fld b 5 0 16, sdMinT := fld b 6 24 8, minPop := fld b 6 16 8, sdSlope := fld b 6 0 16,
      sdWin := fld b 7 16 16, sdVnoise := fld b 7 8 8, balShift := fld b 7 4 4, en := fldB b 7 0,
      actDelay := fld b 8 16 16, derate := fld b 8 8 8, action := BitVec.ofNat 15 (wordAt b 9) }

/-! ### Area 0x0A (Tables 10-11 to 10-14, R293) -/

/-- The words of one port in a `PP_PORTS` body. -/
def portOf (b : Bytes) (k : Nat) : PortCfg :=
  { icurFs := wordAt b (8 * k), icurOfs := wordI b (8 * k + 1), vstrFs := wordAt b (8 * k + 2),
    vbusFs := wordAt b (8 * k + 3), rating := wordAt b (8 * k + 4), choke := wordAt b (8 * k + 5),
    vclamp := wordAt b (8 * k + 6) }

/-- The ranges of Table 10-13. -/
def PortCfg.ok (c : PortCfg) : Bool :=
  rng 10000 2000000 c.icurFs && rngI (-10000) 10000 c.icurOfs && rng 100000 2000000 c.vstrFs &&
    rng 100000 2000000 c.vbusFs && rng 1000 c.icurFs c.rating && rng 20000 2000000 c.choke &&
    rng 50000 1500000 c.vclamp

/-- `PP_PORTS`. -/
def parsePorts (b : Bytes) : Option (Tab PortCfg) :=
  okRec b 512 [allStr.all (fun k => (portOf b k).ok)] (tmodAll [] allStr (fun k _ => portOf b k))

/-- `PP_CONNECT`. -/
def parseConnect (b : Bytes) (c : PpCfg) : Option PpCfg :=
  okRec b 16 [rng 20 1000 (fld b 0 16 16), rng 10 500 (fld b 0 0 16), decide (fld b 0 0 16 < fld b 0 16 16),
      rng 10 2000 (fld b 1 16 16), rng 50 3000 (fld b 1 0 16), rng 200 20000 (fld b 2 16 16), rng 5 100 (fld b 2 8 8),
      rng 1 4 (fld b 2 4 4), rng 1 4 (fld b 2 0 4), rng 10 10000 (fld b 3 16 16), rng 2 50 (fld b 3 8 8)]
    { c with connTarget := fld b 0 16 16, connBand := fld b 0 0 16, connDvMax := fld b 1 16 16,
             connTime := fld b 1 0 16, plausTol := fld b 2 16 16, plausPct := fld b 2 8 8, ffSteps := fld b 2 4 4,
             gateLag := fld b 2 0 4, convPulses := fld b 3 16 16, kClose := fld b 3 8 8 }

/-- Entry `i` of a `LOOP_THERMAL` body: the context of loop 16 + i (Tables 10-6, 10-7). -/
def thermOf (b : Bytes) (i : Nat) : ThermLoop :=
  let w := 5 * i
  { on := decide (fld b w 28 4 = 2), lowering := fldB b w 27, fail := fld b w 25 2, input := fld b w 16 8,
    outsel := fld b w 8 8, dwell := fld b w 0 8, sp := wordI b (w + 1), band := wordI b (w + 2), hi := wordI b (w + 3),
    lo := wordI b (w + 4) }

/-- A loop input that Table 10-12 defines. -/
def loopInOk (v : Nat) : Bool := decide (v ≤ 0x28) || decide (v = 0x30)

/-- A loop output that Table 10-12 defines. -/
def loopOutOk (v : Nat) : Bool := decide (v ≤ 0x10) || rng 0x20 0x3F v

/-- No number stands twice in a list. -/
def noTwice : List Nat → Bool
  | [] => true
  | a :: t => decide (a ∉ t) && noTwice t

/-- `LOOP_THERMAL`, the loops by number: no reserved encoding, no output named by two loops. -/
def parseTherm (b : Bytes) : Option (Tab ThermLoop) :=
  let is := upFrom 0 48
  let outs := (is.map (fun i => (thermOf b i).outsel)).filter (fun v => decide (v ≠ 0))
  okRec b 960 [is.all (fun i => (decide (fld b (5 * i) 28 4 = 0) || decide (fld b (5 * i) 28 4 = 2)) &&
      loopInOk (thermOf b i).input && loopOutOk (thermOf b i).outsel), noTwice outs]
    (is.foldl (fun t i => tput t (16 + i) (thermOf b i)) [])

/-! ### Area 0x0B (Tables 11-3, 11-9 to 11-12, R302, R339) -/

/-- `PROT_LIMITS` (Table 11-10). -/
def parseLimits (b : Bytes) : Option LimitCfg :=
  okRec b 28 [rng 2000000 5000000 (wordAt b 0), decide (wordAt b 1 < wordAt b 0), rng 1000000 4000000 (wordAt b 2),
      decide (wordAt b 2 < wordAt b 1), decide (wordAt b 2 < wordAt b 3), decide (wordAt b 3 < wordAt b 1),
      rngI 2000 8000 (fldI b 4 16), rngI (fldI b 4 16 + 1) 8000 (fldI b 4 0), rngI 2000 9000 (fldI b 5 16),
      rngI (fldI b 5 16 + 1) 9000 (fldI b 5 0), rng 5 200 (fld b 6 16 16), rng 50 1000 (fld b 6 0 16)]
    { ovTrip := wordAt b 0, ovWarn := wordAt b 1, uvTrip := wordAt b 2, uvWarn := wordAt b 3, otWarn := fldI b 4 16,
      otTrip := fldI b 4 0, coreWarn := fldI b 5 16, coreTrip := fldI b 5 0, vHyst := fld b 6 16 16,
      tHyst := fld b 6 0 16 }

/-- The minimum masks of Table 11-3, warning then trip, SF-01 first; SF-12 has none. -/
def minMasks : List (Byte × Byte) :=
  [(0x00, 0x10), (0x00, 0x10), (0x00, 0x10), (0x00, 0x10), (0x00, 0x10), (0x04, 0x10), (0x04, 0x10), (0x00, 0x20),
   (0x00, 0x10), (0x01, 0x10), (0x00, 0x20), (0x00, 0x00)]

/-- Functions without a warning stage (Table 11-3). -/
def noWarnFn (n : Nat) : Bool := decide (n ∈ [4, 8, 9, 11, 12])

/-- The role of a `PROT_RESET_ROLE` code. -/
def roleOf (c : Nat) : Role := if c = 0 then .operator else if c = 1 then .installer else .maker

/-- `PROT_TRIP_MATRIX` with the minimum masks ORed in; the fields of Table 11-11 that are ignored read 0. -/
def parseMatrix (b : Bytes) : Option (List MatrixRow) :=
  okRec b 48 [(upFrom 0 12).all (fun i => decide (fld b i 24 8 = 0) && decide (fld b i 2 6 = 0) &&
      decide (fld b i 22 2 = 0) && decide (fld b i 14 2 = 0) && decide (fld b i 0 2 < 3))]
    ((upFrom 0 12).map (fun i =>
      let m := minMasks.getD i (0, 0)
      { warn := if noWarnFn (i + 1) then 0 else BitVec.ofNat 8 (fld b i 16 8) ||| m.1,
        trip := if i = 11 then 0 else BitVec.ofNat 8 (fld b i 8 8) ||| m.2, role := roleOf (fld b i 0 2) }))

/-- `PROT_CURRENT` (Table 11-12). -/
def parseCurrent (b : Bytes) (c : ProtCfg) : Option ProtCfg :=
  okRec b 8 [rng 120 400 (fld b 0 16 16), rng 1 600 (fld b 0 0 16), rng 1 20 (fld b 1 24 8), rng 2 100 (fld b 1 16 8),
      rng 1 20 (fld b 1 8 8), rng 1 100 (fld b 1 0 8)]
    { c with fastOcPct := fld b 0 16 16, i2tT2 := fld b 0 0 16, inhTol := fld b 1 24 8, inhTime := fld b 1 16 8,
             pcsTolPct := fld b 1 8 8, pcsTolA := fld b 1 0 8 }

/-- `PROT_POLICY` (Table 11-12). -/
def parsePolicy (b : Bytes) (c : ProtCfg) : Option ProtCfg :=
  okRec b 8 [rng 0 100 (fld b 0 24 8), rng 1 60 (fld b 0 16 8), rng 3 100 (fld b 0 8 8), rng 10 60 (fld b 0 0 8),
      decide (fld b 1 8 24 = 0), rng 1 10 (fld b 1 4 4)]
    { c with derate := fld b 0 24 8, wRelease := fld b 0 16 8, sf06Release := fld b 0 8 8, freezeMax := fld b 0 0 8,
             ilkDebounce := fld b 1 4 4, ilkEn := BitVec.ofNat 4 (fld b 1 0 4) }

/-! ### Areas 0x0C to 0x0E -/

/-- A SoC window meets R360; bounds in Q0.32. -/
def socWindowOk (lo hi : Nat) : Bool :=
  decide (2 ^ 32 ≤ 10 * (hi - lo)) && decide (lo ≤ 2 ^ 31) && decide (2 ^ 31 ≤ hi)

/-- `DSP_POLICY` (Table 12-9, R372). -/
def parseDsp (b : Bytes) (c : DspCfg) : Option DspCfg :=
  okRec b 16 [rng 0 500 (fld b 0 16 16), rng 0 100 (fld b 0 8 8), rng 1 16 (fld b 0 0 8),
      socWindowOk (wordAt b 1) (wordAt b 2), rng 1 100 (fld b 3 24 8), rng 1 50 (fld b 3 16 8), rng 1 50 (fld b 3 8 8),
      decide (fld b 3 0 8 = 0)]
    { c with vMargin := fld b 0 16 16, tMargin := fld b 0 8 8, cand := fld b 0 0 8, socMin := wordAt b 1,
             socMax := wordAt b 2, ramp := fld b 3 24 8, derateTol := fld b 3 16 8, shareMin := fld b 3 8 8 }

/-- Nine points of a derating table from an offset. -/
def deratePoints (b : Bytes) (off : Nat) : List (Int × Int) :=
  (upFrom 0 9).map (fun i => (rdI b (off + 4 * i) 2, (rdU b (off + 4 * i + 2) 2 : Int)))

/-- `DSP_DERATE` (R372). -/
def parseDerate (b : Bytes) (c : DspCfg) : Option DspCfg :=
  let x := deratePoints b 0
  let y := deratePoints b 36
  okRec b 72 [(x ++ y).all (fun p => decide (p.2 ≤ 100)), strictAsc (x.map (·.1)), strictAsc (y.map (·.1))]
    { c with derateC := x, derateD := y }

/-- `GRZ_POLICY` (Table 12-13, R375). -/
def parseGrz (b : Bytes) : Option GrzCfg :=
  okRec b 16 [rng 30 60 (fld b 0 24 8), rng 0 20 (fld b 0 16 8), rng 60 255 (fld b 0 8 8), rng 1 16 (fld b 0 0 8),
      rng 0 100 (fld b 1 24 8), rng 50 100 (fld b 1 16 8), rng 50 100 (fld b 1 8 8), rng 1 16 (fld b 1 0 8),
      rngI 2000 8000 (fldI b 2 16), rng 0 4000 (fld b 2 0 16), rng 5 500 (fld b 3 16 16), rng 1 60 (fld b 3 8 8),
      decide (fld b 3 0 8 = 0)]
    { pBudget := fld b 0 24 8, pReserve := fld b 0 16 8, dwell := fld b 0 8 8, minServe := fld b 0 0 8,
      demandMargin := fld b 1 24 8, sharePct := fld b 1 16 8, coolPct := fld b 1 8 8, maxChanges := fld b 1 0 8,
      tRest := fldI b 2 16, balMax := fld b 2 0 16, rjb := fld b 3 16 16, tauJ := fld b 3 8 8 }

/-- `PAIR_POLICY` (Table 13-10, R406). -/
def parsePair (b : Bytes) : Option PairCfg :=
  okRec b 8 [rng 10 3600 (fld b 0 16 16), rng 5 60 (fld b 0 8 8), decide (fld b 0 1 7 = 0), rng 60 3600 (fld b 1 16 16),
      rng 1 10 (fld b 1 8 8), decide (fld b 1 0 8 = 0)]
    { homeHold := fld b 0 16 16, joinMax := fld b 0 8 8, homeEn := fldB b 0 0, detachWait := fld b 1 16 16,
      joinLimit := fld b 1 8 8 }

/-! ### Areas 0x0F to 0x11 -/

/-- `n` bytes in network order as a number. -/
def beU (b : Bytes) (off n : Nat) : Nat := ofLe (slice b off n).reverse

/-- One port block of `SITE_NET` (Table 14-16); its addresses are in network byte order. -/
def netOf (b : Bytes) (o : Nat) : NetBlock :=
  { ip4 := BitVec.ofNat 32 (beU b o 4), gw4 := BitVec.ofNat 32 (beU b (o + 4) 4),
    ip6 := BitVec.ofNat 128 (beU b (o + 8) 16), pfx4 := rdU b (o + 24) 1, pfx6 := rdU b (o + 25) 1,
    vlan := rdU b (o + 26) 2, dscp := rdU b (o + 28) 1, flags := rdU b (o + 29) 1 }

/-- Ranges and reserved fields of a port block. -/
def netOk (b : Bytes) (o : Nat) : Bool :=
  let x := netOf b o
  rng 8 30 x.pfx4 && rng 16 128 x.pfx6 && decide (bitsOf x.vlan 12 1 = 0) && rng 0 4094 (bitsOf x.vlan 0 12) &&
    decide (x.dscp < 64) && decide (x.flags < 8) && zeros b (o + 30) 2

/-- `SITE_NET`. -/
def parseNet (b : Bytes) : Option (NetBlock × NetBlock) :=
  okRec b 64 [netOk b 0, netOk b 32] (netOf b 0, netOf b 32)

/-- `SITE_PUSH`, with the test that a chapter defines an index (R441). -/
def parsePush (defined : Nat → Bool) (b : Bytes) : Option (List Nat) :=
  let n := rdU b 0 2
  let l := (upFrom 0 n).map (fun i => rdU b (4 + 2 * i) 2)
  if n ≤ 32 ∧ zeros b 2 2 ∧ 4 ≤ b.length ∧ b.length = 4 + 2 * n ∧ l.all defined then some l else none

/-- `CAN_POLICY` (Table 15-10, R467). -/
def parseCan (b : Bytes) : Option CanCfg :=
  let node (v : Nat) : Bool := rng 1 0x3F v
  let other (v : Nat) : Bool := decide (v ≤ 0x3F)
  let nodes := [fld b 1 24 8, fld b 1 16 8, fld b 2 24 8, fld b 2 16 8, fld b 2 8 8, fld b 2 0 8]
  okRec b 16 [decide (fld b 0 30 2 = 0), rng 0 5 (fld b 0 24 4), node (fld b 1 24 8), node (fld b 1 16 8),
      rng 1 60 (fld b 1 8 8), rng 1 10 (fld b 1 4 4), decide (fld b 1 2 1 = 0), node (fld b 2 24 8),
      other (fld b 2 16 8), other (fld b 2 8 8), other (fld b 2 0 8), rng 30 1000 (fld b 3 16 16),
      decide (fld b 3 0 16 = 0), noTwice (nodes.filter (fun v => decide (v ≠ 0))), fldB b 1 0 || fldB b 1 1]
    { nom := fld b 0 28 2, data := fld b 0 24 4, cand := BitVec.ofNat 24 (wordAt b 0), nodeA := fld b 1 24 8,
      nodeB := fld b 1 16 8, detectTo := fld b 1 8 8, dwell := fld b 1 4 4, detectEn := fldB b 1 3, bEn := fldB b 1 1,
      aEn := fldB b 1 0, pcsNode := fld b 2 24 8, hvacNode := fld b 2 16 8, fireNode := fld b 2 8 8,
      imdNode := fld b 2 0 8, pcsTimeout := fld b 3 16 16 }

/-- `TW_POLICY` (Table 16-5, R483). -/
def parseTw (b : Bytes) : Option TwCfg :=
  okRec b 4 [decide (fld b 0 24 8 = 0), rng 0x08 0x70 (fld b 0 17 7), decide (fld b 0 17 7 % 8 = 0),
      decide (fld b 0 16 1 = 0), decide (fld b 0 1 13 = 0)]
    { base := fld b 0 17 7, pinMask := fld b 0 14 2, maskMode := fldB b 0 0 }

/-! ### Areas 0x13 to 0x16 -/

/-- `UPD_POLICY` (Table 18-12, R534): confirmation time, automatic confirmation. -/
def parseUpd (b : Bytes) : Option (Nat × Bool) :=
  okRec b 4 [rng 1 1440 (fld b 0 16 16), decide (fld b 0 1 15 = 0)] (fld b 0 16 16, fldB b 0 0)

/-- `MEM_POLICY` (Table 19-10, R563): hold-up, front-end copies, scrub of SRAM and of DRAM. -/
def parseMem (b : Bytes) : Option (Nat × Nat × Nat × Nat) :=
  okRec b 8 [rng 30 100 (fld b 0 24 8), rng 1 168 (fld b 0 16 8), rng 5 60 (fld b 0 8 8), rng 12 72 (fld b 0 0 8),
      decide (wordAt b 1 = 0)]
    (fld b 0 24 8, fld b 0 16 8, fld b 0 8 8, fld b 0 0 8)

/-- The certificates of `ACC_CREDENTIALS`, each a length and its bytes: the list and the offset after them. -/
def derList (b : Bytes) : Nat → Nat → List Bytes × Nat
  | off, 0 => ([], off)
  | off, n + 1 =>
    let len := rdU b off 2
    let r := derList b (off + 2 + len) n
    (slice b (off + 2) len :: r.1, r.2)

/-- `ACC_CREDENTIALS` (Table 20-5, R578): plant CA certificates and denied fingerprints. -/
def parseCred (b : Bytes) : Option (List Bytes × List (BitVec 64)) :=
  let n := rdU b 0 1
  let m := rdU b 1 1
  let r := derList b 4 n
  if 1 ≤ n ∧ n ≤ 4 ∧ m ≤ 64 ∧ b.length = r.2 + 8 * m ∧ r.1.all (fun c => decide (c ≠ [])) then
    some (r.1, (upFrom 0 m).map (fun i => BitVec.ofNat 64 (rdU b (r.2 + 8 * i) 8)))
  else none

/-- `ACC_POLICY` (Table 20-6, R578): the highest role is Installer, validity is checked. -/
def parseAcc (b : Bytes) : Option (Bool × Bool) :=
  okRec b 4 [decide (fld b 0 2 30 = 0)] (fldB b 0 1, fldB b 0 0)

/-- `PSV_POLICY` (Table 21-13, R603): analog input modes, loss wait. -/
def parsePsv (b : Bytes) : Option (Mask × Nat) :=
  okRec b 8 [(upFrom 0 8).all (fun n => decide (fld b 0 (16 + 2 * n) 2 < 3)), rng 20 100 (fld b 0 8 8),
      decide (fld b 0 0 8 = 0), decide (wordAt b 1 = 0)]
    (BitVec.ofNat 16 (fld b 0 16 16), fld b 0 8 8)

end Sys2Proof.Machine
end

