-- ==== Sys2Proof/Machine/Envelope.lean ====
section
/-! DEFINITION. The dispatch envelope (chapter 12): candidate cells, the constraints of Table 12-1, sent limits, shares,
module limits and the voltage window. -/

namespace Sys2Proof.Machine

/-! ### Candidate cells (R345) -/

/-- The four horizons in seconds (R343). -/
def horizons : List Int := [2, 10, 60, 900]

/-- 3σ of a cell, Q0.32. -/
def threeSigma (sigma : Nat) : Int := muldiv (3 * sigma) 4294967296 100000

/-- What the envelope reads of a candidate: voltage, states, core temperature in 0.01 °C. -/
structure Cand where
  v : Int := 0
  soc : Int := 0
  sigma : Nat := 0
  va : Int := 0
  vb : Int := 0
  rho : Nat := 0
  tc : Int := 0
  deriving DecidableEq, Repr, Inhabited

/-- A cell as a candidate. -/
def State.candCell (s : State) (g : Nat) : Cand :=
  let x := tget s.cells g
  { v := x.v, soc := x.soc, sigma := x.sigma, va := x.va, vb := x.vb, rho := x.rho, tc := centi x.tc }

/-- Half a sum, rounded. -/
def midOf (a b : Int) : Int := divRound (a + b) 2

/-- A candidate by its number: below 8,192 a cell; from 8,192 the virtual cell of the pair whose upper cell is
`g − 8,192` (R345). -/
def State.cand (s : State) (g : Nat) : Cand :=
  if g < 8192 then s.candCell g
  else
    let a := s.candCell (g - 8193)
    let b := s.candCell (g - 8192)
    { v := midOf a.v b.v, soc := midOf a.soc b.soc, sigma := (midOf a.sigma b.sigma).toNat, va := midOf a.va b.va,
      vb := midOf a.vb b.vb, rho := (midOf a.rho b.rho).toNat, tc := midOf a.tc b.tc }

/-- The cells and virtual cells a string offers as candidates. -/
def State.candPool (s : State) (k : Nat) : List Nat :=
  let gs := s.modelled k
  gs.filter (fun g => !(tget s.cells g).flags.getLsbD 3) ++
    ((gs.filter (fun g => s.innerWire (g / 64) (g % 64))).map (fun g => g + 8192))

/-- CANDIDATE_SELECT (R345) at a second boundary. -/
def State.candSelect (s : State) (k : Nat) : State :=
  let n := s.dsp.cfg.cand
  let pool := s.candPool k
  let hi := topBy n (fun g => let c := s.cand g; c.soc + threeSigma c.sigma) pool
  let lo := topBy n (fun g => let c := s.cand g; threeSigma c.sigma - c.soc) pool
  { s with dsp.str := tmod s.dsp.str k (fun x => { x with candC := hi, candD := lo }) }

/-- Markhor's cell voltages of a string. -/
def State.mkCells (s : State) (k : Nat) : List Nat := (s.cellsOf k).filter (fun g => (tget s.mkCell g).seen)

/-- `PROT_V_MAX_G` (Table 11-14). -/
def State.vMaxG (s : State) (k : Nat) : Option Nat := argMax (fun g => (tget s.mkCell g).v) (s.mkCells k)

/-- `PROT_V_MIN_G` (Table 11-14). -/
def State.vMinG (s : State) (k : Nat) : Option Nat := argMax (fun g => -(tget s.mkCell g).v) (s.mkCells k)

/-- The candidate that stands for a cell: the virtual cell of its pair about an open inner wire, or the cell (R345). -/
def State.virtualOf (s : State) (g : Nat) : Nat :=
  if s.innerWire (g / 64) (g % 64) then g + 8192
  else if s.innerWire (g / 64) (g % 64 + 1) then g + 8193
  else g

/-- The candidates of a direction in the present frame: those of the second with the extreme cell joined. -/
def State.candsNow (s : State) (k : Nat) (charge : Bool) : List Cand :=
  let d := tget s.dsp.str k
  let base := if charge then d.candC else d.candD
  let ext := ((if charge then s.vMaxG k else s.vMinG k).map s.virtualOf).toList
  (base ++ ext.filter (fun g => !base.contains g)).map s.cand

/-! ### Constraints (R346 to R349, Table 12-1) -/

/-- +1 for charge, −1 for discharge. -/
def dirSign (charge : Bool) : Int := if charge then 1 else -1

/-- The slope of a branch in µV per unit SoC. -/
def slopeUnit (l : List Int) (soc : Nat) (tp : Nat × Int) : Int := 100 * slopeOf l soc tp

/-- The voltage constraint of one candidate (R347), mA. -/
def voltLimit (c : Chem) (lim : LimitCfg) (vmarg : Int) (neq : Nat) (rating : Int) (charge : Bool) (h : Int)
    (x : Cand) : Int :=
  let d := dirSign charge
  let one : Int := 4294967295
  let qe := c.qEff neq x.tc
  let tp := c.tempPos x.tc
  let s0 := clampI 0 one (x.soc + d * threeSigma x.sigma)
  let s1 := clampI 0 one (s0 + d * muldiv (rating * h) 4294967296 qe)
  let u0 := c.ocvOf charge s0.toNat tp
  let u1 := c.ocvOf charge s1.toNat tp
  let g := if s1 ≠ s0 then muldiv (u1 - u0) 4294967296 (s1 - s0)
    else slopeUnit (if charge then c.ocvC else c.ocvD) s0.toNat tp
  let ra := c.raOf s0.toNat tp
  let rb := c.rbOf s0.toNat tp
  let ea := decay (h * 1000000) ra (c.caOf s0.toNat tp)
  let eb := decay (h * 1000000) rb (c.cbOf s0.toNat tp)
  let a := u0 + divRound (x.va * ea + x.vb * eb) 4294967296
  let b := c.rsUse s0.toNat tp x.rho + divRound (ra * (4294967296 - ea) + rb * (4294967296 - eb)) 4294967296 +
    muldiv (g * h) 1000000 qe
  let edge := if charge then lim.ovWarn - vmarg else lim.uvWarn + vmarg
  muldiv (d * (edge - a)) 1000000 b

/-- The thermal constraint of one prediction entry at horizon `h`, 0 to 3 (R348), mA. -/
def thermLimit (tlim : Int) (charge : Bool) (h : Nat) (e : PredEntry) : Int :=
  let pmax := muldiv (tlim - nthI e.a h) 1000 (nthI e.b h)
  if pmax ≤ 0 then 0
  else
    let root : Int := isqrt ((e.e * e.e + 4 * e.reff * pmax).toNat * 1000000000000)
    divRound (root - dirSign charge * e.e * 1000000) (2 * e.reff)

/-- The energy constraint of one candidate (R349), mA. -/
def energyLimit (c : Chem) (socMin socMax neq : Nat) (charge : Bool) (h : Int) (x : Cand) : Int :=
  let span := if charge then (socMax : Int) - min 4294967295 (x.soc + threeSigma x.sigma)
    else max 0 (x.soc - threeSigma x.sigma) - socMin
  muldiv span (c.qEff neq x.tc) (4294967296 * h)

/-- The derating constraint of a string at its hottest and its coldest core, mA. -/
def derateLimit (table : List (Int × Int)) (rating hot cold : Int) : Int :=
  let t := table.map (fun x => (x.1, x.2 * rating))
  divRound (min (interp1 hot t) (interp1 cold t)) 100

/-- The least of a list, none of the empty list. -/
def leastOf (l : List Int) : Option Int := if l = [] then none else some (minL 0 l)

/-- A limit magnitude with its binding code. -/
abbrev Coded := Int × Nat

/-- The lower of two coded limits; the lower code where they are equal (R354). -/
def lowerOf (a b : Coded) : Coded :=
  if b.1 < a.1 then b else if a.1 < b.1 then a else (a.1, min a.2 b.2)

/-- A coded limit with one more constraint. A negative constraint counts as 0 (R346). -/
def withLimit (a : Coded) (v : Option Int) (code : Nat) : Coded :=
  match v with
  | some x => lowerOf a (max 0 x, code)
  | none => a

/-- The prediction set of a string is stale and older than 2 s (R348). -/
def State.predOld (s : State) (k : Nat) : Bool :=
  let t := tget s.thm.str k
  t.predStale && decide (t.predFrame + 2000 < s.now)

/-- The thermal constraints of a string at the four horizons, none without a lead cell. -/
def State.thermal (s : State) (k : Nat) (charge : Bool) : List (Option Int) :=
  let t := tget s.thm.str k
  let d := tget s.dsp.str k
  let tlim := 100000 * s.prot.cfg.lim.coreWarn - 1000000 * (s.dsp.cfg.tMargin : Int)
  (upFrom 0 4).map (fun h =>
    if s.predOld k then ((if charge then d.thermC else d.thermD)[h]?).map (fun v => muldiv v 50 100)
    else leastOf (t.pred.map (thermLimit tlim charge h)))

/-- An excursion open on the string in a direction (R349). -/
def State.excursionIn (s : State) (k : Nat) (charge : Bool) : Bool :=
  match (tget s.est.str k).excursion with
  | some e => decide (e.charge = charge)
  | none => false

/-- The string has potential limits (R346). -/
def State.hasPotential (s : State) (k : Nat) : Bool :=
  s.installed k && decide ((s.str k).state ∈ [SState.opened, .connecting, .closed, .held])

/-- The strings that are CLOSED or HELD. -/
def State.busStrings (s : State) : List Nat := s.strings.filter s.onBus

/-- The potential limits of a string in a direction, with their codes (R346). -/
def State.potential (s : State) (k : Nat) (charge : Bool) : List Coded :=
  let c := s.chem
  let cfg := s.dsp.cfg
  let rating : Int := (s.portCfg k).rating
  let neq := s.neq k
  let cands := s.candsNow k charge
  let temps := (s.modelled k).map (fun g => centi (tget s.cells g).tc)
  let table := if charge then cfg.derateC else cfg.derateD
  let derate := if temps = [] then none else some (derateLimit table rating (maxL 0 temps) (minL 0 temps))
  let one (h : Int) (th : Option Int) : Coded :=
    let v := leastOf (cands.map (voltLimit c s.prot.cfg.lim (1000 * cfg.vMargin) neq rating charge h))
    let e := if s.excursionIn k charge then none
      else leastOf (cands.map (energyLimit c s.dsp.socMin s.dsp.socMax neq charge h))
    withLimit (withLimit (withLimit (withLimit (rating, 1) v 2) th 3) e 4) derate 5
  (horizons.zip (s.thermal k charge)).map (fun x => one x.1 x.2)

/-! ### Sent limits (R350 to R354) -/

/-- Actions on a string as the runtime records them: in a pair the union of the two summaries of pulse 800 (R386); bit 3
also by the pair rule of R165. -/
def State.actUnion (s : State) (k : Nat) : Byte :=
  let own : Byte := s.actions k ||| (if (s.pst k).pairInhDis then 0x08 else 0)
  let of (x : Option Summary) : Option Byte := x.map (fun y => (tget y.str k).actions)
  if s.inPair then (of s.pair.own).getD own ||| (of s.pair.peer).getD 0 else own

/-- The functions whose stages hold `INH_CHG` on a string by the peer's summary of pulse 800. -/
def State.peerInhChg (s : State) (k : Nat) : List Nat :=
  if s.inPair then
    match s.pair.peer with
    | some x => (upFrom 1 12).filter (fun n =>
        has (tget x.str k).stages (n - 1) && ((s.matrix n).warn ||| (s.matrix n).trip).getLsbD 2)
    | none => []
  else []

/-- The functions whose stages hold `INH_CHG` on a string in the module's own Markhor, in a pair as its summary of pulse
800 has them. -/
def State.ownInhChg (s : State) (k : Nat) : List Nat :=
  let o := s.pst k
  let seen (n : Nat) : Bool := match s.pair.own with
    | some x => !s.inPair || has (tget x.str k).stages (n - 1)
    | none => true
  (upFrom 1 12).filter (fun n => seen n &&
    ((has o.warn (n - 1) && (s.matrix n).warn.getLsbD 2) || (has o.tripStage (n - 1) && (s.matrix n).trip.getLsbD 2)))

/-- The discharge currents kept for the peer's actions: one that the union shows for the first time takes the current of
pulse 10 of this frame (log 193). -/
def State.peerHeldOf (s : State) (k : Nat) : Tab Nat :=
  let old := (tget s.dsp.str k).peerHeld
  (s.peerInhChg k).foldl (fun t n =>
    tput t n (if tget old n = 0 then disOf (s.pp k).icur.at10 + 1 else tget old n)) []

/-- What `INH_CHG` holds the discharge limit of a string to (R350 item 2): the least of the currents kept for the actions
that stand. -/
def State.heldDis (s : State) (k : Nat) : Int :=
  let kept : List Nat := (s.ownInhChg k).map (fun n => tget (s.pst k).disHeld n) ++
    (s.peerHeldOf k).map (fun e => e.2 - 1)
  (leastOf (kept.map Int.ofNat)).getD (disOf (s.pp k).icur.at10)

/-- A roster rest is pending on the string. -/
def State.restPending (s : State) (k : Nat) : Bool :=
  match (s.str k).opening with
  | some (.roster, _) => true
  | _ => false

/-- R350 item 1 beside the overrun. -/
def State.zeroByState (s : State) (k : Nat) : Bool :=
  !s.onBus k || s.restPending k || decide (s.mode.target = some .idle)

/-- The largest σ of a string, 0.001 %. -/
def State.sigmaTop (s : State) (k : Nat) : Nat :=
  (maxL 0 ((s.modelled k).map (fun g => ((tget s.cells g).sigma : Int)))).toNat

/-- After a cold start the string still holds a cell that is not initialised, or whose σ is above σ_max (R400). -/
def State.coldStr (s : State) (k : Nat) : Bool :=
  (s.modelled k).any (fun g => !(tget s.aux g).init) || decide (s.est.cfg.sigmaMax < s.sigmaTop k)

/-- The percent factors of R351 in force on a string. -/
def State.factors (s : State) (k : Nat) : List Nat :=
  (if (s.actUnion k).getLsbD 1 then [s.prot.cfg.derate] else []) ++
    (if (s.herdActions k).getLsbD 1 then [s.herd.cfg.derate] else []) ++
    (if s.pair.cold && s.coldStr k then [50] else [])

/-- A value multiplied by percent factors, the product rounded once (R351). -/
def byFactors (v : Int) (fs : List Nat) : Int := muldiv v (fs.foldl (· * ·) 1 : Nat) (100 ^ fs.length : Nat)

/-- Limits made monotonic across horizons (R352). -/
def monotonic : Option Int → List Coded → List Coded
  | _, [] => []
  | none, a :: t => a :: monotonic (some a.1) t
  | some m, a :: t =>
    let b : Coded := if m < a.1 then (m, 8) else a
    b :: monotonic (some b.1) t

/-- The ramp (R353). -/
def rampOf (step : Int) (prev : List Int) (l : List Coded) : List Coded :=
  (upFrom 0 l.length).map (fun h =>
    let a := (l[h]?).getD (0, 0)
    let top := nthI prev h + step
    if top < a.1 then (top, 9) else a)

/-- The sent limits of a string in a direction from its potential limits (R350 to R353). -/
def State.sentOf (s : State) (k : Nat) (charge : Bool) (pot : List Coded) : List Coded :=
  let d := tget s.dsp.str k
  let acts := s.actUnion k
  let held := s.heldDis k
  let byState (a : Coded) : Coded := if s.zeroByState k then lowerOf a (0, 7) else a
  let byInhibit (a : Coded) : Coded :=
    let b := if acts.getLsbD 2 then lowerOf a (if charge then 0 else held, 6) else a
    if acts.getLsbD 3 && !charge then lowerOf b (0, 6) else b
  let fs := s.factors k
  let l1 := pot.map (fun a => byInhibit (byState a))
  let l2 := monotonic none (l1.map (fun a => (byFactors a.1 fs, a.2)))
  let step := muldiv ((s.portCfg k).rating : Int) s.dsp.cfg.ramp 100000
  rampOf step (if d.wasClosed then (if charge then d.chg else d.dis) else []) l2

/-- Sums of `EST_RS` over a string's modelled cells, nΩ. -/
def State.rString (s : State) (k : Nat) : Int := sumL ((s.modelled k).map (fun g => ((tget s.cells g).rs : Int)))

/-- |Σi| of a string over the last 1,000 frames, mA·µs. -/
def State.moved (s : State) (k : Nat) : Int := (sumL ((s.pp k).means.map (·.2.1))).natAbs

/-- G_s (R355). With no resistance the quotient is a free value. -/
def State.conductance (s : State) (k : Nat) : Int :=
  let r := s.rString k
  if r = 0 then (Config.freeInt (s.free + k)).natAbs else divRound 1000000000000000 r

/-- The share σ_s of a string on the bus, ppm (R355). -/
def State.shareOf (s : State) (k : Nat) : Int :=
  let ks := s.busStrings
  let total := sumL (ks.map s.moved)
  let small := decide (total * 360000 < (s.dsp.cfg.shareMin * s.qDesign * ks.length * 1000000 : Nat))
  let measured := if small then 0 else muldiv (s.moved k) 1000000 total
  max measured (muldiv (s.conductance k) 1000000 (sumL (ks.map s.conductance)))

/-- The voltage window of a string (R356): V_max,s and V_min,s, mV. -/
def State.windowOf (s : State) (k : Nat) : Int × Int :=
  let lim := s.prot.cfg.lim
  let m : Int := 1000 * s.dsp.cfg.vMargin
  let vstr := (s.pp k).vstr.at10
  let vs := (s.candsNow k true ++ s.candsNow k false).map (·.v)
  let n : Int := (s.modelled k).length
  if vs = [] then (vstr, vstr)
  else
    (max vstr (vstr + divRound (n * (lim.ovWarn - m - maxL 0 vs)) 1000),
     min vstr (vstr - divRound (n * (minL 0 vs - lim.uvWarn - m)) 1000))

/-- The envelope of one string (R346 to R356). -/
def State.envString (s : State) (k : Nat) : State :=
  let old := tget s.dsp.str k
  let base : StrDsp := { old with
    staleTherm := s.predOld k, rest := s.restPending k, excursion := (tget s.est.str k).excursion.isSome,
    peerHeld := s.peerHeldOf k, wasClosed := s.onBus k, sent := s.onBus k,
    share := if s.onBus k then (s.shareOf k).toNat else 0,
    mult := (byFactors 10000 (s.factors k)).toNat }
  let x : StrDsp :=
    if s.hasPotential k then
      let pc := s.potential k true
      let pd := s.potential k false
      let sc := s.sentOf k true pc
      let sd := s.sentOf k false pd
      let fresh := !(tget s.thm.str k).predStale
      let keep (charge : Bool) (l : List Int) : List Int :=
        if fresh then (s.thermal k charge).filterMap (fun v => v.map (fun x => max 0 x)) else l
      let w := if s.onBus k then s.windowOf k else (0, 0)
      { base with
        potC := pc.map (·.1), potD := pd.map (·.1), chg := sc.map (·.1), dis := sd.map (·.1),
        thermC := keep true old.thermC, thermD := keep false old.thermD, vmax := w.1, vmin := w.2,
        bind := (sc ++ sd).map (·.2), ramping := (sc ++ sd).any (fun a => decide (a.2 = 9)) }
    else
      { base with
        potC := [], potD := [], chg := [], dis := [], vmax := 0, vmin := 0, bind := List.replicate 8 7,
        ramping := false }
  { s with dsp.str := tput s.dsp.str k x }

/-- A module limit from the strings' limits (R355); a limit over a share of 0 is a free value. -/
def State.moduleLimit (s : State) (f : StrDsp → List Int) (h : Nat) : Int :=
  let ks := s.busStrings
  let l (k : Nat) : Int := nthI (f (tget s.dsp.str k)) h
  let perShare (k : Nat) : Int :=
    let sh : Int := (tget s.dsp.str k).share
    if sh = 0 then (Config.freeInt (s.free + 16 + k)).natAbs else muldiv (l k) 1000000 sh
  match leastOf (ks.map perShare) with
  | none => 0
  | some v => min v (sumL (ks.map l))

/-- The whole envelope (R346 to R356): every string, then the module limits and the voltage window. -/
def State.envelope (s : State) : State :=
  let s1 := s.strings.foldl (fun u k => u.envString k) s
  let ks := s1.busStrings
  let w (f : StrDsp → Int) : List Int := ks.map (fun k => f (tget s1.dsp.str k))
  { s1 with
    dsp.chg := (upFrom 0 4).map (s1.moduleLimit (·.chg)), dsp.dis := (upFrom 0 4).map (s1.moduleLimit (·.dis)),
    dsp.vmax := minL 0 (w (·.vmax)), dsp.vmin := maxL 0 (w (·.vmin)),
    dsp.stale := false, dsp.zeroed := false, dsp.done := true, free := s1.free + 32 }

/-! ### The zeroed envelope and `DERATE_OUT` (Table 2-2, R358) -/

/-- A request of chapter 12 for `DERATE_OUT` starts. -/
def State.derateAsk (s : State) (zeroLimits : Bool) : State :=
  let s1 := s.evIf (!s.dsp.reqCurrent && !s.dsp.reqZero) 0x0C01 [1, if zeroLimits then 1 else 2]
  if zeroLimits then { s1 with dsp.reqZero := true, dsp.clearFrom := none }
  else { s1 with dsp.reqCurrent := true, dsp.clearFrom := none }

/-- All limits sent are 0 (Table 2-2). -/
def State.zeroLimits (s : State) : State :=
  let z : List Int := List.replicate 4 0
  let s1 := if s.dsp.reqZero then s else s.derateAsk true
  { s1 with
    dsp.chg := z, dsp.dis := z, dsp.zeroed := true, dsp.stale := true,
    dsp.str := tmodAll s1.dsp.str s1.strings (fun _ x =>
      { x with chg := z, dis := z, bind := List.replicate 8 7, ramping := false }) }

/-- The container current as the sum of the string currents at pulse 10, mA. -/
def State.containerCurrent (s : State) : Int := sumL (s.strings.map (fun k => (s.pp k).icur.at10))

/-- The container current exceeds the module 2 s limit in its direction beyond the tolerance (R358). -/
def State.beyondLimit (s : State) : Bool :=
  let i := s.containerCurrent
  let l := nthI (if 0 < i then s.dsp.chg else s.dsp.dis) 0
  decide (l * (100 + s.dsp.cfg.derateTol) + 100000 < 100 * (i.natAbs : Int))

/-- The two conditions of R358 judged once a frame. -/
def State.excessWatch (s : State) : State :=
  let n := if s.beyondLimit then s.dsp.excess + 1 else 0
  { s with
    dsp.excess := n,
    dsp.clearFrom := if s.dsp.zeroed ∨ 200 ≤ n then none else some (s.dsp.clearFrom.getD s.now) }

/-- DERATE_CURRENT_EXCESS (R358): the container current has been beyond the limit for 200 consecutive frames. -/
def execDerateCurrentExcess (p : Pulse) (s : State) : Host.Outcome State Fault Refusal :=
  let s0 := s.atP p.val
  ok (if 200 ≤ s0.dsp.excess ∧ !s0.dsp.reqCurrent then s0.derateAsk false else s0)

/-- DERATE_RELEASE (R358): neither condition has held for 1 s. -/
def execDerateRelease (p : Pulse) (s : State) : Host.Outcome State Fault Refusal :=
  let s0 := s.atP p.val
  ok (match s0.dsp.clearFrom with
    | some f =>
      if f + 1000 ≤ s0.now ∧ (s0.dsp.reqCurrent ∨ s0.dsp.reqZero) then
        { s0.ev 0x0C01 [0x80, if s0.dsp.reqZero then 1 else 2] with
          dsp.reqCurrent := false, dsp.reqZero := false }
      else s0
    | none => s0)

/-! ### The SoC window (R360) -/

/-- DSP_SOC_WINDOW (R360): the window of every string from the envelope of the effective frame. -/
def execDspSocWindow (id : Word) (s : State) : Host.Outcome State Fault Refusal :=
  ok (s.evaluate id 0x0C01 1
    (fun _ e => { format := decide (e.body.length = 8), range := socWindowOk (rdU e.body 0 4) (rdU e.body 4 4) }) noStr
    (fun s' e =>
      let lo := rdU e.body 0 4
      let hi := rdU e.body 4 4
      let s1 := s'.ev 0x0C02 (le 4 s'.dsp.socMin ++ le 4 s'.dsp.socMax ++ le 4 lo ++ le 4 hi ++ le 4 e.id.toNat)
      ({ s1 with dsp.socMin := lo, dsp.socMax := hi }).cmdDone e.id))

/-! ### Status objects (Tables 12-3, 12-10) -/

/-- `DSP_STRING` (Table 12-10). -/
def State.objDspString (s : State) (k : Nat) : Bytes :=
  if !s.installed k then List.replicate 56 0
  else
    let d := tget s.dsp.str k
    let code (i : Nat) : Nat := (d.bind[i]?).getD 0 * 16 ^ i
    (upFrom 0 4).flatMap (fun h => leI 4 (sat32 (nthI d.chg h))) ++
      (upFrom 0 4).flatMap (fun h => leI 4 (-(sat32 (nthI d.dis h)))) ++ leI 4 (sat32 d.vmax) ++
      leI 4 (sat32 d.vmin) ++ le 4 ((upFrom 0 8).foldl (fun a i => a + code i) 0) ++ le 2 d.mult ++
      le 2 (divRound d.share 100).toNat ++
      le 1 (packBits [d.sent, d.rest, d.excursion, d.staleTherm, d.ramping]) ++
      List.replicate 7 0

end Sys2Proof.Machine
end

