-- ==== Sys2Proof/Machine/Lines.lean ====
section
/-! DEFINITION. The words of a power port as they stand on its lines (R269, R270, R275, Tables 10-3 and 10-5): 40 bits in
a frame of 42, a start bit 0, the word least significant bit first, a stop bit 1. Bit `i` of a line is the `i`-th bit
sent; a line that idles is all ones. -/

namespace Sys2Proof.Machine

/-- One word time of a line. -/
abbrev LineWord := BitVec 42

/-- An idle line (R269). -/
def idleLine : LineWord := BitVec.allOnes 42

/-- `CRC8` of a word over its bits [31:0], bits [7:0] first (R270). -/
def crc8Word (low : BitVec 32) : Byte :=
  crc8 [low.extractLsb' 0 8, low.extractLsb' 8 8, low.extractLsb' 16 8, low.extractLsb' 24 8]

/-- A word with its `CRC8` in its frame. -/
def lineOf (low : BitVec 32) : LineWord := 1#1 ++ (crc8Word low ++ low) ++ 0#1

/-- Bits [31:0] of a word whose framing and `CRC8` pass. -/
def readLine (l : LineWord) : Option (BitVec 32) :=
  let low := l.extractLsb' 1 32
  if l.getLsbD 0 = false ∧ l.getLsbD 41 = true ∧ l.extractLsb' 33 8 = crc8Word low then some low else none

/-- Code of `ROLE` read from a word (Table 4-3). -/
def RoleCode.ofCode (n : Nat) : RoleCode :=
  if n = 0 then .none else if n = 1 then .active else if n = 2 then .standby else .reserved

/-- Bits [31:0] of a command word (Table 10-3). -/
def CmdWord.low (w : CmdWord) : BitVec 32 :=
  BitVec.ofNat 8 w.pseq ++ BitVec.ofNat 2 w.role.code ++ BitVec.ofNat 1 w.slot.code ++ BitVec.ofBool w.gate ++
    BitVec.ofBool w.trip ++ BitVec.ofBool w.kpos ++ BitVec.ofBool w.kneg ++ 0#17

/-- The fields of a command word; its reserved bits are not read. -/
def CmdWord.ofLow (v : BitVec 32) : CmdWord :=
  { pseq := (v.extractLsb' 24 8).toNat, role := RoleCode.ofCode (v.extractLsb' 22 2).toNat,
    slot := if v.getLsbD 21 then .b else .a, gate := v.getLsbD 20, trip := v.getLsbD 19, kpos := v.getLsbD 18,
    kneg := v.getLsbD 17 }

/-- A command word on its line. -/
def CmdWord.line (w : CmdWord) : LineWord := lineOf w.low

/-- The command word a line carries, none where its framing or `CRC8` fails. -/
def readCmd (l : LineWord) : Option CmdWord := (readLine l).map CmdWord.ofLow

/-- Codes of `FOLLOW` (Table 10-5). -/
def Follow.code : Follow → Nat
  | .none => 0
  | .a => 1
  | .b => 2
  | .both => 3

/-- `FOLLOW` read from a word (Table 10-5). -/
def Follow.ofCode (n : Nat) : Follow := if n = 0 then .none else if n = 1 then .a else if n = 2 then .b else .both

/-- Bits [31:0] of a status word (Table 10-5). -/
def StatWord.low (w : StatWord) : BitVec 32 :=
  BitVec.ofNat 8 w.eseq ++ BitVec.ofNat 2 w.follow.code ++ BitVec.ofBool w.gateSt ++ BitVec.ofBool w.tripSt ++
    BitVec.ofBool w.desat ++ BitVec.ofBool w.kposAux ++ BitVec.ofBool w.knegAux ++ BitVec.ofBool w.stgFault ++ w.data

/-- The fields of a status word. -/
def StatWord.ofLow (v : BitVec 32) : StatWord :=
  { eseq := (v.extractLsb' 24 8).toNat, follow := Follow.ofCode (v.extractLsb' 22 2).toNat, gateSt := v.getLsbD 21,
    tripSt := v.getLsbD 20, desat := v.getLsbD 19, kposAux := v.getLsbD 18, knegAux := v.getLsbD 17,
    stgFault := v.getLsbD 16, data := v.extractLsb' 0 16 }

/-- A status word on its line. -/
def StatWord.line (w : StatWord) : LineWord := lineOf w.low

/-- The status word a line carries, none where its framing or `CRC8` fails. -/
def readStat (l : LineWord) : Option StatWord := (readLine l).map StatWord.ofLow

end Sys2Proof.Machine
end

