-- ==== Sys2Proof/Machine/Supply.lean ====
section
/-! DEFINITION. Supply, input loss and hold-up (chapter 21), and the resets that come with them. -/

namespace Sys2Proof.Machine

/-- Whole milliseconds since the declaration of an input loss. -/
def State.lossMs (s : State) (l : LossSeq) : Nat := (s.clockUs - l.at_) / 1000

/-- `PSV_INPUT_LOSS` of a kind (Table 21-15). -/
def State.lossEvent (s : State) (kind ms : Nat) (mask : Mask) : State :=
  s.ev 0x1601 (le 1 kind ++ le 2 ms ++ le 2 mask.toNat ++ le 1 s.huPct)

/-- Change the input-loss sequence under way. -/
def State.modLoss (s : State) (f : LossSeq → LossSeq) : State := { s with psv.loss := s.psv.loss.map f }

/-- Markhor opens a CLOSED or HELD string for input loss (R584): `TRIP` and the open sequence, no latch; the string is
OPEN with cause 0. -/
def State.lossOpen (s : State) (k : Nat) : State :=
  if (s.str k).state = .closed ∨ (s.str k).state = .held then
    let s1 := (s.modPst k (fun x => { x with trip := true })).startOpening k
    (s1.setStr k .opened 0 0 true).modLoss (fun l => { l with opened := withBit l.opened k })
  else s

/-- The strings CLOSED or HELD. -/
def State.closedStrings (s : State) : List Nat :=
  s.strings.filter (fun k => decide ((s.str k).state = .closed) || decide ((s.str k).state = .held))

/-- The newest current of a string. -/
def State.curOf (s : State) (k : Nat) : Int := (s.pp k).icur.sample

/-- Write the last-gasp record once per input loss (R560). -/
def State.lossGasp (s : State) : State :=
  match s.psv.loss with
  | some l => if l.gasped then s else s.gaspWrite.modLoss (fun x => { x with gasped := true })
  | none => s

/-- An opening step of Table 21-4: the strings open, with `PSV_INPUT_LOSS` kind 0x02 (R605); `bound`: it is the one at
150 ms, whose strings the event names. -/
def State.lossStep (s : State) (ks : List Nat) (bound : Bool) : State :=
  if ks = [] then s
  else
    let s1 := ks.foldl (fun u k => u.lossOpen k) s
    s1.lossEvent 2 ((s1.psv.loss.map s1.lossMs).getD 0) (if bound then ks.foldl withBit 0 else 0)

/-- Open what is below 5 % after the end of the wait; when nothing is closed any more, write the last-gasp record. -/
def State.lossOpenLow (s : State) : State :=
  let low := s.closedStrings.filter (fun k => s.lowCurrent k (s.curOf k))
  let s1 := s.lossStep low false
  if low ≠ [] ∧ s1.closedStrings = [] then s1.lossGasp else s1

/-- Table 21-4 begins to run: connects abort with cause 0x06. -/
def State.lossRuns (s : State) : State :=
  (s.abortConnects s.strings).modLoss (fun l => { l with runs := true, judging := false })

/-- INPUT_LOSS_DECLARED (R583 to R585): the flag, the `DERATE_OUT` request; Table 21-4 runs at once in a module that is
LONE or in none of the pair states, an ACTIVE module first judges its peer's heartbeat. -/
def execInputLossDeclared (p : Pulse) (s : State) : Host.Outcome State Fault Refusal :=
  let s0 := s.atP p.val
  ok (if s0.psv.loss.isSome ∨ !s0.psv.powered then s0
    else
      let alone := decide (s0.pair.state ∉ [some PairState.active, some .standby, some .joining])
      let s1 := { s0 with
        psv.loss := some { at_ := s0.clockUs, judging := decide (s0.pair.state = some PairState.active) },
        psv.state := .fullFunction, psv.lossFrame := s0.now, psv.derate := true }
      let s2 := s1.lossEvent 1 0 0
      if alone then s2.lossRuns else s2)

/-- INPUT_LOSS_WAIT_END (R584): the wait has passed, or every closed string is below 5 % of its rating. -/
def execInputLossWaitEnd (p : Pulse) (s : State) : Host.Outcome State Fault Refusal :=
  let s0 := s.atP p.val
  ok (match s0.psv.loss with
    | none => s0
    | some l =>
      let ms := s0.lossMs l
      let allLow := s0.closedStrings.all (fun k => s0.lowCurrent k (s0.curOf k))
      if l.runs ∧ !l.waitEnded ∧ (s0.psv.lossWait ≤ ms ∨ allLow) then
        let s1 := s0.modLoss (fun x => { x with waitEnded := true })
        let s2 := s1.lossOpenLow
        if s2.closedStrings = [] then s2.lossGasp else s2
      else s0)

/-- INPUT_LOSS_FULL_PHASE_END (R583, R584): 150 ms after the declaration every string still closed opens, uncommitted
runtime work is lost, the last-gasp record is written; a module whose input has returned restarts. -/
def execInputLossFullPhaseEnd (p : Pulse) (s : State) : Host.Outcome State Fault Refusal :=
  let s0 := s.atP p.val
  ok (match s0.psv.loss with
    | none => s0
    | some l =>
      let ms := s0.lossMs l
      if 150 ≤ ms ∧ s0.psv.state = .fullFunction then
        let s1 := (s0.lossStep (if l.runs then s0.closedStrings else []) true).lossGasp
        let s4 := { s1 with psv.state := .lastGasp, jnl.queue := [] }
        if l.returned then s4.restart 0x02 else s4
      else s0)

/-- INPUT_RETURNED (R586): before the end of the wait, with nothing opened, the sequence is cancelled; otherwise the
sequence completes and the module restarts with cause 0x02. -/
def execInputReturned (p : Pulse) (vin : Int) (s : State) : Host.Outcome State Fault Refusal :=
  let s0 := { s.atP p.val with psv.vin := vin }
  ok (match s0.psv.loss with
    | none => s0
    | some l =>
      let ms := s0.lossMs l
      if ms < s0.psv.lossWait ∧ !l.waitEnded ∧ l.opened = 0 ∧ !s0.psv.dropped then
        { s0.lossEvent 3 ms 0 with
          psv.loss := none, psv.state := .normal, psv.inRangeFrom := s0.now, psv.cancelledAt := some s0.now,
          mode.holdupIgnore := s0.now + 30000 }
      else if s0.psv.state = .lastGasp then { s0 with psv.state := .normal }.restart 0x02
      else s0.modLoss (fun x => { x with returned := true }))

/-- HOLDUP_EXHAUSTED (R583, R299): the island loses supply; the safe outputs open and nothing volatile remains. -/
def execHoldupExhausted (p : Pulse) (s : State) : Host.Outcome State Fault Refusal :=
  ok { (s.atP p.val).restart 0x01 with psv.powered := false, psv.state := .lastGasp, psv.huE := 0 }

/-- The slot the `SLOT_ID` pins name (R590); no other combination names one. -/
def slotOfPins (a b : Bool) : Option Slot := if !a && b then some .a else if a && !b then some .b else none

/-- POWER_ON (R69, R472, R590, Table 3-4): supply applied; the module reads its pins `SLOT_IDA`, `SLOT_IDB` and `TWA[1:0]`;
Fill begins with reset cause 0x01. -/
def execPowerOn (vin : Int) (idA idB : Bool) (twa : BitVec 2) (s : State) : Host.Outcome State Fault Refusal :=
  let s0 : State := { s with
    sys.slot := (slotOfPins idA idB).getD s.sys.slot, sys.slotOk := (slotOfPins idA idB).isSome, tw.pins := twa.toNat }
  ok { s0.restart 0x01 with
    psv.powered := true, psv.state := .normal, psv.vin := vin, time.sincePower := 0, time.oscWarm := false }

/-- RESET_IN (R597): released after having been asserted for a time in ms; shorter than 10 ms is ignored. -/
def execResetIn (p : Pulse) (heldMs : Nat) (s : State) : Host.Outcome State Fault Refusal :=
  let s0 := s.atP p.val
  ok (if 10 ≤ heldMs ∧ s0.psv.powered then s0.restart 0x03 else s0)

/-- The condition `PSV_HOLDUP` reports of a full energy (Table 21-15). -/
def holdupKind (full : Int) : Nat := if full < 25 then 2 else if full < 60 then 1 else 0

/-- HOLDUP_CAPACITY_MEASURE (R582): capacitance (0.1 F) and usable energy at full charge (J). -/
def execHoldupCapacityMeasure (p : Pulse) (cap : Nat) (full : Int) (s : State) : Host.Outcome State Fault Refusal :=
  let s0 := s.atP p.val
  let c := holdupKind full
  let s1 := s0.evIf (decide (c ≠ s0.psv.holdupCond)) 0x1602 (le 1 (if c = 0 then 0x80 else c) ++ leI 4 full)
  ok { s1 with psv.huCap := cap, psv.huFull := full, psv.holdupCond := c, psv.huMeasured := s0.now }

/-- PSV_SUPPLY (R605): the input leaves or re-enters 18 to 32 V. -/
def execPsvSupply (p : Pulse) (vin : Int) (s : State) : Host.Outcome State Fault Refusal :=
  let s0 := { s.atP p.val with psv.vin := vin }
  let within := decide (18000 ≤ vin) && decide (vin ≤ 32000)
  ok (if s0.psv.state = .normal ∧ !within then
      { s0.ev 0x1603 ([1] ++ leI 4 vin) with psv.state := .outOfRange }
    else if s0.psv.state = .outOfRange ∧ within then
      { s0.ev 0x1603 ([0x80] ++ leI 4 vin) with psv.state := .normal, psv.inRangeFrom := s0.now }
    else s0)

/-- ANALOG_INPUT_CONVERSION (R595, R601): at pulse 900, the values of AI0 to AI7 in 0.001 % of span, calibrated by the mode of
each input (Table 21-10). -/
def execAnalogInputConversion (vals : List Int) (s : State) : Host.Outcome State Fault Refusal :=
  let s0 := s.atP 900
  ok { s0 with psv.ai := tmodAll s0.psv.ai (upFrom 0 8) (fun n v =>
    match s0.aiModeOf n, vals[n]? with
    | m + 1, some x => sat32 (s0.calibrated (112 + 16 * n + 8 * m) x)
    | _, _ => v) }

end Sys2Proof.Machine
end

