-- ==== Sys2Proof/Machine/Power.lean ====
section
/-! DEFINITION. Power ports, Pronghorn, the connect and open sequences, the power stages (chapter 10). -/

namespace Sys2Proof.Machine

/-! ### From bitstream to sample (R264 to R268) -/

/-- Ways to choose two of `n`. -/
def choose2 (n : Nat) : Nat := n * (n - 1) / 2

/-- Weight of tap `j`, 0 to 57, of the sinc3 filter with decimation 20: three running sums of 20 in a row (R264). -/
def sinc3Tap (j : Nat) : Nat := choose2 (j + 2) + 3 * choose2 (j - 38) - 3 * choose2 (j - 18)

/-- Weight of tap `j`, 0 to 14, of the coarse sinc2 filter: two running sums of 8 (R266). -/
def sinc2Tap (j : Nat) : Nat := if j < 8 then j + 1 else 15 - j

/-- Sum of the weights at the bits that are 1, newest bit first. -/
def tapSum (tap : Nat → Nat) : Nat → Nat → List Bool → Nat
  | 0, _, _ => 0
  | _ + 1, _, [] => 0
  | n + 1, j, b :: t => (if b then tap j else 0) + tapSum tap n (j + 1) t

/-- The twenty bits of a pulse, newest first: bit `k` is clocked by edge `k` (R261). -/
def pulseBits (w : BitVec 20) : List Bool := (upFrom 0 20).reverse.map w.getLsbD

/-- The sinc3 code of the middle pulse of the last sixty bits, centred on it (R264). -/
def sinc3Code (bits : List Bool) : Nat := tapSum sinc3Tap 58 0 (bits.drop 1)

/-- A raw code in engineering units (R265). -/
def sampleOf (r : Nat) (fs : Nat) (ofs : Int) : Int := sat32 (muldiv ((r : Int) - 4000) fs 3200 + ofs)

/-- A coarse code in mA (R266). -/
def coarseOf (r : Nat) (fs : Nat) (ofs : Int) : Int := sat32 (muldiv ((r : Int) - 32) (10 * fs) 256 + ofs)

/-- The run of equal bits over new bits, oldest first, and whether it has reached 64 (R267). -/
def runOver : List Bool → Bool → Nat → Bool → Nat × Bool
  | [], _, r, seen => (r, seen)
  | b :: t, last, r, seen =>
    let r1 := if b = last then r + 1 else 1
    runOver t b r1 (seen || decide (64 ≤ r1))

/-- A channel takes the bits of one pulse: filter, stuck detection; an invalid or stuck channel holds its last valid
sample (R264, R265, R267). -/
def ChanSt.take (c : ChanSt) (w : BitVec 20) (fs : Nat) (ofs : Int) : ChanSt :=
  let fresh := pulseBits w
  let bits := (fresh ++ c.bits).take 60
  let r := runOver fresh.reverse (c.bits.headD false) c.run false
  let v := if c.invalid || r.2 then c.sample else sampleOf (sinc3Code bits) fs ofs
  { c with
    bits := bits, prev := c.sample, sample := v, run := r.1, stuck := r.2,
    clean := if r.2 then 0 else c.clean + 1 }

/-- The ten coarse outputs of a pulse, oldest first: one at every second bit (R266). -/
def coarseOutputs (bits : List Bool) (fs : Nat) (ofs : Int) : List Int :=
  (upFrom 0 10).map (fun m => coarseOf (tapSum sinc2Tap 15 0 (bits.drop (18 - 2 * m))) fs ofs)

/-- Two consecutive values of a list have a magnitude at or above a threshold (R317). -/
def twoAbove (t : Int) : List Int → Bool
  | a :: b :: l => (decide (t ≤ a.natAbs) && decide (t ≤ b.natAbs)) || twoAbove t (b :: l)
  | _ => false

/-- One sample enters the sums of an interval (R268). -/
def Sums.add (x : Sums) (i : Int) : Sums :=
  { sum := sat64 (x.sum + i), sq := satN 0xFFFFFFFFFFFFFFFF (x.sq + i.natAbs ^ 2),
    pos := if 0 < i then x.pos + i.natAbs else x.pos,
    neg := if i < 0 then x.neg + i.natAbs else x.neg,
    lo := some (match x.lo with | some l => min l i | none => i),
    hi := some (match x.hi with | some h => max h i | none => i),
    n := x.n + 1 }

/-- The string is below 0.02 C and below 0.002 C at a current (Table 6-2). -/
def State.below02 (s : State) (i : Int) : Bool := decide (180000 * i.natAbs < s.qDesign)

/-- The string is below 0.002 C at a current (Table 6-2). -/
def State.below002 (s : State) (i : Int) : Bool := decide (1800000 * i.natAbs < s.qDesign)

/-- Add a charge in mA·µs to a counter of mA·s with its remainder (R188). -/
def carryCharge (q rem_ add : Nat) : Nat × Nat := (q + (rem_ + add) / 1000000, (rem_ + add) % 1000000)

/-- The sums of an interval are handed over at pulse 12 of its frame (R268): to estimation (R178, R188), the thermal
pass (R216) and Markhor's own copies (R322, R559). -/
def State.takeInterval (s : State) (k : Nat) : State :=
  let q := s.pp k
  let l := q.last
  let closed := decide ((s.str k).state = .closed) || decide ((s.str k).state = .held)
  let quiet := (l.lo.all s.below02) && (l.hi.all s.below02)
  let est (e : StrEst) : StrEst :=
    let c := carryCharge e.thruC e.thruCRem l.pos
    let d := carryCharge e.thruD e.thruDRem l.neg
    { e with
      thruC := c.1, thruCRem := c.2, thruD := d.1, thruDRem := d.2, qSum := e.qSum + l.sum,
      sqSum := e.sqSum + l.sq, sqN := e.sqN + l.n, cur10 := q.icur.at10,
      quiet := if quiet then e.quiet + 1 else 0 }
  { s.modPp k (fun p => { p with means := ((s.now, l.sum, closed) :: p.means).take 1000 }) with
    est.str := tmod s.est.str k est,
    jnl.mkThru := tmod s.jnl.mkThru k (fun t => (t.1 + l.pos, t.2 + l.neg)) }

/-! ### Pronghorn (R279 to R284) -/

/-- Sign of a number. -/
def sgn (v : Int) : Int := if v < 0 then -1 else if v = 0 then 0 else 1

/-- `LOOP_C1` of a port (R281). -/
def loopC1 (ff choke : Nat) : Int := divRound (ff * 1000 * 2 ^ 24) choke

/-- `LOOP_C2` of a port (R281). -/
def loopC2 (ff vclamp choke : Nat) : Int := divRound (ff * vclamp * 1000) choke

/-- The predicted current (R282). -/
def loopPredict (l : LoopSt) (i vstr vbus : Int) : Int :=
  if l.out then sat32 (i + sat32 (divRound ((vbus - vstr) * l.c1) (2 ^ 24)))
  else sat32 (i - sgn i * min (i.natAbs : Int) l.c2)

/-- The loop's output for the next word (R282). -/
def loopOut (l : LoopSt) (ip : Int) : Bool :=
  let a : Int := ip.natAbs
  let t : Int := l.sp.natAbs
  let o := if t + l.band < a then false else if a < t - l.band then true else l.out
  if ip ≠ 0 ∧ sgn ip ≠ sgn l.sp then false else o

/-- The expected change of current from sample `n - 1` to sample `n` (R283). -/
def expectedChange (c : PortCfg) (gate : Bool) (i prev vstr vbus : Int) : Int :=
  if gate then muldiv (vbus - vstr) 1000 c.choke
  else -(sgn i) * min (prev.natAbs : Int) (divRound (c.vclamp * 1000) c.choke)

/-- The phases in which the loop runs. -/
def Phase.looping : Phase → Bool
  | .loop => true
  | .window => true
  | _ => false

/-- One pulse of the connect loop (R282 to R284): prediction, output, plausibility, convergence. -/
def loopStep (g : PpCfg) (c : PortCfg) (q : PpSt) : LoopSt :=
  let l := q.loop
  let i := q.icur.sample
  let ip := loopPredict l i q.vstr.sample q.vbus.sample
  let o := loopOut l ip
  let m := i - q.icur.prev
  let e := expectedChange c ((q.gates[1 + g.gateLag]?).getD false) i q.icur.prev q.vstr.sample q.vbus.sample
  let res : Int := (m - e).natAbs
  let far := decide (100 * res > 100 * (g.plausTol : Int) + (e.natAbs * g.plausPct : Nat))
  let conv := decide ((q.vstr.sample - q.vbus.sample).natAbs < 2000) && decide (l.sp - l.band ≤ i) &&
    decide (i ≤ l.sp + l.band)
  { l with
    out := o, y := i, yp := ip, res := sat32 res, expected := sat32 e,
    run := if far then satN 8 (l.run + 1) else 0,
    conv := if conv then satN 65535 (l.conv + 1) else 0,
    count := if o = l.out then sat32u (l.count + 1) else 0,
    onCount := if o then sat32u (l.onCount + 1) else l.onCount,
    windowAge := if l.window then l.windowAge + 1 else 0 }

/-- The hand-over (R284): within the window with the output on, `GATE` is held at 1 and the string is CLOSED. -/
def State.handoverTake (s : State) (k : Nat) : State :=
  let q := s.pp k
  if q.phase = .window ∧ q.loop.out ∧ s.connecting k then
    let s1 := s.ev 0x0A01 (le 1 k ++ [2, 0] ++ le 4 (s.now - q.connFrom) ++ le 1 (s.str k).retry)
    let s2 := s1.modPp k (fun p =>
      { p with hold := true, phase := .none, phasePulses := 0, nConnects := sat32u (p.nConnects + 1),
               takenAt := some s.now, loop := { p.loop with window := false, count := 0 } })
    ((s2.setStr k .closed 0 0 true).modStr k (fun x => { x with retryWas := x.retry, retry := 0 })).recordOwn k
  else s

/-! ### The power stage (R274, Table 10-4) -/

/-- A word is intact at an input: its framing and `CRC8` pass, its `ROLE` is not reserved and its `SLOT` matches. -/
def intactAt (input : Slot) (l : LineWord) : Option CmdWord :=
  match readCmd l with
  | some x => if x.role ≠ .reserved ∧ x.slot = input then some x else none
  | none => none

/-- A stage input after one pulse, and the valid word that may be acted on in it. Of a word with `ROLE` 0b00 only the
`TRIP` is obeyed (Table 10-4). -/
def StageIn.take (x : StageIn) (w : Option CmdWord) : StageIn × Option CmdWord :=
  let x0 := { x with
    trip1 := x.trip0, trip0 := (w.map (·.trip)).getD false,
    sinceActive := satN 16 (x.sinceActive + 1) }
  let seen (y : StageIn) (c : CmdWord) : StageIn :=
    { y with pseq := c.pseq, sinceActive := if c.role = .active then 0 else y.sinceActive }
  match x.resync, w with
  | none, some c =>
    let d := (c.pseq + 256 - x.pseq) % 256
    if 1 ≤ d ∧ d ≤ 4 then ({ seen x0 c with badRun := 0, word := if c.role = .none then x.word else some c }, some c)
    else if 3 ≤ x.badRun then ({ x0 with badRun := 0, resync := some none }, none)
    else ({ x0 with badRun := x.badRun + 1 }, none)
  | none, none =>
    if 3 ≤ x.badRun then ({ x0 with badRun := 0, resync := some none }, none)
    else ({ x0 with badRun := x.badRun + 1 }, none)
  | some (some q), some c =>
    if c.pseq = (q + 1) % 256 then ({ seen x0 c with resync := none, badRun := 0 }, none)
    else ({ x0 with resync := some (some c.pseq) }, none)
  | some none, some c => ({ x0 with resync := some (some c.pseq) }, none)
  | some _, none => ({ x0 with resync := some none }, none)

/-- The word of an input is followable (Table 10-4): active, or standby with no active word on the other input in the
last 4 pulses observed. -/
def followable (v : Option CmdWord) (observed otherSince : Nat) : Bool :=
  match v with
  | some c => decide (c.role = .active) || (decide (c.role = .standby) && decide (4 ≤ observed) && decide (4 ≤ otherSince))
  | none => false

/-- The word is valid and active. -/
def isActive (v : Option CmdWord) : Bool := (v.map (fun c => decide (c.role = .active))).getD false

/-- Pulses without a followable word, to 4. -/
def nextSince (fl : Bool) (n : Nat) : Nat := if fl then 0 else satN 4 (n + 1)

/-- The input followed after one pulse (Table 10-4). `pick` decides between two inputs that qualify alike while none is
followed, which the contract leaves open. -/
def nextFollow (f : Follow) (actA actB flA flB : Bool) (sinceA sinceB : Nat) (pick : Bool) : Follow :=
  let fresh : Follow :=
    match flA, flB with
    | true, true => if pick then .a else .b
    | true, false => .a
    | false, true => .b
    | false, false => .none
  match actA, actB with
  | true, false => .a
  | false, true => .b
  | true, true => match f with
    | .a => .a
    | .b => .b
    | _ => fresh
  | false, false => match f with
    | .a => if 4 ≤ sinceA then (if flB then .b else .none) else .a
    | .b => if 4 ≤ sinceB then (if flA then .a else .none) else .b
    | _ => fresh

/-- One pulse of a power stage (Table 10-4): the words at its two inputs, its own current measurement. -/
def StageSt.pulse (g : StageSt) (wa wb : LineWord) (cur : Int) (pick : Bool) : StageSt :=
  let ia := intactAt .a wa
  let ib := intactAt .b wb
  let ra := g.a.take ia
  let rb := g.b.take ib
  let obs := satN 4 (g.observed + 1)
  let flA := followable ra.2 obs rb.1.sinceActive
  let flB := followable rb.2 obs ra.1.sinceActive
  let a1 : StageIn := { ra.1 with sinceFollow := nextSince flA g.a.sinceFollow }
  let b1 : StageIn := { rb.1 with sinceFollow := nextSince flB g.b.sinceFollow }
  let f := nextFollow g.follow (isActive ra.2) (isActive rb.2) flA flB a1.sinceFollow b1.sinceFollow pick
  let w := match f with
    | .a => a1.word
    | .b => b1.word
    | _ => none
  let both := decide (a1.sinceActive < 16) && decide (b1.sinceActive < 16)
  let trip := a1.trip0 || a1.trip1 || b1.trip0 || b1.trip1
  let all_ (h : CmdWord → Bool) : Bool :=
    if both then (a1.word.all h && b1.word.all h) else (w.map h).getD false
  let want := (w.map (·.gate)).getD false && all_ (·.gate) && !trip
  let sw := want && (g.sw || !both)
  let low := if !sw && decide (cur.natAbs < 1000) then satN 100 (g.lowRun + 1) else 0
  let contactor (closed : Bool) (h : CmdWord → Bool) : Bool :=
    let req := all_ h
    let opens := !sw && decide (100 ≤ low) && ((w.isSome && !req) || g.lossOpen)
    let closes := w.isSome && req && !sw && !both
    if opens then false else closed || closes
  { a := a1, b := b1, observed := obs, follow := f, sw := sw,
    kpos := contactor g.kpos (·.kpos), kneg := contactor g.kneg (·.kneg), lowRun := low,
    lossOpen := g.lossOpen && decide (low < 100) && f matches .none,
    eseq := w.map (·.pseq), tripSt := trip, both := both }

/-- The status word of the stage for the pulse it has applied (R275, Table 10-5). `any` is the `ESEQ` of a stage that
follows no source, which the contract does not state; `desat`, `fault` and `data` are the stage's own. -/
def StageSt.report (g : StageSt) (any : Nat) (desat fault : Bool) (data : Mask) : StatWord :=
  { eseq := g.eseq.getD any, follow := if g.both then .both else g.follow, gateSt := g.sw, tripSt := g.tripSt,
    desat := desat, kposAux := g.kpos, knegAux := g.kneg, stgFault := fault, data := data }

/-! ### The command word (R269 to R273) -/

/-- `ROLE` as the power ports send it: a frozen module keeps the role only when it was LONE (R396); a takeover shows from
the first word that starts at least 2 µs later (R397). -/
def State.wordRole (s : State) : RoleCode :=
  if s.prot.frozen then (if s.pair.frozenLone then .active else .none)
  else match s.pair.claimFrom with
    | some (t, r) => if 1000 * s.now + s.time.pulse < t ∧ s.leads then r else s.roleCode
    | none => s.roleCode

/-- The word a port sends in the present pulse (Table 10-3, R272). -/
def State.wordOf (s : State) (k : Nat) : CmdWord :=
  let q := s.pp k
  let kk := q.kReq && (s.pst k).permit
  { pseq := q.pseq, role := s.wordRole, slot := s.sys.slot,
    gate := kk && (q.hold || (q.phase.looping && q.loop.out)),
    trip := (s.pst k).trip, kpos := kk, kneg := kk }

/-! ### The status word (R275 to R277) -/

/-- The echo check runs for a `FOLLOW` value (R277). -/
def State.echoChecked (s : State) (f : Follow) : Bool :=
  match f with
  | .a => decide (s.sys.slot = .a) || s.inPair
  | .b => decide (s.sys.slot = .b) || s.inPair
  | _ => false

/-- STATUS_WORD (R275 to R277): what `STAT` carried for the pulse before the last word sent, which the contract makes the
stage's `StageSt.report` and a faulty stage or line may make any other (log 49).
A word whose framing and `CRC8` pass is read even where its `ESEQ` is too far behind, which counts against the stream alone (R276).
Markhor takes the auxiliary contacts, `STG_FAULT` and what stands of echo and stream in the same pulse (R321). -/
def execStatusWord (str : StrIx) (line : LineWord) (s : State) : Host.Outcome State Fault Refusal :=
  let k := str.val
  let q := s.pp k
  let s0 := s.atP q.pulse
  let w := readStat line
  let good := match w with
    | some x => decide ((q.word.pseq + 256 - x.eseq) % 256 ≤ 4)
    | none => false
  match w with
  | some x =>
    let sent := (q.gates[1]?).getD false
    let checked := s0.echoChecked x.follow
    let mismatch := checked && decide (x.gateSt ≠ (sent && !x.tripSt))
    let aux := x.kposAux || x.knegAux
    let bothAux := x.kposAux && x.knegAux
    let s1 := s0.evIf (decide (x.follow ≠ q.stat.follow)) 0x0A05
      (le 1 k ++ le 1 q.stat.follow.code ++ le 1 x.follow.code)
    let s2 := s1.modPp k (fun y =>
      { y with
        stat := x, statSeen := y.statSeen || good, badRun := if good then 0 else y.badRun + 1,
        goodRun := if y.statInvalid && good then y.goodRun + 1 else 0,
        nStatErr := if good then y.nStatErr else sat32u (y.nStatErr + 1),
        echoBad := if mismatch then y.echoBad + 1 else 0,
        echoGood := if !y.echoFault then 0 else if !checked then y.echoGood
                    else if mismatch then 0 else y.echoGood + 1,
        auxNow := y.auxNow || aux,
        chokeT := if x.eseq % 2 = 0 then signedOf 2 x.data.toNat else y.chokeT,
        stgCode := if x.eseq % 2 = 1 then x.data.toNat else y.stgCode,
        opening := y.opening && (y.kReq || aux),
        phase := if y.phase = .contactors ∧ bothAux then .settle else y.phase,
        phasePulses := if y.phase = .contactors ∧ bothAux then 0 else y.phasePulses,
        loop := { y.loop with count := if y.phase = .contactors ∧ bothAux then 0 else y.loop.count } })
    ok ((s2.auxWatch k).sf09Stands k)
  | none =>
    ok ((s0.modPp k (fun y =>
      { y with badRun := y.badRun + 1, goodRun := 0, nStatErr := sat32u (y.nStatErr + 1), echoBad := 0 })).sf09Stands k)

/-! ### Validity of channels, status and echo -/

/-- A channel of a port. -/
def PpSt.chan (q : PpSt) (c : Nat) : ChanSt := if c = 0 then q.icur else if c = 1 then q.vstr else q.vbus

/-- Change a channel of a port. -/
def PpSt.modChan (q : PpSt) (c : Nat) (f : ChanSt → ChanSt) : PpSt :=
  if c = 0 then { q with icur := f q.icur } else if c = 1 then { q with vstr := f q.vstr }
  else { q with vbus := f q.vbus }

/-- `PP_STREAM` (Table 10-16). -/
def State.streamEvent (s : State) (k chan : Nat) (valid : Bool) : State :=
  s.ev 0x0A02 (le 1 k ++ le 1 chan ++ [if valid then 0x80 else 1])

/-- BITSTREAM_STUCK (R267): the channel is invalid from this pulse; an invalid `ICUR` is SF-10 (R322). -/
def execBitstreamStuck (p : Pulse) (str : StrIx) (chan : Fin 3) (s : State) : Host.Outcome State Fault Refusal :=
  let k := str.val
  let s0 := s.atP p.val
  let c := (s0.pp k).chan chan.val
  ok (if c.stuck ∧ !c.invalid then
      let s1 := (s0.streamEvent k (chan.val + 1) false).modPp k (fun q =>
        { q.modChan chan.val (fun x => { x with invalid := true, clean := 0 }) with nStuck := sat32u (q.nStuck + 1) })
      if chan.val = 0 then s1.sf10 k c.sample else s1
    else s0)

/-- BITSTREAM_RECOVER (R267): 1,000 pulses without a stuck run. -/
def execBitstreamRecover (p : Pulse) (str : StrIx) (chan : Fin 3) (s : State) : Host.Outcome State Fault Refusal :=
  let k := str.val
  let s0 := s.atP p.val
  let c := (s0.pp k).chan chan.val
  ok (if c.invalid ∧ 1000 ≤ c.clean then
      (s0.streamEvent k (chan.val + 1) true).modPp k (fun q =>
        q.modChan chan.val (fun x => { x with invalid := false }))
    else s0)

/-- STATUS_STREAM_INVALID (R276, R321): the fourth consecutive bad status word. -/
def execStatusStreamInvalid (p : Pulse) (str : StrIx) (s : State) : Host.Outcome State Fault Refusal :=
  let k := str.val
  let s0 := s.atP p.val
  let q := s0.pp k
  ok (if 4 ≤ q.badRun ∧ !q.statInvalid then
      ((s0.streamEvent k 4 false).modPp k (fun y => { y with statInvalid := true, goodRun := 0 })).sf09 k 4
    else s0)

/-- STATUS_STREAM_VALID (R276): 1,000 consecutive valid words. -/
def execStatusStreamValid (p : Pulse) (str : StrIx) (s : State) : Host.Outcome State Fault Refusal :=
  let k := str.val
  let s0 := s.atP p.val
  let q := s0.pp k
  ok (if q.statInvalid ∧ 1000 ≤ q.goodRun then
      (s0.streamEvent k 4 true).modPp k (fun y => { y with statInvalid := false })
    else s0)

/-- PP_ECHO_FAULT (R277, R321): a mismatch in 3 consecutive pulses. -/
def execPpEchoFault (p : Pulse) (str : StrIx) (s : State) : Host.Outcome State Fault Refusal :=
  let k := str.val
  let s0 := s.atP p.val
  let q := s0.pp k
  ok (if 3 ≤ q.echoBad ∧ !q.echoFault then
      let s1 := s0.ev 0x0A03 (le 1 k ++ le 1 (b2n ((q.gates[1]?).getD false)) ++ le 1 (b2n q.stat.gateSt) ++
        le 1 q.stat.follow.code)
      (s1.modPp k (fun y => { y with echoFault := true, echoGood := 0, nEcho := sat32u (y.nEcho + 1) })).sf09 k 3
    else s0)

/-- ECHO_FAULT_CLEAR (R277): 1,000 consecutive matching checked pulses. -/
def execEchoFaultClear (p : Pulse) (str : StrIx) (s : State) : Host.Outcome State Fault Refusal :=
  let k := str.val
  let s0 := s.atP p.val
  let q := s0.pp k
  ok (if q.echoFault ∧ 1000 ≤ q.echoGood then s0.modPp k (fun y => { y with echoFault := false, echoBad := 0 })
      else s0)

/-- PP_IMPLAUSIBLE (R283, R322): 8 consecutive residuals beyond tolerance; Markhor trips the string under SF-10. -/
def execPpImplausible (p : Pulse) (str : StrIx) (s : State) : Host.Outcome State Fault Refusal :=
  let k := str.val
  let s0 := s.atP p.val
  let q := s0.pp k
  ok (if q.phase.looping ∧ 8 ≤ q.loop.run ∧ !q.loop.implausible then
      let s1 := s0.ev 0x0A04 (le 1 k ++ leI 4 q.loop.res ++ leI 4 q.loop.expected ++ le 1 (b2n q.loop.out))
      (s1.modPp k (fun y => { y with loop := { y.loop with implausible := true } })).sf10 k q.loop.res
    else s0)

/-! ### The connect sequence (R285, R286) -/

/-- The pre-checks of Table 10-8: the abort cause, none where all pass. -/
def State.preCheck (s : State) (k : Nat) : Option Nat :=
  let q := s.pp k
  let okPort := q.statSeen && !q.statInvalid && !q.stat.gateSt && !q.stat.kposAux && !q.stat.knegAux &&
    !q.stat.desat && !q.stat.stgFault && decide (q.stat.follow ≠ .both) && !q.icur.invalid && !q.vstr.invalid &&
    !q.vbus.invalid && (s.fittedOf k).all (fun p => (tget s.prot.port p).validLast)
  if !okPort then some 1
  else if 100 * s.power.cfg.connDvMax < (q.vstr.sample - q.vbus.sample).natAbs then some 2
  else none

/-- The direction of the connect: towards charge when V_bus ≥ V_str (R282). -/
def State.connCharge (s : State) (k : Nat) : Bool := decide ((s.pp k).vstr.sample ≤ (s.pp k).vbus.sample)

/-- Markhor's reasons to refuse consent, in the order of R313. -/
def State.consentReasons (s : State) (k : Nat) : Nat :=
  let x := s.pst k
  packBits [x.trip || decide (x.latched ≠ 0),
    if 0 < (s.pp k).loop.sp then s.inhChg k else s.inhDis k,
    !s.allIlkHealthy, s.prot.safeA || s.prot.safeB, s.prot.frozen,
    !(s.fittedOf k).all (fun p => (tget s.prot.port p).validLast)]

/-- CONNECT_START (Table 10-8): an admitted string becomes CONNECTING and its pre-checks run; the loop's setpoint takes the
direction the pre-check finds (R282). -/
def State.connectStart (s : State) (k : Nat) : State :=
  let s1 := (s.setStr k .connecting 0 0 false).ev 0x0A01 (le 1 k ++ [1, 0] ++ le 4 0 ++ le 1 (s.str k).retry)
  let s2 := s1.modPp k (fun q =>
    { q with phase := .precheck, phasePulses := 0, connFrom := s.now, hold := false, loop := { q.loop with count := 0 } })
  match s2.preCheck k with
  | some c => s2.endConnect k c .opened 0 0
  | none =>
    let t : Int := 100 * s2.power.cfg.connTarget
    s2.modPp k (fun q => { q with loop := { q.loop with sp := if s2.connCharge k then t else -t } })

/-- CONNECT_CONSENT (Table 10-8, R313): Markhor judges from pulse 1 of the frame of the start; a refusal aborts with cause
0x07. -/
def State.connectConsent (s : State) (k : Nat) : State :=
  if s.connecting k ∧ (s.pp k).phase = .precheck ∧ !(s.pst k).permit then
    let r := s.consentReasons k
    if r ≠ 0 then (s.ev 0x0B06 (le 1 k ++ le 1 r)).endConnect k 7 .opened 0 0
    else s.modPst k (fun x => { x with permit := true })
  else s

/-- The frame after: the contactor request (Table 10-8). -/
def State.connectContactors (s : State) (k : Nat) : State :=
  if s.connecting k ∧ (s.pp k).phase = .precheck ∧ (s.pst k).permit ∧ (s.pp k).connFrom < s.now then
    s.modPp k (fun q => { q with kReq := true, phase := .contactors, phasePulses := 0, loop := { q.loop with count := 0 } })
  else s

/-- CONTACTOR_CLOSE_TIMEOUT (R285): auxiliaries not closed within `PP_K_CLOSE`. -/
def execContactorCloseTimeout (p : Pulse) (str : StrIx) (s : State) : Host.Outcome State Fault Refusal :=
  let k := str.val
  let s0 := s.atP p.val
  let q := s0.pp k
  ok (if q.phase = .contactors ∧ 10000 * s0.power.cfg.kClose ≤ q.phasePulses then s0.abortConnect k 3 else s0)

/-- LOOP_PHASE_START (R285): 20 ms after both auxiliaries, `LOOP_OUT` 0, counters cleared, `LOOP_ENTRY` set. -/
def execLoopPhaseStart (p : Pulse) (str : StrIx) (s : State) : Host.Outcome State Fault Refusal :=
  let k := str.val
  let s0 := s.atP p.val
  let q := s0.pp k
  ok (if q.phase = .settle ∧ 20000 ≤ q.phasePulses ∧ s0.connecting k then
      s0.modPp k (fun y =>
        { y with
          phase := .loop, phasePulses := 0,
          loop := { on := y.loop.on, sp := y.loop.sp, band := y.loop.band, c1 := y.loop.c1, c2 := y.loop.c2,
                    entry := s0.now } })
    else s0)

/-- HANDOVER_WINDOW_OPEN (R284): converged for `PP_CONV_PULSES`; the hand-over is taken at once where the output is
on. -/
def execHandoverWindowOpen (p : Pulse) (str : StrIx) (s : State) : Host.Outcome State Fault Refusal :=
  let k := str.val
  let s0 := s.atP p.val
  let q := s0.pp k
  ok (if q.phase = .loop ∧ s0.power.cfg.convPulses ≤ q.loop.conv then
      (s0.modPp k (fun y =>
        { y with phase := .window, phasePulses := 0,
                 loop := { y.loop with window := true, converged := true, windowAge := 0, count := 0 } })).handoverTake k
    else s0)

/-- HANDOVER_WINDOW_EXPIRE (R284): the 2 ms have passed without the output on. -/
def execHandoverWindowExpire (p : Pulse) (str : StrIx) (s : State) : Host.Outcome State Fault Refusal :=
  let k := str.val
  let s0 := s.atP p.val
  let q := s0.pp k
  ok (if q.phase = .window ∧ 2000 ≤ q.loop.windowAge then
      (if q.loop.out then s0.handoverTake k else s0.abortConnect k 5)
    else s0)

/-- CONN_TIME_EXPIRE (R286): the loop phase has lasted `PP_CONN_TIME` without a window. -/
def execConnTimeExpire (p : Pulse) (str : StrIx) (s : State) : Host.Outcome State Fault Refusal :=
  let k := str.val
  let s0 := s.atP p.val
  let q := s0.pp k
  ok (if q.phase = .loop ∧ 10000 * s0.power.cfg.connTime ≤ q.phasePulses then s0.abortConnect k 4 else s0)

/-- OPEN_CURRENT_LOW (R288 step 2): `ICUR` below 1 A for 100 pulses; the contactor requests and the permit go. The
sequence is complete where both auxiliaries read 0 already. -/
def execOpenCurrentLow (p : Pulse) (str : StrIx) (s : State) : Host.Outcome State Fault Refusal :=
  let k := str.val
  let s0 := s.atP p.val
  let q := s0.pp k
  ok (if q.opening ∧ 100 ≤ q.lowRun then
      (s0.modPst k (fun x => { x with permit := false })).modPp k (fun y =>
        { y with kReq := false, opening := y.stat.kposAux || y.stat.knegAux })
    else s0)

/-! ### Thermal outputs (R291) -/

/-- A thermal loop runs: one whose `LOOP_IN` is 0x00 is idle (Table 10-12). -/
def ThermLoop.runs (l : ThermLoop) : Bool := l.on && decide (l.input ≠ 0)

/-- The loop that drives a thermal output has its output on; an output of no loop is off (R291), and in Fill and Load every
output is (R290). -/
def State.driven (s : State) (o : Nat) : Bool :=
  decide (s.mode.mode ≠ .fill) && decide (s.mode.mode ≠ .load) &&
    s.power.therm.any (fun e => e.2.runs && decide (e.2.outsel = o + 1) && e.2.out)

/-- LOOP_OUTPUT_FAULT (R291): the fault bits of an output, short circuit first; a shorted output is switched off. -/
def execLoopOutputFault (p : Pulse) (out : Fin 16) (faults : BitVec 3) (s : State) : Host.Outcome State Fault Refusal :=
  let s0 := s.atP p.val
  let o := tget s0.power.out out.val
  let s1 := s0.evIf (decide (faults ≠ o.faults)) 0x0A07
    (le 1 out.val ++ le 1 (if faults = 0 then 0x80 else 2 * faults.toNat))
  ok { s1 with power.out := tput s1.power.out out.val {
    faults := faults, cut := o.cut || faults.getLsbD 0, on := o.on && !faults.getLsbD 0 } }

/-- THERMAL_OUTPUT_RETRY (R291): a shorted output is tried again. -/
def execThermalOutputRetry (p : Pulse) (out : Fin 16) (s : State) : Host.Outcome State Fault Refusal :=
  let s0 := s.atP p.val
  ok { s0 with power.out := tmod s0.power.out out.val (fun o =>
    if o.cut then { o with cut := false, on := s0.driven out.val } else o) }

/-! ### Loss of both inputs -/

/-- STAGE_LOSS_OF_BOTH_INPUTS (Table 10-4): 20 ms without a valid word; the switch off, then the contactors under the
opening rule. `low`: the current has been below 1 A for 100 µs. -/
def execStageLossOfBothInputs (p : Pulse) (str : StrIx) (low : Bool) (s : State) :
    Host.Outcome State Fault Refusal :=
  let s0 := s.atP p.val
  ok { s0 with power.stage := tmod s0.power.stage str.val (fun g =>
    { g with follow := .none, sw := false, lossOpen := !low, kpos := g.kpos && !low, kneg := g.kneg && !low }) }

/-! ### Status objects (R294) -/

/-- Code of `PP_PHASE`. -/
def Phase.code : Phase → Nat
  | .none => 0
  | .precheck => 1
  | .contactors => 2
  | .settle => 3
  | .loop => 4
  | .window => 5

/-- `PP_PORT` (Table 10-15). -/
def State.objPort (s : State) (k : Nat) : Bytes :=
  let q := s.pp k
  leI 4 q.icur.at10 ++ leI 4 q.vstr.at10 ++ leI 4 q.vbus.at10 ++
  le 1 (packBits [q.icur.invalid, q.vstr.invalid, q.vbus.invalid, q.statInvalid, q.echoFault, q.opening,
    q.loop.implausible]) ++
  le 1 (packBits [q.word.gate, q.word.trip, q.word.kpos, q.word.kneg] + 16 * q.word.role.code) ++
  le 1 (q.stat.follow.code + 4 * packBits [q.stat.gateSt, q.stat.tripSt, q.stat.desat, q.stat.kposAux,
    q.stat.knegAux, q.stat.stgFault]) ++
  le 1 q.phase.code ++ leI 2 q.chokeT ++ le 2 q.stgCode ++ le 4 q.nStatErr ++ le 4 q.nEcho ++ le 4 q.nStuck ++
  le 4 q.nConnects ++ le 4 q.nAborts ++ le 1 q.lastAbort ++ le 7 0

/-- The context of a connect loop (Tables 10-6, 10-7). -/
def LoopSt.bytes (l : LoopSt) : Bytes :=
  le 4 (if l.on then 0x10000000 else 0) ++ leI 4 l.sp ++ leI 4 l.band ++ leI 4 l.c1 ++ leI 4 l.c2 ++
  le 2 (if l.on then 24 else 0) ++ le 1 (b2n l.out) ++ le 1 (packBits [l.converged, l.window, l.implausible]) ++
  leI 4 l.y ++ leI 4 l.yp ++ leI 4 l.res ++ le 1 l.run ++ le 1 0 ++ le 2 l.conv ++ le 4 l.count ++ le 4 l.onCount ++
  le 6 l.entry ++ le 10 0

/-- The context of a thermal loop (Tables 10-6, 10-7). -/
def ThermLoop.bytes (l : ThermLoop) : Bytes :=
  le 4 (l.dwell + 256 * l.outsel + 65536 * l.input + 2 ^ 25 * l.fail + 2 ^ 27 * b2n l.lowering +
    2 ^ 29 * b2n l.on) ++
  leI 4 l.sp ++ leI 4 l.band ++ le 10 0 ++ le 1 (b2n l.out) ++
  le 1 (packBits [false, false, false, l.invalid, l.failed]) ++ leI 4 l.y ++ leI 4 l.yp ++ le 8 0 ++ le 4 l.count ++
  le 4 l.onCount ++ le 6 l.entry ++ le 2 0 ++ leI 4 l.hi ++ leI 4 l.lo

/-- `LOOP_STATUS` of loop `l`: its context at pulse 999 of the last frame. -/
def State.objLoop (s : State) (l : Nat) : Bytes :=
  if l < 16 then (tget s.power.loops999 l).bytes else (tget s.power.therm999 l).bytes

/-- `PP_TO_STATUS`. -/
def State.objOutputs (s : State) : Bytes :=
  (upFrom 0 16).flatMap (fun o =>
    let x := tget s.power.out o
    le 1 (b2n x.on + 2 * x.faults.toNat))

end Sys2Proof.Machine
end

