-- ==== Sys2Proof/Machine/Graze.lean ====
section
/-! DEFINITION. Graze (chapter 12): the module thermal model, the throttling ladder, the elastic level, admission,
budgets, the balancing plan (R159) and the string roster; the overrun runs of R39. -/

namespace Sys2Proof.Machine

/-! ### Overrun runs (R36, R39) -/

/-- Kinds of `TIME_OVERRUN` (Table 2-10). -/
inductive OverrunKind where
  | eland | envelope | output | journal
  deriving DecidableEq, Repr, Inhabited

/-- Code of a kind, 1 to 4. -/
def OverrunKind.code : OverrunKind → Nat
  | .eland => 1
  | .envelope => 2
  | .output => 3
  | .journal => 4

/-- Length of the present run of a kind. -/
def State.runOf (s : State) : OverrunKind → Nat
  | .eland => s.time.runEland
  | .envelope => s.time.runEnvelope
  | .output => s.time.runOutput
  | .journal => s.time.runJournal

/-- Set the length of a run. -/
def State.setRun (s : State) (n : Nat) : OverrunKind → State
  | .eland => { s with time.runEland := n }
  | .envelope => { s with time.runEnvelope := n }
  | .output => { s with time.runOutput := n }
  | .journal => { s with time.runJournal := n }

/-- The kind has overrun in the present frame. -/
def State.overran (s : State) (k : OverrunKind) : Bool := s.time.overrunNow.getLsbD (k.code - 1)

/-- Count an overrun of the present frame, with `TIME_OVERRUN` in the first frame of a run (R39). -/
def State.overrun (s : State) (k : OverrunKind) : State :=
  if s.overran k then s
  else
    let n := sat32u (s.runOf k + 1)
    let s1 := s.evIf (decide (s.runOf k = 0)) 0x0206
      (le 1 k.code ++ [0] ++ le 4 n ++ le 2 (if k = .eland then s.est.stale else 0))
    ({ s1 with time.overrunNow := s1.time.overrunNow ||| ((1 : BitVec 4) <<< (k.code - 1)) }).setRun n k

/-- End a run in the first frame without overrun (R39). -/
def State.overrunEnd (s : State) (k : OverrunKind) : State :=
  if s.overran k || decide (s.runOf k = 0) then s
  else (s.ev 0x0206 (le 1 k.code ++ [1] ++ le 4 (s.runOf k) ++ [0, 0])).setRun 0 k

/-- ELAND_OVERRUN (R36, R193): at pulse 900 Eland has stopped with cells unreached. -/
def execElandOverrun (s : State) : Host.Outcome State Fault Refusal :=
  let s0 := (s.atP 900).overrun .eland
  ok { s0 with est.lastOverrun := some s0.now, grz.elasticUp := true }

/-- JOURNAL_COMMIT_OVERRUN (R36): records not committed by pulse 999 stay queued in order. -/
def execJournalCommitOverrun (s : State) : Host.Outcome State Fault Refusal :=
  let s0 := s.atP 999
  ok (if s0.jnl.queue = [] then s0 else s0.overrun .journal)

/-! ### Sensors and the module thermal model (R363 to R365) -/

/-- GRZ_SENSOR (R364): a sensor fails or is restored. -/
def execGrzSensor (p : Pulse) (sensor : SensorId) (failed : Bool) (s : State) : Host.Outcome State Fault Refusal :=
  let s0 := s.atP p.val
  let st : Byte := if failed then 0x01 else 0x80
  ok (match sensor with
    | .rail r =>
      if has s0.grz.railFail r.val = failed then s0
      else { s0.ev 0x0D04 ([1] ++ le 1 r.val ++ [st]) with grz.railFail := putBit s0.grz.railFail r.val failed }
    | .diode d =>
      if s0.grz.diodeFail.getLsbD d.val = failed then s0
      else
        let bit : BitVec 4 := (1 : BitVec 4) <<< d.val
        { s0.ev 0x0D04 ([2] ++ le 1 d.val ++ [st]) with
          grz.diodeFail := if failed then s0.grz.diodeFail ||| bit else s0.grz.diodeFail &&& ~~~bit }
    | .base =>
      if s0.grz.baseFail = failed then s0
      else { s0.ev 0x0D04 [3, 0, st] with grz.baseFail := failed })

/-- The maximum of each rail for R364 (Table 21-3), mW. -/
def railMax : List Int := [6000, 1000, 4500, 3000, 3500, 4500, 3000, 3000, 4500, 6000]

/-- Dissipation of the frame, mW (R363, R364). -/
def State.dissipation (s : State) (x : Sensors) : Int :=
  sumL ((upFrom 0 10).map (fun r => if has s.grz.railFail r then nthI railMax r else nthI x.rails r))

/-- The cold-plate maximum of the order code (Table 0-1), 0.01 °C. -/
def State.coldPlateMax (s : State) : Int := if (s.sys.orderCode[8]?).getD 0 = 0x58 then 8500 else 7000

/-- The base temperature in use (R364). -/
def State.baseTemp (s : State) (x : Sensors) : Int := if s.grz.baseFail then s.coldPlateMax else x.base

/-- The highest diode reading, a failed diode at 100.00 °C (R364). -/
def State.diodeTemp (s : State) (x : Sensors) : Int :=
  maxL 0 ((upFrom 0 4).map (fun d => if s.grz.diodeFail.getLsbD d then 10000 else nthI x.diodes d))

/-- Keep the values of the last 4 frames. -/
def keepFrames (now : Nat) (l : List (Nat × Int × Int)) : List (Nat × Int × Int) :=
  l.filter (fun x => decide (now < x.1 + 4))

/-- A module's value of a frame. -/
def valueOf (l : List (Nat × Int × Int)) (f : Nat) : Option (Int × Int) := (l.find? (fun x => decide (x.1 = f))).map (·.2)

/-- The pair value that acts from the next frame: the higher of both modules' values of the frame before (R365); a
module without a synchronised peer uses its own. -/
def State.pairValue (s : State) (own : Int × Int) : Int × Int :=
  if s.inPair then
    match valueOf s.grz.own (s.now - 1), valueOf s.grz.peer (s.now - 1) with
    | some a, some b => (max a.1 b.1, max a.2 b.2)
    | some a, none => a
    | none, _ => own
  else own

/-- JUNCTION_MODEL (R363): at frame closure, T_m, T_j, and the pair value. -/
def State.junction (s : State) (x : Sensors) : State :=
  let base := s.baseTemp x
  let tss := base + divRound (s.dissipation x * s.grz.cfg.rjb) 1000
  let tm := s.grz.tm + muldiv (tss * 4294967296 - s.grz.tm) (phi 1 1000000 (1000 * s.grz.cfg.tauJ)) 4294967296
  let diode := s.diodeTemp x
  let tj := sat16 (max (divRound tm 4294967296) diode)
  let s1 := { s with grz.own := (s.now, tj, s.psv.pin) :: keepFrames s.now s.grz.own, grz.peer := keepFrames s.now s.grz.peer }
  let v := s1.pairValue (tj, s.psv.pin)
  { s1 with
    grz.tm := tm, grz.tBase := base, grz.diode := diode, grz.tj := tj, grz.tjPair := v.1,
    grz.power := (v.2 :: s1.grz.power).take 100, grz.powerSec := s1.grz.powerSec + v.2 }

/-- T_m at the end of Fill (R363): T_base, or 125.00 °C under a Safe latch of cause 0x03. -/
def State.junctionFill (s : State) : State :=
  { s with grz.tm := (if s.jnl.safeLatch = 0x03 then 12500 else s.grz.tBase) * 4294967296 }

/-! ### The throttling ladder (R366) -/

/-- Thresholds of Table 12-5, rung 1 first, 0.01 °C. -/
def rungAt : List Int := [10000, 10500, 11000, 11500, 12500]

/-- A rung is in force with a temperature, given the present rung. -/
def rungOn (rung r : Nat) (t : Int) : Bool :=
  let a := nthI rungAt (r - 1)
  decide (a ≤ t) || (decide (r ≤ rung) && decide (a - 500 < t))

/-- The rung for the pair value and the module's own T_j. -/
def rungOf (rung : Nat) (pair own : Int) : Nat :=
  if rungOn rung 5 own then 5
  else ((upFrom 1 4).filter (fun r => rungOn rung r pair)).foldl max 0

/-- THROTTLE_RUNG (R366): at frame closure, the rung of the next frame. -/
def State.throttle (s : State) : State := { s with grz.rungNext := rungOf s.grz.rung s.grz.tjPair s.grz.tj }

/-- A change of the elastic level with `GRZ_ELASTIC` (R367). -/
def State.setElastic (s : State) (r cause : Nat) : State :=
  if r = s.grz.elastic then s
  else { s.ev 0x0D03 (le 1 s.grz.elastic ++ le 1 r ++ le 1 cause) with grz.elastic := r }

/-- The rung and the elastic level at a frame boundary (R366, R367); rung 5 is Safe with cause 0x03. -/
def State.rungApply (s : State) : State :=
  let old := s.grz.rung
  let new := s.grz.rungNext
  let s1 : State := if new = old then s
    else { s.ev 0x0D02 (le 1 old ++ le 1 new ++ leI 2 s.grz.tj ++ leI 2 s.grz.tjPair) with grz.rung := new }
  let s2 : State :=
    if s1.grz.elasticUp then
      { s1.setElastic (min 3 (s1.grz.elastic + 1)) 1 with grz.elasticUp := false, grz.elasticClean := 0 }
    else { s1 with grz.elasticClean := s1.grz.elasticClean + 1 }
  let s3 := if 4 ≤ new then s2.setElastic (max 2 s2.grz.elastic) 3 else s2
  if new = 5 ∧ old ≠ 5 then s3.enterSafe 0x03 0 else s3

/-- The elastic level at a second boundary: raised when the mean input power of the second exceeded the budget
(R367). -/
def State.elasticPower (s : State) : State :=
  let s1 : State := { s with grz.powerSec := 0 }
  if (1000 * s.grz.cfg.pBudget : Nat) < s.grz.powerSec then
    { s1.setElastic (min 3 (s1.grz.elastic + 1)) 2 with grz.elasticClean := 0 }
  else s1

/-- ELASTIC_RECOVERY (R367): 10,000 frames with neither cause lower the level by 1, not below 2 on rung 4. -/
def execElasticRecovery (p : Pulse) (s : State) : Host.Outcome State Fault Refusal :=
  let s0 := s.atP p.val
  let low := if 4 ≤ s0.grz.rung then 2 else 0
  ok (if 10000 ≤ s0.grz.elasticClean ∧ low < s0.grz.elastic then
      { s0.setElastic (s0.grz.elastic - 1) 0x80 with grz.elasticClean := 0 }
    else s0)

/-- A string is guarded (R367). -/
def State.guarded (s : State) (k : Nat) : Bool :=
  s.connecting k || (tget s.est.str k).excursion.isSome || s.tierCell k || s.tierOther k

/-- E_g of Table 12-6. -/
def State.elasticInterval (s : State) (k : Nat) : Nat :=
  if s.guarded k then 1
  else match s.grz.elastic with
    | 0 => 1
    | 1 => if 36000 * (s.pp k).icur.at10.natAbs < s.qDesign then 10 else 1
    | 2 => 10
    | _ => 100

/-- The conversion interval of a tier in frames (Table 6-2). -/
def tierInterval (tier : Nat) : Nat := if tier = 0 then 1 else if tier = 1 then 10 else 100

/-- The estimation interval of a string at a frame boundary: a change takes effect at a multiple of the new E (R367). -/
def State.intervalApply (s : State) (k : Nat) : State :=
  let e := max (tierInterval (s.tierUsed k)) (s.elasticInterval k)
  if s.now % e = 0 then { s with est.str := tmod s.est.str k (fun x => { x with interval := e }) } else s

/-! ### Admission (R368) -/

/-- P_lim of R368, W. -/
def State.pLim (s : State) : Int :=
  (s.grz.cfg.pBudget : Int) - s.grz.cfg.pReserve - (if s.psv.charging then 6 else 0)

/-- Mean input power of the last 100 frames, W. -/
def State.pMean (s : State) : Int := divRound (sumL s.grz.power) s.grz.power.length

/-- GRAZE_ADMIT (R368): deferrable work of the next frame. -/
def State.grazeAdmit (s : State) : State :=
  { s with grz.admitNext :=
      decide (s.mode.mode ≠ .fill) && decide (s.mode.mode ≠ .load) && s.psv.loss.isNone && decide (s.grz.rungNext < 3) &&
        decide (sumL s.grz.power ≤ s.pLim * s.grz.power.length) && !s.overran .eland && !s.overran .envelope }

/-! ### Budgets (R369) and the balancing plan (R159) -/

/-- The coolant budget is valid: an `HVAC_BUDGET` arrived within 1 s. -/
def State.hvacValid (s : State) : Bool :=
  match s.grz.hvacFrame with
  | some f => decide (s.now < f + 1000)
  | none => false

/-- H_cool × `GRZ_COOL_PCT` ÷ 100, mW. -/
def State.heatBudget (s : State) : Int := muldiv s.grz.hCool s.grz.cfg.coolPct 100

/-- BALANCE_BUDGET (R369) at a second boundary. -/
def State.balanceBudget (s : State) : State :=
  let top : Int := min 4000 (s.grz.cfg.balMax : Int)
  let cells := sumL (s.strings.flatMap (fun k => (s.modelled k).map (fun g => (tget s.cells g).pw)))
  let n := ((allPorts.filter s.grz.balPorts.getLsbD).length : Int)
  let b := if s.hvacValid then min top (divRound (max 0 (s.heatBudget - cells)) (max 1 n)) else top
  { s with grz.balFe := b.toNat, grz.balPorts := 0 }

/-- A cell judged for the balancing plan: present, not flagged `WIRE` or `BLK` (R159). -/
def State.balJudged (s : State) (g : Nat) : Bool :=
  let f := (tget s.cells g).flags
  !f.getLsbD 3 && !f.getLsbD 7

/-- Lowest SoC of a string for R159. -/
def State.balLow (s : State) (k : Nat) : Nat :=
  (minL 0xFFFFFFFF (((s.cellsOf k).filter s.balJudged).map (fun g => ((tget s.cells g).soc : Int)))).toNat

/-- Lowest SoC plus `MEAS_BAL_BAND`, Q0.32. -/
def State.balEdge (s : State) (k : Nat) : Nat := s.balLow k + (muldiv s.meas.cfg.balBand 4294967296 1000).toNat

/-- The string may be balanced: enabled, no survey, every judged cell holds an estimate of this start (R159). -/
def State.balMay (s : State) (k : Nat) : Bool :=
  s.meas.cfg.balEn && (s.str k).survey.isNone && decide (s.mode.mode ≠ .survey) &&
    ((s.cellsOf k).filter s.balJudged).all (fun g => (tget s.aux g).init)

/-- The front end is under test in the next frame (R160, R161): a test runs on, or one is to start. -/
def State.testNext (s : State) (p : Nat) : Bool :=
  (match (tget s.meas.fe p).test with
    | some t => decide (s.now + 1 < t.start + 3)
    | none => false) ||
  (s.testsDue (strOfPort p) p).any (fun f => decide (f = s.now + 1))

/-- A neighbour, c − 2 or c + 1, of the pair beside a declared inner wire Wc (R165). -/
def State.besidePair (s : State) (g : Nat) : Bool :=
  let p := g / 64
  let c := g % 64
  s.innerWire p (c + 2) || (decide (1 ≤ c) && s.innerWire p (c - 1))

/-- A cell that R159 would balance, its front end's budget apart. -/
def State.balWanted (s : State) (k g : Nat) : Bool :=
  let x := tget s.cells g
  decide (s.balEdge k < x.soc) && decide (s.prot.cfg.lim.uvTrip + 1000 * (s.meas.cfg.guard : Int) ≤ (tget s.mkCell g).v) &&
    !x.flags.getLsbD 3 && !s.besidePair g

/-- Expected dissipation of a balanced cell, µW: its voltage squared over `MEAS_BAL_R`. -/
def State.balPower (s : State) (g : Nat) : Int := divRound ((tget s.cells g).v ^ 2) (100000 * (s.meas.cfg.balR : Int))

/-- The planned request of a front end: cells by descending SoC, then ascending index, within its budget (R159). -/
def State.balRequest (s : State) (p : Nat) : BitVec 64 :=
  let k := strOfPort p
  if !s.balMay k || s.testNext p then 0
  else
    let gs := (upFrom (cellIx p 0) (s.cellsOn p)).filter (s.balWanted k)
    let order := topBy 64 (fun g => ((tget s.cells g).soc : Int)) gs
    let cap : Int := 1000 * min 4000 (s.grz.balFe : Int)
    (order.foldl (fun (a : BitVec 64 × Int) g =>
      let w := a.2 + s.balPower g
      if w ≤ cap then (a.1 ||| ((1 : BitVec 64) <<< (g - cellIx p 0)), w) else a) (0, 0)).1

/-- BALANCE_PLAN (R159): the requests of the next frame's `CONTROL`. -/
def State.balancePlan (s : State) : State :=
  s.fittedPorts.foldl (fun u p =>
    let r := s.balRequest p
    let v := u.modLnk p (fun l => { l with balPlan := r })
    if r = 0 then v else { v with grz.balPorts := v.grz.balPorts ||| ((1 : BitVec 128) <<< p) }) s

/-- The `BAL_TARGET` words of a front end's channels before `SLEEP` (R159), in µV. -/
def State.balTargets (s : State) (p : Nat) : List Word :=
  let k := strOfPort p
  let soc := min (s.balEdge k) 0xFFFFFFFF
  (upFrom 0 (s.cellsOn p)).map (fun c =>
    let g := cellIx p c
    if s.balMay k && s.balWanted k g then
      BitVec.ofInt 32 (s.chem.ocvOf false soc (s.chem.tempPos (s.coreTemp g)))
    else 0x00FFFFFF)

/-! ### The roster (R370, R371) -/

/-- The container demand of R370: that of the latest valid `PCS_STATE` while the PCS is reachable (R453). -/
def State.pcsDemandNow (s : State) : Option Int :=
  match s.bus.demand with
  | some (f, v) => if !s.bus.unreachable ∧ s.now ≤ f + s.bus.cfg.pcsTimeout then some v else none
  | none => none

/-- The demand d of the roster. -/
def State.demandNow (s : State) : Int :=
  (s.pcsDemandNow).getD (divRound (sumL s.grz.mean60) s.grz.mean60.length)

/-- The mean container current of the second that ends joins the last 60 (R370). -/
def State.meanTake (s : State) : State :=
  let i := sumL (s.strings.map (fun k => sumL ((s.pp k).means.map (·.2.1))))
  { s with grz.mean60 := (divRound i 1000000 :: s.grz.mean60).take 60 }

/-- A HELD string under `INH_CHG` is off the roster while the demand charges (R371). -/
def State.chargeExcluded (s : State) (d : Int) (k : Nat) : Bool :=
  decide (0 < d) && decide ((s.str k).state = .held) && (s.actUnion k).getLsbD 2

/-- The string is available (R370). -/
def State.available (s : State) (d : Int) (k : Nat) : Bool :=
  (s.onBus k || (decide ((s.str k).state = .opened) && has s.mode.enabled k &&
    decide ((s.str k).retry < s.mode.cfg.connectRetries))) &&
    !(s.herdActions k).getLsbD 2 && !s.chargeExcluded d k

/-- Highest core temperature of a string, 0.01 °C (`THM_TC_MAX`). -/
def State.tcMax (s : State) (k : Nat) : Int := centi (maxL 0 ((s.modelled k).map (fun g => (tget s.cells g).tc)))

/-- Least `k`, from a first value, up to `n`, at which a test fails. -/
def growUntil (n : Nat) (more : Nat → Bool) : Nat → Nat → Nat
  | 0, k => k
  | fuel + 1, k => if k < n ∧ more k then growUntil n more fuel (k + 1) else k

/-- The result of the roster computation. -/
structure Roster where
  /-- available strings in roster order -/
  order : List Nat := []
  /-- cool strings in roster order -/
  cool : List Nat := []
  /-- hot strings in roster order -/
  hot : List Nat := []
  /-- the wanted set in roster order -/
  want : List Nat := []
  /-- cool strings wanted for demand alone -/
  kCap : Nat := 0
  /-- cool strings wanted -/
  k : Nat := 0
  /-- heat of the cool strings wanted, mW -/
  heat : Int := 0
  deriving DecidableEq, Repr, Inhabited

/-- The roster for a demand (R370). -/
def State.rosterOf (s : State) (d : Int) : Roster :=
  let soc (k : Nat) : Int := s.meanSoc (s.judgedCells k)
  let order := topBy 16 (fun k => if d < 0 then soc k else -(soc k)) (s.strings.filter (s.available d))
  let cool := order.filter (fun k => decide (s.tcMax k < s.grz.cfg.tRest))
  let hot := order.filter (fun k => decide (s.grz.cfg.tRest ≤ s.tcMax k))
  let need := muldiv (d.natAbs : Int) (100 + s.grz.cfg.demandMargin) 100
  let pot (k : Nat) : Int := let x := tget s.dsp.str k; nthI (if 0 < d then x.potC else x.potD) 2
  let cap (ks : List Nat) : Int := muldiv (sumL (ks.map pot)) s.grz.cfg.sharePct 100
  let heat (n : Nat) : Int :=
    let i := divRound (d.natAbs : Int) n
    sumL ((cool.take n).map (fun k => divRound (i * i * s.rString k) 1000000000000))
  let n := cool.length
  let first := min s.grz.cfg.minServe n
  let short (k : Nat) : Bool := decide (cap (cool.take k) < need)
  let hotter (k : Nat) : Bool := s.hvacValid && decide (s.heatBudget < heat k)
  let kCap := growUntil n short 16 first
  let k := growUntil n (fun k => short k || hotter k) 16 first
  let w1 := hot.foldl (fun w j => if cap w < need then w ++ [j] else w) (cool.take k)
  let w2 := w1 ++ (s.strings.filter (fun j => (tget s.est.str j).excursion.isSome && !w1.contains j))
  { order := order, cool := cool, hot := hot, want := w2, kCap := kCap, k := k, heat := heat k }

/-- The dwell of a string has passed at a frame (R371). -/
def State.dwellOver (s : State) (f k : Nat) : Bool :=
  match (s.str k).dwellFrom with
  | some a => decide (a + 1000 * s.grz.cfg.dwell ≤ f)
  | none => true

/-- The changes of a roster (R371): admissions first, then rests, in roster order, after dwell, up to the limit. -/
def State.rosterChanges (s : State) (d : Int) (r : Roster) : List RosterChange :=
  let f := s.now + 1
  let admits := (r.want.filter (fun k => decide ((s.str k).state = .opened))).map (fun k =>
    let cause := if !r.order.contains k then 6 else if r.hot.contains k then 3
      else if (r.cool.take r.kCap).contains k then 1 else if (r.cool.take r.k).contains k then 2 else 6
    ({ s := k, join := true, cause := cause } : RosterChange))
  let others := r.order ++ s.strings.filter (fun k => !r.order.contains k)
  let rests := (others.filter (fun k => s.onBus k && !r.want.contains k && s.lowCurrent k (s.pp k).icur.at10 &&
      !s.chargeExcluded d k)).map (fun k =>
    let cause := if (s.herdActions k).getLsbD 2 then 4 else if r.hot.contains k then 3 else 1
    ({ s := k, join := false, cause := cause } : RosterChange))
  ((admits ++ rests).filter (fun c => s.dwellOver f c.s)).take s.grz.cfg.maxChanges

/-- The container serves by the roster: Serve with `MODE_TARGET` clear. -/
def State.rosterRuns (s : State) : Bool := decide (s.mode.mode = .serve) && s.mode.target.isNone

/-- ROSTER_COMPUTE (R370): in frame 1,000 N − 1, the roster of second N. -/
def execRosterCompute (p : Pulse) (s : State) : Host.Outcome State Fault Refusal :=
  let s0 := s.atP p.val
  ok (if s0.now % 1000 = 999 ∧ 820 ≤ p.val ∧ p.val ≤ 950 ∧ s0.rosterRuns then
      let d := s0.demandNow
      if 360000 * d.natAbs < s0.qDesign * s0.strings.length then
        { s0 with grz.demand := d, grz.changes := [], grz.rosterDue := none }
      else
        let r := s0.rosterOf d
        { s0 with
          grz.demand := d, grz.hPred := r.heat, grz.serve := r.want.foldl withBit 0,
          grz.changes := s0.rosterChanges d r, grz.rosterDue := some (s0.now + 1) }
    else s0)

/-- A roster change is journaled as `GRZ_ROSTER`. -/
def State.rosterEvent (s : State) (k : Nat) (join : Bool) (cause : Nat) : State :=
  s.ev 0x0D01 (le 1 k ++ le 1 (b2n !join) ++ le 1 (b2n join) ++ le 1 cause ++ leI 4 s.grz.demand)

/-- Rest one string: row 8 of Table 3-9 by R371. -/
def State.rosterRest (s : State) (k cause : Nat) : State :=
  if s.onBus k then
    let s1 := ((s.rosterEvent k false cause).orderOpen k .roster s.now).openNow k
    { s1 with grz.rest := withBit s1.grz.rest k }
  else s

/-- Admit one string: row 9 of Table 3-9, its connect starts (R285). -/
def State.rosterAdmit (s : State) (k cause : Nat) : State :=
  if (s.str k).state = .opened ∧ !s.voided k 9 ∧ has s.mode.enabled k ∧ (s.str k).retry < s.mode.cfg.connectRetries ∧
      s.psv.loss.isNone ∧ !s.bus.unreachable then
    let s1 := (s.rosterEvent k true cause).modStr k (fun x => { x with dwellFrom := some s.now })
    { s1.connectStart k with grz.rest := withoutBit s1.grz.rest k }
  else s

/-- ROSTER_APPLY (R371) at pulse 0: the charge-inhibit exception, then the changes due in this frame. -/
def State.rosterApply (s : State) : State :=
  if !s.rosterRuns then { s with grz.changes := [], grz.rosterDue := none }
  else
    let out := s.strings.filter (fun k => s.chargeExcluded s.grz.demand k && s.lowCurrent k (s.pp k).icur.at10)
    let s1 := out.foldl (fun u k => u.rosterRest k 5) s
    if s1.grz.rosterDue = some s1.now then
      let s2 := s1.grz.changes.foldl (fun u (c : RosterChange) =>
        if c.join then u.rosterAdmit c.s c.cause else u.rosterRest c.s c.cause) s1
      { s2 with grz.changes := [], grz.rosterDue := none, grz.rosterFrame := s2.now }
    else s1

/-! ### Status object (Table 12-14) -/

/-- Deferrable items waiting. -/
def State.grzQueue (s : State) : Nat :=
  satN 255 (b2n s.herd.sweep.isSome + b2n s.site.snapshot.isSome + s.site.history.length +
    ([JournalId.safety, .event, .audit].filter (fun j => decide (64 ≤ (s.unextracted j).length))).length)

/-- `GRZ_STATUS` (Table 12-14). -/
def State.objGraze (s : State) : Bytes :=
  let g := s.grz
  leI 2 g.tj ++ leI 2 g.tjPair ++ leI 2 g.tBase ++ le 1 g.rung ++ le 1 g.elastic ++ leI 4 s.pMean ++ leI 4 s.pLim ++
    leI 4 (if s.hvacValid then g.hCool else 0) ++ leI 4 (sat32 g.hPred) ++ leI 4 (sat32 g.demand) ++
    le 2 g.serve.toNat ++ le 2 g.rest.toNat ++ le 2 g.balFe ++
    le 1 (packBits [g.admitted, decide (g.railFail ≠ 0), decide (g.diodeFail ≠ 0), g.baseFail, s.psv.charging,
      s.psv.loss.isSome, !s.hvacValid]) ++
    le 1 s.grzQueue ++ le 4 g.shed ++ le 6 g.rosterFrame ++ [0, 0]

end Sys2Proof.Machine
end

