-- ==== Sys2Proof/Machine/Can.lean ====
section
/-! DEFINITION. The container bus (chapter 15): controllers, rate detection, transmit objects, received messages, the
lone node, an unreachable PCS; and the taking of the input items assigned to a frame (R385). -/

namespace Sys2Proof.Machine

/-! ### Controllers (R447, R448, R463) -/

/-- Controller `c`: 0 CAN-A, 1 CAN-B. -/
def State.ctl (s : State) (c : Nat) : CanCtl := if c = 0 then s.bus.a else s.bus.b

/-- Change controller `c`. -/
def State.modCtl (s : State) (c : Nat) (f : CanCtl → CanCtl) : State :=
  if c = 0 then { s with bus.a := f s.bus.a } else { s with bus.b := f s.bus.b }

/-- The controller is enabled in `CAN_POLICY`. -/
def State.ctlOn (s : State) (c : Nat) : Bool := if c = 0 then s.bus.cfg.aEn else s.bus.cfg.bEn

/-- Own node of the module (Table 15-10). -/
def State.ownNode (s : State) : Nat :=
  match s.sys.slot with
  | .a => s.bus.cfg.nodeA
  | .b => s.bus.cfg.nodeB

/-- Node of the peer. -/
def State.peerNode (s : State) : Nat :=
  match s.sys.slot with
  | .a => s.bus.cfg.nodeB
  | .b => s.bus.cfg.nodeA

/-- Controller state code (Table 15-2). -/
def CanState.code : CanState → Nat
  | .off => 0
  | .detect => 1
  | .run => 2
  | .lone => 3
  | .busoff => 4

/-- Transmit object state code (Table 15-7). -/
def TxState.code : TxState → Nat
  | .idle => 0
  | .waiting => 1
  | .sending => 2
  | .undelivered => 3
  | .disabled => 4

/-- `CAN_RATES` (Table 15-11). -/
def CanCtl.rates (x : CanCtl) : Nat := x.data + 16 * x.nom + 64 * b2n x.detected

/-- The candidate pairs of rate detection in order: the configured pair, then the mask in ascending bits (R447). -/
def CanCfg.pairs (c : CanCfg) : List (Nat × Nat) :=
  (c.nom, c.data) :: ((upFrom 0 24).filter c.cand.getLsbD).map (fun b => (b / 6, b % 6))

/-- An UNDELIVERED content of an object: counted, journaled when it is the first after a delivered one (R469). -/
def State.undeliver (s : State) (c o frame : Nat) : State :=
  let x := tget (s.ctl c).obj o
  (s.evIf (!x.undelivered) 0x1003 (le 1 c ++ le 1 o ++ le 6 frame)).modCtl c (fun y =>
    { y with nDrop := sat32u (y.nDrop + 1), obj := tmod y.obj o (fun z => { z with undelivered := true }) })

/-- The controller leaves RUN: every object that is not DISABLED goes IDLE; command content counts UNDELIVERED
(Table 15-7). -/
def State.dropObjects (s : State) (c : Nat) : State :=
  let x := tget (s.ctl c).obj 1
  let s1 := (x.cur.toList ++ x.next.toList).foldl (fun u (k : CanContent) => u.undeliver c 1 k.frame) s
  s1.modCtl c (fun y =>
    { y with obj := tmap y.obj (fun _ z =>
        if z.state = .disabled then z else { undelivered := z.undelivered }) })

/-- Change a controller's state with `CAN_STATE_CHANGE`; the change is an input item (R463). -/
def State.setCtl (s : State) (c : Nat) (new : CanState) (cause : Nat) : State :=
  let old := s.ctl c
  let s0 := if old.state = .run then s.dropObjects c else s
  let s1 := s0.modCtl c (fun y =>
    { y with
      state := new, ackRun := 0,
      cand := 0, good := 0, brs := false, candFrom := s.now,
      detectFrom := if new = .detect then s.now else y.detectFrom,
      tatDue := y.tatDue || (decide (new = .run) && decide (s.mode.mode = .survey)) })
  let s2 := s1.ev 0x1001 (le 1 c ++ le 1 old.state.code ++ le 1 new.code ++ le 1 cause ++ le 1 (s1.ctl c).rates)
  s2.itemIn { id := BitVec.ofNat 32 (0xFFFFFF00 + 16 * s.sys.slot.code + c), seq := s.now * 1000 + s.time.pulse,
              frame := s.now,
              body := .ctl s.sys.slot c new (decide ((tget (s.ctl c).obj 1).state ≠ .disabled)) }

/-- The controllers at the end of Load (Table 15-2). -/
def State.canStart (s : State) (c : Nat) : State :=
  if !s.ctlOn c then s
  else
    let s1 := s.modCtl c (fun _ => { nom := s.bus.cfg.nom, data := s.bus.cfg.data, lastRx := some s.clockUs })
    if s.bus.cfg.detectEn then s1.setCtl c .detect 0 else s1.setCtl c .run 0

/-- CAN_DETECT_DWELL (R447): the pair on trial has been held `CAN_DWELL`; the next is tried. -/
def execCanDetectDwell (p : Pulse) (ctl : Fin 2) (s : State) : Host.Outcome State Fault Refusal :=
  let s0 := s.atP p.val
  let x := s0.ctl ctl.val
  ok (if x.state = .detect ∧ x.candFrom + 100 * s0.bus.cfg.dwell ≤ s0.now then
      s0.modCtl ctl.val (fun y =>
        { y with cand := (y.cand + 1) % s0.bus.cfg.pairs.length, good := 0, brs := false, candFrom := s0.now })
    else s0)

/-- CAN_DETECT_ACCEPT (R447): three consecutive frames without error, one with BRS where the data code asks for it. -/
def execCanDetectAccept (p : Pulse) (ctl : Fin 2) (s : State) : Host.Outcome State Fault Refusal :=
  let s0 := s.atP p.val
  let x := s0.ctl ctl.val
  let pr := (s0.bus.cfg.pairs[x.cand]?).getD (s0.bus.cfg.nom, s0.bus.cfg.data)
  ok (if x.state = .detect ∧ 3 ≤ x.good ∧ (pr.2 = 0 ∨ x.brs) then
      (s0.modCtl ctl.val (fun y => { y with nom := pr.1, data := pr.2, detected := true })).setCtl ctl.val .run 1
    else s0)

/-- CAN_DETECT_TIMEOUT (R447): the configured pair is taken. -/
def execCanDetectTimeout (p : Pulse) (ctl : Fin 2) (s : State) : Host.Outcome State Fault Refusal :=
  let s0 := s.atP p.val
  let x := s0.ctl ctl.val
  ok (if x.state = .detect ∧ x.detectFrom + 1000 * s0.bus.cfg.detectTo ≤ s0.now then
      (s0.modCtl ctl.val (fun y =>
        { y with nom := s0.bus.cfg.nom, data := s0.bus.cfg.data, detected := false })).setCtl ctl.val .run 2
    else s0)

/-- CAN_BUS_OFF (R448). -/
def execCanBusOff (p : Pulse) (ctl : Fin 2) (s : State) : Host.Outcome State Fault Refusal :=
  let s0 := s.atP p.val
  let x := s0.ctl ctl.val
  ok (if x.state = .run ∨ x.state = .lone then
      (s0.setCtl ctl.val .busoff 5).modCtl ctl.val (fun y => { y with tec := 255, nBusOff := sat32u (y.nBusOff + 1) })
    else s0)

/-- CAN_BUSOFF_RECOVERED (R448). -/
def execCanBusoffRecovered (p : Pulse) (ctl : Fin 2) (s : State) : Host.Outcome State Fault Refusal :=
  let s0 := s.atP p.val
  let x := s0.ctl ctl.val
  ok (if x.state = .busoff then
      (s0.modCtl ctl.val (fun y => { y with tec := 0, rec_ := 0 })).setCtl ctl.val
        (if s0.bus.cfg.detectEn then .detect else .run) 6
    else s0)

/-- CAN_LONE (R464): 16 attempts failed with an ACK error, and no frame for 100 ms. -/
def execCanLone (p : Pulse) (ctl : Fin 2) (s : State) : Host.Outcome State Fault Refusal :=
  let s0 := s.atP p.val
  let x := s0.ctl ctl.val
  let silent : Bool := match x.lastRx with
    | some u => decide (u + 100000 ≤ s0.clockUs)
    | none => true
  ok (if x.state = .run ∧ 16 ≤ x.ackRun ∧ silent then s0.setCtl ctl.val .lone 3 else s0)

/-! ### Transmission (R449 to R457, R462) -/

/-- Message number, class, priority and padded length of transmit object `o` (Table 15-5, R455). -/
def txMessage (o : Nat) : Nat × Nat × Nat × Nat :=
  match o with
  | 0 => (0x001, 0, 0, 32)
  | 1 => (0x010, 1, 1, 64)
  | 2 => (0x011, 2, 3, 32)
  | 3 => (0x020, 2, 4, 64)
  | 4 => (0x021, 2, 4, 64)
  | 5 => (0x022, 2, 4, 64)
  | _ => (0x03F, 2, 7, 12)

/-- The identifier of an object (Table 15-3). -/
def State.txIdent (s : State) (o : Nat) : Nat :=
  let m := txMessage o
  m.1 + 1024 * s.ownNode + 65536 * s.sys.container + 2 ^ 24 * m.2.1 + 2 ^ 26 * m.2.2.1

/-- `CAN_SEQ` of the output of object `o` queued in this frame (R462). A message is queued once in a frame, but for the
`MODULE_STATE` of transmit-at-time at pulse 500 (R461), which takes the first place before the periodic one. -/
def State.canSeq (s : State) (o : Nat) : Nat :=
  let j := b2n (decide (o = 2) && decide (s.bus.stateAt = some s.now) && decide (500 < s.time.pulse))
  (s.now % 16384 * 4 + j) % 65536

/-- A payload of the module: header, body, padding (R450). -/
def State.canPayload (s : State) (o : Nat) (pairOut : Bool) (body : Bytes) : Bytes :=
  padTo (txMessage o).2.2.2 (le 1 s.ownNode ++ le 1 (packBits [!s.time.aligned, s.degradedFlag, pairOut]) ++
    le 2 (s.canSeq o) ++ le 2 (s.now % 65536) ++ le 4 (crc32c body).toNat ++ body)

/-- A content meets an object (Table 15-7); object 1 is of the command class. A content superseded is remembered: an
attempt that had begun with it ends with it. -/
def CanObj.queue (x : CanObj) (command : Bool) (k : CanContent) : CanObj × Bool :=
  match x.state with
  | .idle | .undelivered => ({ x with state := .waiting, cur := some k, fails := 0, older := none }, false)
  | .waiting | .sending =>
    if command then ({ x with next := some k }, false)
    else ({ x with cur := some k, older := x.cur, fails := 0 }, true)
  | .disabled => (x, false)

/-- Queue a content on an object of a controller; outside RUN it is discarded and counted, but for the probe in LONE
(R448, R464). -/
def State.canPut (s : State) (c o : Nat) (k : CanContent) : State :=
  let y := s.ctl c
  if y.state = .run ∨ (y.state = .lone ∧ o = 6) then
    let r := (tget y.obj o).queue (decide (o = 1)) k
    s.modCtl c (fun z =>
      { z with obj := tput z.obj o r.1, nSuper := if r.2 then z.nSuper + 1 else z.nSuper })
  else if y.state = .off then s
  else s.modCtl c (fun z => { z with nDrop := sat32u (z.nDrop + 1) })

/-- Queue a pair output of the bus on both controllers (R388, R462). -/
def State.canPairOut (s : State) (o : Nat) (body : Bytes) : State :=
  if s.sendsPair then
    let k : CanContent := { frame := s.now, payload := s.canPayload o true body }
    let s1 := (s.canPut 0 o k).canPut 1 o k
    { s1 with pair.outputs := s1.pair.outputs ++ [crc32c body] }
  else s

/-- Queue `TIME_REF` on a controller in RUN (R459, Table 15-6). -/
def State.timeRef (s : State) (c : Nat) : State :=
  let y := s.ctl c
  let body : Bytes := le 6 s.now ++ le 8 y.trSof ++ le 2 y.trSeq ++ le 1 s.timeFlags ++ le 1 0
  if y.state = .run then s.canPut c 0 { frame := s.now, payload := s.canPayload 0 false body }
  else s

/-- CAN_TIME_REF_SEND (R459): at pulse 0 of every tenth frame in LONE or ACTIVE. -/
def State.canTimeRef (s : State) : State :=
  if s.leads ∧ s.now % 10 = 0 then (s.timeRef 0).timeRef 1 else s

/-- Body of `MODULE_STATE` (Table 15-6). -/
def State.moduleState (s : State) : Bytes :=
  le 1 s.mode.mode.code ++ le 1 ((s.pair.state.map PairState.code).getD 0xFF) ++ le 2 (s.maskOf s.onBus).toNat ++
    le 2 (s.maskOf (fun k => decide ((s.str k).state = .held))).toNat ++ le 2 s.isolatedMask.toNat ++
    le 2 s.protAlarms.toNat ++
    le 1 (packBits [s.derateOut, s.bus.unreachable, decide (s.mode.mode = .safe)]) ++ (List.replicate 5 0 : Bytes)

/-- The thermal loop on a setpoint slot (Table 10-12). -/
def State.loopOn (s : State) (slot : Nat) : Option ThermLoop :=
  (s.power.therm.find? (fun e => e.2.runs && decide (e.2.outsel = 0x20 + slot))).map (·.2)

/-- Body of `THERMAL_SET` `i` (Table 15-6, R292). -/
def State.thermalSet (s : State) (i : Nat) : Bytes :=
  let n := if i = 2 then 8 else 12
  let one : Nat → Bytes := fun j =>
    match (if j < n then s.loopOn (12 * i + j) else none) with
    | some l => leI 4 (if l.out then l.hi else l.lo)
    | none => leI 4 (-2147483648)
  le 1 (12 * i) ++ le 1 n ++ le 2 0 ++ (upFrom 0 12).flatMap one

/-- MODULE_STATE_QUEUE (R452): in frames with F ≡ 0 mod 100; no thermal setpoint in Load (R290). -/
def State.queueState (s : State) : State :=
  if s.now % 100 ≠ 0 then s
  else
    let s1 := s.canPairOut 2 s.moduleState
    (upFrom 0 3).foldl (fun u i =>
      if u.mode.mode ≠ .load ∧ (upFrom (12 * i) (if i = 2 then 8 else 12)).any (fun j => (u.loopOn j).isSome) then
        u.canPairOut (3 + i) (u.thermalSet i)
      else u) s1

/-- LIMITS_QUEUE (R357): in frames with F ≡ 0 mod 10, once. -/
def State.queueLimits (s : State) : State :=
  if s.now % 10 = 0 ∧ !s.dsp.queued then { s.canPairOut 1 s.objLimits with dsp.queued := true } else s

/-- The waiting content gives way to the next one, or the object goes to a state (Table 15-7). -/
def CanObj.advance (x : CanObj) (rest : TxState) : CanObj :=
  match x.next with
  | some k => { x with state := .waiting, cur := some k, next := none, older := none, fails := 0 }
  | none => { x with state := rest, cur := none, older := none, fails := 0 }

/-- The content of the attempt that ends: the one replaced meanwhile where the attempt had begun before the newer content
came (SENDING of Table 15-7), else the one waiting. -/
def CanObj.sent (x : CanObj) (early : Bool) : Option CanContent := if early then x.older else x.cur

/-- The object of a controller holds a content that can be sent. -/
def State.canBusy (s : State) (c o : Nat) : Bool :=
  let x := tget (s.ctl c).obj o
  x.cur.isSome && decide (x.state = .waiting) &&
    (decide ((s.ctl c).state = .run) || (decide ((s.ctl c).state = .lone) && decide (o = 6)))

/-- CAN_TX_DONE (R457): a frame is sent and acknowledged without error; `sof` is its start-of-frame instant; `early`: the
attempt began before the newest content of the object came, which then waits. -/
def execCanTxDone (p : Pulse) (ctl : Fin 2) (obj : Fin 7) (sof : Nat) (early : Bool) (s : State) :
    Host.Outcome State Fault Refusal :=
  let s0 := s.atP p.val
  let c := ctl.val
  let o := obj.val
  let x := tget (s0.ctl c).obj o
  let was := early && x.older.isSome
  ok (if s0.canBusy c o then
      let k := (x.sent was).getD {}
      let s1 := s0.modCtl c (fun y =>
        { y with
          nTx := sat32u (y.nTx + 1), tec := y.tec - 1, ackRun := 0,
          trSof := if o = 0 then sof else y.trSof, trSeq := if o = 0 then rdU k.payload 2 2 else y.trSeq,
          tatSof := if k.atPulse.isSome then sof else y.tatSof,
          obj := tput y.obj o
            { (if was then { x with older := none } else x.advance .idle) with undelivered := false, bitErrs := 0 } })
      if (s1.ctl c).state = .lone ∧ o = 6 then s1.setCtl c .run 4 else s1
    else s0)

/-- CAN_TX_FAIL (R456, R457): a failed attempt; the eighth, or the only one of a transmit-at-time content, ends it. A
newer report or time content that came during the attempt (`early`) takes the object after it. An error-passive
transmitter does not raise its count on an ACK error (ISO 11898-1). -/
def execCanTxFail (p : Pulse) (ctl : Fin 2) (obj : Fin 7) (err : TxError) (early : Bool) (s : State) :
    Host.Outcome State Fault Refusal :=
  let s0 := s.atP p.val
  let c := ctl.val
  let o := obj.val
  let x := tget (s0.ctl c).obj o
  let was := early && x.older.isSome
  ok (if s0.canBusy c o then
      let k := x.cur.getD {}
      let ack := decide (err = .ack)
      let s1 := s0.modCtl c (fun y =>
        { y with
          tec := if ack && decide (128 ≤ y.tec) then y.tec else satN 255 (y.tec + 8),
          ackRun := if ack then y.ackRun + 1 else 0,
          nAck := if ack then sat32u (y.nAck + 1) else y.nAck, nErr := if ack then y.nErr else sat32u (y.nErr + 1),
          obj := tput y.obj o
            { x with
              fails := if was then 0 else x.fails + 1, older := none,
              bitErrs := if err = .dataBit then x.bitErrs + 1 else 0 } })
      if was then s1
      else if x.fails + 1 < 8 ∧ k.atPulse.isNone then s1
      else
        let s2 := if o = 1 then s1.undeliver c o k.frame
          else s1.modCtl c (fun y => { y with nDrop := sat32u (y.nDrop + 1) })
        s2.modCtl c (fun y =>
          { y with obj := tmod y.obj o (fun z => z.advance (if o = 1 then .undelivered else .idle)) })
    else s0)

/-- CAN_PROBE (R464): in LONE, `PROBE` by transmit-at-time at pulse 500 of every hundredth frame. -/
def execCanProbe (ctl : Fin 2) (s : State) : Host.Outcome State Fault Refusal :=
  let s0 := s.atP 500
  ok (if (s0.ctl ctl.val).state = .lone ∧ s0.now % 100 = 0 then
      s0.canPut ctl.val 6 { frame := s0.now, payload := s0.canPayload 6 false [], atPulse := some 500 }
    else s0)

/-- CAN_STANDBY_TIME_REF (R460): a standby that has received no `TIME_REF` from its peer on a bus for 30 ms. -/
def execCanStandbyTimeRef (ctl : Fin 2) (s : State) : Host.Outcome State Fault Refusal :=
  let s0 := s.atP 0
  let silent : Bool := match (s0.ctl ctl.val).peerTime with
    | some u => decide (u + 30000 ≤ s0.clockUs)
    | none => true
  ok (if s0.pair.state = some .standby ∧ s0.now % 10 = 0 ∧ silent then s0.timeRef ctl.val else s0)

/-- TRANSMIT_AT_TIME (R461): `MODULE_STATE` at pulse 500 of the first hundredth frame after RUN in Survey. Its
start-of-frame instant is recorded when the attempt succeeds. -/
def execTransmitAtTime (ctl : Fin 2) (s : State) : Host.Outcome State Fault Refusal :=
  let s0 := s.atP 500
  let y := s0.ctl ctl.val
  ok (if y.tatDue ∧ y.state = .run ∧ s0.now % 100 = 0 ∧ s0.sendsPair then
      { (s0.modCtl ctl.val (fun z => { z with tatDue := false })) with bus.stateAt := some s0.now }.canPut ctl.val 2
        { frame := s0.now, payload := s0.canPayload 2 true s0.moduleState, atPulse := some 500 }
    else s0)

/-! ### Identifier clash (R458) -/

/-- Disable a transmit object until the next start; a `LIMITS` object's disabling is an input item (R463). -/
def State.disableObj (s : State) (c o : Nat) : State :=
  let s1 := s.modCtl c (fun y => { y with obj := tmod y.obj o (fun z =>
    { state := .disabled, undelivered := z.undelivered }) })
  if o = 1 then
    s1.itemIn { id := BitVec.ofNat 32 (0xFFFFFF00 + 16 * s.sys.slot.code + c), seq := s.now * 1000 + s.time.pulse,
                frame := s.now, body := .ctl s.sys.slot c (s.ctl c).state false }
  else s1

/-- `CAN_CLASH` of a kind (Table 15-12). -/
def State.clashEvent (s : State) (c o ident kind src : Nat) : State :=
  s.ev 0x1002 (le 1 c ++ le 1 o ++ le 4 ident ++ le 1 kind ++ le 1 src)

/-- CAN_CLASH (R458): the third consecutive attempt failed with a bit error in the data field. -/
def execCanClash (p : Pulse) (ctl : Fin 2) (obj : Fin 7) (s : State) : Host.Outcome State Fault Refusal :=
  let s0 := s.atP p.val
  let x := tget (s0.ctl ctl.val).obj obj.val
  ok (if 3 ≤ x.bitErrs ∧ x.state ≠ .disabled then
      (s0.clashEvent ctl.val obj.val (s0.txIdent obj.val) 3 s0.ownNode).disableObj ctl.val obj.val
    else s0)

/-- A clash seen on a received frame: of an own identifier, or of the own source byte. -/
def State.clashRx (s : State) (c : Nat) (f : CanFrame) : State :=
  let src := rdU f.payload 0 1
  let hit := (upFrom 0 7).filter (fun o => decide (s.txIdent o = f.ident.toNat))
  let s1 := hit.foldl (fun u o =>
    if (tget (u.ctl c).obj o).state = .disabled then u
    else (u.clashEvent c o f.ident.toNat 1 src).disableObj c o) s
  if hit = [] ∧ f.payload ≠ [] ∧ src % 64 = s.ownNode then s1.clashEvent c 0xFF f.ident.toNat 2 src else s1

/-! ### Reception (R447, R448, R451) -/

/-- A controller hears a frame: rate detection, LONE to RUN, counters, clashes. In DETECT it listens only and receives
what arrives without error (ISO 11898-1). -/
def State.canHear (s : State) (c : Nat) (f : CanFrame) : State :=
  match (s.ctl c).state with
  | .detect =>
    if f.ok then
      let s1 := s.modCtl c (fun y =>
        { y with nRx := sat32u (y.nRx + 1), lastRx := some s.clockUs, good := y.good + 1, brs := y.brs || f.brs })
      if f.fd29 then s1.clashRx c f else s1
    else s.modCtl c (fun y => { y with good := 0, brs := false })
  | .run | .lone =>
    if !f.ok then s.modCtl c (fun y => { y with nErr := sat32u (y.nErr + 1), rec_ := satN 255 (y.rec_ + 1) })
    else
      let s1 := s.modCtl c (fun y =>
        { y with nRx := sat32u (y.nRx + 1), rec_ := y.rec_ - 1, lastRx := some s.clockUs })
      let s2 := if (s.ctl c).state = .lone then s1.setCtl c .run 4 else s1
      if f.fd29 then s2.clashRx c f else s2
  | _ => s

/-- Message, source node and container of an identifier (Table 15-3). -/
def CanFrame.msg (f : CanFrame) : Nat := f.ident.toNat % 1024

/-- Source node of the identifier. -/
def CanFrame.src (f : CanFrame) : Nat := f.ident.toNat / 1024 % 64

/-- Container of the identifier. -/
def CanFrame.container (f : CanFrame) : Nat := f.ident.toNat / 65536 % 256

/-- CAN_FRAME_RX (R448): a frame outside the four accepted messages. A `TIME_REF` of the peer is noted (R460). -/
def execCanFrameRx (p : Pulse) (ctl : Fin 2) (f : CanFrame) (s : State) : Host.Outcome State Fault Refusal :=
  let s0 := (s.atP p.val).canHear ctl.val f
  ok (if f.ok ∧ f.fd29 ∧ f.msg = 0x001 ∧ f.src = s0.peerNode ∧ f.container = s0.sys.container then
      s0.modCtl ctl.val (fun y => { y with peerTime := some s0.clockUs })
    else s0)

/-- The frame passes the checks of R451 for a message of a configured node with a body length. -/
def State.canAccepts (_s : State) (node n : Nat) (f : CanFrame) : Bool :=
  decide (f.src = node) && decide (rdU f.payload 0 1 % 64 = f.src) && decide (10 + n ≤ f.payload.length) &&
    decide (rdU f.payload 6 4 = (crc32c (slice f.payload 10 n)).toNat)

/-- A message of Table 15-5 arrives at a receive object. `full`: its queue is full (R455). -/
def State.canRx (s : State) (c : Nat) (f : CanFrame) (msg node n q : Nat) (full : Bool) : State :=
  let live := decide ((s.ctl c).state ∈ [CanState.detect, .run, .lone]) && f.ok
  let s1 := s.canHear c f
  if !live || !f.fd29 || decide (f.msg ≠ msg) || decide (f.container ≠ s.sys.container) || decide (node = 0) then s1
  else
    let bad (u : State) : State := u.modCtl c (fun y => { y with nFmt := sat32u (y.nFmt + 1) })
    let seq := rdU f.payload 2 2
    let seen := s1.bus.seen.filter (fun x => decide (s1.clockUs < x.1 + 100000))
    if !s1.canAccepts node n f then bad s1
    else if seen.any (fun x => decide (x.2 = (node, msg, seq))) then bad { s1 with bus.seen := seen }
    else if full then
      let k := 2 * c + q
      let s2 := (s1.evIf (decide (tget s1.bus.overSec k = 0)) 0x1005 (le 1 c ++ le 1 q ++ le 4 1)).modCtl c
        (fun y => { y with nOverflow := sat32u (y.nOverflow + 1) })
      { s2 with bus.overSec := tmod s2.bus.overSec k (· + 1) }
    else
      let body := slice f.payload 10 n
      ({ s1 with bus.seen := (s1.clockUs, node, msg, seq) :: seen }).itemIn
        { id := BitVec.ofNat 32 (f.ident.toNat % 65536 + 65536 * f.container), seq := seq, digest := crc32c body,
          frame := s1.now, body := .can msg (rdU f.payload 4 2) body }

/-- PCS_STATE_RX (R453): its current and demand are taken at its effective frame. -/
def execPcsStateRx (p : Pulse) (ctl : Fin 2) (f : CanFrame) (full : Bool) (s : State) :
    Host.Outcome State Fault Refusal :=
  ok ((s.atP p.val).canRx ctl.val f 0x100 s.bus.cfg.pcsNode 16 0 full)

/-- HVAC_BUDGET_RX (R452). -/
def execHvacBudgetRx (p : Pulse) (ctl : Fin 2) (f : CanFrame) (full : Bool) (s : State) :
    Host.Outcome State Fault Refusal :=
  ok ((s.atP p.val).canRx ctl.val f 0x101 s.bus.cfg.hvacNode 12 1 full)

/-- FIRE_STATUS_RX (R454): reported only. -/
def execFireStatusRx (p : Pulse) (ctl : Fin 2) (f : CanFrame) (full : Bool) (s : State) :
    Host.Outcome State Fault Refusal :=
  ok ((s.atP p.val).canRx ctl.val f 0x102 s.bus.cfg.fireNode 8 1 full)

/-- IMD_STATUS_RX (R454): reported only. -/
def execImdStatusRx (p : Pulse) (ctl : Fin 2) (f : CanFrame) (full : Bool) (s : State) :
    Host.Outcome State Fault Refusal :=
  ok ((s.atP p.val).canRx ctl.val f 0x103 s.bus.cfg.imdNode 8 1 full)

/-- The latest frame with given low 16 bits that is not after a frame (R453). -/
def namedFrame (eff low : Nat) : Nat := eff - (eff % 65536 + 65536 - low % 65536) % 65536

/-- A container-bus message at its effective frame (Table 15-6, R453). -/
def State.canTake (s : State) (msg frame16 : Nat) (b : Bytes) : State :=
  if msg = 0x100 then
    let v := rdI b 0 4
    let flags := rdU b 13 1
    let f := namedFrame s.now frame16
    let s1 := { s with
      bus.pcsI := v, bus.pcsDemand := rdI b 4 4, bus.pcsV := rdI b 8 4, bus.pcsState := rdU b 12 1,
      bus.pcsFrame := some s.now, bus.demand := if bitOf flags 1 then some (s.now, rdI b 4 4) else s.bus.demand }
    if bitOf flags 0 ∧ s.now ≤ f + 1000 then
      { s1 with prot.pcs := s1.prot.pcs ++ [(s1.now, f, v)] }.sf10Check
    else s1
  else if msg = 0x101 then
    { s with
      bus.hvBudget := rdI b 0 4, bus.hvSupply := rdI b 4 2, bus.hvReturn := rdI b 6 2, bus.hvState := rdU b 8 1,
      grz.hCool := rdI b 0 4, grz.coolantT := rdI b 4 2, grz.hvacFrame := some s.now }
  else if msg = 0x102 then { s with bus.fireState := rdU b 0 1, bus.fireZones := rdU b 1 2 }
  else { s with bus.imdR := rdU b 0 4, bus.imdState := rdU b 4 1 }

/-- CAN_STATE_APPLY (R463): a controller change at its assigned frame. -/
def State.ctlApply (s : State) (slot : Slot) (c : Nat) (st : CanState) (lim : Bool) : State :=
  if slot = s.sys.slot then s.modCtl c (fun y => { y with applied := st, limitsApplied := lim })
  else
    let l := (s.bus.peer ++ List.replicate 2 (CanState.off, true)).take 2
    { s with bus.peer := if c = 0 then (st, lim) :: l.drop 1 else l.take 1 ++ [(st, lim)] }

/-- The items assigned to the present frame are taken as received in it (R385). -/
def State.inputsTake (s : State) : State :=
  let its := tget s.pair.assigned s.now
  let s1 := its.foldl (fun u it =>
    match it.body with
    | .can m f b => u.canTake m f b
    | .ctl slot c st lim => u.ctlApply slot c st lim
    | .step slot k code info => (u.updTake it.id slot k code info).cfgTake it.id slot k code info
    | .command _ _ _ _ => u) s
  { s1 with
    pair.assigned := s1.pair.assigned.filter (fun e => decide (s.now < e.1 + 2)),
    pair.assignedAi := s1.pair.assignedAi.filter (fun e => decide (s.now < e.1 + 2)) }

/-! ### An unreachable PCS (R465, R466) -/

/-- No controller of the module, nor in a pair of its peer, is in RUN with its `LIMITS` object enabled. -/
def State.noController (s : State) : Bool :=
  let on (st : CanState) (lim : Bool) : Bool := decide (st = .run) && lim
  !(on s.bus.a.applied s.bus.a.limitsApplied || on s.bus.b.applied s.bus.b.limitsApplied ||
    (s.inPair && s.bus.peer.any (fun x => on x.1 x.2)))

/-- A valid `PCS_STATE` exists (R453). -/
def State.pcsValid (s : State) : Bool :=
  match s.bus.pcsFrame with
  | some f => decide (s.now ≤ f + s.bus.cfg.pcsTimeout)
  | none => false

/-- Order the lone-node opening of the strings on the bus that have none (R466 item 3). -/
def State.loneOrders (s : State) : State :=
  s.busStrings.foldl (fun u k =>
    match (u.str k).opening with
    | some (.lone, _) => u
    | _ => u.orderOpen k .lone (max u.bus.unreachFrame ((u.str k).dwellFrom.getD 0) + 2000)) s

/-- CAN_UNREACHABLE (R465, R466): the PCS becomes unreachable or reachable again; judged from the end of Load. -/
def State.reachJudge (s : State) : State :=
  if s.mode.mode = .fill ∨ s.mode.mode = .load then s
  else
    let no := s.noController
    let mute := !s.pcsValid
    if no || mute then
      let s1 : State := if s.bus.unreachable then s
        else { s.ev 0x1004 ([1] ++ le 1 (packBits [no, mute]) ++ [0, 0]) with
          bus.unreachable := true, bus.unreachFrame := s.now, bus.unreachOpened := 0 }
      s1.loneOrders
    else if s.bus.unreachable then
      { s.ev 0x1004 ([0x80, 0] ++ le 2 s.bus.unreachOpened.toNat) with
        bus.unreachable := false,
        mode.str := tmap s.mode.str (fun _ x => match x.opening with
          | some (.lone, _) => { x with opening := none }
          | _ => x) }
    else s

/-- Open a string under its lone-node order (R466). -/
def State.loneOpen (s : State) (k : Nat) : State :=
  let s1 := s.openNow k
  { s1 with bus.unreachOpened := withBit s1.bus.unreachOpened k }

/-- PCS_STATE_TIMEOUT (R465): no valid `PCS_STATE` within `CAN_PCS_TIMEOUT`. -/
def execPcsStateTimeout (p : Pulse) (s : State) : Host.Outcome State Fault Refusal :=
  ok (s.atP p.val).reachJudge

/-- LONE_NODE_OPEN_TIMEOUT (R466): the bound of 2 s has passed; the string opens regardless of current. -/
def execLoneNodeOpenTimeout (p : Pulse) (str : StrIx) (s : State) : Host.Outcome State Fault Refusal :=
  let s0 := s.atP p.val
  ok (match (s0.str str.val).opening with
    | some (.lone, d) => if d ≤ s0.now ∧ s0.bus.unreachable then s0.loneOpen str.val else s0
    | _ => s0)

/-! ### Status objects (Table 15-11) -/

/-- `CAN_CONTAINER`. -/
def State.objCanContainer (s : State) : Bytes :=
  let b := s.bus
  leI 4 b.pcsI ++ leI 4 b.pcsDemand ++ leI 4 b.pcsV ++ le 1 b.pcsState ++
    le 1 (packBits [s.pcsValid && !b.unreachable, b.unreachable, s.hvacValid]) ++ [0, 0] ++ leI 4 b.hvBudget ++
    leI 2 b.hvSupply ++ leI 2 b.hvReturn ++ le 1 b.hvState ++ le 1 b.fireState ++ le 2 b.fireZones ++ le 4 b.imdR ++
    le 1 b.imdState ++ [0] ++ le 6 b.unreachFrame

/-- The module is the time master on a bus (R459, R460). -/
def State.timeMaster (s : State) (c : Nat) : Bool :=
  s.leads || (decide (s.pair.state = some .standby) && (match (s.ctl c).peerTime with
    | some u => decide (u + 30000 ≤ s.clockUs)
    | none => true))

/-- `CAN_CTRL` of a controller. -/
def State.objCanCtrl (s : State) (c : Nat) : Bytes :=
  let y := s.ctl c
  le 1 y.state.code ++ le 1 y.rates ++ le 1 y.tec ++ le 1 y.rec_ ++
    le 1 (packBits [decide (128 ≤ y.tec) || decide (128 ≤ y.rec_), s.timeMaster c]) ++ [0, 0, 0] ++ le 4 y.nRx ++
    le 4 y.nTx ++ le 4 y.nAck ++ le 4 y.nErr ++ le 4 y.nBusOff ++ le 4 y.nFmt ++ le 4 y.nDrop ++ le 4 y.nOverflow ++
    le 8 y.tatSof

/-- `CAN_OBJECTS` of a controller. -/
def State.objCanObjects (s : State) (c : Nat) : Bytes :=
  (upFrom 0 128).flatMap (fun o =>
    if o < 7 then le 1 ((tget (s.ctl c).obj o).state.code + 8 * b2n (decide (o = 1)) + 16) else [0])

end Sys2Proof.Machine
end

