-- ==== Sys2Proof/Machine/Link.lean ====
section
/-! DEFINITION. The cell link (chapter 04): uploads, port results, link context transitions, latency and the replies of
secondary transactions. -/

namespace Sys2Proof.Machine

/-! ### Uploads (R98, R99) -/

/-- The first check of R98 an upload fails: 1 CRC, 2 format, 3 `FRAME`, 4 `SLOT`, 5 late. `convert` is that of this port's
`SAMPLE` of the frame, none when none was sent. -/
def upCheck (now pulse : Nat) (own : Slot) (convert : Option Bool) (u : UpFrame) : Nat :=
  if !u.head.intact u.data.bytes then 1
  else if !(u.head.formOk true && decide (u.head.type = 0x10)) then 2
  else if convert ≠ some u.data.converted ∨ u.head.len ≠ (if u.data.converted then 237 else 10) then 2
  else if u.head.frame ≠ now then 3
  else if u.head.slot ≠ own then 4
  else if 400 < pulse then 5
  else 0

/-- A slot mismatch in WAKE or ALIGN fails step 1 of a survey for the port (R111). -/
def State.surveySlotBad (s : State) (p : Nat) : State :=
  s.modStr (strOfPort p) (fun x =>
    { x with survey := x.survey.map (fun v => { v with slotBad := v.slotBad ||| ((1 : BitVec 8) <<< (p % 8)) }) })

/-- Count a failed upload (R98, R111). -/
def State.upBad (s : State) (p code : Nat) (u : UpFrame) : State :=
  let l := s.lnk p
  match code with
  | 1 => s.modLnk p (fun x => { x with nCrc := sat32u (x.nCrc + 1) })
  | 3 => s.modLnk p (fun x => { x with nFrame := sat32u (x.nFrame + 1) })
  | 4 =>
    let s1 := s.evIf (decide (l.state = .run) && !l.slotMismatch) 0x0405 (le 1 p ++ le 1 u.head.slot.code)
    let s2 := s1.modLnk p (fun x => { x with nFmt := sat32u (x.nFmt + 1), slotMismatch := true })
    if l.state = .wake ∨ l.state = .align then s2.surveySlotBad p else s2
  | _ => s.modLnk p (fun x => { x with nFmt := sat32u (x.nFmt + 1) })

/-- `PAIR_DIVERGENCE` of section 0: two valid uploads of a port differ (R384). -/
def State.uploadDiffers (s : State) (own peer : UpData) : State :=
  { s.ev 0x0E02 (le 6 s.now ++ [1] ++ le 4 (crc32c own.bytes).toNat ++ le 4 (crc32c peer.bytes).toNat) with
    pair.nDivergence := sat32u (s.pair.nDivergence + 1) }

/-- The runtime's use of the module's own valid upload beside the mirrored one (R384): slot A's payload where both are
valid and differ. -/
def State.ownUse (s : State) (p : Nat) (d : UpData) : State :=
  match (s.lnk p).mirror with
  | some m =>
    if m = d then s
    else if s.sys.slot = .a then (s.uploadDiffers d m).tableTake p d
    else s.uploadDiffers d m
  | none => s.tableTake p d

/-- The header and status of a valid upload in the link context (R98, R101, R110). A slot mismatch ends with it
(log 173). -/
def State.upGood (s : State) (p : Nat) (u : UpFrame) (d : UpData) : State :=
  let l := s.lnk p
  let conflict := has d.ust 13 || (decide (u.head.role = 0) && s.leads)
  let s1 := s.evIf (conflict && !l.roleConflict) 0x0404 (le 1 p ++ le 2 d.ust.toNat ++ le 1 u.head.role)
  s1.modLnk p (fun x =>
    { x with
      validNow := true, viaRepeat := u.head.rpt, own := some d, ust := d.ust, applied := d.applied,
      roleConflict := conflict, slotMismatch := false, nValid := sat32u (x.nValid + 1),
      nRecovered := if u.head.rpt then sat32u (x.nRecovered + 1) else x.nRecovered,
      nDownMiss := if u.head.seq ≠ x.sampleSeq ∨ has d.ust 14 = true then sat32u (x.nDownMiss + 1) else x.nDownMiss })

/-- The port's bit of survey step 1 (Table 3-5). -/
def State.surveySeen (s : State) (p : Nat) : State :=
  s.modStr (strOfPort p) (fun x =>
    { x with survey := x.survey.map (fun v =>
        if s.now ≤ v.from_ + 1000 then { v with seen := v.seen ||| ((1 : BitVec 8) <<< (p % 8)) } else v) })

/-- A limit is crossed on a port as Markhor judges it in Serve: a cell's run has reached ten samples, or the condition of a
stage of SF-03 is present on its string (R73, R303, R316; log 176). -/
def State.crossed (s : State) (p : Nat) : Bool :=
  let x := s.pst (strOfPort p)
  (upFrom (cellIx p 0) (s.cellsOn p)).any (fun g =>
    let m := tget s.mkCell g
    decide (10 ≤ m.ovWarn) || decide (10 ≤ m.ovTrip) || decide (10 ≤ m.uvWarn) || decide (10 ≤ m.uvTrip)) ||
  (has x.warn 2 && decide (tget x.absentFrom 3 = 0)) || (has x.tripStage 2 && decide (tget x.absentFrom 19 = 0))

/-- A limit crossed in a wake burst ends Rest (Table 3-7, R73); what stands from before the burst does not. -/
def State.restAlarm (s : State) (p : Nat) : State :=
  if s.mode.mode = .rest ∧ 1 ≤ s.mode.wakeBurst ∧ s.mode.wakeBurst ≤ 10 ∧ s.crossed p then
    { s with mode.leavingRest := true }
  else s

/-- Markhor's judgements on a converted upload: limits, temperatures, block voltage (R303, R316, R171). -/
def State.markhorJudge (s : State) (p : Nat) (d : UpData) : State :=
  let s1 := (s.markhorTake p d).testTake p d
  let s2 := (s1.limitCheck p d.test).sf03Check (strOfPort p)
  let s3 := if d.test then s2 else s2.blockCompare p d
  s3.restAlarm p

/-- The port's `SAMPLE` of the present frame: its `CONVERT`, none when none was sent. -/
def LinkSt.convertSent (l : LinkSt) : Option Bool := if l.sampled then some l.convert else none

/-- UPLOAD_RECEIVED (R98): an upload is judged in the order of R98, counted, mirrored, and taken into table memory and
Markhor SRAM on separate paths (R18). `old` are the words the write to table memory reads first; where one of them is
uncorrectable the upload is lost to table memory alone (R540, Table 19-1). A port that is OFF or asleep
uses none; a further valid upload of a frame is not taken. -/
def execUploadReceived (p : Pulse) (port : PortIx) (u : UpFrame) (old : List MemErr) (s : State) :
    Host.Outcome State Fault Refusal :=
  let s0 := s.atP p.val
  let q := port.val
  let l := s0.lnk q
  ok (if l.state = .off ∨ l.state = .sleep ∨ !s0.fitted q then s0
    else
      let code := upCheck s0.now p.val s0.sys.slot l.convertSent u
      if code ≠ 0 then s0.upBad q code u
      else if l.validNow then s0
      else
        let d := u.data.heeded
        let s1 := ((s0.upGood q u d).surveySeen q).pairSend (.mirror q d.bytes)
        let s1 := s1.oldWords old
        let s2 := if writeFails old then s1 else s1.ownUse q d
        if d.converted then s2.markhorJudge q d else s2.testTake q d)

/-- REPEAT_SEND (R100): at pulse 205, once per port and frame; only a port in RUN sends it (Table 4-12). -/
def execRepeatSend (port : PortIx) (s : State) : Host.Outcome State Fault Refusal :=
  let s0 := s.atP 205
  let l := s0.lnk port.val
  ok (if s0.linkCfg.repeatEn ∧ l.state = .run ∧ l.sampled ∧ !l.validNow ∧ !l.repeated then
      s0.modLnk port.val (fun x =>
        { x with repeated := true, seq := (x.seq + 1) % 65536, nRepeats := sat32u (x.nRepeats + 1) })
    else s0)

/-! ### Results of pulse 400 (R102, R112, R114) -/

/-- The link controller's count of a port's result (R102). A port that was sent no `SAMPLE` in the frame counts neither as
valid nor as missed in its own counters (log 174). -/
def LinkSt.count (l : LinkSt) : LinkSt :=
  if !l.sampled then l
  else if l.validNow then { l with missRun := 0, validRun := l.validRun + 1 }
  else { l with missRun := l.missRun + 1, validRun := 0, nMissed := sat32u (l.nMissed + 1) }

/-- The start itself keeps the port from sending: Markhor opens no string for a start (R63), so SF-06 does not count on it
(log 183). -/
def State.startHolds (s : State) (p : Nat) : Bool :=
  decide ((s.lnk p).state = .off) ||
    (decide ((s.lnk p).state = .wake) && decide (s.mode.mode ∈ [Mode.fill, .load, .survey]))

/-- The port's result of the frame in its counters and, whatever its link state, in Markhor's view (R114); a port that R172
counts as invalid is missed for SF-06, which counts while the string's state asks for it (R319). -/
def State.portCount (s : State) (p : Nat) : State :=
  let mk := (s.lnk p).validNow && !(tget s.meas.fe p).sf06Invalid
  let still := s.startHolds p
  { s.modLnk p LinkSt.count with
    prot.port := tmod s.prot.port p (fun x =>
      { x with
        missRun := if mk || !s.sf06Counts (strOfPort p) then 0 else if still then x.missRun else x.missRun + 1,
        validRun := if mk then x.validRun + 1 else 0,
        validLast := mk }) }

/-- A valid upload in WAKE, and a measurement accepted in ALIGN (Table 4-13). -/
def State.portWoken (s : State) (p : Nat) : State :=
  let l := s.lnk p
  if l.state = .wake ∧ l.validNow then
    let s1 := if l.hasSec .refresh then s else s.secQueue p refreshReads
    if l.measured then s1.setLink p .run 5
    else (s1.setLink p .align 5).modLnk p (fun x => { x with echoRun := true, echoes := [], echoTried := 0, alignFails := 0 })
  else if l.state = .align ∧ l.measured then s.setLink p .run 6
  else s

/-- Leaving Rest wakes the sleeping front ends (R73, Table 4-13). -/
def State.restWakeAll (s : State) : State :=
  if s.mode.mode = .rest ∧ s.mode.leavingRest ∧ s.mode.leaveFrom.isNone then
    { s.fittedPorts.foldl (fun u p => u.wakePort p .sleep) s with mode.leaveFrom := some s.now }
  else s

/-- Queue what the runtime asks of a port at this frame: one `ECHO` of a running measurement, the refresh of R151, the
check of step 3 of a firmware update. -/
def State.portAsk (s : State) (p : Nat) : State :=
  let l := s.lnk p
  let s1 := if l.echoRun && decide (l.echoTried < 8) && !l.hasSec .echo then
      s.modLnk p (fun x => { x with secQueue := { req := .echo, by_ := .echo } :: x.secQueue })
    else s
  let s2 := if l.state = .run ∧ (tget s1.cfe p).refreshed + 9000 ≤ s1.now ∧ !l.hasSec .refresh then
      { s1.secQueue p refreshReads with cfe := tmod s1.cfe p (fun c => { c with refreshed := s1.now }) }
    else s1
  match s2.upd.cfe with
  | some j =>
    if j.port = p ∧ j.step = 3 ∧ j.done = 2 ∧ l.state = .run ∧ l.validNow ∧ j.from_ < s2.now ∧ !l.hasSec .fwCheck then
      s2.secQueue p [{ req := .regRead 0x0010 1, by_ := .fwCheck }, { req := .regRead 0x0007 1, by_ := .fwCheck }]
    else s2
  | none => s2

/-- The sum of the string's block voltages in mV. -/
def State.blockSum (s : State) (k : Nat) : Int := sumL ((s.fittedOf k).map (fun p => (tget s.meas.fe p).block))

/-- The sum of the string's blocks against `VSTR` of pulse 10 (R173). -/
def State.sumOk (s : State) (k : Nat) : Bool :=
  decide ((s.blockSum k - (s.pp k).vstr.at10).natAbs ≤ s.meas.cfg.strTol)

/-- The string comparison of a frame in which every port of the string is valid and converted (R173): step 6 during a
survey, else the run towards a declaration. -/
def State.sumCompare (s : State) (k : Nat) : State :=
  let ps := s.fittedOf k
  let all := ps.all (fun p => (s.lnk p).validNow && (s.lnk p).convert) && decide (ps ≠ [])
  if !all then s
  else
    let pass := s.sumOk k
    match (s.str k).survey with
    | some v =>
      let blocks := ps.all (fun p => (match (s.lnk p).own with
        | some d => d.test || blockOk d (s.cellsOn p)
        | none => true))
      let s1 : State := { s with meas.str := tmod s.meas.str k (fun m => { m with sumFail := 0 }) }
      if v.step6Frames < 100 then
        s1.modStr k (fun x => { x with survey := some { v with
          step6Frames := v.step6Frames + 1, step6Bad := v.step6Bad || !pass || !blocks } })
      else s1
    | none =>
      if s.mode.mode = .survey then s
      else { s with meas.str := tmod s.meas.str k (fun m =>
        { m with sumFail := if pass then 0 else m.sumFail + 1 }) }

/-- The flags of the port's cells at pulse 420 (R153, R157): `HOLD` without a conversion in this frame, `UNSURVEYED`,
`THS` beside a broken thermistor. -/
def State.flagCells (s : State) (p : Nat) : State :=
  let conv := (match (s.lnk p).used with | some d => d.converted | none => false)
  let uns := decide ((s.str (strOfPort p)).state = .unsurveyed)
  let thm := s.thOn p
  { s with cells := tmodAll s.cells (upFrom (cellIx p 0) (s.cellsOn p)) (fun g x =>
      let t := (g - cellIx p 0) / 4
      let f1 := if conv then x.flags else flagIf x.flags 5 true
      { x with flags := flagIf (flagIf f1 1 uns) 6 (has thm t && (tget s.th (thIx p t)).broken) }) }

/-- PORT_RESULT (R114): at pulse 400, the valid or missed result of every port. -/
def execPortResult (s : State) : Host.Outcome State Fault Refusal :=
  let s0 := (s.atP 400).restWakeAll
  let ps := s0.fittedPorts
  let s1 := ps.foldl (fun u p => (((u.portCount p).portWoken p).flagCells p).portAsk p) s0
  let s2 := s1.strings.foldl (fun u k => u.sumCompare k) s1
  ok (ps.foldl (fun u p => u.secStart p) s2)

/-! ### Link context transitions (Table 4-13) -/

/-- LINK_LOST: 5 consecutive missed frames in RUN. -/
def execLinkLost (port : PortIx) (s : State) : Host.Outcome State Fault Refusal :=
  let s0 := s.atP 400
  let l := s0.lnk port.val
  ok (if l.state = .run ∧ 5 ≤ l.missRun then
      (s0.setLink port.val .lost 2).modLnk port.val (fun x => { x with targets := if x.targets = 1 then 0 else x.targets })
    else s0)

/-- LINK_RECOVERED: `LINK_RECOVER_FRAMES` consecutive valid uploads in LOST. -/
def execLinkRecovered (port : PortIx) (s : State) : Host.Outcome State Fault Refusal :=
  let s0 := s.atP 400
  let l := s0.lnk port.val
  ok (if l.state = .lost ∧ s0.linkCfg.recoverFrames ≤ l.validRun then s0.setLink port.val .run 3 else s0)

/-- LINK_WAKE_RETRY: no valid upload 100 frames after the wake pattern. -/
def execLinkWakeRetry (port : PortIx) (s : State) : Host.Outcome State Fault Refusal :=
  let s0 := s.atP 400
  let l := s0.lnk port.val
  ok (match l.wakeFrame with
    | some w => if l.state = .wake ∧ !l.validNow ∧ w + 100 ≤ s0.time.ticks then s0.sendWake port.val else s0
    | none => s0)

/-- LINK_LOST_WAKE: 200 consecutive missed frames in LOST, then every further 1,000. -/
def execLinkLostWake (port : PortIx) (s : State) : Host.Outcome State Fault Refusal :=
  let s0 := s.atP 400
  let l := s0.lnk port.val
  ok (if l.state = .lost ∧ 200 ≤ l.missRun ∧ (l.missRun - 200) % 1000 = 0 then s0.sendWake port.val else s0)

/-- End a latency measurement of 8 exchanges without acceptance: in ALIGN the fault bit after the second failure and a
new measurement (Table 4-13); in RUN the old latency stays. -/
def State.measureFailed (s : State) (p : Nat) : State :=
  s.modLnk p (fun x =>
    if x.state = .align then
      { x with alignFails := x.alignFails + 1, latFault := x.latFault || decide (2 ≤ x.alignFails + 1),
               echoes := [], echoTried := 0, echoRun := true }
    else { x with echoes := [], echoTried := 0, echoRun := false, echoFrame := s.time.ticks })

/-- LINK_ALIGN_RETRY: 8 exchanges in ALIGN without acceptance. -/
def execLinkAlignRetry (port : PortIx) (s : State) : Host.Outcome State Fault Refusal :=
  let s0 := s.atP 400
  let l := s0.lnk port.val
  ok (if l.state = .align ∧ l.echoRun ∧ 8 ≤ l.echoTried then s0.measureFailed port.val else s0)

/-- LINK_ECHO_INTERVAL (R104): in RUN the measurement repeats every `LINK_ECHO_INTERVAL`. -/
def execLinkEchoInterval (port : PortIx) (s : State) : Host.Outcome State Fault Refusal :=
  let s0 := s.atP 400
  let l := s0.lnk port.val
  ok (if l.state = .run ∧ !l.echoRun ∧ l.echoFrame + 1000 * s0.linkCfg.echoInterval ≤ s0.time.ticks then
      s0.modLnk port.val (fun x => { x with echoRun := true, echoes := [], echoTried := 0 })
    else s0)

/-- LINK_ALARM_TONE (R108): counted and journaled; in SLEEP it is the Rest wake alarm. -/
def execLinkAlarmTone (p : Pulse) (port : PortIx) (s : State) : Host.Outcome State Fault Refusal :=
  let s0 := s.atP p.val
  let l := s0.lnk port.val
  let s1 := (s0.ev 0x0403 (le 1 port.val ++ le 1 l.state.code)).modLnk port.val (fun x =>
    { x with tone := true, alarmState := x.state.code, nTones := sat32u (x.nTones + 1) })
  ok (if l.state = .sleep ∧ s1.mode.mode = .rest then { s1 with mode.leavingRest := true } else s1)

/-- REST_WAKE_BURST (R113): in frame N − 2 of a burst at N, a multiple of 60,000, the sleeping front ends are woken. -/
def execRestWakeBurst (s : State) : Host.Outcome State Fault Refusal :=
  let s0 := s.atP 400
  ok (if s0.mode.mode = .rest ∧ (s0.now + 2) % 60000 = 0 ∧ !s0.mode.leavingRest then
      { s0.fittedPorts.foldl (fun u p => u.wakePort p .sleep) s0 with mode.wakeBurst := 12 }
    else s0)

/-! ### Replies of secondary transactions (R104, R105) -/

/-- The latency of eight exchanges in 4 L quarter-nanoseconds, if accepted (R104). -/
def latencyOf (vs : List Int) : Option Nat :=
  let lat := divRound (sumL vs) (4 * vs.length)
  if vs.length = 8 ∧ maxL 0 vs - minL 0 vs ≤ 200 ∧ 0 ≤ lat ∧ lat ≤ 400 then some lat.toNat else none

/-- Eight exchanges are over: accept their latency, or end the measurement (R104). In ALIGN the retry is
`LINK_ALIGN_RETRY`, and the port goes to RUN at the next pulse 400 (R112, log 55). A latency measured anew that lies within
50 ns of the old one changes nothing, and `LINK_LAT_FAULT` with its count goes at an acceptance (log 175). -/
def State.measureEnd (s : State) (p : Nat) : State :=
  let l := s.lnk p
  if l.echoTried < 8 then s
  else
    match latencyOf l.echoes with
    | none => if l.state = .align then s else s.measureFailed p
    | some n =>
      let far := decide (l.state ≠ .align) && decide (50 < ((n : Int) - (l.lat : Int)).natAbs)
      (s.evIf far 0x0402 (le 1 p ++ le 2 l.lat ++ le 2 n)).modLnk p (fun x =>
        { x with
          latency := if far || decide (l.state = .align) || l.latency.isNone then some n else x.latency,
          measured := true, echoRun := false, echoes := [], echoTried := 0, echoFrame := s.time.ticks, latFault := false,
          alignFails := 0 })

/-- Take the outstanding transaction off a port. -/
def State.secClear (s : State) (p : Nat) : State := s.modLnk p (fun l => { l with sec := none })

/-- Put a transaction at the front of a port's queue. -/
def State.secAgain (s : State) (p : Nat) (t : SecTx) : State :=
  s.modLnk p (fun l => { l with secQueue := t :: l.secQueue })

/-- The survey of the port's string, while a step's bound has not passed. -/
def State.surveyWithin (s : State) (p bound : Nat) : Option SurveySt :=
  match (s.str (strOfPort p)).survey with
  | some v => if s.now ≤ v.from_ + bound then some v else none
  | none => none

/-- Change the survey of the port's string. -/
def State.modSurvey (s : State) (p : Nat) (f : SurveySt → SurveySt) : State :=
  s.modStr (strOfPort p) (fun x => { x with survey := x.survey.map f })

/-- The port's bit of a survey mask. -/
def bit8 (p : Nat) : BitVec 8 := (1 : BitVec 8) <<< (p % 8)

/-- Bit `[16 + 6 : 16]` of `CAPS`: the cell count. -/
def capsCells (w : Word) : Nat := bitsOf w.toNat 16 7

/-- Step 3 of a port is passed: calibration read with a good CRC, and the policy written and read back (R150); a
standby's policy is written by the active. -/
def State.step3Try (s : State) (p : Nat) : State :=
  let c := tget s.cfe p
  if c.calRead = 256 ∧ (c.policyDone ∨ s.pair.state = some .standby) ∧ (s.surveyWithin p 4500).isSome then
    s.modSurvey p (fun v => { v with step3Done := v.step3Done ||| bit8 p })
  else s

/-- The port fails step 3. -/
def State.step3Fail (s : State) (p : Nat) : State := s.modSurvey p (fun v => { v with step3Bad := v.step3Bad ||| bit8 p })

/-- The identity of a front end has been read (R607, R151). -/
def State.gotIdentity (s : State) (p : Nat) (d : List Word) : State :=
  let w (i : Nat) : Word := (d[i]?).getD 0
  let serial := (upFrom 2 4).flatMap (fun i => le 4 (w i).toNat)
  let s1 := { s with cfe := tmod s.cfe p (fun c =>
    { c with
      serial := serial, serialRead := true, contract := w 0, model := w 1, caps := w 6, fwRun := w 7,
      bank0 := w 8, bank1 := w 9 }) }
  match s1.surveyWithin p 2000 with
  | none => s1
  | some _ =>
    let rec_ := tget s1.jnl.ident p
    let badSerial := decide (rec_ ≠ default) && decide (padTo 16 rec_.serial ≠ serial)
    let badCaps := decide (capsCells (w 6) ≠ s1.cellsOn p) || decide (BitVec.ofNat 16 (w 6).toNat ≠ s1.thOn p)
    let renew := s1.mode.surveyCmds.any (fun c => c.renew && (match (s1.str (strOfPort p)).survey with
      | some v => decide (v.cmd = c.cmd)
      | none => false))
    let bs := badSerial && !renew
    let s2 := s1.modSurvey p (fun v =>
      { v with
        step2Done := v.step2Done ||| bit8 p,
        badSerial := if bs then v.badSerial ||| bit8 p else v.badSerial,
        badCaps := if badCaps then v.badCaps ||| bit8 p else v.badCaps })
    if bs || badCaps then s2 else s2.policyWrite p

/-- Calibration words have been read (Table 5-8). -/
def State.gotCal (s : State) (p addr : Nat) (d : List Word) : State :=
  let off := addr - 0x0100
  let cal := (upFrom 0 d.length).foldl (fun u i => tput u (off + i) ((d[i]?).getD 0)) (tget s.cfe p).cal
  let s1 := { s with cfe := tmod s.cfe p (fun c => { c with cal := cal, calRead := c.calRead + d.length }) }
  if (tget s1.cfe p).calRead < 256 then s1
  else
    let w (i : Nat) : Word := tget cal i
    let crc := crc32c ((upFrom 0 255).flatMap (fun i => le 4 (w i).toNat))
    let s2 := { s1 with cfe := tmod s1.cfe p (fun c =>
      { c with calCrc := w 255, calTime := (w 2).append (w 1) }) }
    if crc = w 255 then s2.step3Try p else s2.step3Fail p

/-- The readback of the policy (R150): equal, or a mismatch at a register. -/
def State.gotReadback (s : State) (p : Nat) (d : List Word) : State :=
  let want := s.cfeCfg.words
  match (upFrom 0 5).find? (fun i => decide ((d[i]?).getD 0 ≠ (want[i]?).getD 0)) with
  | none => ({ s with cfe := tmod s.cfe p (fun c => { c with policyDone := true }) }).step3Try p
  | some i => (s.ev 0x0505 (le 1 p ++ [2] ++ le 2 (0x0020 + i))).step3Fail p

/-- `STATUS` as read; a `RESET_CAUSE` other than 0x01 seen in RUN has the policy written again (R150). -/
def State.statusSeen (s : State) (p : Nat) (w : Word) : State :=
  let s1 : State := { s with cfe := tmod s.cfe p (fun c => { c with status := w }) }
  if bitsOf w.toNat 8 8 ≠ 1 ∧ (s1.lnk p).state = .run then s1.policyWrite p else s1

/-- `STATUS`, `ALARM` and `DIE_TEMP` as read (R151, R152). -/
def State.gotStatus (s : State) (p : Nat) (d : List Word) : State :=
  let w (i : Nat) : Word := (d[i]?).getD 0
  let fresh := (w 1) &&& ~~~(tget s.cfe p).alarm &&& 0x3E
  let s1 : State := { s with cfe := tmod s.cfe p (fun c =>
    { c with alarm := w 1, dieTemp := BitVec.ofNat 16 (w 2).toNat, refreshed := s.now }) }
  let s2 : State := if fresh = 0 then s1
    else
      let e := s1.ev 0x0502 (le 1 p ++ le 4 (w 1).toNat ++ le 1 (s1.lnk p).alarmState)
      if e.leads then e.secQueue p [{ req := .regWrite 0x0011 [(w 1) &&& 0x3F], by_ := .alarmClear }] else e
  s2.statusSeen p (w 0)

/-- `WEAR_STAT` as read for a refresh (R151); `WEAR_VALID` 0 at a survey is journaled (Table 5-13). -/
def State.gotWearStat (s : State) (p : Nat) (w : Word) : State :=
  let s1 := { s with cfe := tmod s.cfe p (fun c => { c with wearStat := w }) }
  if (s1.str (strOfPort p)).survey.isSome ∧ w.getLsbD 0 = false then s1.wearFault p 3 else s1

/-- The read of a commit's outcome (R558): done once `WEAR_VALID` stands with a new `WEAR_SEQ`, else read again. -/
def State.gotWearCheck (s : State) (p : Nat) (w : Word) (t : SecTx) : State :=
  let old := bitsOf (tget s.cfe p).wearStat.toNat 16 16
  if w.getLsbD 0 = true ∧ w.getLsbD 1 = false ∧ bitsOf w.toNat 16 16 ≠ old then
    { s with
      cfe := tmod s.cfe p (fun c => { c with wearStat := w }),
      jnl.feCommits := s.jnl.feCommits.filter (fun c => decide (c.1 ≠ p)) }
  else s.secAgain p { t with seq := none, tries := 0 }

/-- The commit has been accepted: its 200 ms begin (R558). -/
def State.gotCommit (s : State) (p : Nat) : State :=
  { s with jnl.feCommits := s.jnl.feCommits.map (fun (c : Nat × Nat × Nat) => if c.1 = p then (c.1, c.2.1, s.now + 1) else c) }.secQueue p
    [{ req := .regRead 0x0201 1, by_ := .wearCheck }]

/-- The switch of a front end's firmware, as read back (R530). -/
def State.gotFwRun (s : State) (p : Nat) (w : Word) : State :=
  match s.upd.cfe with
  | none => s
  | some j =>
    if w = j.version ∧ bitsOf (tget s.cfe p).status.toNat 8 8 = 2 then (s.cfeSwitch p w 0).cfeDone 3
    else s.cfeFailed 0x0C 0 (some w)

/-- A transaction of a port's `BAL_TARGET` words is over: with the last one they are written, or are to be written again
(R150). -/
def State.gotTarget (s : State) (p : Nat) (good : Bool) : State :=
  if !good then s.modLnk p (fun l =>
    { l with targets := 0, secQueue := l.secQueue.filter (fun t => decide (t.by_ ≠ .target)) })
  else if (s.lnk p).hasSec .target then s
  else s.modLnk p (fun l => { l with targets := if l.targets = 1 then 2 else l.targets })

/-- A transaction is over with a reply code and its data: what its requester does (R105, R106). -/
def State.secDone (s : State) (p : Nat) (t : SecTx) (rstat addr : Nat) (d : List Word) : State :=
  let w := (d[0]?).getD 0
  match t.by_ with
  | .identity =>
    if rstat = 0 then s.gotIdentity p d
    else if (s.surveyWithin p 2000).isSome then s.secAgain p { t with seq := none, tries := 0 } else s
  | .calibration => if rstat = 0 then s.gotCal p addr d else s
  | .policy =>
    if rstat = 0 then
      (s.ev 0x0505 (le 1 p ++ [1] ++ le 2 0x0020)).secQueue p [{ req := .regRead 0x0020 5, by_ := .readback }]
    else s.step3Fail p
  | .readback => if rstat = 0 then s.gotReadback p d else s.step3Fail p
  | .refresh => if rstat ≠ 0 then s else if addr = 0x0010 then s.gotStatus p d else s.gotWearStat p w
  | .alarmClear => s
  | .target => s.gotTarget p (decide (rstat = 0))
  | .wearWrite => if rstat = 0 then s else s.commitFailed p 1
  | .wearCommit => if rstat = 0 then s.gotCommit p else s.commitFailed p 1
  | .wearCheck => if rstat = 0 then s.gotWearCheck p w t else s
  | .fwBlock => s
  | .fwRestart => if rstat = 0 then s.cfeDone 2 else s.cfeFailed 0x0B rstat none
  | .fwCheck =>
    if rstat ≠ 0 then s.cfeFailed 0x0B rstat none
    else if addr = 0x0010 then s.statusSeen p w
    else s.gotFwRun p w
  | .echo => s

/-- A transaction has failed for good (R105): what its requester does. -/
def State.secReport (s : State) (p : Nat) (t : SecTx) : State :=
  match t.by_ with
  | .identity =>
    if (s.surveyWithin p 2000).isSome then s.secAgain p { t with seq := none, tries := 0 } else s
  | .policy | .readback => s.step3Fail p
  | .wearWrite | .wearCommit => s.commitFailed p 1
  | .fwBlock | .fwRestart => s.cfeFailed 0x0B 0 none
  | .fwCheck => s.cfeFailed 0x0C 0 none
  | .echo => (s.modLnk p (fun l => { l with echoTried := l.echoTried + 1 })).measureEnd p
  | .target => s.gotTarget p false
  | .calibration | .refresh | .alarmClear | .wearCheck => s

/-- The outstanding transaction of a port fails (R105): counted, retried in a later frame up to 3 times, then reported. -/
def State.secFail (s : State) (p : Nat) : State :=
  match (s.lnk p).sec with
  | none => s
  | some t =>
    let s1 := (s.secClear p).modLnk p (fun l => { l with nSecFail := sat32u (l.nSecFail + 1) })
    if t.tries < 4 then s1.secAgain p { t with seq := none } else s1.secReport p t

/-- A reply arrives on a port (R91, R93, R105): one that is damaged or malformed is counted and fails the outstanding
transaction, and so does one of another type or `SEQ`; any other is acted on. -/
def State.replyTake (s : State) (p type : Nat) (h : LinkHead) (payload : Bytes) (act : SecTx → State) : State :=
  if !h.intact payload then (s.modLnk p (fun l => { l with nCrc := sat32u (l.nCrc + 1) })).secFail p
  else if !h.formOk true then (s.modLnk p (fun l => { l with nFmt := sat32u (l.nFmt + 1) })).secFail p
  else
    match (s.lnk p).sec with
    | none => s
    | some t => if h.type = type ∧ t.seq = some h.seq then act t else s.secFail p

/-- ECHO_REPLY (R104): the time from the request's reference edge to the end of the reply's SFD, in units of 2.5 ns. -/
def execEchoReply (p : Pulse) (port : PortIx) (h : LinkHead) (ticks : Nat) (s : State) : Host.Outcome State Fault Refusal :=
  let s0 := s.atP p.val
  let q := port.val
  ok ((s0.replyTake q 0x41 h [] (fun t =>
    if t.req ≠ .echo then s0.secFail q
    else
      let v : Int := 5 * (ticks : Int) - 10400
      ((s0.secClear q).modLnk q (fun l =>
        { l with echoes := l.echoes ++ [v], echoTried := l.echoTried + 1 })).measureEnd q)).secStart q)

/-- The reply answers the outstanding request: address, and the count where the request was carried out. -/
def regMatches (t : SecTx) (rstat addr count : Nat) (data : List Word) : Bool :=
  match t.req with
  | .regRead a n => decide (a = addr) && (decide (rstat ≠ 0) || (decide (count = n) && decide (data.length = n)))
  | .regWrite a _ => decide (a = addr) && decide (count = 0)
  | _ => false

/-- REG_DATA (R105): a register read or write is completed. -/
def execRegData (p : Pulse) (port : PortIx) (h : LinkHead) (rstat addr count : Nat) (data : List Word) (s : State) :
    Host.Outcome State Fault Refusal :=
  let s0 := s.atP p.val
  let q := port.val
  ok ((s0.replyTake q 0x22 h (regDataBytes rstat addr count data) (fun t =>
    if regMatches t rstat addr count data then (s0.secClear q).secDone q t rstat addr data else s0.secFail q)).secStart q)

/-- A firmware block is acknowledged (R147, R530): the last one ends step 1 and starts step 2; a code other than 0 fails
the update. -/
def State.gotFwAck (s : State) (p bank rstat : Nat) : State :=
  let s1 := s.secClear p
  if rstat ≠ 0 then
    (s1.modLnk p (fun l => { l with secQueue := l.secQueue.filter (fun x => decide (x.by_ ≠ .fwBlock)) })).cfeFailed
      0x0B rstat none
  else
    let s2 : State := { s1 with upd.cfe := s1.upd.cfe.map (fun (j : CfeFwJob) => { j with sent := j.sent + 1 }) }
    if (s2.lnk p).hasSec .fwBlock then s2
    else (s2.cfeDone 1).secQueue p
      [{ req := .regWrite 0x000B [0x5EED0002 ||| BitVec.ofNat 32 bank], by_ := .fwRestart }]

/-- FW_ACK (R147, R530). -/
def execFwAck (p : Pulse) (port : PortIx) (h : LinkHead) (rstat blockNo : Nat) (s : State) :
    Host.Outcome State Fault Refusal :=
  let s0 := s.atP p.val
  let q := port.val
  ok ((s0.replyTake q 0x31 h (fwAckBytes rstat blockNo) (fun t =>
    match t.req with
    | .fwBlock bank b _ => if b = blockNo then s0.gotFwAck q bank rstat else s0.secFail q
    | _ => s0.secFail q)).secStart q)

/-- SECONDARY_TIMEOUT (R105): no SFD of a reply within 2L + 6,200 ns of the request's reference edge. -/
def execSecondaryTimeout (p : Pulse) (port : PortIx) (s : State) : Host.Outcome State Fault Refusal :=
  ok (((s.atP p.val).secFail port.val).secStart port.val)

/-! ### Status object 0x0410 + p -/

/-- `LINK_PORT` (Table 4-16). -/
def State.objLink (s : State) (p : Nat) : Bytes :=
  let l := s.lnk p
  le 1 l.state.code ++ le 1 (packBits [l.latFault, l.roleConflict, l.slotMismatch, l.tone]) ++
    le 2 (l.latency.getD 0xFFFF) ++ le 2 l.delay ++ le 2 0 ++
    [l.nValid, l.nCrc, l.nFmt, l.nFrame, l.nMissed, l.nRepeats, l.nRecovered, l.nDownMiss, l.nTones,
     l.nSecFail].flatMap (le 4)

end Sys2Proof.Machine
end

