-- ==== Sys2Proof/Machine/TwoWire.lean ====
section
/-! DEFINITION. Area 0x11: the two-wire service port (chapter 16). -/

namespace Sys2Proof.Machine

/-! ### Register images (Tables 16-1, 16-2) -/

/-- Highest `THM_TC_MAX` over the installed strings. -/
def State.twTcMax (s : State) : Int :=
  maxL 0 (s.strings.map (fun k => sat16 (centi (maxL 0 ((s.modelled k).map (fun g => (tget s.cells g).tc))))))

/-- The primary image as the runtime writes it; `TW_AGE` is counted apart. -/
def State.twPrimary (s : State) : Bytes :=
  [0x01, 0, s.sys.hwIssue] ++ le 1 s.sys.slot.code ++ le 4 s.sys.runtime.toNat ++ le 1 s.mode.mode.code ++
    le 1 ((s.pair.state.map PairState.code).getD 0) ++ le 1 s.timeFlags ++ le 1 s.grz.rung ++
    le 2 (s.maskOf s.onBus).toNat ++ leI 2 s.grz.tj ++ leI 2 s.grz.tBase ++ leI 2 s.twTcMax ++ le 4 s.sys.fault.toNat ++
    le 4 s.sys.degraded.toNat ++ le 4 s.sys.imageSeq.toNat

/-- The secondary image as Markhor writes it; `TW_SAFE_REQ` reads 0. -/
def State.twSecondary (s : State) : Bytes :=
  let l := s.tw.lastLatch
  [0x01] ++ le 1 (packBits [decide (s.jnl.safeLatch ≠ 0), s.prot.frozen, s.prot.safeA, s.prot.safeB, s.derateOut,
      s.tw.armed.isSome]) ++ [s.jnl.safeLatch] ++ le 1 s.ilkBits ++
    le 2 (s.maskOf (fun k => (s.pst k).trip)).toNat ++ le 2 s.isolatedMask.toNat ++ le 2 s.protAlarms.toNat ++
    le 6 s.time.markhorFrame ++ le 1 l.1 ++ le 1 l.2.1 ++ le 6 l.2.2 ++ le 4 s.prot.digest.toNat ++
    le 1 s.tw.sport.toNat ++ [0, 0, 0]

/-- TW_PRIMARY_REFRESH (R482): at pulse 999 of every frame in which the runtime runs. -/
def State.twRefresh (s : State) : State := { s with tw.image1 := s.twPrimary, tw.age := 0 }

/-- Markhor writes the secondary image (R482). -/
def State.twMarkhor (s : State) : State := { s with tw.image2 := s.twSecondary }

/-- `TW_AGE` at each frame. -/
def State.twAge (s : State) : State := { s with tw.age := satN 255 (s.tw.age + 1) }

/-- The register image of an address as it stands. -/
def State.twImage (s : State) (secondary : Bool) : Bytes :=
  if secondary then s.tw.image2 else s.tw.image1.take 1 ++ le 1 s.tw.age ++ s.tw.image1.drop 2

/-! ### Transactions (R471 to R479) -/

/-- The secondary address. -/
def TwSt.secondary (t : TwSt) : Nat := t.primary + 4

/-- The data bytes of a read: from the latched image, from the pointer on, wrapping; 0x00 at 0x20 to 0xFF (R473, R476). -/
def TwSt.readBytes (t : TwSt) (ptr sent : Nat) : Bytes := (upFrom ptr sent).map (fun a => (t.latch[a % 256]?).getD 0)

/-- The bytes of the read under way; 0xFF from a port that drives neither line (R477). -/
def TwSt.sentBytes (t : TwSt) (sent : Nat) : Bytes :=
  match t.tx with
  | .read false => t.readBytes t.ptr1 sent
  | .read true => t.readBytes t.ptr2 sent
  | _ => if t.muted then List.replicate sent 0xFF else []

/-- A transaction ends at a START or STOP: its pointer is taken (R473). `sent`: data bytes the controller clocked in a
read. -/
def State.twEnd (s : State) (sent : Nat) : State :=
  let t := { s.tw with line := s.tw.sentBytes sent }
  let s := { s with tw := t }
  match t.tx with
  | .write false (some r) => { s with tw.ptr1 := r, tw.tx := .idle }
  | .write true (some r) => { s with tw.ptr2 := r, tw.tx := .idle }
  | .read false => { s with tw.ptr1 := (t.ptr1 + sent) % 256, tw.tx := .idle }
  | .read true => { s with tw.ptr2 := (t.ptr2 + sent) % 256, tw.tx := .idle }
  | _ => { s with tw.tx := .idle }

/-- TW_ADDRESS (R471, R473, R476, R479): a START, which ends the transaction before it, and an address byte. An own
address is acknowledged; a sleeping port wakes and ignores the transaction; a read latches the image. `sent`: data
bytes the transaction before had sent. -/
def execTwAddress (p : Pulse) (address : BitVec 7) (read : Bool) (sent : Nat) (s : State) :
    Host.Outcome State Fault Refusal :=
  let s0 := (s.atP p.val).twEnd sent
  let s1 := { s0 with tw.muted := false, tw.lastStart := s0.clockUs }
  let sec := decide (address.toNat = s1.tw.secondary)
  ok (if !sec && decide (address.toNat ≠ s1.tw.primary) then { s1 with tw.tx := .ignored }
    else
      let s2 := { s1 with tw.nTrans := sat32u (s1.tw.nTrans + 1) }
      if s2.tw.asleep then
        { s2 with tw.asleep := false, tw.nWake := sat32u (s2.tw.nWake + 1), tw.tx := .ignored }
      else if read then { s2 with tw.tx := .read sec, tw.latch := s2.twImage sec }
      else { s2 with tw.tx := .write sec none })

/-- TW_REGISTER_ADDRESS (R473): the first byte of a write transaction. -/
def execTwRegisterAddress (p : Pulse) (reg : Byte) (s : State) : Host.Outcome State Fault Refusal :=
  let s0 := s.atP p.val
  ok (match s0.tw.tx with
    | .write sec none => { s0 with tw.tx := .write sec (some reg.toNat) }
    | _ => s0)

/-- A data byte of the write transaction under way is one for `TW_SAFE_REQ`. -/
def TwSt.atSafeReq (t : TwSt) : Bool := decide (t.tx = .write true (some 0x1F))

/-- TW_WRITE_DISCARD (R474): a written data byte that is not for `TW_SAFE_REQ` is not acknowledged; the pointer
rises. -/
def execTwWriteDiscard (p : Pulse) (s : State) : Host.Outcome State Fault Refusal :=
  let s0 := s.atP p.val
  ok (match s0.tw.tx with
    | .write sec (some r) =>
      if s0.tw.atSafeReq then s0
      else { s0 with tw.tx := .write sec (some ((r + 1) % 256)), tw.nNack := sat32u (s0.tw.nNack + 1) }
    | _ => s0)

/-! ### The safe-state request (R480, R481) -/

/-- Disarm a request that is armed; `flag` for a timeout or a value (`TW_S_PORT` bit 3). -/
def State.twDisarm (s : State) (flag : Bool) : State :=
  if s.tw.armed.isSome then
    { s with tw.armed := none, tw.nDisarm := sat32u (s.tw.nDisarm + 1),
             tw.sport := if flag then s.tw.sport ||| 8 else s.tw.sport }
  else s

/-- The 100 ms after arming have passed. -/
def State.twLapsed (s : State) : Bool :=
  match s.tw.armed with
  | some t => decide (t + 100000 < s.clockUs)
  | none => false

/-- An armed request whose 100 ms have passed is disarmed. -/
def State.twLapse (s : State) : State := if s.twLapsed then s.twDisarm true else s

/-- The request is completed (R481): a Safe cause in every mode but Safe, where it is journaled only. -/
def State.twComplete (s : State) : State :=
  let s1 := { s with tw.armed := none, tw.nReq := sat32u (s.tw.nReq + 1) }
  let safe := decide (s.mode.mode = .safe)
  let s2 := s1.ev 0x1101 ([if safe then 2 else 1] ++ le 1 s.mode.mode.code ++ le 1 s.tw.secondary)
  if safe then s2 else s2.enterSafe 0x04 0

/-- A byte written to `TW_SAFE_REQ` takes effect at its STOP (R480). -/
def State.twCommit (s : State) (b : Byte) : State :=
  let s1 := s.twLapse
  if b = 0xA5 then { s1 with tw.armed := some s1.clockUs }
  else if b = 0x5A then
    if s1.tw.armed.isSome then s1.twComplete
    else { s1 with tw.nDisarm := sat32u (s1.tw.nDisarm + 1), tw.sport := s1.tw.sport ||| 4 }
  else s1.twDisarm true

/-- TW_STOP (R473, R474): the transaction ends; `data`, its bytes written to `TW_SAFE_REQ`, take effect in order. The
rows TW_SAFE_REQ_ARM, _COMPLETE and _DISARM give such a byte as a command of its own. -/
def execTwStop (p : Pulse) (sent : Nat) (data : Bytes) (s : State) : Host.Outcome State Fault Refusal :=
  let s0 := s.atP p.val
  let s1 := if s0.tw.atSafeReq then data.foldl State.twCommit s0 else s0
  ok ({ s1.twEnd sent with tw.muted := false }.twMarkhor)

/-- TW_SAFE_REQ_ARM (R480): a committed 0xA5. -/
def execTwSafeReqArm (p : Pulse) (s : State) : Host.Outcome State Fault Refusal :=
  ok (((s.atP p.val).twCommit 0xA5).twMarkhor)

/-- TW_SAFE_REQ_COMPLETE (R480, R481): a committed 0x5A. -/
def execTwSafeReqComplete (p : Pulse) (s : State) : Host.Outcome State Fault Refusal :=
  ok (((s.atP p.val).twCommit 0x5A).twMarkhor)

/-- TW_SAFE_REQ_DISARM (R480): a committed byte of any other value. -/
def execTwSafeReqDisarm (p : Pulse) (value : Byte) (s : State) : Host.Outcome State Fault Refusal :=
  ok (((s.atP p.val).twCommit value).twMarkhor)

/-- TW_ARM_TIMEOUT (R480): 100 ms have passed since the STOP that armed the request. -/
def execTwArmTimeout (p : Pulse) (s : State) : Host.Outcome State Fault Refusal :=
  let s0 := s.atP p.val
  ok ((match s0.tw.armed with
    | some t => if t + 100000 ≤ s0.clockUs then s0.twDisarm true else s0
    | none => s0).twMarkhor)

/-! ### Errors, read-clear, sleep -/

/-- TW_BAD_CONDITION (R475): a START or STOP at a wrong bit position ends the transaction; nothing is written. -/
def execTwBadCondition (p : Pulse) (start : Bool) (s : State) : Host.Outcome State Fault Refusal :=
  let s0 := s.atP p.val
  ok { s0 with tw.tx := .idle, tw.muted := false, tw.lastStart := if start then s0.clockUs else s0.tw.lastStart }

/-- TW_S_PORT_READ_CLEAR (Table 16-2): the flags sent, from the latched image, in a read of the secondary address are
cleared; one set since the latch stays. -/
def execTwSPortReadClear (p : Pulse) (s : State) : Host.Outcome State Fault Refusal :=
  let s0 := s.atP p.val
  ok (if s0.tw.tx = .read true then
      { s0 with tw.sport := s0.tw.sport &&& ~~~ BitVec.ofNat 4 ((s0.tw.latch[0x1C]?).getD 0).toNat }.twMarkhor
    else s0)

/-- A fault of the bus (R485): journaled at the first of its class in each second. -/
def State.twFault (s : State) (first : Bool) (kind count : Nat) : State := s.evIf first 0x1102 (le 1 kind ++ le 4 count)

/-- TW_STRETCH_TIMEOUT (R477): 10 ms of stretching after a read address byte. -/
def execTwStretchTimeout (p : Pulse) (s : State) : Host.Outcome State Fault Refusal :=
  let s0 := s.atP p.val
  let n := s0.tw.stretchSec + 1
  let s1 := s0.twFault (decide (n = 1)) 1 n
  ok ({ s1 with tw.tx := .idle, tw.muted := true, tw.sport := s1.tw.sport ||| 1, tw.stretchSec := n,
                tw.nStretch := sat32u (s1.tw.nStretch + 1) }.twMarkhor)

/-- TW_STUCK_BUS (R478): SCL, or SDA with SCL high, held low for more than 35 ms. -/
def execTwStuckBus (p : Pulse) (sda : Bool) (s : State) : Host.Outcome State Fault Refusal :=
  let s0 := s.atP p.val
  let n := s0.tw.stuckSec + 1
  let s1 := (s0.twFault (decide (n = 1)) (if sda then 3 else 2) n).twDisarm false
  ok ({ s1 with tw.tx := .idle, tw.ptr1 := 0, tw.ptr2 := 0, tw.sport := s1.tw.sport ||| 2, tw.stuckSec := n,
                tw.nStuck := sat32u (s1.tw.nStuck + 1), tw.lastStuck := some s1.now }.twMarkhor)

/-- TW_SLEEP (R479): in Rest, 2 s without a START. -/
def execTwSleep (p : Pulse) (s : State) : Host.Outcome State Fault Refusal :=
  let s0 := s.atP p.val
  ok (if s0.mode.mode = .rest ∧ s0.tw.lastStart + 2000000 ≤ s0.clockUs then { s0 with tw.asleep := true } else s0)

/-- `TW_STATUS` (Table 16-6). -/
def State.objTw (s : State) : Bytes :=
  let t := s.tw
  le 1 t.primary ++ le 1 t.secondary ++ le 1 (b2n t.asleep) ++ le 1 0 ++
    [t.nTrans, t.nNack, t.nStretch, t.nStuck, t.nWake, t.nReq, t.nDisarm].flatMap (le 4)

end Sys2Proof.Machine
end

