-- ==== Sys2Proof/Machine/StatusRead.lean ====
section
/-! DEFINITION. Every status object by its index (R11), as `STATUS_READ` and the pushes send it. -/

namespace Sys2Proof.Machine

/-- `SYS_HEALTH`: fault bits, degraded bits, count of changes (Table 1-8). -/
def State.objHealth (s : State) : Bytes :=
  le 4 s.sys.fault.toNat ++ le 4 s.sys.degraded.toNat ++ le 4 (sat32u s.sys.changes)

/-- `PROT_STRING` (Table 11-14); a string not installed reports 0 (R340). -/
def State.objProtString (s : State) (k : Nat) : Bytes :=
  if !s.installed k then List.replicate 32 0
  else
    let q := s.pst k
    let v (g : Nat) : Int := (tget s.mkCell g).v
    let gs := (s.cellsOf k).filter (fun g => (tget s.mkCell g).seen)
    let hi := (argMax v gs).getD 0
    let lo := (argMax (fun g => -(v g)) gs).getD 0
    let ts := ((s.thsOf k).filter (fun i => (tget s.mkTh i).seen)).map s.mkThValue
    let runs := (s.fittedOf k).map (fun p => ((tget s.prot.port p).missRun : Int))
    le 2 (q.warn ||| q.tripStage).toNat ++ le 1 q.firstOut ++ [s.actions k] ++ le 2 q.latched.toNat ++
      le 1 (satN 255 (muldiv q.i2t 100 (s.i2tK k)).toNat) ++ le 1 (satN 255 (maxL 0 runs).toNat) ++
      le 2 hi ++ leI 4 (v hi) ++ le 2 lo ++ leI 4 (v lo) ++ leI 2 (maxL 0 ts) ++ leI 2 (q.model.getD 0) ++
      le 6 q.latchFrame ++ le 2 0

/-- `SITE_STATUS` (Table 14-17). -/
def State.objSite (s : State) : Bytes :=
  let t := s.site
  let st : Nat := match t.sstate with
    | .none => 0
    | .opening => 1
    | .opened => 2
  le 1 st ++ le 1 (t.port.getD 0xFF) ++ le 1 (packBits [t.link0, t.link1]) ++ le 1 0 ++ le 4 t.session.toNat ++
    le 6 t.opened ++ le 2 (t.ledger.filter (fun e => decide (e.2.state ≠ .empty))).length ++
    [t.nRx, t.nFmt, t.nTag, t.nReplay, t.nBusy, t.nLapse].flatMap (le 4) ++ le 4 t.newest.toNat ++ le 4 0

/-- `WIN_STATUS`. -/
def State.objWin (s : State) : Bytes :=
  let used (f : Nat → Bool) : Nat := (s.site.pages.filter (fun e => f e.1 && decide (e.2.owner ≠ .free))).length
  le 2 (12288 - used isOutbound) ++ le 2 (4096 - used isInbound) ++
    le 2 (s.site.pages.filter (fun e => decide (e.2.owner = .poisoned))).length ++
    le 1 (s.site.captures.filter (fun (c : Capture) => !c.recording)).length ++ le 1 (b2n s.site.stalled) ++ le 8 0

/-- `WIN_STREAM` of stream `i`. -/
def State.objStream (s : State) (i : Nat) : Bytes :=
  let ps := s.streamPages i
  let x := tget s.site.streams i
  let n (o : Owner) : Nat := (ps.filter (fun e => decide (e.2.owner = o))).length
  le 2 (n .module) ++ le 2 (n .partner) ++ le 2 (streamQuota i) ++
    le 2 (ps.filter (fun e => decide (e.2.owner = .module) && e.2.complete)).length ++ le 6 x.nextSeq ++ le 2 0 ++
    le 4 x.lost ++ le 4 x.poisoned

/-- Index `b + i` for an `i` below a bound. -/
def inRange (idx b n : Nat) : Bool := decide (b ≤ idx) && decide (idx < b + n)

/-- The body of every status object; none for an index no chapter defines. -/
def State.object (s : State) (idx : Nat) : Option Bytes :=
  match s.statusObject idx with
  | some b => some b
  | none =>
    if idx = 0x0102 then some s.objHealth
    else if inRange idx 0x0410 128 then some (s.objLink (idx - 0x0410))
    else if inRange idx 0x0610 16 then some (s.objMeas (idx - 0x0610))
    else if inRange idx 0x0710 16 then some (s.objEstString (idx - 0x0710))
    else if inRange idx 0x0810 16 then some (s.objThm (idx - 0x0810))
    else if inRange idx 0x0910 16 then some (s.objHerd (idx - 0x0910))
    else if idx = 0x0A02 then some s.objOutputs
    else if inRange idx 0x0A10 16 then some (s.objPort (idx - 0x0A10))
    else if inRange idx 0x0A30 64 then some (s.objLoop (idx - 0x0A30))
    else if inRange idx 0x0B10 16 then some (s.objProtString (idx - 0x0B10))
    else if inRange idx 0x0C10 16 then some (s.objDspString (idx - 0x0C10))
    else if idx = 0x0D01 then some s.objGraze
    else if idx = 0x0F01 then some s.objSite
    else if idx = 0x0F02 then some s.objWin
    else if inRange idx 0x0F10 5 ∨ idx = 0x0F18 then some (s.objStream (idx - 0x0F10))
    else if idx = 0x1001 then some s.objCanContainer
    else if inRange idx 0x1010 2 then some (s.objCanCtrl (idx - 0x1010))
    else if inRange idx 0x1020 2 then some (s.objCanObjects (idx - 0x1020))
    else if idx = 0x1101 then some s.objTw
    else none

end Sys2Proof.Machine
end

