-- ==== Sys2Proof/Machine/Site.lean ====
section
/-! DEFINITION. The site link (chapter 14): validity of messages, the session, commands and the ledger's answers, status
and window messages, captures, and what the module pushes. -/

namespace Sys2Proof.Machine

/-! ### Valid messages (R412, R413) -/

/-- The site link is served (Table 3-1, R414): not in Fill, nor in Load outside the configuration-fault hold, nor in
Safe after a Fill failure; it needs a runtime. -/
def State.siteServed (s : State) : Bool :=
  s.runtimeRuns && (decide (s.mode.mode ≠ .load) || s.mode.configHold)

/-- A sequence is new (R413): above the highest accepted, or up to 63 below it and not yet accepted. -/
def SiteSt.fresh (t : SiteSt) (q : Nat) : Bool :=
  match t.seqTop with
  | none => true
  | some top => decide (top < q) || (decide (top ≤ q + 63) && decide (q ≠ top) && !t.seqSeen.contains q)

/-- Accept a sequence. -/
def SiteSt.take (t : SiteSt) (q : Nat) : SiteSt :=
  let top := match t.seqTop with
    | none => q
    | some x => max x q
  { t with seqTop := some top, seqSeen := (q :: t.seqSeen).filter (fun x => decide (top ≤ x + 63)) }

/-- Record where a valid message came from (R416). -/
def SiteSt.heard (t : SiteSt) (port addr : Nat) : SiteSt :=
  let t1 : SiteSt := { t with port := some port }
  if port = 0 then { t1 with addr0 := some addr } else { t1 with addr1 := some addr }

/-- The first valid message of an OPENING session opens it (Table 14-2, R443): records committed before are not pushed
(R427). -/
def State.sessionOpens (s : State) : State :=
  if s.site.sstate = .opening then
    let s1 : State := { s with
      site.sstate := .opened, site.opened := s.now,
      site.pushed := tput (tput (tput [] 0 s.jnl.safety.next) 1 s.jnl.event.next) 2 s.jnl.audit.next }
    s1.ev 0x0F01 ([1] ++ le 4 s1.site.session.toNat ++ le 1 (s1.site.port.getD 0xFF) ++ le 1 s1.site.certRole.code)
  else s

/-- Count a discard. -/
def State.countFmt (s : State) : State := { s with site.nFmt := sat32u (s.site.nFmt + 1) }

/-- Take a valid message (R413, R415, R416): its sequence, where it came from, its frame. -/
def State.acceptMsg (s : State) (m : SiteIn) : State :=
  let t := (s.site.take m.seq).heard m.port.val m.addr
  { s with site := { t with nRx := sat32u (t.nRx + 1), lastValid := s.now } }.sessionOpens

/-- Check 4 of R412: the tag under the key of the claimed role; a role that the session's certificate does not hold has
no tag key (R573). -/
def State.tagOk (s : State) (m : SiteIn) (payload : Bytes) : Bool :=
  m.claim.isSome && roleAtLeast s.site.certRole m.role &&
    decide (m.tag = siteTag (tagKey s.site.prk s.site.session m.roleBits 0) (m.head ++ payload))

/-- The five checks of R412 on a datagram of a type outside `SESSION_OPEN`; a message that passes them all acts by `go`.
A type that is reserved or no partner's is a format error, judged with its version (log 197). -/
def State.onValid (s : State) (m : SiteIn) (type : Nat) (payload : Bytes) (go : State → State) : State :=
  if !s.siteServed then s
  else if !m.formOk payload || decide (m.type ≠ type) || !m.digestOk payload || decide (s.site.sstate = .none) ||
      decide (m.session ≠ s.site.session) then s.countFmt
  else if !s.tagOk m payload then { s with site.nTag := sat32u (s.site.nTag + 1) }
  else if !s.site.fresh m.seq then { s with site.nReplay := sat32u (s.site.nReplay + 1) }
  else go (s.acceptMsg m)

/-! ### The session (R414, R415, R568 to R572) -/

/-- Why a `SESSION_OPEN` is refused, by cause of `ACC_AUTH_FAIL`: profile, chain, deny list, validity, signature. In the
configuration-fault hold no plant CA is known (R65, R570). -/
def State.openFault (s : State) (o : OpenIn) : Option Nat :=
  let viaCa := o.ca.isSome
  let sized := decide (1 ≤ o.certs.length) && decide (o.certs.length ≤ 3) && decide (o.certs.flatten.length ≤ 1244)
  let known := match o.ca with
    | some c => s.acc.plantCa.contains c && !s.mode.configHold
    | none => true
  if !sized || !o.profileOk || (viaCa && decide (o.role = .installer) && !s.acc.maxInstaller) ||
      (decide (o.role = .maker) && viaCa) || (decide (o.role ≠ .maker) && !viaCa) then some 5
  else if !o.chainOk || !known || decide (some o.root ≠ s.currentRoot) then some 1
  else if o.chain.any (fun f => s.acc.denyOtp.contains f || s.acc.denyImg.contains f) then some 3
  else if s.acc.validity && !s.time.unsynced && !o.validNow then some 4
  else if !o.sigOk then some 2
  else none

/-- A refused `SESSION_OPEN` (R579): counted; journaled at the first of each second. -/
def State.authFail (s : State) (cause : Nat) (o : OpenIn) : State :=
  let n := s.acc.failsSec + 1
  let s1 := s.evIf (decide (n = 1)) 0x1502 (le 1 cause ++ le 8 ((o.chain.head?.map (·.toNat)).getD 0) ++ le 4 n)
  { s1 with acc.failsSec := n, acc.authFails := sat32u (s1.acc.authFails + 1) }

/-- A session ID: a random non-zero number (R571). -/
def State.freshSession (s : State) : Word × State :=
  let w := Config.freeWord s.free
  (if w = 0 then 1 else w, { s with free := s.free + 1 })

/-- SESSION_OPEN (R411, R412, R414, R568 to R572). -/
def execSessionOpen (p : Pulse) (m : SiteIn) (o : OpenIn) (s : State) : Host.Outcome State Fault Refusal :=
  let s0 := s.atP p.val
  ok (if !s0.siteServed then s0
    else if !m.formOk o.bytes || decide (m.type ≠ 1) || !m.digestOk o.bytes || decide (o.ver ≠ 1) then s0.countFmt
    else if m.tag ≠ List.replicate 16 0 then { s0 with site.nTag := sat32u (s0.site.nTag + 1) }
    else if s0.site.sstate ≠ .none then
      let s1 := s0.ev 0x0F01 ([5] ++ le 4 s0.site.session.toNat ++ le 1 m.port.val ++ le 1 s0.site.certRole.code)
      { s1 with site.nBusy := sat32u (s1.site.nBusy + 1) }.send 0x02 false (le 2 Status.refusedBusy.code ++ [0, 0])
    else
      match s0.openFault o with
      | some c => s0.authFail c o
      | none =>
        let f := s0.freshSession
        let t := f.2.site.heard m.port.val m.addr
        let s1 : State := { f.2 with
          site := { t with
            sstate := .opening, session := f.1, prk := o.prk, certRole := o.role, makerChain := o.ca.isNone, openingAt := s0.now,
            lastValid := s0.now, seqTop := none, seqSeen := [] },
          acc.fpr := o.chain.head?.getD 0, acc.chain := o.chain, acc.chainRoot := some o.root }
        s1.send 0x01 false (openBytes 1 o.ourNonce o.ourEph s1.sys.certChain o.ourSig))

/-- SESSION_CLOSE (Table 14-2), with the status code it carries. -/
def execSessionClose (p : Pulse) (m : SiteIn) (code : BitVec 16) (s : State) : Host.Outcome State Fault Refusal :=
  ok ((s.atP p.val).onValid m 0x02 (le 2 code.toNat ++ [0, 0]) (fun t => t.endSession 0x02))

/-- SITE_HEARTBEAT_RX (R415): the message alone opens or refreshes the session. -/
def execSiteHeartbeatRx (p : Pulse) (m : SiteIn) (s : State) : Host.Outcome State Fault Refusal :=
  ok ((s.atP p.val).onValid m 0x03 [] (fun t => t))

/-- SESSION_OPENING_TIMEOUT (Table 14-2): 1 s without a valid tagged message. -/
def execSessionOpeningTimeout (p : Pulse) (s : State) : Host.Outcome State Fault Refusal :=
  let s0 := s.atP p.val
  ok (if s0.site.sstate = .opening ∧ s0.site.openingAt + 1000 ≤ s0.now then s0.endSession 0x06 else s0)

/-- SESSION_LAPSE (Table 14-2): 3 s without a valid message. -/
def execSessionLapse (p : Pulse) (s : State) : Host.Outcome State Fault Refusal :=
  let s0 := s.atP p.val
  ok (if s0.site.sstate = .opened ∧ s0.site.lastValid + 3000 ≤ s0.now then
      { s0.endSession 0x03 with site.nLapse := sat32u (s0.site.nLapse + 1) }
    else s0)

/-! ### Commands and the ledger (R420 to R424) -/

/-- Send a `COMMAND_RESULT` with an entry and flags. -/
def State.answer (s : State) (e : LedgerEntry) (flags : Nat) : State := s.sendPairOpen 0x11 (e.bytes flags)

/-- `SITE_L_DIGEST`: CRC-32C of the command's code, length and body. -/
def commandDigest (code : Nat) (body : Bytes) : Word := crc32c ((commandBytes 0 code body).drop 4)

/-- An entry that has ended. -/
def LedgerEntry.ended (e : LedgerEntry) : Bool :=
  decide (e.state ∈ [LedgerState.done, .failed, .refused])

/-- The slot a new command takes (R422): the lowest empty one, else the ended one that changed longest ago. -/
def State.newSlot (s : State) : Option Nat :=
  match (upFrom 0 1024).find? (fun k => decide ((tget s.site.ledger k).state = .empty)) with
  | some k => some k
  | none =>
    let old := s.site.ledger.filter (fun e => e.2.ended)
    match old with
    | [] => none
    | a :: t => some (t.foldl (fun (m : Nat × LedgerEntry) e => if e.2.changed < m.2.changed then e else m) a).1

/-- A `COMMAND` in its frame of arrival (R420, R422). -/
def State.commandIn (s : State) (id : Word) (code : Nat) (body : Bytes) (role : Role) (seq : Nat) : State :=
  let d := commandDigest code body
  let fresh : LedgerEntry := { id := id, code := code, state := .pending, role := role, arrival := s.now, digest := d,
                               changed := s.now, body := body, seq := seq }
  if id = 0 then s.answer { fresh with state := .refused, status := .refusedFormat } 0
  else
    match s.entry id with
    | some e => s.answer e (if e.digest = d then 1 else 3)
    | none =>
      match s.newSlot with
      | none => s.answer { fresh with state := .refused, status := .refusedBusy } 0
      | some k =>
        let s1 : State := { s with site.ledger := tput s.site.ledger k fresh, site.newest := id }
        let s2 := s1.itemIn { id := id, seq := seq, digest := d, frame := s.now, body := .command code role seq body }
        s2.answer ((s2.entry id).getD fresh) 0

/-- COMMAND (R420). -/
def execCommand (p : Pulse) (m : SiteIn) (id : Word) (code : BitVec 16) (body : Bytes) (s : State) :
    Host.Outcome State Fault Refusal :=
  ok ((s.atP p.val).onValid m 0x10 (commandBytes id code.toNat body) (fun t => t.commandIn id code.toNat body m.role m.seq))

/-- COMMAND_STATUS (R423). -/
def execCommandStatus (p : Pulse) (m : SiteIn) (id : Word) (s : State) : Host.Outcome State Fault Refusal :=
  ok ((s.atP p.val).onValid m 0x12 (le 4 id.toNat) (fun t =>
    match t.entry id with
    | some e => t.answer e 4
    | none => t.answer { id := id, status := .unknown, steps := 0 } 4))

/-- At the end of Load (R424): what was under way is FAILED_ABORTED, but for commands that resume across a start. -/
def State.ledgerAtLoad (s : State) (resumes : LedgerEntry → Bool) : State :=
  { s with site.ledger := s.site.ledger.map (fun (e : Nat × LedgerEntry) =>
      let x := e.2
      if x.state = .pending then (e.1, { x with state := .failed, status := .failedAborted, step := 0, changed := s.now })
      else if (x.state = .accepted ∨ x.state = .started) ∧ !resumes x then
        (e.1, { x with state := .failed, status := .failedAborted, changed := s.now })
      else e) }

/-! ### Status and window messages (R426, R430 to R435) -/

/-- STATUS_READ: an unknown index is answered with REFUSED_FORMAT and no body. -/
def execStatusRead (p : Pulse) (m : SiteIn) (index : BitVec 16) (s : State) : Host.Outcome State Fault Refusal :=
  ok ((s.atP p.val).onValid m 0x20 (statusReadBytes index.toNat) (fun t =>
    let r := t.object index.toNat
    let st := if r.isSome then Status.ok else .refusedFormat
    t.send 0x20 false (le 6 m.seq ++ le 2 st.code ++ le 2 index.toNat ++ [0, 0] ++ r.getD [])))

/-- A `WINDOW_READ` reply. -/
def State.windowReply (s : State) (seq : Nat) (st : Status) (page chunk : Nat) (data : Bytes) : State :=
  s.send 0x30 false (le 6 seq ++ le 2 st.code ++ le 2 page ++ le 1 chunk ++ le 3 0 ++ data)

/-- WINDOW_READ (R430). -/
def execWindowRead (p : Pulse) (m : SiteIn) (page : Fin 16384) (gen : BitVec 16) (chunk : Fin 4) (s : State) :
    Host.Outcome State Fault Refusal :=
  ok ((s.atP p.val).onValid m 0x30 (windowBytes page.val gen.toNat chunk.val) (fun t =>
    let g := t.page page.val
    let reply := fun (st : Status) (d : Bytes) => t.windowReply m.seq st page.val chunk.val d
    if g.owner = .poisoned then reply .failedFault (padTo 64 g.header)
    else if g.owner = .partner ∧ (gen = 0xFFFF ∨ gen.toNat = g.gen) then
      reply .ok (slice g.image (1040 * chunk.val) 1040)
    else reply .notOwner []))

/-- Write 1,024 bytes into a page's payload at a chunk. -/
def Page.putChunk (g : Page) (chunk : Nat) (d : Bytes) (now : Nat) : Page :=
  let b := padTo 4096 g.payload
  { g with
    payload := b.take (1024 * chunk) ++ padTo 1024 d ++ b.drop (1024 * chunk + 1024), written := true, frame := now }

/-- WINDOW_WRITE (R431). -/
def execWindowWrite (p : Pulse) (m : SiteIn) (page : Fin 16384) (gen : BitVec 16) (chunk : Fin 4) (data : Bytes)
    (s : State) : Host.Outcome State Fault Refusal :=
  ok ((s.atP p.val).onValid m 0x31 (windowBytes page.val gen.toNat chunk.val ++ data) (fun t =>
    let g := t.page page.val
    let reply := fun (u : State) (st : Status) => u.windowReply m.seq st page.val chunk.val []
    if g.owner = .poisoned then reply t .failedFault
    else if isInbound page.val ∧ g.owner = .partner ∧ gen.toNat = g.gen then
      reply (t.modPage page.val (fun x => x.putChunk chunk.val data t.now)) .ok
    else reply t .notOwner))

/-- A request for a change of ownership waits for the hand-over slot (R428). -/
def State.winAsk (s : State) (r : WinReq) : State := { s with site.winReqs := s.site.winReqs ++ [r] }

/-- PAGE_RELEASE (R432): pages and generations. -/
def execPageRelease (p : Pulse) (m : SiteIn) (entries : List (Nat × Nat)) (s : State) :
    Host.Outcome State Fault Refusal :=
  ok ((s.atP p.val).onValid m 0x32 (handoverBytes 0x02 entries.length (entries.map (fun e => handoverItem e.1 e.2 0 0)))
    (fun t => t.winAsk (.release entries)))

/-- PAGE_CLAIM (R433). -/
def execPageClaim (p : Pulse) (m : SiteIn) (count : Nat) (s : State) : Host.Outcome State Fault Refusal :=
  ok ((s.atP p.val).onValid m 0x32 (handoverBytes 0x03 count []) (fun t => t.winAsk (.claim count)))

/-- PAGE_RETURN (R434): pages, generations, lengths and CRCs. -/
def execPageReturn (p : Pulse) (m : SiteIn) (entries : List (Nat × Nat × Nat × Word)) (s : State) :
    Host.Outcome State Fault Refusal :=
  ok ((s.atP p.val).onValid m 0x32 (handoverBytes 0x04 entries.length
    (entries.map (fun e => handoverItem e.1 e.2.1 e.2.2.1 e.2.2.2))) (fun t => t.winAsk (.return_ entries)))

/-- A command that has not ended names an inbound page. -/
def State.pageNamed (s : State) (pg : Nat) : Bool :=
  s.site.ledger.any (fun e => decide (e.2.state ∈ [LedgerState.pending, .accepted, .started]) && e.2.pages.contains pg)

/-- INBOUND_PAGE_EXPIRE (R435, R443): 60 s after its `RETURN`. -/
def execInboundPageExpire (p : Pulse) (page : Fin 16384) (s : State) : Host.Outcome State Fault Refusal :=
  let s0 := s.atP p.val
  ok (if s0.ownsInbound page.val ∧ (s0.page page.val).returned + 60000 ≤ s0.now ∧ !s0.pageNamed page.val then
      (s0.winAsk (.freed [page.val] .failedTimeout)).winLoss 8 5
    else s0)

/-- The 64-byte header of a capture (R438). -/
def Capture.header (c : Capture) : Bytes :=
  padTo 64 (le 1 c.s ++ le 1 c.fn ++ le 2 0 ++ le 6 c.frame ++ le 2 c.pulse ++ le 4 40000)

/-- TRIP_CAPTURE (R438): a capture completes 19,999 pulses after its decision and waits for its pages; `samples` are the
port's sinc3 samples of the 40,000 pulses. -/
def execTripCapture (p : Pulse) (str : StrIx) (samples : Bytes) (s : State) : Host.Outcome State Fault Refusal :=
  let s0 := s.atP p.val
  ok { s0 with site.captures := s0.site.captures.map (fun (c : Capture) =>
      if c.s = str.val ∧ c.recording ∧ c.frame * 1000 + c.pulse + 19999 ≤ s0.now * 1000 + p.val then
        { c with recording := false, data := c.header ++ padTo 480000 samples }
      else c) }

/-- SITE_PORT_LINK_CHANGE (R416): messages go to the other port while the link is down. -/
def execSitePortLinkChange (p : Pulse) (port : Fin 2) (up : Bool) (s : State) : Host.Outcome State Fault Refusal :=
  let s0 := s.atP p.val
  ok (if port.val = 0 then { s0 with site.link0 := up } else { s0 with site.link1 := up })

/-! ### What the module sends of itself (R415, R426, R427) -/

/-- SITE_HEARTBEAT_SEND (R415): in frames with F ≡ 0 mod 100. -/
def State.siteHeartbeat (s : State) : State :=
  if s.site.sstate = .opened ∧ s.now % 100 = 0 then
    s.send 0x03 false (le 1 s.mode.mode.code ++ le 1 ((s.pair.state.map PairState.code).getD 0xFF) ++ le 1 s.timeFlags ++
      [0] ++ le 4 s.site.newest.toNat)
  else s

/-- Items of a `STATUS_PUSH`: index, length, body. -/
def State.pushItems (s : State) (idx : List Nat) : List Bytes :=
  idx.filterMap (fun i => (s.object i).map (fun b => le 2 i ++ le 2 b.length ++ b))

/-- Items packed in order into messages of at most 1,396 bytes of items. -/
def packItems (l : List Bytes) : List (List Bytes) :=
  l.foldl (fun (gs : List (List Bytes)) a =>
    match gs.getLast? with
    | some g => if a.length + g.flatten.length ≤ 1396 then gs.dropLast ++ [g ++ [a]] else gs ++ [[a]]
    | none => [[a]]) []

/-- One `STATUS_PUSH` payload. -/
def pushPayload (part parts : Nat) (items : List Bytes) : Bytes :=
  le 1 part ++ le 1 parts ++ le 1 items.length ++ [0] ++ items.flatten

/-- DISPATCH_PUSH (R426): the dispatch set in frames with F ≡ 0 mod 100, one message; then, in frames with
F ≡ 0 mod 1,000, the objects of `SITE_PUSH` in list order. -/
def State.statusPush (s : State) : State :=
  let s1 := if s.now % 100 = 0 then
      s.sendPairOpen 0x21 (pushPayload 1 1 (s.pushItems ([0x0301, 0x0C01] ++ s.strings.map (0x0C10 + ·))))
    else s
  if s1.site.sstate = .opened ∧ s1.now % 1000 = 0 then
    let gs := packItems (s1.pushItems s1.site.push)
    (gs.zip (upFrom 1 gs.length)).foldl (fun u e => u.send 0x21 false (pushPayload e.2 gs.length e.1)) s1
  else s1

/-- Groups of 21 records. -/
def groups21 {α : Type} : Nat → List α → List (List α)
  | 0, _ => []
  | n + 1, l => if l = [] then [] else l.take 21 :: groups21 n (l.drop 21)

/-- The records of a journal committed before the present frame and not yet pushed, oldest first. -/
def State.toPush (s : State) (j : JournalId) : List JRec :=
  ((s.ring j).recs.filter (fun r =>
    decide (tget s.site.pushed j.code ≤ r.seq) && decide (r.seq < tget s.site.pushMark j.code))).reverse

/-- EVENT_PUSH (R427): at pulse 950 of the frame after their commit, in commit order per journal. -/
def State.eventPush (s : State) : State :=
  if s.site.sstate = .opened then
    [JournalId.safety, .event, .audit].foldl (fun (u : State) j =>
      let rs := u.toPush j
      let u1 := (groups21 (rs.length / 21 + 1) rs).foldl (fun (v : State) g =>
        v.send 0x22 false (le 1 j.code ++ le 1 g.length ++ [0, 0] ++ g.flatMap JRec.bytes)) u
      let n := max (tget u1.site.pushed j.code) (tget u1.site.pushMark j.code)
      { u1 with site.pushed := tput u1.site.pushed j.code n }) s
  else s

/-- The first pushes of a frame can hold what was committed before it. -/
def State.markPush (s : State) : State :=
  { s with site.pushMark := tput (tput (tput [] 0 s.jnl.safety.next) 1 s.jnl.event.next) 2 s.jnl.audit.next }

/-- At the frame strobe: the module outputs that waited go first (R417). -/
def State.siteFrame (s : State) : State :=
  let w := s.site.waiting
  let s1 : State := { s.markPush with site.sent := [], site.nModOut := 0, site.waiting := [] }
  w.foldl (fun u m => u.send m.type false m.payload) s1

end Sys2Proof.Machine
end

