-- ==== Sys2Proof/Machine/Survey.lean ====
section
/-! DEFINITION. The end of the start-up Survey (R66 to R68): the states of the strings, the mode, the safe outputs. -/

namespace Sys2Proof.Machine

/-- The row of Table 3-6 that a string matches at the end of the start-up Survey: its state and cause. -/
def State.startOutcome (s : State) (k : Nat) : SState × Byte :=
  let o := s.str k
  if o.keptClosed && (s.pp k).hold then (if s.inhChg k then (.held, 0x0D) else (.closed, 0))
  else if (s.pst k).latched ≠ 0 then (.isolated, 0x08)
  else if o.state = .service then (.service, 0x0C)
  else match o.survey with
    | some v => s.surveyResult k v false
    | none => (o.state, o.cause)

/-- A string takes its state at the end of the start-up Survey (R66). -/
def State.startTake (s : State) (k : Nat) : State :=
  let r := s.startOutcome k
  let s1 := if (s.str k).state = r.1 ∧ (s.str k).cause = r.2 then s
    else s.setStr k r.1 r.2 (if r.2 = 0x08 then (s.pst k).firstOut else 0) false
  s1.modStr k (fun x => { x with survey := none, keptClosed := false })

/-- The installed strings in a state. -/
def State.inState (s : State) (a : SState) : Mask := s.maskOf (fun k => decide ((s.str k).state = a))

/-- SAFE_OUT_RELEASE (R299): Markhor de-asserts both safe outputs when no Safe latch is held. -/
def State.safeOutRelease (s : State) : State :=
  if s.jnl.safeLatch = 0 then { s with prot.safeA := false, prot.safeB := false } else s

/-- The freeze ends with the Survey of the restarted runtime (R327). -/
def State.freezeEnd (s : State) : State :=
  if s.prot.frozen then
    { s.ev 0x0B05 ([2] ++ le 1 s.prot.freezeBy ++ le 1 s.prot.freezes.length) with
      prot.frozen := false, pair.frozenLone := false }
  else s

/-- Items 3 and 4 of R67. -/
def State.aloneMode (s : State) : Mode :=
  if s.strings.any (fun k => decide ((s.str k).state = .closed) || decide ((s.str k).state = .held)) then .serve else .idle

/-- The module leaves Survey (R66, R67): strings still under survey take their states, unless the module has joined; the
safe outputs; the mode by items 2 to 4. -/
def State.surveyLeave (s : State) : State :=
  let joined := decide (s.pair.state = some .standby)
  let under := s.strings.filter (fun k => (s.str k).survey.isSome)
  let s1 := if joined then s else
    under.foldl (fun u k => (u.recordIdentities k false).startTake k) s
  let s2 : State := if joined then s1 else
    { s1 with mode.enabled := under.foldl (fun m k =>
        if (s1.str k).state ∈ [SState.closed, .held] then m else withoutBit m k) s1.mode.enabled }
  let s3 := s2.ev 0x0304 (le 2 (satN 65535 (s2.now - s2.mode.surveyFrom)) ++ le 2 (s2.inState .opened).toNat ++
    le 2 (s2.inState .unsurveyed).toNat ++ le 2 (s2.inState .isolated).toNat)
  let s4 := s3.safeOutRelease.freezeEnd
  let m := if joined then s4.pair.peerMode.getD s4.aloneMode else s4.aloneMode
  { s4.setMode m 0x02 0 with mode.surveyWait := false }

/-- The identities of a reconciled record are compared with those read in step 2 (R607): a port whose `SERIAL` differs from
the one recorded fails step 2. -/
def State.identRecheck (s : State) (k : Nat) : State :=
  let bad := portBits (fun p =>
    let w := tget s.jnl.ident p
    let c := tget s.cfe p
    c.serialRead && decide (w ≠ default) && decide (padTo 16 w.serial ≠ padTo 16 c.serial)) (s.fittedOf k)
  s.modStr k (fun x => { x with survey := x.survey.map (fun v => { v with badSerial := bad }) })

/-- WEAR_RECONCILE of step 5 (R561). The throughputs and string states of a module that has joined are those of the
copy (R391). -/
def State.surveyReconcile (s : State) : State :=
  let s0 := s.reconcile
  let s1 := s0.strings.foldl (fun u k => u.identRecheck k) s0
  if s.pair.caughtUp ∨ s.pair.state = some .standby then { s1 with est.str := s.est.str, mode.str := s.mode.str } else s1

/-- The steps of the start-up Survey are done, or 6 s have passed (Table 3-5, R69): the surveys of the strings are settled
and the pair state is neither LISTEN nor JOINING. -/
def State.surveyMayEnd (s : State) : Bool :=
  decide (s.mode.surveyFrom + 6000 ≤ s.now) ||
    (s.strings.all (fun k => match (s.str k).survey with
      | some v => s.surveyOver k v false
      | none => true) &&
      decide (s.pair.state ≠ some .listen) && decide (s.pair.state ≠ some .joining))

/-- SURVEY_END (R66, R67): the steps are done or 6 s have passed. A module that is joining stays in Survey. -/
def execSurveyEnd (s : State) : Host.Outcome State Fault Refusal :=
  let s0 := s.atP 0
  ok (if s0.mode.mode = .survey ∧ !s0.mode.surveyWait ∧ s0.surveyMayEnd then
      let s1 := s0.surveyReconcile
      if s1.pair.state = some .joining then { s1 with mode.surveyWait := true } else s1.surveyLeave
    else s0)

/-- At a frame boundary, a module that stayed in Survey for its join leaves it once it has joined, or lost its peer, or
stands alone (R67 item 1); after a cold start the mode is that of items 3 and 4 (R400). -/
def State.surveyWaitEnd (s : State) : State :=
  if s.mode.mode = .survey then
    if s.mode.aloneDue ∨ (s.mode.surveyWait ∧ (s.pair.state ≠ some .joining ∨ !s.pair.hbValid)) then
      { s.surveyLeave with mode.aloneDue := false }
    else s
  else if s.mode.aloneDue then
    let s1 : State := { s with mode.aloneDue := false }
    if s.mode.mode ∈ [Mode.fill, .load, .safe] ∨ s.mode.mode = s.aloneMode then s1 else s1.setMode s.aloneMode 0x02 0
  else s

end Sys2Proof.Machine
end

