-- ==== Sys2Proof/Machine/Timebase.lean ====
section
/-! DEFINITION. Area 0x02: time sources, timebase states, error bound, slew and step (chapter 02). -/

namespace Sys2Proof.Machine

/-! ### Error bound (R47 to R49, R54) -/

/-- A line through two points of Table 2-5: time in frames, bound in ns. -/
def lineAt (t0 b0 t1 b1 t : Int) : Int := b0 + divRound ((b1 - b0) * (t - t0)) (t1 - t0)

/-- Table 2-5 at an elapsed time in frames; beyond 12 h the bound grows by 20 µs per hour. -/
def holdoverBound (t : Nat) : Nat :=
  let h : Int := 3600000
  (if t ≤ 3600000 then lineAt 0 1000 h 3000 t
   else if t ≤ 4 * 3600000 then lineAt h 3000 (4 * h) 20000 t
   else if t ≤ 12 * 3600000 then lineAt (4 * h) 20000 (12 * h) 100000 t
   else lineAt (12 * h) 100000 (13 * h) 120000 t).toNat

/-- The reported error bound, ns (R49, R54). -/
def State.boundNow (s : State) : Nat :=
  let t := s.time
  if t.unsynced then 0xFFFFFFFF
  else match t.state with
  | .locked => 1000
  | .acquiring => t.offset.natAbs + 1000
  | .holdover => holdoverBound (s.now - t.holdoverFrom) * (if t.holdoverGood then 1 else 4)
  | .following => t.activeBound + 20
  | .freerun => 0xFFFFFFFF

/-- Report the error bound; a temperature more than 10 K away from its value at the loss ends R54's third condition. -/
def State.boundTake (s : State) : State :=
  let t := s.time
  let s1 : State := { s with
    time.holdoverGood := t.holdoverGood && decide ((t.oscTemp - t.ambientAtLoss).natAbs ≤ 1000) }
  { s1 with time.errorBound := sat32u s1.boundNow }

/-- Set or clear `TIME_ALIGNED` from the error bound (R48), with `TIME_ALIGN_LOST`. -/
def State.alignJudge (s : State) : State :=
  let s1 := s.boundTake
  let good := !s1.time.unsynced && decide (s1.time.errorBound ≤ s1.time.cfg.alignLimit)
  let s2 := s1.evIf (s1.time.aligned && !good) 0x0205 (le 4 s1.time.errorBound)
  { s2 with time.aligned := good }

/-! ### Sources (R42, R44 to R46) -/

/-- 1PPS gives time: enabled, its edges present, their second known. -/
def State.ppsGivesTime (s : State) : Bool := s.time.cfg.ppsEn && s.time.ppsPresent && s.time.todKnown

/-- The time source by the order of R46. -/
def State.timeSource (s : State) : TimeSource :=
  let ptp : TimeSource := match s.bestPort with
    | some 0 => .ptp0
    | some _ => .ptp1
    | none => .none
  if s.ppsGivesTime && (s.time.cfg.preferPps || decide (ptp = .none)) then .pps else ptp

/-- The frequency correction a frequency source in use gives (R44 to R46); the oscillator model steers by its own (R54). -/
def State.freqTake (s : State) (f : FreqSource) (freq : Int) : State :=
  if s.time.state ≠ .following ∧ s.time.freqSource = f then { s with time.freqCorr := freq } else s

/-- The frequency source by R46; edges without a known second serve frequency only (R44). -/
def State.freqSource (s : State) (src : TimeSource) : FreqSource :=
  match src with
  | .ptp0 | .ptp1 => .ptp
  | .pps => .pps
  | .pair => .pair
  | .none =>
    if s.time.cfg.ref10En && s.time.ref10Ok then .ref10
    else if s.time.cfg.ppsEn && s.time.ppsPresent then .pps else .model

/-- Enter HOLDOVER (Table 2-4, R54) with `TIME_HOLDOVER`. -/
def State.enterHoldover (s : State) (last : TimeSource) : State :=
  let t := s.time
  { s.ev 0x0202 (le 1 last.code ++ leI 4 (sat32 t.offset)) with
    time.state := .holdover, time.holdoverFrom := s.now, time.ambientAtLoss := t.oscTemp,
    time.holdoverGood := decide (t.state = .locked) && decide (t.lockedFrom + 3600000 ≤ s.now) && t.oscWarm }

/-- Take the time and frequency sources anew (R42, R46) and the state that Table 2-4 gives; a standby goes on following
its active (R55). `cause` is that of `TIME_SOURCE_CHANGE`. -/
def State.retime (s : State) (cause : Nat) : State :=
  if s.time.state = .following then s
  else
    let old := s.time.source
    let new := s.timeSource
    let s1 := s.evIf (decide (old ≠ new)) 0x0204 (le 1 old.code ++ le 1 new.code ++ le 1 cause)
    let s2 : State := { s1 with time.source := new, time.freqSource := s1.freqSource new }
    let s3 : State :=
      if new = .none then
        match s2.time.state with
        | .locked => s2.enterHoldover old
        | .acquiring => if s2.time.everLocked then s2.enterHoldover old else { s2 with time.state := .freerun }
        | _ => s2
      else
        match s2.time.state with
        | .freerun | .holdover => { s2 with time.state := .acquiring }
        | _ => s2
    s3.alignJudge

/-- The modes in which the timebase may step (R52). -/
def State.mayStep (s : State) : Bool := decide (s.mode.mode ∈ [Mode.idle, .maintain, .rest])

/-- The frame number a step at the next boundary gives: the whole number of frames nearest to the offset (R52). -/
def State.stepNumber (s : State) : Nat := ((s.now : Int) + 1 - divRound s.time.offset 1000000).toNat

/-- The active announces a step at least 2 frames ahead of its boundary (R57). -/
def State.announceStep (s : State) : State :=
  let b := s.now + 3
  let n := s.stepNumber + 2
  let s1 : State := { s with time.stepAt := some (b, n) }
  if s1.pair.lane0 || s1.pair.lane1 then { s1 with pair.sent := .step b n :: s1.pair.sent } else s1

/-- A measurement of the source in use: the filtered offset, local minus source, and the frequency correction; the
offset is slewed (R51), or a step is due (R52). -/
def State.offsetTake (s : State) (offset freq : Int) : State :=
  let big := decide (1000000 < offset.natAbs)
  let s1 : State := { s with
    time.offset := offset, time.freqCorr := freq, time.slewing := decide (offset ≠ 0),
    time.stepPending := big && (s.time.stepPending || !s.mayStep) }
  let s2 := if big && s1.mayStep && decide (s1.pair.state = some .active) && s1.time.stepAt.isNone then s1.announceStep
    else s1
  s2.alignJudge

/-! ### PTP (R40 to R43) -/

/-- A site port takes PTP messages. -/
def State.ptpOn (s : State) (port : Nat) : Bool := s.time.cfg.ports.testBit port

/-- The time source a port stands for. -/
def ptpSource (port : Nat) : TimeSource := if port = 0 then .ptp0 else .ptp1

/-- A message of the chosen profile (Table 2-3): its domain and its transport. -/
def State.ptpMine (s : State) (port domain : Nat) (t : PtpTransport) : Bool :=
  s.ptpOn port && decide (domain = s.time.cfg.domain) && decide (t.profile = s.time.cfg.profile)

/-- The filtered offset of a Sync under the chosen profile's delay mechanism (Table 2-3). -/
def PtpSync.offset (m : PtpSync) (profile : Nat) : Int :=
  m.raw - (if profile = 0 then m.peerDelay else m.endDelay) + m.filter

/-- PTP_SYNC (R40, R49, R51, R52): a Sync or Follow_Up of the chosen profile and domain gives the filtered offset. A
standby reports the offset of its own engine and does not steer by it (R55). -/
def execPtpSync (p : Pulse) (port : Fin 2) (m : PtpSync) (s : State) : Host.Outcome State Fault Refusal :=
  let s0 := s.atP p.val
  let off := m.offset s0.time.cfg.profile
  ok (if !s0.ptpMine port.val m.domain m.transport then s0
    else
      let s1 : State := { s0 with time.ptpOffset := some off }
      if s1.time.state = .following then
        (if s1.bestPort = some port.val then { s1 with time.offset := off } else s1)
      else if s1.time.source = ptpSource port.val then s1.offsetTake off m.freq
      else s1)

/-- Set the Announce data of a port. -/
def State.setAnn (s : State) (port : Nat) (a : Announce) : State :=
  if port = 0 then { s with time.ann0 := a } else { s with time.ann1 := a }

/-- PTP_ANNOUNCE (R40, R42, R43, R46): the best master clock algorithm runs over the Announce messages of both ports; `ann`
holds the data of the message and its rank in that comparison, lower better. -/
def execPtpAnnounce (p : Pulse) (port : Fin 2) (domain : Nat) (t : PtpTransport) (ann : Announce) (s : State) :
    Host.Outcome State Fault Refusal :=
  let s0 := s.atP p.val
  ok (if !s0.ptpMine port.val domain t then s0
    else (s0.setAnn port.val { ann with present := true }).retime 2)

/-- PTP_PDELAY_REQ (R41): answered under the power utility profile on each enabled port. -/
def execPtpPdelayReq (p : Pulse) (port : Fin 2) (s : State) : Host.Outcome State Fault Refusal :=
  let s0 := s.atP p.val
  ok (if s0.ptpOn port.val ∧ s0.time.cfg.profile = 0 then
      { s0 with time.pdelayAnswered := s0.time.pdelayAnswered + 1 }
    else s0)

/-- PTP_ANNOUNCE_TIMEOUT (R46, Table 2-4): the port carries no master any more. -/
def execPtpAnnounceTimeout (p : Pulse) (port : Fin 2) (s : State) : Host.Outcome State Fault Refusal :=
  let s1 := (s.atP p.val).setAnn port.val {}
  let s2 : State :=
    if s1.time.ann0.present || s1.time.ann1.present then s1 else { s1 with time.ptpOffset := none }
  ok (s2.retime 1)

/-! ### 1PPS, 10 MHz (R44, R45) -/

/-- Local time of an edge of the present pulse, `sub` ns into it, less `TIME_PPS_DELAY` (R44). -/
def State.ppsLocal (s : State) (sub : Nat) : Int := (s.nowNs : Int) + sub - s.time.cfg.ppsDelay - rdI s.psv.calUsed 256 4

/-- The TAI second of the edge at local time `at_`, where it is known (R44): `TIME_SET_TOD` names the next edge's, from
which the later edges count on; else PTP on either port gives the second nearest to its own time. -/
def State.ppsSecond (s : State) (at_ : Int) : Option Nat :=
  let t := s.time
  if t.cfg.todCmd then
    match t.todNext with
    | some n => some n
    | none => t.ppsAt.map (fun e => e.1 + (t.ticks - e.2 + 500) / 1000)
  else if t.ann0.present || t.ann1.present then t.ptpOffset.map (fun o => (divRound (at_ - o) 1000000000).toNat)
  else none

/-- PPS_EDGE (R44): an edge of `PPS_IN`, `sub` ns into its pulse. The edge marks pulse 0 of the frame that begins its
second: its distance from that instant is the measured offset, to which the filter adds `filter`. `late` is the distance
of the edge from where the train expects it: more than 10 µs counts as missing (Table 2-4). An edge without a known second
serves frequency only. -/
def execPpsEdge (p : Pulse) (sub : Fin 1000) (falling : Bool) (late filter freq : Int) (s : State) :
    Host.Outcome State Fault Refusal :=
  let s0 := s.atP p.val
  let t := s0.time
  let at_ := s0.ppsLocal sub.val
  ok (if !t.cfg.ppsEn || falling != t.cfg.ppsFalling then s0
    else if t.ppsPresent && decide (10000 < late.natAbs) then { s0 with time.ppsMissed := t.ppsMissed + 1 }
    else
      let sec := s0.ppsSecond at_
      let s1 : State := { s0 with
        time.ppsPresent := true, time.ppsMissed := 0, time.todKnown := sec.isSome, time.todNext := none,
        time.ppsAt := sec.map (fun n => (n, t.ticks)) }
      let s2 := s1.retime 2
      match sec with
      | some n =>
        if s2.time.state ≠ .following ∧ s2.time.source = .pps then
          s2.offsetTake (at_ - 1000000000 * (n : Int) + filter) freq
        else s2.freqTake .pps freq
      | none => s2.freqTake .pps freq)

/-- PPS_MISSING (R46, Table 2-4): the third consecutive expected edge is missing or misplaced. -/
def execPpsMissing (p : Pulse) (s : State) : Host.Outcome State Fault Refusal :=
  let s0 := s.atP p.val
  ok ({ s0 with time.ppsPresent := false, time.todKnown := false, time.ppsAt := none, time.ppsMissed := 3 }.retime 1)

/-- REF10_IN_CHANGE (R45): the 10 MHz reference comes within, or leaves, ±10 ppm; `freq` is the correction it gives. -/
def execRef10InChange (p : Pulse) (good : Bool) (freq : Int) (s : State) : Host.Outcome State Fault Refusal :=
  let s0 := s.atP p.val
  let s1 : State := { s0 with time.ref10Ok := good }
  ok (if s1.time.state = .following then s1
    else { s1 with time.freqSource := s1.freqSource s1.time.source }.freqTake .ref10 freq)

/-- TIME_SET_TOD (R44): the TAI second of the next edge. -/
def execTimeSetTod (id : Word) (s : State) : Host.Outcome State Fault Refusal :=
  ok (s.evaluate id 0x0201 1 (fun _ e => { format := decide (e.body.length = 8) }) noStr
    (fun s' e => ({ s' with time.todNext := some (rdU e.body 0 8) }).cmdDone e.id))

/-! ### Lock (Table 2-4) -/

/-- TIME_LOCKED (R47, R49): the filtered offset has stayed within ±250 ns for 10 s. -/
def execTimeLocked (p : Pulse) (s : State) : Host.Outcome State Fault Refusal :=
  let s0 := s.atP p.val
  ok (if s0.time.state = .acquiring ∧ s0.time.offset.natAbs ≤ 250 then
      let s1 := s0.ev 0x0201 (le 1 s0.time.source.code ++ leI 4 (sat32 s0.time.offset))
      { s1 with
        time.state := .locked, time.everLocked := true, time.unsynced := false, time.lockedFrom := s1.now }.alignJudge
    else s0)

/-- TIME_OFFSET_EXCURSION (R49, Table 2-4): outside ±1 µs for 10 s in LOCKED. -/
def execTimeOffsetExcursion (p : Pulse) (s : State) : Host.Outcome State Fault Refusal :=
  let s0 := s.atP p.val
  ok (if s0.time.state = .locked ∧ 1000 < s0.time.offset.natAbs then
      { s0 with time.state := .acquiring }.alignJudge
    else s0)

/-- TIME_ALIGN_LOST (R48): the error bound has passed `TIME_ALIGN_LIMIT`. -/
def execTimeAlignLost (p : Pulse) (s : State) : Host.Outcome State Fault Refusal := ok ((s.atP p.val).alignJudge)

/-- TIME_OSC_WARM (R54): 15 min after power-on. -/
def execTimeOscWarm (p : Pulse) (s : State) : Host.Outcome State Fault Refusal :=
  let s0 := s.atP p.val
  ok (if 900000 ≤ s0.time.sincePower then { s0 with time.oscWarm := true } else s0)

/-! ### Slew and step (R51 to R53, R57) -/

/-- A frame's slew (R51): at most 50 ns of the offset goes in the 1 ms of a frame, as in Table 2-6. -/
def slewed (offset : Int) : Int := if offset < 0 then min 0 (offset + 50) else max 0 (offset - 50)

/-- What a frame does to the offset (R51, R52): the slew; a pending step lapses once the offset is 1 ms or less. A standby
does not steer by its own offset (R55). -/
def State.slewFrame (s : State) : State :=
  if s.time.state = .following then s
  else
    let o := if s.time.slewing then slewed s.time.offset else s.time.offset
    { s with
      time.offset := o, time.slewing := s.time.slewing && decide (o ≠ 0),
      time.stepPending := s.time.stepPending && decide (1000000 < o.natAbs) }

/-- An active whose mode permits a pending step announces it (R52, R57). -/
def State.stepAnnounce (s : State) : State :=
  if s.time.stepPending ∧ s.mayStep ∧ s.pair.state = some .active ∧ s.time.stepAt.isNone then s.announceStep else s

/-- Step the frame number: the frame that would be `now + 1` is `n`. What remains of the offset is slewed; a backward
step ends the session. -/
def State.stepTo (s : State) (n : Nat) : State :=
  let s1 := s.ev 0x0203 (le 6 (s.now + 1) ++ le 6 n)
  let back := decide (n < s.now + 1)
  let d : Int := (n : Int) - (s.now + 1)
  let left := s1.time.offset + 1000000 * d
  let s2 : State := { s1 with
    time.frame := n - 1, time.markhorFrame := ((s1.time.markhorFrame : Int) + d).toNat, time.offset := left,
    time.stepPending := false, time.slewing := decide (left ≠ 0) && decide (s1.time.state ≠ .following), time.stepAt := none }
  if back then s2.endSession 0x04 else s2

/-- An announced step whose boundary finds the module in another mode is not made: it stays pending (R52). -/
def State.stepPut (s : State) : State :=
  { s with time.stepAt := none, time.stepPending := decide (s.pair.state = some .active) }

/-- TIME_STEP (R52, R53, R57): at a frame boundary in Idle, Maintain or Rest, before the frame begins; a pair steps at
the boundary its active has announced. -/
def execTimeStep (s : State) : Host.Outcome State Fault Refusal :=
  let s0 := s.atP 999
  ok (match s0.time.stepAt with
    | some (b, n) => if b ≠ s0.now + 1 then s0 else if s0.mayStep then s0.stepTo n else s0.stepPut
    | none =>
      if s0.mayStep ∧ 1000000 < s0.time.offset.natAbs ∧ s0.time.source ≠ .none ∧ s0.time.state ≠ .following ∧
          s0.pair.state ≠ some .active then
        s0.stepTo s0.stepNumber
      else s0)

/-! ### Time in a pair (R55 to R58) -/

/-- The module becomes STANDBY: FOLLOWING. -/
def State.timeFollow (s : State) : State :=
  { s with time.state := .following, time.source := .pair, time.freqSource := .pair }.alignJudge

/-- The module no longer follows (Table 2-4, R58): ACQUIRING with a usable source, else HOLDOVER if the active was ever
locked, else FREERUN. -/
def State.timeUnfollow (s : State) : State :=
  if s.time.state = .following then
    let src := s.timeSource
    let s1 : State := { s with time.source := src, time.freqSource := s.freqSource src, time.stepAt := none }
    (if src ≠ .none then { s1 with time.state := .acquiring }
     else if s1.time.activeEverLocked then s1.enterHoldover .pair
     else { s1 with time.state := .freerun }).alignJudge
  else s

end Sys2Proof.Machine
end

