-- ==== Sys2Proof/Machine/Pair.lean ====
section
/-! DEFINITION. The redundant pair (chapter 13): heartbeats, pair states, shared inputs, summaries, digests, the state
copy, takeover and hand-over. -/

namespace Sys2Proof.Machine

/-! ### Helpers -/

/-- The module holds the pair state LONE or ACTIVE. -/
def State.loneOrActive (s : State) : Bool := decide (s.pair.state = some .lone) || decide (s.pair.state = some .active)

/-- The pair state is that of a module outside a pair that neither evaluates nor assigns (R385). -/
def State.outside (s : State) : Bool := !s.sendsPair && !s.aloneOnly && !s.byAssignment

/-- The present frame is an announced hand-over frame: both modules are active for its first pulses (R403). -/
def State.handingOver (s : State) : Bool :=
  match s.pair.handover with
  | some (h, _, _) => decide (h = s.now)
  | none => false

/-- The module becomes LONE (R385, R397): it assigns its own items not yet covered to the frame after next, and makes the
policy writes that were deferred (R150). -/
def State.becomeLone (s : State) (cause : Nat) : State :=
  let its := s.pair.items
  let s1 := (s.setPair .lone cause).assign (s.now + 2) its
  { s1 with pair.items := [], pair.peerItems := [] }.policyDeferred

/-! ### Two actives (R401) -/

/-- Two actives are seen: journaled once per meeting, by both modules. -/
def State.twoSeen (s : State) : State :=
  if s.pair.twoNow then s else { s.ev 0x0E04 [1, 1] with pair.twoActive := true, pair.twoNow := true }

/-- The meeting is resolved. -/
def State.twoResolved (s : State) : State :=
  if s.pair.twoNow then { s.ev 0x0E04 [2, 1] with pair.twoNow := false } else s

/-- A LONE or ACTIVE module learns that its peer is active: slot B drops the role and rejoins, slot A keeps it. A module
that has dropped the role for input loss claims none (R585). -/
def State.meetActive (s : State) : State :=
  if s.handingOver || s.psv.dropped then s
  else if s.sys.slot = .b then (((s.abortConnects s.strings).twoSeen).setPair .joining 8).twoResolved
  else s.twoSeen

/-! ### The charge line and the lanes (R378, R381, R398) -/

/-- Set or clear the charge-line fault of R398, with `PAIR_LINK`. -/
def State.lineJudge (s : State) (bad : Bool) : State :=
  if bad = s.pair.lineFault then s
  else { s.ev 0x0E05 [0xFF, if bad then 0x01 else 0x80] with pair.lineFault := bad }

/-- CHG_IN_CHANGE (R378, R401). -/
def execChgInChange (p : Pulse) (up : Bool) (s : State) : Host.Outcome State Fault Refusal :=
  let s0 := s.atP p.val
  let s1 : State := { s0 with pair.chgIn := up }
  ok (if up then
      let s2 := s1.lineJudge false
      if s2.pair.state = some .listen then s2.setPair .joining 2
      else if s2.loneOrActive then s2.meetActive else s2
    else if s1.sys.slot = .a then s1.twoResolved else s1)

/-- PAIR_LANE_CHANGE (R381). -/
def execPairLaneChange (p : Pulse) (lane : Fin 2) (up : Bool) (s : State) : Host.Outcome State Fault Refusal :=
  let s0 := s.atP p.val
  let was := if lane.val = 0 then s0.pair.lane0 else s0.pair.lane1
  ok (if was = up then s0
    else
      let s1 := s0.ev 0x0E05 (le 1 lane.val ++ ([if up then 0x80 else 0x01] : Bytes))
      if lane.val = 0 then { s1 with pair.lane0 := up } else { s1 with pair.lane1 := up })

/-! ### Copy epochs (R392, R500, R528) -/

/-- Pages of the state copy (Table 13-7). -/
def copyPages : Nat := 708

/-- `PAIR_COPY` of a kind (Table 13-12). -/
def State.copyEvent (s : State) (kind : Nat) : State :=
  s.ev 0x0E03 (le 1 kind ++ le 6 s.pair.epoch ++ le 2 s.pair.pages ++ le 4 (s.now - s.pair.epoch))

/-- COPY_EPOCH (R392): the active chooses the epoch two frames on and announces it with its time, its pulse counters, its
image sequence and release. -/
def State.epochStart (s : State) (h : PairHb) : State :=
  let e := s.now + 2
  let other := decide (h.imageSeq ≠ s.sys.imageSeq) || decide (h.release ≠ s.sys.runtime)
  let s1 : State := { s with
    pair.copying := true, pair.epoch := e, pair.pages := copyPages, pair.nextPage := 0, pair.sentPages := [],
    pair.acked := 0, pair.matched := 0, pair.transition := other, pair.transTold := false }
  (s1.copyEvent 1).pairSend (.timeSet e s1.now (allStr.map (fun k => (s1.pp k).pseq)) s1.sys.imageSeq s1.cfg.digestLoaded
    s1.sys.runtime)

/-- A joiner's heartbeat at the active: an epoch for a new attempt, unless the mode is Maintain (R76). -/
def State.joinRequest (s : State) (h : PairHb) : State :=
  if h.state = some .joining ∧ s.pair.state = some .active then
    if s.mode.mode = .maintain then { s with mode.joinRefused := true }
    else if h.ask ∨ !s.pair.copying then { s.epochStart h with mode.joinRefused := false }
    else s
  else { s with mode.joinRefused := false }

/-- A joiner discards its copy and asks for a new epoch (R395). -/
def State.joinReset (s : State) : State :=
  { s with
    pair.joining := false, pair.copyDone := false, pair.caughtUp := false, pair.live := none, pair.pagesRx := [],
    pair.matched := 0, pair.transition := false, pair.transTold := false, pair.leaveNext := false }

/-- A join attempt fails (R395): a new attempt, or DETACHED at `PAIR_JOIN_LIMIT` failures within an hour. -/
def State.joinFail (s : State) : State :=
  let fs := s.now :: s.pair.fails.filter (fun f => decide (s.now < f + 3600000))
  let s1 := { s with pair.fails := fs }.copyEvent 3
  if s1.pair.cfg.joinLimit ≤ fs.length then s1.setPair .detached 0x0A else s1.joinReset

/-- PAIR_TIME_SET_RX (R56, R271, R392, R500): a joiner takes the active's frame number and pulse counters. A transition
join between images of different topology fails. -/
def execPairTimeSetRx (p : Pulse) (e : EpochIn) (s : State) : Host.Outcome State Fault Refusal :=
  let s0 := s.atP p.val
  ok (if s0.pair.state = some .joining then
      let d : Int := (e.frame : Int) - s0.time.frame
      let other := decide (e.imageSeq ≠ s0.sys.imageSeq) || decide (e.release ≠ s0.sys.runtime)
      let s1 : State := { s0.joinReset with
        time.frame := e.frame, time.markhorFrame := ((s0.time.markhorFrame : Int) + d).toNat,
        power.port := tmodAll s0.power.port allStr (fun k q => { q with pseq := (e.pseqs[k]?).getD q.pseq % 256 }),
        pair.joining := true, pair.epoch := e.epoch, pair.pages := copyPages, pair.transition := other }
      if other ∧ !e.sameTopology then s1.joinFail else s1
    else s0)

/-! ### Heartbeats (R381, R378) -/

/-- PAIR_HEARTBEAT_SEND (R381): at pulses 0, 100 … 900. A frozen module's heartbeat goes on from hardware (R379). -/
def execPairHeartbeatSend (n : Fin 10) (s : State) : Host.Outcome State Fault Refusal :=
  let s0 := s.atP (100 * n.val)
  let ask := decide (s0.pair.state = some .joining) && !s0.pair.joining
  ok (if s0.pair.state.isSome ∨ s0.prot.frozen then
      { s0.pairSend (.heartbeat s0.pair.state s0.pair.chgOut s0.psv.loss.isSome ask s0.mode.mode.code s0.now s0.nowNs) with
        pair.nHeartbeat := sat32u (s0.pair.nHeartbeat + 1) }
    else s0)

/-- What a heartbeat says of the peer. -/
def State.peerTake (s : State) (h : PairHb) : State :=
  { s with
    pair.hbValid := true, pair.heard := true, pair.peerState := h.state, pair.peerActive := h.active,
    pair.peerLoss := h.loss, pair.peerMode := some h.mode,
    pair.homeOff := s.pair.homeOff && decide (h.state ≠ none) && decide (h.state ≠ some .listen),
    time.activeBound := h.bound, time.activeHealthy := h.healthy,
    time.activeEverLocked := if h.active then h.everLocked else s.time.activeEverLocked,
    time.unsynced := if s.time.state = .following then s.time.unsynced && h.unsynced else s.time.unsynced }

/-- INPUT_LOSS_PEER_JUDGE (R585) by the first heartbeat sent at least 100 µs after the declaration: without the flag the
module drops the role, with it the module keeps it and runs Table 21-4. -/
def State.lossJudge (s : State) (h : PairHb) : State :=
  match s.psv.loss with
  | some l =>
    if l.judging ∧ l.at_ + 100 ≤ s.clockUs then
      if h.loss then s.lossRuns
      else { s.modLoss (fun x => { x with judging := false }) with psv.dropped := true, pair.chgOut := false }
    else s
  | none => s

/-- The peer has just become STANDBY: the pair is synchronised. -/
def State.peerInStep (s : State) (was : Option PairState) (h : PairHb) : State :=
  if s.pair.state = some .active ∧ h.state = some .standby ∧ was ≠ some .standby then
    { s with pair.syncFrame := s.now, pair.copying := false, pair.sentPages := [] }
  else s

/-- PAIR_HEARTBEAT_RX (R377, R378, R392, R398, R401, R585). -/
def execPairHeartbeatRx (p : Pulse) (h : PairHb) (s : State) : Host.Outcome State Fault Refusal :=
  let s0 := s.atP p.val
  let was := s0.pair.peerState
  let s1 := (s0.peerTake h).lineJudge (!s0.pair.chgIn && h.active)
  let s2 := if s1.time.state = .following then s1.alignJudge else s1
  let s3 := s2.lossJudge h
  ok (match s3.pair.state with
    | some .listen => if h.active then s3.setPair .joining 2 else s3
    | some .lone =>
      if h.active && decide (s3.sys.slot = .b) then s3.meetActive
      else
        let s4 := if h.active then s3.meetActive else s3.twoResolved
        let f := s4.freeByte
        (f.2.setPair .active f.1.toNat).joinRequest h
    | some .active =>
      if h.active && decide (s3.sys.slot = .b) && !s3.handingOver then s3.meetActive
      else
        let s4 := if h.active then s3.meetActive else s3.twoResolved
        (s4.peerInStep was h).joinRequest h
    | _ => s3)

/-- PAIR_PEER_LOST (R378, R398, R585): no valid heartbeat for 500 µs. -/
def execPairPeerLost (p : Pulse) (s : State) : Host.Outcome State Fault Refusal :=
  let s0 := s.atP p.val
  let s1 : State := if s0.pair.hbValid then
      { s0 with pair.hbValid := false, pair.nLost := sat32u (s0.pair.nLost + 1) }
    else s0
  let s2 := match s1.psv.loss with
    | some l => if l.judging then s1.lossRuns else s1
    | none => s1
  ok (match s2.pair.state with
    | some .active => s2.becomeLone 6
    | some .standby => if s2.pair.chgIn then s2.setPair .joining 6 else s2
    | _ => s2)

/-- PAIR_LISTEN_TIMEOUT (R391): 500 ms in slot A, 2,000 ms in slot B. -/
def execPairListenTimeout (p : Pulse) (s : State) : Host.Outcome State Fault Refusal :=
  let s0 := s.atP p.val
  let t := if s0.sys.slot = .a then 500 else 2000
  ok (if s0.pair.state = some .listen ∧ s0.pair.since + t ≤ s0.now ∧ !s0.pair.chgIn ∧
      !(s0.pair.hbValid && s0.pair.peerActive) then s0.becomeLone 1
    else s0)

/-! ### Takeover and cold start (R397, R400) -/

/-- Levels and act ages of the Herd level record, every other Herd field but the counters cleared (R254). A block of the
record that fails its CRC restores its cells at None, journaled once for each string concerned. -/
def State.herdRestore (s : State) : State :=
  let lost := s.strings.filter (fun k => s.jnl.herdBad.getLsbD (2 * k) || s.jnl.herdBad.getLsbD (2 * k + 1))
  let bad (k : Nat) : Nat := ((s.cellsOf k).filter s.herdBlockBad).length
  let s1 := lost.foldl (fun u k => u.ev 0x0905 (le 1 k ++ le 2 (bad k) ++ le 4 0)) s
  { s1 with
    herdTab := (s1.jnl.herd.filter (fun e => !s.herdBlockBad e.1)).foldl (fun t e =>
      tput t e.1 { lvl := e.2.lvl, act := e.2.act, actAge := e.2.actAge }) [],
    herd.str := tmap s1.herd.str (fun _ h => { skipped := h.skipped, lost := h.lost }), herd.sweep := none }

/-- A string at a cold start: readopted, opened, or OPEN or ISOLATED as it stands (R400). -/
def State.coldString (s : State) (k : Nat) : State :=
  let q := s.pp k
  let both := q.stat.kposAux && q.stat.knegAux
  let lat := decide ((s.pst k).latched ≠ 0)
  let s1 := s.modStr k (fun x => { x with survey := none, keptClosed := false, opening := none })
  if both && q.stat.gateSt then
    let held := s.inhChg k || s.inhDis k
    let s2 := s1.setStr k (if held then .held else .closed) (if held then 0x0D else 0) 0 false
    let s3 := (s2.modPp k (fun x => { x with kReq := true, hold := true, phase := .none, opening := false })).modPst k
      (fun x => { x with permit := !x.trip && decide (x.latched = 0) })
    s3.recordOwn k
  else
    let s2 := if lat then s1.setStr k .isolated 0x08 (s.pst k).firstOut false else s1.setStr k .opened 0 0 false
    if both then s2.startOpening k else s2

/-- What a module without valid state makes of cells, thermal state, throughputs and Herd (R400, R528). -/
def State.coldCells (s : State) : State :=
  let w := s.reconcile.est.str
  let s1 : State := { s with
    cells := s.absentCells, aux := [], th := [],
    est.str := tmodAll [] s.strings (fun k e => { e with thruC := (tget w k).thruC, thruD := (tget w k).thruD }),
    thm.str := [], dsp.str := [], pair.cold := true }
  let s2 := s1.herdRestore
  (s2.strings.foldl (fun (u : State) k => u.ev 0x0905 (le 1 k ++ le 2 (u.cellsOf k).length ++ le 4 0)) s2).herdRecord

/-- COLD_START (R400). -/
def State.coldStart (s : State) : State :=
  let s1 := s.coldCells
  let s2 := s1.strings.foldl (fun u k => u.coldString k) s1
  let closed := s2.strings.filter (fun k => s2.onBus k)
  { s2 with
    mode.enabled := closed.foldl withBit 0, mode.aloneDue := true,
    grz.serve := 0, grz.rest := 0, grz.changes := [], grz.rosterDue := none }

/-- PAIR_TAKEOVER (R378, R397, R400): `silent` when no valid heartbeat has arrived for 300 µs; the charge line has been
deasserted for 2 µs. -/
def execPairTakeover (p : Pulse) (silent : Bool) (s : State) : Host.Outcome State Fault Refusal :=
  let s0 := s.atP p.val
  let may := decide (s0.pair.state ∈ [some PairState.standby, some .joining, some .detached]) &&
    decide (s0.mode.mode ≠ .safe) && !s0.pair.chgIn && (silent || !s0.pair.peerActive)
  ok (if !may then s0
    else
      let warm := decide (s0.pair.state = some .standby) || s0.pair.caughtUp
      let s1 : State := { s0.abortConnects s0.strings with
        pair.claimFrom := some (1000 * s0.now + p.val + 2, s0.roleCode) }
      let s2 := (s1.becomeLone 7).ev 0x0E06 ([3] ++ le 6 s1.now ++ le 4 0)
      let s3 : State := { s2 with pair.nTakeover := sat32u (s2.pair.nTakeover + 1) }
      let s4 := if warm then s3 else s3.coldStart
      let s5 := s4.timeUnfollow
      if s5.psv.loss.isSome then s5.lossRuns else s5)

/-- The degraded flag of a cold start ends once the largest σ of every string is at or below σ_max (R400). -/
def State.coldJudge (s : State) : State :=
  if s.pair.cold ∧ s.strings.all (fun k => !s.coldStr k) then { s with pair.cold := false } else s

/-! ### Joining -/

/-- PAIR_JOIN_TIMEOUT (R395). -/
def execPairJoinTimeout (p : Pulse) (s : State) : Host.Outcome State Fault Refusal :=
  let s0 := s.atP p.val
  ok (if s0.pair.state = some .joining ∧ s0.pair.joining ∧ s0.pair.epoch + 1000 * s0.pair.cfg.joinMax ≤ s0.now then
      s0.joinFail
    else s0)

/-- PAIR_DETACH_WAIT_END (Table 13-2 row 13). Table 13-12 names no cause for it: a free byte. -/
def execPairDetachWaitEnd (p : Pulse) (s : State) : Host.Outcome State Fault Refusal :=
  let s0 := s.atP p.val
  ok (if s0.pair.state = some .detached ∧ s0.mode.mode ≠ .safe ∧ s0.mode.mode ≠ .maintain ∧
      s0.pair.since + 1000 * s0.pair.cfg.detachWait ≤ s0.now then
      let f := s0.freeByte
      f.2.setPair .joining f.1.toNat
    else s0)

/-- COPY_PAGE_RX (R393): a page of the present epoch that passes its CRC is kept; every 16 pages are acknowledged, and the
last ones when the copy is complete. A page held already is acknowledged again. -/
def execCopyPageRx (p : Pulse) (page : Fin 708) (epoch : Nat) (crcOk : Bool) (s : State) :
    Host.Outcome State Fault Refusal :=
  let s0 := s.atP p.val
  ok (if s0.pair.state = some .joining ∧ s0.pair.joining ∧ epoch = s0.pair.epoch ∧ crcOk then
      if page.val ∈ s0.pair.pagesRx then s0.pairSend (.copyAck [page.val])
      else
        let s1 : State := { s0 with pair.pagesRx := page.val :: s0.pair.pagesRx }
        let n := s1.pair.pagesRx.length
        let due := if n % 16 = 0 then 16 else if n = copyPages then n % 16 else 0
        let s2 := if due = 0 then s1 else s1.pairSend (.copyAck (s1.pair.pagesRx.take due))
        if n = copyPages then { s2.copyEvent 2 with pair.copyDone := true } else s2
    else s0)

/-- COPY_ACK_RX (R393). -/
def execCopyAckRx (p : Pulse) (pages : List Nat) (s : State) : Host.Outcome State Fault Refusal :=
  let s0 := s.atP p.val
  let left := s0.pair.sentPages.filter (fun e => !pages.contains e.1)
  ok (if s0.pair.copying then
      { s0 with pair.acked := s0.pair.acked + (s0.pair.sentPages.length - left.length), pair.sentPages := left }
    else s0)

/-- COPY_PAGE_RESEND (R393): a page not acknowledged within 2 frames is sent again. -/
def execCopyPageResend (p : Pulse) (page : Fin 708) (s : State) : Host.Outcome State Fault Refusal :=
  let s0 := s.atP p.val
  ok (if s0.pair.copying ∧ s0.pair.sentPages.any (fun e => decide (e.1 = page.val) && decide (e.2 + 2 ≤ s0.now)) then
      { s0.pairSend (.copyPage page.val) with
        pair.sentPages := s0.pair.sentPages.map (fun e => if e.1 = page.val then (e.1, s0.now) else e) }
    else s0)

/-- LOOP_LIVE_RX (R393): the contexts of L0 to L15 and the power-port accumulators as they stood at pulse 999. -/
def execLoopLiveRx (p : Pulse) (frame : Nat) (loops : List LoopSt) (sums : List Sums) (s : State) :
    Host.Outcome State Fault Refusal :=
  let s0 := s.atP p.val
  ok (if s0.pair.state = some .joining then { s0 with pair.live := some (frame, loops, sums) } else s0)

/-- The copied regions as a joiner holds them after its replay (Table 13-7, R394). -/
def State.copyTake (s : State) (c : CopyIn) : State :=
  { s with
    cells := c.cells, aux := c.aux, th := c.th, herdTab := c.herdTab, herd.str := c.herd,
    meas.fe := c.measFe, meas.str := c.measStr, est.str := c.est, thm.str := c.thm,
    dsp := { c.dsp with cfg := s.dsp.cfg },
    grz := { c.grz with
      cfg := s.grz.cfg, tm := s.grz.tm, diode := s.grz.diode, tBase := s.grz.tBase, tj := s.grz.tj, peer := s.grz.peer,
      own := s.grz.own, railFail := s.grz.railFail, diodeFail := s.grz.diodeFail, baseFail := s.grz.baseFail },
    site.histCell := c.histCell, site.histStr := c.histStr }

/-- The module records, the string records of the modes and the command ledger (Table 13-7), and of the journal region
the counters of area 0x14 alone (R553). -/
def State.recordsTake (s : State) (c : CopyIn) : State :=
  let n (i : Nat) (r : MemReg) : MemReg :=
    match c.memCounts[i]? with
    | some (a, b, u) => { r with corr := a, page := b, uncorr := u }
    | none => r
  { s with
    mode.target := c.target, mode.targetCmd := c.targetCmd, mode.enabled := c.enabled, mode.str := c.str,
    mode.safeCause := c.safeLatch, dsp.socMin := c.dsp.socMin, dsp.socMax := c.dsp.socMax,
    site.ledger := tcanon c.ledger, site.newest := c.newest,
    mem.table := n 0 s.mem.table, mem.dram := n 1 s.mem.dram, mem.markhor := n 2 s.mem.markhor,
    jnl.safety.lost := (c.lost[0]?).getD s.jnl.safety.lost, jnl.event.lost := (c.lost[1]?).getD s.jnl.event.lost,
    jnl.audit.lost := (c.lost[2]?).getD s.jnl.audit.lost }

/-- The power port of a string as the copied string records ask (R278): a closed string's words carry `GATE`, `KPOS` and
`KNEG` as the active's do, under the permit of the module's own Markhor. -/
def State.portTake (s : State) (c : CopyIn) (k : Nat) : State :=
  let st := (s.str k).state
  let on := decide (st ∈ [SState.connecting, .closed, .held])
  let lp := match s.pair.live with
    | some (_, l, _) => (l[k]?).getD (tget c.loops k)
    | none => tget c.loops k
  let acc := match s.pair.live with
    | some (_, _, a) => (a[k]?).getD (s.pp k).acc
    | none => (s.pp k).acc
  let w := tget c.ports k
  (s.modPp k (fun q =>
    { q with
      kReq := w.kReq, hold := w.hold, phase := w.phase, connFrom := w.connFrom, phasePulses := w.phasePulses,
      opening := w.opening, lowRun := w.lowRun, loop := lp, acc := acc })).modPst k
    (fun x => { x with permit := if on then !x.trip && decide (x.latched = 0) else x.permit })

/-- REPLAY_CAUGHT_UP (R394, R528): at a pulse 0 the joiner computes each frame within that frame; it loads the latest
`LOOP_LIVE` into Pronghorn and starts its digests. A region it could not convert makes the join a cold one. -/
def execReplayCaughtUp (c : CopyIn) (s : State) : Host.Outcome State Fault Refusal :=
  let s0 := s.atP 0
  ok (if s0.pair.state = some .joining ∧ s0.pair.copyDone ∧ !s0.pair.caughtUp then
      let s1 := if c.readable then (s0.copyTake c).recordsTake c else (s0.recordsTake c).coldCells
      let s2 := s1.strings.foldl (fun u k => u.portTake c k) s1
      { s2 with power.therm := c.therm, pair.caughtUp := true, pair.matched := 0 }
    else s0)

/-! ### Shared inputs (R384, R385, R387) -/

/-- PAIR_MIRROR_RX (R384): a mirrored upload up to pulse 410. With the module's own valid too and a different payload,
both use slot A's; without it the mirrored one is used. -/
def execPairMirrorRx (p : Pulse) (port : PortIx) (d : UpData) (s : State) : Host.Outcome State Fault Refusal :=
  let s0 := s.atP p.val
  let q := port.val
  let m := d.heeded
  ok (if p.val ≤ 410 ∧ s0.fitted q ∧ !s0.pair.mirrored.getLsbD q then
      let s1 := { s0 with pair.mirrored := s0.pair.mirrored ||| ((1 : BitVec 128) <<< q) }.modLnk q
        (fun x => { x with mirror := some m })
      let take (u : State) : State := if 400 ≤ p.val then (u.tableTake q m).flagCells q else u.tableTake q m
      match (s0.lnk q).own with
      | some own =>
        if own = m then s1
        else if s1.sys.slot = .a then s1.uploadDiffers own m
        else take (s1.uploadDiffers own m)
      | none => take s1
    else s0)

/-- The AI samples a module holds of pulse 900 of the frame before. -/
def State.aiSamples (s : State) : List Int := (upFrom 0 8).map s.aiVal

/-- ASSIGN_SEND (R385): at pulse 100 the active forms the assignment of the next frame from the lists of the frame before:
its own items in arrival order, then the standby's that it does not hold. -/
def execAssignSend (s : State) : Host.Outcome State Fault Refusal :=
  let s0 := s.atP 100
  ok (if s0.pair.state = some .active ∧ s0.runtimeRuns then
      let g := s0.now + 1
      let own := s0.pair.items.filter (fun i => decide (i.frame < s0.now))
      let theirs := s0.pair.peerItems.filter (fun i => !s0.pair.items.any i.same)
      let its := own ++ theirs
      let ai := s0.aiSamples
      let s1 := s0.assign g its
      let s2 : State := { s1 with
        pair.assignedAi := tput s1.pair.assignedAi g ai, pair.assignedTo := some g, pair.peerItems := [] }
      s2.pairSend (.assign g its ai)
    else s0)

/-- PAIR_ASSIGN_RX (R385): the standby, and a joiner that is caught up, take the items as received in frame G. Another
module outside the pair strikes the covered items from its own list; a joiner keeps the assignment for its replay. -/
def execPairAssignRx (p : Pulse) (frame : Nat) (items : List PairItem) (ai : List Int) (s : State) :
    Host.Outcome State Fault Refusal :=
  let s0 := s.atP p.val
  let kept (u : State) : State := { u with
    pair.assignedAi := tput u.pair.assignedAi frame ai,
    pair.assignedTo := some (max frame (u.pair.assignedTo.getD 0)) }
  ok (if s0.pair.state = some .standby ∨ (s0.pair.state = some .joining ∧ s0.pair.caughtUp) then
      kept (s0.assign frame items)
    else if s0.outside then
      let s1 : State := { s0 with pair.items := s0.pair.items.filter (fun a => !items.any a.same) }
      if s1.pair.state = some .joining then
        kept { s1 with pair.assigned := tput s1.pair.assigned frame items }
      else s1
    else s0)

/-- PAIR_LIST_RX (R365, R385, R72): the peer's items not yet assigned, its junction temperature and input power, its
hold-up charge. The AI samples of the active's list come again in its assignment. -/
def execPairListRx (p : Pulse) (frame : Nat) (items : List PairItem) (tj power : Int) (holdup : Nat) (s : State) :
    Host.Outcome State Fault Refusal :=
  let s0 := s.atP p.val
  let done (i : PairItem) : Bool := s0.pair.assigned.any (fun e => e.2.any i.same)
  let fresh := items.filter (fun i => !done i)
  ok { s0 with
    pair.peerItems := if s0.pair.state = some .active then fresh else s0.pair.peerItems,
    grz.peer := (frame, tj, power) :: keepFrames s0.now s0.grz.peer, pair.peerHoldup := holdup }

/-- PAIR_ASSIGN_MISSING (R387, R395): the assignment of frame G not received by its pulse 0, or the peer's summary of F by
pulse 815 of F: a standby becomes JOINING, a joiner past its epoch fails its attempt. -/
def execPairAssignMissing (p : Pulse) (s : State) : Host.Outcome State Fault Refusal :=
  let s0 := s.atP p.val
  let noAssign := decide (s0.pair.assignedTo.getD 0 < s0.now)
  let noSum := decide (815 ≤ p.val) && (match s0.pair.peer with | some x => decide (x.frame ≠ s0.now) | none => true)
  ok (if noAssign ∨ noSum then
      if s0.pair.state = some .standby then s0.setPair .joining 5
      else if s0.pair.state = some .joining ∧ s0.pair.joining ∧ s0.pair.epoch < s0.now then s0.joinFail
      else s0
    else s0)

/-! ### Summaries (R386) -/

/-- The module's own Markhor summary. -/
def State.summaryNow (s : State) : Summary :=
  { frame := s.now,
    str := s.strings.foldl (fun t k => tput t k
      { stages := (s.pst k).warn ||| (s.pst k).tripStage,
        actions := s.actions k ||| (if (s.pst k).pairInhDis then 0x08 else 0),
        latched := (s.pst k).latched, ready := s.resetReady k }) [],
    ilk := BitVec.ofNat 4 s.ilkBits }

/-- MARKHOR_SUMMARY (R386): at pulse 800. -/
def execMarkhorSummary (s : State) : Host.Outcome State Fault Refusal :=
  let s0 := s.atP 800
  let x := s0.summaryNow
  ok ({ s0 with pair.own := some x }.pairSend (.summary x))

/-- PAIR_SUMMARY_RX (R386). -/
def execPairSummaryRx (p : Pulse) (x : Summary) (s : State) : Host.Outcome State Fault Refusal :=
  ok { s.atP p.val with pair.peer := some x }

/-! ### The frame digest (R390, R394, R500) -/

/-- The module sends digests: ACTIVE, STANDBY, or JOINING once caught up. -/
def State.digests (s : State) : Bool :=
  s.byAssignment || (decide (s.pair.state = some .joining) && s.pair.caughtUp)

/-- PAIR_DIGEST_RX (R390). -/
def execPairDigestRx (p : Pulse) (frame : Nat) (crcs : List Word) (s : State) : Host.Outcome State Fault Refusal :=
  ok { s.atP p.val with pair.peerDigest := some (frame, crcs) }

/-- The sections in which two lists of CRCs differ. -/
def sectionMask (a b : List Word) : Nat := packBits ((upFrom 0 8).map (fun i => decide (a[i]? ≠ b[i]?)))

/-- `PAIR_DIVERGENCE` of a frame. -/
def State.divergence (s : State) (mask : Nat) (peer : List Word) : State :=
  s.ev 0x0E02 (le 6 s.now ++ le 1 mask ++ le 4 s.pair.frameDigest.toNat ++
    le 4 (crc32c (peer.flatMap (fun x => le 4 x.toNat))).toNat)

/-- PAIR_IN_STEP (R394): the joiner becomes STANDBY. -/
def State.becomeStandby (s : State) : State :=
  let s1 := (s.setPair .standby 3).copyEvent 4
  { s1 with pair.syncFrame := s1.now }.timeFollow

/-- Equal digests: a run of 100 puts the joiner in step. -/
def State.digestEqual (s : State) : State :=
  let s1 : State := { s with pair.matched := satN 65535 (s.pair.matched + 1) }
  if s1.pair.state = some .joining ∧ 100 ≤ s1.pair.matched then s1.becomeStandby else s1

/-- Unequal digests: journaled by both modules of a synchronised pair, whose standby leaves at the next frame; a joiner
fails its attempt. -/
def State.digestUnequal (s : State) (mask : Nat) (peer : List Word) : State :=
  let s1 : State := { s with pair.nDivergence := sat32u (s.pair.nDivergence + 1), pair.matched := 0 }
  if s1.inPair then
    let s2 := s1.divergence mask peer
    if s2.pair.state = some .standby then { s2 with pair.leaveNext := true } else s2
  else if s1.pair.state = some .joining then s1.joinFail
  else s1

/-- DIGEST_COMPARE (R390, R394, R500): at pulse 990. A transition join, and the pair it gives, compares section 5 alone;
other differences are journaled once. -/
def execDigestCompare (s : State) : Host.Outcome State Fault Refusal :=
  let s0 := s.atP 990
  ok (match s0.pair.digest, s0.pair.peerDigest with
    | some (f, a), some (g, b) =>
      if f = s0.now ∧ g = s0.now ∧ s0.digests then
        let m := sectionMask a b
        if s0.pair.transition then
          let s1 : State := if m % 32 + 64 * (m / 64) ≠ 0 ∧ !s0.pair.transTold then
              { s0.divergence m b with pair.transTold := true }
            else s0
          if m / 32 % 2 = 0 then s1.digestEqual else s1.digestUnequal m b
        else if m = 0 then s0.digestEqual
        else s0.digestUnequal m b
      else s0
    | _, _ => s0)

/-! ### Planned hand-over and return home (R403 to R405) -/

/-- PAIR_HANDOVER (R405, R86): accepted by both modules of a synchronised pair; the active carries it out. -/
def execPairHandover (id : Word) (s : State) : Host.Outcome State Fault Refusal :=
  ok (s.evaluate id 0x0E01 1
    (fun s' e => { format := decide (e.body = []), state := s'.inPair,
                   busy := s'.pair.handoverReq.isNone && s'.pair.handover.isNone }) noStr
    (fun s' e => { s'.cmdTo e.id .accepted .ok 0 [] with pair.handoverReq := some (1, e.id) }))

/-- PAIR_HOME_HOLD_EXPIRY (R404): slot A asks; the active in slot B, whose peer has stood by for `PAIR_HOME_HOLD`, takes
the hand-over up. -/
def execPairHomeHoldExpiry (p : Pulse) (s : State) : Host.Outcome State Fault Refusal :=
  let s0 := s.atP p.val
  let on := s0.pair.cfg.homeEn && !s0.pair.homeOff && s0.inPair
  let hold := 1000 * s0.pair.cfg.homeHold
  ok (if on ∧ s0.sys.slot = .a ∧ s0.pair.state = some .standby ∧ s0.pair.since + hold ≤ s0.now then s0.pairSend .homeAsk
    else if on ∧ s0.sys.slot = .b ∧ s0.pair.state = some .active ∧ s0.pair.syncFrame + hold ≤ s0.now ∧
        s0.pair.handoverReq.isNone ∧ s0.pair.handover.isNone then
      { s0 with pair.handoverReq := some (2, 0) }
    else s0)

/-- The first frame from `f` on that is no multiple of 1,000. -/
def offSecond (f : Nat) : Nat := if f % 1000 = 0 then f + 1 else f

/-- The active chooses H and announces it (R403). -/
def State.handoverChoose (s : State) : State :=
  match s.pair.handoverReq with
  | some (kind, cmd) =>
    if s.pair.state = some .active ∧ s.inPair ∧ s.pair.handover.isNone ∧ s.time.stepAt.isNone ∧ !s.time.stepPending ∧
        !s.strings.any s.connecting then
      let h := offSecond (s.now + 2)
      { s with pair.handover := some (h, kind, cmd) }.pairSend (.handover h kind cmd)
    else s
  | none => s

/-- PAIR_HANDOVER_RX (R403). -/
def execPairHandoverRx (p : Pulse) (frame kind : Nat) (cmd : Word) (s : State) : Host.Outcome State Fault Refusal :=
  let s0 := s.atP p.val
  ok (if s0.pair.state = some .standby ∧ s0.now < frame then { s0 with pair.handover := some (frame, kind, cmd) } else s0)

/-- The end of a hand-over at pulse 8 of H (R404, R405): the command DONE, `PAIR_HANDOVER`, the suspension of return home.
Table 13-12 names no kind for a hand-over asked for low charge (R72): a free byte. -/
def State.handoverEnd (s : State) (h kind : Nat) (cmd : Word) : State :=
  let f := s.freeByte
  let k : Nat × State := if kind = 0 then (f.1.toNat, f.2) else (kind, s)
  let s1 := k.2.ev 0x0E06 (le 1 k.1 ++ le 6 h ++ le 4 cmd.toNat)
  let s2 := if cmd = 0 then s1 else s1.cmdDone cmd
  let newSlot := if s2.pair.state = some .active then s2.sys.slot else s2.sys.slot.other
  { s2 with
    pair.handover := none, pair.handoverReq := none,
    pair.homeOff := if kind = 1 then decide (newSlot = .b) else s2.pair.homeOff }

/-- PAIR_HANDOVER_FRAME (R403): in frame H the new active takes the role at pulse 0 (`late` false), the old one leaves it
at pulse 8. A string still CONNECTING puts H off. -/
def execPairHandoverFrame (late : Bool) (s : State) : Host.Outcome State Fault Refusal :=
  let s0 := s.atP (if late then 8 else 0)
  ok (match s0.pair.handover with
    | none => s0
    | some (h, kind, cmd) =>
      if h ≠ s0.now then s0
      else if !late then
        if s0.strings.any s0.connecting then { s0 with pair.handover := some (offSecond (h + 1), kind, cmd) }
        else if s0.pair.state = some .standby then
          { (s0.setPair .active 9).timeUnfollow with pair.peerState := some .standby }.policyDeferred
        else s0
      else
        let s1 : State := if s0.pair.state = some .active ∧ s0.pair.since ≠ s0.now then
            { (s0.setPair .standby 9).timeFollow with pair.peerState := some .active }
          else s0
        s1.handoverEnd h kind cmd)

/-! ### Steps of local time (R57) -/

/-- PAIR_STEP_RX (R57): a standby, and a joiner that has taken the active's time (R56), step with the active. -/
def execPairStepRx (p : Pulse) (boundary number : Nat) (s : State) : Host.Outcome State Fault Refusal :=
  let s0 := s.atP p.val
  ok (if s0.pair.state = some .standby ∨ (s0.pair.state = some .joining ∧ s0.pair.joining) then
      { s0 with time.stepAt := some (boundary, number) }
    else s0)

/-! ### Parts of the frame (called at the strobe and at closure) -/

/-- At the strobe: a standby whose digest differed leaves (R390); the frame's own lists begin. -/
def State.pairFrame (s : State) : State :=
  let s1 := if s.pair.leaveNext ∧ s.pair.state = some .standby then s.setPair .joining 4 else s
  { s1 with pair.sent := [], pair.mirrored := 0, pair.outputs := [], pair.leaveNext := false }.coldJudge

/-- PAIR_LIST_SEND (R385): the items no assignment has yet covered, T_j and input power, the hold-up charge, from the
active the AI samples. A module outside the pair keeps only what is to be assigned later. -/
def State.listSend (s : State) : State :=
  if s.pair.state.isNone then s
  else
    let ai := if s.loneOrActive then s.aiSamples else []
    let s1 := s.pairSend (.list s.pair.items s.grz.tj s.psv.pin s.huPct ai)
    if s1.outside then
      { s1 with pair.items := s1.pair.items.filter (fun i => !(i.body matches .can _ _ _)) }
    else s1

/-- COPY_PAGE and LOOP_LIVE of a frame of the join (R393): at most 96 pages on two lanes, 32 on one. -/
def State.copySend (s : State) : State :=
  if s.pair.state = some .active ∧ s.pair.copying ∧ s.pair.epoch < s.now then
    let cap := if s.pair.lane0 && s.pair.lane1 then 96 else 32
    let n := min cap (copyPages - s.pair.nextPage)
    let ps := upFrom s.pair.nextPage n
    let s1 := ps.foldl (fun u i => u.pairSend (.copyPage i)) s
    let s2 := s1.pairSend (.loopLive s1.now (allStr.map (fun k => tget s1.power.loops999 k))
      (allStr.map (fun k => (s1.pp k).acc)))
    { s2 with pair.nextPage := s.pair.nextPage + n, pair.sentPages := s2.pair.sentPages ++ ps.map (fun i => (i, s.now)) }
  else s

end Sys2Proof.Machine
end

