-- ==== Sys2Proof/Machine/EnvRows.lean ====
section
/-! DEFINITION. The envelope of a frame and its outputs (Table 2-1, pulses 820 to 950), and their overruns (Table 2-2). -/

namespace Sys2Proof.Machine

/-- Lowest-numbered function of a mask of latched functions, 0 if none. -/
def lowestFn (m : Mask) : Nat := ((upFrom 1 12).find? (fun n => has m (n - 1))).getD 0

/-- The runtime of a synchronised pair records protection from the union of the two summaries of pulse 800 (R386). -/
def State.recordUnion (s : State) : State :=
  if s.inPair then
    s.strings.foldl (fun u k =>
      let of (x : Option Summary) : Mask := (x.map (fun y => (tget y.str k).latched)).getD 0
      let lat := of u.pair.own ||| of u.pair.peer
      let acts := u.actUnion k
      let sf := if (u.pst k).firstOut ≠ 0 then (u.pst k).firstOut else lowestFn lat
      u.recordProt k (decide (lat ≠ 0)) (acts.getLsbD 2 || acts.getLsbD 3) sf) s
  else s

/-- The outputs of the envelope's window: `LIMITS`, `MODULE_STATE` and `THERMAL_SET`, the dispatch set, the objects of
`SITE_PUSH`. -/
def State.outputsQueue (s : State) : State := s.queueLimits.queueState.statusPush

/-- ENVELOPE (R346): at pulse 820, with the balancing plan and the outputs. -/
def execEnvelope (s : State) : Host.Outcome State Fault Refusal :=
  let s0 := s.atP 820
  ok (if s0.runtimeRuns ∧ !s0.dsp.done then s0.recordUnion.envelope.balancePlan.outputsQueue else s0)

/-- An envelope not complete by pulse 950 (R36): the outputs repeat the last one, marked stale; from the eleventh
consecutive frame every limit sent is 0. -/
def State.envelopeLate (s : State) : State :=
  let s1 := s.recordUnion.overrun .envelope
  let s2 : State := { s1 with
    dsp.stale := true, dsp.done := true, dsp.lastOverrun := some s1.now, grz.elasticUp := true }
  let s3 := if 11 ≤ s2.time.runEnvelope then s2.zeroLimits else s2
  s3.outputsQueue

/-- ENVELOPE_OVERRUN (R36). -/
def execEnvelopeOverrun (s : State) : Host.Outcome State Fault Refusal :=
  let s0 := s.atP 950
  ok (if s0.runtimeRuns ∧ !s0.dsp.done then s0.envelopeLate else s0)

/-- ENVELOPE_OVERRUN_ZERO (R36): an overrun that is at least the eleventh in a row. -/
def execEnvelopeOverrunZero (s : State) : Host.Outcome State Fault Refusal :=
  let s0 := s.atP 950
  ok (if s0.runtimeRuns ∧ !s0.dsp.done ∧ 10 ≤ s0.time.runEnvelope then s0.envelopeLate else s0)

/-- Take the content queued in the present frame off an object. -/
def CanObj.unqueue (x : CanObj) (f : Nat) : CanObj :=
  let of (c : Option CanContent) : Bool := c.any (fun k => decide (k.frame = f))
  if of x.next then { x with next := none }
  else if of x.cur then { x with state := .idle, cur := none, older := none, fails := 0 } else x

/-- A pair output of the bus is not sent in this frame. -/
def State.canUnqueue (s : State) (o : Nat) (body : Bytes) : State :=
  let cut (u : State) (c : Nat) : State := u.modCtl c (fun y => { y with obj := tmod y.obj o (fun x => x.unqueue u.now) })
  let s1 := cut (cut s 0) 1
  { s1 with pair.outputs := s1.pair.outputs.erase (crc32c body) }

/-- OUTPUT_QUEUE_OVERRUN (R36): an output not queued by pulse 950 is not sent in this frame. -/
def execOutputQueueOverrun (out : OutKind) (s : State) : Host.Outcome State Fault Refusal :=
  let s0 := (s.atP 950).overrun .output
  let drop (pairOut : Bool) : State :=
    let gone (m : SiteMsg) : Bool := decide (m.type = 0x21) && decide (m.frame = s0.now) && decide (m.pairOut = pairOut)
    { s0 with
      site.sent := s0.site.sent.filter (fun m => !gone m),
      site.waiting := s0.site.waiting.filter (fun m => !gone m),
      pair.outputs := if pairOut then
          ((s0.site.sent.filter gone).map (fun m => crc32c m.payload)).foldl (fun l w => l.erase w) s0.pair.outputs
        else s0.pair.outputs }
  ok (match out with
    | .limits => s0.canUnqueue 1 s0.objLimits
    | .moduleState => s0.canUnqueue 2 s0.moduleState
    | .thermalSet i => s0.canUnqueue (3 + i.val) (s0.thermalSet i.val)
    | .dispatch => drop true
    | .sitePush => drop false)

end Sys2Proof.Machine
end

