-- ==== Sys2Proof/Machine/Fe.lean ====
section
/-! DEFINITION. The front-end contract (chapter 05) and the front end's side of the cell link: sampling, balancing,
authority, registers, sleep, wear copy and firmware. -/

namespace Sys2Proof.Machine

/-! ### Ports and authority (R136, R137) -/

/-- One of the two ports. -/
def FeSt.side (f : FeSt) : Slot → FePort
  | .a => f.a
  | .b => f.b

/-- Change one of the two ports. -/
def FeSt.modSide (f : FeSt) (x : Slot) (g : FePort → FePort) : FeSt :=
  match x with
  | .a => { f with a := g f.a }
  | .b => { f with b := g f.b }

/-- The port's last valid frame with `ROLE` 0b01 lies within the last 10 ms at time `t`. -/
def FePort.claims (q : FePort) (t : Nat) : Bool :=
  match q.claimAt with
  | some c => decide (t ≤ c + 10000)
  | none => false

/-- Both ports claim the active role. -/
def FeSt.conflict (f : FeSt) (t : Nat) : Bool := f.a.claims t && f.b.claims t

/-- The authority port. -/
def FeSt.auth (f : FeSt) (t : Nat) : Option Slot :=
  if f.a.claims t && !f.b.claims t then some .a else if f.b.claims t && !f.a.claims t then some .b else none

/-- The front end is awake and runs its image. -/
def FeSt.awake (f : FeSt) : Bool := f.on && !f.asleep

/-- The present frame begins for an awake front end: the marks of the frame before go, its mask with them (R127), and a
pattern goes on only from a frame whose `CONTROL` came (R95, R133). `n` is the strobe count. -/
def FeSt.roll (f : FeSt) (n : Nat) : FeSt :=
  if !f.awake || decide (f.frameT = n) then f
  else
    let clear (q : FePort) : FePort := { q with sampleHere := false, repeated := false }
    { f with
      a := clear f.a, b := clear f.b, frameT := n, sampled := none, convert := false, ctrlSeen := false,
      ctrlMissing := false, wrRefused := false, sleepDue := false, reqMask := 0, appliedMask := 0, balLimited := false,
      pattern := if f.ctrlSeen && decide (n = f.frameT + 1) then f.pattern else 0 }

/-- A valid downlink frame arrives on a port: its `SEQ`, its claim when `ROLE` is 0b01, and the 200 ms of R138 anew. -/
def FeSt.hear (f : FeSt) (t : Nat) (x : Slot) (h : LinkHead) : FeSt :=
  { f with heardAt := t }.modSide x (fun q =>
    { q with lastSeq := h.seq, claimAt := if h.role = 1 then some t else q.claimAt })

/-- A downlink frame of one type arrives on a port of an awake front end: one that fails R91 counts in `PORT_ERR`, one that
fails R93 as a format error, and any other is heard and acted on. -/
def FeSt.receive (f : FeSt) (n t : Nat) (x : Slot) (type : Nat) (h : LinkHead) (payload : Bytes) (act : FeSt → FeSt) :
    FeSt :=
  if !f.awake then f
  else
    let g := f.roll n
    if !h.intact payload then g.modSide x (fun q => { q with err := satN 0xFFFF (q.err + 1) })
    else if !(h.formOk false && decide (h.type = type)) then g.modSide x (fun q => { q with fmt := q.fmt + 1 })
    else act (g.hear t x h)

/-- A downlink frame on a port's front end. -/
def State.feReceive (s : State) (p : Nat) (x : Slot) (type : Nat) (h : LinkHead) (payload : Bytes) (act : FeSt → FeSt) :
    State :=
  s.modFee p (fun f => f.receive s.time.ticks s.clockUs x type h payload act)

/-- `ROLE` of an uplink frame (Table 4-3, R136): 0 neither, 1 this port, 2 the other port. -/
def FeSt.upRole (f : FeSt) (t : Nat) (x : Slot) : Nat :=
  match f.auth t with
  | none => 0
  | some y => if y = x then 1 else 2

/-- The header of an uplink frame on a port, sealed (Tables 4-2, 4-3). -/
def FeSt.upHead (f : FeSt) (t : Nat) (x : Slot) (type frame seq : Nat) (rpt : Bool) (payload : Bytes) : LinkHead :=
  { type := type, role := f.upRole t x, slot := x, up := true, rpt := rpt, frame := frame, seq := seq
      : LinkHead }.seal payload

/-! ### Conversions (R97, R122, R123, R126) -/

/-- A calibration word as int32 (Table 5-8). -/
def FeSt.calAt (f : FeSt) (i : Nat) : Int := signedOf 4 (tget f.cal i).toNat

/-- A reading with a gain correction in ppb and an offset of which `per` are one unit of the reading; uncalibrated while
`CAL_FAULT` stands (R126). Correction order and rounding: log 168. -/
def FeSt.corrected (f : FeSt) (gain offset : Nat) (per : Int) (v : Int) : Int :=
  if f.calFault then v
  else divRound (per * v * (1000000000 + f.calAt gain) + f.calAt offset * 1000000000) (per * 1000000000)

/-- A cell channel as coded. -/
def codeCell (v : Int) : Int := if v < -1000000 ∨ 6000000 < v then 0x7FFFFF else v

/-- A thermistor input of a resistance as coded: not fitted, open, shorted, or the temperature that `TH_BETA` gives with
the input's offset, clamped to Table 5-1. -/
def FeSt.codeTh (f : FeSt) (k ohm : Nat) : Int :=
  if !has f.thMask k then 0x7FFE else if 1000000 < ohm then 0x7FFF else if ohm < 100 then -0x8000
  else
    let off := if f.calFault then 0 else signedOf 2 (bitsOf (tget f.cal (0x86 + k)).toNat 0 16)
    clampI (-5500) 15000 (Config.ntcTemp ohm f.thBeta + off)

/-- Take a conversion of all channels. -/
def FeSt.convertAll (f : FeSt) (i : FeIn) : FeSt :=
  { f with
    cellV := (upFrom 0 64).foldl (fun t c =>
      tput t c (if c < f.cells then codeCell (f.corrected (4 + c) (0x44 + c) 10 (nthI i.cells c)) else -0x800000)) f.cellV,
    temp := (upFrom 0 16).foldl (fun t k => tput t k (f.codeTh k ((i.ths[k]?).getD 10000))) f.temp,
    block := satN 3400000 (f.corrected 0x84 0x85 100 i.block).toNat }

/-- The die temperature with its hold (R130): hot from 110 °C until below 100 °C, with `DIE_OT` set meanwhile. -/
def FeSt.die (f : FeSt) (t : Int) : FeSt :=
  let d := clampI (-5500) 15000 t
  let hot := decide (11000 ≤ d) || (f.dieHot && decide (10000 ≤ d))
  { f with dieTemp := d, dieHot := hot, alarm := if hot then f.alarm ||| 0x20 else f.alarm }

/-- FE_SAMPLE (R120, R137): the first valid `SAMPLE` of a frame fixes the sample instant; one on the other port only
clears `NO_SAMPLE_HERE` there. `owBad` are the wires whose test current was not held (R135). -/
def execFeSample (port : PortIx) (side : Slot) (h : LinkHead) (delay : Nat) (conv : Bool) (i : FeIn) (owBad : BitVec 65)
    (s : State) : Host.Outcome State Fault Refusal :=
  ok ((s.atP 10).feReceive port.val side 1 h (sampleBytes delay conv) (fun f =>
    let mark (g : FeSt) : FeSt := g.modSide side (fun q => { q with sampleHere := true, sampleSeq := h.seq })
    match f.sampled with
    | some n => if h.frame = n then mark f else f
    | none =>
      let g : FeSt :=
        { f with
          sampled := some h.frame, convert := conv, delay := delay, patternAtSample := f.pattern,
          owFlag := if f.pattern = 0 then f.owFlag else f.owFlag ||| owBad }
      let g1 := (mark g).die i.die
      if conv then g1.convertAll i else g1))

/-! ### Balancing (R127 to R131) -/

/-- The parity rule of R128 on channel `c`. -/
def parityKeep (req : BitVec 64) (p c : Nat) : Bool :=
  req.getLsbD c && (decide (c % 2 = p) ||
    (!(decide (0 < c) && req.getLsbD (c - 1)) && !(decide (c < 63) && req.getLsbD (c + 1))))

/-- The dissipation limit of R129 on an ascending list of channels: those kept, with the running sum in mW. -/
def dissKeep (pw : Nat → Nat) : Nat → List Nat → List Nat
  | _, [] => []
  | sum, c :: t => if sum + pw c ≤ 4000 then c :: dissKeep pw (sum + pw c) t else []

/-- A mask of 64 channels from a list. -/
def maskOf (cs : List Nat) : BitVec 64 := cs.foldl (fun m c => m ||| ((1 : BitVec 64) <<< c)) 0

/-- Steps 2 to 4 of R128. -/
def FeSt.limitMask (f : FeSt) (req : BitVec 64) (p : Nat) : BitVec 64 :=
  let r := maskOf ((upFrom 0 f.cells).filter (fun c => req.getLsbD c))
  let kept := (upFrom 0 64).filter (parityKeep r p)
  maskOf (dissKeep (fun c => Config.feDissipation (tget f.cellV c)) 0 kept)

/-- The applied mask of a frame (R128, R130, R142). -/
def FeSt.applyMask (f : FeSt) (t : Nat) (req : BitVec 64) (frame : Nat) : FeSt :=
  let m : BitVec 64 :=
    if f.conflict t || decide (f.pattern ≠ 0) || f.dieHot || f.wakeHold then 0 else f.limitMask req (frame % 2)
  { f with reqMask := req, appliedMask := m, balLimited := decide (m ≠ req) }

/-- Time asleep at time `t` in µs (Table 5-3). -/
def FeSt.sleepFor (f : FeSt) (t : Nat) : Nat := t - f.sleepAt

/-- The channels driven at pulse `pulse` of the frame of strobe count `n`: awake from pulse 20 to pulse 900 of the mask's own
frame (R127), asleep from 100 ms of the mask's period but for 5 ms from each second (R139, Table 5-3). -/
def FeSt.driven (f : FeSt) (n pulse : Nat) : BitVec 64 :=
  if !f.on then 0
  else if f.asleep then
    let e := f.sleepFor (n * 1000 + pulse)
    let w := e % 10000000
    if f.period ≠ some (e / 10000000) ∨ w < 100000 ∨ (1000000 ≤ w ∧ w % 1000000 < 5000) then 0 else f.appliedMask
  else if f.frameT = n ∧ 20 ≤ pulse ∧ pulse < 900 then f.appliedMask else 0

/-! ### Registers (R143 to R148) -/

/-- An address of Table 5-4. -/
def feImplemented (a : Nat) : Bool :=
  decide (a ≤ 0x0B) || (decide (0x10 ≤ a) && decide (a ≤ 0x13)) || (decide (0x18 ≤ a) && decide (a ≤ 0x1A)) ||
    (decide (0x20 ≤ a) && decide (a ≤ 0x24)) || (decide (0x40 ≤ a) && decide (a ≤ 0x7F)) ||
    (decide (0x100 ≤ a) && decide (a ≤ 0x201)) || (decide (0x400 ≤ a) && decide (a ≤ 0x7FF))

/-- A read-only register of Table 5-4. -/
def feReadOnly (a : Nat) : Bool :=
  decide (a ≤ 0x0A) || decide (a = 0x10) || decide (a = 0x12) || decide (a = 0x13) ||
    (decide (0x18 ≤ a) && decide (a ≤ 0x1A)) || (decide (0x100 ≤ a) && decide (a ≤ 0x1FF)) || decide (a = 0x201)

/-- The 4,096 bytes of the wear shadow. -/
def FeSt.shadowBytes (f : FeSt) : Bytes := (upFrom 0 1024).flatMap (fun i => le 4 (tget f.wearShadow i).toNat)

/-- `STATUS` (Table 5-5). -/
def FeSt.status (f : FeSt) (t : Nat) : Word :=
  let a := if f.conflict t then 3 else match f.auth t with
    | some .a => 1
    | some .b => 2
    | none => 0
  BitVec.ofNat 32 (a * 2 ^ 30 + b2n f.calFault * 2 ^ 29 + b2n (decide (f.pattern ≠ 0)) * 2 ^ 28 +
    b2n (decide (f.fwBuf ≠ [])) * 2 ^ 27 + f.resetCause.toNat * 2 ^ 8)

/-- `WEAR_STAT` (Table 5-9). -/
def FeSt.wearStat (f : FeSt) : Word :=
  BitVec.ofNat 32 (f.wearSeq * 2 ^ 16 + packBits [f.wearValid, f.wearBusy, f.wearDirty])

/-- The value of an implemented register (Tables 5-4 to 5-9). -/
def FeSt.reg (f : FeSt) (t : Nat) (a : Nat) : Word :=
  let w (n : Nat) : Word := BitVec.ofNat 32 n
  match a with
  | 0x00 => f.contract
  | 0x01 => f.model
  | 0x06 => w (f.cells * 2 ^ 16 + f.thMask.toNat)
  | 0x07 => f.fwRun
  | 0x08 => f.bank0
  | 0x09 => f.bank1
  | 0x0A => w f.fwSize
  | 0x0B => w f.fwSel
  | 0x10 => f.status t
  | 0x11 => w (f.alarmCh * 2 ^ 8 + f.alarm.toNat)
  | 0x12 => w (f.dieTemp % 65536).toNat
  | 0x13 => w (f.b.err * 2 ^ 16 + f.a.err)
  | 0x18 => f.owFlag.setWidth 32
  | 0x19 => (f.owFlag >>> 32).setWidth 32
  | 0x1A => (f.owFlag >>> 64).setWidth 32
  | 0x20 => w f.slpOv
  | 0x21 => w f.slpUv
  | 0x22 => w (f.slpOt % 65536).toNat
  | 0x23 => w (f.deadband * 2 ^ 16 + b2n f.balEn)
  | 0x24 => w f.thBeta
  | 0x200 => 0
  | 0x201 => f.wearStat
  | _ =>
    if 2 ≤ a ∧ a ≤ 5 then w (rdU (padTo 16 f.serial) (4 * (a - 2)) 4)
    else if 0x40 ≤ a ∧ a ≤ 0x7F then w (0xFFFFFF - tget f.balTargetGap (a - 0x40))
    else if 0x100 ≤ a ∧ a ≤ 0x1FF then tget f.cal (a - 0x100)
    else if f.wearValid then tget f.wearCopy (a - 0x400)
    else 0xFFFFFFFF

/-- A value is outside its range, or a reserved field is not zero (Table 5-4); `fw` is the maker's validation of the
bank a restart names (R148). -/
def FeSt.badValue (f : FeSt) (fw : Verdict) (a : Nat) (v : Word) : Bool :=
  let n := v.toNat
  if a = 0x0B then decide (bitsOf n 16 16 ≠ 0x5EED) || decide (bitsOf n 2 14 ≠ 0) || (bitOf n 1 && decide (fw = .fail))
  else if a = 0x11 then decide (bitsOf n 16 16 ≠ 0) || decide (bitsOf n 6 2 ≠ 0)
  else if a = 0x20 ∨ a = 0x21 ∨ (0x40 ≤ a ∧ a ≤ 0x7F) then decide (bitsOf n 24 8 ≠ 0)
  else if a = 0x22 then decide (bitsOf n 16 16 ≠ 0)
  else if a = 0x23 then
    decide (bitsOf n 24 8 ≠ 0) || decide (bitsOf n 1 15 ≠ 0) || decide (bitsOf n 16 8 < 1) || decide (50 < bitsOf n 16 8)
  else if a = 0x24 then decide (n < 2500) || decide (5000 < n)
  else if a = 0x200 then decide (crc32c f.shadowBytes ≠ v)
  else false

/-- Clear `ALARM` bits, and `ALARM_CH` once `OV` and `UV` are both 0 (Table 5-7). -/
def FeSt.clearAlarm (f : FeSt) (bits : BitVec 6) : FeSt :=
  let a := f.alarm &&& ~~~bits
  { f with alarm := a, alarmCh := if a &&& 0x6 = 0 then 0xFF else f.alarmCh }

/-- Write one register whose value has been checked; `ver` is the version of the bank a restart names. -/
def FeSt.write1 (f : FeSt) (ver : Word) (a : Nat) (v : Word) : FeSt :=
  let n := v.toNat
  match a with
  | 0x0B =>
    let sel := bitsOf n 0 1
    let g := { f with fwSel := sel }
    if bitOf n 1 then
      let h := if sel = 0 then { g with bank0 := ver } else { g with bank1 := ver }
      { h with restartDue := some sel, sleepDue := false }
    else g
  | 0x11 => f.clearAlarm (BitVec.ofNat 6 n &&& if f.dieHot then 0x1F else 0x3F)
  | 0x20 => { f with slpOv := n }
  | 0x21 => { f with slpUv := n }
  | 0x22 => { f with slpOt := signedOf 2 n }
  | 0x23 => { f with deadband := bitsOf n 16 8, balEn := bitOf n 0 }
  | 0x24 => { f with thBeta := n }
  | 0x200 => { f with wearBusy := true }
  | _ =>
    if 0x40 ≤ a ∧ a ≤ 0x7F then { f with balTargetGap := tput f.balTargetGap (a - 0x40) (0xFFFFFF - n) }
    else
      let sh := tput f.wearShadow (a - 0x400) v
      { f with wearShadow := sh, wearDirty := decide (sh ≠ f.wearCopy) }

/-- A write of consecutive registers (R143, R144): the first code of the order of R143, or all written. -/
def FeSt.writeAll (f : FeSt) (t : Nat) (side : Slot) (fw : Verdict) (ver : Word) (ws : List (Nat × Word)) : Nat × FeSt :=
  if f.auth t ≠ some side then (3, f)
  else if ws.any (fun w => !feImplemented w.1) then (1, f)
  else if ws.any (fun w => feReadOnly w.1) then (2, f)
  else if f.wearBusy && ws.any (fun w => decide (w.1 = 0x200) || decide (0x400 ≤ w.1)) then (4, f)
  else if ws.any (fun w => f.badValue fw w.1 w.2) then (5, f)
  else (0, ws.foldl (fun g w => g.write1 ver w.1 w.2) f)

/-- Addresses from a first one, with their values. -/
def fromAddr (a : Nat) : List Word → List (Nat × Word)
  | [] => []
  | v :: t => (a, v) :: fromAddr (a + 1) t

/-- The front end sends a reply on a port: `SEQ` and `FRAME` are the request's (R92; `FRAME`: log 169). -/
def FeSt.send (f : FeSt) (t : Nat) (x : Slot) (type : Nat) (h : LinkHead) (payload : Bytes) (rstat addr : Nat)
    (d : List Word) : FeSt :=
  f.modSide x (fun q =>
    { q with reply := some { head := f.upHead t x type h.frame h.seq false payload, rstat := rstat, addr := addr, data := d } })

/-- A read of consecutive registers (R143): all the values, or code 0x0001. -/
def FeSt.readAll (f : FeSt) (t addr count : Nat) : Nat × List Word :=
  let as := upFrom addr count
  if as.all feImplemented then (0, as.map (f.reg t)) else (1, [])

/-- FE_REG_READ (R143): served on either port at all times. -/
def execFeRegRead (p : Pulse) (port : PortIx) (side : Slot) (h : LinkHead) (addr : Nat) (count : Fin 33) (s : State) :
    Host.Outcome State Fault Refusal :=
  let s0 := s.atP p.val
  ok (s0.feReceive port.val side 0x20 h (regBytes addr count.val) (fun f =>
    let r := f.readAll s0.clockUs addr count.val
    f.send s0.clockUs side 0x22 h (regDataBytes r.1 addr r.2.length r.2) r.1 addr r.2))

/-- A `REG_WRITE` of consecutive registers arrives (R144): applied wholly or refused, and answered. `fw` and `ver` are the
maker's validation and the version of the bank a restart names. -/
def State.feWrite (s : State) (p : Nat) (side : Slot) (h : LinkHead) (addr : Nat) (d : List Word) (fw : Verdict)
    (ver : Word) : State :=
  s.feReceive p side 0x21 h (regWriteBytes addr d) (fun f =>
    let r := f.writeAll s.clockUs side fw ver (fromAddr addr d)
    r.2.send s.clockUs side 0x22 h (regDataBytes r.1 addr 0 []) r.1 addr [])

/-- FE_REG_WRITE (R144): applied wholly or refused, whatever registers it names. -/
def execFeRegWrite (p : Pulse) (port : PortIx) (side : Slot) (h : LinkHead) (addr : Nat) (data : List Word) (fw : Verdict)
    (ver : Word) (s : State) : Host.Outcome State Fault Refusal :=
  ok ((s.atP p.val).feWrite port.val side h addr data fw ver)

/-- FE_WEAR_COMMIT (R146). -/
def execFeWearCommit (p : Pulse) (port : PortIx) (side : Slot) (h : LinkHead) (crc : Word) (s : State) :
    Host.Outcome State Fault Refusal :=
  ok ((s.atP p.val).feWrite port.val side h 0x200 [crc] .fail 0)

/-- FE_ALARM_CLEAR (Table 5-7). -/
def execFeAlarmClear (p : Pulse) (port : PortIx) (side : Slot) (h : LinkHead) (v : Word) (s : State) :
    Host.Outcome State Fault Refusal :=
  ok ((s.atP p.val).feWrite port.val side h 0x11 [v] .fail 0)

/-- FE_FW_RESTART (R148): the bank named in `FW_SEL` is validated by the maker's means; the restart comes at pulse 900. -/
def execFeFwRestart (p : Pulse) (port : PortIx) (side : Slot) (h : LinkHead) (sel : Fin 2) (fw : Verdict) (ver : Word)
    (s : State) : Host.Outcome State Fault Refusal :=
  ok ((s.atP p.val).feWrite port.val side h 0x0B [BitVec.ofNat 32 (0x5EED0002 + sel.val)] fw ver)

/-- A firmware block (R147): its code, and held in a buffer of 4 blocks; the first block to a bank empties its version
register. -/
def FeSt.takeBlock (f : FeSt) (t : Nat) (side : Slot) (bank blockNo : Nat) (data : Bytes) : Nat × FeSt :=
  if f.auth t ≠ some side then (3, f)
  else if 4 ≤ f.fwBuf.length then (4, f)
  else if 1 < bank ∨ bank = f.runBank ∨ f.fwSize ≤ blockNo then (5, f)
  else
    let g := if bank = 0 then { f with bank0 := 0xFFFFFFFF } else { f with bank1 := 0xFFFFFFFF }
    (0, { g with fwBuf := g.fwBuf ++ [(bank, blockNo, padTo 256 data)] })

/-- FE_FW_BLOCK (R147). -/
def execFeFwBlock (p : Pulse) (port : PortIx) (side : Slot) (h : LinkHead) (bank blockNo : Nat) (data : Bytes)
    (s : State) : Host.Outcome State Fault Refusal :=
  let s0 := s.atP p.val
  ok (s0.feReceive port.val side 0x30 h (fwBlockBytes bank blockNo data) (fun f =>
    let r := f.takeBlock s0.clockUs side bank blockNo data
    r.2.send s0.clockUs side 0x31 h (fwAckBytes r.1 blockNo) r.1 blockNo []))

/-- FE_FW_BLOCK_PROGRAMMED (R147): the oldest buffered block is in the flash. Asleep nothing is programmed (R139). -/
def execFeFwBlockProgrammed (p : Pulse) (port : PortIx) (s : State) : Host.Outcome State Fault Refusal :=
  let s0 := s.atP p.val
  ok (s0.modFee port.val (fun f =>
    match f.fwBuf with
    | [] => f
    | (k, b, d) :: t =>
      if !f.awake then f
      else if k = 0 then { f with fwBuf := t, image0 := tput f.image0 b d }
      else { f with fwBuf := t, image1 := tput f.image1 b d }))

/-- FE_ECHO (R104): answered on the port it came on, whatever the authority. -/
def execFeEcho (p : Pulse) (port : PortIx) (side : Slot) (h : LinkHead) (s : State) : Host.Outcome State Fault Refusal :=
  let s0 := s.atP p.val
  ok (s0.feReceive port.val side 0x40 h [] (fun f => f.send s0.clockUs side 0x41 h [] 0 0 []))

/-! ### CONTROL and uploads (R95, R96, R101) -/

/-- The queued writes of a `CONTROL`, in order (R95): each alone; whether one was refused. -/
def FeSt.queuedWrites (f : FeSt) (t : Nat) (side : Slot) (fw : Verdict) (ver : Word) (ws : List (Nat × Word)) : FeSt :=
  ws.foldl (fun g w =>
    let r := g.writeAll t side fw ver [w]
    if r.1 = 0 then r.2 else { r.2 with wrRefused := true }) f

/-- A `CONTROL` of the present frame: its `FRAME` is that of the `SAMPLE` sampled on, where there was one. -/
def FeSt.ofFrame (f : FeSt) (h : LinkHead) : Bool :=
  match f.sampled with
  | some n => decide (h.frame = n)
  | none => true

/-- The contents of a `CONTROL` of the present frame act (R95, R133): from the authority port its mask, pattern, `SLEEP` and
queued writes; from another port its queued writes are refused. -/
def FeSt.control (f : FeSt) (t : Nat) (side : Slot) (frame : Nat) (mask : BitVec 64) (pat : Nat) (sleep : Bool)
    (writes : List (Nat × Word)) (fw : Verdict) (ver : Word) : FeSt :=
  if f.auth t ≠ some side then { f with wrRefused := f.wrRefused || decide (writes ≠ []) }
  else
    let pt : BitVec 2 := BitVec.ofNat 2 pat
    let g : FeSt :=
      { f with
        ctrlSeen := true, wakeHold := false, pattern := pt, sleepDue := sleep,
        owFlag := if f.pattern = 0 ∧ pt ≠ 0 then 0 else f.owFlag }
    (g.queuedWrites t side fw ver writes).applyMask t mask frame

/-- FE_CONTROL (R95, R133): a `CONTROL` arrives; it acts at pulse 20. -/
def execFeControl (port : PortIx) (side : Slot) (h : LinkHead) (mask : BitVec 64) (pat : Fin 3) (sleep : Bool)
    (writes : List (Nat × Word)) (fw : Verdict) (ver : Word) (s : State) : Host.Outcome State Fault Refusal :=
  let s0 := s.atP 20
  ok (s0.feReceive port.val side 2 h (controlBytes mask pat.val sleep writes) (fun f =>
    if f.ofFrame h then f.control s0.clockUs side h.frame mask pat.val sleep writes fw ver else f))

/-- FE_CONTROL_MISSING (R95): no valid `CONTROL` of the frame on the authority port by pulse 40. -/
def execFeControlMissing (port : PortIx) (s : State) : Host.Outcome State Fault Refusal :=
  let s0 := s.atP 40
  ok (s0.modFee port.val (fun f =>
    let g := f.roll s0.time.ticks
    if g.awake && !g.ctrlSeen then
      { g with ctrlMissing := true, pattern := 0, reqMask := 0, appliedMask := 0, balLimited := false }
    else g))

/-- `UST` of a port (Table 4-8). -/
def FeSt.ust (f : FeSt) (t : Nat) (side : Slot) : Mask :=
  BitVec.ofNat 16 (2 ^ 7 * packBits [decide (f.alarm &&& 0x1E ≠ 0), f.calFault, f.balLimited,
    decide (f.patternAtSample ≠ 0), f.wrRefused, f.ctrlMissing, f.conflict t, !(f.side side).sampleHere, f.convert])

/-- The payload of the upload on a port (Table 4-7). -/
def FeSt.upData (f : FeSt) (t : Nat) (side : Slot) : UpData :=
  { ust := f.ust t side, applied := f.appliedMask,
    block := if f.convert then f.block else 0,
    temp := if f.convert then (upFrom 0 16).map (tget f.temp) else [],
    cell := if f.convert then (upFrom 0 64).map (tget f.cellV) else [] }

/-- The upload of a frame on a port (R92, R96): `SEQ` of the `SAMPLE` received there, else of the last valid downlink
frame. -/
def FeSt.upload (f : FeSt) (t : Nat) (x : Slot) (frame : Nat) : UpFrame :=
  let d := f.upData t x
  let q := f.side x
  { head := f.upHead t x 0x10 frame (if q.sampleHere then q.sampleSeq else q.lastSeq) false d.bytes, data := d }

/-- FE_UPLOAD (R96): a front end that sampled in the frame sends its upload on both ports. -/
def execFeUpload (port : PortIx) (s : State) : Host.Outcome State Fault Refusal :=
  let s0 := s.atP 100
  ok (s0.modFee port.val (fun f =>
    let g := f.roll s0.time.ticks
    match g.sampled with
    | some n =>
      if !g.awake then g
      else
        let up (x : Slot) (q : FePort) : FePort := { q with sent := q.sent + 1, up := some (g.upload s0.clockUs x n) }
        { g with a := up .a g.a, b := up .b g.b }
    | none => g))

/-- The upload sent again (R101): only `RPT` and the CRC differ. -/
def UpFrame.again (u : UpFrame) : UpFrame := { u with head := { u.head with rpt := true }.seal u.data.bytes }

/-- FE_REPEAT (R101): the same upload once more on that port, for a `REPEAT` of the frame sampled in whose reference edge
comes by pulse 218. -/
def execFeRepeat (p : Pulse) (port : PortIx) (side : Slot) (h : LinkHead) (s : State) :
    Host.Outcome State Fault Refusal :=
  ok ((s.atP p.val).feReceive port.val side 3 h [] (fun f =>
    if p.val ≤ 218 ∧ f.sampled = some h.frame ∧ !(f.side side).repeated then
      f.modSide side (fun q => { q with repeated := true, sent := q.sent + 1, rep := q.up.map UpFrame.again })
    else f))

/-! ### Sleep (R138 to R142) -/

/-- The calibration block passes its check (Table 5-8). -/
def FeSt.calGood (f : FeSt) : Bool :=
  decide (crc32c ((upFrom 0 255).flatMap (fun i => le 4 (tget f.cal i).toNat)) = tget f.cal 255)

/-- A start at strobe count `n` (R145): every register at its reset value but the NV and factory ones, the image of a bank
running. Blocks not yet programmed are lost (log 170), and a commit that was in progress leaves the copy it was
overwriting unusable (R146). -/
def FeSt.start (f : FeSt) (n : Nat) (cause : Byte) (bank : Nat) : FeSt :=
  { contract := f.contract, model := f.model, serial := f.serial, cells := f.cells, thMask := f.thMask,
    bank0 := f.bank0, bank1 := f.bank1, runBank := bank, fwRun := if bank = 0 then f.bank0 else f.bank1,
    image0 := f.image0, image1 := f.image1, fwSize := f.fwSize, fwSel := f.fwSel, cal := f.cal,
    calFault := !f.calGood, resetCause := cause,
    wearShadow := f.wearCopy, wearCopy := f.wearCopy, wearValid := f.wearValid, wearSeq := f.wearSeq,
    wearOld := f.wearOld, wearOldOk := f.wearOldOk && !f.wearBusy, frameT := n, heardAt := n * 1000 }

/-- The committed copy after the checks at power-on (R146): the newer copy, else the older, else none. -/
def FeSt.wearCheck (f : FeSt) (newer older : Verdict) : FeSt :=
  if !f.wearValid || decide (newer = .pass) then f
  else if f.wearOldOk && decide (older = .pass) then
    { f with wearCopy := f.wearOld, wearShadow := f.wearOld, wearOldOk := false }
  else { f with wearValid := false }

/-- Enter sleep at time `t` (R138); a wear commit in progress completes first. -/
def FeSt.sleep (f : FeSt) (t : Nat) : FeSt :=
  if f.wearBusy then { f with sleepAfterCommit := true, sleepDue := false }
  else
    { f.clearAlarm 0x3E with
      asleep := true, sleepDue := false, sleepAfterCommit := false, appliedMask := 0, pattern := 0, period := none,
      sleepAt := t, sleepStop := false, toneDue := false }

/-- What is due at pulse 900 of the frame of strobe count `n`: a firmware restart, which discards a `SLEEP` of the frame
(R148), or the entry to sleep (R138). -/
def FeSt.pulse900 (f : FeSt) (n : Nat) : FeSt :=
  match f.restartDue with
  | some b => f.start n 0x02 b
  | none => if f.awake && f.sleepDue && decide (f.frameT = n) then f.sleep (n * 1000 + 900) else f

/-- FE_SLEEP_ENTRY (R138, R148): pulse 900. -/
def execFeSleepEntry (port : PortIx) (s : State) : Host.Outcome State Fault Refusal :=
  let s0 := s.atP 900
  ok (s0.modFee port.val (fun f => f.pulse900 s0.time.ticks))

/-- FE_SLEEP_TIMEOUT (R138): 200 ms without a valid downlink frame on either port. -/
def execFeSleepTimeout (p : Pulse) (port : PortIx) (s : State) : Host.Outcome State Fault Refusal :=
  let s0 := s.atP p.val
  ok (s0.modFee port.val (fun f => if f.awake && decide (f.heardAt + 200000 ≤ s0.clockUs) then f.sleep s0.clockUs else f))

/-- The crossings of a conversion in sleep (R141): the alarm bits, the channel of the first, and a tone for each new
bit. Of several cells that cross in one conversion `ALARM_CH` names the lowest (log 171). -/
def FeSt.sleepCheck (f : FeSt) : FeSt :=
  let cs := upFrom 0 f.cells
  let v (c : Nat) : Int := tget f.cellV c
  let ov (c : Nat) : Bool := decide ((f.slpOv : Int) ≤ v c)
  let uv (c : Nat) : Bool := decide (v c ≤ (f.slpUv : Int))
  let ts := (upFrom 0 16).filter (has f.thMask)
  let t (k : Nat) : Int := tget f.temp k
  let found : BitVec 6 := BitVec.ofNat 6 (2 * packBits [cs.any ov, cs.any uv,
    ts.any (fun k => !thBad (t k) && decide (f.slpOt ≤ t k)), ts.any (fun k => thBad (t k))])
  let first := (cs.find? (fun c => ov c || uv c)).getD 0xFF
  { f with
    alarm := f.alarm ||| found,
    alarmCh := if f.alarmCh = 0xFF then first else f.alarmCh,
    toneDue := f.toneDue || decide (found &&& ~~~f.alarm ≠ 0),
    sleepStop := f.sleepStop || decide (found &&& 0x1C ≠ 0) }

/-- A channel's sleep target in µV; 0xFFFFFF disables it. -/
def FeSt.target (f : FeSt) (c : Nat) : Nat := 0xFFFFFF - tget f.balTargetGap c

/-- The mask of a sleep conversion `e` µs after the entry (R139, R140): the one at 90 ms of a period decides it, a later one
ends it for channels at or below their target. -/
def FeSt.sleepMask (f : FeSt) (e : Nat) : FeSt :=
  let k := e / 10000000
  let above (margin c : Nat) : Bool :=
    decide (f.target c ≠ 0xFFFFFF) && decide ((f.target c + margin : Nat) < tget f.cellV c)
  if e % 10000000 < 1000000 then
    let req := maskOf ((upFrom 0 f.cells).filter (above (1000 * f.deadband)))
    { f with appliedMask := if f.balEn && !f.sleepStop then f.limitMask req (k % 2) else 0, period := some k }
  else if f.period = some k then
    { f with
      appliedMask := if f.sleepStop then 0
        else maskOf ((upFrom 0 64).filter (fun c => f.appliedMask.getLsbD c && above 0 c)) }
  else f

/-- A conversion of Table 5-3 falls `e` µs after the entry to sleep: at 90 ms of a period, and 4 ms into each later
second. -/
def sleepSlot (e : Nat) : Bool :=
  let w := e % 10000000
  (decide (90000 ≤ w) && decide (w < 100000)) ||
    (decide (1000000 ≤ w) && decide (4000 ≤ w % 1000000) && decide (w % 1000000 < 5000))

/-- FE_SLEEP_CONVERSION (R139, R140). -/
def execFeSleepConversion (p : Pulse) (port : PortIx) (i : FeIn) (s : State) : Host.Outcome State Fault Refusal :=
  let s0 := s.atP p.val
  ok (s0.modFee port.val (fun f =>
    let e := f.sleepFor s0.clockUs
    if f.on && f.asleep && sleepSlot e then ((f.convertAll i).sleepCheck).sleepMask e else f))

/-- FE_ALARM_TONE_SEND (R141): on both ports, for a new alarm bit and every 10 s while one stays; none while a wake
pattern is being received. -/
def execFeAlarmToneSend (p : Pulse) (port : PortIx) (waking : Bool) (s : State) : Host.Outcome State Fault Refusal :=
  let s0 := s.atP p.val
  let t := s0.clockUs
  ok (s0.modFee port.val (fun f =>
    if f.on && f.asleep && !waking && (f.toneDue || (decide (f.alarm &&& 0x1E ≠ 0) && decide (f.toneAt + 10000000 ≤ t))) then
      { f with tones := f.tones + 1, toneDue := false, toneAt := t, alarm := f.alarm ||| 0x01 }
    else f))

/-- FE_WAKE (R142): a valid wake pattern on either port. -/
def execFeWake (p : Pulse) (port : PortIx) (s : State) : Host.Outcome State Fault Refusal :=
  let s0 := s.atP p.val
  ok (s0.modFee port.val (fun f =>
    if f.on && f.asleep then
      { f with
        asleep := false, wakeHold := true, appliedMask := 0, reqMask := 0, toneDue := false, sleepStop := false,
        heardAt := s0.clockUs }
    else f))

/-- FE_AUTHORITY_EXPIRY (R136): 10 ms since the port's last valid frame with `ROLE` 0b01; the claim is over. -/
def execFeAuthorityExpiry (p : Pulse) (port : PortIx) (side : Slot) (s : State) : Host.Outcome State Fault Refusal :=
  let s0 := s.atP p.val
  ok (s0.modFee port.val (fun f => f.modSide side (fun q =>
    match q.claimAt with
    | some c => if c + 10000 ≤ s0.clockUs then { q with claimAt := none } else q
    | none => q)))

/-! ### Wear copy and starts (R145, R146) -/

/-- FE_WEAR_COMMIT_DONE (R146): the shadow is in the older copy's place and is the committed one; a sleep that waited
begins (R138). -/
def execFeWearCommitDone (p : Pulse) (port : PortIx) (s : State) : Host.Outcome State Fault Refusal :=
  let s0 := s.atP p.val
  ok (s0.modFee port.val (fun f =>
    if !f.wearBusy then f
    else
      let g : FeSt :=
        { f with wearBusy := false, wearDirty := false, wearValid := true, wearSeq := (f.wearSeq + 1) % 65536,
                 wearCopy := f.wearShadow, wearOld := f.wearCopy, wearOldOk := f.wearValid }
      if g.sleepAfterCommit then g.sleep s0.clockUs else g))

/-- `RESET_CAUSE` of a start (Table 5-5). -/
def FeCause.code : FeCause → Byte
  | .powerOn => 0x01
  | .watchdog => 0x03
  | .blockLow => 0x04

/-- FE_POWER_ON (R145, R146, R148): the bank of `FW_SEL` starts, or the other one where it fails; `newer` and `older` are the
checks of the two wear copies. -/
def execFePowerOn (p : Pulse) (port : PortIx) (cause : FeCause) (fellBack : Bool) (newer older : Verdict) (s : State) :
    Host.Outcome State Fault Refusal :=
  let s0 := s.atP p.val
  ok (s0.modFee port.val (fun f =>
    (f.start s0.time.ticks (if fellBack then 0x03 else cause.code) (if fellBack then 1 - f.fwSel else f.fwSel)).wearCheck
      newer older))

/-- What was due at pulse 900 of the frame that ends and no row has done (R138, R148). -/
def State.feRestarts (s : State) : State := { s with fe := tmodAll s.fe allPorts (fun _ f => f.pulse900 s.time.ticks) }

end Sys2Proof.Machine
end

