-- ==== Sys2Proof/Machine/Load.lean ====
section
/-! DEFINITION. The start of the module: the end of Fill, the boot selection, Load with its records, patches and state
sets, and the restarts of an update (R61 to R65, R301, R493 to R508, R518 to R525, R536, R537). -/

namespace Sys2Proof.Machine

/-! ### The end of Fill (R61, R363, R519, R536, R537) -/

/-- FILL_FAILED (R61): the Safe latch with cause 0x01, every string open, Safe without a runtime. -/
def State.fillFailed (s : State) : State :=
  let s1 := allStr.foldl (fun u k => (u.modPst k (fun x => { x with trip := true })).startOpening k) (s.enterSafe 0x01 0)
  { s1 with mode.mode := .safe, mode.safeCause := s1.jnl.safeLatch, mode.entryFrame := s1.now, mode.noRuntime := true }

/-- The pulse counters are set at the end of Fill (R271); through a restart of the runtime side the ports keep running
(R63). -/
def State.pseqSet (s : State) : State :=
  if s.sys.resetCause = 0x04 then s
  else { s with power.port := tmodAll s.power.port allStr (fun _ q =>
      { q with pseq := (s.now * 1000 + s.time.pulse) % 256 }) }

/-- Fill is complete (R519, R536): the boot selection; Load begins unless no bank can start, or the `SLOT_ID` pins name no
slot (R590). -/
def State.fillDone (s : State) (f : BootFind) : State :=
  let s1 := s.pseqSet.junctionFill
  { s1 with upd := if s1.sys.slotOk then s1.upd.boot f else { s1.upd with bootHold := true }, mode.mode := .load, mode.entryFrame := s1.now }

/-- FILL_COMPLETE (R536, R537, R61). `bad` are the blocks whose read-back failed: each takes a remap entry; with none
free, Fill fails. -/
def execFillComplete (p : Pulse) (bad : List (MemRegion × Nat)) (f : BootFind) (s : State) :
    Host.Outcome State Fault Refusal :=
  let s0 := s.atP p.val
  ok (if s0.mode.mode = .fill then
      let s1 := bad.foldl (fun u b => u.hardFault b.1 b.2) s0
      if bad.all (fun b => s1.mem.isRemapped b.1 b.2) then s1.fillDone f else s1.fillFailed
    else s0)

/-- FILL_TIMEOUT (R61): Fill has not completed 0.6 s after reset. -/
def execFillTimeout (p : Pulse) (s : State) : Host.Outcome State Fault Refusal :=
  let s0 := s.atP p.val
  ok (if s0.mode.mode = .fill then s0.fillFailed else s0)

/-! ### Taking records (R491, R492, R495, R496) -/

/-- Record types that a chapter defines. -/
def knownTypes : List Nat :=
  [0x0101, 0x0102, 0x0201, 0x0301, 0x0401, 0x0501, 0x0601] ++ upFrom 0x0701 8 ++ upFrom 0x0801 3 ++ [0x0901] ++
    upFrom 0x0A01 3 ++ upFrom 0x0B01 4 ++ upFrom 0x0C01 2 ++ [0x0D01, 0x0E01, 0x0F01, 0x0F02, 0x1001, 0x1101, 0x1301,
    0x1401, 0x1501, 0x1502, 0x1601]

/-- The record's body can be read: its version is known and its length could be converted. -/
def CfgRec.readable (r : CfgRec) : Bool := decide (r.ver = 1) && !r.bad

/-- Parse the record of a type: absent, or present and then valid or not. -/
def recOf {α : Type} (l : List CfgRec) (type : Nat) (parse : Bytes → Option α) : Option (Option α) :=
  (findRec l type).map (fun r => if r.readable then parse r.body else none)

/-- Take a record: absent it changes nothing, valid it is put in force, invalid its chapter's treatment applies. -/
def State.takeRec {α : Type} (s : State) (l : List CfgRec) (type : Nat) (parse : Bytes → Option α)
    (put : State → α → State) (invalid : State → State) : State :=
  match recOf l type parse with
  | none => s
  | some (some v) => put s v
  | some none => invalid s

/-- `CFG_RECORD` for a record (Table 17-14). -/
def State.recEvents (s : State) (r : CfgRec) : State :=
  let e (u : State) (c : Nat) : State := u.ev 0x1202 (le 2 r.type ++ le 1 c)
  if r.type ∉ knownTypes then e s 1
  else
    let s1 := if r.ver = 1 then s else e s 2
    let s2 := if r.migrated then e s1 3 else s1
    if r.bad then e s2 4 else s2

/-- The SF-01 limit R23 uses (R301). For an image whose `PROT_LIMITS` is absent the default stands (R302). For one whose
record is invalid, which no start can use, the spec names no limit: DESIGN CHOICE, the default as well (log 180). -/
def ovLimit (l : List CfgRec) : Int :=
  match recOf l 0x0B01 parseLimits with
  | some (some c) => c.ovTrip
  | _ => ({} : LimitCfg).ovTrip

/-- The required records of R492. `cred`: every certificate of `ACC_CREDENTIALS` has the plant CA profile and is signed by
the current root (R578). -/
def requiredOk (cred : Verdict) (l : List CfgRec) : Bool :=
  (match findRec l 0x0101 with
    | some r => r.readable && (topoFault r.body (ovLimit l)).isNone
    | none => false) &&
  (match recOf l 0x1501 parseCred with
    | some (some _) => decide (cred = .pass)
    | _ => false) &&
  (match recOf l 0x0B01 parseLimits with
    | some none => false
    | _ => true)

/-- What the judging of a slot journals of its required records (R23, R491, R578). -/
def State.requiredEvents (s : State) (cred : Verdict) (l : List CfgRec) : State :=
  let old (u : State) (t : Nat) : State := match findRec l t with
    | some r => u.evIf (decide (r.ver ≠ 1)) 0x1202 (le 2 t ++ le 1 2)
    | none => u
  let s1 := [0x0101, 0x0B01, 0x1501].foldl old s
  let s2 := match findRec l 0x0101 with
    | some r => if r.readable then (match topoFault r.body (ovLimit l) with
        | some (c, p) => s1.ev 0x0102 (le 1 p ++ le 1 c)
        | none => s1) else s1
    | none => s1
  match recOf l 0x1501 parseCred with
  | some (some _) => s2.evIf (decide (cred = .fail)) 0x1505 (le 2 0x1501 ++ le 1 0x10)
  | some none => s2.ev 0x1505 (le 2 0x1501 ++ le 1 0x10)
  | none => s2

/-! ### Putting the records of the chapters in force -/

/-- An invalid record: the event of its chapter. -/
def State.bad16 (code : Nat) (s : State) : State := s.ev code [0x10]

/-- An invalid record whose event names the record type. -/
def State.badType (code type : Nat) (s : State) : State := s.ev code (le 2 type ++ le 1 0x10)

/-- Mark one of the records of areas 0x02 to 0x06 as replaced by its defaults. -/
def State.replacedBit (s : State) (i : Nat) : State :=
  { s with cfgReplaced := s.cfgReplaced ||| ((1 : BitVec 5) <<< i) }

/-- Areas 0x01 and 0x02: the topology, the plant, the time sources. -/
def State.takeBase (s : State) (l : List CfgRec) : State :=
  let s1 := s.takeRec l 0x0101 some
    (fun u b => { u with
      sys.topoOk := true, sys.stringMask := BitVec.ofNat 16 (wordAt b 0), sys.container := bitsOf (wordAt b 0) 16 8,
      sys.ports := topoPorts b }) id
  let s2 := s1.takeRec l 0x0102 (fun b => if b.length = 20 then some b else none)
    (fun u b => { u with sys.plantId := BitVec.ofNat 32 (rdU b 0 4), sys.containerName := slice b 4 16 }) id
  let s3 := s2.takeRec l 0x0201 parseTime (fun u c => { u with time.cfg := c })
    (fun u => (u.ev 0x0204 [0, 0, 0x03]).replacedBit 3)
  { s3 with cells := s3.absentCells }

/-- Areas 0x0B and 0x03 to 0x06: protection first, since `CFE_POLICY` takes its limits as defaults (R301). -/
def State.takeProt (s : State) (l : List CfgRec) : State :=
  let c : ProtCfg := {}
  let s1 := (match recOf l 0x0B01 parseLimits with
    | some (some v) => { s with prot.cfg := { c with lim := v } }
    | _ => ({ s with prot.cfg := { c with limitsAbsent := true } } : State).ev 0x0B07 (le 2 0x0B01 ++ le 1 0x11))
  let bad (t : Nat) (u : State) : State := { u.badType 0x0B07 t with prot.cfg.replaced := true }
  let s2 := s1.takeRec l 0x0B02 parseMatrix (fun u v => { u with prot.cfg.matrix := v }) (bad 0x0B02)
  let s3 := s2.takeRec l 0x0B03 (fun b => parseCurrent b s2.prot.cfg) (fun u v => { u with prot.cfg := v }) (bad 0x0B03)
  s3.takeRec l 0x0B04 (fun b => parsePolicy b s3.prot.cfg) (fun u v => { u with prot.cfg := v }) (bad 0x0B04)

/-- Areas 0x03 to 0x06. -/
def State.takeCell (s : State) (l : List CfgRec) : State :=
  let s1 := s.takeRec l 0x0301 parseMode (fun u c => { u with mode.cfg := c })
    (fun u => ({ u with mode.cfgInvalid := true }).replacedBit 4)
  let s2 := s1.takeRec l 0x0401 parseLink (fun u c => { u with linkCfg := c })
    (fun u => (u.ev 0x0401 ([0xFF, 0, 0, 0x10] ++ le 4 0)).replacedBit 0)
  let s3 : State := { s2 with cfeCfg := cfeDefault s2.prot.cfg.lim }
  let s4 := s3.takeRec l 0x0501 parseCfe (fun u c => { u with cfeCfg := c })
    (fun u => (u.ev 0x0505 [0xFF, 0x10]).replacedBit 1)
  ({ s4 with meas.cfg := {} } : State).takeRec l 0x0601 parseMeas (fun u c => { u with meas.cfg := c }) (fun u => (u.bad16 0x0607).replacedBit 2)

/-- The first record of the chemistry set that is absent or fails (R185). -/
def chemFault (l : List CfgRec) : Option Nat :=
  (upFrom 0x0701 7).find? (fun t => match findRec l t with
    | some r => !(r.readable && chemRecOk t r.body)
    | none => true)

/-- Areas 0x07 to 0x09. -/
def State.takeModel (s : State) (l : List CfgRec) : State :=
  let body (i : Nat) : Bytes := ((findRec l (0x0700 + i)).map (·.body)).getD []
  let s1 := match chemFault l with
    | none => { s with est.chem := some (chemOf body) }
    | some t => s.ev 0x0705 (le 2 t ++ le 1 0x11)
  let s2 := s1.takeRec l 0x0708 parseEst (fun u c => { u with est.cfg := c })
    (fun u => { u.badType 0x0705 0x0708 with est.filterInvalid := true })
  let bad (t : Nat) (u : State) : State := { u.badType 0x0803 t with thm.cfg.replaced := true }
  let s3 := s2.takeRec l 0x0801 (fun b => parseThmParams b s2.thm.cfg) (fun u c => { u with thm.cfg := c }) (bad 0x0801)
  let s4 := s3.takeRec l 0x0802 (fun b => parseThmZones b s3.thm.cfg) (fun u c => { u with thm.cfg := c }) (bad 0x0802)
  let s5 := s4.takeRec l 0x0803 (fun b => parseThmPolicy b s4.thm.cfg) (fun u c => { u with thm.cfg := c }) (bad 0x0803)
  s5.takeRec l 0x0901 parseHerd (fun u c => { u with herd.cfg := c })
    (fun u => { u.bad16 0x0904 with herd.cfg.replaced := true })

/-- Build the context of a thermal loop from its record (R280). The loop starts in this frame: output off, its counts at 0
(R290, Table 10-6, log 192); its last input stays. -/
def ThermLoop.built (x y : ThermLoop) (now : Nat) : ThermLoop :=
  { y with y := x.y, yp := x.yp, entry := now, out := false, invalid := false, failed := false, count := 0, onCount := 0 }

/-- Area 0x0A. The ports' words of a record that is absent or invalid are the defaults of Table 10-13. -/
def State.takePower (s : State) (l : List CfgRec) : State :=
  let bad (t : Nat) (u : State) : State := { u.badType 0x0A06 t with power.cfg.replaced := true }
  let s0 : State := { s with power.cfg := {} }
  let s1 := s0.takeRec l 0x0A01 parsePorts (fun u v => { u with power.cfg.ports := v }) (bad 0x0A01)
  let s2 := s1.takeRec l 0x0A02 (fun b => parseConnect b s1.power.cfg) (fun u c => { u with power.cfg := c }) (bad 0x0A02)
  let put (u : State) (v : Tab ThermLoop) : State :=
    { u with power.therm := tmodAll u.power.therm (upFrom 16 48) (fun i x => x.built (tget v i) u.now) }
  match recOf l 0x0A03 parseTherm with
  | some (some v) => put s2 v
  | some none => put (bad 0x0A03 s2) []
  | none => put s2 []

/-- Areas 0x0C to 0x0E. -/
def State.takeDispatch (s : State) (l : List CfgRec) : State :=
  let bad (t : Nat) (u : State) : State := { u.badType 0x0C03 t with dsp.cfg.replaced := true }
  let s1 := s.takeRec l 0x0C01 (fun b => parseDsp b s.dsp.cfg) (fun u c => { u with dsp.cfg := c }) (bad 0x0C01)
  let s2 := s1.takeRec l 0x0C02 (fun b => parseDerate b s1.dsp.cfg) (fun u c => { u with dsp.cfg := c }) (bad 0x0C02)
  let s3 : State := { s2 with dsp.socMin := s2.dsp.cfg.socMin, dsp.socMax := s2.dsp.cfg.socMax }
  let s4 := s3.takeRec l 0x0D01 parseGrz (fun u c => { u with grz.cfg := c })
    (fun u => { u.bad16 0x0D05 with grz.cfg.replaced := true })
  s4.takeRec l 0x0E01 parsePair (fun u c => { u with pair.cfg := c })
    (fun u => { u.bad16 0x0E07 with pair.cfg.replaced := true })

/-- Areas 0x0F to 0x11: the site link, the container bus, the two-wire port. -/
def State.takeOuter (s : State) (l : List CfgRec) : State :=
  let s1 := s.takeRec l 0x0F01 parseNet (fun u c => { u with site.net0 := c.1, site.net1 := c.2 })
    (fun u => { u.badType 0x0F02 0x0F01 with site.netReplaced := true })
  let s2 := s1.takeRec l 0x0F02 (parsePush (fun i => (s1.object i).isSome)) (fun u c => { u with site.push := c })
    (fun u => { u.badType 0x0F02 0x0F02 with site.netReplaced := true })
  let s3 := s2.takeRec l 0x1001 parseCan (fun u c => { u with bus.cfg := c })
    (fun u => { u.bad16 0x1006 with bus.cfg.replaced := true })
  let s4 := s3.takeRec l 0x1101 parseTw (fun u c => { u with tw.cfg := c })
    (fun u => { u.bad16 0x1103 with tw.cfg.replaced := true })
  let c := s4.tw.cfg
  let pins := (BitVec.ofNat 2 s4.tw.pins &&& BitVec.ofNat 2 c.pinMask).toNat
  { s4 with tw.primary := if c.maskMode then c.base + pins else 0x58 + s4.tw.pins }

/-- Areas 0x13 to 0x16. -/
def State.takeStore (s : State) (l : List CfgRec) : State :=
  let s1 := s.takeRec l 0x1301 parseUpd (fun u c => { u with upd.confirmTime := c.1, upd.autoConfirm := c.2 })
    (fun u => { u.bad16 0x1307 with upd.replaced := true })
  let s2 := s1.takeRec l 0x1401 parseMem
    (fun u c => { u with
      mem.wearHoldup := c.1, mem.wearCfe := c.2.1, mem.scrubSram := c.2.2.1, mem.scrubDram := c.2.2.2 })
    (fun u => { u.bad16 0x1405 with mem.replaced := true })
  let s3 := s2.takeRec l 0x1501 parseCred (fun u c => { u with acc.plantCa := c.1, acc.denyImg := c.2 }) id
  let s4 := s3.takeRec l 0x1502 parseAcc (fun u c => { u with acc.maxInstaller := c.1, acc.validity := c.2 })
    (fun u => { u.badType 0x1505 0x1502 with acc.replaced := true })
  s4.takeRec l 0x1601 parsePsv (fun u c => { u with psv.aiMode := c.1, psv.lossWait := c.2 })
    (fun u => { u.bad16 0x1604 with psv.replaced := true })

/-- Every record of the loaded image goes to its chapter. -/
def State.takeRecords (s : State) (l : List CfgRec) : State :=
  ((((((((l.foldl State.recEvents s).takeBase l).takeProt l).takeCell l).takeModel l).takePower l).takeDispatch
    l).takeOuter l).takeStore l

/-! ### The limit digest (R301) -/

/-- The default body of `PROT_LIMITS` (Table 11-10). -/
def defaultLimitsBody : Bytes :=
  let c : LimitCfg := {}
  [c.ovTrip, c.ovWarn, c.uvTrip, c.uvWarn].flatMap (leI 4) ++
    [c.otTrip, c.otWarn, c.coreTrip, c.coreWarn, c.tHyst, c.vHyst].flatMap (leI 2)

/-- The default body of `PROT_TRIP_MATRIX` (Table 11-3). -/
def defaultMatrixBody : Bytes :=
  ({} : ProtCfg).matrix.flatMap (fun m => [BitVec.ofNat 8 m.role.code, m.trip, m.warn, 0])

/-- The body of a record of area 0x0B that Markhor accepts, its default where it is absent or invalid. -/
def acceptedBody {α : Type} (l : List CfgRec) (type : Nat) (parse : Bytes → Option α) (d : Bytes) : Bytes :=
  match recOf l type parse with
  | some (some _) => ((findRec l type).map (·.body)).getD d
  | _ => d

/-- `PROT_LIMIT_DIGEST` (R301). -/
def limitDigest (l : List CfgRec) : Word :=
  crc32c (acceptedBody l 0x0B01 parseLimits defaultLimitsBody ++ acceptedBody l 0x0B02 parseMatrix defaultMatrixBody ++
    acceptedBody l 0x0B03 (fun b => parseCurrent b {}) (le 4 (200 * 65536 + 10) ++ [5, 2, 20, 2]) ++
    acceptedBody l 0x0B04 (fun b => parsePolicy b {}) ([15, 10, 5, 50] ++ le 4 0x5F))

/-! ### Selection and patches (R494, R505 to R507) -/

/-- The records of a slot that reaches the judgement of its required records. -/
def judgedRecs (img : Bytes) (res : Nat) : Option (List CfgRec) := if res = 0 ∨ res = 6 then imageRecs img else none

/-- `CFG_SELECT` (Table 17-14). -/
def State.evSelect (s : State) (cause : Nat) : State :=
  s.ev 0x1201 (le 1 (s.cfg.slot.getD 0xFF) ++ le 4 s.cfg.seqLoaded ++ le 1 s.cfg.format ++ le 1 s.cfg.res0 ++
    le 1 s.cfg.res1 ++ le 1 cause)

/-- Both slots are judged and one is chosen (R493, R494); `CFG_STATUS` of the slot not loaded. -/
def State.judgeSlots (s : State) (x : LoadIn) : State :=
  let i0 := s.cfg.slot0
  let i1 := s.cfg.slot1
  let r0 := judgeImage i0 x.chain0 (requiredOk x.cred0)
  let r1 := judgeImage i1 x.chain1 (requiredOk x.cred1)
  let s1 := ((judgedRecs i0 r0).map (s.requiredEvents x.cred0)).getD s
  let s2 := ((judgedRecs i1 r1).map (s1.requiredEvents x.cred1)).getD s1
  let best := chooseSlot r0 r1 (imageSeqOf i0) (imageSeqOf i1)
  let s3 : State := { s2 with cfg.res0 := r0, cfg.res1 := r1, cfg.slot := best }
  let k := s3.targetSlot
  let other := s3.slotImage k
  let shown := decide (2 < (if k = 0 then r0 else r1)) || decide ((if k = 0 then r0 else r1) = 0)
  { s3 with cfg.seqOther := if shown then imageSeqOf other else 0,
            cfg.digestOther := if shown then imageDigest other else 0 }

/-- Replay one entry of the live half; `bad`: its CRC fails (R505, R507). -/
def State.replay (s : State) (bad : Bool) (e : PatchEntry) : State :=
  let i : PatchItem := { type := e.type, word := e.word, mask := e.mask, value := e.value }
  if bad then s.ev 0x1205 (le 1 3 ++ le 2 1)
  else if s.itemOk i then s.applyItem i
  else s.ev 0x1205 (le 1 4 ++ le 2 1)

/-- PATCH_REPLAY (R507); `bad` are the places of the entries whose CRC fails. -/
def State.patchReplay (s : State) (bad : List Nat) : State :=
  match s.liveHalf with
  | none => s
  | some k =>
    let h := s.half k
    if h.imageSeq = s.cfg.seqLoaded then (h.entries.zipIdx).foldl (fun u e => u.replay (decide (e.2 ∈ bad)) e.1) s
    else s.ev 0x1205 (le 1 2 ++ le 2 h.entries.length)

/-- Load the chosen slot's image (R494, R495): its records, the patches, `CFG_SELECT`. -/
def State.loadImage (s : State) (k : Nat) (bad : List Nat) : State :=
  let img := s.slotImage k
  let l := (imageRecs img).getD []
  let newest := isNewest k s.cfg.res0 s.cfg.res1 (imageSeqOf s.cfg.slot0) (imageSeqOf s.cfg.slot1)
  let s1 : State := { s with
    cfg.seqLoaded := imageSeqOf img, cfg.digestLoaded := imageDigest img, cfg.format := rdU img 4 2,
    cfg.created := rdU img 16 8, cfg.migrated := decide (rdU img 4 2 < 3), cfg.fallback := !newest }
  let s2 := (s1.takeRecords l).patchReplay bad
  { s2 with prot.digest := limitDigest l }.evSelect (if newest then 1 else 2)

/-! ### State sets (R523, R524) -/

/-- The manifest of the running bank. -/
def UpdSt.manifestOf (u : UpdSt) : Manifest := ((u.bank u.running).manifest).getD {}

/-- Format of the live state set. -/
def UpdSt.liveFmt (u : UpdSt) : Nat := if u.set = 0 then u.fmt0 else u.fmt1

/-- A trial runtime cannot use the stored state (R524). -/
def State.stateUnfit (s : State) (x : LoadIn) : Bool :=
  let u := s.upd
  u.trial && (decide (u.liveFmt < u.manifestOf.fmtFrom) ||
    (decide (u.mig ≠ .ready) && decide (u.trialTarget ≠ u.set) && decide (x.convert = .fail)))

/-- STATE_MIGRATION (R523): a trial start uses its target set, converted from the live set where the formats differ; every
other start uses the live set. -/
def State.migrate (s : State) : State :=
  let u := s.upd
  if !u.trial then s.useSet u.set
  else
    let t := u.trialTarget
    if u.mig = .ready then s.useSet t
    else if t = u.set then { s.useSet t with upd := { (s.useSet t).upd with mig := .ready }.wrote }
    else
      let s1 := s.useSet u.set
      let f := u.manifestOf.fmt
      let u1 : UpdSt := { ({ s1.upd with mig := .running } : UpdSt).wrote with
        mig := .ready, fmt0 := if t = 0 then f else s1.upd.fmt0, fmt1 := if t = 0 then s1.upd.fmt1 else f,
        converted := true, oldFmt := u.liveFmt }
      { s1 with
        ledgerOther := s1.site.ledger, jnl.otherMirror := (s1.jnl.mirror0, s1.jnl.mirror1), upd := u1.wrote }.useSet t

/-- SETTINGS_INCOMPATIBLE (R524): the trial is rejected and the module restarts. -/
def State.rejectTrial (s : State) : State := { s with upd := s.upd.reject 0x04 }.restart 0x06

/-! ### The end of Load -/

/-- Events of the update record at the end of a first Load (R525). -/
def State.updEvents (s : State) : State :=
  let u := s.upd
  let rel := le 4 (u.release u.running).toNat
  let s1 := if u.revertNew then
      { s.ev 0x1305 (le 1 u.cause ++ le 1 u.running ++ rel) with upd := { u with revertNew := false }.wrote }
    else s
  let s2 := if u.copyNew then
      { s1.ev 0x1303 (le 1 u.running ++ le 2 u.copied ++ rel) with upd := { s1.upd with copyNew := false }.wrote }
    else s1
  s2.evIf u.trial 0x1304 (le 1 u.trials ++ le 1 u.running ++ rel ++
    le 1 (if u.converted then u.oldFmt else u.liveFmt) ++ le 1 u.manifestOf.fmt ++ le 1 (b2n u.converted))

/-- The connect loops are built (R280, R281); what Pronghorn writes stays. -/
def State.loopsBuild (s : State) : State :=
  let c := s.power.cfg
  { s with power.port := tmodAll s.power.port allStr (fun k q =>
      let p := tget c.ports k
      { q with loop :=
          if s.installed k then
            { q.loop with
              on := true, c1 := loopC1 c.ffSteps p.choke, c2 := loopC2 c.ffSteps p.vclamp p.choke,
              band := 100 * c.connBand }
          else { q.loop with on := false, sp := 0, band := 0, c1 := 0, c2 := 0 } }) }

/-- An enabled interlock that is still faulted at the end of the first Load, its debounce counted from the start of the
fault (R314). -/
def State.ilkAtLoad (s : State) (i : Nat) : State :=
  let x := tget s.prot.ilk i
  match x.from_ with
  | some f =>
    if x.bad ∧ s.ilkOn i ∧ f + s.ilkDebounce ≤ s.now then
      { s with prot.ilk := tput s.prot.ilk i { x with faulted := true } }.tripModule (ilkFn i) i 0
    else { s with prot.ilk := tput s.prot.ilk i { x with faulted := false } }
  | none => s

/-- MARKHOR_LOAD_HANDOFF (R301, R314, R504): the records and the patched port words are taken, the interlocks judged with
the loaded values, `TRIP` of before Load released where no latch stands. -/
def State.handoff (s : State) : State :=
  let first := !s.prot.loaded
  let s1 : State := { s with prot.loaded := true, power.loadPorts := s.power.cfg.ports }
  let s2 := if first then (upFrom 0 4).foldl State.ilkAtLoad s1 else s1
  { s2 with prot.str := tmap s2.prot.str (fun _ x =>
      if x.preLoadTrip then { x with preLoadTrip := false, trip := decide (x.latched ≠ 0) } else x) }

/-- What the end of Load does before the mode changes: the ledger (R424), identity (R26), `SYS_START` (R29), the update
record (R521, R525), the calibration block (R601), the Herd levels (R254), the controllers (Table 15-2), the debug port
(R576), the events of the start. -/
def State.loadEnd (s : State) : State :=
  let s1 := (s.ledgerAtLoad (fun _ => false)).loopsBuild.handoff.herdRestore
  let s2 : State := { s1 with
    sys.imageSeq := BitVec.ofNat 32 s1.cfg.seqLoaded, sys.startFrame := s1.now,
    sys.runtime := s1.upd.release s1.upd.running,
    upd := if s1.upd.loadFails = 0 then s1.upd else { s1.upd with loadFails := 0 }.wrote,
    psv.calUsed := if calBlockValid s1.psv.cal then s1.psv.cal else [],
    acc.debugOpen := s1.acc.debugDue && decide (s1.sys.resetCause = 0x07), acc.debugDue := false }
  let s3 := s2.ev 0x0101 ([s2.sys.resetCause] ++ le 1 s2.upd.running ++ le 1 (b2n s2.upd.trial) ++
    le 4 s2.sys.imageSeq.toNat)
  let s4 := s3.evIf s3.mode.cfgInvalid 0x0301 [1, 1, 0x10]
  let s5 := if s4.sys.resetCause = 0x02 then s4.lossEvent 4 0 0 else s4
  (s5.updEvents.canStart 0).canStart 1

/-- LOAD_SAFE_LATCH (R64): from Load to Safe with the latched cause; the pair state is DETACHED (Table 13-2 row 14). -/
def State.loadSafe (s : State) : State :=
  let s1 := s.freezeEnd.setMode .safe 0x03 0
  { s1 with mode.safeCause := s1.jnl.safeLatch, prot.safeA := true, prot.safeB := true }.setPair .detached 0x0B

/-- What Markhor still holds of wires, blocks and thermistors when a runtime starts beside it enters the table memory that
Fill has cleared (R153, R164, R168, R172). -/
def State.faultsBack (s : State) : State :=
  let s1 := s.fittedPorts.foldl (fun u p => (u.wireFlags p).blkFlags p (tget u.meas.fe p).blk) s
  s1.fittedPorts.foldl (fun u p =>
    { u with th := tmodAll u.th ((upFrom 0 16).map (thIx p)) (fun i x =>
        let y := tget u.mkTh i
        if has (u.thOn p) (i % 16) && y.isBroken then
          { x with broken := true, kind := if y.broken then thKind y.reading else 3 }
        else x) }) s1

/-- Survey begins (Table 3-5): the pair state of Table 13-2 row 1 or R396, a survey of each installed string. Step 2 compares
with the identities of the module's own newest record (R607), until step 5 has reconciled all candidates. -/
def State.surveyBegin (s : State) : State :=
  let cause := if s.prot.frozen then 0x0C else 0x01
  let s1 := s.setMode .survey 0x02 0
  let s2 := if s1.pair.frozenLone then s1.becomeLone cause else
    let l := s1.setPair .listen cause
    if l.pair.chgIn then l.setPair .joining 2 else l
  s2.strings.foldl (fun u k => u.surveyStart k 0)
    { s2.faultsBack with mode.surveyFrom := s2.now, jnl.ident := (s2.wearOwn.map (·.port)).getD [] }

/-- CONFIGURATION_FAULT_HOLD (R65). -/
def State.hold (s : State) : State := { s.evSelect 3 with mode.configHold := true }

/-- LOAD_COMPLETE (R62): slots judged and one loaded, patches replayed, stored state migrated; then Survey, Safe under a
latch, the configuration-fault hold, or the end of a trial that cannot use its settings. -/
def execLoadComplete (x : LoadIn) (s : State) : Host.Outcome State Fault Refusal :=
  let s0 := s.atP 0
  ok (if s0.mode.mode = .load ∧ s0.runtimeRuns ∧ !s0.mode.configHold then
      if s0.stateUnfit x then s0.rejectTrial
      else
        let s1 := ({ s0 with jnl.herdBad := x.herdBad } : State).migrate.judgeSlots x
        match s1.cfg.slot with
        | none => if s1.upd.trial then s1.rejectTrial else s1.hold
        | some k =>
          let s2 := (s1.loadImage k x.patchBad).loadEnd
          if s2.jnl.safeLatch ≠ 0 then s2.loadSafe else s2.surveyBegin
    else s0)

/-- LOAD_OVERRUN (R521): Load has not finished 2.4 s after Fill; Markhor restarts the runtime side, and the failure of a
hardened bank is counted. -/
def execLoadOverrun (p : Pulse) (s : State) : Host.Outcome State Fault Refusal :=
  let s0 := s.atP p.val
  ok (if s0.mode.mode = .load ∧ s0.runtimeRuns ∧ !s0.mode.configHold ∧ s0.mode.entryFrame + 2400 ≤ s0.now then
      let u := s0.upd
      { s0 with upd := if u.trial then u else { u with loadFails := u.loadFails + 1 }.wrote }.restart 0x04
    else s0)

/-- UPD_ACTIVATE_RESTART (R518): at pulse 950 of the frame of its step 1 the named module writes ACTIVATING, and at pulse
999 restarts. -/
def execUpdActivateRestart (s : State) : Host.Outcome State Fault Refusal :=
  let s0 := s.atP 999
  ok (if s0.upd.activateAt = some s0.now then
      { s0 with upd := { s0.upd with vstate := .activating, copyIndex := 0, activateAt := none }.wrote }.restart 0x06
    else s0)

/-- CFG_STAGE_STEP_DONE (R498, R499): a staging step of this module, which it lists. `st` is what its flash reports; `chain`
and `cred` are the verdicts of R488 and R578 on the image. -/
def execCfgStageStepDone (id : Word) (step : Nat) (st : Status) (chain cred : Verdict) (s : State) :
    Host.Outcome State Fault Refusal :=
  ok (s.stageStep id step st chain (requiredOk cred))

end Sys2Proof.Machine
end

