-- ==== Sys2Proof/Machine/Health.lean ====
section
/-! DEFINITION. The health of the 26 subsystems of Table 1-2 (R27, R29), from the rule of each owning chapter. -/

namespace Sys2Proof.Machine

/-- Something whose last instance lies less than `n` frames back. -/
def State.within (s : State) (n : Nat) (f : Option Nat) : Bool :=
  match f with
  | some x => decide (s.now < x + n)
  | none => false

/-- The self-test of subsystem `n` has failed. -/
def State.selfTest (s : State) (n : Nat) : Bool := s.sys.selfTestFail.getLsbD (n - 1)

/-- The monitor of a clock domain has failed. -/
def State.clockBad (s : State) (d : ClockDomain) : Bool := s.prot.clocks.getLsbD d.code

/-- Some block of a region is remapped. -/
def State.remappedIn (s : State) (r : MemRegion) : Bool := s.mem.remap.any (fun e => decide (e.1 = r))

/-- A cell-table region is degraded by R566. -/
def State.memDegraded (s : State) (r : MemRegion) (m : MemReg) : Bool :=
  s.remappedIn r || s.within 60000 m.lastUncorr

/-- A test has been void three times in succession, or a thermistor is broken (R174). -/
def State.measDegraded (s : State) : Bool :=
  s.strings.any (fun k => (s.fittedOf k).any (fun p => (tget s.meas.fe p).void3) ||
    (s.thsOf k).any (fun i => (tget s.th i).broken))

/-- An enabled controller is not in RUN outside Fill, Load and Survey, or an object is DISABLED (R470). -/
def State.canDegraded (s : State) : Bool :=
  let late := decide (s.mode.mode ∉ [Mode.fill, .load, .survey])
  let off (en : Bool) (y : CanCtl) : Bool := late && en && decide (y.state ≠ .run)
  let dis (y : CanCtl) : Bool := y.obj.any (fun e => decide (e.2.state = .disabled))
  off s.bus.cfg.aEn s.bus.a || off s.bus.cfg.bEn s.bus.b || dis s.bus.a || dis s.bus.b

/-- An enabled site port's link is down (R444). -/
def State.siteDown (s : State) : Bool :=
  (s.site.net0.flags % 2 = 1 && !s.site.link0) || (s.site.net1.flags % 2 = 1 && !s.site.link1)

/-- Subsystem `n` is faulted (R27). The manual gives subsystem 1 no condition. -/
def State.faulted (s : State) (n : Nat) : Bool :=
  match n with
  | 2 => s.prot.islandFault
  | 3 => s.mem.table.unmapped
  | 4 => s.mem.dram.unmapped
  | 5 => s.selfTest 5
  | 6 => s.clockBad .linkA || s.clockBad .linkB || s.selfTest 6
  | 7 => s.selfTest 7 || s.meas.permitLost
  | 8 => s.selfTest 8
  | 9 => s.selfTest 8
  | 10 => s.selfTest 8
  | 11 => s.clockBad .pwr || s.selfTest 11
  | 12 => s.selfTest 12
  | 13 => s.prot.diag.getLsbD 10
  | 14 => s.dsp.zeroed
  | 15 => decide (s.grz.rung = 5)
  | 16 => s.time.oscFault
  | 17 => s.clockBad .eth0 || s.clockBad .eth1 || s.selfTest 17
  | 18 => s.selfTest 18
  | 19 => s.clockBad .can || s.selfTest 19
  | 20 => s.clockBad .aon || s.selfTest 20
  | 21 => s.clockBad .pair || s.selfTest 21
  | 22 => s.clockBad .qspi || s.selfTest 22
  | 23 => s.selfTest 23 || !s.upd.valid
  | 24 => s.selfTest 24
  | 25 => s.selfTest 25
  | 26 => s.selfTest 26 || decide (s.psv.huFull < 25)
  | _ => false

/-- The condition that degrades subsystem `n` (R27). -/
def State.reduced (s : State) (n : Nat) : Bool :=
  match n with
  | 2 => s.prot.islandDegraded
  | 3 => s.memDegraded .table s.mem.table
  | 4 => s.memDegraded .dram s.mem.dram
  | 5 => decide (12 ≤ s.mem.remap.length) || s.mem.table.late || s.mem.dram.late || s.mem.markhor.late || s.mem.replaced
  | 6 => decide (s.mode.mode ≠ .survey) &&
      s.fittedPorts.any (fun p => decide ((s.lnk p).state = .lost) || (s.lnk p).latFault)
  | 7 => s.measDegraded
  | 8 => s.builtIn || s.within 1000 s.est.lastOverrun
  | 9 => s.strings.any (fun k => (tget s.thm.str k).plateInvalid || s.within 1000 (tget s.thm.str k).lastStale) ||
      s.thm.cfg.replaced
  | 10 => s.within 60000 s.herd.lastSkip || s.herd.cfg.replaced
  | 11 => s.strings.any (fun k =>
      let q := s.pp k
      q.icur.invalid || q.vstr.invalid || q.vbus.invalid || q.statInvalid || q.echoFault)
  | 12 => s.power.cfg.replaced || s.power.out.any (fun e => decide (e.2.faults ≠ 0))
  | 13 => s.strings.any (fun k => (s.pst k).modelStale) || s.prot.cfg.limitsAbsent || s.prot.cfg.replaced
  | 14 => s.within 1000 s.dsp.lastOverrun || s.strings.any (fun k => (tget s.dsp.str k).staleTherm) ||
      s.dsp.cfg.replaced
  | 15 => decide (1 ≤ s.grz.rung) || decide (0 < s.grz.elastic) || decide (s.grz.railFail ≠ 0) ||
      decide (s.grz.diodeFail ≠ 0) || s.grz.baseFail || (decide (s.mode.mode = .serve) && !s.hvacValid) ||
      s.grz.cfg.replaced
  | 16 => !(decide (s.time.state = .locked) || (decide (s.time.state = .following) && s.time.activeHealthy))
  | 17 => s.siteDown || s.site.netReplaced
  | 18 => s.site.pages.any (fun e => decide (e.2.owner = .poisoned)) || s.site.stalled ||
      (match s.site.lastLoss with | some f => decide (f / 1000 = s.now / 1000) | none => false)
  | 19 => s.canDegraded || s.bus.unreachable || s.bus.cfg.replaced
  | 20 => s.within 60000 s.tw.lastStuck || s.tw.cfg.replaced
  | 21 => !(s.pair.lane0 && s.pair.lane1) || s.pair.lineFault || decide (s.pair.state = some .detached) ||
      (s.pair.heard && !s.inPair) || s.pair.cfg.replaced
  | 22 => s.cfg.fallback || s.cfg.migrated || s.cfg.persistFail || s.mode.configHold
  | 23 => s.upd.trial || decide (s.upd.vstate = .rejected) || !s.upd.fallback || s.upd.replaced
  | 24 => s.within 60000 s.jnl.lastReadback || decide (0 < s.jnl.safety.dropped + s.jnl.event.dropped + s.jnl.audit.dropped) ||
      s.jnl.wearNone
  | 25 => s.acc.replaced || decide (s.currentRoot = some 3)
  | 26 => decide (s.psv.huFull < 60) || decide (s.grz.railFail ≠ 0) || decide (s.psv.vin < 18000) ||
      decide (32000 < s.psv.vin) || decide (s.psv.calUsed = []) || s.psv.replaced
  | _ => false

/-- Health of subsystem `n` in the present state; the two bits are never set together (R27). -/
def State.healthOf (s : State) (n : Nat) : Health :=
  if s.faulted n then .faulted else if s.reduced n then .degraded else .healthy

/-- Health of subsystem `n` as `SYS_HEALTH` reports it. -/
def State.healthBit (s : State) (n : Nat) : Health :=
  if s.sys.fault.getLsbD (n - 1) then .faulted else if s.sys.degraded.getLsbD (n - 1) then .degraded else .healthy

/-- Code of a health state (Table 1-9). -/
def Health.code : Health → Nat
  | .healthy => 0
  | .degraded => 1
  | .faulted => 2

/-- Take the health of subsystem `n`, with `SYS_SUBSYSTEM_CHANGE` at a change (R29). -/
def State.healthTake (s : State) (n : Nat) : State :=
  let old := s.healthBit n
  let new := s.healthOf n
  let bit : BitVec 26 := (1 : BitVec 26) <<< (n - 1)
  let put (b : BitVec 26) (c : Bool) : BitVec 26 := if c then b ||| bit else b &&& ~~~bit
  if new = old then s
  else { s.ev 0x0103 (le 1 n ++ le 1 old.code ++ le 1 new.code) with
    sys.fault := put s.sys.fault (decide (new = .faulted)), sys.degraded := put s.sys.degraded (decide (new = .degraded)),
    sys.changes := sat32u (s.sys.changes + 1) }

/-- SYS_SUBSYSTEM_CHANGE (R29): the health of all subsystems, from the state in which the frame's work is done. -/
def State.health (s : State) : State := (upFrom 1 26).foldl State.healthTake s

end Sys2Proof.Machine
end

