-- ==== Sys2Proof/Machine/Words.lean ====
section
/-! DEFINITION. The pulse of a power port (chapter 10): the work of the frame start that waits for the frame's commands
(R82), and the command word. -/

namespace Sys2Proof.Machine

/-! ### Work of the frame start after the commands (R71, R82, R165, R170, R371, R466) -/

/-- An ordered opening of a string whose current is below 5 % of its rating. -/
def State.openingLow (s : State) (k : Nat) : State :=
  match (s.str k).opening with
  | none => s
  | some (.lone, _) => if s.lowCurrent k (s.curOf k) then s.loneOpen k else s
  | some _ => if s.lowCurrent k (s.curOf k) then s.openNow k else s

/-- The runtime's work on the strings at pulse 0: it follows the commands of the frame (R82) and so is due from the strobe
until the first word of a later pulse, or the closure at the latest (log 181). -/
def State.stringsWork (s : State) : State :=
  if s.mode.workDue then
    let s1 : State := { s with mode.workDue := false }.atP 0
    let s2 := s1.strings.foldl (fun u k => (u.openingLow k).wireOpenLow k) s1
    s2.rosterApply.idleEntry
  else s

/-! ### The command word (R264 to R284) -/

/-- What a powered module does from pulse 1 before the word: the work that waited for the frame's commands, and Markhor's
consent to a connect of the string. -/
def State.wordWork (s : State) (k : Nat) : State :=
  if s.psv.powered ∧ 0 < s.time.pulse then (s.stringsWork.atP s.time.pulse).connectConsent k else s

/-- The sample of pulse 10 is the discharge current kept for an `INH_CHG` taken since the frame began (R350). -/
def State.keepHeld (s : State) (k : Nat) : State :=
  s.modPst k (fun x => { x with
    disHeld := (upFrom 1 12).foldl (fun t n =>
      if has x.warn (n - 1) || has x.tripStage (n - 1) then
        if tget x.disAt n = s.now then tput t n (disOf (s.pp k).icur.at10) else t
      else t) x.disHeld })

/-- COMMAND_WORD (R264 to R284): one pulse of one port. The port takes the bits its modulators gave in the pulse before,
so that the sample of the pulse before that is complete; sends its word; Pronghorn and Markhor act on the new samples.
`peer` is what the other module's line to the stage carries, idle where there is none, `cur` the stage's own current measurement. -/
def execCommandWord (str : StrIx) (icur vstr vbus : BitVec 20) (peer : LineWord) (cur : Int) (s : State) :
    Host.Outcome State Fault Refusal :=
  let k := str.val
  let p := (s.pp k).pulse
  let s0 := (s.atP p).wordWork k
  let q := s0.pp k
  let c := s0.portCfg k
  let pick := Config.freeBool s0.free
  let toStage (u : State) (w : LineWord) : State :=
    { u with
      power.stage := tmod u.power.stage k (fun g =>
        match s0.sys.slot with
        | .a => g.pulse w peer cur pick
        | .b => g.pulse peer w cur pick),
      free := u.free + 1 }
  if !s0.psv.powered then ok (toStage s0 idleLine)
  else
    let w := s0.wordOf k
    let ic := q.icur.take icur c.icurFs c.icurOfs
    let vs := q.vstr.take vstr c.vstrFs 0
    let vb := q.vbus.take vbus c.vbusFs 0
    let out := coarseOutputs ic.bits c.icurFs c.icurOfs
    let at12 := decide (p = 12)
    let mark (x : ChanSt) : ChanSt := if at12 then { x with at10 := x.sample } else x
    let q1 : PpSt :=
      { q with
        pulse := (p + 1) % 1000, pseq := (q.pseq + 1) % 256, word := w,
        wordCrc := (le 4 (w.low &&& 0xFF1FFFFF).toNat).foldl crcByte q.wordCrc,
        icur := mark ic, vstr := mark vs, vbus := mark vb,
        coarse := out.reverse.take 2,
        coarseHit := twoAbove (s0.sf04Threshold k) ((q.coarse.take 1) ++ out),
        acc := (if at12 then ({} : Sums) else q.acc).add ic.sample,
        last := if at12 then q.acc else q.last,
        phasePulses := q.phasePulses + 1,
        lowRun := if q.opening && decide (ic.sample.natAbs < 1000) then q.lowRun + 1 else 0 }
    let q2 := if q1.phase.looping then { q1 with loop := loopStep s0.power.cfg c q1 } else q1
    let s1 := s0.modPp k (fun _ => { q2 with gates := (w.gate :: q2.gates).take 6 })
    let s2 := if at12 then ((s1.takeInterval k).powerAbsence k).keepHeld k else s1
    let s3 : State := { s2 with meas.str := tmod s2.meas.str k (fun m =>
      { m with loud1 := m.loud1 || !s2.below02 ic.sample, loud2 := m.loud2 || !s2.below002 ic.sample }) }
    let s4 := (toStage s3 w.line).inhWatch k ic.sample
    let s5 := if (s4.pp k).loop.windowAge ≤ 2000 then s4.handoverTake k else s4
    ok (match s5.psv.loss with
      | some l => if l.runs && l.waitEnded then s5.lossOpenLow else s5
      | none => s5)

end Sys2Proof.Machine
end

