-- ==== Sys2Proof/Machine/Frame.lean ====
section
/-! DEFINITION. The frame itself (chapter 02): the strobe of pulse 0, the second boundary, the frame closure. -/

namespace Sys2Proof.Machine

/-! ### The strobe: time and the frame's own marks -/

/-- The frame numbers advance by one (R32, R33), the offset is slewed (R51); the marks of the frame that ended are cleared. -/
def State.tick (s : State) : State :=
  { s with
    time.frame := s.time.frame + 1, time.markhorFrame := s.time.markhorFrame + 1, time.pulse := 0,
    time.uptime := s.time.uptime + 1, time.sincePower := s.time.sincePower + 1, time.overrunNow := 0,
    est.passDone := false, dsp.done := false, dsp.queued := false, pair.sent := [] }.slewFrame.boundTake

/-- The loop contexts of pulse 999 (R294), and the per-frame marks of the power ports. -/
def State.portsFrame (s : State) : State :=
  { s with
    power.loops999 := allStr.foldl (fun t k => tput t k (s.pp k).loop) [],
    power.therm999 := s.power.therm,
    power.port := tmap s.power.port (fun _ q => { q with pulse := 0, auxPrev := q.auxNow, auxNow := false }) }

/-! ### The downlink of the frame start (R92 to R94, R103) -/

/-- The port gets `SAMPLE` and `CONTROL` in the frame of a strobe count (R94, R107). -/
def LinkSt.awake (l : LinkSt) (f : Nat) : Bool :=
  match l.state with
  | .off => false
  | .sleep => false
  | .wake => (match l.wakeFrame with
    | some w => decide (w + 2 ≤ f)
    | none => false)
  | _ => true

/-- The frame of a port's running test, 0 to 2 (Table 6-3). -/
def State.testFrame (s : State) (p : Nat) : Option Nat :=
  match (tget s.meas.fe p).test with
  | some t => if t.start ≤ s.now ∧ s.now < t.start + 3 then some (s.now - t.start) else none
  | none => none

/-- `CONVERT` of the frame (Table 4-5): the tier in use, the frames of a test (R156), the full rate of a wake burst and of
leaving Rest (R73). -/
def State.convertNow (s : State) (p : Nat) : Bool :=
  tierConverts (s.tierUsed (strOfPort p)) s.now || (s.testFrame p).isSome ||
    (decide (s.mode.mode = .rest) &&
      (s.mode.leavingRest || (decide (1 ≤ s.mode.wakeBurst) && decide (s.mode.wakeBurst ≤ 10))))

/-- `SLEEP` of the frame (R73, R113, R150): in Rest, once `BAL_TARGET` is written to a port whose uploads are used, and on
every port in the last frame of a wake burst. -/
def State.sleepNow (s : State) (p : Nat) : Bool :=
  let l := s.lnk p
  decide (s.mode.mode = .rest) && !s.mode.leavingRest &&
    (decide (s.mode.wakeBurst = 1) || (decide (s.mode.wakeBurst = 0) && l.usable && decide (l.targets = 2)))

/-- SAMPLE_SEND and CONTROL_SEND of a port (R94); what the frame before left in the context goes. -/
def State.linkFrame (s : State) (p : Nat) : State :=
  let l := s.lnk p
  let clear : LinkSt :=
    { l with
      validNow := false, own := none, mirror := none, used := none, viaRepeat := false, repeated := false,
      sampled := false, convert := false, sleepSent := false, writes := [] }
  if l.awake s.time.ticks then
    s.modLnk p (fun _ =>
      { clear with
        sampled := true, convert := s.convertNow p, sampleSeq := (l.seq + 1) % 65536, seq := (l.seq + 2) % 65536,
        delay := l.delayOf, balMask := l.balPlan, balPlan := 0, owPrev := l.owCtrl,
        owCtrl := if s.testFrame p = some 1 then 2 else 0, sleepSent := s.sleepNow p, roleSent := s.linkRole,
        writes := l.queued.take 5, queued := l.queued.drop 5 })
  else s.modLnk p (fun _ => { clear with balMask := 0, balPlan := 0, owPrev := l.owCtrl, owCtrl := 0 })

/-- A downlink frame as sent: header and payload (R90). -/
abbrev LinkFrame := LinkHead × Bytes

/-- The `SAMPLE` of the present frame on a port (Table 4-5). -/
def State.sampleFrame (s : State) (p : Nat) : LinkFrame :=
  let l := s.lnk p
  let d := sampleBytes l.delay l.convert
  (s.downHead l.roleSent 1 l.sampleSeq d, d)

/-- The `CONTROL` of the present frame on a port (Table 4-6). -/
def State.controlFrame (s : State) (p : Nat) : LinkFrame :=
  let l := s.lnk p
  let d := controlBytes l.balMask l.owCtrl.toNat l.sleepSent l.writes
  (s.downHead l.roleSent 2 ((l.sampleSeq + 1) % 65536) d, d)

/-- The `REPEAT` of the present frame on a port, sent as the third frame of the frame start (R100). -/
def State.repeatFrame (s : State) (p : Nat) : LinkFrame := (s.downHead (s.lnk p).roleSent 3 (((s.lnk p).sampleSeq + 2) % 65536) [], [])

/-- The payload and type of a secondary request (Table 4-10). -/
def SecReq.payload : SecReq → Nat × Bytes
  | .regRead a n => (0x20, regBytes a n)
  | .regWrite a d => (0x21, regWriteBytes a d)
  | .fwBlock k b d => (0x30, fwBlockBytes k b d)
  | .echo => (0x40, [])

/-- The request outstanding on a port as sent (R105). -/
def State.secFrame (s : State) (p : Nat) : Option LinkFrame :=
  match (s.lnk p).sec with
  | none => none
  | some t => some (s.downHead s.linkRole t.req.payload.1 (t.seq.getD 0) t.req.payload.2, t.req.payload.2)

/-- Cut a list into groups of `n`, `fuel` of them. -/
def groupsOf {α : Type} (n : Nat) : Nat → List α → List (List α)
  | 0, _ => []
  | fuel + 1, l => if l = [] then [] else l.take n :: groupsOf n fuel (l.drop n)

/-- The targets of a port's cells as its `BAL_TARGET` words give them (R194). -/
def State.targetsNote (s : State) (p : Nat) (ws : List Word) : State :=
  { s with aux := tmodAll s.aux (upFrom (cellIx p 0) (s.cellsOn p)) (fun g a =>
      { a with sleepTarget := decide ((ws[g - cellIx p 0]?).getD 0x00FFFFFF ≠ 0x00FFFFFF) }) }

/-- In Rest, the `BAL_TARGET` words of a port are written before its `SLEEP` (R150, R159). A port in RUN takes them by
`REG_WRITE` under active authority; the standby's own context waits for the frame's end as the active's does. A port that
is LOST takes only `CONTROL`: its words go as queued writes, five a frame, on both modules alike (R109, log 151). -/
def State.targetsQueue (s : State) (p : Nat) : State :=
  let l := s.lnk p
  if s.mode.mode ≠ .rest ∨ s.mode.leavingRest = true then s
  else if l.targets = 0 ∧ (l.state = .run ∨ l.state = .lost) then
    let ws := s.balTargets p
    let s1 := (s.targetsNote p ws).modLnk p (fun x => { x with targets := 1 })
    if l.state = .lost then
      s1.modLnk p (fun x => { x with queued := (upFrom 0x0040 ws.length).zip ws })
    else if s.leads then
      let gs := groupsOf 32 4 ws
      s1.secQueue p ((gs.zip (upFrom 0 gs.length)).map (fun e =>
        { req := .regWrite (0x0040 + 32 * e.2) e.1, by_ := .target }))
    else s1
  else if l.targets = 1 ∧ l.state = .lost ∧ l.queued = [] then s.modLnk p (fun x => { x with targets := 2 })
  else s

/-! ### Leaving Rest (Table 3-7, R73) -/

/-- Rest ends at a frame boundary at which no front end sleeps or wakes any more, or 100 ms after they were woken. -/
def State.restLeave (s : State) : State :=
  match s.mode.leaveFrom with
  | none => s
  | some f =>
    let up := s.fittedPorts.all (fun p => decide ((s.lnk p).state ∉ [LinkState.sleep, .wake]))
    if s.mode.mode = .rest ∧ s.mode.leavingRest ∧ (up ∨ f + 100 ≤ s.now) then
      let id := s.mode.targetCmd
      let s1 := if s.mode.target = some .idle then (s.setMode .idle 0x01 id).cmdTo id .done .ok 2 []
        else s.setMode .idle 0x05 0
      { s1 with mode.leavingRest := false, mode.leaveFrom := none, mode.wakeBurst := 0 }
    else s

/-! ### Thermal loops (R289, R290) -/

/-- The input of a thermal loop (Table 10-12), none when it is invalid: values of the frame before. -/
def State.loopInput (s : State) (l : ThermLoop) : Option Int :=
  let n := l.input
  if 0x01 ≤ n ∧ n ≤ 0x10 then if s.modelled (n - 1) = [] then none else some (s.tcMax (n - 1))
  else if 0x11 ≤ n ∧ n ≤ 0x20 then some (tget s.thm.str (n - 0x11)).plate
  else if 0x21 ≤ n ∧ n ≤ 0x28 then
    let v := s.aiUse (s.now - 1) (n - 0x21)
    let c := s.thm.cfg
    if 0 ≤ v ∧ v ≤ 100000 then some (c.aiLo + muldiv (c.aiHi - c.aiLo) v 100000) else none
  else if n = 0x30 then some s.grz.tj
  else none

/-- The output a loop's input asks for: hysteresis, or the fail state (R289, Table 10-7). -/
def ThermLoop.wants (l : ThermLoop) (v : Option Int) : Bool :=
  match v with
  | none => if l.fail = 0 then false else if l.fail = 1 then true else if l.fail = 2 then l.out else l.lowering
  | some y =>
    if l.sp + l.band < y then l.lowering
    else if y < l.sp - l.band then !l.lowering
    else l.out

/-- THERMAL_LOOP_EVAL of one loop (R289): a change by the input waits for the dwell, a fail state does not. -/
def ThermLoop.eval (l : ThermLoop) (v : Option Int) : ThermLoop :=
  if !l.runs then l
  else
    let w := l.wants v
    let n := l.count + 1
    let go := decide (w ≠ l.out) && (v.isNone || decide (1000 * l.dwell ≤ n))
    let out := if go then w else l.out
    { l with
      out := out, invalid := v.isNone, failed := v.isNone, y := v.getD l.y, yp := v.getD l.yp,
      count := if go then 0 else n, onCount := if out then sat32u (l.onCount + 1) else l.onCount }

/-- The thermal outputs follow their loops at pulse 1; an output cut off for a short circuit waits for its retry (R291). -/
def State.outputsDrive (s : State) : State :=
  { s with power.out := tmodAll s.power.out (upFrom 0 16) (fun o x => { x with on := s.driven o && !x.cut }) }

/-- The thermal loops at pulse 0: in Fill and Load every output is off (R290). -/
def State.thermalLoops (s : State) : State :=
  if s.mode.mode = .fill ∨ s.mode.mode = .load then
    s.outputsOff
  else
    { s with power.therm := tmap s.power.therm (fun _ l => l.eval (s.loopInput l)) }.outputsDrive

/-! ### FRAME_STROBE -/

/-- The `DERATE_OUT` request of an input loss that was cancelled goes 1 s later (R586). -/
def State.derateRelease (s : State) : State :=
  match s.psv.cancelledAt with
  | some f => if f + 1000 ≤ s.now then { s with psv.derate := false, psv.cancelledAt := none } else s
  | none => s

/-- The pair's part of the strobe: what was waiting is sent, roles and inputs of the frame take effect (R385, R390, R403,
R463, R465). -/
def State.strobePair (s : State) : State :=
  s.siteFrame.pairFrame.stepAnnounce.surveyWaitEnd.handoverChoose.inputsTake.reachJudge

/-- Graze's part of the strobe (R366 to R368): rung, elastic level, admission, estimation intervals. -/
def State.strobeGraze (s : State) : State :=
  let s1 := s.rungApply
  let s2 : State := { s1 with
    grz.admitted := s1.grz.admitNext, grz.shed := if s1.grz.admitNext then s1.grz.shed else sat32u (s1.grz.shed + 1) }
  s2.strings.foldl (fun u k => u.intervalApply k) s2

/-- The front ends' part of the strobe: the wake burst counts down, `SAMPLE` and `CONTROL` go out, `BAL_TARGET` is
queued; the tier in use is the one permitted in the frame before (R155). -/
def State.strobeLink (s : State) : State :=
  let s0 := s.restLeave
  let s1 : State := { s0 with
    mode.wakeBurst := s0.mode.wakeBurst - 1, meas.str := tmap s0.meas.str (fun _ m => { m with tier := m.used, used := m.permit }) }
  s1.fittedPorts.foldl (fun u p => (u.linkFrame p).targetsQueue p) s1

/-- The strings' part of the strobe: connects, held strings whose causes have cleared, the end of excursions, entry to Idle
(R69, R71, R77, R205, R285). Openings and the roster wait for the frame's commands (R82). -/
def State.strobeStrings (s : State) : State :=
  let s1 := s.strings.foldl (fun u k => (u.connectContactors k).recordOwn k) s
  let s2 := (s1.strings.foldl (fun u k => u.excOpened k) s1).idleEntry
  { s2 with mode.workDue := true }

/-- The front ends and the model's clock of the links go on whether the module is powered or not: what was due at pulse
900 is done, and a frame passes (R148, R53). -/
def State.linkClock (s : State) : State :=
  let s1 := s.feRestarts
  { s1 with time.ticks := s1.time.ticks + 1 }

/-- FRAME_STROBE (R32): pulse 0 of a frame. -/
def execFrameStrobe (s : State) : Host.Outcome State Fault Refusal :=
  let s0 := s.linkClock
  ok (if !s0.psv.powered then s0
    else
      let s1 := s0.tick.portsFrame.derateRelease.twAge.twMarkhor.diagsPass.sf10Frame
      (if s1.runtimeRuns then s1.strobePair.strobeGraze.strobeLink.strobeStrings.canTimeRef else s1).thermalLoops)

/-! ### SECOND_BOUNDARY -/

/-- A Cell Table entry as table memory holds it (Tables 7-2, 8-1, 9-2). -/
def CellEntry.bytes (x : CellEntry) : Bytes :=
  let mark (v : Option Int) : Int := v.getD (-2147483648)
  leI 4 x.v ++ leI 4 x.i ++ le 4 x.soc ++ leI 4 x.va ++ leI 4 x.vb ++ leI 2 x.h ++ [x.flags, x.eflags] ++
    (upFrom 0 10).flatMap (fun i => leI 4 (nthI x.p i)) ++ le 4 x.rs ++ le 2 x.rho ++ leI 2 x.innov ++ leI 4 x.vcomp ++
    le 1 (64 * x.eocRun + 32 * b2n x.eocArmed + 4 * x.eodRun + 2 * b2n x.eodArmed) ++ [0] ++ le 2 x.sigma ++
    le 6 x.refFrame ++ [0, 0] ++ leI 4 x.tc ++ leI 4 x.ts ++ leI 4 x.pw ++ leI 2 x.th ++ [x.tflags] ++ le 1 x.miss ++
    leI 4 (mark x.rsum0) ++ leI 4 x.dsum0 ++ leI 4 (mark x.rsum1) ++ leI 4 x.dsum1 ++ le 4 x.balQ ++ le 4 x.stepFrame

/-- Page `j` of a cell snapshot: entries 32 j to 32 j + 31 (R439). -/
def State.snapshotPage (s : State) (j : Nat) : Bytes :=
  (upFrom (32 * j) 32).flatMap (fun g => (tget s.cells g).bytes)

/-- A snapshot not written by the end of its second is skipped: its pages become free (Table 12-4, R443). -/
def State.snapshotDrop (s : State) : State :=
  match s.site.snapshot with
  | none => s
  | some (_, ps) =>
    let s1 := ps.foldl (fun (u : State) p => u.modPage p Page.freed) s
    { s1 with site.snapshot := none }.winLoss 0 1

/-- CELL_SNAPSHOT (R439): the pages of the second's snapshot are allocated and hold the Cell Table. -/
def State.snapshotTake (s : State) : State :=
  let s1 := s.snapshotDrop
  match s1.pagesFor 0 256 with
  | none => s1.winLoss 0 1
  | some ps =>
    { s1.writePages 0 0 s1.now false ps ((upFrom 0 256).map s1.snapshotPage) with
      site.snapshot := some (s1.now / 1000, ps) }

/-- The counts kept per second begin anew (R443, R469, R485, R565, R579). -/
def State.secondCounts (s : State) : State :=
  let r (m : MemReg) : MemReg := { m with secWord := 0, secPage := 0 }
  { s with
    mem.table := r s.mem.table, mem.dram := r s.mem.dram, mem.markhor := r s.mem.markhor, bus.overSec := [],
    tw.stretchSec := 0, tw.stuckSec := 0, acc.failsSec := 0,
    site.streams := tmap s.site.streams (fun _ x => { x with lossSec := [] }) }

/-- The runtime's work of a second: the second that ends is summed up, lead and candidate cells, budgets, the wear record
due each hour (R555), the snapshot. -/
def State.secondWork (s : State) : State :=
  let s1 := s.meanTake.histSecond.herdSecond
  let s2 := s1.strings.foldl (fun u k => (u.leadSelect k).candSelect k) s1
  let s3 := s2.balanceBudget.elasticPower
  { s3 with jnl.wearDue := s3.jnl.wearDue || decide (s3.now % 3600000 = 0) }.snapshotTake

/-- SECOND_BOUNDARY (R34): pulse 0 of a frame whose number is a multiple of 1,000. -/
def execSecondBoundary (s : State) : Host.Outcome State Fault Refusal :=
  let s0 := s.atP 0
  ok (if s0.now % 1000 = 0 ∧ s0.psv.powered then
      let s1 := { s0.secondCounts with time.ppsOut := s0.time.ppsOut + 1 }.gaspBase
      if s1.runtimeRuns ∧ s1.mode.mode ≠ .load then s1.secondWork else s1
    else s0)

/-! ### FRAME_CLOSURE -/

/-- The readings of the supervisor and of the temperature sensors (R363, Table 21-14). -/
def State.sensorsTake (s : State) (x : Sensors) : State :=
  { s with
    psv.vin := x.vin, psv.iin := x.iin, psv.pin := divRound (x.vin * x.iin) 1000000, psv.huV := x.huV, psv.huE := x.huE,
    psv.charging := x.charging, psv.rails := (upFrom 0 10).foldl (fun t r => tput t r (nthI x.rails r)) [],
    time.oscTemp := x.oscTemp, grz.tBase := s.baseTemp x }

/-- The hold-up charge of R72: frames for which the module's own, and the higher of both, has stayed low in Serve. -/
def State.holdupTake (s : State) : State :=
  let judged := decide (s.mode.mode = .serve) && s.psv.loss.isNone && decide (s.mode.holdupIgnore ≤ s.now)
  let own := judged && decide (s.huPct < s.mode.cfg.serveHoldup)
  let both := own && decide (s.pair.peerHoldup < s.mode.cfg.serveHoldup)
  { s with
    mode.holdupLow := if own then s.mode.holdupLow + 1 else 0,
    mode.holdupBoth := if both then s.mode.holdupBoth + 1 else 0 }

/-- The contexts whose `CONTROL` carried `SLEEP` under active authority go to SLEEP at pulse 900 (Table 4-13, R112); their
cells' targets count from here (R194, R243). The targets of a standby's port in RUN count as written with the frame. -/
def State.sleepTake (s : State) (p : Nat) : State :=
  let l := s.lnk p
  if l.targets = 1 ∧ l.state = .run ∧ !s.leads then s.modLnk p (fun x => { x with targets := 2 })
  else if l.sleepSent ∧ l.usable ∧ (s.leads ∨ s.pair.state = some .standby) then
    let s1 := ((s.atP 900).setLink p .sleep 4).atP s.time.pulse
    { s1 with aux := tmodAll s1.aux (upFrom (cellIx p 0) (s.cellsOn p)) (fun _ a =>
      { a with sleepOwed := a.sleepTarget, sleepFrame := if a.sleepTarget then some s.now else a.sleepFrame }) }
  else s

/-- The clean run of R526. -/
def State.cleanTake (s : State) : State :=
  { s with upd.cleanRun :=
      if s.sys.fault ≠ 0 ∨ s.mode.mode = .safe then 0
      else if s.mode.mode = .idle ∨ s.mode.mode = .serve then s.upd.cleanRun + 1
      else s.upd.cleanRun }

/-- Commit the oldest record of the queue (R551). -/
def State.commitOne (s : State) : State :=
  match s.jnl.queue with
  | [] => s
  | (j, r) :: t => { s with jnl.queue := t }.modRing j (ringPush j.slots · r)

/-- Commit `n` records in queue order. -/
def State.commitSome : Nat → State → State
  | 0, s => s
  | n + 1, s => State.commitSome n s.commitOne

/-- Journal commit (R551): at least 32 records; the end of an overrun of it is journaled in the first frame that empties
the queue (R39). -/
def State.journalCommit (s : State) (more : Nat) : State :=
  if s.jnl.queue.length ≤ 32 + more then
    let s1 := s.overrunEnd .journal
    State.commitSome s1.jnl.queue.length s1
  else State.commitSome (32 + more) s

/-- HERD_LEVEL_RECORD_WRITE after a sweep (R254). -/
def State.herdClose (s : State) : State := if s.herd.swept then { s.herdRecord with herd.swept := false } else s

/-- The ends of the overrun runs of the frame's work (R39). -/
def State.overrunsEnd (s : State) : State := ((s.overrunEnd .eland).overrunEnd .envelope).overrunEnd .output

/-- The runtime's work of the closure. -/
def State.closure (s : State) (x : Sensors) (more : Nat) : State :=
  let s1 := { (s.stringsWork.atP s.time.pulse).holdupTake with prot.tokenMiss := 0 }.listSend.copySend
  let s2 := (s1.junction x).throttle.grazeAdmit.excessWatch.overrunsEnd
  let s3 := (s2.fittedPorts.foldl (fun u p => u.sleepTake p) s2).herdClose.health.cleanTake
  (s3.siteHeartbeat.eventPush.journalCommit more).twRefresh

/-- FRAME_CLOSURE (R551): from pulse 950. `x` is what the sensors read in the frame; `more` is how many records beyond 32
the runtime has time to commit. -/
def execFrameClosure (x : Sensors) (more : Nat) (s : State) : Host.Outcome State Fault Refusal :=
  let s0 := s.atP 950
  let x := s0.calSensors x
  ok (if s0.psv.powered then
      let s1 := s0.sensorsTake x
      if s1.runtimeRuns then s1.closure x more else s1
    else s0)

end Sys2Proof.Machine
end

