-- ==== Sys2Proof/Machine/Digest.lean ====
section
/-! DEFINITION. The sections of the frame digest (R38, R253, R278, R390; Table 13-6). The table says what each section
covers; the order of its parts and the bytes of what no other table lays out are the model's (DESIGN CHOICE, log 194). -/

namespace Sys2Proof.Machine

/-- Section 0: the entries stepped or initialised in the frame, `MEAS_FLAGS` of every present cell and the stale set. -/
def State.digestCells (s : State) : Bytes :=
  let gs := s.strings.flatMap s.cellsOf
  let cell (g : Nat) : CellEntry := tget s.cells g
  (gs.filter (fun g => decide ((cell g).stepFrame = s.now % 4294967296))).flatMap (fun g => le 2 g ++ (cell g).bytes) ++
    gs.map (fun g => (cell g).flags) ++ (gs.filter (fun g => (cell g).eflags.getLsbD 7)).flatMap (le 2)

/-- The thermal region of a cell (Table 8-1). -/
def CellEntry.thermalBytes (x : CellEntry) : Bytes :=
  leI 4 x.tc ++ leI 4 x.ts ++ leI 4 x.pw ++ leI 2 x.th ++ [x.tflags] ++ le 1 x.miss

/-- The Herd region of a cell (Table 9-2). -/
def CellEntry.herdBytes (x : CellEntry) : Bytes :=
  leI 4 (x.rsum0.getD (-2147483648)) ++ leI 4 x.dsum0 ++ leI 4 (x.rsum1.getD (-2147483648)) ++ leI 4 x.dsum1

/-- Section 1: what the thermal pass of the frame has written, and the prediction sets. -/
def State.digestThermal (s : State) : Bytes :=
  let gs := (s.strings.flatMap s.cellsOf).filter (fun g =>
    let f := (tget s.cells g).tflags
    f.getLsbD 1 || f.getLsbD 2 || (f.getLsbD 0 && (tget s.aux g).thmFirst))
  let ths := if s.est.passDone then s.strings.flatMap s.thsOf else []
  gs.flatMap (fun g => le 2 g ++ (tget s.cells g).thermalBytes) ++
    ths.flatMap (fun i => le 2 i ++ (tget s.th i).bytes) ++
    s.strings.flatMap (fun k =>
      let t := tget s.thm.str k
      t.pred.flatMap PredEntry.bytes ++ le 6 t.predFrame ++ le 1 (b2n t.predStale))

/-- Section 2: the Herd regions written in the frame; where a sweep completes in it, the Herd Table and string records
with their frame of completion. -/
def State.digestHerd (s : State) : Bytes :=
  let h (k : Nat) : StrHerd := tget s.herd.str k
  let wrote := s.strings.filter (fun k => decide ((h k).wrote = some s.now))
  let swept := s.strings.any (fun k => decide ((h k).sweepFrame = s.now))
  (wrote.flatMap s.cellsOf).flatMap (fun g => le 2 g ++ (tget s.cells g).herdBytes) ++
    if swept then
      (s.strings.flatMap s.cellsOf).flatMap (fun g => (tget s.herdTab g).bytes) ++
        s.strings.flatMap (fun k => (h k).bytes ++ le 6 (h k).sweepFrame)
    else []

/-- Section 3: the loop contexts at the last pulse 999, and the words sent since the digest before. -/
def State.digestPower (s : State) : Bytes :=
  allStr.flatMap (fun k => (tget s.power.loops999 k).bytes) ++
    (upFrom 16 48).flatMap (fun l => (tget s.power.therm999 l).bytes) ++
    allStr.flatMap (fun k => le 4 ((s.pp k).wordCrc ^^^ 0xFFFFFFFF).toNat)

/-- Section 4: the limits sent and their stale mark, roster, rung, elastic level, admission. -/
def State.digestEnvelope (s : State) : Bytes :=
  let four (l : List Int) : Bytes := (upFrom 0 4).flatMap (fun h => leI 4 (sat32 (nthI l h)))
  four s.dsp.chg ++ four s.dsp.dis ++ leI 4 (sat32 s.dsp.vmax) ++ leI 4 (sat32 s.dsp.vmin) ++ le 1 (b2n s.dsp.stale) ++
    s.strings.flatMap (fun k =>
      let d := tget s.dsp.str k
      four d.chg ++ four d.dis) ++
    le 2 s.grz.serve.toNat ++ le 2 s.grz.rest.toNat ++ le 1 s.grz.rung ++ le 1 s.grz.rungNext ++ le 1 s.grz.elastic ++
    le 1 (packBits [s.grz.admitted, s.grz.admitNext])

/-- Section 5: mode, `MODE_TARGET`, string states and causes, enable bits, the ledger entries written in the frame with
the command outcomes they hold. -/
def State.digestModes (s : State) : Bytes :=
  le 1 s.mode.mode.code ++ le 1 ((s.mode.target.map Mode.code).getD 0xFF) ++
    s.strings.flatMap (fun k => le 1 (s.str k).state.code ++ [(s.str k).cause]) ++ le 2 s.mode.enabled.toNat ++
    (s.site.ledger.filter (fun e => decide (e.2.changed = s.now) && decide (e.2.state ≠ .empty))).flatMap
      (fun e => le 2 e.1 ++ e.2.bytes 0)

/-- Section 7: throughputs, excursions, reference requests, the SoC window. -/
def State.digestEst (s : State) : Bytes :=
  s.strings.flatMap (fun k =>
    let e := tget s.est.str k
    le 8 e.thruC ++ le 8 e.thruD ++
      (match e.excursion with
        | some x => le 1 (1 + b2n x.charge) ++ le 6 x.from_ ++ le 6 x.end_ ++ le 4 x.cmd.toNat ++ le 1 (b2n x.gotEnd)
        | none => le 18 0) ++
      le 1 (e.request.getD 0)) ++
    le 4 s.dsp.socMin ++ le 4 s.dsp.socMax

/-- The CRC of section 6, over the content digests of the frame's pair outputs in queue order. -/
def State.outputsCrc (s : State) : Word := crc32c (s.pair.outputs.flatMap (fun w => le 4 w.toNat))

/-- The eight section CRCs of the frame. -/
def State.sectionCrcs (s : State) : List Word :=
  [crc32c s.digestCells, crc32c s.digestThermal, crc32c s.digestHerd, crc32c s.digestPower, crc32c s.digestEnvelope,
    crc32c s.digestModes, s.outputsCrc, crc32c s.digestEst]

/-- DIGEST_SEND (R390): at pulse 960 the CRC of each section, and the frame digest over them. -/
def execDigestSend (s : State) : Host.Outcome State Fault Refusal :=
  let s0 := s.atP 960
  let s1 : State := { s0 with
    power.port := tmodAll s0.power.port allStr (fun _ q => { q with wordCrc := 0xFFFFFFFF }) }
  ok (if s0.digests then
      let crcs := s0.sectionCrcs
      { s1 with
        pair.digest := some (s0.now, crcs),
        pair.frameDigest := crc32c (crcs.flatMap (fun (x : Word) => le 4 x.toNat)) }.pairSend (.digest s0.now crcs)
    else s1)

end Sys2Proof.Machine
end

