-- ==== Sys2Proof/Machine/Dispatch.lean ====
section
/-! DEFINITION. One arm per command of the operation table. -/

namespace Sys2Proof.Machine

/-- The meaning of one command on everything but the queue. -/
def exec (i : Instr) (s : State) : Host.Outcome State Fault Refusal :=
  match i with
  | .powerOn vin idA idB twa => Sys2Proof.Machine.execPowerOn vin idA idB twa s
  | .resetIn p heldMs => Sys2Proof.Machine.execResetIn p heldMs s
  | .fillComplete p bad f => Sys2Proof.Machine.execFillComplete p bad f s
  | .fillTimeout p => Sys2Proof.Machine.execFillTimeout p s
  | .loadComplete x => Sys2Proof.Machine.execLoadComplete x s
  | .loadOverrun p => Sys2Proof.Machine.execLoadOverrun p s
  | .freezeTrigger p diag => Sys2Proof.Machine.execFreezeTrigger p diag s
  | .freezeMaxExpiry p => Sys2Proof.Machine.execFreezeMaxExpiry p s
  | .inputLossDeclared p => Sys2Proof.Machine.execInputLossDeclared p s
  | .inputLossWaitEnd p => Sys2Proof.Machine.execInputLossWaitEnd p s
  | .inputLossFullPhaseEnd p => Sys2Proof.Machine.execInputLossFullPhaseEnd p s
  | .inputReturned p vin => Sys2Proof.Machine.execInputReturned p vin s
  | .holdupExhausted p => Sys2Proof.Machine.execHoldupExhausted p s
  | .holdupLowTimeout p => Sys2Proof.Machine.execHoldupLowTimeout p s
  | .holdupCapacityMeasure p cap full => Sys2Proof.Machine.execHoldupCapacityMeasure p cap full s
  | .psvSupply p vin => Sys2Proof.Machine.execPsvSupply p vin s
  | .grzSensor p sensor failed => Sys2Proof.Machine.execGrzSensor p sensor failed s
  | .uploadReceived p port u old => Sys2Proof.Machine.execUploadReceived p port u old s
  | .repeatSend port => Sys2Proof.Machine.execRepeatSend port s
  | .linkLost port => Sys2Proof.Machine.execLinkLost port s
  | .linkRecovered port => Sys2Proof.Machine.execLinkRecovered port s
  | .linkWakeRetry port => Sys2Proof.Machine.execLinkWakeRetry port s
  | .linkLostWake port => Sys2Proof.Machine.execLinkLostWake port s
  | .linkAlignRetry port => Sys2Proof.Machine.execLinkAlignRetry port s
  | .linkEchoInterval port => Sys2Proof.Machine.execLinkEchoInterval port s
  | .echoReply p port h ticks => Sys2Proof.Machine.execEchoReply p port h ticks s
  | .regData p port h rstat addr count data => Sys2Proof.Machine.execRegData p port h rstat addr count data s
  | .fwAck p port h rstat blockNo => Sys2Proof.Machine.execFwAck p port h rstat blockNo s
  | .secondaryTimeout p port => Sys2Proof.Machine.execSecondaryTimeout p port s
  | .linkAlarmTone p port => Sys2Proof.Machine.execLinkAlarmTone p port s
  | .estimationPass late => Sys2Proof.Machine.execEstimationPass late s
  | .outputQueueOverrun out => Sys2Proof.Machine.execOutputQueueOverrun out s
  | .frameClosure x more => Sys2Proof.Machine.execFrameClosure x more s
  | .elasticRecovery p => Sys2Proof.Machine.execElasticRecovery p s
  | .derateCurrentExcess p => Sys2Proof.Machine.execDerateCurrentExcess p s
  | .derateRelease p => Sys2Proof.Machine.execDerateRelease p s
  | .rosterCompute p => Sys2Proof.Machine.execRosterCompute p s
  | .ptpSync p port m => Sys2Proof.Machine.execPtpSync p port m s
  | .ptpAnnounce p port domain t ann => Sys2Proof.Machine.execPtpAnnounce p port domain t ann s
  | .ptpPdelayReq p port => Sys2Proof.Machine.execPtpPdelayReq p port s
  | .ptpAnnounceTimeout p port => Sys2Proof.Machine.execPtpAnnounceTimeout p port s
  | .ppsEdge p sub falling late filter freq => Sys2Proof.Machine.execPpsEdge p sub falling late filter freq s
  | .ppsMissing p => Sys2Proof.Machine.execPpsMissing p s
  | .timeLocked p => Sys2Proof.Machine.execTimeLocked p s
  | .timeOffsetExcursion p => Sys2Proof.Machine.execTimeOffsetExcursion p s
  | .timeAlignLost p => Sys2Proof.Machine.execTimeAlignLost p s
  | .timeOscWarm p => Sys2Proof.Machine.execTimeOscWarm p s
  | .timeSetTod id => Sys2Proof.Machine.execTimeSetTod id s
  | .modeRequestIdle id => Sys2Proof.Machine.execModeRequestIdle id s
  | .modeRequestServe id => Sys2Proof.Machine.execModeRequestServe id s
  | .modeRequestRest id => Sys2Proof.Machine.execModeRequestRest id s
  | .modeRequestMaintain id => Sys2Proof.Machine.execModeRequestMaintain id s
  | .openWaitExpiry str => Sys2Proof.Machine.execOpenWaitExpiry str s
  | .modeSafeRequest id => Sys2Proof.Machine.execModeSafeRequest id s
  | .modeSafeReset id => Sys2Proof.Machine.execModeSafeReset id s
  | .modeRestart id => Sys2Proof.Machine.execModeRestart id s
  | .modeStringEnableOn id => Sys2Proof.Machine.execModeStringEnableOn id s
  | .modeStringEnableOff id => Sys2Proof.Machine.execModeStringEnableOff id s
  | .modeStringService id => Sys2Proof.Machine.execModeStringService id s
  | .modeStringReadmit id => Sys2Proof.Machine.execModeStringReadmit id s
  | .modeStringReset id => Sys2Proof.Machine.execModeStringReset id s
  | .stringSurveyEnd p str => Sys2Proof.Machine.execStringSurveyEnd p str s
  | .owTestStart port => Sys2Proof.Machine.execOwTestStart port s
  | .owTestEvaluate port => Sys2Proof.Machine.execOwTestEvaluate port s
  | .owTestRetry port => Sys2Proof.Machine.execOwTestRetry port s
  | .blockTriggeredTest port => Sys2Proof.Machine.execBlockTriggeredTest port s
  | .measBlockFault p port => Sys2Proof.Machine.execMeasBlockFault p port s
  | .blkClear p port => Sys2Proof.Machine.execBlkClear p port s
  | .stringSumFault str => Sys2Proof.Machine.execStringSumFault str s
  | .wireOpenDeadline p str => Sys2Proof.Machine.execWireOpenDeadline p str s
  | .thermistorOpenFault p port t => Sys2Proof.Machine.execThermistorOpenFault p port t s
  | .thermistorDisagree p port t => Sys2Proof.Machine.execThermistorDisagree p port t s
  | .thermistorRestored p port t => Sys2Proof.Machine.execThermistorRestored p port t s
  | .markhorThRestore p port t => Sys2Proof.Machine.execMarkhorThRestore p port t s
  | .estRestStart p str => Sys2Proof.Machine.execEstRestStart p str s
  | .estRequestRepeat p str => Sys2Proof.Machine.execEstRequestRepeat p str s
  | .estReferenceGrant id => Sys2Proof.Machine.execEstReferenceGrant id s
  | .excursionDurationEnd p str => Sys2Proof.Machine.execExcursionDurationEnd p str s
  | .plateSourceInvalid p str => Sys2Proof.Machine.execPlateSourceInvalid p str s
  | .herdSweepDone p => Sys2Proof.Machine.execHerdSweepDone p s
  | .commandWord str icur vstr vbus peer cur => Sys2Proof.Machine.execCommandWord str icur vstr vbus peer cur s
  | .statusWord str line => Sys2Proof.Machine.execStatusWord str line s
  | .bitstreamStuck p str chan => Sys2Proof.Machine.execBitstreamStuck p str chan s
  | .bitstreamRecover p str chan => Sys2Proof.Machine.execBitstreamRecover p str chan s
  | .statusStreamInvalid p str => Sys2Proof.Machine.execStatusStreamInvalid p str s
  | .statusStreamValid p str => Sys2Proof.Machine.execStatusStreamValid p str s
  | .ppEchoFault p str => Sys2Proof.Machine.execPpEchoFault p str s
  | .echoFaultClear p str => Sys2Proof.Machine.execEchoFaultClear p str s
  | .ppImplausible p str => Sys2Proof.Machine.execPpImplausible p str s
  | .contactorCloseTimeout p str => Sys2Proof.Machine.execContactorCloseTimeout p str s
  | .loopPhaseStart p str => Sys2Proof.Machine.execLoopPhaseStart p str s
  | .handoverWindowOpen p str => Sys2Proof.Machine.execHandoverWindowOpen p str s
  | .handoverWindowExpire p str => Sys2Proof.Machine.execHandoverWindowExpire p str s
  | .connTimeExpire p str => Sys2Proof.Machine.execConnTimeExpire p str s
  | .openCurrentLow p str => Sys2Proof.Machine.execOpenCurrentLow p str s
  | .loopOutputFault p out faults => Sys2Proof.Machine.execLoopOutputFault p out faults s
  | .thermalOutputRetry p out => Sys2Proof.Machine.execThermalOutputRetry p out s
  | .sf04Trip p str => Sys2Proof.Machine.execSf04Trip p str s
  | .sf05Check str => Sys2Proof.Machine.execSf05Check str s
  | .sf06Warning port => Sys2Proof.Machine.execSf06Warning port s
  | .sf06Trip port => Sys2Proof.Machine.execSf06Trip port s
  | .sf06Release str => Sys2Proof.Machine.execSf06Release str s
  | .ilkInputChange p ilk loop contact => Sys2Proof.Machine.execIlkInputChange p ilk loop contact s
  | .ilkFault p ilk => Sys2Proof.Machine.execIlkFault p ilk s
  | .sf09AuxTimeout p str => Sys2Proof.Machine.execSf09AuxTimeout p str s
  | .sf12Fault p diag detail => Sys2Proof.Machine.execSf12Fault p diag detail s
  | .protWarningRelease p str fn => Sys2Proof.Machine.execProtWarningRelease p str fn s
  | .inhibitEnforce p str => Sys2Proof.Machine.execInhibitEnforce p str s
  | .modelInputStale p str => Sys2Proof.Machine.execModelInputStale p str s
  | .clockMonitorFault p domain => Sys2Proof.Machine.execClockMonitorFault p domain s
  | .frameStrobeFault p interval => Sys2Proof.Machine.execFrameStrobeFault p interval s
  | .safeOutReadback p a b => Sys2Proof.Machine.execSafeOutReadback p a b s
  | .limitCheckerSelftest p v => Sys2Proof.Machine.execLimitCheckerSelftest p v s
  | .frameTokenMissing p => Sys2Proof.Machine.execFrameTokenMissing p s
  | .imageCrcCheck p v => Sys2Proof.Machine.execImageCrcCheck p v s
  | .protAlarmAck id => Sys2Proof.Machine.execProtAlarmAck id s
  | .dspSocWindow id => Sys2Proof.Machine.execDspSocWindow id s
  | .loneNodeOpenTimeout p str => Sys2Proof.Machine.execLoneNodeOpenTimeout p str s
  | .pairHeartbeatSend n => Sys2Proof.Machine.execPairHeartbeatSend n s
  | .pairHeartbeatRx p h => Sys2Proof.Machine.execPairHeartbeatRx p h s
  | .pairMirrorRx p port d => Sys2Proof.Machine.execPairMirrorRx p port d s
  | .pairSummaryRx p x => Sys2Proof.Machine.execPairSummaryRx p x s
  | .pairAssignRx p frame items ai => Sys2Proof.Machine.execPairAssignRx p frame items ai s
  | .pairListRx p frame items tj power holdup => Sys2Proof.Machine.execPairListRx p frame items tj power holdup s
  | .pairDigestRx p frame crcs => Sys2Proof.Machine.execPairDigestRx p frame crcs s
  | .pairStepRx p boundary number => Sys2Proof.Machine.execPairStepRx p boundary number s
  | .pairHandoverRx p frame kind cmd => Sys2Proof.Machine.execPairHandoverRx p frame kind cmd s
  | .pairTimeSetRx p e => Sys2Proof.Machine.execPairTimeSetRx p e s
  | .copyPageRx p page epoch crcOk => Sys2Proof.Machine.execCopyPageRx p page epoch crcOk s
  | .copyAckRx p pages => Sys2Proof.Machine.execCopyAckRx p pages s
  | .copyPageResend p page => Sys2Proof.Machine.execCopyPageResend p page s
  | .loopLiveRx p frame loops sums => Sys2Proof.Machine.execLoopLiveRx p frame loops sums s
  | .replayCaughtUp c => Sys2Proof.Machine.execReplayCaughtUp c s
  | .chgInChange p up => Sys2Proof.Machine.execChgInChange p up s
  | .pairTakeover p silent => Sys2Proof.Machine.execPairTakeover p silent s
  | .pairPeerLost p => Sys2Proof.Machine.execPairPeerLost p s
  | .pairListenTimeout p => Sys2Proof.Machine.execPairListenTimeout p s
  | .pairJoinTimeout p => Sys2Proof.Machine.execPairJoinTimeout p s
  | .pairDetachWaitEnd p => Sys2Proof.Machine.execPairDetachWaitEnd p s
  | .pairAssignMissing p => Sys2Proof.Machine.execPairAssignMissing p s
  | .pairHomeHoldExpiry p => Sys2Proof.Machine.execPairHomeHoldExpiry p s
  | .pairHandoverFrame late => Sys2Proof.Machine.execPairHandoverFrame late s
  | .pairHandover id => Sys2Proof.Machine.execPairHandover id s
  | .sessionOpen p m o => Sys2Proof.Machine.execSessionOpen p m o s
  | .sessionClose p m code => Sys2Proof.Machine.execSessionClose p m code s
  | .siteHeartbeatRx p m => Sys2Proof.Machine.execSiteHeartbeatRx p m s
  | .sessionOpeningTimeout p => Sys2Proof.Machine.execSessionOpeningTimeout p s
  | .sessionLapse p => Sys2Proof.Machine.execSessionLapse p s
  | .command p m id code body => Sys2Proof.Machine.execCommand p m id code body s
  | .commandStatus p m id => Sys2Proof.Machine.execCommandStatus p m id s
  | .statusRead p m index => Sys2Proof.Machine.execStatusRead p m index s
  | .windowRead p m page gen chunk => Sys2Proof.Machine.execWindowRead p m page gen chunk s
  | .windowWrite p m page gen chunk data => Sys2Proof.Machine.execWindowWrite p m page gen chunk data s
  | .pageRelease p m entries => Sys2Proof.Machine.execPageRelease p m entries s
  | .pageClaim p m count => Sys2Proof.Machine.execPageClaim p m count s
  | .pageReturn p m entries => Sys2Proof.Machine.execPageReturn p m entries s
  | .inboundPageExpire p page => Sys2Proof.Machine.execInboundPageExpire p page s
  | .tripCapture p str samples => Sys2Proof.Machine.execTripCapture p str samples s
  | .pcsStateRx p ctl f full => Sys2Proof.Machine.execPcsStateRx p ctl f full s
  | .hvacBudgetRx p ctl f full => Sys2Proof.Machine.execHvacBudgetRx p ctl f full s
  | .fireStatusRx p ctl f full => Sys2Proof.Machine.execFireStatusRx p ctl f full s
  | .imdStatusRx p ctl f full => Sys2Proof.Machine.execImdStatusRx p ctl f full s
  | .pcsStateTimeout p => Sys2Proof.Machine.execPcsStateTimeout p s
  | .canTxDone p ctl obj sof early => Sys2Proof.Machine.execCanTxDone p ctl obj sof early s
  | .canTxFail p ctl obj err early => Sys2Proof.Machine.execCanTxFail p ctl obj err early s
  | .canBusOff p ctl => Sys2Proof.Machine.execCanBusOff p ctl s
  | .canBusoffRecovered p ctl => Sys2Proof.Machine.execCanBusoffRecovered p ctl s
  | .canDetectDwell p ctl => Sys2Proof.Machine.execCanDetectDwell p ctl s
  | .canDetectAccept p ctl => Sys2Proof.Machine.execCanDetectAccept p ctl s
  | .canDetectTimeout p ctl => Sys2Proof.Machine.execCanDetectTimeout p ctl s
  | .canLone p ctl => Sys2Proof.Machine.execCanLone p ctl s
  | .canProbe ctl => Sys2Proof.Machine.execCanProbe ctl s
  | .canStandbyTimeRef ctl => Sys2Proof.Machine.execCanStandbyTimeRef ctl s
  | .canClash p ctl obj => Sys2Proof.Machine.execCanClash p ctl obj s
  | .transmitAtTime ctl => Sys2Proof.Machine.execTransmitAtTime ctl s
  | .twAddress p address read sent => Sys2Proof.Machine.execTwAddress p address read sent s
  | .twRegisterAddress p reg => Sys2Proof.Machine.execTwRegisterAddress p reg s
  | .twStop p sent data => Sys2Proof.Machine.execTwStop p sent data s
  | .twSafeReqArm p => Sys2Proof.Machine.execTwSafeReqArm p s
  | .twSafeReqComplete p => Sys2Proof.Machine.execTwSafeReqComplete p s
  | .twSafeReqDisarm p value => Sys2Proof.Machine.execTwSafeReqDisarm p value s
  | .twArmTimeout p => Sys2Proof.Machine.execTwArmTimeout p s
  | .twWriteDiscard p => Sys2Proof.Machine.execTwWriteDiscard p s
  | .twBadCondition p start => Sys2Proof.Machine.execTwBadCondition p start s
  | .twSPortReadClear p => Sys2Proof.Machine.execTwSPortReadClear p s
  | .twStretchTimeout p => Sys2Proof.Machine.execTwStretchTimeout p s
  | .twStuckBus p sda => Sys2Proof.Machine.execTwStuckBus p sda s
  | .twSleep p => Sys2Proof.Machine.execTwSleep p s
  | .cfgPatch id => Sys2Proof.Machine.execCfgPatch id s
  | .cfgPatchApply id => Sys2Proof.Machine.execCfgPatchApply id s
  | .cfgPatchPersisted id flash => Sys2Proof.Machine.execCfgPatchPersisted id flash s
  | .cfgImageStage id => Sys2Proof.Machine.execCfgImageStage id s
  | .cfgStageStepDone id step st chain cred => Sys2Proof.Machine.execCfgStageStepDone id step st chain cred s
  | .cfgFactoryCal id flash => Sys2Proof.Machine.execCfgFactoryCal id flash s
  | .updStageManifest id => Sys2Proof.Machine.execUpdStageManifest id s
  | .updStageBlocks id => Sys2Proof.Machine.execUpdStageBlocks id s
  | .updStageAbandon id => Sys2Proof.Machine.execUpdStageAbandon id s
  | .updStepDone id step code block => Sys2Proof.Machine.execUpdStepDone id step code block s
  | .updVerify code block => Sys2Proof.Machine.execUpdVerify code block s
  | .updActivate id => Sys2Proof.Machine.execUpdActivate id s
  | .updConfirm id => Sys2Proof.Machine.execUpdConfirm id s
  | .updCleanRunReached otp => Sys2Proof.Machine.execUpdCleanRunReached otp s
  | .cfeFwUpdate id => Sys2Proof.Machine.execCfeFwUpdate id s
  | .cfeFwReturnTimeout port => Sys2Proof.Machine.execCfeFwReturnTimeout port s
  | .sysOtpProvision id => Sys2Proof.Machine.execSysOtpProvision id s
  | .accKeyRotateRetire id => Sys2Proof.Machine.execAccKeyRotateRetire id s
  | .accKeyRotateDeny id => Sys2Proof.Machine.execAccKeyRotateDeny id s
  | .accDebugUnlock id => Sys2Proof.Machine.execAccDebugUnlock id s
  | .debugSessionClosed p => Sys2Proof.Machine.execDebugSessionClosed p s
  | .scrubBurst dram pos errs => Sys2Proof.Machine.execScrubBurst dram pos errs s
  | .markhorScrub p errs => Sys2Proof.Machine.execMarkhorScrub p errs s
  | .memScrub p dram => Sys2Proof.Machine.execMemScrub p dram s
  | .healthRecordWrite p => Sys2Proof.Machine.execHealthRecordWrite p s
  | .wearWrite carrier => Sys2Proof.Machine.execWearWrite carrier s
  | .wearCarrierRetry carrier => Sys2Proof.Machine.execWearCarrierRetry carrier s
  | .cfeWearCommitCheck p port => Sys2Proof.Machine.execCfeWearCommitCheck p port s
  | .feSample port side h delay conv inp owBad => Sys2Proof.Machine.execFeSample port side h delay conv inp owBad s
  | .feControl port side h mask pat sleep writes fw ver => Sys2Proof.Machine.execFeControl port side h mask pat sleep writes fw ver s
  | .feControlMissing port => Sys2Proof.Machine.execFeControlMissing port s
  | .feUpload port => Sys2Proof.Machine.execFeUpload port s
  | .feRepeat p port side h => Sys2Proof.Machine.execFeRepeat p port side h s
  | .feRegRead p port side h addr count => Sys2Proof.Machine.execFeRegRead p port side h addr count s
  | .feRegWrite p port side h addr data fw ver => Sys2Proof.Machine.execFeRegWrite p port side h addr data fw ver s
  | .feWearCommit p port side h crc => Sys2Proof.Machine.execFeWearCommit p port side h crc s
  | .feFwRestart p port side h sel fw ver => Sys2Proof.Machine.execFeFwRestart p port side h sel fw ver s
  | .feAlarmClear p port side h v => Sys2Proof.Machine.execFeAlarmClear p port side h v s
  | .feFwBlock p port side h bank blockNo data => Sys2Proof.Machine.execFeFwBlock p port side h bank blockNo data s
  | .feEcho p port side h => Sys2Proof.Machine.execFeEcho p port side h s
  | .feSleepEntry port => Sys2Proof.Machine.execFeSleepEntry port s
  | .feSleepTimeout p port => Sys2Proof.Machine.execFeSleepTimeout p port s
  | .feSleepConversion p port inp => Sys2Proof.Machine.execFeSleepConversion p port inp s
  | .feAlarmToneSend p port waking => Sys2Proof.Machine.execFeAlarmToneSend p port waking s
  | .feWake p port => Sys2Proof.Machine.execFeWake p port s
  | .ref10InChange p good freq => Sys2Proof.Machine.execRef10InChange p good freq s
  | .feAuthorityExpiry p port side => Sys2Proof.Machine.execFeAuthorityExpiry p port side s
  | .feWearCommitDone p port => Sys2Proof.Machine.execFeWearCommitDone p port s
  | .feFwBlockProgrammed p port => Sys2Proof.Machine.execFeFwBlockProgrammed p port s
  | .fePowerOn p port cause fellBack newer older => Sys2Proof.Machine.execFePowerOn p port cause fellBack newer older s
  | .stageLossOfBothInputs p str low => Sys2Proof.Machine.execStageLossOfBothInputs p str low s
  | .canFrameRx p ctl f => Sys2Proof.Machine.execCanFrameRx p ctl f s
  | .pairLaneChange p lane up => Sys2Proof.Machine.execPairLaneChange p lane up s
  | .sitePortLinkChange p port up => Sys2Proof.Machine.execSitePortLinkChange p port up s
  | .analogInputConversion vals => Sys2Proof.Machine.execAnalogInputConversion vals s
  | .surveyEnd => Sys2Proof.Machine.execSurveyEnd s
  | .restartAtPulse999 => Sys2Proof.Machine.execRestartAtPulse999 s
  | .frameStrobe => Sys2Proof.Machine.execFrameStrobe s
  | .secondBoundary => Sys2Proof.Machine.execSecondBoundary s
  | .portResult => Sys2Proof.Machine.execPortResult s
  | .restWakeBurst => Sys2Proof.Machine.execRestWakeBurst s
  | .markhorSummary => Sys2Proof.Machine.execMarkhorSummary s
  | .elandOverrun => Sys2Proof.Machine.execElandOverrun s
  | .envelope => Sys2Proof.Machine.execEnvelope s
  | .windowHandoverSlot => Sys2Proof.Machine.execWindowHandoverSlot s
  | .envelopeOverrun => Sys2Proof.Machine.execEnvelopeOverrun s
  | .envelopeOverrunZero => Sys2Proof.Machine.execEnvelopeOverrunZero s
  | .journalCommitOverrun => Sys2Proof.Machine.execJournalCommitOverrun s
  | .tierPermit => Sys2Proof.Machine.execTierPermit s
  | .timeStep => Sys2Proof.Machine.execTimeStep s
  | .herdSweepSkip => Sys2Proof.Machine.execHerdSweepSkip s
  | .assignSend => Sys2Proof.Machine.execAssignSend s
  | .digestSend => Sys2Proof.Machine.execDigestSend s
  | .digestCompare => Sys2Proof.Machine.execDigestCompare s
  | .historyMinute => Sys2Proof.Machine.execHistoryMinute s
  | .updActivateRestart => Sys2Proof.Machine.execUpdActivateRestart s

end Sys2Proof.Machine
end

