-- ==== Sys2Proof/Safety.lean ====
section
/-! DEFINITION. What the statements say of two states: the views of the state, and the frame of a change. -/

namespace Sys2Proof.Machine

/-- A view of the state: one per part of `State`, and below them views of fields that the rules protect on their own. -/
inductive View where
  | sys | time | mode | linkCfg | link | cfeCfg | cfgReplaced | cfe | fe | meas | cells | aux | th | herdTab | mkCell | mkTh | est | thm
  | herd | power | prot | dsp | grz | pair | site | ledgerOther | bus | tw | cfg | upd | mem | jnl | acc | psv | pending | free
  /-- the frame number (R32) -/
  | frame
  /-- the mode of the module (Table 3-1) -/
  | modeNow
  /-- the string enables (R78) -/
  | enabled
  /-- the power stages behind the ports -/
  | stages
  /-- the safe outputs `SAFE_A` and `SAFE_B` (R326) -/
  | safeOuts
  /-- the pair state (Table 13-1) -/
  | pairState
  /-- the session and its replay window (R412) -/
  | session
  /-- the command ledger (R424) -/
  | ledger
  /-- the pages of the bulk window (R430) -/
  | pages
  /-- the image slots and the patch journal (17) -/
  | slots
  /-- the runtime banks and the module NOR (18) -/
  | banks
  /-- the rollback counter (R512) -/
  | rollback
  /-- the remapped rows (R533) -/
  | remap
  /-- the Safe latch (R74) -/
  | safeLatch
  /-- the wear records and last-gasp records (R555, R561) -/
  | wearRecs
  /-- the one-time-programmable parts (R574) -/
  | otp
  /-- serial number, order code, hardware issue and boot ROM (Table 1-2) -/
  | factory
  /-- the policy records in force -/
  | policies
  deriving DecidableEq, Repr

/-- Two states agree in one view. -/
def sameView (s t : State) : View → Prop
  | .sys => s.sys = t.sys
  | .time => s.time = t.time
  | .mode => s.mode = t.mode
  | .linkCfg => s.linkCfg = t.linkCfg
  | .link => s.link = t.link
  | .cfeCfg => s.cfeCfg = t.cfeCfg
  | .cfgReplaced => s.cfgReplaced = t.cfgReplaced
  | .cfe => s.cfe = t.cfe
  | .fe => s.fe = t.fe
  | .meas => s.meas = t.meas
  | .cells => s.cells = t.cells
  | .aux => s.aux = t.aux
  | .th => s.th = t.th
  | .herdTab => s.herdTab = t.herdTab
  | .mkCell => s.mkCell = t.mkCell
  | .mkTh => s.mkTh = t.mkTh
  | .est => s.est = t.est
  | .thm => s.thm = t.thm
  | .herd => s.herd = t.herd
  | .power => s.power = t.power
  | .prot => s.prot = t.prot
  | .dsp => s.dsp = t.dsp
  | .grz => s.grz = t.grz
  | .pair => s.pair = t.pair
  | .site => s.site = t.site
  | .ledgerOther => s.ledgerOther = t.ledgerOther
  | .bus => s.bus = t.bus
  | .tw => s.tw = t.tw
  | .cfg => s.cfg = t.cfg
  | .upd => s.upd = t.upd
  | .mem => s.mem = t.mem
  | .jnl => s.jnl = t.jnl
  | .acc => s.acc = t.acc
  | .psv => s.psv = t.psv
  | .pending => s.pending = t.pending
  | .free => s.free = t.free
  | .frame => s.time.frame = t.time.frame
  | .modeNow => s.mode.mode = t.mode.mode
  | .enabled => s.mode.enabled = t.mode.enabled
  | .stages => s.power.stage = t.power.stage
  | .safeOuts => s.prot.safeA = t.prot.safeA ∧ s.prot.safeB = t.prot.safeB
  | .pairState => s.pair.state = t.pair.state
  | .session => s.site.sstate = t.site.sstate ∧ s.site.session = t.site.session ∧ s.site.seqTop = t.site.seqTop ∧ s.site.seqSeen = t.site.seqSeen
  | .ledger => s.site.ledger = t.site.ledger ∧ s.site.newest = t.site.newest
  | .pages => s.site.pages = t.site.pages
  | .slots => s.cfg.slot0 = t.cfg.slot0 ∧ s.cfg.slot1 = t.cfg.slot1 ∧ s.cfg.half0 = t.cfg.half0 ∧ s.cfg.half1 = t.cfg.half1
  | .banks => s.upd.bankA = t.upd.bankA ∧ s.upd.bankB = t.upd.bankB ∧ s.upd.velvet = t.upd.velvet
  | .rollback => s.upd.rollback = t.upd.rollback
  | .remap => s.mem.remap = t.mem.remap ∧ s.mem.remapMk = t.mem.remapMk
  | .safeLatch => s.jnl.safeLatch = t.jnl.safeLatch
  | .wearRecs => s.jnl.mirror0 = t.jnl.mirror0 ∧ s.jnl.mirror1 = t.jnl.mirror1 ∧ s.jnl.carrier0 = t.jnl.carrier0 ∧ s.jnl.carrier1 = t.jnl.carrier1 ∧ s.jnl.gasp0 = t.jnl.gasp0 ∧ s.jnl.gasp1 = t.jnl.gasp1
  | .otp => s.acc.written = t.acc.written ∧ s.acc.retired = t.acc.retired ∧ s.acc.roots = t.acc.roots ∧ s.acc.denyOtp = t.acc.denyOtp
  | .factory => s.sys.serial = t.sys.serial ∧ s.sys.orderCode = t.sys.orderCode ∧ s.sys.hwIssue = t.sys.hwIssue ∧ s.sys.bootRom = t.sys.bootRom
  | .policies => s.time.cfg = t.time.cfg ∧ s.mode.cfg = t.mode.cfg ∧ s.meas.cfg = t.meas.cfg ∧ s.est.cfg = t.est.cfg ∧ s.thm.cfg = t.thm.cfg ∧ s.herd.cfg = t.herd.cfg ∧ s.power.cfg = t.power.cfg ∧ s.prot.cfg = t.prot.cfg ∧ s.dsp.cfg = t.dsp.cfg ∧ s.grz.cfg = t.grz.cfg ∧ s.pair.cfg = t.pair.cfg ∧ s.bus.cfg = t.bus.cfg ∧ s.tw.cfg = t.tw.cfg

/-! ### What lasts -/

/-- The sequences of a ring's records fall by one from `n - 1`, the newest first (R550). -/
def seqFrom : Nat → List JRec → Bool
  | _, [] => true
  | n, r :: l => decide (r.seq + 1 = n) && seqFrom r.seq l

/-- A ring carries its records in sequence, and the next record continues them (R550). -/
def Ring.inSequence (r : Ring) : Bool := seqFrom r.next r.recs

/-- The records of the three journals stand in sequence. -/
def State.journalsOk (s : State) : Prop := ∀ j, (s.ring j).inSequence = true

/-- The two command ledgers and the pages of the window are in canonical form. -/
def State.tablesOk (s : State) : Prop :=
  twf s.site.ledger = true ∧ twf s.ledgerOther = true ∧ twf s.site.pages = true

/-- The one-time-programmable parts only grow: a written root slot keeps its key, a retired one stays retired, and the
deny list only gains entries (R574, R575). -/
structure OtpGrows (a b : AccSt) : Prop where
  written : ∀ k, a.written.getLsbD k = true → b.written.getLsbD k = true ∧ tget b.roots k = tget a.roots k
  retired : ∀ k, a.retired.getLsbD k = true → b.retired.getLsbD k = true
  deny : a.denyOtp <+: b.denyOtp

/-- What no change of the machine takes back. -/
structure Lasting (s t : State) : Prop where
  tables : s.tablesOk → t.tablesOk
  journals : s.journalsOk → t.journalsOk
  next : ∀ j, (s.ring j).next ≤ (t.ring j).next
  rollback : s.upd.rollback ≤ t.upd.rollback
  otp : OtpGrows s.acc t.acc

/-- A change whose effect is within `W`: the two states agree in every view that is not listed, and what lasts is kept. -/
structure Frame (W : List View) (s t : State) : Prop where
  same : ∀ v, v ∉ W → sameView s t v
  keeps : Lasting s t

/-- What a start of the module may change (Table 3-7): every part but the front ends, the ledgers, the queue and the
free values, and of the other parts all but what is non-volatile, factory-written or outside the module. -/
def restartViews : List View :=
  [.sys, .time, .mode, .linkCfg, .link, .cfeCfg, .cfgReplaced, .cfe, .meas, .cells, .aux, .th, .herdTab, .mkCell,
   .mkTh, .est, .thm, .herd, .power, .prot, .dsp, .grz, .pair, .site, .bus, .tw, .cfg, .upd, .mem, .jnl, .acc, .psv,
   .frame, .modeNow, .enabled, .safeOuts, .pairState, .session, .pages, .remap, .policies]

/-! ### Partner commands -/

/-- A partner command is due and passes the checks that every command shares (R82, Table 3-10, R567): its entry is
PENDING and effective in the present frame, no command of a lower sequence waits in that frame, its role holds the
rights the command needs, and the mode admits it. -/
structure Due (s : State) (id : Word) (code : Nat) (e : LedgerEntry) : Prop where
  canonical : twf s.site.ledger = true
  entry : s.entry id = some e
  pending : e.state = .pending
  code : e.code = code
  effective : e.effective = s.now
  inOrder : s.inOrder e = true
  role : roleAtLeast e.role (acceptRow e.code e.body).role = true
  mode : s.admits e = true

/-- The ledger entry of a command stands in a state with a status. -/
def State.cmdStands (s : State) (id : Word) (st : LedgerState) (status : Status) : Prop :=
  ∃ e, s.entry id = some e ∧ e.state = st ∧ e.status = status

/-- Every check that a command's owner adds passes. -/
def Checks.pass (c : Checks) : Bool := c.format && c.role && c.state && c.busy && c.range && c.safety

/-! ### What a command may change -/

/-- The families of commands. -/
inductive Family where
  /-- front ends, cell links and measurement (chapters 4 to 6) -/
  | cells
  /-- estimation, thermal model, Herd and the envelope (7 to 9, 12) -/
  | models
  /-- power ports, connection and protection (10, 11) -/
  | strings
  /-- modes, supply, frame, Graze and time (2, 3, 12, 21) -/
  | running
  /-- the redundant pair (13) -/
  | pairing
  /-- site link, bulk window, access, container bus and two-wire port (14 to 16, 20) -/
  | outside
  /-- images, updates, start and memory (17 to 19) -/
  | store
  deriving DecidableEq, Repr

/-- The family of a command. -/
def familyOf (i : Instr) : Family :=
  match i with
  | .uploadReceived .. | .repeatSend .. | .linkLost .. | .linkRecovered .. | .linkWakeRetry ..
  | .linkLostWake .. | .linkAlignRetry .. | .linkEchoInterval .. | .echoReply .. | .regData .. | .fwAck ..
  | .secondaryTimeout .. | .linkAlarmTone .. | .owTestStart .. | .owTestEvaluate .. | .owTestRetry ..
  | .blockTriggeredTest .. | .measBlockFault .. | .blkClear .. | .stringSumFault .. | .wireOpenDeadline ..
  | .thermistorOpenFault .. | .thermistorDisagree .. | .thermistorRestored .. | .markhorThRestore ..
  | .feSample .. | .feControl .. | .feControlMissing .. | .feUpload .. | .feRepeat .. | .feRegRead ..
  | .feRegWrite .. | .feWearCommit .. | .feFwRestart .. | .feAlarmClear .. | .feFwBlock .. | .feEcho ..
  | .feSleepEntry .. | .feSleepTimeout .. | .feSleepConversion .. | .feAlarmToneSend .. | .feWake ..
  | .feAuthorityExpiry .. | .feWearCommitDone .. | .feFwBlockProgrammed .. | .fePowerOn .. | .portResult
  | .restWakeBurst | .tierPermit => .cells
  | .estimationPass .. | .outputQueueOverrun .. | .derateCurrentExcess .. | .derateRelease ..
  | .estRestStart .. | .estRequestRepeat .. | .estReferenceGrant .. | .excursionDurationEnd ..
  | .plateSourceInvalid .. | .herdSweepDone .. | .dspSocWindow .. | .envelope | .envelopeOverrun
  | .envelopeOverrunZero | .herdSweepSkip | .historyMinute => .models
  | .freezeTrigger .. | .freezeMaxExpiry .. | .commandWord .. | .statusWord .. | .bitstreamStuck ..
  | .bitstreamRecover .. | .statusStreamInvalid .. | .statusStreamValid .. | .ppEchoFault ..
  | .echoFaultClear .. | .ppImplausible .. | .contactorCloseTimeout .. | .loopPhaseStart ..
  | .handoverWindowOpen .. | .handoverWindowExpire .. | .connTimeExpire .. | .openCurrentLow ..
  | .loopOutputFault .. | .thermalOutputRetry .. | .sf04Trip .. | .sf05Check .. | .sf06Warning ..
  | .sf06Trip .. | .sf06Release .. | .ilkInputChange .. | .ilkFault .. | .sf09AuxTimeout .. | .sf12Fault ..
  | .protWarningRelease .. | .inhibitEnforce .. | .modelInputStale .. | .clockMonitorFault ..
  | .frameStrobeFault .. | .safeOutReadback .. | .limitCheckerSelftest .. | .frameTokenMissing ..
  | .imageCrcCheck .. | .protAlarmAck .. | .stageLossOfBothInputs .. => .strings
  | .powerOn .. | .resetIn .. | .inputLossDeclared .. | .inputLossWaitEnd .. | .inputLossFullPhaseEnd ..
  | .inputReturned .. | .holdupExhausted .. | .holdupLowTimeout .. | .holdupCapacityMeasure .. | .psvSupply ..
  | .grzSensor .. | .frameClosure .. | .elasticRecovery .. | .rosterCompute .. | .ptpSync .. | .ptpAnnounce ..
  | .ptpPdelayReq .. | .ptpAnnounceTimeout .. | .ppsEdge .. | .ppsMissing .. | .timeLocked ..
  | .timeOffsetExcursion .. | .timeAlignLost .. | .timeOscWarm .. | .timeSetTod .. | .modeRequestIdle ..
  | .modeRequestServe .. | .modeRequestRest .. | .modeRequestMaintain .. | .openWaitExpiry ..
  | .modeSafeRequest .. | .modeSafeReset .. | .modeRestart .. | .modeStringEnableOn ..
  | .modeStringEnableOff .. | .modeStringService .. | .modeStringReadmit .. | .modeStringReset ..
  | .stringSurveyEnd .. | .accDebugUnlock .. | .ref10InChange .. | .analogInputConversion .. | .surveyEnd
  | .restartAtPulse999 | .frameStrobe | .secondBoundary | .elandOverrun | .journalCommitOverrun | .timeStep =>
    .running
  | .pairHeartbeatSend .. | .pairHeartbeatRx .. | .pairMirrorRx .. | .pairSummaryRx .. | .pairAssignRx ..
  | .pairListRx .. | .pairDigestRx .. | .pairStepRx .. | .pairHandoverRx .. | .pairTimeSetRx ..
  | .copyPageRx .. | .copyAckRx .. | .copyPageResend .. | .loopLiveRx .. | .replayCaughtUp .. | .chgInChange ..
  | .pairTakeover .. | .pairPeerLost .. | .pairListenTimeout .. | .pairJoinTimeout .. | .pairDetachWaitEnd ..
  | .pairAssignMissing .. | .pairHomeHoldExpiry .. | .pairHandoverFrame .. | .pairHandover ..
  | .pairLaneChange .. | .markhorSummary | .assignSend | .digestSend | .digestCompare => .pairing
  | .loneNodeOpenTimeout .. | .sessionOpen .. | .sessionClose .. | .siteHeartbeatRx ..
  | .sessionOpeningTimeout .. | .sessionLapse .. | .command .. | .commandStatus .. | .statusRead ..
  | .windowRead .. | .windowWrite .. | .pageRelease .. | .pageClaim .. | .pageReturn .. | .inboundPageExpire ..
  | .tripCapture .. | .pcsStateRx .. | .hvacBudgetRx .. | .fireStatusRx .. | .imdStatusRx ..
  | .pcsStateTimeout .. | .canTxDone .. | .canTxFail .. | .canBusOff .. | .canBusoffRecovered ..
  | .canDetectDwell .. | .canDetectAccept .. | .canDetectTimeout .. | .canLone .. | .canProbe ..
  | .canStandbyTimeRef .. | .canClash .. | .transmitAtTime .. | .twAddress .. | .twRegisterAddress ..
  | .twStop .. | .twSafeReqArm .. | .twSafeReqComplete .. | .twSafeReqDisarm .. | .twArmTimeout ..
  | .twWriteDiscard .. | .twBadCondition .. | .twSPortReadClear .. | .twStretchTimeout .. | .twStuckBus ..
  | .twSleep .. | .sysOtpProvision .. | .accKeyRotateRetire .. | .accKeyRotateDeny .. | .debugSessionClosed ..
  | .canFrameRx .. | .sitePortLinkChange .. | .windowHandoverSlot => .outside
  | .fillComplete .. | .fillTimeout .. | .loadComplete .. | .loadOverrun .. | .cfgPatch .. | .cfgPatchApply ..
  | .cfgPatchPersisted .. | .cfgImageStage .. | .cfgStageStepDone .. | .cfgFactoryCal .. | .updStageManifest ..
  | .updStageBlocks .. | .updStageAbandon .. | .updStepDone .. | .updVerify .. | .updActivate ..
  | .updConfirm .. | .updCleanRunReached .. | .cfeFwUpdate .. | .cfeFwReturnTimeout .. | .scrubBurst ..
  | .markhorScrub .. | .memScrub .. | .healthRecordWrite .. | .wearWrite .. | .wearCarrierRetry ..
  | .cfeWearCommitCheck .. | .updActivateRestart => .store

/-- The views of the state that lie within the effect of a command: all that the command may change, the pulse of the
present instant with the time base among them. -/
def writes (i : Instr) : List View :=
  match i with
  | .powerOn .. | .resetIn .. | .inputReturned .. | .holdupExhausted .. | .restartAtPulse999 => restartViews
  | .fillComplete .. =>
    [.time, .mode, .link, .power, .prot, .grz, .pair, .site, .tw, .upd, .mem, .jnl, .modeNow, .enabled, .safeOuts,
      .pairState, .ledger, .banks, .rollback, .remap, .safeLatch]
  | .fillTimeout .. | .freezeMaxExpiry .. | .modeSafeRequest .. | .sf12Fault .. | .frameStrobeFault ..
  | .safeOutReadback .. | .limitCheckerSelftest .. | .imageCrcCheck .. | .twStop .. | .twSafeReqArm ..
  | .twSafeReqComplete .. | .twSafeReqDisarm .. =>
    [.time, .mode, .link, .power, .prot, .pair, .site, .tw, .upd, .jnl, .modeNow, .enabled, .safeOuts, .pairState,
      .ledger, .safeLatch]
  | .loadComplete .. => .ledgerOther :: .ledger :: .banks :: .rollback :: .wearRecs :: restartViews
  | .loadOverrun .. | .updActivateRestart => .banks :: .rollback :: restartViews
  | .freezeTrigger .. | .clockMonitorFault .. | .frameTokenMissing .. => .ledger :: .safeLatch :: restartViews
  | .inputLossDeclared .. => [.time, .mode, .power, .prot, .jnl, .psv, .enabled]
  | .inputLossWaitEnd .. => [.time, .mode, .power, .prot, .jnl, .psv, .wearRecs]
  | .inputLossFullPhaseEnd .. => .wearRecs :: restartViews
  | .holdupLowTimeout .. => [.time, .mode, .power, .prot, .pair, .jnl, .enabled]
  | .holdupCapacityMeasure .. | .psvSupply .. => [.time, .jnl, .psv]
  | .grzSensor .. | .elasticRecovery .. => [.time, .grz, .jnl]
  | .uploadReceived .. =>
    [.time, .mode, .link, .meas, .cells, .th, .mkCell, .mkTh, .power, .prot, .pair, .site, .tw, .mem, .jnl,
      .enabled, .ledger, .remap]
  | .repeatSend .. | .linkWakeRetry .. | .linkLostWake .. | .linkAlignRetry .. | .linkEchoInterval .. =>
    [.time, .link]
  | .linkLost .. | .linkRecovered .. | .cfeWearCommitCheck .. => [.time, .link, .jnl]
  | .echoReply .. | .regData .. | .fwAck .. | .secondaryTimeout .. =>
    [.time, .mode, .link, .cfe, .pair, .site, .upd, .jnl, .ledger]
  | .linkAlarmTone .. | .restWakeBurst => [.time, .mode, .link, .jnl]
  | .estimationPass .. =>
    [.time, .mode, .cells, .aux, .th, .est, .thm, .herd, .power, .prot, .pair, .site, .tw, .jnl, .enabled, .ledger]
  | .outputQueueOverrun .. => [.time, .pair, .site, .bus, .jnl]
  | .frameClosure .. =>
    [.sys, .time, .mode, .link, .meas, .aux, .herd, .power, .prot, .dsp, .grz, .pair, .site, .bus, .tw, .upd, .jnl,
      .psv, .modeNow, .enabled, .ledger]
  | .derateCurrentExcess .. | .derateRelease .. => [.time, .dsp, .jnl]
  | .rosterCompute .. => [.time, .grz]
  | .ptpSync .. | .ppsEdge .. | .copyPageRx .. | .pairLaneChange .. => [.time, .pair, .jnl]
  | .ptpAnnounce .. | .ptpAnnounceTimeout .. | .ppsMissing .. | .timeLocked .. | .timeOffsetExcursion ..
  | .timeAlignLost .. | .journalCommitOverrun => [.time, .jnl]
  | .ptpPdelayReq .. | .timeOscWarm .. | .pairStepRx .. | .ref10InChange .. => [.time]
  | .timeSetTod .. | .pairHandover .. => [.time, .pair, .site, .jnl, .ledger]
  | .modeRequestIdle .. | .modeStringEnableOff .. =>
    [.time, .mode, .power, .prot, .pair, .site, .tw, .jnl, .modeNow, .enabled, .ledger]
  | .modeRequestServe .. | .modeRequestRest .. | .modeRequestMaintain .. =>
    [.time, .mode, .pair, .site, .tw, .jnl, .modeNow, .ledger]
  | .openWaitExpiry .. => [.time, .mode, .power, .prot, .pair, .site, .tw, .jnl, .modeNow, .ledger]
  | .modeSafeReset .. => [.time, .mode, .pair, .site, .jnl, .ledger, .safeLatch]
  | .modeRestart .. | .modeStringService .. => [.time, .mode, .pair, .site, .jnl, .ledger]
  | .modeStringEnableOn .. => [.time, .mode, .pair, .site, .jnl, .enabled, .ledger]
  | .modeStringReadmit .. => [.time, .mode, .link, .cfe, .meas, .herdTab, .herd, .prot, .pair, .site, .jnl, .ledger]
  | .modeStringReset .. => [.time, .mode, .link, .cfe, .meas, .prot, .pair, .site, .jnl, .ledger]
  | .stringSurveyEnd .. =>
    [.time, .mode, .link, .meas, .cells, .power, .prot, .pair, .site, .tw, .jnl, .enabled, .ledger]
  | .owTestStart .. | .owTestRetry .. | .blockTriggeredTest .. => [.time, .link, .meas]
  | .owTestEvaluate .. | .stringSumFault .. =>
    [.time, .mode, .meas, .cells, .power, .prot, .pair, .site, .tw, .jnl, .enabled, .ledger]
  | .measBlockFault .. | .blkClear .. => [.time, .meas, .cells, .jnl]
  | .wireOpenDeadline .. => [.time, .mode, .meas, .power, .prot, .pair, .site, .tw, .jnl, .enabled, .ledger]
  | .thermistorOpenFault .. | .thermistorDisagree .. | .thermistorRestored .. =>
    [.time, .mode, .meas, .th, .mkTh, .power, .prot, .pair, .site, .tw, .jnl, .enabled, .ledger]
  | .markhorThRestore .. => [.time, .mode, .meas, .mkTh, .power, .prot, .pair, .site, .tw, .jnl, .enabled, .ledger]
  | .estRestStart .. => [.time, .est]
  | .estRequestRepeat .. | .excursionDurationEnd .. => [.time, .est, .jnl]
  | .estReferenceGrant .. => [.time, .est, .pair, .site, .jnl, .ledger]
  | .plateSourceInvalid .. => [.time, .thm, .jnl]
  | .herdSweepDone .. => [.time, .herdTab, .herd, .prot, .site, .jnl, .pages]
  | .commandWord .. =>
    [.time, .mode, .meas, .est, .power, .prot, .grz, .pair, .site, .bus, .tw, .jnl, .psv, .free, .modeNow, .enabled,
      .stages, .ledger, .wearRecs]
  | .statusWord .. | .bitstreamStuck .. | .statusStreamInvalid .. | .ppEchoFault .. | .ppImplausible ..
  | .sf04Trip .. | .sf05Check .. | .sf06Warning .. | .sf06Trip .. | .ilkFault .. | .sf09AuxTimeout ..
  | .inhibitEnforce .. => [.time, .mode, .power, .prot, .pair, .site, .tw, .jnl, .enabled, .ledger]
  | .bitstreamRecover .. | .statusStreamValid .. | .loopOutputFault .. => [.time, .power, .jnl]
  | .echoFaultClear .. | .loopPhaseStart .. | .thermalOutputRetry .. => [.time, .power]
  | .contactorCloseTimeout .. | .handoverWindowOpen .. | .handoverWindowExpire .. | .connTimeExpire ..
  | .sf06Release .. | .protWarningRelease .. => [.time, .mode, .power, .prot, .jnl, .enabled]
  | .openCurrentLow .. => [.time, .power, .prot]
  | .ilkInputChange .. | .modelInputStale .. => [.time, .prot]
  | .protAlarmAck .. => [.time, .prot, .pair, .site, .jnl, .ledger]
  | .dspSocWindow .. => [.time, .dsp, .pair, .site, .jnl, .ledger]
  | .loneNodeOpenTimeout .. => [.time, .mode, .power, .prot, .bus, .jnl]
  | .pairHeartbeatSend .. | .pairSummaryRx .. | .pairDigestRx .. | .pairHandoverRx .. | .copyAckRx ..
  | .copyPageResend .. | .loopLiveRx .. | .pairHomeHoldExpiry .. | .markhorSummary => [.time, .pair]
  | .pairHeartbeatRx .. =>
    [.time, .mode, .power, .prot, .pair, .site, .jnl, .psv, .free, .enabled, .pairState, .ledger]
  | .pairMirrorRx .. => [.time, .link, .meas, .cells, .th, .pair, .jnl]
  | .pairAssignRx .. | .assignSend => [.time, .pair, .site, .ledger]
  | .pairListRx .. => [.time, .grz, .pair]
  | .pairTimeSetRx .. => [.time, .power, .pair, .site, .jnl, .frame, .pairState, .ledger]
  | .replayCaughtUp .. =>
    [.time, .mode, .meas, .cells, .aux, .th, .herdTab, .est, .thm, .herd, .power, .prot, .dsp, .grz, .pair, .site,
      .mem, .jnl, .enabled, .ledger]
  | .chgInChange .. => [.time, .mode, .power, .prot, .pair, .site, .jnl, .enabled, .pairState, .ledger]
  | .pairTakeover .. =>
    [.time, .mode, .link, .cells, .aux, .th, .herdTab, .est, .thm, .herd, .power, .prot, .dsp, .grz, .pair, .site,
      .jnl, .psv, .enabled, .pairState, .ledger]
  | .pairPeerLost .. => [.time, .mode, .link, .power, .prot, .pair, .site, .jnl, .psv, .enabled, .pairState, .ledger]
  | .pairListenTimeout .. => [.time, .link, .pair, .site, .jnl, .pairState, .ledger]
  | .pairJoinTimeout .. | .pairAssignMissing .. | .digestCompare => [.time, .pair, .site, .jnl, .pairState, .ledger]
  | .pairDetachWaitEnd .. => [.time, .pair, .site, .jnl, .free, .pairState, .ledger]
  | .pairHandoverFrame .. => [.time, .link, .pair, .site, .jnl, .free, .pairState, .ledger]
  | .sessionOpen .. => [.time, .pair, .site, .jnl, .acc, .free, .session]
  | .sessionClose .. | .sessionOpeningTimeout .. | .sessionLapse .. => [.time, .site, .jnl, .acc, .session, .pages]
  | .siteHeartbeatRx .. | .pageRelease .. | .pageClaim .. | .pageReturn .. => [.time, .site, .jnl, .session]
  | .command .. => [.time, .pair, .site, .jnl, .session, .ledger]
  | .commandStatus .. | .statusRead .. | .windowRead .. => [.time, .pair, .site, .jnl, .session]
  | .windowWrite .. => [.time, .pair, .site, .jnl, .session, .pages]
  | .inboundPageExpire .. | .historyMinute => [.time, .site, .jnl]
  | .tripCapture .. | .sitePortLinkChange .. => [.time, .site]
  | .pcsStateRx .. | .hvacBudgetRx .. | .fireStatusRx .. | .imdStatusRx .. | .canTxDone .. | .canBusOff ..
  | .canBusoffRecovered .. | .canDetectAccept .. | .canDetectTimeout .. | .canLone .. | .canClash ..
  | .canFrameRx .. => [.time, .pair, .site, .bus, .jnl, .ledger]
  | .pcsStateTimeout .. => [.time, .mode, .bus, .jnl]
  | .canTxFail .. => [.time, .bus, .jnl]
  | .canDetectDwell .. | .canProbe .. | .canStandbyTimeRef .. | .transmitAtTime .. => [.time, .bus]
  | .twAddress .. | .twRegisterAddress .. | .twArmTimeout .. | .twWriteDiscard .. | .twBadCondition ..
  | .twSPortReadClear .. | .twSleep .. => [.time, .tw]
  | .twStretchTimeout .. | .twStuckBus .. => [.time, .tw, .jnl]
  | .cfgPatch .. | .cfgImageStage .. => [.time, .pair, .site, .cfg, .jnl, .ledger]
  | .cfgPatchApply .. => [.time, .thm, .power, .pair, .site, .cfg, .jnl, .ledger, .policies]
  | .cfgPatchPersisted .. | .cfgStageStepDone .. => [.pair, .site, .cfg, .jnl, .ledger, .slots]
  | .cfgFactoryCal .. => [.time, .pair, .site, .jnl, .psv, .ledger]
  | .updStageManifest .. | .updStageBlocks .. | .updStageAbandon .. | .updActivate .. | .updConfirm .. =>
    [.time, .pair, .site, .upd, .jnl, .ledger]
  | .updStepDone .. => [.pair, .site, .upd, .jnl, .ledger, .banks, .rollback]
  | .updVerify .. | .updCleanRunReached .. => [.upd, .jnl, .banks, .rollback]
  | .cfeFwUpdate .. => [.time, .link, .pair, .site, .upd, .jnl, .ledger]
  | .cfeFwReturnTimeout .. => [.link, .cfe, .pair, .site, .upd, .jnl, .ledger]
  | .sysOtpProvision .. => [.time, .pair, .site, .jnl, .acc, .ledger, .otp]
  | .accKeyRotateRetire .. | .accKeyRotateDeny .. =>
    [.time, .pair, .site, .jnl, .acc, .free, .session, .ledger, .pages, .otp]
  | .accDebugUnlock .. =>
    [.time, .mode, .link, .power, .prot, .pair, .site, .tw, .upd, .jnl, .acc, .modeNow, .enabled, .safeOuts,
      .pairState, .ledger, .safeLatch]
  | .debugSessionClosed .. => [.time, .jnl, .acc]
  | .scrubBurst .. =>
    [.mode, .cells, .aux, .th, .herdTab, .power, .prot, .pair, .site, .tw, .mem, .jnl, .enabled, .ledger, .pages,
      .remap]
  | .markhorScrub .. =>
    [.time, .mode, .link, .power, .prot, .pair, .site, .tw, .upd, .mem, .jnl, .modeNow, .enabled, .safeOuts,
      .pairState, .ledger, .remap, .safeLatch]
  | .memScrub .. => [.time, .mem, .jnl]
  | .healthRecordWrite .. => [.time, .mem]
  | .wearWrite .. => [.time, .link, .jnl, .wearRecs]
  | .wearCarrierRetry .. => [.time, .jnl, .wearRecs]
  | .feSample .. | .feControl .. | .feControlMissing .. | .feUpload .. | .feRepeat .. | .feRegRead ..
  | .feRegWrite .. | .feWearCommit .. | .feFwRestart .. | .feAlarmClear .. | .feFwBlock .. | .feEcho ..
  | .feSleepEntry .. | .feSleepTimeout .. | .feSleepConversion .. | .feAlarmToneSend .. | .feWake ..
  | .feAuthorityExpiry .. | .feWearCommitDone .. | .feFwBlockProgrammed .. | .fePowerOn .. => [.time, .fe]
  | .stageLossOfBothInputs .. => [.time, .power, .stages]
  | .analogInputConversion .. => [.time, .psv]
  | .surveyEnd => [.time, .mode, .est, .prot, .pair, .tw, .jnl, .modeNow, .enabled, .safeOuts]
  | .frameStrobe =>
    [.time, .mode, .link, .fe, .meas, .aux, .est, .power, .prot, .dsp, .grz, .pair, .site, .bus, .tw, .cfg, .upd,
      .jnl, .psv, .frame, .modeNow, .enabled, .safeOuts, .pairState, .ledger, .safeLatch]
  | .secondBoundary => [.time, .aux, .thm, .herd, .dsp, .grz, .site, .bus, .tw, .mem, .jnl, .acc, .pages]
  | .portResult => [.time, .mode, .link, .cfe, .meas, .cells, .prot, .jnl]
  | .elandOverrun => [.time, .est, .grz, .jnl]
  | .envelope => [.time, .mode, .link, .power, .prot, .dsp, .grz, .pair, .site, .bus, .jnl, .free, .enabled]
  | .windowHandoverSlot => [.time, .pair, .site, .jnl, .pages]
  | .envelopeOverrun | .envelopeOverrunZero =>
    [.time, .mode, .power, .prot, .dsp, .grz, .pair, .site, .bus, .jnl, .enabled]
  | .tierPermit => [.time, .meas, .jnl]
  | .timeStep => [.time, .site, .jnl, .acc, .frame, .session, .pages]
  | .herdSweepSkip => [.time, .herd, .jnl]
  | .digestSend => [.time, .power, .pair]

/-- Commands that may change more of the time base than the pulse of the present instant. -/
def setsTime (i : Instr) : Bool :=
  match i with
  | .powerOn .. | .resetIn .. | .loadComplete .. | .loadOverrun .. | .freezeTrigger ..
  | .inputLossFullPhaseEnd .. | .inputReturned .. | .holdupExhausted .. | .outputQueueOverrun ..
  | .frameClosure .. | .ptpSync .. | .ptpAnnounce .. | .ptpPdelayReq .. | .ptpAnnounceTimeout .. | .ppsEdge ..
  | .ppsMissing .. | .timeLocked .. | .timeOffsetExcursion .. | .timeAlignLost .. | .timeOscWarm ..
  | .timeSetTod .. | .clockMonitorFault .. | .frameTokenMissing .. | .pairHeartbeatRx .. | .pairStepRx ..
  | .pairTimeSetRx .. | .pairTakeover .. | .pairHandoverFrame .. | .ref10InChange .. | .restartAtPulse999
  | .frameStrobe | .secondBoundary | .elandOverrun | .envelopeOverrun | .envelopeOverrunZero
  | .journalCommitOverrun | .timeStep | .digestCompare | .updActivateRestart => true
  | _ => false

/-! ### Conditions and outcomes that several statements share -/

/-- A frame of a type with a payload reaches a port of an awake front end and passes R91 and R93 there. -/
structure FeHears (f : FeSt) (h : LinkHead) (type : Nat) (payload : Bytes) : Prop where
  awake : f.awake = true
  intact : h.intact payload = true
  form : h.formOk false = true
  type_ : h.type = type

/-- A front end that has heard a frame at pulse `p`: the marks of an earlier frame are gone, the header is noted. -/
def State.feHeard (s : State) (port p : Nat) (x : Slot) (h : LinkHead) : FeSt :=
  ((s.fee port).roll s.time.ticks).hear (s.atP p).clockUs x h

/-- A reply of a type passes R91 and R93 and carries the `SEQ` of the port's outstanding transaction `x` (R105). -/
structure Answers (s : State) (p type : Nat) (h : LinkHead) (payload : Bytes) (x : SecTx) : Prop where
  waits : (s.lnk p).sec = some x
  intact : h.intact payload = true
  form : h.formOk true = true
  type_ : h.type = type
  seq : x.seq = some h.seq

/-- Controller `c` takes a container message of node `node` into the module (R447 to R449): the frame is sound, addressed
to this container and accepted by filter, and no copy of it has been taken in the 100 ms up to the present instant. -/
structure CanMayTake (s : State) (c : Nat) (f : CanFrame) (msg node n : Nat) : Prop where
  run : (s.ctl c).state = .run
  good : f.ok = true
  fd29 : f.fd29 = true
  message : f.msg = msg
  cont : f.container = s.sys.container
  known : node ≠ 0
  accepts : s.canAccepts node n f = true
  fresh : ∀ x ∈ s.bus.seen, s.clockUs < x.1 + 100000 → x.2 ≠ (node, msg, rdU f.payload 2 2)

/-- The message has been taken: its copy is known, and it stands among the module's inputs of the pair. -/
def CanTook (s t : State) (f : CanFrame) (msg node n : Nat) : Prop :=
  (s.clockUs, node, msg, rdU f.payload 2 2) ∈ t.bus.seen ∧
    ∃ it : PairItem, it.body = .can msg (rdU f.payload 4 2) (slice f.payload 10 n) ∧
      (it ∈ t.pair.items ∨ it ∈ tget t.pair.assigned (s.now + 2))

/-- The site link hears a message of a type with a payload: it passes every check of R412 in the present session, and
its sequence is new. -/
structure Hears (s : State) (m : SiteIn) (type : Nat) (payload : Bytes) : Prop where
  served : s.siteServed = true
  form : m.formOk payload = true
  type_ : m.type = type
  digest : m.digestOk payload = true
  open_ : s.site.sstate ≠ .none
  session : m.session = s.site.session
  tag : s.tagOk m payload = true
  fresh : s.site.fresh m.seq = true

/-- A message of its own, outside the pair's outputs, stands sent or waits for its pulse on the site link. -/
def State.tells (t : State) (type : Nat) (payload : Bytes) : Prop :=
  ∃ m, (m ∈ t.site.sent ∨ m ∈ t.site.waiting) ∧ m.type = type ∧ m.pairOut = false ∧ m.payload = payload

/-- A `COMMAND_STATE` with payload `b` answers the message (R420): a module that speaks for itself alone tells it, and
the unit that sends the pair's outputs sends it as one of them. -/
def State.answered (s t : State) (b : Bytes) : Prop :=
  (s.aloneOnly = true → t.tells 0x11 b) ∧
    (s.sendsPair = true → ∃ x ∈ t.site.sent, x.type = 0x11 ∧ x.pairOut = true ∧ x.payload = b)

/-- SF-12 has acted under diagnostic `n` (R323): it is shown, both safe outputs are asserted, every string is tripped, the
Safe latch holds, and a running module is in Safe. -/
structure FailedSafe (s t : State) (n : Nat) : Prop where
  diag : t.prot.diag.getLsbD (n - 1) = true
  last : t.prot.diagLast = some s.now
  outA : t.prot.safeA = true
  outB : t.prot.safeB = true
  latch : t.jnl.safeLatch = (if s.jnl.safeLatch = 0 then 0x02 else s.jnl.safeLatch)
  trips : ∀ k, k < 16 → (t.pst k).trip = true
  mode : s.mode.mode ≠ .fill → s.mode.mode ≠ .load → t.mode.mode = .safe

/-- The cores are frozen under diagnostic `n`, and the runtime side restarts with cause 0x04 (R327). -/
structure Froze (s t : State) (n : Nat) : Prop where
  frozen : t.prot.frozen = true
  by_ : t.prot.freezeBy = n
  at_ : t.prot.freezeAt = s.now
  mode : t.mode.mode = .fill
  cause : t.sys.resetCause = 0x04

end Sys2Proof.Machine
end

