-- ==== Sys2Proof/Certificates/Slice0/Obligations.lean ====
section
/-! DEFINITION. The statements for the provers: what every command does when it runs, what it leaves alone, and what every step
of the machine keeps. -/

open Sys2Proof Sys2Proof.Machine

/-! ### The machine as a whole -/

/-- The queue of waiting commands: `step` is `exec` of the front command over the rest of the queue. That an
empty queue idles is the model's choice (log 3). -/
def Obligations.StepRunsTheFrontCommand : Prop :=
  (∀ (c : Instr) (rest : List Instr) (s : State), s.pending = c :: rest →
    step s = exec c { s with pending := rest }) ∧
  (∀ (s : State), s.pending = [] → step s = .next s)

/-- The state after power-on (R69, Table 3-7): Fill, cause 0x01, the safe outputs asserted, nothing enabled,
permitted or requested. The empty queue is the model's own. -/
def Obligations.ResetState : Prop :=
  State.reset.tablesOk ∧ State.reset.journalsOk ∧ State.reset.pending = [] ∧ State.reset.mode.mode = .fill ∧
    State.reset.sys.resetCause = 0x01 ∧ State.reset.mode.enabled = 0 ∧ State.reset.site.sstate = .none ∧
    State.reset.prot.safeA = true ∧ State.reset.prot.safeB = true ∧
    ∀ k, (State.reset.pst k).permit = false ∧ (State.reset.pp k).kReq = false ∧ (State.reset.pp k).hold = false

/-- No command of the opcode table faults or is refused in any state, and no command touches the queue. -/
def Obligations.EveryCommandGivesANextState : Prop :=
  ∀ (i : Instr) (s : State), ∃ t, exec i s = .next t ∧ t.pending = s.pending

/-- The frame of the front-end, link and measurement commands: what `writes` does not list for the command is
unchanged, what lasts is kept, and only the commands of `setsTime` change more of the time than the pulse. -/
def Obligations.CellCommandsKeepTheRest : Prop :=
  ∀ (i : Instr) (s t : State), familyOf i = .cells → exec i s = .next t →
    Frame (writes i) s t ∧ (setsTime i = false → t.time = { s.time with pulse := t.time.pulse })

/-- The frame of the estimation, thermal, Herd, envelope and Graze commands: what `writes` does not list for the
command is unchanged, what lasts is kept, and only the commands of `setsTime` change more of the time than the
pulse. -/
def Obligations.ModelCommandsKeepTheRest : Prop :=
  ∀ (i : Instr) (s t : State), familyOf i = .models → exec i s = .next t →
    Frame (writes i) s t ∧ (setsTime i = false → t.time = { s.time with pulse := t.time.pulse })

/-- The frame of the power-port, protection and connect commands: what `writes` does not list for the command is
unchanged, what lasts is kept, and only the commands of `setsTime` change more of the time than the pulse. -/
def Obligations.StringCommandsKeepTheRest : Prop :=
  ∀ (i : Instr) (s t : State), familyOf i = .strings → exec i s = .next t →
    Frame (writes i) s t ∧ (setsTime i = false → t.time = { s.time with pulse := t.time.pulse })

/-- The frame of the commands of the frame, the time base, the modes and the strings: what `writes` does not
list for the command is unchanged, what lasts is kept, and only the commands of `setsTime` change more of the
time than the pulse. -/
def Obligations.RunningCommandsKeepTheRest : Prop :=
  ∀ (i : Instr) (s t : State), familyOf i = .running → exec i s = .next t →
    Frame (writes i) s t ∧ (setsTime i = false → t.time = { s.time with pulse := t.time.pulse })

/-- The frame of the commands of the pair: what `writes` does not list for the command is unchanged, what lasts
is kept, and only the commands of `setsTime` change more of the time than the pulse. -/
def Obligations.PairCommandsKeepTheRest : Prop :=
  ∀ (i : Instr) (s t : State), familyOf i = .pairing → exec i s = .next t →
    Frame (writes i) s t ∧ (setsTime i = false → t.time = { s.time with pulse := t.time.pulse })

/-- The frame of the commands of the site link, the container bus and the two-wire port: what `writes` does not
list for the command is unchanged, what lasts is kept, and only the commands of `setsTime` change more of the
time than the pulse. -/
def Obligations.OutsideCommandsKeepTheRest : Prop :=
  ∀ (i : Instr) (s t : State), familyOf i = .outside → exec i s = .next t →
    Frame (writes i) s t ∧ (setsTime i = false → t.time = { s.time with pulse := t.time.pulse })

/-- The frame of the commands of the supply, the start, the image, the update, the memories and the keys: what
`writes` does not list for the command is unchanged, what lasts is kept, and only the commands of `setsTime`
change more of the time than the pulse. -/
def Obligations.StoreCommandsKeepTheRest : Prop :=
  ∀ (i : Instr) (s t : State), familyOf i = .store → exec i s = .next t →
    Frame (writes i) s t ∧ (setsTime i = false → t.time = { s.time with pulse := t.time.pulse })

/-- What R550 says of the journals and the canonical form of the model's tables are kept by every step, from
every state. -/
def Obligations.TablesAndJournalsStayWellFormed : Prop :=
  ∀ (s t : State), step s = .next t →
    (s.tablesOk → t.tablesOk) ∧ (s.journalsOk → t.journalsOk) ∧ ∀ j, (s.ring j).next ≤ (t.ring j).next

/-- R514 (the rollback counter), R574 and R575 (the one-time-programmable keys) and the factory-written
identity, over every step and from every state. -/
def Obligations.WhatIsWrittenOnceStands : Prop :=
  ∀ (s t : State), step s = .next t →
    s.upd.rollback ≤ t.upd.rollback ∧ OtpGrows s.acc t.acc ∧ sameView s t .factory

/-- R64 and R75 over every step: the latched Safe cause stands through every command but MODE_SAFE_RESET, the
starts and the power cycle among them. -/
def Obligations.SafeLatchStandsUntilReset : Prop :=
  ∀ (s t : State), step s = .next t → s.jnl.safeLatch ≠ 0 →
    (∀ id rest, s.pending ≠ .modeSafeReset id :: rest) → t.jnl.safeLatch = s.jnl.safeLatch

/-- The rows of the mode transitions that leave Safe, Fill and Load, over every step and from every state (R61,
R62, R64, R75, R86). -/
def Obligations.SafeIsLeftOnlyByAStart : Prop :=
  ∀ (s t : State), step s = .next t →
    (s.mode.mode = .safe → t.mode.mode ∈ [Mode.safe, .fill]) ∧
    (s.mode.mode = .fill → t.mode.mode ∈ [Mode.fill, .load, .safe]) ∧
    (s.mode.mode = .load → t.mode.mode ∈ [Mode.load, .survey, .safe, .fill])

/-- R64. Load goes to Safe with the latched cause, and neither the loss nor the return of power clears the
latch. -/
def Obligations.SafeLatchGoverns : Prop :=
  (∀ (x : LoadIn) (s : State), s.mode.mode = .load → s.runtimeRuns = true → s.mode.configHold = false →
      s.stateUnfit x = false → s.jnl.safeLatch ≠ 0 →
      (judgeImage s.cfg.slot0 x.chain0 (requiredOk x.cred0) = 0 ∨
        judgeImage s.cfg.slot1 x.chain1 (requiredOk x.cred1) = 0) →
    ∃ t, exec (.loadComplete x) s = .next t ∧ t.mode.mode = .safe ∧ t.mode.safeCause = s.jnl.safeLatch ∧
      t.jnl.safeLatch = s.jnl.safeLatch) ∧
  (∀ (vin : Int) (idA idB : Bool) (twa : BitVec 2) (s : State),
    ∃ t, exec (.powerOn vin idA idB twa) s = .next t ∧ t.jnl.safeLatch = s.jnl.safeLatch) ∧
  (∀ (p : Pulse) (s : State), ∃ t, exec (.holdupExhausted p) s = .next t ∧ t.jnl.safeLatch = s.jnl.safeLatch)

/-- R413. The window is stated over every list of numbers accepted in a session, and a message outside it is
discarded. -/
def Obligations.ReplayWindow : Prop :=
  (∀ (u : SiteSt) (qs : List Nat) (q : Nat), u.seqTop = none → u.seqSeen = [] →
    ((qs.foldl SiteSt.take u).fresh q = true ↔
      (∀ x ∈ qs, x < q) ∨ (q ∉ qs ∧ ∀ x ∈ qs, x ≤ q + 63))) ∧
  (∀ (p : Pulse) (m : SiteIn) (id : Word) (c : BitVec 16) (b : Bytes) (s : State), s.siteServed = true →
      m.formOk (commandBytes id c.toNat b) = true → m.type = 0x10 → m.digestOk (commandBytes id c.toNat b) = true →
      s.site.sstate ≠ .none → m.session = s.site.session → s.tagOk m (commandBytes id c.toNat b) = true →
      s.site.fresh m.seq = false →
    ∃ t, exec (.command p m id c b) s = .next t ∧
      t.site = { s.site with nReplay := sat32u (s.site.nReplay + 1) })

/-- R424. The second part is the shared operation with the commands that resume, from every state; the end of
Load runs it with none (DEDUCED, log 147). A bad interlock found at the end of Load trips in the same command,
so the first part names that case. -/
def Obligations.LedgerAtTheEndOfLoad : Prop :=
  (∀ (s : State) (k : Nat), (s.prot.loaded = true ∨ ∀ i, (tget s.prot.ilk i).bad = false) →
    let e := tget s.site.ledger k
    let f := tget s.loadEnd.site.ledger k
    (e.state = .pending → f = { e with state := .failed, status := .failedAborted, step := 0, changed := s.now }) ∧
    (e.state = .accepted ∨ e.state = .started →
      f = { e with state := .failed, status := .failedAborted, changed := s.now }) ∧
    (e.state ∉ [LedgerState.pending, .accepted, .started] → f = e)) ∧
  (∀ (s : State) (resumes : LedgerEntry → Bool) (k : Nat),
    let e := tget s.site.ledger k
    let f := tget (s.ledgerAtLoad resumes).site.ledger k
    (e.state = .pending → f = { e with state := .failed, status := .failedAborted, step := 0, changed := s.now }) ∧
    (e.state = .accepted ∨ e.state = .started → resumes e = false →
      f = { e with state := .failed, status := .failedAborted, changed := s.now }) ∧
    (e.state = .accepted ∨ e.state = .started → resumes e = true → f = e) ∧
    (e.state ∉ [LedgerState.pending, .accepted, .started] → f = e))

/-- R387. Both inputs, and the active that continues. -/
def Obligations.StandbyLeavesWithoutItsInputs : Prop :=
  (∀ (p : Pulse) (s : State), s.pair.state = some .standby → s.pair.assignedTo.getD 0 < s.now →
    ∃ t, exec (.pairAssignMissing p) s = .next t ∧ t.pair.state = some .joining) ∧
  (∀ (p : Pulse) (s : State), s.pair.state = some .standby → 815 ≤ p.val →
      (∀ x, s.pair.peer = some x → x.frame ≠ s.now) →
    ∃ t, exec (.pairAssignMissing p) s = .next t ∧ t.pair.state = some .joining) ∧
  (∀ (p : Pulse) (s : State), s.pair.state = some .active →
    ∃ t, exec (.pairAssignMissing p) s = .next t ∧ t.pair = s.pair)

/-- R276. The two runs, and the two thresholds. -/
def Obligations.StatusStreamValidity : Prop :=
  (∀ (k : StrIx) (l : LineWord) (s : State), readStat l = none →
    ∃ t, exec (.statusWord k l) s = .next t ∧
      (t.pp k.val).badRun = (s.pp k.val).badRun + 1 ∧ (t.pp k.val).goodRun = 0) ∧
  (∀ (k : StrIx) (l : LineWord) (x : StatWord) (s : State), readStat l = some x →
      4 < ((s.pp k.val).word.pseq + 256 - x.eseq) % 256 →
    ∃ t, exec (.statusWord k l) s = .next t ∧
      (t.pp k.val).badRun = (s.pp k.val).badRun + 1 ∧ (t.pp k.val).goodRun = 0) ∧
  (∀ (k : StrIx) (l : LineWord) (x : StatWord) (s : State), readStat l = some x →
      ((s.pp k.val).word.pseq + 256 - x.eseq) % 256 ≤ 4 →
    ∃ t, exec (.statusWord k l) s = .next t ∧ (t.pp k.val).badRun = 0 ∧
      ((s.pp k.val).statInvalid = true → (t.pp k.val).goodRun = (s.pp k.val).goodRun + 1)) ∧
  (∀ (p : Pulse) (k : StrIx) (s : State), (s.pp k.val).statInvalid = false →
    ∃ t, exec (.statusStreamInvalid p k) s = .next t ∧
      ((t.pp k.val).statInvalid = true ↔ 4 ≤ (s.pp k.val).badRun)) ∧
  (∀ (p : Pulse) (k : StrIx) (s : State), (s.pp k.val).statInvalid = true →
    ∃ t, exec (.statusStreamValid p k) s = .next t ∧
      ((t.pp k.val).statInvalid = false ↔ 1000 ≤ (s.pp k.val).goodRun))

/-- R514 over the boot of the update part. -/
def Obligations.NoBankBelowTheCounterStarts : Prop :=
  ∀ (u : UpdSt) (f : BootFind),
    u.rollback ≤ (u.boot f).rollback ∧
    ((u.boot f).bootHold = false →
      (u.boot f).rollback ≤ (u.boot f).secvOf (u.boot f).running ∧
      ((u.boot f).bank (u.boot f).running).manifest.isSome = true)

/-- R538, R539 and R540: the word code, the page code, and the write that keeps the check bytes. The matrix and
the polynomial are the model's (PRESUMED, log 188). -/
def Obligations.MemoryCodes : Prop :=
  (∀ d : BitVec 64, readWord (storeWord d) = .good d) ∧
  (∀ (d : BitVec 64) (i : Fin 72), readWord (storeWord d ^^^ ((1 : BitVec 72) <<< i.val)) = .corrected d) ∧
  (∀ (d : BitVec 64) (i j : Fin 72), i ≠ j →
    readWord (storeWord d ^^^ ((1 : BitVec 72) <<< i.val) ^^^ ((1 : BitVec 72) <<< j.val)) = .bad) ∧
  readWord 0 = .bad ∧ readWord (BitVec.allOnes 72) = .bad ∧
  CodedPage.filled.check = pageCheck CodedPage.filled.data ∧
  (∀ (p : CodedPage) (n : Nat) (b : Byte), p.data.length = 4096 → n < 4096 → p.check = pageCheck p.data →
    (p.write n b).check = pageCheck (p.write n b).data ∧ (p.write n b).written = true ∧
      (p.write n b).data = p.data.set n b)

/-! ### Front ends and cell links (chapters 4, 5) -/

/-- Sampling, control, upload and authority of a front end. The clock that the 10 ms are counted on is the
model's (log 166) (R95, R96, R101, R120, R136). -/
def Obligations.FrontEndSamplingCompletes : Prop :=
  (∀ (port : PortIx) (x : Slot) (h : LinkHead) (delay : Nat) (conv : Bool) (inp : FeIn) (bad : BitVec 65) (s : State),
      FeHears (s.fee port.val) h 1 (sampleBytes delay conv) → (s.feHeard port.val 10 x h).sampled = none →
    ∃ t, exec (.feSample port x h delay conv inp bad) s = .next t ∧
      (t.fee port.val).sampled = some h.frame ∧ (t.fee port.val).convert = conv ∧ (t.fee port.val).delay = delay ∧
      ((t.fee port.val).side x).sampleHere = true ∧ ((t.fee port.val).side x).sampleSeq = h.seq ∧
      ∀ q, q ≠ port.val → t.fee q = s.fee q) ∧
  (∀ (port : PortIx) (x : Slot) (h : LinkHead) (mask : BitVec 64) (pat : Fin 3) (sleep : Bool) (fw : Verdict)
      (ver : Word) (s : State), FeHears (s.fee port.val) h 2 (controlBytes mask pat.val sleep []) →
      (s.feHeard port.val 20 x h).ofFrame h = true →
      (s.feHeard port.val 20 x h).auth (s.atP 20).clockUs = some x →
    ∃ t, exec (.feControl port x h mask pat sleep [] fw ver) s = .next t ∧
      (t.fee port.val).ctrlSeen = true ∧ (t.fee port.val).reqMask = mask ∧
      (t.fee port.val).pattern = BitVec.ofNat 2 pat.val ∧ (t.fee port.val).sleepDue = sleep ∧
      (t.fee port.val).appliedMask = (if pat.val ≠ 0 ∨ (s.feHeard port.val 20 x h).dieHot = true then 0
        else (s.feHeard port.val 20 x h).limitMask mask (h.frame % 2)) ∧
      ∀ q, q ≠ port.val → t.fee q = s.fee q) ∧
  (∀ (port : PortIx) (s : State), (s.fee port.val).awake = true →
      ((s.fee port.val).roll s.time.ticks).ctrlSeen = false →
    ∃ t, exec (.feControlMissing port) s = .next t ∧ (t.fee port.val).ctrlMissing = true ∧
      (t.fee port.val).appliedMask = 0 ∧ (t.fee port.val).pattern = 0 ∧ ∀ q, q ≠ port.val → t.fee q = s.fee q) ∧
  (∀ (port : PortIx) (n : Nat) (s : State), (s.fee port.val).awake = true →
      ((s.fee port.val).roll s.time.ticks).sampled = some n →
    ∃ t, exec (.feUpload port) s = .next t ∧
      (∀ x, ((t.fee port.val).side x).sent = ((s.fee port.val).side x).sent + 1 ∧
        ((t.fee port.val).side x).up =
          some (((s.fee port.val).roll s.time.ticks).upload (s.atP 100).clockUs x n)) ∧
      ∀ q, q ≠ port.val → t.fee q = s.fee q) ∧
  (∀ (p : Pulse) (port : PortIx) (x : Slot) (h : LinkHead) (s : State), FeHears (s.fee port.val) h 3 [] →
      p.val ≤ 218 → (s.feHeard port.val p.val x h).sampled = some h.frame →
      ((s.feHeard port.val p.val x h).side x).repeated = false →
    ∃ t, exec (.feRepeat p port x h) s = .next t ∧ ((t.fee port.val).side x).repeated = true ∧
      ((t.fee port.val).side x).sent = ((s.fee port.val).side x).sent + 1 ∧
      ((t.fee port.val).side x).rep = ((s.fee port.val).side x).up.map UpFrame.again ∧
      ∀ q, q ≠ port.val → t.fee q = s.fee q) ∧
  (∀ (p : Pulse) (port : PortIx) (x : Slot) (c : Nat) (s : State), ((s.fee port.val).side x).claimAt = some c →
      c + 10000 ≤ (s.atP p.val).clockUs →
    ∃ t, exec (.feAuthorityExpiry p port x) s = .next t ∧ ((t.fee port.val).side x).claimAt = none ∧
      (t.fee port.val).side x.other = (s.fee port.val).side x.other ∧ ∀ q, q ≠ port.val → t.fee q = s.fee q)

/-- Registers, wear memory, alarms and restart of a front end (R141, R143, R144, R146, R148). -/
def Obligations.FrontEndRegistersComplete : Prop :=
  (∀ (p : Pulse) (port : PortIx) (x : Slot) (h : LinkHead) (addr : Nat) (count : Fin 33) (s : State),
      FeHears (s.fee port.val) h 0x20 (regBytes addr count.val) →
      (upFrom addr count.val).all feImplemented = true →
    ∃ t r, exec (.feRegRead p port x h addr count) s = .next t ∧
      t.fee port.val = (s.feHeard port.val p.val x h).modSide x (fun q => { q with reply := some r }) ∧
      r.rstat = 0 ∧ r.addr = addr ∧ r.head.type = 0x22 ∧ r.head.seq = h.seq ∧
      r.data = (upFrom addr count.val).map ((s.feHeard port.val p.val x h).reg (s.atP p.val).clockUs) ∧
      ∀ q, q ≠ port.val → t.fee q = s.fee q) ∧
  (∀ (p : Pulse) (port : PortIx) (x : Slot) (h : LinkHead) (addr : Nat) (d : List Word) (fw : Verdict) (ver : Word)
      (f : FeSt) (s : State), FeHears (s.fee port.val) h 0x21 (regWriteBytes addr d) →
      s.feHeard port.val p.val x h = f → f.auth (s.atP p.val).clockUs = some x →
      (∀ w ∈ fromAddr addr d, feImplemented w.1 = true ∧ feReadOnly w.1 = false ∧ f.badValue fw w.1 w.2 = false ∧
        (f.wearBusy = true → w.1 ≠ 0x200 ∧ w.1 < 0x400)) →
    ∃ t r, exec (.feRegWrite p port x h addr d fw ver) s = .next t ∧
      t.fee port.val = ((fromAddr addr d).foldl (fun g w => g.write1 ver w.1 w.2) f).modSide x
        (fun q => { q with reply := some r }) ∧
      r.rstat = 0 ∧ r.addr = addr ∧ r.head.type = 0x22 ∧ r.head.seq = h.seq ∧
      ∀ q, q ≠ port.val → t.fee q = s.fee q) ∧
  (∀ (p : Pulse) (port : PortIx) (x : Slot) (h : LinkHead) (crc : Word) (f : FeSt) (s : State),
      FeHears (s.fee port.val) h 0x21 (regWriteBytes 0x200 [crc]) → s.feHeard port.val p.val x h = f →
      f.auth (s.atP p.val).clockUs = some x → f.wearBusy = false → crc = crc32c f.shadowBytes →
    ∃ t, exec (.feWearCommit p port x h crc) s = .next t ∧ (t.fee port.val).wearBusy = true ∧
      (t.fee port.val).wearShadow = (s.fee port.val).wearShadow ∧
      (t.fee port.val).wearCopy = (s.fee port.val).wearCopy ∧ ∀ q, q ≠ port.val → t.fee q = s.fee q) ∧
  (∀ (p : Pulse) (port : PortIx) (s : State), (s.fee port.val).wearBusy = true →
      (s.fee port.val).sleepAfterCommit = false →
    ∃ t, exec (.feWearCommitDone p port) s = .next t ∧ (t.fee port.val).wearBusy = false ∧
      (t.fee port.val).wearValid = true ∧ (t.fee port.val).wearCopy = (s.fee port.val).wearShadow ∧
      (t.fee port.val).wearOld = (s.fee port.val).wearCopy ∧
      (t.fee port.val).wearSeq = ((s.fee port.val).wearSeq + 1) % 65536 ∧ ∀ q, q ≠ port.val → t.fee q = s.fee q) ∧
  (∀ (p : Pulse) (port : PortIx) (x : Slot) (h : LinkHead) (v : Word) (f : FeSt) (s : State),
      FeHears (s.fee port.val) h 0x21 (regWriteBytes 0x11 [v]) → s.feHeard port.val p.val x h = f →
      f.auth (s.atP p.val).clockUs = some x → v.toNat < 64 →
    ∃ t, exec (.feAlarmClear p port x h v) s = .next t ∧
      (t.fee port.val).alarm = f.alarm &&& ~~~(BitVec.ofNat 6 v.toNat &&& if f.dieHot then 0x1F else 0x3F) ∧
      ∀ q, q ≠ port.val → t.fee q = s.fee q) ∧
  (∀ (p : Pulse) (port : PortIx) (x : Slot) (h : LinkHead) (sel : Fin 2) (ver : Word) (s : State),
      FeHears (s.fee port.val) h 0x21 (regWriteBytes 0x0B [BitVec.ofNat 32 (0x5EED0002 + sel.val)]) →
      (s.feHeard port.val p.val x h).auth (s.atP p.val).clockUs = some x →
    ∃ t, exec (.feFwRestart p port x h sel .pass ver) s = .next t ∧
      (t.fee port.val).fwSel = sel.val ∧ (t.fee port.val).restartDue = some sel.val ∧
      ∀ q, q ≠ port.val → t.fee q = s.fee q)

/-- Firmware blocks, echo, sleep, tones, wake and start of a front end (R104, R138, R139, R141, R142, R145,
R147). -/
def Obligations.FrontEndSleepAndFirmwareComplete : Prop :=
  (∀ (p : Pulse) (port : PortIx) (x : Slot) (h : LinkHead) (bank blockNo : Nat) (data : Bytes) (f : FeSt) (s : State),
      FeHears (s.fee port.val) h 0x30 (fwBlockBytes bank blockNo data) → s.feHeard port.val p.val x h = f →
      f.auth (s.atP p.val).clockUs = some x → f.fwBuf.length < 4 → bank ≤ 1 → bank ≠ f.runBank → blockNo < f.fwSize →
    ∃ t r, exec (.feFwBlock p port x h bank blockNo data) s = .next t ∧
      (t.fee port.val).fwBuf = f.fwBuf ++ [(bank, blockNo, padTo 256 data)] ∧
      (if bank = 0 then (t.fee port.val).bank0 else (t.fee port.val).bank1) = 0xFFFFFFFF ∧
      ((t.fee port.val).side x).reply = some r ∧ r.rstat = 0 ∧ r.addr = blockNo ∧ r.head.type = 0x31 ∧
      r.head.seq = h.seq ∧ ∀ q, q ≠ port.val → t.fee q = s.fee q) ∧
  (∀ (p : Pulse) (port : PortIx) (k b : Nat) (d : Bytes) (l : List (Nat × Nat × Bytes)) (s : State),
      (s.fee port.val).fwBuf = (k, b, d) :: l → (s.fee port.val).awake = true →
    ∃ t, exec (.feFwBlockProgrammed p port) s = .next t ∧ (t.fee port.val).fwBuf = l ∧
      (t.fee port.val).image0 = (if k = 0 then tput (s.fee port.val).image0 b d else (s.fee port.val).image0) ∧
      (t.fee port.val).image1 = (if k = 0 then (s.fee port.val).image1 else tput (s.fee port.val).image1 b d) ∧
      ∀ q, q ≠ port.val → t.fee q = s.fee q) ∧
  (∀ (p : Pulse) (port : PortIx) (x : Slot) (h : LinkHead) (s : State), FeHears (s.fee port.val) h 0x40 [] →
    ∃ t r, exec (.feEcho p port x h) s = .next t ∧
      t.fee port.val = (s.feHeard port.val p.val x h).modSide x (fun q => { q with reply := some r }) ∧
      r.head.type = 0x41 ∧ r.head.seq = h.seq ∧ ∀ q, q ≠ port.val → t.fee q = s.fee q) ∧
  (∀ (port : PortIx) (s : State), (s.fee port.val).awake = true → (s.fee port.val).sleepDue = true →
      (s.fee port.val).frameT = s.time.ticks → (s.fee port.val).restartDue = none →
        (s.fee port.val).wearBusy = false →
    ∃ t, exec (.feSleepEntry port) s = .next t ∧ (t.fee port.val).asleep = true ∧
      (t.fee port.val).sleepAt = (s.atP 900).clockUs ∧ (t.fee port.val).appliedMask = 0 ∧
      (t.fee port.val).pattern = 0 ∧ (t.fee port.val).alarm = (s.fee port.val).alarm &&& 0x01 ∧
      ∀ q, q ≠ port.val → t.fee q = s.fee q) ∧
  (∀ (p : Pulse) (port : PortIx) (s : State), (s.fee port.val).awake = true →
      (s.fee port.val).heardAt + 200000 ≤ (s.atP p.val).clockUs → (s.fee port.val).wearBusy = false →
    ∃ t, exec (.feSleepTimeout p port) s = .next t ∧ (t.fee port.val).asleep = true ∧
      (t.fee port.val).sleepAt = (s.atP p.val).clockUs ∧ (t.fee port.val).appliedMask = 0 ∧
      ∀ q, q ≠ port.val → t.fee q = s.fee q) ∧
  (∀ (p : Pulse) (port : PortIx) (inp : FeIn) (e : Nat) (s : State), (s.fee port.val).on = true →
      (s.fee port.val).asleep = true → (s.fee port.val).sleepFor (s.atP p.val).clockUs = e → sleepSlot e = true →
    ∃ t, exec (.feSleepConversion p port inp) s = .next t ∧
      (t.fee port.val).cellV = ((s.fee port.val).convertAll inp).cellV ∧
      (t.fee port.val).temp = ((s.fee port.val).convertAll inp).temp ∧
      (e % 10000000 < 1000000 → (t.fee port.val).period = some (e / 10000000) ∧
        ((s.fee port.val).balEn = false → (t.fee port.val).appliedMask = 0)) ∧
      ∀ q, q ≠ port.val → t.fee q = s.fee q) ∧
  (∀ (p : Pulse) (port : PortIx) (s : State), (s.fee port.val).on = true → (s.fee port.val).asleep = true →
      (s.fee port.val).toneDue = true →
    ∃ t, exec (.feAlarmToneSend p port false) s = .next t ∧
      (t.fee port.val).tones = (s.fee port.val).tones + 1 ∧ (t.fee port.val).toneDue = false ∧
      (t.fee port.val).alarm = (s.fee port.val).alarm ||| 0x01 ∧ ∀ q, q ≠ port.val → t.fee q = s.fee q) ∧
  (∀ (p : Pulse) (port : PortIx) (s : State), (s.fee port.val).on = true → (s.fee port.val).asleep = true →
    ∃ t, exec (.feWake p port) s = .next t ∧ (t.fee port.val).asleep = false ∧
      (t.fee port.val).appliedMask = 0 ∧ (t.fee port.val).wakeHold = true ∧ ∀ q, q ≠ port.val → t.fee q = s.fee q) ∧
  (∀ (p : Pulse) (port : PortIx) (cause : FeCause) (older : Verdict) (s : State),
    ∃ t, exec (.fePowerOn p port cause false .pass older) s = .next t ∧
      (t.fee port.val).runBank = (s.fee port.val).fwSel ∧ (t.fee port.val).resetCause = cause.code ∧
      (t.fee port.val).asleep = false ∧ (t.fee port.val).appliedMask = 0 ∧
      (t.fee port.val).serial = (s.fee port.val).serial ∧ (t.fee port.val).wearCopy = (s.fee port.val).wearCopy ∧
      ∀ q, q ≠ port.val → t.fee q = s.fee q)

/-- The states of a front-end link and the result of a frame. That a port without a SAMPLE counts as neither is
the model's choice (log 174) (R104, R108, R112, R113, R114). -/
def Obligations.LinkContextCommandsComplete : Prop :=
  (∀ (p : PortIx) (s : State), (s.lnk p.val).state = .run → 5 ≤ (s.lnk p.val).missRun →
    ∃ t, exec (.linkLost p) s = .next t ∧ t.lnk p.val = { s.lnk p.val with
        state := .lost, targets := if (s.lnk p.val).targets = 1 then 0 else (s.lnk p.val).targets } ∧
      ∀ q, q ≠ p.val → t.lnk q = s.lnk q) ∧
  (∀ (p : PortIx) (s : State), (s.lnk p.val).state = .lost → s.linkCfg.recoverFrames ≤ (s.lnk p.val).validRun →
    ∃ t, exec (.linkRecovered p) s = .next t ∧ t.lnk p.val = { s.lnk p.val with state := .run } ∧
      ∀ q, q ≠ p.val → t.lnk q = s.lnk q) ∧
  (∀ (p : PortIx) (w : Nat) (s : State), (s.lnk p.val).wakeFrame = some w → (s.lnk p.val).state = .wake →
      (s.lnk p.val).validNow = false → w + 100 ≤ s.time.ticks →
    ∃ t, exec (.linkWakeRetry p) s = .next t ∧
      t.lnk p.val = { s.lnk p.val with
        wakeFrame := some s.time.ticks, tone := false, alarmState := (s.lnk p.val).state.code } ∧ ∀ q, q ≠ p.val →
          t.lnk q = s.lnk q) ∧
  (∀ (p : PortIx) (s : State), (s.lnk p.val).state = .lost → 200 ≤ (s.lnk p.val).missRun →
      ((s.lnk p.val).missRun - 200) % 1000 = 0 →
    ∃ t, exec (.linkLostWake p) s = .next t ∧
      t.lnk p.val = { s.lnk p.val with
        wakeFrame := some s.time.ticks, tone := false, alarmState := (s.lnk p.val).state.code } ∧ ∀ q, q ≠ p.val →
          t.lnk q = s.lnk q) ∧
  (∀ (p : PortIx) (s : State), (s.lnk p.val).state = .align → (s.lnk p.val).echoRun = true →
      8 ≤ (s.lnk p.val).echoTried →
    ∃ t, exec (.linkAlignRetry p) s = .next t ∧
      t.lnk p.val = { s.lnk p.val with
        alignFails := (s.lnk p.val).alignFails + 1,
        latFault := (s.lnk p.val).latFault || decide (2 ≤ (s.lnk p.val).alignFails + 1), echoes := [],
        echoTried := 0, echoRun := true } ∧ ∀ q, q ≠ p.val → t.lnk q = s.lnk q) ∧
  (∀ (p : PortIx) (s : State), (s.lnk p.val).state = .run → (s.lnk p.val).echoRun = false →
      (s.lnk p.val).echoFrame + 1000 * s.linkCfg.echoInterval ≤ s.time.ticks →
    ∃ t, exec (.linkEchoInterval p) s = .next t ∧
      t.lnk p.val = { s.lnk p.val with echoRun := true, echoes := [], echoTried := 0 } ∧
      ∀ q, q ≠ p.val → t.lnk q = s.lnk q) ∧
  (∀ (n : Pulse) (p : PortIx) (s : State),
    ∃ t, exec (.linkAlarmTone n p) s = .next t ∧
      t.lnk p.val = { s.lnk p.val with
        tone := true, alarmState := (s.lnk p.val).state.code, nTones := sat32u ((s.lnk p.val).nTones + 1) } ∧
      (∀ q, q ≠ p.val → t.lnk q = s.lnk q) ∧
      ((s.lnk p.val).state = .sleep → s.mode.mode = .rest → t.mode.leavingRest = true) ∧
      t.mode.mode = s.mode.mode) ∧
  (∀ s : State, s.mode.mode = .rest → (s.now + 2) % 60000 = 0 → s.mode.leavingRest = false →
    ∃ t, exec .restWakeBurst s = .next t ∧ t.mode.wakeBurst = 12 ∧ t.mode.mode = .rest ∧
      ∀ q ∈ s.fittedPorts, (s.lnk q).state = .sleep →
        (t.lnk q).state = .wake ∧ (t.lnk q).wakeFrame = some s.time.ticks) ∧
  (∀ s : State, s.mode.mode ≠ .rest →
    ∃ t, exec .portResult s = .next t ∧
      ∀ q ∈ s.fittedPorts,
        ((s.lnk q).sampled = false → (t.lnk q).missRun = (s.lnk q).missRun ∧
          (t.lnk q).validRun = (s.lnk q).validRun ∧ (t.lnk q).nMissed = (s.lnk q).nMissed) ∧
        ((s.lnk q).sampled = true → (s.lnk q).validNow = true → (t.lnk q).missRun = 0 ∧
          (t.lnk q).validRun = (s.lnk q).validRun + 1 ∧
          (t.lnk q).nMissed = (s.lnk q).nMissed) ∧
        ((s.lnk q).sampled = true → (s.lnk q).validNow = false → (t.lnk q).missRun = (s.lnk q).missRun + 1 ∧
          (t.lnk q).validRun = 0 ∧
          (t.lnk q).nMissed = sat32u ((s.lnk q).nMissed + 1)))

/-- Uploads and secondary transactions of a front-end link (R98, R100, R104, R105, R147). -/
def Obligations.LinkTransferCommandsComplete : Prop :=
  (∀ (n : Pulse) (p : PortIx) (u : UpFrame) (old : List MemErr) (s : State), (s.lnk p.val).state = .run →
      (s.lnk p.val).validNow = false → s.fitted p.val = true →
      upCheck s.now n.val s.sys.slot (s.lnk p.val).convertSent u = 0 →
    ∃ t, exec (.uploadReceived n p u old) s = .next t ∧ (t.lnk p.val).validNow = true ∧
      (t.lnk p.val).viaRepeat = u.head.rpt ∧ (t.lnk p.val).own = some u.data.heeded ∧
      (t.lnk p.val).ust = u.data.heeded.ust ∧ (t.lnk p.val).applied = u.data.applied ∧
      (t.lnk p.val).nValid = sat32u ((s.lnk p.val).nValid + 1) ∧
      ((s.lnk p.val).mirror = none → writeFails old = false → (t.lnk p.val).used = some u.data.heeded) ∧
      (writeFails old = true → (t.lnk p.val).used = (s.lnk p.val).used) ∧ ∀ q, q ≠ p.val → t.lnk q = s.lnk q) ∧
  (∀ (n : Pulse) (p : PortIx) (u : UpFrame) (old : List MemErr) (s : State), (s.lnk p.val).state = .run →
      s.fitted p.val = true → u.head.intact u.data.bytes = false →
    ∃ t, exec (.uploadReceived n p u old) s = .next t ∧
      t.lnk p.val = { s.lnk p.val with nCrc := sat32u ((s.lnk p.val).nCrc + 1) } ∧ t.cells = s.cells ∧ t.th = s.th ∧
      ∀ q, q ≠ p.val → t.lnk q = s.lnk q) ∧
  (∀ (p : PortIx) (s : State), s.linkCfg.repeatEn = true → (s.lnk p.val).state = .run → (s.lnk p.val).sampled = true →
      (s.lnk p.val).validNow = false → (s.lnk p.val).repeated = false →
    ∃ t, exec (.repeatSend p) s = .next t ∧
      t.lnk p.val = { s.lnk p.val with
        repeated := true, seq := ((s.lnk p.val).seq + 1) % 65536, nRepeats := sat32u ((s.lnk p.val).nRepeats + 1) } ∧
      ∀ q, q ≠ p.val → t.lnk q = s.lnk q) ∧
  (∀ (n : Pulse) (p : PortIx) (h : LinkHead) (x : SecTx) (ticks : Nat) (s : State), Answers s p.val 0x41 h [] x →
      x.req = .echo → (s.lnk p.val).echoTried + 1 < 8 →
    ∃ t, exec (.echoReply n p h ticks) s = .next t ∧
      (t.lnk p.val).echoes = (s.lnk p.val).echoes ++ [5 * (ticks : Int) - 10400] ∧
      (t.lnk p.val).echoTried = (s.lnk p.val).echoTried + 1 ∧ (t.lnk p.val).latency = (s.lnk p.val).latency) ∧
  (∀ (n : Pulse) (p : PortIx) (h : LinkHead) (x : SecTx) (ticks lat : Nat) (s : State), Answers s p.val 0x41 h [] x →
      x.req = .echo → 8 ≤ (s.lnk p.val).echoTried + 1 → (s.lnk p.val).state = .align →
      latencyOf ((s.lnk p.val).echoes ++ [5 * (ticks : Int) - 10400]) = some lat →
    ∃ t, exec (.echoReply n p h ticks) s = .next t ∧ (t.lnk p.val).state = .align ∧
      (t.lnk p.val).latency = some lat ∧ (t.lnk p.val).measured = true ∧ (t.lnk p.val).echoRun = false ∧
      (t.lnk p.val).latFault = false) ∧
  (∀ (n : Pulse) (p : PortIx) (h : LinkHead) (x : SecTx) (a b c : Word) (s : State),
      Answers s p.val 0x22 h (regDataBytes 0 0x0010 3 [a, b, c]) x → x.req = .regRead 0x0010 3 → x.by_ = .refresh →
    ∃ t, exec (.regData n p h 0 0x0010 3 [a, b, c]) s = .next t ∧ (tget t.cfe p.val).status = a ∧
      (tget t.cfe p.val).alarm = b ∧ (tget t.cfe p.val).dieTemp = BitVec.ofNat 16 c.toNat ∧
      (tget t.cfe p.val).refreshed = s.now ∧ ∀ q, q ≠ p.val → t.lnk q = s.lnk q ∧ tget t.cfe q = tget s.cfe q) ∧
  (∀ (n : Pulse) (p : PortIx) (h : LinkHead) (x : SecTx) (bank blockNo : Nat) (d : Bytes) (j : CfeFwJob) (s : State),
      Answers s p.val 0x31 h (fwAckBytes 0 blockNo) x → x.req = .fwBlock bank blockNo d → s.upd.cfe = some j →
      (s.lnk p.val).secQueue.any (fun y => decide (y.by_ = .fwBlock)) = true →
    ∃ t, exec (.fwAck n p h 0 blockNo) s = .next t ∧ t.upd.cfe = some { j with sent := j.sent + 1 } ∧
      ∀ q, q ≠ p.val → t.lnk q = s.lnk q) ∧
  (∀ (n : Pulse) (p : PortIx) (x : SecTx) (s : State), (s.lnk p.val).sec = some x → x.tries < 4 →
    ∃ t, exec (.secondaryTimeout n p) s = .next t ∧ (t.lnk p.val).nSecFail = sat32u ((s.lnk p.val).nSecFail + 1) ∧
      (x.sentIn = some s.time.ticks → (s.lnk p.val).secQueue = [] →
        (t.lnk p.val).sec = none ∧ (t.lnk p.val).secQueue = [{ x with seq := none }]) ∧
      ∀ q, q ≠ p.val → t.lnk q = s.lnk q)

/-! ### Measurement, estimation and dispatch (chapters 6 to 9, 12) -/

/-- The permit of the measurement tier and the open-wire test (R155, R160, R161, R163). -/
def Obligations.OpenWireTestCommandsComplete : Prop :=
  (∀ s : State, ∃ t, exec .tierPermit s = .next t ∧
      (∀ k, s.installed k = true → (tget t.meas.str k).permit =
          (if s.tierCell k || s.tierOther k || s.meas.permitLost then 0
            else tierOf (if (tget s.meas.str k).loud1 then 0 else (tget s.meas.str k).quiet1 + 1)
              (if (tget s.meas.str k).loud2 then 0 else (tget s.meas.str k).quiet2 + 1)) ∧
        (tget t.meas.str k).tier = (tget s.meas.str k).tier ∧ (tget t.meas.str k).loud1 = false ∧
          (tget t.meas.str k).loud2 = false) ∧ t.meas.fe = s.meas.fe) ∧
  (∀ (p : PortIx) (s : State), s.fitted p.val = true → (s.lnk p.val).state = .run →
      s.testRuns (strOfPort p.val) = false → s.slotNow p.val = true → s.rotationMay (strOfPort p.val) = true →
    ∃ t, exec (.owTestStart p) s = .next t ∧
      (tget t.meas.fe p.val).test = some { why := .rotation, start := s.now, attempt := 1 } ∧
      (t.lnk p.val).convert = true ∧ (t.lnk p.val).owCtrl = 1 ∧
      ∀ q, q ≠ p.val → t.lnk q = s.lnk q ∧ tget t.meas.fe q = tget s.meas.fe q) ∧
  (∀ (p : PortIx) (f n : Nat) (w : TestWhy) (s : State), (tget s.meas.fe p.val).retryAt = some (f, n, w) →
      f ≤ s.now → s.testRuns (strOfPort p.val) = false → (s.lnk p.val).state = .run →
      (w = .rotation → s.rotationMay (strOfPort p.val) = true) →
    ∃ t, exec (.owTestRetry p) s = .next t ∧
      (tget t.meas.fe p.val).test = some { why := w, start := s.now, attempt := n } ∧
      (tget t.meas.fe p.val).retryAt = none ∧ (t.lnk p.val).owCtrl = 1 ∧
      ∀ q, q ≠ p.val → t.lnk q = s.lnk q ∧ tget t.meas.fe q = tget s.meas.fe q) ∧
  (∀ (p : PortIx) (s : State), (tget s.meas.fe p.val).blkTestDue = true → (s.lnk p.val).state = .run →
      s.testRuns (strOfPort p.val) = false →
    ∃ t, exec (.blockTriggeredTest p) s = .next t ∧
      (tget t.meas.fe p.val).test =
        some { why := .block, start := s.now, attempt := (tget s.meas.fe p.val).blkAttempts + 1 } ∧
      ∀ q, q ≠ p.val → t.lnk q = s.lnk q ∧ tget t.meas.fe q = tget s.meas.fe q) ∧
  (∀ (p : PortIx) (w : OwTest) (s : State), (tget s.meas.fe p.val).test = some w → w.start + 2 ≤ s.now →
      w.got ≠ 7 → w.attempt < 3 →
    ∃ t, exec (.owTestEvaluate p) s = .next t ∧ (tget t.meas.fe p.val).test = none ∧
      (tget t.meas.fe p.val).wires = (tget s.meas.fe p.val).wires ∧
      (tget t.meas.str (strOfPort p.val)).voids = sat32u ((tget s.meas.str (strOfPort p.val)).voids + 1) ∧
      (w.why = .rotation → (tget t.meas.fe p.val).retryAt = some (w.start + 5, w.attempt + 1, .rotation))) ∧
  (∀ (p : PortIx) (w : OwTest) (s : State), (tget s.meas.fe p.val).test = some w → w.start + 2 ≤ s.now →
      s.voidCause w = 0 → w.why ≠ .survey →
    ∃ t, exec (.owTestEvaluate p) s = .next t ∧ (tget t.meas.fe p.val).test = none ∧
      (∀ i ∈ (w.decide_ s.meas.cfg (s.cellsOn p.val)).wires, i < 65 → (tget t.meas.fe p.val).wires.getLsbD i = true) ∧
      ((w.decide_ s.meas.cfg (s.cellsOn p.val)).wires = [] →
        (tget t.meas.fe p.val).wires = (tget s.meas.fe p.val).wires))

/-- Block, sum, wire and thermistor faults (R165, R167, R168, R172, R173, R304). -/
def Obligations.MeasurementFaultCommandsComplete : Prop :=
  (∀ (p : Pulse) (q : PortIx) (s : State), 10 ≤ (tget s.meas.fe q.val).blkFail → (tget s.meas.fe q.val).blk = false →
    ∃ t, exec (.measBlockFault p q) s = .next t ∧ (tget t.meas.fe q.val).blk = true ∧
      (tget t.meas.fe q.val).blkTestDue = true ∧ ∀ r, r ≠ q.val → tget t.meas.fe r = tget s.meas.fe r) ∧
  (∀ (p : Pulse) (q : PortIx) (s : State), 10 ≤ (tget s.meas.fe q.val).blkPass → (tget s.meas.fe q.val).blk = true →
    ∃ t, exec (.blkClear p q) s = .next t ∧ (tget t.meas.fe q.val).blk = false ∧
      (tget t.meas.fe q.val).sf06Invalid = false ∧ ∀ r, r ≠ q.val → tget t.meas.fe r = tget s.meas.fe r) ∧
  (∀ (k : StrIx) (s : State), 100 ≤ (tget s.meas.str k.val).sumFail → (tget s.meas.str k.val).sumFault = false →
    ∃ t, exec (.stringSumFault k) s = .next t ∧ (tget t.meas.str k.val).sumFault = true ∧
      has (t.pst k.val).warn 6 = true) ∧
  (∀ (p : Pulse) (k : StrIx) (f : Nat) (s : State), (tget s.meas.str k.val).wireDeadline = some f → f ≤ s.now →
    ∃ t, exec (.wireOpenDeadline p k) s = .next t ∧ (tget t.meas.str k.val).wireDeadline = none ∧
      has (t.pst k.val).tripStage 6 = true) ∧
  (∀ (p : Pulse) (q : PortIx) (i : Fin 16) (s : State),
      2 ≤ (tget s.th (thIx q.val i.val)).badRun ∨ 2 ≤ (tget s.mkTh (thIx q.val i.val)).badRun →
      (tget s.th (thIx q.val i.val)).broken = false → has (s.thOn q.val) i.val = true →
    ∃ t, exec (.thermistorOpenFault p q i) s = .next t ∧ (tget t.th (thIx q.val i.val)).broken = true ∧
      (2 ≤ (tget s.mkTh (thIx q.val i.val)).badRun → (tget t.mkTh (thIx q.val i.val)).broken = true) ∧
      ∀ j, j ≠ thIx q.val i.val → tget t.th j = tget s.th j) ∧
  (∀ (p : Pulse) (q : PortIx) (i : Fin 16) (f : Nat) (s : State),
      (tget s.th (thIx q.val i.val)).disagreeFrom = some f → (tget s.th (thIx q.val i.val)).broken = false →
      f + 1000 * s.meas.cfg.thPersist ≤ s.now →
    ∃ t, exec (.thermistorDisagree p q i) s = .next t ∧ (tget t.th (thIx q.val i.val)).broken = true ∧
      (tget t.mkTh (thIx q.val i.val)).disagree = true ∧ ∀ j, j ≠ thIx q.val i.val → tget t.th j = tget s.th j) ∧
  (∀ (p : Pulse) (q : PortIx) (i : Fin 16) (f : Nat) (s : State),
      (tget s.th (thIx q.val i.val)).goodFrom = some f → (tget s.th (thIx q.val i.val)).broken = true →
      f + 60000 ≤ s.now →
    ∃ t, exec (.thermistorRestored p q i) s = .next t ∧ (tget t.th (thIx q.val i.val)).broken = false ∧
      ∀ j, j ≠ thIx q.val i.val → tget t.th j = tget s.th j) ∧
  (∀ (p : Pulse) (q : PortIx) (i : Fin 16) (s : State), (tget s.mkTh (thIx q.val i.val)).restoreAsked = true →
      (tget s.mkTh (thIx q.val i.val)).badRun = 0 → (tget s.mkTh (thIx q.val i.val)).lastBad + 60000 ≤ s.now →
    ∃ t, exec (.markhorThRestore p q i) s = .next t ∧ (tget t.mkTh (thIx q.val i.val)).broken = false ∧
      (tget t.mkTh (thIx q.val i.val)).restoreAsked = false ∧
      ∀ j, j ≠ thIx q.val i.val → tget t.mkTh j = tget s.mkTh j)

/-- History, estimation passes, references and rests (R195, R201, R203, R204, R205, R440). -/
def Obligations.EstimationCommandsComplete : Prop :=
  (∀ s : State, s.now % 60000 = 0 → s.site.history.length < 10080 →
    ∃ t, exec .historyMinute s = .next t ∧ (∃ c r, t.site.history = s.site.history ++ [(s.now, c, r)]) ∧
      t.site.sent = s.site.sent) ∧
  (∀ s : State, s.now % 60000 = 0 → 10080 ≤ s.site.history.length →
    ∃ t, exec .historyMinute s = .next t ∧ (∃ c r, t.site.history = s.site.history.drop 1 ++ [(s.now, c, r)]) ∧
      t.site.lastLoss = some s.now) ∧
  (∀ (late : Nat) (s : State), s.est.passDone = false → s.runtimeRuns = true → s.mode.mode ≠ .load →
    ∃ t, exec (.estimationPass late) s = .next t ∧ t.est.passDone = true ∧ t.link = s.link ∧ t.dsp = s.dsp ∧
      t.meas = s.meas) ∧
  (∀ (p : Pulse) (k : StrIx) (c : Nat) (s : State), (tget s.est.str k.val).request = some c →
      s.requestCause k.val ≠ 0 → (tget s.est.str k.val).requestAt + 3600000 * s.est.cfg.reqRepeat ≤ s.now →
    ∃ t, exec (.estRequestRepeat p k) s = .next t ∧ (tget t.est.str k.val).requestAt = s.now ∧
      t.jnl = ((s.atP p.val).requestEvent k.val c).jnl ∧
      ∀ j, j ≠ k.val → tget t.est.str j = tget s.est.str j) ∧
  (∀ (p : Pulse) (k : StrIx) (q : Excursion) (s : State), (tget s.est.str k.val).excursion = some q →
      q.end_ ≤ s.now →
    ∃ t, exec (.excursionDurationEnd p k) s = .next t ∧ (tget t.est.str k.val).excursion = none ∧
      t.jnl = ((s.atP p.val).excEvent k.val
        (if (s.str k.val).state = .closed ∨ (s.str k.val).state = .held then 2 else 3) q).jnl ∧
      ∀ j, j ≠ k.val → tget t.est.str j = tget s.est.str j) ∧
  (∀ (id : Word) (e : LedgerEntry) (s : State), Due s id 0x0701 e → e.body.length = 6 → rdU e.body 3 1 = 0 →
      (rdU e.body 2 1 = 1 ∨ rdU e.body 2 1 = 2) → 10 ≤ rdU e.body 4 2 → rdU e.body 4 2 ≤ 1440 →
      namedIn e.mask ≠ [] → (∀ k ∈ namedIn e.mask, s.installed k = true ∧ (s.str k).state = .closed) →
    ∃ t, exec (.estReferenceGrant id) s = .next t ∧
      (∀ k ∈ namedIn e.mask, (tget t.est.str k).excursion =
        some { charge := decide (rdU e.body 2 1 = 1), from_ := s.now, end_ := s.now + 60000 * rdU e.body 4 2,
               cmd := id }) ∧
      (∀ j, j ∉ namedIn e.mask → tget t.est.str j = tget s.est.str j) ∧ t.cmdStands id .done .ok) ∧
  (∀ (p : Pulse) (k : StrIx) (s : State), 60000 * s.est.cfg.restMin ≤ (tget s.est.str k.val).quiet →
      s.installed k.val = true →
    ∃ t, exec (.estRestStart p k) s = .next t ∧ (tget t.est.str k.val).atRest = true ∧
      ∀ j, j ≠ k.val → tget t.est.str j = tget s.est.str j)

/-- Plate sources and the Herd sweep (R224, R237). -/
def Obligations.ThermalAndHerdCommandsComplete : Prop :=
  (∀ (p : Pulse) (k : StrIx) (s : State), (s.atP p.val).plateSource k.val = none → s.installed k.val = true →
    ∃ t, exec (.plateSourceInvalid p k) s = .next t ∧ (tget t.thm.str k.val).plateInvalid = true ∧
      ∀ j, j ≠ k.val → tget t.thm.str j = tget s.thm.str j) ∧
  (∀ (p : Pulse) (n : Nat) (s : State), s.herd.sweep = some n → p.val < 900 → s.grz.admitted = true →
      s.sys.selfTestFail.getLsbD 7 = false →
    ∃ t, exec (.herdSweepDone p) s = .next t ∧ t.herd.sweep = none ∧ t.herd.skipRun = 0 ∧ t.herd.swept = true) ∧
  (∀ (n : Nat) (s : State), s.herd.sweep = some n → 1000 * (n + 1) + 999 ≤ s.now →
    ∃ t, exec .herdSweepSkip s = .next t ∧ t.herd.sweep = none ∧ t.herd.skipRun = s.herd.skipRun + 1 ∧
      t.herd.lastSkip = some s.now ∧ t.herdTab = s.herdTab ∧
      ∀ k, s.installed k = true → (tget s.herd.str k).eligPrev = true →
        (tget t.herd.str k).skipped = sat32u ((tget s.herd.str k).skipped + 1))

/-- The envelope of the frame, its overruns, the derate and the window (R36, R346, R358, R360). -/
def Obligations.EnvelopeCommandsComplete : Prop :=
  (∀ s : State, s.runtimeRuns = true → s.dsp.done = false →
    ∃ t, exec .envelope s = .next t ∧ t.dsp.done = true ∧ t.dsp.stale = false ∧ t.dsp.zeroed = false ∧
      t.mode.mode = s.mode.mode) ∧
  (∀ s : State, s.runtimeRuns = true → s.dsp.done = false →
    ∃ t, exec .envelopeOverrun s = .next t ∧ t.dsp.done = true ∧ t.dsp.stale = true ∧
      t.dsp.lastOverrun = some s.now ∧ t.grz.elasticUp = true) ∧
  (∀ s : State, s.runtimeRuns = true → s.dsp.done = false → 10 ≤ s.time.runEnvelope →
      s.time.overrunNow.getLsbD 1 = false →
    ∃ t, exec .envelopeOverrunZero s = .next t ∧ t.dsp.zeroed = true ∧ t.dsp.chg = [0, 0, 0, 0] ∧
      t.dsp.dis = [0, 0, 0, 0]) ∧
  (∀ (o : OutKind) (s : State),
    ∃ t, exec (.outputQueueOverrun o) s = .next t ∧ t.time.overrunNow.getLsbD 2 = true ∧
      (o = .dispatch → ∀ m ∈ t.site.sent, ¬(m.type = 0x21 ∧ m.frame = s.now ∧ m.pairOut = true)) ∧
      (o = .sitePush → ∀ m ∈ t.site.sent, ¬(m.type = 0x21 ∧ m.frame = s.now ∧ m.pairOut = false))) ∧
  (∀ (p : Pulse) (s : State), 200 ≤ s.dsp.excess → s.dsp.reqCurrent = false →
    ∃ t, exec (.derateCurrentExcess p) s = .next t ∧ t.dsp.reqCurrent = true ∧ t.dsp.clearFrom = none ∧
      t.dsp.reqZero = s.dsp.reqZero) ∧
  (∀ (p : Pulse) (f : Nat) (s : State), s.dsp.clearFrom = some f → f + 1000 ≤ s.now →
      (s.dsp.reqCurrent = true ∨ s.dsp.reqZero = true) →
    ∃ t, exec (.derateRelease p) s = .next t ∧ t.dsp.reqCurrent = false ∧ t.dsp.reqZero = false) ∧
  (∀ (id : Word) (e : LedgerEntry) (s : State), Due s id 0x0C01 e → e.body.length = 8 →
      2 ^ 32 ≤ 10 * (rdU e.body 4 4 - rdU e.body 0 4) → rdU e.body 0 4 ≤ 2 ^ 31 → 2 ^ 31 ≤ rdU e.body 4 4 →
    ∃ t, exec (.dspSocWindow id) s = .next t ∧ t.dsp.socMin = rdU e.body 0 4 ∧ t.dsp.socMax = rdU e.body 4 4 ∧
      t.cmdStands id .done .ok)

/-- Overruns, sensors, the elastic rung and the roster (R36, R364, R367, R370). -/
def Obligations.GrazeCommandsComplete : Prop :=
  (∀ s : State, s.overran .eland = false →
    ∃ t, exec .elandOverrun s = .next t ∧ t.overran .eland = true ∧ t.time.runEland = sat32u (s.time.runEland + 1) ∧
      t.est.lastOverrun = some s.now ∧ t.grz.elasticUp = true) ∧
  (∀ s : State, s.jnl.queue ≠ [] → s.overran .journal = false →
    ∃ t, exec .journalCommitOverrun s = .next t ∧ t.overran .journal = true ∧
      t.time.runJournal = sat32u (s.time.runJournal + 1)) ∧
  (∀ (p : Pulse) (r : Fin 10) (f : Bool) (s : State), has s.grz.railFail r.val ≠ f →
    ∃ t, exec (.grzSensor p (.rail r) f) s = .next t ∧ has t.grz.railFail r.val = f ∧
      (∀ j, j ≠ r.val → has t.grz.railFail j = has s.grz.railFail j) ∧ t.grz.diodeFail = s.grz.diodeFail ∧
      t.grz.baseFail = s.grz.baseFail) ∧
  (∀ (p : Pulse) (d : Fin 4) (f : Bool) (s : State), s.grz.diodeFail.getLsbD d.val ≠ f →
    ∃ t, exec (.grzSensor p (.diode d) f) s = .next t ∧ t.grz.diodeFail.getLsbD d.val = f ∧
      (∀ j, j ≠ d.val → t.grz.diodeFail.getLsbD j = s.grz.diodeFail.getLsbD j) ∧
      t.grz.railFail = s.grz.railFail ∧ t.grz.baseFail = s.grz.baseFail) ∧
  (∀ (p : Pulse) (f : Bool) (s : State), s.grz.baseFail ≠ f →
    ∃ t, exec (.grzSensor p .base f) s = .next t ∧ t.grz = { s.grz with baseFail := f }) ∧
  (∀ (p : Pulse) (s : State), 10000 ≤ s.grz.elasticClean → (if 4 ≤ s.grz.rung then 2 else 0) < s.grz.elastic →
    ∃ t, exec (.elasticRecovery p) s = .next t ∧
      t.grz = { s.grz with elastic := s.grz.elastic - 1, elasticClean := 0 }) ∧
  (∀ (p : Pulse) (s : State), s.now % 1000 = 999 → 820 ≤ p.val → p.val ≤ 950 → s.rosterRuns = true →
    ∃ t, exec (.rosterCompute p) s = .next t ∧ t.grz.demand = s.demandNow ∧
      (360000 * s.demandNow.natAbs < s.qDesign * s.strings.length →
        t.grz.changes = [] ∧ t.grz.rosterDue = none ∧ t.grz.serve = s.grz.serve) ∧
      (s.qDesign * s.strings.length ≤ 360000 * s.demandNow.natAbs →
        t.grz.rosterDue = some (s.now + 1) ∧ t.grz.hPred = (s.rosterOf s.demandNow).heat ∧
        t.grz.serve = (s.rosterOf s.demandNow).want.foldl withBit 0 ∧
        t.grz.changes = s.rosterChanges s.demandNow (s.rosterOf s.demandNow) ∧
        t.grz.changes.length ≤ s.grz.cfg.maxChanges))

/-! ### Power ports and protection (chapters 10, 11) -/

/-- The command and status words of a power port and their faults (R267, R269, R275, R276, R277, R283). -/
def Obligations.PowerPortCommandsComplete : Prop :=
  (∀ (k : StrIx) (i v b : BitVec 20) (w : LineWord) (c : Int) (s u : State),
      u = (s.atP (s.pp k.val).pulse).wordWork k.val → u.psv.powered = true →
    ∃ t, exec (.commandWord k i v b w c) s = .next t ∧ (t.pp k.val).word = u.wordOf k.val ∧
      (t.pp k.val).pulse = ((s.pp k.val).pulse + 1) % 1000 ∧ (t.pp k.val).pseq = ((u.pp k.val).pseq + 1) % 256 ∧
      (t.pp k.val).icur.sample =
        ((u.pp k.val).icur.take i (u.portCfg k.val).icurFs (u.portCfg k.val).icurOfs).sample ∧
      ∃ pick, tget t.power.stage k.val = (match u.sys.slot with
        | .a => (tget u.power.stage k.val).pulse (u.wordOf k.val).line w c pick
        | .b => (tget u.power.stage k.val).pulse w (u.wordOf k.val).line c pick)) ∧
  (∀ (k : StrIx) (i v b : BitVec 20) (w : LineWord) (c : Int) (s : State), s.psv.powered = false →
    ∃ t, exec (.commandWord k i v b w c) s = .next t ∧ t.power.port = s.power.port ∧
      ∃ pick, tget t.power.stage k.val = (match s.sys.slot with
        | .a => (tget s.power.stage k.val).pulse idleLine w c pick
        | .b => (tget s.power.stage k.val).pulse w idleLine c pick)) ∧
  (∀ (k : StrIx) (l : LineWord) (x : StatWord) (s : State), readStat l = some x →
    ∃ t, exec (.statusWord k l) s = .next t ∧ (t.pp k.val).stat = x ∧
      (t.pp k.val).badRun =
        (if ((s.pp k.val).word.pseq + 256 - x.eseq) % 256 ≤ 4 then 0 else (s.pp k.val).badRun + 1)) ∧
  (∀ (k : StrIx) (l : LineWord) (s : State), readStat l = none →
    ∃ t, exec (.statusWord k l) s = .next t ∧ (t.pp k.val).stat = (s.pp k.val).stat ∧
      (t.pp k.val).badRun = (s.pp k.val).badRun + 1 ∧ (t.pp k.val).nStatErr = sat32u ((s.pp k.val).nStatErr + 1)) ∧
  (∀ (p : Pulse) (k : StrIx) (c : Fin 3) (s : State), ((s.pp k.val).chan c.val).stuck = true →
      ((s.pp k.val).chan c.val).invalid = false →
    ∃ t, exec (.bitstreamStuck p k c) s = .next t ∧ ((t.pp k.val).chan c.val).invalid = true ∧
      (t.pp k.val).nStuck = sat32u ((s.pp k.val).nStuck + 1)) ∧
  (∀ (p : Pulse) (k : StrIx) (c : Fin 3) (s : State), ((s.pp k.val).chan c.val).invalid = true →
      1000 ≤ ((s.pp k.val).chan c.val).clean →
    ∃ t, exec (.bitstreamRecover p k c) s = .next t ∧ ((t.pp k.val).chan c.val).invalid = false) ∧
  (∀ (p : Pulse) (k : StrIx) (s : State), 4 ≤ (s.pp k.val).badRun → (s.pp k.val).statInvalid = false →
    ∃ t, exec (.statusStreamInvalid p k) s = .next t ∧ (t.pp k.val).statInvalid = true ∧
      ((s.str k.val).state ∈ [SState.connecting, .closed, .held] → has (t.pst k.val).tripStage 8 = true)) ∧
  (∀ (p : Pulse) (k : StrIx) (s : State), (s.pp k.val).statInvalid = true → 1000 ≤ (s.pp k.val).goodRun →
    ∃ t, exec (.statusStreamValid p k) s = .next t ∧ (t.pp k.val).statInvalid = false) ∧
  (∀ (p : Pulse) (k : StrIx) (s : State), 3 ≤ (s.pp k.val).echoBad → (s.pp k.val).echoFault = false →
    ∃ t, exec (.ppEchoFault p k) s = .next t ∧ (t.pp k.val).echoFault = true ∧
      (t.pp k.val).nEcho = sat32u ((s.pp k.val).nEcho + 1) ∧
      ((s.str k.val).state ∈ [SState.connecting, .closed, .held] → has (t.pst k.val).tripStage 8 = true)) ∧
  (∀ (p : Pulse) (k : StrIx) (s : State), (s.pp k.val).echoFault = true → 1000 ≤ (s.pp k.val).echoGood →
    ∃ t, exec (.echoFaultClear p k) s = .next t ∧ (t.pp k.val).echoFault = false ∧ (t.pp k.val).echoBad = 0) ∧
  (∀ (p : Pulse) (k : StrIx) (s : State), (s.pp k.val).phase.looping = true → 8 ≤ (s.pp k.val).loop.run →
      (s.pp k.val).loop.implausible = false →
    ∃ t, exec (.ppImplausible p k) s = .next t ∧ (t.pp k.val).loop.implausible = true ∧
      ((s.str k.val).state ∈ [SState.connecting, .closed, .held] → has (t.pst k.val).tripStage 9 = true))

/-- The connect sequence, the opening, the outputs and the stage without inputs (R274, R284, R285, R286, R288,
R291). -/
def Obligations.ConnectCommandsComplete : Prop :=
  (∀ (p : Pulse) (k : StrIx) (s : State), s.connecting k.val = true → (s.pp k.val).phase = .contactors →
      10000 * s.power.cfg.kClose ≤ (s.pp k.val).phasePulses →
    ∃ t, exec (.contactorCloseTimeout p k) s = .next t ∧ (t.str k.val).state = .opened ∧
      (t.pp k.val).lastAbort = 3 ∧ (t.pp k.val).phase = .none) ∧
  (∀ (p : Pulse) (k : StrIx) (s : State), s.connecting k.val = true → (s.pp k.val).phase = .settle →
      20000 ≤ (s.pp k.val).phasePulses →
    ∃ t, exec (.loopPhaseStart p k) s = .next t ∧ (t.pp k.val).phase = .loop ∧ (t.pp k.val).loop.out = false ∧
      (t.pp k.val).loop.entry = s.now ∧ (t.pp k.val).loop.count = 0 ∧ (t.pp k.val).loop.sp = (s.pp k.val).loop.sp) ∧
  (∀ (p : Pulse) (k : StrIx) (s : State), (s.pp k.val).phase = .loop →
      s.power.cfg.convPulses ≤ (s.pp k.val).loop.conv → (s.pp k.val).loop.out = false →
    ∃ t, exec (.handoverWindowOpen p k) s = .next t ∧ (t.pp k.val).phase = .window ∧
      (t.pp k.val).loop.window = true ∧ (t.pp k.val).loop.windowAge = 0 ∧ t.str k.val = s.str k.val) ∧
  (∀ (p : Pulse) (k : StrIx) (s : State), s.connecting k.val = true → (s.pp k.val).phase = .loop →
      s.power.cfg.convPulses ≤ (s.pp k.val).loop.conv → (s.pp k.val).loop.out = true →
      (s.pst k.val).latched = 0 → s.inhChg k.val = false → s.inhDis k.val = false →
    ∃ t, exec (.handoverWindowOpen p k) s = .next t ∧ (t.str k.val).state = .closed ∧ (t.str k.val).retry = 0 ∧
      (t.pp k.val).hold = true ∧ (t.pp k.val).phase = .none) ∧
  (∀ (p : Pulse) (k : StrIx) (s : State), s.connecting k.val = true → (s.pp k.val).phase = .window →
      2000 ≤ (s.pp k.val).loop.windowAge → (s.pp k.val).loop.out = false →
    ∃ t, exec (.handoverWindowExpire p k) s = .next t ∧ (t.str k.val).state = .opened ∧
      (t.pp k.val).lastAbort = 5 ∧ (t.pp k.val).phase = .none) ∧
  (∀ (p : Pulse) (k : StrIx) (s : State), s.connecting k.val = true → (s.pp k.val).phase = .loop →
      10000 * s.power.cfg.connTime ≤ (s.pp k.val).phasePulses →
    ∃ t, exec (.connTimeExpire p k) s = .next t ∧ (t.str k.val).state = .opened ∧
      (t.pp k.val).lastAbort = 4 ∧ (t.pp k.val).phase = .none) ∧
  (∀ (p : Pulse) (k : StrIx) (s : State), (s.pp k.val).opening = true → 100 ≤ (s.pp k.val).lowRun →
    ∃ t, exec (.openCurrentLow p k) s = .next t ∧ (t.pst k.val).permit = false ∧ (t.pp k.val).kReq = false ∧
      (t.pp k.val).opening = ((s.pp k.val).stat.kposAux || (s.pp k.val).stat.knegAux)) ∧
  (∀ (p : Pulse) (o : Fin 16) (f : BitVec 3) (s : State),
    ∃ t, exec (.loopOutputFault p o f) s = .next t ∧ (tget t.power.out o.val).faults = f ∧
      (f.getLsbD 0 = true → (tget t.power.out o.val).cut = true ∧ (tget t.power.out o.val).on = false) ∧
      (f.getLsbD 0 = false → (tget t.power.out o.val).on = (tget s.power.out o.val).on) ∧
      ∀ q, q ≠ o.val → tget t.power.out q = tget s.power.out q) ∧
  (∀ (p : Pulse) (o : Fin 16) (s : State), (tget s.power.out o.val).cut = true →
    ∃ t, exec (.thermalOutputRetry p o) s = .next t ∧
      tget t.power.out o.val = { tget s.power.out o.val with cut := false, on := s.driven o.val } ∧
      ∀ q, q ≠ o.val → tget t.power.out q = tget s.power.out q) ∧
  (∀ (p : Pulse) (k : StrIx) (s : State),
    ∃ t, exec (.stageLossOfBothInputs p k true) s = .next t ∧ (tget t.power.stage k.val).sw = false ∧
      (tget t.power.stage k.val).kpos = false ∧ (tget t.power.stage k.val).kneg = false ∧
      (tget t.power.stage k.val).follow = .none) ∧
  (∀ (p : Pulse) (k : StrIx) (s : State),
    ∃ t, exec (.stageLossOfBothInputs p k false) s = .next t ∧ (tget t.power.stage k.val).sw = false ∧
      (tget t.power.stage k.val).lossOpen = true ∧
      (tget t.power.stage k.val).kpos = (tget s.power.stage k.val).kpos)

/-- Stages and alarms of the protection functions (R304, R306, R308, R312, R317, R318, R319, R320, R321). -/
def Obligations.ProtectionStageCommandsComplete : Prop :=
  (∀ (p : Pulse) (k : StrIx) (s : State), ((s.pp k.val).coarseHit = true ∨ (s.pp k.val).stat.desat = true) →
    ∃ t, exec (.sf04Trip p k) s = .next t ∧ has (t.pst k.val).tripStage 3 = true ∧
      (has (s.pst k.val).tripStage 3 = false → (s.matrix 4).trip.getLsbD 4 = true →
        (s.matrix 4).trip.getLsbD 5 = false → has (t.pst k.val).latched 3 = true ∧ (t.pst k.val).trip = true)) ∧
  (∀ (k : StrIx) (e : Nat) (s : State), s.prot.loaded = true → s.installed k.val = true →
      e = (s.pst k.val).i2t + (s.pp k.val).last.sq - (s.portCfg k.val).rating ^ 2 * 1000 →
    ∃ t, exec (.sf05Check k) s = .next t ∧
      (10 * e < 8 * s.i2tK k.val → e < s.i2tK k.val → (t.pst k.val).i2t = e) ∧
      (8 * s.i2tK k.val ≤ 10 * e → has (t.pst k.val).warn 4 = true) ∧
      (s.i2tK k.val ≤ e → has (t.pst k.val).tripStage 4 = true)) ∧
  (∀ (q : PortIx) (s : State), s.sf06Counts (strOfPort q.val) = true → s.fitted q.val = true →
      5 ≤ (tget s.prot.port q.val).missRun →
    ∃ t, exec (.sf06Warning q) s = .next t ∧ has (t.pst (strOfPort q.val)).warn 5 = true) ∧
  (∀ (q : PortIx) (s : State), s.sf06Counts (strOfPort q.val) = true → s.fitted q.val = true →
      100 ≤ (tget s.prot.port q.val).missRun →
    ∃ t, exec (.sf06Trip q) s = .next t ∧ has (t.pst (strOfPort q.val)).tripStage 5 = true) ∧
  (∀ (k : StrIx) (s : State), s.portsValid k.val = true →
    ∃ t, exec (.sf06Release k) s = .next t ∧ has (t.pst k.val).warn 5 = false ∧
      has (t.pst k.val).tripStage 5 = false) ∧
  (∀ (p : Pulse) (k : StrIx) (f : Nat) (s : State), (s.pst k.val).auxWrong = some f → f + 200 ≤ s.now →
      s.auxBad k.val = true →
    ∃ t, exec (.sf09AuxTimeout p k) s = .next t ∧ has (t.pst k.val).tripStage 8 = true) ∧
  (∀ (p : Pulse) (k : StrIx) (n : Fin 12) (s : State), n.val ≠ 5 → n.val ≠ 6 → s.released k.val (n.val + 1) = true →
      (n.val = 9 → s.sf10Paused = false) →
    ∃ t, exec (.protWarningRelease p k n) s = .next t ∧ has (t.pst k.val).warn n.val = false) ∧
  (∀ (p : Pulse) (k : StrIx) (s : State), s.inhPulses ≤ (s.pst k.val).inhChgRun →
    ∃ t, exec (.inhibitEnforce p k) s = .next t ∧
      ∀ n ∈ s.holding k.val 2, has (t.pst k.val).tripStage (n - 1) = true) ∧
  (∀ (p : Pulse) (k : StrIx) (s : State), (s.pst k.val).modelFrame + 2000 < s.now →
    ∃ t, exec (.modelInputStale p k) s = .next t ∧ t.pst k.val = { s.pst k.val with modelStale := true } ∧
      ∀ j, j ≠ k.val → t.pst j = s.pst j) ∧
  (∀ (p : Pulse) (i : Fin 4) (l c : Bool) (s : State),
    ∃ t, exec (.ilkInputChange p i l c) s = .next t ∧ (tget t.prot.ilk i.val).loop = l ∧
      (tget t.prot.ilk i.val).contact = c ∧
      (l = true → c = true → (tget t.prot.ilk i.val).faulted = false ∧ (tget t.prot.ilk i.val).from_ = none) ∧
      ((l = false ∨ c = false) → (tget s.prot.ilk i.val).from_ = none → (tget t.prot.ilk i.val).from_ = some s.now) ∧
      ∀ j, j ≠ i.val → tget t.prot.ilk j = tget s.prot.ilk j) ∧
  (∀ (p : Pulse) (i : Fin 4) (f : Nat) (s : State), (tget s.prot.ilk i.val).from_ = some f →
      (tget s.prot.ilk i.val).bad = true → (tget s.prot.ilk i.val).faulted = false → s.ilkOn i.val = true →
      f + s.ilkDebounce ≤ s.now →
    ∃ t, exec (.ilkFault p i) s = .next t ∧ (tget t.prot.ilk i.val).faulted = true ∧
      (s.prot.loaded = false → ∀ k, k < 16 → (t.pst k).trip = true ∧ (t.pst k).preLoadTrip = true) ∧
      (s.prot.loaded = true → ∀ k ∈ s.strings, has (t.pst k).tripStage (if i.val = 3 then 7 else 10) = true)) ∧
  (∀ (id : Word) (e : LedgerEntry) (s : State), Due s id 0x0B01 e → e.body.length = 4 →
    ∃ t, exec (.protAlarmAck id) s = .next t ∧ t.cmdStands id .done .ok ∧
      (∀ k b, k < 16 → b < 16 → s.installed k = true → (rdU e.body 2 2).testBit k = true →
        (rdU e.body 0 2).testBit b = true → has (t.pst k).unack b = false))

/-- SF-12, its diagnostics and the freeze. The diagnostics that run every frame and diagnostic 9's entry are the
model's choice (log 182) (R323, R324, R325, R327). -/
def Obligations.DiagnosticCommandsComplete : Prop :=
  (∀ (p : Pulse) (d : Fin 17) (w : Word) (s : State), sf12Diag (d.val + 1) = true →
    ∃ t, exec (.sf12Fault p d w) s = .next t ∧ FailedSafe s t (d.val + 1)) ∧
  (∀ (p : Pulse) (w : Word) (s : State),
    ∃ t, exec (.sf12Fault p 8 w) s = .next t ∧ t.prot.diag.getLsbD 8 = true ∧ t.prot.diagLast = some s.now ∧
      t.jnl.lastReadback = some s.now ∧ t.mode = s.mode ∧
      (s.prot.verifyFail = some s.jnl.safety.next → t.prot.islandDegraded = true ∧ t.prot.verifyFail = none ∧
        ∀ k ∈ s.strings, has (t.pst k).alarm 11 = true) ∧
      (s.prot.verifyFail ≠ some s.jnl.safety.next → t.prot.verifyFail = some t.jnl.safety.next)) ∧
  (∀ (p : Pulse) (d : ClockDomain) (s : State),
    ∃ t, exec (.clockMonitorFault p d) s = .next t ∧ t.prot.clocks.getLsbD d.code = true ∧
      (d ∈ [ClockDomain.markhor, .time, .pwr] → FailedSafe s t 3) ∧
      (d ∈ [ClockDomain.core, .eland, .fabric, .dram] → Froze s t 3) ∧
      (d ∉ [ClockDomain.markhor, .time, .pwr, .core, .eland, .fabric, .dram] →
        t.prot.diag.getLsbD 2 = true ∧ t.mode = s.mode)) ∧
  (∀ (p : Pulse) (s : State),
    ∃ t, exec (.frameStrobeFault p none) s = .next t ∧ t.prot.ownCount = true ∧ FailedSafe s t 10) ∧
  (∀ (p : Pulse) (n : Nat) (s : State), 999500 ≤ n → n ≤ 1000500 →
    ∃ t, exec (.frameStrobeFault p (some n)) s = .next t ∧ t.prot.strobeBad = 0 ∧ t.mode = s.mode) ∧
  (∀ (p : Pulse) (s : State),
    ∃ t, exec (.safeOutReadback p s.prot.safeA s.prot.safeB) s = .next t ∧ t.prot.readbackA = 0 ∧
      t.prot.readbackB = 0 ∧ t.prot.diag.getLsbD 7 = false ∧ t.mode = s.mode) ∧
  (∀ (p : Pulse) (s : State), s.prot.readbackA = 2 →
    ∃ t, exec (.safeOutReadback p (!s.prot.safeA) s.prot.safeB) s = .next t ∧ FailedSafe s t 8) ∧
  (∀ (p : Pulse) (v : Verdict) (s : State),
    ∃ t, exec (.limitCheckerSelftest p v) s = .next t ∧ (v = .fail → FailedSafe s t 11) ∧
      (v ≠ .fail → t.prot.diag.getLsbD 10 = false ∧ t.mode = s.mode)) ∧
  (∀ (p : Pulse) (s : State), s.prot.tokenMiss + 1 < 10 →
    ∃ t, exec (.frameTokenMissing p) s = .next t ∧ t.prot = { s.prot with tokenMiss := s.prot.tokenMiss + 1 } ∧
      t.mode = s.mode) ∧
  (∀ (p : Pulse) (s : State), 9 ≤ s.prot.tokenMiss →
    ∃ t, exec (.frameTokenMissing p) s = .next t ∧ Froze s t 12 ∧ t.prot.tokenMiss = 0) ∧
  (∀ (p : Pulse) (v : Verdict) (s : State),
    ∃ t, exec (.imageCrcCheck p v) s = .next t ∧ (v = .fail → FailedSafe s t 13) ∧
      (v ≠ .fail → t.prot.diag.getLsbD 12 = false ∧ t.mode = s.mode)) ∧
  (∀ (p : Pulse) (d : Fin 17) (s : State), s.mode.mode ≠ .fill → d.val + 1 ∈ [2, 3, 12] →
    ∃ t, exec (.freezeTrigger p d) s = .next t ∧ Froze s t (d.val + 1)) ∧
  (∀ (p : Pulse) (s : State), s.prot.frozen = true →
      s.prot.freezeAt + 1000 * s.prot.cfg.freezeMax ≤ s.now →
    ∃ t, exec (.freezeMaxExpiry p) s = .next t ∧ FailedSafe s t 17)

/-! ### Frame, time and modes (chapters 2, 3) -/

/-- The rows that every frame and every second runs. The link clock that runs without power is the model's own
(log 166) (R32, R34, R66, R428, R551). -/
def Obligations.FrameRowsComplete : Prop :=
  (∀ s : State, s.psv.powered = true →
    ∃ t, exec .frameStrobe s = .next t ∧ t.time.frame = s.time.frame + 1 ∧ t.time.pulse = 0 ∧
      t.time.uptime = s.time.uptime + 1 ∧ t.time.overrunNow = 0 ∧ t.time.markhorFrame = s.time.markhorFrame + 1 ∧
      t.time.ticks = s.time.ticks + 1) ∧
  (∀ s : State, s.psv.powered = false →
    ∃ t, exec .frameStrobe s = .next t ∧ t.time = { s.time with ticks := s.time.ticks + 1 } ∧ t.mode = s.mode ∧
      t.prot = s.prot ∧ t.power = s.power) ∧
  (∀ s : State, s.psv.powered = true → s.now % 1000 = 0 →
    ∃ t, exec .secondBoundary s = .next t ∧ t.time.ppsOut = s.time.ppsOut + 1 ∧ t.acc.failsSec = 0 ∧
      t.mem.table.secWord = 0 ∧ t.mem.dram.secPage = 0 ∧ t.bus.overSec = []) ∧
  (∀ (x : Sensors) (more : Nat) (s : State), s.psv.powered = true →
    ∃ t, exec (.frameClosure x more) s = .next t ∧ t.psv.vin = x.vin ∧ t.psv.iin = x.iin ∧ t.psv.huE = x.huE ∧
      t.psv.pin = divRound (x.vin * x.iin) 1000000 ∧ t.psv.charging = x.charging ∧
      (s.runtimeRuns = true → t.prot.tokenMiss = 0)) ∧
  (∀ s : State, s.mode.mode = .survey → s.mode.surveyWait = false → s.surveyMayEnd = true →
      s.pair.state ≠ some .joining →
    ∃ t, exec .surveyEnd s = .next t ∧ t.mode.surveyWait = false ∧ t.mode.target = none ∧ t.prot.frozen = false ∧
      (s.jnl.safeLatch = 0 → t.prot.safeA = false ∧ t.prot.safeB = false) ∧
      (s.pair.state ≠ some .standby → t.mode.mode = .idle ∨ t.mode.mode = .serve) ∧
      (∀ m, s.pair.state = some .standby → s.pair.peerMode = some m → t.mode.mode = m)) ∧
  (∀ s : State, s.mode.mode = .survey → s.mode.surveyWait = false → s.surveyMayEnd = true →
      s.pair.state = some .joining →
    ∃ t, exec .surveyEnd s = .next t ∧ t.mode.mode = .survey ∧ t.mode.surveyWait = true) ∧
  (∀ s : State, ∃ t, exec .windowHandoverSlot s = .next t ∧ t.site.winReqs = [] ∧
      t.site.session = s.site.session ∧ (∀ id, t.entry id = s.entry id) ∧
      (s.site.sstate = .opened → ∀ n, n < 12288 → (tget t.site.pages n).complete = true →
        (tget t.site.pages n).owner ≠ .module))

/-- PTP, PPS, the 10 MHz reference and the time of day. That the edge's second is read from the local time where
no TIME_SET_TOD named it is the model's reading (DEDUCED, log 205) (R40, R41, R42, R44, R45, R46). -/
def Obligations.TimeSourceCommandsComplete : Prop :=
  (∀ (p : Pulse) (i : Fin 2) (m : PtpSync) (s : State), s.ptpMine i.val m.domain m.transport = true →
      s.time.state ≠ .following → s.time.source = ptpSource i.val →
    ∃ t, exec (.ptpSync p i m) s = .next t ∧ t.time.offset = m.offset s.time.cfg.profile ∧ t.time.freqCorr = m.freq ∧
      t.time.slewing = decide (m.offset s.time.cfg.profile ≠ 0) ∧ t.time.source = s.time.source) ∧
  (∀ (p : Pulse) (i : Fin 2) (m : PtpSync) (s : State), s.ptpMine i.val m.domain m.transport = true →
      s.time.state = .following → s.bestPort = some i.val →
    ∃ t, exec (.ptpSync p i m) s = .next t ∧ t.time.offset = m.offset s.time.cfg.profile ∧
      t.time.freqCorr = s.time.freqCorr ∧ t.time.slewing = s.time.slewing ∧ t.time.state = .following) ∧
  (∀ (p : Pulse) (i : Fin 2) (m : PtpSync) (s : State), s.ptpMine i.val m.domain m.transport = false →
    exec (.ptpSync p i m) s = .next (s.atP p.val)) ∧
  (∀ (p : Pulse) (i : Fin 2) (x : PtpTransport) (a : Announce) (s : State),
      s.ptpMine i.val s.time.cfg.domain x = true →
    ∃ t, exec (.ptpAnnounce p i s.time.cfg.domain x a) s = .next t ∧
      (i.val = 0 → t.time.ann0 = { a with present := true } ∧ t.time.ann1 = s.time.ann1) ∧
      (i.val = 1 → t.time.ann1 = { a with present := true } ∧ t.time.ann0 = s.time.ann0)) ∧
  (∀ (p : Pulse) (i : Fin 2) (s : State),
    ∃ t, exec (.ptpAnnounceTimeout p i) s = .next t ∧
      (i.val = 0 → t.time.ann0 = {} ∧ t.time.ann1 = s.time.ann1) ∧
      (i.val = 1 → t.time.ann1 = {} ∧ t.time.ann0 = s.time.ann0)) ∧
  (∀ (p : Pulse) (i : Fin 2) (s : State), s.ptpOn i.val = true → s.time.cfg.profile = 0 →
    ∃ t, exec (.ptpPdelayReq p i) s = .next t ∧ t.time.pdelayAnswered = s.time.pdelayAnswered + 1) ∧
  (∀ (p : Pulse) (b : Fin 1000) (late x f : Int) (s : State), s.time.cfg.ppsEn = true →
      (s.time.ppsPresent = false ∨ late.natAbs ≤ 10000) →
    ∃ t, exec (.ppsEdge p b s.time.cfg.ppsFalling late x f) s = .next t ∧ t.time.ppsPresent = true ∧
      t.time.ppsMissed = 0 ∧ t.time.todNext = none ∧
      t.time.ppsAt = (s.ppsSecond ((s.atP p.val).ppsLocal b.val)).map (fun n => (n, s.time.ticks)) ∧
      t.time.todKnown = t.time.ppsAt.isSome) ∧
  (∀ (p : Pulse) (b : Fin 1000) (late x f : Int) (s : State), s.time.cfg.ppsEn = true → s.time.ppsPresent = true →
      10000 < late.natAbs →
    ∃ t, exec (.ppsEdge p b s.time.cfg.ppsFalling late x f) s = .next t ∧
      t.time = { s.time with pulse := p.val, ppsMissed := s.time.ppsMissed + 1 }) ∧
  (∀ (p : Pulse) (s : State),
    ∃ t, exec (.ppsMissing p) s = .next t ∧ t.time.ppsPresent = false ∧ t.time.todKnown = false) ∧
  (∀ (p : Pulse) (g : Bool) (f : Int) (s : State), s.time.state ≠ .following →
    ∃ t, exec (.ref10InChange p g f) s = .next t ∧ t.time.ref10Ok = g ∧ t.time.source = s.time.source ∧
      (s.time.source = .none → s.time.cfg.ref10En = true → g = true →
        t.time.freqSource = .ref10 ∧ t.time.freqCorr = f)) ∧
  (∀ (id : Word) (e : LedgerEntry) (s : State), Due s id 0x0201 e → e.body.length = 8 →
    ∃ t, exec (.timeSetTod id) s = .next t ∧ t.time.todNext = some (rdU e.body 0 8) ∧ t.cmdStands id .done .ok)

/-- Lock, excursion, alignment, warm oscillator and step. The step of a module without an active, and the offset
kept at a step given up, are the model's (log 17) (R47, R48, R49, R52, R54). -/
def Obligations.TimebaseCommandsComplete : Prop :=
  (∀ (p : Pulse) (s : State), s.time.state = .acquiring → s.time.offset.natAbs ≤ 250 →
    ∃ t, exec (.timeLocked p) s = .next t ∧ t.time.state = .locked ∧ t.time.everLocked = true ∧
      t.time.unsynced = false ∧ t.time.lockedFrom = s.now ∧ t.time.errorBound = 1000 ∧
      t.time.aligned = decide (1000 ≤ s.time.cfg.alignLimit) ∧ t.time.offset = s.time.offset ∧
      t.time.frame = s.time.frame ∧ t.time.source = s.time.source) ∧
  (∀ (p : Pulse) (s : State), s.time.state = .locked → 1000 < s.time.offset.natAbs →
    ∃ t, exec (.timeOffsetExcursion p) s = .next t ∧ t.time.state = .acquiring ∧ t.time.offset = s.time.offset ∧
      t.time.source = s.time.source ∧ t.time.frame = s.time.frame ∧
      t.time.errorBound = (if s.time.unsynced then 0xFFFFFFFF else sat32u (s.time.offset.natAbs + 1000))) ∧
  (∀ (p : Pulse) (s : State), s.time.unsynced = false → s.time.state = .acquiring →
      s.time.cfg.alignLimit < sat32u (s.time.offset.natAbs + 1000) →
    ∃ t, exec (.timeAlignLost p) s = .next t ∧ t.time.aligned = false ∧
      t.time.errorBound = sat32u (s.time.offset.natAbs + 1000) ∧ t.time.state = .acquiring ∧
      t.time.offset = s.time.offset ∧ t.time.frame = s.time.frame) ∧
  (∀ (p : Pulse) (s : State), s.time.unsynced = false → s.time.state = .holdover → s.time.holdoverGood = true →
      (s.time.oscTemp - s.time.ambientAtLoss).natAbs ≤ 1000 →
      s.time.cfg.alignLimit < sat32u (holdoverBound (s.now - s.time.holdoverFrom)) →
    ∃ t, exec (.timeAlignLost p) s = .next t ∧ t.time.aligned = false ∧
      t.time.errorBound = sat32u (holdoverBound (s.now - s.time.holdoverFrom)) ∧ t.time.state = .holdover ∧
      t.time.frame = s.time.frame) ∧
  (∀ (p : Pulse) (s : State), 900000 ≤ s.time.sincePower →
    ∃ t, exec (.timeOscWarm p) s = .next t ∧ t.time = { s.time with pulse := p.val, oscWarm := true }) ∧
  (∀ (n : Nat) (s : State), s.time.stepAt = some (s.now + 1, n) → s.mode.mode ∈ [Mode.idle, .maintain, .rest] →
    ∃ t, exec .timeStep s = .next t ∧ t.time.frame = n - 1 ∧ t.time.stepAt = none ∧ t.time.stepPending = false ∧
      t.time.offset = s.time.offset + 1000000 * ((n : Int) - (s.now + 1)) ∧
      (n < s.now + 1 → t.site.sstate = .none)) ∧
  (∀ (n : Nat) (s : State), s.time.stepAt = some (s.now + 1, n) → s.mode.mode ∉ [Mode.idle, .maintain, .rest] →
    ∃ t, exec .timeStep s = .next t ∧ t.time.frame = s.time.frame ∧ t.time.stepAt = none ∧
      t.time.offset = s.time.offset ∧ t.time.stepPending = decide (s.pair.state = some .active)) ∧
  (∀ (s : State), s.time.stepAt = none → s.mode.mode ∈ [Mode.idle, .maintain, .rest] →
      1000000 < s.time.offset.natAbs → s.time.source ≠ .none → s.time.state ≠ .following →
      s.pair.state ≠ some .active →
    ∃ t, exec .timeStep s = .next t ∧ t.time.frame = s.stepNumber - 1 ∧ t.time.stepPending = false)

/-- Requests of the mode, Safe and its reset, restarts. That the restart of MODE_SAFE_RESET and of
ACC_DEBUG_UNLOCK comes at pulse 999 is the model's choice (logs 177, 32) (R70, R71, R72, R73, R74, R75, R76,
R86, R576). -/
def Obligations.ModeCommandsComplete : Prop :=
  (∀ (id : Word) (e : LedgerEntry) (s : State), Due s id 0x0301 e → e.body.length = 4 → rdU e.body 0 1 = 3 →
      rdU e.body 1 3 = 0 → s.mode.target = none →
    ∃ t, exec (.modeRequestIdle id) s = .next t ∧
      (s.mode.mode = .maintain → t.mode.mode = .idle ∧ t.mode.target = none ∧ t.cmdStands id .done .ok) ∧
      (s.mode.mode = .rest → t.mode.mode = .rest ∧ t.mode.target = some .idle ∧ t.mode.targetCmd = id ∧
        t.mode.leavingRest = true ∧ t.cmdStands id .started .ok) ∧
      (s.mode.mode = .serve → t.mode.mode = .idle ∨
        (t.mode.mode = .serve ∧ t.mode.target = some .idle ∧ t.mode.targetCmd = id))) ∧
  (∀ (id : Word) (e : LedgerEntry) (s : State), Due s id 0x0301 e → e.body.length = 4 → rdU e.body 0 1 = 4 →
      rdU e.body 1 3 = 0 → s.mode.target = none → s.serveReady = true →
      s.strings.any (fun k => decide ((s.str k).state = .opened)) = true →
    ∃ t, exec (.modeRequestServe id) s = .next t ∧ t.mode.mode = .serve ∧ t.mode.entryFrame = s.now ∧
      t.cmdStands id .done .ok) ∧
  (∀ (id : Word) (e : LedgerEntry) (s : State), Due s id 0x0301 e → e.body.length = 4 → rdU e.body 0 1 = 5 →
      rdU e.body 1 3 = 0 → s.mode.target = none →
    ∃ t, exec (.modeRequestRest id) s = .next t ∧ t.mode.mode = .rest ∧ t.mode.entryFrame = s.now ∧
      t.cmdStands id .done .ok) ∧
  (∀ (id : Word) (e : LedgerEntry) (s : State), Due s id 0x0301 e → e.body.length = 4 → rdU e.body 0 1 = 6 →
      rdU e.body 1 3 = 0 → s.mode.target = none → s.inPair = false →
    ∃ t, exec (.modeRequestMaintain id) s = .next t ∧ t.mode.mode = .maintain ∧ t.mode.entryFrame = s.now ∧
      t.cmdStands id .done .ok) ∧
  (∀ (id : Word) (e : LedgerEntry) (s : State), Due s id 0x0302 e → e.body = [] →
      (∀ j, s.upd.cfe = some j → j.cmd ≠ id) →
    ∃ t, exec (.modeSafeRequest id) s = .next t ∧ t.mode.mode = .safe ∧ t.prot.safeA = true ∧ t.prot.safeB = true ∧
      t.jnl.safeLatch = (if s.jnl.safeLatch = 0 then 0x05 else s.jnl.safeLatch) ∧ t.cmdStands id .done .ok) ∧
  (∀ (id : Word) (e : LedgerEntry) (s : State), Due s id 0x0303 e → e.body = [] →
      roleAtLeast e.role (safeRole s.mode.safeCause) = true → s.safeCleared = true →
    ∃ t, exec (.modeSafeReset id) s = .next t ∧ t.jnl.safeLatch = 0 ∧ t.mode.restart = some 0x05 ∧
      t.mode.mode = .safe ∧ t.cmdStands id .done .ok) ∧
  (∀ (id : Word) (e : LedgerEntry) (s : State), Due s id 0x0304 e → e.body = [] →
    ∃ t, exec (.modeRestart id) s = .next t ∧ t.cmdStands id .done .ok ∧
      t.mode.restart = (if s.pair.state = some .active then s.mode.restart else some 0x08) ∧
      t.mode.mode = s.mode.mode) ∧
  (∀ (c : Byte) (s : State), s.mode.restart = some c →
    ∃ t, exec .restartAtPulse999 s = .next t ∧ t.mode.mode = .fill ∧ t.mode.restart = none ∧ t.sys.resetCause = c ∧
      t.jnl.safeLatch = s.jnl.safeLatch ∧ t.site.ledger = s.site.ledger ∧ t.site.sstate = .none) ∧
  (∀ (p : Pulse) (s : State), s.mode.mode = .serve → s.mode.target = none → s.psv.loss = none →
      s.mode.holdupIgnore ≤ s.now → s.inPair = false → 10000 ≤ s.mode.holdupLow →
    ∃ t, exec (.holdupLowTimeout p) s = .next t ∧ t.mode.mode = .serve ∧ t.mode.target = some .idle ∧
      t.mode.targetHoldup = true ∧ t.mode.targetCmd = 0) ∧
  (∀ (id : Word) (e : LedgerEntry) (s : State), Due s id 0x1502 e → e.body = [] →
      (∀ j, s.upd.cfe = some j → j.cmd ≠ id) →
    ∃ t, exec (.accDebugUnlock id) s = .next t ∧ t.mode.mode = .safe ∧ t.mode.restart = some 0x07 ∧
      t.acc.debugDue = true ∧ t.prot.safeA = true ∧ t.prot.safeB = true ∧
      t.jnl.safeLatch = (if s.jnl.safeLatch = 0 then 0x06 else s.jnl.safeLatch) ∧ t.cmdStands id .done .ok)

/-- Enable, service, readmission, reset and survey of strings (R71, R77, R78, R79, R311). -/
def Obligations.StringCommandsComplete : Prop :=
  (∀ (k : StrIx) (w : OpenWhy) (d : Nat) (s : State), (s.str k.val).opening = some (w, d) → d ≤ s.now →
      ((s.str k.val).state = .closed ∨ (s.str k.val).state = .held) → s.voided k.val 8 = false →
    ∃ t, exec (.openWaitExpiry k) s = .next t ∧ (t.str k.val).state = .opened ∧ (t.str k.val).opening = none ∧
      (t.str k.val).dwellFrom = some s.now) ∧
  (∀ (id : Word) (e : LedgerEntry) (s : State), Due s id 0x0305 e → e.body.length = 4 → rdU e.body 2 1 = 1 →
      rdU e.body 3 1 = 0 → namedIn e.mask ≠ [] →
      (∀ k ∈ namedIn e.mask, s.installed k = true ∧ (s.str k).state ≠ .service) →
    ∃ t, exec (.modeStringEnableOn id) s = .next t ∧
      (∀ k, has t.mode.enabled k = (has e.mask k || has s.mode.enabled k)) ∧
      (∀ k ∈ namedIn e.mask, (t.str k).retry = 0 ∧ (t.str k).state = (s.str k).state) ∧
      (∀ k, k ∉ namedIn e.mask → t.str k = s.str k) ∧ t.cmdStands id .done .ok) ∧
  (∀ (id : Word) (e : LedgerEntry) (s : State), Due s id 0x0305 e → e.body.length = 4 → rdU e.body 2 1 = 0 →
      rdU e.body 3 1 = 0 → namedIn e.mask ≠ [] →
      (∀ k ∈ namedIn e.mask, s.installed k = true ∧ (s.str k).state ≠ .service) →
    ∃ t, exec (.modeStringEnableOff id) s = .next t ∧
      (∀ k, has t.mode.enabled k = (has s.mode.enabled k && !has e.mask k)) ∧
      (∀ k ∈ namedIn e.mask, ((s.str k).state = .closed ∨ (s.str k).state = .held) → s.justTaken k = false →
        (t.str k).opening ≠ none) ∧
      t.cmdStands id .done .ok) ∧
  (∀ (id : Word) (e : LedgerEntry) (s : State), Due s id 0x0306 e → e.body.length = 4 → rdU e.body 2 2 = 0 →
      namedIn e.mask ≠ [] →
      (∀ k ∈ namedIn e.mask, s.installed k = true ∧ (s.str k).state ∈ [SState.opened, .unsurveyed, .isolated]) →
    ∃ t, exec (.modeStringService id) s = .next t ∧
      (∀ k ∈ namedIn e.mask, (t.str k).state = .service ∧ (t.str k).cause = 0x0C) ∧
      (∀ k, k ∉ namedIn e.mask → t.str k = s.str k) ∧ t.cmdStands id .done .ok) ∧
  (∀ (id : Word) (e : LedgerEntry) (s : State), Due s id 0x0307 e → e.body.length = 4 → rdU e.body 2 2 = 0 →
      namedIn e.mask ≠ [] →
      (∀ k ∈ namedIn e.mask, s.installed k = true ∧ (s.str k).state ∈ [SState.service, .unsurveyed] ∧
        s.latchJudge e k = none) →
    ∃ t, exec (.modeStringReadmit id) s = .next t ∧
      (∀ k ∈ namedIn e.mask, ((t.str k).survey.map (fun v => (v.from_, v.cmd)) = some (s.now, id)) ∧
        (t.pst k).latched = 0 ∧ (t.pst k).trip = false) ∧
      (∃ c ∈ t.mode.surveyCmds, c.cmd = id ∧ c.renew = true) ∧ t.cmdStands id .started .ok) ∧
  (∀ (id : Word) (e : LedgerEntry) (s : State), Due s id 0x0308 e → e.body.length = 4 → rdU e.body 2 2 = 0 →
      namedIn e.mask ≠ [] →
      (∀ k ∈ namedIn e.mask, s.installed k = true ∧ (s.str k).state = .isolated ∧ s.latchJudge e k = none) →
    ∃ t, exec (.modeStringReset id) s = .next t ∧
      (∀ k ∈ namedIn e.mask, ((t.str k).survey.map (fun v => (v.from_, v.cmd)) = some (s.now, id)) ∧
        (t.pst k).latched = 0 ∧ (t.pst k).trip = false) ∧
      (∃ c ∈ t.mode.surveyCmds, c.cmd = id ∧ c.renew = false) ∧ t.cmdStands id .started .ok) ∧
  (∀ (p : Pulse) (k : StrIx) (v : SurveySt) (s : State), (s.str k.val).survey = some v → s.mode.mode ≠ .survey →
      v.from_ + 6000 ≤ s.now → (s.pst k.val).latched = 0 → s.auxClosed k.val = false →
      (s.surveyResult k.val v true).1 ≠ .opened →
    ∃ t, exec (.stringSurveyEnd p k) s = .next t ∧ (t.str k.val).survey = none ∧
      (t.str k.val).state = (s.surveyResult k.val v true).1 ∧
      (t.str k.val).cause = (s.surveyResult k.val v true).2) ∧
  (∀ (p : Pulse) (k : StrIx) (v : SurveySt) (s : State), (s.str k.val).survey = some v → s.mode.mode ≠ .survey →
      s.surveyDone k.val v true = true → (s.pst k.val).latched = 0 →
      (s.surveyResult k.val v true).1 = .opened →
        s.mode.surveyCmds.any (fun c => decide (c.cmd = v.cmd) && c.renew) = false →
      has (s.pst k.val).warn 6 = false →
    ∃ t, exec (.stringSurveyEnd p k) s = .next t ∧ (t.str k.val).survey = none ∧ (t.str k.val).state = .opened)

/-! ### The pair (chapter 13) -/

/-- The states of the pair (R56, R57, R378, R381, R391, R395, R397). -/
def Obligations.PairStateCommandsComplete : Prop :=
  (∀ (n : Fin 10) (s : State), s.pair.state ≠ none → s.pair.lane0 = true →
    ∃ t, exec (.pairHeartbeatSend n) s = .next t ∧ t.pair.nHeartbeat = sat32u (s.pair.nHeartbeat + 1) ∧
      t.pair.sent = .heartbeat s.pair.state s.pair.chgOut s.psv.loss.isSome
        (decide (s.pair.state = some .joining) && !s.pair.joining) s.mode.mode.code s.now
        (s.atP (100 * n.val)).nowNs :: s.pair.sent) ∧
  (∀ (p : Pulse) (h : PairHb) (s : State), s.pair.state = some .listen → s.psv.loss = none →
    ∃ t, exec (.pairHeartbeatRx p h) s = .next t ∧ t.pair.hbValid = true ∧ t.pair.peerState = h.state ∧
      t.pair.peerActive = h.active ∧ t.pair.state = some (if h.active then .joining else .listen)) ∧
  (∀ (p : Pulse) (s : State), s.pair.state = some .listen →
    ∃ t, exec (.chgInChange p true) s = .next t ∧ t.pair.chgIn = true ∧ t.pair.lineFault = false ∧
      t.pair.state = some .joining) ∧
  (∀ (p : Pulse) (s : State), s.sys.slot = .b →
    ∃ t, exec (.chgInChange p false) s = .next t ∧ t.pair = { s.pair with chgIn := false }) ∧
  (∀ (p : Pulse) (lane : Fin 2) (up : Bool) (s : State),
    ∃ t, exec (.pairLaneChange p lane up) s = .next t ∧
      t.pair = (if lane.val = 0 then { s.pair with lane0 := up } else { s.pair with lane1 := up })) ∧
  (∀ (p : Pulse) (s : State), s.pair.state = some .active → s.psv.loss = none →
    ∃ t, exec (.pairPeerLost p) s = .next t ∧ t.pair.state = some .lone ∧ t.pair.hbValid = false ∧
      t.pair.nLost = (if s.pair.hbValid then sat32u (s.pair.nLost + 1) else s.pair.nLost)) ∧
  (∀ (p : Pulse) (s : State), s.pair.state = some .standby → s.pair.chgIn = true → s.psv.loss = none →
    ∃ t, exec (.pairPeerLost p) s = .next t ∧ t.pair.state = some .joining ∧ t.pair.hbValid = false) ∧
  (∀ (p : Pulse) (s : State), s.pair.state = some .listen →
      s.pair.since + (if s.sys.slot = .a then 500 else 2000) ≤ s.now → s.pair.chgIn = false →
      s.pair.peerActive = false →
    ∃ t, exec (.pairListenTimeout p) s = .next t ∧ t.pair.state = some .lone ∧ t.pair.chgOut = !s.psv.dropped) ∧
  (∀ (p : Pulse) (s : State), s.pair.state = some .standby → s.mode.mode ≠ .safe → s.pair.chgIn = false →
      s.psv.loss = none →
    ∃ t, exec (.pairTakeover p true) s = .next t ∧ t.pair.state = some .lone ∧
      t.pair.nTakeover = sat32u (s.pair.nTakeover + 1) ∧ t.time.state ≠ .following) ∧
  (∀ (p : Pulse) (s : State), s.pair.state = some .joining → s.pair.joining = true →
      s.pair.epoch + 1000 * s.pair.cfg.joinMax ≤ s.now → s.pair.cfg.joinLimit ≤ 1 →
    ∃ t, exec (.pairJoinTimeout p) s = .next t ∧ t.pair.state = some .detached ∧ t.pair.joining = false) ∧
  (∀ (p : Pulse) (s : State), s.pair.state = some .joining → s.pair.joining = true →
      s.pair.epoch + 1000 * s.pair.cfg.joinMax ≤ s.now → s.pair.fails.length + 1 < s.pair.cfg.joinLimit →
    ∃ t, exec (.pairJoinTimeout p) s = .next t ∧ t.pair.state = some .joining ∧ t.pair.joining = false ∧
      s.now ∈ t.pair.fails) ∧
  (∀ (p : Pulse) (s : State), s.pair.state = some .detached → s.mode.mode ≠ .safe → s.mode.mode ≠ .maintain →
      s.pair.since + 1000 * s.pair.cfg.detachWait ≤ s.now →
    ∃ t, exec (.pairDetachWaitEnd p) s = .next t ∧ t.pair.state = some .joining ∧ t.pair.since = s.now) ∧
  (∀ (p : Pulse) (boundary number : Nat) (s : State),
      (s.pair.state = some .standby ∨ (s.pair.state = some .joining ∧ s.pair.joining = true)) →
    ∃ t, exec (.pairStepRx p boundary number) s = .next t ∧ t.time.stepAt = some (boundary, number)) ∧
  (∀ (p : Pulse) (e : EpochIn) (s : State), s.pair.state = some .joining → e.sameTopology = true →
    ∃ t, exec (.pairTimeSetRx p e) s = .next t ∧ t.time.frame = e.frame ∧ t.pair.joining = true ∧
      t.pair.epoch = e.epoch ∧ t.pair.pages = 708 ∧ t.pair.state = some .joining ∧
      ∀ k v, k < 16 → e.pseqs[k]? = some v → (t.pp k).pseq = v % 256)

/-- The copy of the state and the assignment of inputs. The content of a copied page is the model's own form
(log 194) (R384, R385, R393, R394). -/
def Obligations.PairCopyCommandsComplete : Prop :=
  (∀ (p : Pulse) (page : Fin 708) (s : State), s.pair.state = some .joining → s.pair.joining = true →
      page.val ∉ s.pair.pagesRx →
    ∃ t, exec (.copyPageRx p page s.pair.epoch true) s = .next t ∧ t.pair.pagesRx = page.val :: s.pair.pagesRx ∧
      (t.pair.copyDone = true ↔ s.pair.copyDone = true ∨ s.pair.pagesRx.length = 707)) ∧
  (∀ (p : Pulse) (pages : List Nat) (s : State), s.pair.copying = true →
    ∃ t, exec (.copyAckRx p pages) s = .next t ∧
      t.pair.sentPages = s.pair.sentPages.filter (fun e => !pages.contains e.1) ∧
      t.pair.acked = s.pair.acked + (s.pair.sentPages.length - t.pair.sentPages.length)) ∧
  (∀ (p : Pulse) (page : Fin 708) (f : Nat) (s : State), s.pair.copying = true → s.pair.lane0 = true →
      (page.val, f) ∈ s.pair.sentPages → f + 2 ≤ s.now →
    ∃ t, exec (.copyPageResend p page) s = .next t ∧ t.pair.sent = .copyPage page.val :: s.pair.sent ∧
      (page.val, s.now) ∈ t.pair.sentPages) ∧
  (∀ (p : Pulse) (f : Nat) (loops : List LoopSt) (sums : List Sums) (s : State), s.pair.state = some .joining →
    ∃ t, exec (.loopLiveRx p f loops sums) s = .next t ∧ t.pair = { s.pair with live := some (f, loops, sums) }) ∧
  (∀ (c : CopyIn) (s : State), s.pair.state = some .joining → s.pair.copyDone = true → s.pair.caughtUp = false →
      c.readable = true →
    ∃ t, exec (.replayCaughtUp c) s = .next t ∧ t.pair.caughtUp = true ∧ t.pair.matched = 0 ∧ t.cells = c.cells ∧
      t.th = c.th ∧ t.herdTab = c.herdTab ∧ t.est.str = c.est ∧ t.mode.enabled = c.enabled ∧ t.mode.str = c.str ∧
      t.grz.tm = s.grz.tm ∧ t.power.therm = c.therm) ∧
  (∀ (p : Pulse) (port : PortIx) (d : UpData) (s : State), p.val ≤ 410 → s.fitted port.val = true →
      s.pair.mirrored.getLsbD port.val = false → (s.lnk port.val).own = none → (s.lnk port.val).usable = true →
    ∃ t, exec (.pairMirrorRx p port d) s = .next t ∧ (t.lnk port.val).mirror = some d.heeded ∧
      (t.lnk port.val).used = some d.heeded ∧ t.pair.nDivergence = s.pair.nDivergence) ∧
  (∀ (p : Pulse) (port : PortIx) (d own : UpData) (s : State), p.val ≤ 410 → s.fitted port.val = true →
      s.pair.mirrored.getLsbD port.val = false → (s.lnk port.val).own = some own → own ≠ d.heeded →
      (s.lnk port.val).usable = true →
    ∃ t, exec (.pairMirrorRx p port d) s = .next t ∧ (t.lnk port.val).mirror = some d.heeded ∧
      (t.lnk port.val).used = (if s.sys.slot = .a then (s.lnk port.val).used else some d.heeded) ∧
      t.pair.nDivergence = sat32u (s.pair.nDivergence + 1)) ∧
  (∀ (s : State), s.pair.state = some .active → s.runtimeRuns = true → s.pair.lane0 = true →
    ∃ t, exec .assignSend s = .next t ∧ t.pair.assignedTo = some (s.now + 1) ∧ t.pair.peerItems = [] ∧
      ∃ its, t.pair.sent.head? = some (.assign (s.now + 1) its (s.atP 100).aiSamples) ∧
        (∀ x, x ∈ its ↔ (x ∈ s.pair.items ∧ x.frame < s.now) ∨
          (x ∈ s.pair.peerItems ∧ s.pair.items.any x.same = false)) ∧
        tget t.pair.assigned (s.now + 1) = tget s.pair.assigned (s.now + 1) ++ its) ∧
  (∀ (p : Pulse) (f : Nat) (items : List PairItem) (ai : List Int) (s : State), s.pair.state = some .standby →
    ∃ t, exec (.pairAssignRx p f items ai) s = .next t ∧
      tget t.pair.assigned f = tget s.pair.assigned f ++ items ∧ tget t.pair.assignedAi f = ai ∧
      t.pair.assignedTo = some (max f (s.pair.assignedTo.getD 0)) ∧
      ∀ x ∈ t.pair.items, items.any x.same = false) ∧
  (∀ (p : Pulse) (f : Nat) (items : List PairItem) (tj power : Int) (h : Nat) (s : State),
    ∃ t, exec (.pairListRx p f items tj power h) s = .next t ∧ t.pair.peerHoldup = h ∧
      (f, tj, power) ∈ t.grz.peer ∧ (s.pair.state ≠ some .active → t.pair.peerItems = s.pair.peerItems) ∧
      (s.pair.state = some .active → ∀ x, x ∈ t.pair.peerItems ↔
        x ∈ items ∧ s.pair.assigned.any (fun e => e.2.any x.same) = false))

/-- Summaries, digests and the handover (R386, R390, R403, R404, R405). -/
def Obligations.PairAgreementCommandsComplete : Prop :=
  (∀ (s : State), s.pair.lane0 = true →
    ∃ t, exec .markhorSummary s = .next t ∧ t.pair.own = some (s.atP 800).summaryNow ∧
      t.pair.sent = .summary (s.atP 800).summaryNow :: s.pair.sent) ∧
  (∀ (p : Pulse) (x : Summary) (s : State),
    ∃ t, exec (.pairSummaryRx p x) s = .next t ∧ t.pair = { s.pair with peer := some x }) ∧
  (∀ (s : State), s.digests = true → s.pair.lane0 = true →
    ∃ t, exec .digestSend s = .next t ∧ t.pair.digest = some (s.now, (s.atP 960).sectionCrcs) ∧
      t.pair.sent = .digest s.now (s.atP 960).sectionCrcs :: s.pair.sent) ∧
  (∀ (p : Pulse) (f : Nat) (crcs : List Word) (s : State),
    ∃ t, exec (.pairDigestRx p f crcs) s = .next t ∧ t.pair = { s.pair with peerDigest := some (f, crcs) }) ∧
  (∀ (a : List Word) (s : State), s.pair.digest = some (s.now, a) → s.pair.peerDigest = some (s.now, a) →
      s.pair.state = some .joining → s.pair.caughtUp = true → 99 ≤ s.pair.matched →
    ∃ t, exec .digestCompare s = .next t ∧ t.pair.state = some .standby ∧ t.pair.syncFrame = s.now ∧
      t.time.state = .following) ∧
  (∀ (a b : List Word) (s : State), s.pair.digest = some (s.now, a) → s.pair.peerDigest = some (s.now, b) →
      s.pair.state = some .standby → s.pair.transition = false → sectionMask a b ≠ 0 →
    ∃ t, exec .digestCompare s = .next t ∧ t.pair.leaveNext = true ∧ t.pair.matched = 0 ∧
      t.pair.nDivergence = sat32u (s.pair.nDivergence + 1) ∧ t.pair.state = some .standby) ∧
  (∀ (id : Word) (e : LedgerEntry) (s : State), Due s id 0x0E01 e → e.body = [] → s.inPair = true →
      s.pair.handoverReq = none → s.pair.handover = none →
    ∃ t, exec (.pairHandover id) s = .next t ∧ t.cmdStands id .accepted .ok ∧
      t.pair.handoverReq = some (1, id)) ∧
  (∀ (p : Pulse) (s : State), s.pair.cfg.homeEn = true → s.pair.homeOff = false → s.sys.slot = .a →
      s.pair.state = some .standby → s.pair.since + 1000 * s.pair.cfg.homeHold ≤ s.now → s.pair.lane0 = true →
    ∃ t, exec (.pairHomeHoldExpiry p) s = .next t ∧ t.pair.sent = .homeAsk :: s.pair.sent) ∧
  (∀ (p : Pulse) (s : State), s.pair.cfg.homeEn = true → s.pair.homeOff = false → s.sys.slot = .b →
      s.pair.state = some .active → s.pair.peerState = some .standby →
      s.pair.syncFrame + 1000 * s.pair.cfg.homeHold ≤ s.now → s.pair.handoverReq = none → s.pair.handover = none →
    ∃ t, exec (.pairHomeHoldExpiry p) s = .next t ∧ t.pair = { s.pair with handoverReq := some (2, 0) }) ∧
  (∀ (p : Pulse) (f kind : Nat) (cmd : Word) (s : State), s.pair.state = some .standby → s.now < f →
    ∃ t, exec (.pairHandoverRx p f kind cmd) s = .next t ∧
      t.pair = { s.pair with handover := some (f, kind, cmd) }) ∧
  (∀ (kind : Nat) (cmd : Word) (s : State), s.pair.handover = some (s.now, kind, cmd) →
      s.strings.any s.connecting = false → s.pair.state = some .standby →
    ∃ t, exec (.pairHandoverFrame false) s = .next t ∧ t.pair.state = some .active ∧
      t.pair.peerState = some .standby ∧ t.time.state ≠ .following) ∧
  (∀ (kind : Nat) (cmd : Word) (s : State), s.pair.handover = some (s.now, kind, cmd) →
      s.pair.state = some .active → s.pair.since ≠ s.now →
    ∃ t, exec (.pairHandoverFrame true) s = .next t ∧ t.pair.state = some .standby ∧
      t.pair.peerState = some .active ∧ t.pair.handover = none ∧ t.pair.handoverReq = none ∧
      t.time.state = .following) ∧
  (∀ (kind : Nat) (cmd : Word) (s : State), s.pair.handover = some (s.now, kind, cmd) →
      s.strings.any s.connecting = true →
    ∃ t, exec (.pairHandoverFrame false) s = .next t ∧
      t.pair = { s.pair with handover := some (offSecond (s.now + 1), kind, cmd) })

/-! ### Site link, container bus and two-wire port (chapters 14 to 16) -/

/-- The site session (R414, R415, R416). -/
def Obligations.SessionCommandsComplete : Prop :=
  (∀ (p : Pulse) (m : SiteIn) (o : OpenIn) (s : State), s.siteServed = true → m.formOk o.bytes = true → m.type = 1 →
      m.digestOk o.bytes = true → o.ver = 1 → m.tag = List.replicate 16 0 → s.site.sstate = .none →
      s.openFault o = none →
    ∃ t, exec (.sessionOpen p m o) s = .next t ∧ t.site.sstate = .opening ∧ t.site.session ≠ 0 ∧
      t.site.certRole = o.role ∧ t.site.prk = o.prk ∧ t.site.openingAt = s.now ∧ t.acc.chain = o.chain ∧
      t.tells 0x01 (openBytes 1 o.ourNonce o.ourEph s.sys.certChain o.ourSig)) ∧
  (∀ (p : Pulse) (m : SiteIn) (o : OpenIn) (c : Nat) (s : State), s.siteServed = true → m.formOk o.bytes = true →
      m.type = 1 → m.digestOk o.bytes = true → o.ver = 1 → m.tag = List.replicate 16 0 → s.site.sstate = .none →
      s.openFault o = some c →
    ∃ t, exec (.sessionOpen p m o) s = .next t ∧ t.site = s.site ∧ t.acc.authFails = sat32u (s.acc.authFails + 1) ∧
      t.acc.failsSec = s.acc.failsSec + 1 ∧ t.acc.chain = s.acc.chain) ∧
  (∀ (p : Pulse) (m : SiteIn) (o : OpenIn) (s : State), s.siteServed = true → m.formOk o.bytes = true → m.type = 1 →
      m.digestOk o.bytes = true → o.ver = 1 → m.tag = List.replicate 16 0 → s.site.sstate ≠ .none →
    ∃ t, exec (.sessionOpen p m o) s = .next t ∧ t.site.sstate = s.site.sstate ∧ t.site.session = s.site.session ∧
      t.site.nBusy = sat32u (s.site.nBusy + 1) ∧ t.tells 0x02 (le 2 Status.refusedBusy.code ++ [0, 0])) ∧
  (∀ (p : Pulse) (m : SiteIn) (c : BitVec 16) (s : State), Hears s m 0x02 (le 2 c.toNat ++ [0, 0]) →
    ∃ t, exec (.sessionClose p m c) s = .next t ∧ t.site.sstate = .none ∧ t.site.session = 0 ∧ t.acc.chain = [] ∧
      t.site.ledger = s.site.ledger) ∧
  (∀ (p : Pulse) (m : SiteIn) (s : State), Hears s m 0x03 [] →
    ∃ t, exec (.siteHeartbeatRx p m) s = .next t ∧ t.site.sstate = .opened ∧ t.site.session = s.site.session ∧
      t.site.lastValid = s.now ∧ t.site.nRx = sat32u (s.site.nRx + 1) ∧ t.site.port = some m.port.val ∧
      t.site.fresh m.seq = false) ∧
  (∀ (p : Pulse) (s : State), s.site.sstate = .opening → s.site.openingAt + 1000 ≤ s.now →
    ∃ t, exec (.sessionOpeningTimeout p) s = .next t ∧ t.site.sstate = .none ∧ t.site.session = 0) ∧
  (∀ (p : Pulse) (s : State), s.site.sstate = .opened → s.site.lastValid + 3000 ≤ s.now →
    ∃ t, exec (.sessionLapse p) s = .next t ∧ t.site.sstate = .none ∧ t.site.session = 0 ∧
      t.site.nLapse = sat32u (s.site.nLapse + 1) ∧ t.site.ledger = s.site.ledger) ∧
  (∀ (p : Pulse) (i : Fin 2) (up : Bool) (s : State),
    ∃ t, exec (.sitePortLinkChange p i up) s = .next t ∧
      t.site = (if i.val = 0 then { s.site with link0 := up } else { s.site with link1 := up }))

/-- The command messages of the partner. The layout of a COMMAND's body is the model's reading (log 197) (R420,
R423). -/
def Obligations.CommandMessagesComplete : Prop :=
  (∀ (p : Pulse) (m : SiteIn) (id : Word) (c : BitVec 16) (b : Bytes) (k : Nat) (s : State),
      Hears s m 0x10 (commandBytes id c.toNat b) → id ≠ 0 → twf s.site.ledger = true → s.entry id = none →
      s.newSlot = some k →
    ∃ t, exec (.command p m id c b) s = .next t ∧ t.site.newest = id ∧
      (∃ e, t.entry id = some e ∧ e.state = .pending ∧ e.code = c.toNat ∧ e.body = b ∧ e.role = m.role ∧
        e.digest = commandDigest c.toNat b ∧ e.arrival = s.now ∧
        (s.assignsAlone = true → e.effective = s.now + 2) ∧ s.answered t (e.bytes 0))) ∧
  (∀ (p : Pulse) (m : SiteIn) (c : BitVec 16) (b : Bytes) (s : State), Hears s m 0x10 (commandBytes 0 c.toNat b) →
    ∃ t, exec (.command p m 0 c b) s = .next t ∧ t.site.ledger = s.site.ledger ∧ t.site.newest = s.site.newest ∧
      ∃ e : LedgerEntry, e.id = 0 ∧ e.status = .refusedFormat ∧ s.answered t (e.bytes 0)) ∧
  (∀ (p : Pulse) (m : SiteIn) (id : Word) (c : BitVec 16) (b : Bytes) (e : LedgerEntry) (s : State),
      Hears s m 0x10 (commandBytes id c.toNat b) → id ≠ 0 → s.entry id = some e →
    ∃ t, exec (.command p m id c b) s = .next t ∧ t.site.ledger = s.site.ledger ∧ t.site.newest = s.site.newest ∧
      s.answered t (e.bytes (if e.digest = commandDigest c.toNat b then 1 else 3))) ∧
  (∀ (p : Pulse) (m : SiteIn) (id : Word) (c : BitVec 16) (b : Bytes) (s : State),
      Hears s m 0x10 (commandBytes id c.toNat b) → id ≠ 0 → s.entry id = none → s.newSlot = none →
    ∃ t, exec (.command p m id c b) s = .next t ∧ t.site.ledger = s.site.ledger ∧ t.site.newest = s.site.newest ∧
      ∃ e : LedgerEntry, e.id = id ∧ e.status = .refusedBusy ∧ s.answered t (e.bytes 0)) ∧
  (∀ (p : Pulse) (m : SiteIn) (id : Word) (e : LedgerEntry) (s : State), Hears s m 0x12 (le 4 id.toNat) →
      s.entry id = some e →
    ∃ t, exec (.commandStatus p m id) s = .next t ∧ t.site.ledger = s.site.ledger ∧ s.answered t (e.bytes 4)) ∧
  (∀ (p : Pulse) (m : SiteIn) (id : Word) (s : State), Hears s m 0x12 (le 4 id.toNat) → s.entry id = none →
    ∃ t, exec (.commandStatus p m id) s = .next t ∧ t.site.ledger = s.site.ledger ∧
      ∃ e : LedgerEntry, e.id = id ∧ e.status = .unknown ∧ s.answered t (e.bytes 4))

/-- Status reads, pages and captures (R412, R430, R431, R432, R433, R434, R435, R438). -/
def Obligations.WindowMessagesComplete : Prop :=
  (∀ (p : Pulse) (m : SiteIn) (i : BitVec 16) (b : Bytes) (s : State), Hears s m 0x20 (statusReadBytes i.toNat) →
      ((s.atP p.val).acceptMsg m).object i.toNat = some b →
    ∃ t, exec (.statusRead p m i) s = .next t ∧ t.tells 0x20 (le 6 m.seq ++ [0, 0] ++ le 2 i.toNat ++ [0, 0] ++ b)) ∧
  (∀ (p : Pulse) (m : SiteIn) (g : Fin 16384) (n : BitVec 16) (c : Fin 4) (s : State),
      Hears s m 0x30 (windowBytes g.val n.toNat c.val) →
      (s.page g.val).owner = .partner → (n = 0xFFFF ∨ n.toNat = (s.page g.val).gen) →
    ∃ t, exec (.windowRead p m g n c) s = .next t ∧ t.site.pages = s.site.pages ∧
      t.tells 0x30 (le 6 m.seq ++ [0, 0] ++ le 2 g.val ++ le 1 c.val ++ le 3 0 ++
        slice (s.page g.val).image (1040 * c.val) 1040)) ∧
  (∀ (p : Pulse) (m : SiteIn) (g : Fin 16384) (n : BitVec 16) (c : Fin 4) (d : Bytes) (s : State),
      Hears s m 0x31 (windowBytes g.val n.toNat c.val ++ d) →
      12288 ≤ g.val → (s.page g.val).owner = .partner → n.toNat = (s.page g.val).gen →
    ∃ t, exec (.windowWrite p m g n c d) s = .next t ∧
      t.page g.val = (s.page g.val).putChunk c.val d s.now ∧ (∀ q, q ≠ g.val → t.page q = s.page q) ∧
      t.tells 0x30 (le 6 m.seq ++ [0, 0] ++ le 2 g.val ++ le 1 c.val ++ le 3 0)) ∧
  (∀ (p : Pulse) (m : SiteIn) (es : List (Nat × Nat)) (s : State),
      Hears s m 0x32 (handoverBytes 0x02 es.length (es.map (fun e => handoverItem e.1 e.2 0 0))) →
    ∃ t, exec (.pageRelease p m es) s = .next t ∧ t.site.winReqs = s.site.winReqs ++ [.release es] ∧
      t.site.pages = s.site.pages) ∧
  (∀ (p : Pulse) (m : SiteIn) (n : Nat) (s : State), Hears s m 0x32 (handoverBytes 0x03 n []) →
    ∃ t, exec (.pageClaim p m n) s = .next t ∧ t.site.winReqs = s.site.winReqs ++ [.claim n] ∧
      t.site.pages = s.site.pages) ∧
  (∀ (p : Pulse) (m : SiteIn) (es : List (Nat × Nat × Nat × Word)) (s : State),
      Hears s m 0x32 (handoverBytes 0x04 es.length (es.map (fun e => handoverItem e.1 e.2.1 e.2.2.1 e.2.2.2))) →
    ∃ t, exec (.pageReturn p m es) s = .next t ∧ t.site.winReqs = s.site.winReqs ++ [.return_ es] ∧
      t.site.pages = s.site.pages) ∧
  (∀ (p : Pulse) (g : Fin 16384) (s : State), s.ownsInbound g.val = true → s.pageNamed g.val = false →
      (s.page g.val).returned + 60000 ≤ s.now →
    ∃ t, exec (.inboundPageExpire p g) s = .next t ∧
      t.site.winReqs = s.site.winReqs ++ [.freed [g.val] .failedTimeout] ∧ t.site.pages = s.site.pages) ∧
  (∀ (p : Pulse) (k : StrIx) (b : Bytes) (c : Capture) (s : State), c ∈ s.site.captures → c.s = k.val →
      c.recording = true → c.frame * 1000 + c.pulse + 19999 ≤ s.now * 1000 + p.val →
    ∃ t, exec (.tripCapture p k b) s = .next t ∧ t.site.captures.length = s.site.captures.length ∧
      { c with recording := false, data := c.header ++ padTo 480000 b } ∈ t.site.captures)

/-- The states of the CAN controllers and the PCS timeout (R447, R448, R458, R464, R465, R466). -/
def Obligations.CanStateCommandsComplete : Prop :=
  (∀ (p : Pulse) (c : Fin 2) (s : State), (s.ctl c.val).state = .detect →
      (s.ctl c.val).candFrom + 100 * s.bus.cfg.dwell ≤ s.now →
    ∃ t, exec (.canDetectDwell p c) s = .next t ∧ (∀ d : Fin 2, d ≠ c → t.ctl d.val = s.ctl d.val) ∧
      t.ctl c.val = { s.ctl c.val with
        cand := ((s.ctl c.val).cand + 1) % s.bus.cfg.pairs.length, good := 0, brs := false, candFrom := s.now }) ∧
  (∀ (p : Pulse) (c : Fin 2) (s : State) (nom data : Nat), (s.ctl c.val).state = .detect → 3 ≤ (s.ctl c.val).good →
      s.bus.cfg.pairs[(s.ctl c.val).cand]? = some (nom, data) → (data = 0 ∨ (s.ctl c.val).brs = true) →
    ∃ t, exec (.canDetectAccept p c) s = .next t ∧ (∀ d : Fin 2, d ≠ c → t.ctl d.val = s.ctl d.val) ∧
      (t.ctl c.val).state = .run ∧ (t.ctl c.val).nom = nom ∧ (t.ctl c.val).data = data ∧
      (t.ctl c.val).detected = true) ∧
  (∀ (p : Pulse) (c : Fin 2) (s : State), (s.ctl c.val).state = .detect →
      (s.ctl c.val).detectFrom + 1000 * s.bus.cfg.detectTo ≤ s.now →
    ∃ t, exec (.canDetectTimeout p c) s = .next t ∧ (∀ d : Fin 2, d ≠ c → t.ctl d.val = s.ctl d.val) ∧
      (t.ctl c.val).state = .run ∧ (t.ctl c.val).nom = s.bus.cfg.nom ∧ (t.ctl c.val).data = s.bus.cfg.data ∧
      (t.ctl c.val).detected = false) ∧
  (∀ (p : Pulse) (c : Fin 2) (s : State), ((s.ctl c.val).state = .run ∨ (s.ctl c.val).state = .lone) →
    ∃ t, exec (.canBusOff p c) s = .next t ∧ (∀ d : Fin 2, d ≠ c → t.ctl d.val = s.ctl d.val) ∧
      (t.ctl c.val).state = .busoff ∧ (t.ctl c.val).nBusOff = sat32u ((s.ctl c.val).nBusOff + 1)) ∧
  (∀ (p : Pulse) (c : Fin 2) (s : State), (s.ctl c.val).state = .busoff →
    ∃ t, exec (.canBusoffRecovered p c) s = .next t ∧ (∀ d : Fin 2, d ≠ c → t.ctl d.val = s.ctl d.val) ∧
      (t.ctl c.val).state = (if s.bus.cfg.detectEn then .detect else .run) ∧
      (t.ctl c.val).tec = 0 ∧ (t.ctl c.val).rec_ = 0) ∧
  (∀ (p : Pulse) (c : Fin 2) (s : State), (s.ctl c.val).state = .run → 16 ≤ (s.ctl c.val).ackRun →
      (∀ u, (s.ctl c.val).lastRx = some u → u + 100000 ≤ (s.atP p.val).clockUs) →
    ∃ t, exec (.canLone p c) s = .next t ∧ (∀ d : Fin 2, d ≠ c → t.ctl d.val = s.ctl d.val) ∧
      (t.ctl c.val).state = .lone) ∧
  (∀ (p : Pulse) (c : Fin 2) (o : Fin 7) (s : State), 3 ≤ (tget (s.ctl c.val).obj o.val).bitErrs →
      (tget (s.ctl c.val).obj o.val).state ≠ .disabled →
    ∃ t, exec (.canClash p c o) s = .next t ∧ (∀ d : Fin 2, d ≠ c → t.ctl d.val = s.ctl d.val) ∧
      (tget (t.ctl c.val).obj o.val).state = .disabled ∧
      ∀ q, q ≠ o.val → tget (t.ctl c.val).obj q = tget (s.ctl c.val).obj q) ∧
  (∀ (p : Pulse) (s : State), s.mode.mode ≠ .fill → s.mode.mode ≠ .load → s.pcsValid = false →
      s.bus.unreachable = false →
    ∃ t, exec (.pcsStateTimeout p) s = .next t ∧ t.bus.unreachable = true ∧ t.bus.unreachFrame = s.now ∧
      t.bus.unreachOpened = 0) ∧
  (∀ (p : Pulse) (k : StrIx) (d : Nat) (s : State), (s.str k.val).opening = some (.lone, d) → d ≤ s.now →
      s.bus.unreachable = true → ((s.str k.val).state = .closed ∨ (s.str k.val).state = .held) →
      s.voided k.val 8 = false →
    ∃ t, exec (.loneNodeOpenTimeout p k) s = .next t ∧ (t.str k.val).state = .opened ∧
      (t.str k.val).opening = none ∧ has t.bus.unreachOpened k.val = true)

/-- Transmission and reception on the container bus. Which of two contents an attempt carried is an operand, the
model's form (logs 101, 198) (R448, R452, R453, R454, R456, R457, R460, R461, R464). -/
def Obligations.CanTransferCommandsComplete : Prop :=
  (∀ (c : Fin 2) (s : State), (s.ctl c.val).state = .lone → s.now % 100 = 0 →
      (tget (s.ctl c.val).obj 6).state = .idle →
    ∃ t, exec (.canProbe c) s = .next t ∧ (∀ d : Fin 2, d ≠ c → t.ctl d.val = s.ctl d.val) ∧
      (tget (t.ctl c.val).obj 6).state = .waiting ∧
      (tget (t.ctl c.val).obj 6).cur =
        some { frame := s.now, payload := s.canPayload 6 false [], atPulse := some 500 }) ∧
  (∀ (c : Fin 2) (s : State), s.pair.state = some .standby → s.now % 10 = 0 →
      (∀ u, (s.ctl c.val).peerTime = some u → u + 30000 ≤ (s.atP 0).clockUs) → (s.ctl c.val).state = .run →
      (tget (s.ctl c.val).obj 0).state = .idle →
    ∃ t, exec (.canStandbyTimeRef c) s = .next t ∧ (∀ d : Fin 2, d ≠ c → t.ctl d.val = s.ctl d.val) ∧
      (tget (t.ctl c.val).obj 0).state = .waiting ∧
      ((tget (t.ctl c.val).obj 0).cur.map (·.frame)) = some s.now) ∧
  (∀ (c : Fin 2) (s : State), (s.ctl c.val).tatDue = true → (s.ctl c.val).state = .run → s.now % 100 = 0 →
      s.sendsPair = true → (tget (s.ctl c.val).obj 2).state = .idle →
    ∃ t, exec (.transmitAtTime c) s = .next t ∧ (∀ d : Fin 2, d ≠ c → t.ctl d.val = s.ctl d.val) ∧
      (t.ctl c.val).tatDue = false ∧ (tget (t.ctl c.val).obj 2).state = .waiting ∧
      (tget (t.ctl c.val).obj 2).cur =
        some {
          frame := s.now, payload := (s.atP 500).canPayload 2 true (s.atP 500).moduleState, atPulse := some 500 }) ∧
  (∀ (p : Pulse) (c : Fin 2) (o : Fin 7) (sof : Nat) (early : Bool) (k : CanContent) (s : State),
      s.canBusy c.val o.val = true → (s.ctl c.val).state = .run →
      (tget (s.ctl c.val).obj o.val).sent (early && (tget (s.ctl c.val).obj o.val).older.isSome) = some k →
    ∃ t, exec (.canTxDone p c o sof early) s = .next t ∧ (∀ d : Fin 2, d ≠ c → t.ctl d.val = s.ctl d.val) ∧
      tget (t.ctl c.val).obj o.val = (match early, (tget (s.ctl c.val).obj o.val).older with
        | true, some _ => { tget (s.ctl c.val).obj o.val with older := none, undelivered := false, bitErrs := 0 }
        | _, _ => { (tget (s.ctl c.val).obj o.val).advance .idle with undelivered := false, bitErrs := 0 }) ∧
      (t.ctl c.val).nTx = sat32u ((s.ctl c.val).nTx + 1) ∧
      (t.ctl c.val).tec = (s.ctl c.val).tec - 1 ∧ (t.ctl c.val).ackRun = 0 ∧
      (o = 0 → (t.ctl c.val).trSof = sof ∧ (t.ctl c.val).trSeq = rdU k.payload 2 2) ∧
      (k.atPulse ≠ none → (t.ctl c.val).tatSof = sof)) ∧
  (∀ (p : Pulse) (c : Fin 2) (sof : Nat) (early : Bool) (s : State),
      s.canBusy c.val 6 = true → (s.ctl c.val).state = .lone →
    ∃ t, exec (.canTxDone p c 6 sof early) s = .next t ∧ (∀ d : Fin 2, d ≠ c → t.ctl d.val = s.ctl d.val) ∧
      (t.ctl c.val).state = .run ∧ (t.ctl c.val).nTx = sat32u ((s.ctl c.val).nTx + 1)) ∧
  (∀ (p : Pulse) (c : Fin 2) (o : Fin 7) (e : TxError) (early : Bool) (k : CanContent) (s : State),
      s.canBusy c.val o.val = true → (tget (s.ctl c.val).obj o.val).cur = some k →
    ∃ t, exec (.canTxFail p c o e early) s = .next t ∧ (∀ d : Fin 2, d ≠ c → t.ctl d.val = s.ctl d.val) ∧
      (t.ctl c.val).ackRun = (if e = .ack then (s.ctl c.val).ackRun + 1 else 0) ∧
      (e = .ack → (t.ctl c.val).nAck = sat32u ((s.ctl c.val).nAck + 1)) ∧
      (e ≠ .ack → (t.ctl c.val).nErr = sat32u ((s.ctl c.val).nErr + 1)) ∧
      ((early && (tget (s.ctl c.val).obj o.val).older.isSome) = true →
        (tget (t.ctl c.val).obj o.val).fails = 0 ∧ (tget (t.ctl c.val).obj o.val).older = none ∧
        (tget (t.ctl c.val).obj o.val).cur = some k ∧ (t.ctl c.val).nDrop = (s.ctl c.val).nDrop) ∧
      ((early && (tget (s.ctl c.val).obj o.val).older.isSome) = false →
        (tget (s.ctl c.val).obj o.val).fails + 1 < 8 → k.atPulse = none →
        (tget (t.ctl c.val).obj o.val).fails = (tget (s.ctl c.val).obj o.val).fails + 1 ∧
        (tget (t.ctl c.val).obj o.val).cur = some k) ∧
      ((early && (tget (s.ctl c.val).obj o.val).older.isSome) = false →
        (8 ≤ (tget (s.ctl c.val).obj o.val).fails + 1 ∨ k.atPulse ≠ none) →
        (tget (s.ctl c.val).obj o.val).next = none →
        (tget (t.ctl c.val).obj o.val).cur = none ∧
        (tget (t.ctl c.val).obj o.val).state = (if o = 1 then .undelivered else .idle) ∧
        (t.ctl c.val).nDrop = sat32u ((s.ctl c.val).nDrop + 1))) ∧
  (∀ (p : Pulse) (c : Fin 2) (f : CanFrame) (s : State), (s.ctl c.val).state = .run → f.ok = false →
    ∃ t, exec (.canFrameRx p c f) s = .next t ∧ (∀ d : Fin 2, d ≠ c → t.ctl d.val = s.ctl d.val) ∧
      t.ctl c.val = { s.ctl c.val with
        nErr := sat32u ((s.ctl c.val).nErr + 1), rec_ := satN 255 ((s.ctl c.val).rec_ + 1) }) ∧
  (∀ (p : Pulse) (c : Fin 2) (f : CanFrame) (s : State), (s.ctl c.val).state = .run → f.ok = true →
    ∃ t, exec (.canFrameRx p c f) s = .next t ∧ (∀ d : Fin 2, d ≠ c → t.ctl d.val = s.ctl d.val) ∧
      (t.ctl c.val).nRx = sat32u ((s.ctl c.val).nRx + 1) ∧ (t.ctl c.val).rec_ = (s.ctl c.val).rec_ - 1 ∧
      (t.ctl c.val).lastRx = some (s.atP p.val).clockUs ∧
      (f.fd29 = true → f.msg = 0x001 → f.src = s.peerNode → f.container = s.sys.container →
        (t.ctl c.val).peerTime = some (s.atP p.val).clockUs)) ∧
  (∀ (p : Pulse) (c : Fin 2) (f : CanFrame) (s : State), CanMayTake (s.atP p.val) c.val f 0x100 s.bus.cfg.pcsNode 16 →
    ∃ t, exec (.pcsStateRx p c f false) s = .next t ∧ CanTook (s.atP p.val) t f 0x100 s.bus.cfg.pcsNode 16) ∧
  (∀ (p : Pulse) (c : Fin 2) (f : CanFrame) (s : State),
    CanMayTake (s.atP p.val) c.val f 0x101 s.bus.cfg.hvacNode 12 →
    ∃ t, exec (.hvacBudgetRx p c f false) s = .next t ∧ CanTook (s.atP p.val) t f 0x101 s.bus.cfg.hvacNode 12) ∧
  (∀ (p : Pulse) (c : Fin 2) (f : CanFrame) (s : State), CanMayTake (s.atP p.val) c.val f 0x102 s.bus.cfg.fireNode 8 →
    ∃ t, exec (.fireStatusRx p c f false) s = .next t ∧ CanTook (s.atP p.val) t f 0x102 s.bus.cfg.fireNode 8) ∧
  (∀ (p : Pulse) (c : Fin 2) (f : CanFrame) (s : State), CanMayTake (s.atP p.val) c.val f 0x103 s.bus.cfg.imdNode 8 →
    ∃ t, exec (.imdStatusRx p c f false) s = .next t ∧ CanTook (s.atP p.val) t f 0x103 s.bus.cfg.imdNode 8)

/-- Transactions of the two-wire port (R473, R474, R475, R479, R482). -/
def Obligations.TwoWireTransactionsComplete : Prop :=
  (∀ (p : Pulse) (a : BitVec 7) (r : Bool) (n : Nat) (s : State),
      a.toNat ≠ s.tw.primary → a.toNat ≠ s.tw.secondary →
    ∃ t, exec (.twAddress p a r n) s = .next t ∧ t.tw.tx = .ignored ∧ t.tw.nTrans = s.tw.nTrans ∧
      t.tw.asleep = s.tw.asleep ∧ t.tw.latch = s.tw.latch ∧ t.tw.ptr1 = (s.twEnd n).tw.ptr1 ∧
        t.tw.ptr2 = (s.twEnd n).tw.ptr2) ∧
  (∀ (p : Pulse) (a : BitVec 7) (r : Bool) (n : Nat) (s : State),
      (a.toNat = s.tw.primary ∨ a.toNat = s.tw.secondary) → s.tw.asleep = true →
    ∃ t, exec (.twAddress p a r n) s = .next t ∧ t.tw.tx = .ignored ∧ t.tw.asleep = false ∧
      t.tw.nWake = sat32u (s.tw.nWake + 1) ∧ t.tw.latch = s.tw.latch ∧
      t.tw.ptr1 = (s.twEnd n).tw.ptr1 ∧ t.tw.ptr2 = (s.twEnd n).tw.ptr2) ∧
  (∀ (p : Pulse) (a : BitVec 7) (n : Nat) (s : State),
      (a.toNat = s.tw.primary ∨ a.toNat = s.tw.secondary) → s.tw.asleep = false →
    ∃ t, exec (.twAddress p a true n) s = .next t ∧
      t.tw.tx = .read (decide (a.toNat = s.tw.secondary)) ∧
      t.tw.latch = s.twImage (decide (a.toNat = s.tw.secondary)) ∧ t.tw.nTrans = sat32u (s.tw.nTrans + 1) ∧
      t.tw.ptr1 = (s.twEnd n).tw.ptr1 ∧ t.tw.ptr2 = (s.twEnd n).tw.ptr2) ∧
  (∀ (p : Pulse) (a : BitVec 7) (n : Nat) (s : State),
      (a.toNat = s.tw.primary ∨ a.toNat = s.tw.secondary) → s.tw.asleep = false →
    ∃ t, exec (.twAddress p a false n) s = .next t ∧
      t.tw.tx = .write (decide (a.toNat = s.tw.secondary)) none ∧ t.tw.latch = s.tw.latch ∧
      t.tw.nTrans = sat32u (s.tw.nTrans + 1) ∧ t.tw.ptr1 = (s.twEnd n).tw.ptr1 ∧ t.tw.ptr2 = (s.twEnd n).tw.ptr2) ∧
  (∀ (p : Pulse) (reg : Byte) (sec : Bool) (s : State), s.tw.tx = .write sec none →
    ∃ t, exec (.twRegisterAddress p reg) s = .next t ∧
      t.tw = { s.tw with tx := .write sec (some reg.toNat) }) ∧
  (∀ (p : Pulse) (sec : Bool) (r : Nat) (s : State), s.tw.tx = .write sec (some r) → s.tw.atSafeReq = false →
    ∃ t, exec (.twWriteDiscard p) s = .next t ∧
      t.tw = { s.tw with tx := .write sec (some ((r + 1) % 256)), nNack := sat32u (s.tw.nNack + 1) }) ∧
  (∀ (p : Pulse) (n : Nat) (d : Bytes) (s : State), s.tw.atSafeReq = false →
    ∃ t, exec (.twStop p n d) s = .next t ∧ t.tw.tx = .idle ∧ t.tw.muted = false ∧ t.tw.armed = s.tw.armed ∧
      (∀ r, s.tw.tx = .write false (some r) → t.tw.ptr1 = r ∧ t.tw.ptr2 = s.tw.ptr2) ∧
      (∀ r, s.tw.tx = .write true (some r) → t.tw.ptr2 = r ∧ t.tw.ptr1 = s.tw.ptr1) ∧
      (s.tw.tx = .read false → t.tw.ptr1 = (s.tw.ptr1 + n) % 256 ∧ t.tw.ptr2 = s.tw.ptr2 ∧
        t.tw.line = s.tw.readBytes s.tw.ptr1 n) ∧
      (s.tw.tx = .read true → t.tw.ptr2 = (s.tw.ptr2 + n) % 256 ∧ t.tw.ptr1 = s.tw.ptr1 ∧
        t.tw.line = s.tw.readBytes s.tw.ptr2 n)) ∧
  (∀ (p : Pulse) (st : Bool) (s : State),
    ∃ t, exec (.twBadCondition p st) s = .next t ∧ t.tw.tx = .idle ∧ t.tw.ptr1 = s.tw.ptr1 ∧
      t.tw.ptr2 = s.tw.ptr2 ∧ t.tw.armed = s.tw.armed) ∧
  (∀ (p : Pulse) (s : State), s.tw.tx = .read true →
    ∃ t, exec (.twSPortReadClear p) s = .next t ∧ t.tw.tx = .read true ∧
      t.tw.sport = s.tw.sport &&& ~~~BitVec.ofNat 4 ((s.tw.latch[0x1C]?).getD 0).toNat) ∧
  (∀ (p : Pulse) (s : State), s.mode.mode = .rest → s.tw.lastStart + 2000000 ≤ (s.atP p.val).clockUs →
    ∃ t, exec (.twSleep p) s = .next t ∧ t.tw = { s.tw with asleep := true })

/-- SAFE_REQ and the faults of the two-wire port (R477, R478, R480, R481). -/
def Obligations.TwoWireRequestsComplete : Prop :=
  (∀ (p : Pulse) (s : State),
    ∃ t, exec (.twSafeReqArm p) s = .next t ∧ t.tw.armed = some (s.atP p.val).clockUs ∧ t.mode = s.mode ∧
      t.tw.nReq = s.tw.nReq) ∧
  (∀ (p : Pulse) (a : Nat) (s : State), s.tw.armed = some a → (s.atP p.val).clockUs ≤ a + 100000 →
      s.mode.mode ∉ [Mode.fill, .load, .safe] →
    ∃ t, exec (.twSafeReqComplete p) s = .next t ∧ t.tw.armed = none ∧ t.tw.nReq = sat32u (s.tw.nReq + 1) ∧
      t.mode.mode = .safe ∧ t.prot.safeA = true ∧ t.prot.safeB = true ∧
      t.jnl.safeLatch = (if s.jnl.safeLatch = 0 then 0x04 else s.jnl.safeLatch)) ∧
  (∀ (p : Pulse) (a : Nat) (s : State), s.tw.armed = some a → (s.atP p.val).clockUs ≤ a + 100000 →
      s.mode.mode = .safe →
    ∃ t, exec (.twSafeReqComplete p) s = .next t ∧ t.tw.armed = none ∧ t.tw.nReq = sat32u (s.tw.nReq + 1) ∧
      t.mode = s.mode ∧ t.prot = s.prot ∧ t.jnl.safeLatch = s.jnl.safeLatch) ∧
  (∀ (p : Pulse) (s : State), s.tw.armed = none →
    ∃ t, exec (.twSafeReqComplete p) s = .next t ∧ t.tw.armed = none ∧ t.tw.nReq = s.tw.nReq ∧ t.mode = s.mode ∧
      t.tw.sport = s.tw.sport ||| 4 ∧ t.tw.nDisarm = sat32u (s.tw.nDisarm + 1)) ∧
  (∀ (p : Pulse) (v : Byte) (a : Nat) (s : State), v ≠ 0xA5 → v ≠ 0x5A → s.tw.armed = some a →
    ∃ t, exec (.twSafeReqDisarm p v) s = .next t ∧ t.tw.armed = none ∧
      t.tw.sport = s.tw.sport ||| 8 ∧ t.tw.nDisarm = sat32u (s.tw.nDisarm + 1) ∧ t.mode = s.mode) ∧
  (∀ (p : Pulse) (a : Nat) (s : State), s.tw.armed = some a → a + 100000 ≤ (s.atP p.val).clockUs →
    ∃ t, exec (.twArmTimeout p) s = .next t ∧ t.tw.armed = none ∧ t.tw.sport = s.tw.sport ||| 8 ∧
      t.tw.nDisarm = sat32u (s.tw.nDisarm + 1) ∧ t.mode = s.mode) ∧
  (∀ (p : Pulse) (s : State),
    ∃ t, exec (.twStretchTimeout p) s = .next t ∧ t.tw.tx = .idle ∧ t.tw.muted = true ∧
      t.tw.sport = s.tw.sport ||| 1 ∧ t.tw.nStretch = sat32u (s.tw.nStretch + 1) ∧ t.tw.ptr1 = s.tw.ptr1 ∧
      t.tw.ptr2 = s.tw.ptr2) ∧
  (∀ (p : Pulse) (sda : Bool) (s : State),
    ∃ t, exec (.twStuckBus p sda) s = .next t ∧ t.tw.tx = .idle ∧ t.tw.ptr1 = 0 ∧ t.tw.ptr2 = 0 ∧
      t.tw.armed = none ∧ t.tw.sport = s.tw.sport ||| 2 ∧ t.tw.nStuck = sat32u (s.tw.nStuck + 1) ∧
      t.tw.lastStuck = some s.now)

/-! ### Supply, start, image, update, memory and keys (chapters 17 to 21) -/

/-- The loss of the supply input (R583, R584, R586). -/
def Obligations.SupplyLossCommandsComplete : Prop :=
  (∀ (p : Pulse) (s : State), s.psv.loss = none → s.psv.powered = true →
    ∃ t, exec (.inputLossDeclared p) s = .next t ∧ t.psv.derate = true ∧ t.psv.state = .fullFunction ∧
      t.psv.lossFrame = s.now ∧
      t.psv.loss.map (fun l => (l.at_, l.runs)) =
        some ((s.atP p.val).clockUs, decide (s.pair.state ∉ [some PairState.active, some .standby, some .joining]))) ∧
  (∀ (p : Pulse) (l : LossSeq) (s : State), s.psv.loss = some l → l.runs = true → l.waitEnded = false →
      s.psv.lossWait ≤ (s.atP p.val).lossMs l →
    ∃ t, exec (.inputLossWaitEnd p) s = .next t ∧ t.psv.loss.map (·.waitEnded) = some true ∧
      (∀ k ∈ s.closedStrings, s.lowCurrent k (s.curOf k) = true → (t.str k).state = .opened ∧
        (t.pst k).trip = true)) ∧
  (∀ (p : Pulse) (l : LossSeq) (s : State), s.psv.loss = some l → l.runs = true → l.returned = false →
      s.psv.state = .fullFunction → 150 ≤ (s.atP p.val).lossMs l →
    ∃ t, exec (.inputLossFullPhaseEnd p) s = .next t ∧ t.psv.state = .lastGasp ∧ t.jnl.queue = [] ∧
      t.psv.loss.map (·.gasped) = some true ∧
      (∀ k ∈ s.closedStrings, (t.str k).state = .opened ∧ (t.pst k).trip = true)) ∧
  (∀ (p : Pulse) (v : Int) (l : LossSeq) (s : State), s.psv.loss = some l → l.waitEnded = false → l.opened = 0 →
      s.psv.dropped = false → (s.atP p.val).lossMs l < s.psv.lossWait →
    ∃ t, exec (.inputReturned p v) s = .next t ∧ t.psv.loss = none ∧ t.psv.state = .normal ∧ t.psv.vin = v ∧
      t.psv.cancelledAt = some s.now ∧ t.mode.holdupIgnore = s.now + 30000 ∧ t.mode.str = s.mode.str) ∧
  (∀ (p : Pulse) (v : Int) (l : LossSeq) (s : State), s.psv.loss = some l → l.opened ≠ 0 →
      s.psv.state ≠ .lastGasp →
    ∃ t, exec (.inputReturned p v) s = .next t ∧ t.psv.loss = some { l with returned := true } ∧ t.mode = s.mode) ∧
  (∀ (p : Pulse) (v : Int) (l : LossSeq) (s : State), s.psv.loss = some l → l.opened ≠ 0 →
      s.psv.state = .lastGasp →
    ∃ t, exec (.inputReturned p v) s = .next t ∧ t.mode.mode = .fill ∧ t.sys.resetCause = 0x02 ∧
      t.mode.restart = none ∧ t.prot.safeA = true ∧ t.prot.safeB = true)

/-- Power, reset, hold-up and inputs. How pins that disagree keep the slot is the model's (log 204); the
calibration formula is DEDUCED (log 201) (R69, R582, R583, R595, R597, R605). -/
def Obligations.SupplyAndResetCommandsComplete : Prop :=
  (∀ (p : Pulse) (s : State),
    ∃ t, exec (.holdupExhausted p) s = .next t ∧ t.psv.powered = false ∧ t.psv.huE = 0 ∧ t.mode.mode = .fill ∧
      t.prot.safeA = true ∧ t.prot.safeB = true ∧ t.jnl.safeLatch = s.jnl.safeLatch) ∧
  (∀ (v : Int) (a b : Bool) (w : BitVec 2) (s : State),
    ∃ t, exec (.powerOn v a b w) s = .next t ∧ t.psv.powered = true ∧ t.tw.pins = w.toNat ∧
      t.sys.slotOk = (slotOfPins a b).isSome ∧ t.sys.slot = (slotOfPins a b).getD s.sys.slot ∧ t.psv.vin = v ∧
        t.psv.state = .normal ∧
      t.mode.mode = .fill ∧ t.sys.resetCause = 0x01 ∧ t.prot.safeA = true ∧ t.prot.safeB = true ∧
      t.jnl.safeLatch = s.jnl.safeLatch ∧ t.site.ledger = s.site.ledger) ∧
  (∀ (p : Pulse) (ms : Nat) (s : State), 10 ≤ ms → s.psv.powered = true →
    ∃ t, exec (.resetIn p ms) s = .next t ∧ t.mode.mode = .fill ∧ t.sys.resetCause = 0x03 ∧ t.prot.safeA = true ∧
      t.prot.safeB = true ∧ t.jnl.safeLatch = s.jnl.safeLatch) ∧
  (∀ (p : Pulse) (ms : Nat) (s : State), ms < 10 → exec (.resetIn p ms) s = .next (s.atP p.val)) ∧
  (∀ (p : Pulse) (c : Nat) (f : Int) (s : State),
    ∃ t, exec (.holdupCapacityMeasure p c f) s = .next t ∧ t.psv.huCap = c ∧ t.psv.huFull = f ∧
      t.psv.huMeasured = s.now ∧ t.psv.holdupCond = (if f < 25 then 2 else if f < 60 then 1 else 0)) ∧
  (∀ (p : Pulse) (v : Int) (s : State), s.psv.state = .normal → (v < 18000 ∨ 32000 < v) →
    ∃ t, exec (.psvSupply p v) s = .next t ∧ t.psv.state = .outOfRange ∧ t.psv.vin = v) ∧
  (∀ (p : Pulse) (v : Int) (s : State), s.psv.state = .outOfRange → 18000 ≤ v → v ≤ 32000 →
    ∃ t, exec (.psvSupply p v) s = .next t ∧ t.psv.state = .normal ∧ t.psv.vin = v ∧ t.psv.inRangeFrom = s.now) ∧
  (∀ (vals : List Int) (s : State),
    ∃ t, exec (.analogInputConversion vals) s = .next t ∧
      ∀ n, n < 8 → tget t.psv.ai n =
        if s.aiModeOf n = 0 then tget s.psv.ai n
        else ((vals[n]?).map (fun x => sat32 (s.calibrated (112 + 16 * n + 8 * (s.aiModeOf n - 1)) x))).getD
          (tget s.psv.ai n))

/-- Fill, Load and the restarts of the update (R61, R62, R518, R521, R536). -/
def Obligations.StartCommandsComplete : Prop :=
  (∀ (p : Pulse) (f : BootFind) (s : State), s.mode.mode = .fill →
    ∃ t, exec (.fillComplete p [] f) s = .next t ∧ t.mode.mode = .load ∧ t.mode.entryFrame = s.now ∧
      t.upd = (if s.sys.slotOk then s.upd.boot f else { s.upd with bootHold := true }) ∧ t.cfg = s.cfg ∧
        t.jnl = s.jnl) ∧
  (∀ (p : Pulse) (s : State), s.mode.mode = .fill →
    ∃ t, exec (.fillTimeout p) s = .next t ∧ t.mode.mode = .safe ∧ t.mode.noRuntime = true ∧
      t.jnl.safeLatch = (if s.jnl.safeLatch = 0 then 0x01 else s.jnl.safeLatch) ∧
      t.prot.safeA = true ∧ t.prot.safeB = true ∧ ∀ k, k < 16 → (t.pst k).trip = true) ∧
  (∀ (x : LoadIn) (s : State), s.mode.mode = .load → s.runtimeRuns = true → s.mode.configHold = false →
      s.upd.trial = false →
      judgeImage s.cfg.slot0 x.chain0 (requiredOk x.cred0) ≠ 0 →
      judgeImage s.cfg.slot1 x.chain1 (requiredOk x.cred1) ≠ 0 →
    ∃ t, exec (.loadComplete x) s = .next t ∧ t.mode.mode = .load ∧ t.mode.configHold = true) ∧
  (∀ (x : LoadIn) (s : State), s.mode.mode = .load → s.runtimeRuns = true → s.mode.configHold = false →
      s.upd.trial = false → s.jnl.safeLatch = 0 →
      (judgeImage s.cfg.slot0 x.chain0 (requiredOk x.cred0) = 0 ∨
        judgeImage s.cfg.slot1 x.chain1 (requiredOk x.cred1) = 0) →
    ∃ t, exec (.loadComplete x) s = .next t ∧ t.mode.mode = .survey ∧ t.cfg.slot ≠ none ∧ t.prot.loaded = true) ∧
  (∀ (x : LoadIn) (s : State), s.mode.mode = .load → s.runtimeRuns = true → s.mode.configHold = false →
      s.upd.trial = false → s.jnl.safeLatch ≠ 0 →
      (judgeImage s.cfg.slot0 x.chain0 (requiredOk x.cred0) = 0 ∨
        judgeImage s.cfg.slot1 x.chain1 (requiredOk x.cred1) = 0) →
    ∃ t, exec (.loadComplete x) s = .next t ∧ t.mode.mode = .safe ∧ t.mode.safeCause = s.jnl.safeLatch ∧
      t.prot.safeA = true ∧ t.prot.safeB = true ∧ t.pair.state = some .detached) ∧
  (∀ (p : Pulse) (s : State), s.mode.mode = .load → s.runtimeRuns = true → s.mode.configHold = false →
      s.mode.entryFrame + 2400 ≤ s.now →
    ∃ t, exec (.loadOverrun p) s = .next t ∧ t.mode.mode = .fill ∧ t.sys.resetCause = 0x04 ∧
      t.upd.loadFails = (if s.upd.trial then s.upd.loadFails else s.upd.loadFails + 1)) ∧
  (∀ (s : State), s.upd.activateAt = some s.now →
    ∃ t, exec .updActivateRestart s = .next t ∧ t.mode.mode = .fill ∧ t.sys.resetCause = 0x06 ∧
      t.upd.vstate = .activating ∧ t.upd.copyIndex = 0)

/-- Patches, staging and the calibration block; R501 is the merge under the mask. -/
def Obligations.ImageCommandsComplete : Prop :=
  (∀ (id : Word) (e : LedgerEntry) (s : State), Due s id 0x1201 e → (patchChecks (s.atP 0) e).pass = true →
    ∃ t, exec (.cfgPatch id) s = .next t ∧ t.cmdStands id .accepted .ok ∧
      t.cfg.jobs = s.cfg.jobs ++ [{ cmd := id, at_ := s.now + 1, items := e.items, role := e.role }] ∧
      t.power.cfg = s.power.cfg ∧ t.thm.cfg = s.thm.cfg) ∧
  (∀ (id : Word) (j : PatchJob) (e : LedgerEntry) (s : State),
      s.cfg.jobs.find? (fun x => decide (x.cmd = id)) = some j → s.entry id = some e →
      twf s.site.ledger = true → j.at_ = s.now → j.applied = false →
    ∃ t, exec (.cfgPatchApply id) s = .next t ∧ t.cmdStands id .started .ok ∧
      (∀ type word, t.cfgWord type word = (j.items.foldl State.applyItem s).cfgWord type word) ∧
      ∀ x ∈ t.cfg.jobs, x.cmd = id → x.applied = true) ∧
  (∀ (id : Word) (j : PatchJob) (k : Nat) (flash : Verdict) (s : State),
      s.cfg.jobs.find? (fun x => decide (x.cmd = id)) = some j → j.applied = true → j.own = false → flash ≠ .fail →
      s.liveHalf = some k → (s.half k).imageSeq = s.cfg.seqLoaded →
      (s.half k).entries.length + j.items.length ≤ halfCapacity →
    ∃ t, exec (.cfgPatchPersisted id flash) s = .next t ∧
      (t.half k).entries = (s.half k).entries ++ numberEntries s.nextPSeq (j.items.map (fun i =>
        { type := i.type, word := i.word, mask := i.mask, value := i.value, frame := j.at_, role := j.role,
          cmd := j.cmd })) ∧
      (∀ x ∈ t.cfg.jobs, x.cmd = id → x.own = true) ∧ t.pair.items = (s.listStep id 2 0 0).pair.items ∧
      t.pair.assigned = (s.listStep id 2 0 0).pair.assigned) ∧
  (∀ (id : Word) (j : PatchJob) (s : State),
      s.cfg.jobs.find? (fun x => decide (x.cmd = id)) = some j → j.applied = true → j.own = false →
    ∃ t, exec (.cfgPatchPersisted id .fail) s = .next t ∧
      t.cfg.persistFail = true ∧ t.cfg.half0 = s.cfg.half0 ∧ t.cfg.half1 = s.cfg.half1 ∧
      t.pair.items = (s.listStep id 2 1 0).pair.items ∧ t.pair.assigned = (s.listStep id 2 1 0).pair.assigned) ∧
  (∀ (id : Word) (j : PatchJob) (e : LedgerEntry) (slot : Slot) (s : State),
      s.entry id = some e → twf s.site.ledger = true → j.cmd = id →
      (s.patchTake j slot 1).cmdStands id .failed .failedFault ∧
      (∀ x ∈ (s.patchTake j slot 1).cfg.jobs, x.cmd ≠ id) ∧
      (s.inPair = false → (s.patchTake j s.sys.slot 0).cmdStands id .done .ok ∧
        ∀ x ∈ (s.patchTake j s.sys.slot 0).cfg.jobs, x.cmd ≠ id)) ∧
  (∀ (id : Word) (e : LedgerEntry) (s : State), Due s id 0x1202 e → (stageChecks (s.atP 0) e).pass = true →
    ∃ t, exec (.cfgImageStage id) s = .next t ∧ t.cmdStands id .accepted .ok ∧
      t.cfg.stage = some { cmd := id, target := s.targetSlot, length := rdU e.body 0 4, pages := e.pages,
                           oldDigest := imageDigest (s.slotImage s.targetSlot) } ∧
      t.cfg.slot0 = s.cfg.slot0 ∧ t.cfg.slot1 = s.cfg.slot1) ∧
  (∀ (id : Word) (e : LedgerEntry) (s : State), Due s id 0x1203 e → e.body.length = 512 →
      rdU e.body 508 4 = (crc32c (slice e.body 0 508)).toNat →
    ∃ t, exec (.cfgFactoryCal id .pass) s = .next t ∧ t.cmdStands id .done .ok ∧ t.psv.cal = e.body ∧
      t.psv.calUsed = s.psv.calUsed) ∧
  (∀ (id : Word) (e : LedgerEntry) (s : State), Due s id 0x1203 e → e.body.length = 512 →
      rdU e.body 508 4 = (crc32c (slice e.body 0 508)).toNat →
    ∃ t, exec (.cfgFactoryCal id .fail) s = .next t ∧ t.cmdStands id .failed .failedFault) ∧
  (∀ (s : State) (i : PatchItem), i.permitted = true →
    (s.applyItem i).cfgWord i.type i.word = (s.cfgWord i.type i.word &&& ~~~i.mask) ||| (i.value &&& i.mask))

/-- The steps of CFG_IMAGE_STAGE. That each step is listed as an item of the pair is the model's reading (log
199) (R499). -/
def Obligations.StagingStepsComplete : Prop :=
  (∀ (id : Word) (j : StageJob) (k : Nat) (chain cred : Verdict) (s : State), s.cfg.stage = some j → j.cmd = id →
      j.failed = false → j.own + 1 = k → k ≤ 4 → (k = 1 → s.stageCheck j chain (requiredOk cred) = 0) →
    ∃ t, exec (.cfgStageStepDone id k .ok chain cred) s = .next t ∧ t.cfg.stage = some { j with own := k } ∧
      (k = 1 → t.cfg.slot0 = s.cfg.slot0 ∧ t.cfg.slot1 = s.cfg.slot1) ∧
      (k = 2 → t.slotImage j.target = []) ∧
      (k = 3 → t.slotImage j.target = s.stageImage j) ∧
      (k = 4 → t.cfg.staged = true ∧ t.cfg.slot0 = s.cfg.slot0 ∧ t.cfg.slot1 = s.cfg.slot1) ∧
      (j.target = 0 → t.cfg.slot1 = s.cfg.slot1) ∧ (j.target ≠ 0 → t.cfg.slot0 = s.cfg.slot0) ∧
      t.pair.items = (s.listStep id k 0 0).pair.items ∧ t.pair.assigned = (s.listStep id k 0 0).pair.assigned) ∧
  (∀ (id : Word) (j : StageJob) (st : Status) (chain cred : Verdict) (s : State),
      s.cfg.stage = some j → j.cmd = id → j.failed = false → j.own = 0 → s.stageCheck j chain (requiredOk cred) ≠ 0 →
    ∃ t, exec (.cfgStageStepDone id 1 st chain cred) s = .next t ∧ t.cfg.stage = some { j with failed := true } ∧
      t.cfg.slot0 = s.cfg.slot0 ∧ t.cfg.slot1 = s.cfg.slot1 ∧
      t.pair.items = (s.listStep id 1 1 (s.stageCheck j chain (requiredOk cred))).pair.items ∧
      t.pair.assigned = (s.listStep id 1 1 (s.stageCheck j chain (requiredOk cred))).pair.assigned) ∧
  (∀ (id : Word) (j : StageJob) (k : Nat) (st : Status) (chain cred : Verdict) (s : State),
      s.cfg.stage = some j → j.cmd = id → j.failed = false → j.own + 1 = k → k ≤ 4 → k ≠ 1 → st ≠ .ok →
    ∃ t, exec (.cfgStageStepDone id k st chain cred) s = .next t ∧ t.cfg.stage = some { j with failed := true } ∧
      t.cfg.slot0 = s.cfg.slot0 ∧ t.cfg.slot1 = s.cfg.slot1 ∧
      t.pair.items = (s.listStep id k (if st = Status.failedTimeout then 2 else 1) 0).pair.items) ∧
  (∀ (id : Word) (j : StageJob) (e : LedgerEntry) (slot : Slot) (k code info : Nat) (s : State),
      s.entry id = some e → twf s.site.ledger = true → j.cmd = id → code ≠ 0 →
      (s.stageTake j slot k code info).cmdStands id .failed (if code = 2 then .failedTimeout else .failedFault) ∧
      (s.stageTake j slot k code info).cfg.stage = none ∧
      (s.stageTake j slot k code info).cfg.slot0 = s.cfg.slot0 ∧
      (s.stageTake j slot k code info).cfg.slot1 = s.cfg.slot1) ∧
  (∀ (id : Word) (j : StageJob) (e : LedgerEntry) (s : State),
      s.entry id = some e → twf s.site.ledger = true → j.cmd = id → s.inPair = false →
      s.pairDone j.doneA j.doneB < 4 →
      (s.stageTake j s.sys.slot 4 0 0).cmdStands id .done .ok ∧
      (s.stageTake j s.sys.slot 4 0 0).cfg.stage = none)

/-- The commands of the release and of the front ends' firmware (R516, R517, R518, R527, R530). -/
def Obligations.UpdateCommandsComplete : Prop :=
  (∀ (id : Word) (e : LedgerEntry) (s : State), Due s id 0x1301 e → rdU e.body 1 1 = 1 →
      (updStageChecks (s.atP 0) e).pass = true →
    ∃ t, exec (.updStageManifest id) s = .next t ∧ t.cmdStands id .accepted .ok ∧
      ∃ j, t.upd.jobs = s.upd.jobs ++ [j] ∧ j.cmd = id ∧ j.op = 1 ∧ j.pages = e.pages) ∧
  (∀ (id : Word) (e : LedgerEntry) (s : State), Due s id 0x1301 e → rdU e.body 1 1 = 2 →
      (updStageChecks (s.atP 0) e).pass = true →
    ∃ t, exec (.updStageBlocks id) s = .next t ∧ t.cmdStands id .accepted .ok ∧
      ∃ j, t.upd.jobs = s.upd.jobs ++ [j] ∧ j.cmd = id ∧ j.op = 2 ∧ j.first = rdU e.body 2 2 ∧
        j.count = rdU e.body 4 2 ∧ j.pages = e.pages) ∧
  (∀ (id : Word) (e : LedgerEntry) (s : State), Due s id 0x1301 e → rdU e.body 1 1 = 3 →
      (updStageChecks (s.atP 0) e).pass = true →
    ∃ t, exec (.updStageAbandon id) s = .next t ∧ t.cmdStands id .accepted .ok ∧
      ∃ j, t.upd.jobs = s.upd.jobs ++ [j] ∧ j.cmd = id ∧ j.op = 3) ∧
  (∀ (id : Word) (e : LedgerEntry) (s : State), Due s id 0x1302 e → (activateChecks (s.atP 0) e).pass = true →
    ∃ t, exec (.updActivate id) s = .next t ∧ t.cmdStands id .accepted .ok ∧
      ∃ j, t.upd.jobs = s.upd.jobs ++ [j] ∧ j.cmd = id ∧ j.op = 4) ∧
  (∀ (id : Word) (e : LedgerEntry) (s : State), Due s id 0x1303 e → (confirmChecks (s.atP 0) e).pass = true →
    ∃ t, exec (.updConfirm id) s = .next t ∧ t.cmdStands id .accepted .ok ∧
      ∃ j, t.upd.jobs = s.upd.jobs ++ [j] ∧ j.cmd = id ∧ j.op = 5) ∧
  (∀ (code block : Nat) (s : State), s.upd.verifyDue = true → s.grz.admitted = true → s.upd.vstate = .downloading →
      s.upd.complete = true →
    ∃ t, exec (.updVerify code block) s = .next t ∧ t.upd.verifyDue = false ∧
      t.upd.vstate = (if code = 0 then .verified else .downloading)) ∧
  (∀ (id : Word) (e : LedgerEntry) (s : State), Due s id 0x0501 e → (cfeFwChecks (s.atP 0) e).pass = true →
    ∃ t, exec (.cfeFwUpdate id) s = .next t ∧ t.cmdStands id .accepted .ok ∧
      t.upd.cfe = some { cmd := id, port := rdU e.body 0 1, bank := rdU e.body 1 1, length := rdU e.body 4 4,
                         version := BitVec.ofNat 32 (rdU e.body 8 4), pages := e.pages }) ∧
  (∀ (port : PortIx) (j : CfeFwJob) (s : State), s.upd.cfe = some j → j.port = port.val → j.step = 3 → j.done = 2 →
      j.failed = none → j.from_ + 1000 ≤ s.now →
    ∃ t, exec (.cfeFwReturnTimeout port) s = .next t ∧ t.upd.cfe = some { j with failed := some (0x0C, 0) })

/-- The steps of the update. That each step is listed as an item of the pair is the model's reading (log 199)
(R515, R526). -/
def Obligations.UpdateStepsComplete : Prop :=
  (∀ (id : Word) (j : UpdJob) (m : Manifest) (block : Nat) (s : State),
      s.upd.jobs.find? (fun x => decide (x.cmd = id)) = some j → s.maskNames j.mask s.sys.slot = true → j.op = 1 →
      j.failed = false → j.own = 0 → j.pages.all s.ownsInbound = true → s.upd.trial = false →
      parseManifest (s.pageBytes j.pages) = some m → s.upd.rollback ≤ m.secv →
      m.bootRom.toNat ≤ s.sys.bootRom.toNat → m.preong ≤ s.cfg.format →
    ∃ t, exec (.updStepDone id 1 0 block) s = .next t ∧ t.upd.vstate = .downloading ∧
      t.upd.bitmap = 1 ∧ t.upd.velvet = { manifest := some m, blocks := [] } ∧ t.upd.secv = m.secv ∧
      t.upd.jobs = s.upd.jobs.map (fun i => if i.cmd = j.cmd then { j with own := 1 } else i) ∧
      t.pair.items = (s.listStep id 1 0 0).pair.items ∧ t.pair.assigned = (s.listStep id 1 0 0).pair.assigned) ∧
  (∀ (id : Word) (j : UpdJob) (k block : Nat) (s : State),
      s.upd.jobs.find? (fun x => decide (x.cmd = id)) = some j → s.maskNames j.mask s.sys.slot = true → j.op = 2 →
      j.failed = false → j.own + 1 = k → k ≤ j.count →
      (k = 1 → j.pages.all s.ownsInbound = true) → s.upd.vstate = .downloading →
      j.first + k - 1 ≤ s.upd.velvet.imageBlocks → s.upd.bitmap.getLsbD (j.first + k - 1) = false →
      sha384 (s.blockBytes j (j.first + k - 1)) =
        (((s.upd.velvet.manifest.map (·.hashes)).getD [])[j.first + k - 1 - 1]?).getD [] →
    ∃ t, exec (.updStepDone id k 0 block) s = .next t ∧ t.upd.vstate = .downloading ∧
      t.upd.bitmap = (s.upd.bitmap ||| ((1 : BitVec 512) <<< (j.first + k - 1))) ∧
      tget t.upd.velvet.blocks (j.first + k - 1) = s.blockBytes j (j.first + k - 1) ∧
      (∀ b, b ≠ j.first + k - 1 → tget t.upd.velvet.blocks b = tget s.upd.velvet.blocks b) ∧
      t.pair.items = (s.listStep id k 0 0).pair.items ∧ t.pair.assigned = (s.listStep id k 0 0).pair.assigned) ∧
  (∀ (id : Word) (j : UpdJob) (code block : Nat) (s : State),
      s.upd.jobs.find? (fun x => decide (x.cmd = id)) = some j → s.maskNames j.mask s.sys.slot = true → j.op = 1 →
      j.failed = false → j.own = 0 → j.pages.all s.ownsInbound = false →
    ∃ t, exec (.updStepDone id 1 code block) s = .next t ∧
      t.upd = { s.upd with jobs := s.upd.jobs.map (fun i => if i.cmd = j.cmd then { j with failed := true } else i) }
        ∧
      t.pair.items = (s.listStep id 1 1 block).pair.items ∧
      t.pair.assigned = (s.listStep id 1 1 block).pair.assigned) ∧
  (∀ (id : Word) (j : UpdJob) (e : LedgerEntry) (slot : Slot) (k code info : Nat) (s : State),
      s.upd.jobs.find? (fun x => decide (x.cmd = id)) = some j → s.maskNames j.mask slot = true → code ≠ 0 →
      s.entry id = some e → twf s.site.ledger = true →
      (s.updTake id slot k code info).cmdStands id .failed .failedFault ∧
      (s.updTake id slot k code info).upd.vstate = s.upd.vstate ∧
      (s.updTake id slot k code info).upd.velvet = s.upd.velvet ∧
      ∀ x ∈ (s.updTake id slot k code info).upd.jobs, x.cmd ≠ id) ∧
  (∀ (otp : Verdict) (s : State), s.upd.trial = true → s.upd.confirmTime * 60000 ≤ s.upd.cleanRun →
      s.upd.autoConfirm = true →
    ∃ t, exec (.updCleanRunReached otp) s = .next t ∧ t.upd.confirmed = s.upd.running ∧ t.upd.fallback = true ∧
      t.upd.trial = false ∧ t.upd.vstate = .idle ∧ t.upd.trials = 0 ∧ t.upd.set = s.upd.inUse ∧
      t.upd.rollback = (if s.upd.rollback < s.upd.secvOf s.upd.running ∧ otp = .pass then
        s.upd.secvOf s.upd.running else s.upd.rollback))

/-- Scrubbing, health and wear records (R545, R546, R547, R555, R556, R558). -/
def Obligations.MemoryCommandsComplete : Prop :=
  (∀ (dram : Bool) (pos : Fin 1001) (errs : List MemErr) (s : State), s.grz.admitted = true →
      s.now % (if dram then 1000 else 100) = 0 →
    ∃ t, exec (.scrubBurst dram pos errs) s = .next t ∧
      (pos.val < 1000 → (t.memReg (if dram then .dram else .table)).pos = pos.val) ∧
      (pos.val = 1000 → (t.memReg (if dram then .dram else .table)).pos = 0 ∧
        (t.memReg (if dram then .dram else .table)).passFrom = s.now ∧
        (t.memReg (if dram then .dram else .table)).done = s.now)) ∧
  (∀ (p : Pulse) (e : MemErr) (s : State), e.kind .markhor = some .word ∨ e.kind .markhor = some .page →
    ∃ t, exec (.markhorScrub p [e]) s = .next t ∧ t.mem.markhor.corr = sat32u (s.mem.markhor.corr + 1) ∧
      t.prot.corrected = s.prot.corrected + 1) ∧
  (∀ (p : Pulse) (e : MemErr) (s : State), e.kind .markhor = some .uncorrectable →
    ∃ t, exec (.markhorScrub p [e]) s = .next t ∧ t.mem.markhor.uncorr = sat32u (s.mem.markhor.uncorr + 1) ∧
      t.mem.markhor.lastUncorr = some s.now) ∧
  (∀ (p : Pulse) (dram : Bool) (s : State), (s.memReg (if dram then .dram else .table)).late = false →
      (s.memReg (if dram then .dram else .table)).passFrom + 2 * s.scrubInterval (if dram then .dram else .table) ≤
        s.now →
    ∃ t, exec (.memScrub p dram) s = .next t ∧
      t.memReg (if dram then .dram else .table) = { s.memReg (if dram then .dram else .table) with late := true }) ∧
  (∀ (p : Pulse) (s : State), s.mem.dirty ≠ none →
    ∃ t, exec (.healthRecordWrite p) s = .next t ∧
      t.mem = { s.mem with
        dirty := none, healthGen := s.mem.healthGen + 1, health := (s.mem.remap, s.mem.remapMk, s.mem.errs) }) ∧
  (∀ (v : Verdict) (s : State), s.now % 1000 = 0 → (s.jnl.wearDue = true ∨ s.now % 3600000 = 0) → s.wearMay = true →
    ∃ t, exec (.wearWrite v) s = .next t ∧ t.jnl.wSeq = s.jnl.wSeq + 1 ∧ t.jnl.wFrame = s.now ∧
      t.jnl.wearDue = false ∧
      (t.jnl.mirror0 = some (s.wearNow (s.jnl.wSeq + 1)) ∧ t.jnl.mirror1 = s.jnl.mirror1 ∨
        t.jnl.mirror1 = some (s.wearNow (s.jnl.wSeq + 1)) ∧ t.jnl.mirror0 = s.jnl.mirror0) ∧
      (v = .pass → t.jnl.carrierRetry = false ∧
        (t.jnl.carrier0 = some (s.wearNow (s.jnl.wSeq + 1)) ∧ t.jnl.carrier1 = none ∨
          t.jnl.carrier1 = some (s.wearNow (s.jnl.wSeq + 1)) ∧ t.jnl.carrier0 = none)) ∧
      (v ≠ .pass → t.jnl.carrierRetry = true)) ∧
  (∀ (v : Verdict) (s : State), s.now % 1000 = 0 → (s.jnl.wearDue = true ∨ s.now % 3600000 = 0) → s.wearMay = false →
    ∃ t, exec (.wearWrite v) s = .next t ∧ t.jnl.wearDue = true ∧ t.jnl.wearPostponed = true ∧
      t.jnl.wSeq = s.jnl.wSeq ∧ t.jnl.mirror0 = s.jnl.mirror0 ∧ t.jnl.mirror1 = s.jnl.mirror1) ∧
  (∀ (v : Verdict) (w : WearRec) (s : State), s.now % 1000 = 0 → s.jnl.carrierRetry = true → s.wearNewest = some w →
    ∃ t, exec (.wearCarrierRetry v) s = .next t ∧ t.jnl.carrierRetry = decide (v ≠ .pass) ∧
      t.jnl.mirror0 = s.jnl.mirror0 ∧ t.jnl.mirror1 = s.jnl.mirror1 ∧
      (v = .pass → t.jnl.carrier0 = some w ∧ t.jnl.carrier1 = none ∨
        t.jnl.carrier1 = some w ∧ t.jnl.carrier0 = none)) ∧
  (∀ (p : Pulse) (q : PortIx) (n at_ : Nat) (s : State), s.jnl.feCommits.find? (fun c => decide (c.1 = q.val)) =
        some (q.val, n, at_) → 0 < at_ → at_ - 1 + 200 ≤ s.now →
    ∃ t, exec (.cfeWearCommitCheck p q) s = .next t ∧
      (n = 1 → s.wearNewest ≠ none → (q.val, 2, 0) ∈ t.jnl.feCommits) ∧
      (n ≠ 1 → ∀ c ∈ t.jnl.feCommits, c.1 ≠ q.val))

/-- Keys and the debug session (R574, R575, R576). -/
def Obligations.AccessCommandsComplete : Prop :=
  (∀ (id : Word) (e : LedgerEntry) (k : Nat) (s : State), Due s id 0x0101 e → e.body.length = 60 →
      zeros e.body 1 3 = true → zeros e.body 5 3 = true → zeros e.body 57 3 = true → rdU e.body 0 1 = 1 →
      rdU e.body 4 1 = k → k < 4 → s.acc.written.getLsbD k = false → isPoint (slice e.body 8 49) = true →
    ∃ t, exec (.sysOtpProvision id) s = .next t ∧
      t.acc.written = s.acc.written ||| ((1 : BitVec 4) <<< k) ∧ tget t.acc.roots k = slice e.body 8 49 ∧
      (∀ j, j ≠ k → tget t.acc.roots j = tget s.acc.roots j) ∧ t.cmdStands id .done .ok) ∧
  (∀ (id : Word) (e : LedgerEntry) (k : Nat) (s : State), Due s id 0x1501 e → e.body.length = 12 →
      zeros e.body 1 3 = true → rdU e.body 0 1 = 1 → s.currentRoot = some k → s.higherRoot = true →
    ∃ t, exec (.accKeyRotateRetire id) s = .next t ∧ t.acc.retired = s.acc.retired ||| ((1 : BitVec 4) <<< k) ∧
      t.acc.denyOtp = s.acc.denyOtp ∧ t.cmdStands id .done .ok) ∧
  (∀ (id : Word) (e : LedgerEntry) (s : State), Due s id 0x1501 e → e.body.length = 12 →
      zeros e.body 1 3 = true → rdU e.body 0 1 = 2 → s.acc.denyOtp.length < 32 →
    ∃ t, exec (.accKeyRotateDeny id) s = .next t ∧
      t.acc.denyOtp = s.acc.denyOtp ++ [BitVec.ofNat 64 (rdU e.body 4 8)] ∧ t.acc.retired = s.acc.retired ∧
      t.cmdStands id .done .ok) ∧
  (∀ (p : Pulse) (s : State), s.acc.debugOpen = true →
    ∃ t, exec (.debugSessionClosed p) s = .next t ∧ t.acc.debugOpen = false ∧
      t.jnl = ((s.atP p.val).ev 0x1504 (le 1 2 ++ le 8 s.acc.fpr.toNat)).jnl)
end

