-- ==== Sys2Proof/Laws/Tab.lean ====
section
/-! SUPPORT. The laws of the sparse tables: a read after a write, and the canonical form. -/

namespace Sys2Proof.Machine

variable {α : Type} [Inhabited α] [DecidableEq α]

/-- A read after a write gives the value written at its index, and elsewhere what it gave before. -/
theorem tget_tput (t : Tab α) (i j : Nat) (v : α) : tget (tput t i v) j = if j = i then v else tget t j := by
  induction t with
  | nil => by_cases hv : v = default <;> by_cases hj : j = i <;> simp [tput, tget, hv, hj]
  | cons e t ih =>
    obtain ⟨k, w⟩ := e
    unfold tput
    split
    · subst k
      split
      · by_cases hj : j = i <;> simp_all [tget]
      · by_cases hj : j = i <;> simp_all [tget]
    · split
      · by_cases hj : j = i <;> simp_all [tget]
      · simp only [tget, ih]
        by_cases hk : j = k
        · subst hk
          simp_all [eq_comm]
        · simp [hk]

@[simp] theorem tget_tput_self (t : Tab α) (i : Nat) (v : α) : tget (tput t i v) i = v := by simp [tget_tput]

theorem tget_tput_ne (t : Tab α) {i j : Nat} (v : α) (h : j ≠ i) : tget (tput t i v) j = tget t j := by
  simp [tget_tput, h]

theorem tget_tmod (t : Tab α) (i j : Nat) (f : α → α) :
    tget (tmod t i f) j = if j = i then f (tget t i) else tget t j := tget_tput t i j _

@[simp] theorem tget_tmod_self (t : Tab α) (i : Nat) (f : α → α) : tget (tmod t i f) i = f (tget t i) := by
  simp [tget_tmod]

theorem tget_tmod_ne (t : Tab α) {i j : Nat} (f : α → α) (h : j ≠ i) : tget (tmod t i f) j = tget t j := by
  simp [tget_tmod, h]

/-- An index a list does not name keeps its entry. -/
theorem tget_tmodAll_ne (t : Tab α) (is : List Nat) (f : Nat → α → α) {j : Nat} (h : j ∉ is) :
    tget (tmodAll t is f) j = tget t j := by
  unfold tmodAll
  induction is generalizing t with
  | nil => rfl
  | cons i is ih =>
    simp only [List.mem_cons, not_or] at h
    simp only [List.foldl_cons]
    rw [ih _ h.2, tget_tmod_ne t _ h.1]

/-- An index a list names once is changed by its function. -/
theorem tget_tmodAll_mem (t : Tab α) (is : List Nat) (f : Nat → α → α) {j : Nat} (hn : is.Nodup) (h : j ∈ is) :
    tget (tmodAll t is f) j = f j (tget t j) := by
  unfold tmodAll
  induction is generalizing t with
  | nil => cases h
  | cons i is ih =>
    simp only [List.foldl_cons]
    obtain ⟨hi, hn⟩ := List.nodup_cons.mp hn
    rcases List.mem_cons.mp h with rfl | h
    · have k := tget_tmodAll_ne (tmod t j (f j)) is f hi
      unfold tmodAll at k
      rw [k, tget_tmod_self]
    · rw [ih _ hn h, tget_tmod_ne t _ (fun e => hi (by rw [← e]; exact h))]

/-! ### The canonical form -/

theorem twfFrom_mono {b c : Nat} {t : Tab α} (h : twfFrom c t = true) (hb : b ≤ c) :
    twfFrom b t = true := by
  cases t with
  | nil => rfl
  | cons e t =>
    simp only [twfFrom, Bool.and_eq_true, decide_eq_true_eq] at h ⊢
    exact ⟨⟨Nat.le_trans hb h.1.1, h.1.2⟩, h.2⟩

theorem twfFrom_tput_default {b : Nat} {t : Tab α} (i : Nat) (h : twfFrom b t = true) :
    twfFrom b (tput t i default) = true := by
  induction t generalizing b with
  | nil => simp [tput, twfFrom]
  | cons e t ih =>
    obtain ⟨k, w⟩ := e
    simp only [twfFrom, Bool.and_eq_true, decide_eq_true_eq] at h
    by_cases hk : i = k
    · simp only [tput, hk, if_true]
      exact hk ▸ ih (twfFrom_mono h.2 (by omega))
    · simp only [tput, hk, if_false, ne_eq, not_true_eq_false, and_false, twfFrom, Bool.and_eq_true,
        decide_eq_true_eq]
      exact ⟨h.1, ih h.2⟩

theorem twfFrom_tput {b : Nat} {t : Tab α} (i : Nat) (v : α) (h : twfFrom b t = true) (hi : b ≤ i) :
    twfFrom b (tput t i v) = true := by
  by_cases hv : v = default
  · exact hv ▸ twfFrom_tput_default i h
  induction t generalizing b with
  | nil => simp [tput, twfFrom, hv, hi]
  | cons e t ih =>
    obtain ⟨k, w⟩ := e
    simp only [twfFrom, Bool.and_eq_true, decide_eq_true_eq] at h
    obtain ⟨⟨hk, hw⟩, ht⟩ := h
    by_cases h1 : i = k
    · subst h1
      simp [tput, twfFrom, hv, hi, ht]
    · by_cases h2 : i < k
      · simp [tput, twfFrom, hv, hi, ht, h1, h2, hw] <;> omega
      · simp only [tput, h1, h2, if_false, false_and, twfFrom, Bool.and_eq_true, decide_eq_true_eq]
        exact ⟨⟨hk, hw⟩, ih ht (by omega)⟩

/-- A write keeps the canonical form. -/
theorem twf_tput {t : Tab α} (i : Nat) (v : α) (h : twf t = true) : twf (tput t i v) = true :=
  twfFrom_tput i v h (Nat.zero_le i)

theorem twf_tmod {t : Tab α} (i : Nat) (f : α → α) (h : twf t = true) : twf (tmod t i f) = true := twf_tput i _ h

theorem twf_tmodAll {t : Tab α} (is : List Nat) (f : Nat → α → α) (h : twf t = true) :
    twf (tmodAll t is f) = true := by
  unfold tmodAll
  induction is generalizing t with
  | nil => exact h
  | cons i is ih => exact ih (twf_tmod i _ h)

theorem twfFrom_tmap {b : Nat} {t : Tab α} (f : Nat → α → α) (h : twfFrom b t = true) :
    twfFrom b (tmap t f) = true := by
  induction t generalizing b with
  | nil => rfl
  | cons e t ih =>
    obtain ⟨k, w⟩ := e
    simp only [twfFrom, Bool.and_eq_true, decide_eq_true_eq] at h
    have ht := ih h.2
    by_cases hd : f k w = default
    · have : tmap ((k, w) :: t) f = tmap t f := by simp [tmap, hd]
      rw [this]
      exact twfFrom_mono ht (by omega)
    · have : tmap ((k, w) :: t) f = (k, f k w) :: tmap t f := by simp [tmap, hd]
      rw [this]
      simp only [twfFrom, Bool.and_eq_true, decide_eq_true_eq]
      exact ⟨⟨h.1.1, hd⟩, ht⟩

theorem twf_tmap {t : Tab α} (f : Nat → α → α) (h : twf t = true) : twf (tmap t f) = true := twfFrom_tmap f h

@[simp] theorem tget_tcanon (t : Tab α) (i : Nat) : tget (tcanon t) i = tget t i := by
  induction t with
  | nil => rfl
  | cons e t ih =>
    obtain ⟨k, v⟩ := e
    have h : tcanon ((k, v) :: t) = tput (tcanon t) k v := rfl
    rw [h, tget_tput, ih]
    rfl

theorem twf_tcanon (t : Tab α) : twf (tcanon t) = true := by
  induction t with
  | nil => rfl
  | cons e t ih => exact twf_tput _ _ ih

end Sys2Proof.Machine
end

