-- ==== Sys2Proof/Laws/Frame.lean ====
section
/-! SUPPORT. The calculus of frames: how the frame of an operation follows from those of what it calls. -/

namespace Sys2Proof.Machine

theorem sameView_refl (s : State) (v : View) : sameView s s v := by cases v <;> simp [sameView]

theorem sameView_trans {s u t : State} {v : View} (h : sameView s u v) (g : sameView u t v) : sameView s t v := by
  cases v <;> simp_all [sameView]

theorem OtpGrows.refl (a : AccSt) : OtpGrows a a := ⟨fun _ h => ⟨h, rfl⟩, fun _ h => h, List.prefix_refl _⟩

theorem OtpGrows.trans {a b c : AccSt} (h : OtpGrows a b) (g : OtpGrows b c) : OtpGrows a c :=
  ⟨fun k w => ⟨(g.written k (h.written k w).1).1, (g.written k (h.written k w).1).2.trans (h.written k w).2⟩,
   fun k w => g.retired k (h.retired k w), h.deny.trans g.deny⟩

theorem Lasting.refl (s : State) : Lasting s s := ⟨id, id, fun _ => Nat.le_refl _, Nat.le_refl _, OtpGrows.refl _⟩

theorem Lasting.trans {s u t : State} (h : Lasting s u) (g : Lasting u t) : Lasting s t :=
  ⟨fun x => g.tables (h.tables x), fun x => g.journals (h.journals x), fun j => Nat.le_trans (h.next j) (g.next j),
   Nat.le_trans h.rollback g.rollback, h.otp.trans g.otp⟩

/-- The fields that what lasts is read from. -/
abbrev State.lasting (s : State) : List (Tab LedgerEntry) × Tab Page × (List JRec × Nat) × (List JRec × Nat) ×
    (List JRec × Nat) × Nat × (BitVec 4 × BitVec 4 × Tab Bytes × List (BitVec 64)) :=
  ([s.site.ledger, s.ledgerOther], s.site.pages, (s.jnl.safety.recs, s.jnl.safety.next),
   (s.jnl.event.recs, s.jnl.event.next), (s.jnl.audit.recs, s.jnl.audit.next), s.upd.rollback,
   (s.acc.written, s.acc.retired, s.acc.roots, s.acc.denyOtp))

theorem Ring.inSequence_congr {r q : Ring} (h : r.recs = q.recs) (g : r.next = q.next) :
    r.inSequence = q.inSequence := by
  simp [Ring.inSequence, h, g]

theorem Lasting.of_eq {s t : State} (h : s.lasting = t.lasting) : Lasting s t := by
  simp only [State.lasting, Prod.mk.injEq, List.cons.injEq] at h
  obtain ⟨⟨h1, h2, -⟩, h3, ⟨a1, a2⟩, ⟨b1, b2⟩, ⟨c1, c2⟩, h4, h5, h6, h7, h8⟩ := h
  refine ⟨fun h => ?_, fun h j => ?_, fun j => ?_, Nat.le_of_eq h4, ⟨fun k w => ?_, fun k w => ?_, ?_⟩⟩
  · exact ⟨h1 ▸ h.1, h2 ▸ h.2.1, h3 ▸ h.2.2⟩
  · rw [← h j]
    cases j
    · exact (Ring.inSequence_congr a1 a2).symm
    · exact (Ring.inSequence_congr b1 b2).symm
    · exact (Ring.inSequence_congr c1 c2).symm
  · cases j
    · exact Nat.le_of_eq a2
    · exact Nat.le_of_eq b2
    · exact Nat.le_of_eq c2
  · exact ⟨h5 ▸ w, by rw [h7]⟩
  · exact h6 ▸ w
  · exact h8 ▸ List.prefix_refl _

/-- A change of the ledgers and the pages alone that keeps their canonical form. -/
theorem Lasting.of_tables {s t : State} (h : s.lasting.2.2 = t.lasting.2.2) (g : s.tablesOk → t.tablesOk) :
    Lasting s t := by
  have k : Lasting { t with site.ledger := s.site.ledger, ledgerOther := s.ledgerOther, site.pages := s.site.pages } t :=
    ⟨g, fun h j => h j, fun _ => Nat.le_refl _, Nat.le_refl _, OtpGrows.refl _⟩
  refine Lasting.trans (Lasting.of_eq ?_) k
  simp only [State.lasting, Prod.mk.injEq] at h ⊢
  exact ⟨trivial, trivial, h⟩

theorem Lasting.of_ledger {s t : State} (h : (s.ledgerOther, s.site.pages, s.lasting.2.2) = (t.ledgerOther, t.site.pages, t.lasting.2.2))
    (g : twf s.site.ledger = true → twf t.site.ledger = true) : Lasting s t := by
  simp only [Prod.mk.injEq] at h
  exact Lasting.of_tables (by simp only [Prod.mk.injEq]; exact h.2.2) fun x => ⟨g x.1, h.1 ▸ x.2.1, h.2.1 ▸ x.2.2⟩

theorem Lasting.of_pages {s t : State} (h : (s.lasting.1, s.lasting.2.2) = (t.lasting.1, t.lasting.2.2))
    (g : twf s.site.pages = true → twf t.site.pages = true) : Lasting s t := by
  simp only [Prod.mk.injEq, List.cons.injEq] at h
  exact Lasting.of_tables (by simp only [Prod.mk.injEq]; exact h.2) fun x => ⟨h.1.1 ▸ x.1, h.1.2.1 ▸ x.2.1, g x.2.2⟩

theorem seqFrom_take {n : Nat} {l : List JRec} (k : Nat) (h : seqFrom n l = true) : seqFrom n (l.take k) = true := by
  induction l generalizing n k with
  | nil => simpa using h
  | cons r l ih =>
    cases k with
    | zero => rfl
    | succ k =>
      simp only [seqFrom, Bool.and_eq_true, decide_eq_true_eq, List.take_succ_cons] at h ⊢
      exact ⟨h.1, ih k h.2⟩

theorem ringPush_inSequence (n : Nat) {r : Ring} (rec : JRec) (h : r.inSequence = true) :
    (ringPush n r rec).inSequence = true := by
  refine seqFrom_take n ?_
  simp only [seqFrom, Bool.and_eq_true, decide_eq_true_eq]
  exact ⟨rfl, h⟩

theorem Frame.refl (W : List View) (s : State) : Frame W s s := ⟨fun v _ => sameView_refl s v, Lasting.refl s⟩

theorem Frame.trans {W : List View} {s u t : State} (h : Frame W s u) (g : Frame W u t) : Frame W s t :=
  ⟨fun v hv => sameView_trans (h.same v hv) (g.same v hv), h.keeps.trans g.keeps⟩

theorem Frame.mono {W V : List View} {s t : State} (h : Frame V s t) (hv : V.all W.contains = true) : Frame W s t :=
  ⟨fun v hw => h.same v fun hm => hw (by simpa using List.all_eq_true.mp hv v hm), h.keeps⟩

/-- A frame goes on over an operation whose own frame is within it. -/
theorem Frame.step {W V : List View} {s u t : State} (h : Frame W s u) (g : Frame V u t)
    (hv : V.all W.contains = true) : Frame W s t :=
  h.trans (g.mono hv)

theorem Frame.after {W V : List View} {s u t : State} (g : Frame V u t) (h : Frame W s u)
    (hv : V.all W.contains = true) : Frame W s t :=
  h.step g hv

theorem Frame.ite {W : List View} {s a b : State} {c : Prop} [Decidable c] (ha : Frame W s a) (hb : Frame W s b) :
    Frame W s (if c then a else b) := by
  split <;> assumption

theorem Frame.foldl {α : Type} {W : List View} {s u : State} {f : State → α → State} {l : List α} (hu : Frame W s u)
    (hf : ∀ x a, Frame W s x → Frame W s (f x a)) : Frame W s (l.foldl f u) := by
  induction l generalizing u with
  | nil => exact hu
  | cons a l ih => exact ih (hf u a hu)

/-- The same over a fold whose accumulator holds the state beside a result. -/
theorem Frame.fold_fst {α β : Type} {W : List View} {s : State} {b : State × β} {f : State × β → α → State × β}
    {l : List α} (hb : Frame W s b.1) (hf : ∀ x a, Frame W s x.1 → Frame W s (f x a).1) :
    Frame W s (l.foldl f b).1 := by
  induction l generalizing b with
  | nil => exact hb
  | cons a l ih => exact ih (hf b a hb)

theorem Frame.cond {W : List View} {s a b : State} {c : Bool} (ha : Frame W s a) (hb : Frame W s b) :
    Frame W s (bif c then a else b) := by
  cases c <;> assumption

theorem Frame.getD_map {α : Type} {W : List View} {s d : State} {f : α → State} {o : Option α} (hd : Frame W s d)
    (hf : ∀ x, Frame W s (f x)) : Frame W s ((o.map f).getD d) := by
  cases o with
  | none => exact hd
  | some x => exact hf x

/-- A value hidden when its view is listed. -/
def hide {α : Type} [Inhabited α] (W : List View) (v : View) (x : α) : α := bif W.contains v then default else x

/-- The same, tested the other way round: where the two forms are compared, a hidden value is never looked at. -/
def hideR {α : Type} [Inhabited α] (W : List View) (v : View) (x : α) : α := bif !W.contains v then x else default

theorem hide_inj {α : Type} [Inhabited α] {W : List View} {v : View} {x y : α} (h : hide W v x = hideR W v y)
    (hv : v ∉ W) : x = y := by
  simpa [hide, hideR, hv] using h

def SysSt.mask (W : List View) (x : SysSt) : SysSt :=
  bif W.contains .sys then { serial := hide W .factory x.serial, orderCode := hide W .factory x.orderCode, hwIssue := hide W .factory x.hwIssue, bootRom := hide W .factory x.bootRom } else x

def TimeSt.mask (W : List View) (x : TimeSt) : TimeSt :=
  bif W.contains .time then { frame := hide W .frame x.frame, cfg := hide W .policies x.cfg } else x

def ModeSt.mask (W : List View) (x : ModeSt) : ModeSt :=
  bif W.contains .mode then { mode := hide W .modeNow x.mode, enabled := hide W .enabled x.enabled, cfg := hide W .policies x.cfg } else x

def MeasSt.mask (W : List View) (x : MeasSt) : MeasSt :=
  bif W.contains .meas then { cfg := hide W .policies x.cfg } else x

def EstSt.mask (W : List View) (x : EstSt) : EstSt :=
  bif W.contains .est then { cfg := hide W .policies x.cfg } else x

def ThmSt.mask (W : List View) (x : ThmSt) : ThmSt :=
  bif W.contains .thm then { cfg := hide W .policies x.cfg } else x

def HerdSt.mask (W : List View) (x : HerdSt) : HerdSt :=
  bif W.contains .herd then { cfg := hide W .policies x.cfg } else x

def PowerSt.mask (W : List View) (x : PowerSt) : PowerSt :=
  bif W.contains .power then { stage := hide W .stages x.stage, cfg := hide W .policies x.cfg } else x

def ProtSt.mask (W : List View) (x : ProtSt) : ProtSt :=
  bif W.contains .prot then { safeA := hide W .safeOuts x.safeA, safeB := hide W .safeOuts x.safeB, cfg := hide W .policies x.cfg } else x

def DspSt.mask (W : List View) (x : DspSt) : DspSt :=
  bif W.contains .dsp then { cfg := hide W .policies x.cfg } else x

def GrzSt.mask (W : List View) (x : GrzSt) : GrzSt :=
  bif W.contains .grz then { cfg := hide W .policies x.cfg } else x

def PairSt.mask (W : List View) (x : PairSt) : PairSt :=
  bif W.contains .pair then { state := hide W .pairState x.state, cfg := hide W .policies x.cfg } else x

def SiteSt.mask (W : List View) (x : SiteSt) : SiteSt :=
  bif W.contains .site then { sstate := hide W .session x.sstate, session := hide W .session x.session, seqTop := hide W .session x.seqTop, seqSeen := hide W .session x.seqSeen, ledger := hide W .ledger x.ledger, newest := hide W .ledger x.newest, pages := hide W .pages x.pages } else x

def BusSt.mask (W : List View) (x : BusSt) : BusSt :=
  bif W.contains .bus then { cfg := hide W .policies x.cfg } else x

def TwSt.mask (W : List View) (x : TwSt) : TwSt :=
  bif W.contains .tw then { cfg := hide W .policies x.cfg } else x

def CfgSt.mask (W : List View) (x : CfgSt) : CfgSt :=
  bif W.contains .cfg then { slot0 := hide W .slots x.slot0, slot1 := hide W .slots x.slot1, half0 := hide W .slots x.half0, half1 := hide W .slots x.half1 } else x

def UpdSt.mask (W : List View) (x : UpdSt) : UpdSt :=
  bif W.contains .upd then { bankA := hide W .banks x.bankA, bankB := hide W .banks x.bankB, velvet := hide W .banks x.velvet, rollback := hide W .rollback x.rollback } else x

def MemSt.mask (W : List View) (x : MemSt) : MemSt :=
  bif W.contains .mem then { remap := hide W .remap x.remap, remapMk := hide W .remap x.remapMk } else x

def JnlSt.mask (W : List View) (x : JnlSt) : JnlSt :=
  bif W.contains .jnl then { safeLatch := hide W .safeLatch x.safeLatch, mirror0 := hide W .wearRecs x.mirror0, mirror1 := hide W .wearRecs x.mirror1, carrier0 := hide W .wearRecs x.carrier0, carrier1 := hide W .wearRecs x.carrier1, gasp0 := hide W .wearRecs x.gasp0, gasp1 := hide W .wearRecs x.gasp1 } else x

def AccSt.mask (W : List View) (x : AccSt) : AccSt :=
  bif W.contains .acc then { written := hide W .otp x.written, retired := hide W .otp x.retired, roots := hide W .otp x.roots, denyOtp := hide W .otp x.denyOtp } else x

/-- The state with every listed view hidden. -/
def State.mask (W : List View) (s : State) : State :=
  { sys := s.sys.mask W,
    time := s.time.mask W,
    mode := s.mode.mask W,
    linkCfg := hide W .linkCfg s.linkCfg,
    link := hide W .link s.link,
    cfeCfg := hide W .cfeCfg s.cfeCfg,
    cfgReplaced := hide W .cfgReplaced s.cfgReplaced,
    cfe := hide W .cfe s.cfe,
    fe := hide W .fe s.fe,
    meas := s.meas.mask W,
    cells := hide W .cells s.cells,
    aux := hide W .aux s.aux,
    th := hide W .th s.th,
    herdTab := hide W .herdTab s.herdTab,
    mkCell := hide W .mkCell s.mkCell,
    mkTh := hide W .mkTh s.mkTh,
    est := s.est.mask W,
    thm := s.thm.mask W,
    herd := s.herd.mask W,
    power := s.power.mask W,
    prot := s.prot.mask W,
    dsp := s.dsp.mask W,
    grz := s.grz.mask W,
    pair := s.pair.mask W,
    site := s.site.mask W,
    ledgerOther := hide W .ledgerOther s.ledgerOther,
    bus := s.bus.mask W,
    tw := s.tw.mask W,
    cfg := s.cfg.mask W,
    upd := s.upd.mask W,
    mem := s.mem.mask W,
    jnl := s.jnl.mask W,
    acc := s.acc.mask W,
    psv := hide W .psv s.psv,
    pending := hide W .pending s.pending,
    free := hide W .free s.free }

def SysSt.maskR (W : List View) (x : SysSt) : SysSt :=
  bif !W.contains .sys then x else { serial := hideR W .factory x.serial, orderCode := hideR W .factory x.orderCode, hwIssue := hideR W .factory x.hwIssue, bootRom := hideR W .factory x.bootRom }

def TimeSt.maskR (W : List View) (x : TimeSt) : TimeSt :=
  bif !W.contains .time then x else { frame := hideR W .frame x.frame, cfg := hideR W .policies x.cfg }

def ModeSt.maskR (W : List View) (x : ModeSt) : ModeSt :=
  bif !W.contains .mode then x else { mode := hideR W .modeNow x.mode, enabled := hideR W .enabled x.enabled, cfg := hideR W .policies x.cfg }

def MeasSt.maskR (W : List View) (x : MeasSt) : MeasSt :=
  bif !W.contains .meas then x else { cfg := hideR W .policies x.cfg }

def EstSt.maskR (W : List View) (x : EstSt) : EstSt :=
  bif !W.contains .est then x else { cfg := hideR W .policies x.cfg }

def ThmSt.maskR (W : List View) (x : ThmSt) : ThmSt :=
  bif !W.contains .thm then x else { cfg := hideR W .policies x.cfg }

def HerdSt.maskR (W : List View) (x : HerdSt) : HerdSt :=
  bif !W.contains .herd then x else { cfg := hideR W .policies x.cfg }

def PowerSt.maskR (W : List View) (x : PowerSt) : PowerSt :=
  bif !W.contains .power then x else { stage := hideR W .stages x.stage, cfg := hideR W .policies x.cfg }

def ProtSt.maskR (W : List View) (x : ProtSt) : ProtSt :=
  bif !W.contains .prot then x else { safeA := hideR W .safeOuts x.safeA, safeB := hideR W .safeOuts x.safeB, cfg := hideR W .policies x.cfg }

def DspSt.maskR (W : List View) (x : DspSt) : DspSt :=
  bif !W.contains .dsp then x else { cfg := hideR W .policies x.cfg }

def GrzSt.maskR (W : List View) (x : GrzSt) : GrzSt :=
  bif !W.contains .grz then x else { cfg := hideR W .policies x.cfg }

def PairSt.maskR (W : List View) (x : PairSt) : PairSt :=
  bif !W.contains .pair then x else { state := hideR W .pairState x.state, cfg := hideR W .policies x.cfg }

def SiteSt.maskR (W : List View) (x : SiteSt) : SiteSt :=
  bif !W.contains .site then x else { sstate := hideR W .session x.sstate, session := hideR W .session x.session, seqTop := hideR W .session x.seqTop, seqSeen := hideR W .session x.seqSeen, ledger := hideR W .ledger x.ledger, newest := hideR W .ledger x.newest, pages := hideR W .pages x.pages }

def BusSt.maskR (W : List View) (x : BusSt) : BusSt :=
  bif !W.contains .bus then x else { cfg := hideR W .policies x.cfg }

def TwSt.maskR (W : List View) (x : TwSt) : TwSt :=
  bif !W.contains .tw then x else { cfg := hideR W .policies x.cfg }

def CfgSt.maskR (W : List View) (x : CfgSt) : CfgSt :=
  bif !W.contains .cfg then x else { slot0 := hideR W .slots x.slot0, slot1 := hideR W .slots x.slot1, half0 := hideR W .slots x.half0, half1 := hideR W .slots x.half1 }

def UpdSt.maskR (W : List View) (x : UpdSt) : UpdSt :=
  bif !W.contains .upd then x else { bankA := hideR W .banks x.bankA, bankB := hideR W .banks x.bankB, velvet := hideR W .banks x.velvet, rollback := hideR W .rollback x.rollback }

def MemSt.maskR (W : List View) (x : MemSt) : MemSt :=
  bif !W.contains .mem then x else { remap := hideR W .remap x.remap, remapMk := hideR W .remap x.remapMk }

def JnlSt.maskR (W : List View) (x : JnlSt) : JnlSt :=
  bif !W.contains .jnl then x else { safeLatch := hideR W .safeLatch x.safeLatch, mirror0 := hideR W .wearRecs x.mirror0, mirror1 := hideR W .wearRecs x.mirror1, carrier0 := hideR W .wearRecs x.carrier0, carrier1 := hideR W .wearRecs x.carrier1, gasp0 := hideR W .wearRecs x.gasp0, gasp1 := hideR W .wearRecs x.gasp1 }

def AccSt.maskR (W : List View) (x : AccSt) : AccSt :=
  bif !W.contains .acc then x else { written := hideR W .otp x.written, retired := hideR W .otp x.retired, roots := hideR W .otp x.roots, denyOtp := hideR W .otp x.denyOtp }

/-- The state with every listed view hidden (the other form). -/
def State.maskR (W : List View) (s : State) : State :=
  { sys := s.sys.maskR W,
    time := s.time.maskR W,
    mode := s.mode.maskR W,
    linkCfg := hideR W .linkCfg s.linkCfg,
    link := hideR W .link s.link,
    cfeCfg := hideR W .cfeCfg s.cfeCfg,
    cfgReplaced := hideR W .cfgReplaced s.cfgReplaced,
    cfe := hideR W .cfe s.cfe,
    fe := hideR W .fe s.fe,
    meas := s.meas.maskR W,
    cells := hideR W .cells s.cells,
    aux := hideR W .aux s.aux,
    th := hideR W .th s.th,
    herdTab := hideR W .herdTab s.herdTab,
    mkCell := hideR W .mkCell s.mkCell,
    mkTh := hideR W .mkTh s.mkTh,
    est := s.est.maskR W,
    thm := s.thm.maskR W,
    herd := s.herd.maskR W,
    power := s.power.maskR W,
    prot := s.prot.maskR W,
    dsp := s.dsp.maskR W,
    grz := s.grz.maskR W,
    pair := s.pair.maskR W,
    site := s.site.maskR W,
    ledgerOther := hideR W .ledgerOther s.ledgerOther,
    bus := s.bus.maskR W,
    tw := s.tw.maskR W,
    cfg := s.cfg.maskR W,
    upd := s.upd.maskR W,
    mem := s.mem.maskR W,
    jnl := s.jnl.maskR W,
    acc := s.acc.maskR W,
    psv := hideR W .psv s.psv,
    pending := hideR W .pending s.pending,
    free := hideR W .free s.free }

theorem SysSt.of_mask {W : List View} {x y : SysSt} (h : x.mask W = y.maskR W) (hv : View.sys ∉ W) : x = y := by
  simpa [SysSt.mask, SysSt.maskR, hv] using h

theorem SysSt.serial_of_mask {W : List View} {x y : SysSt} (h : x.mask W = y.maskR W) (hv : View.factory ∉ W) :
    x.serial = y.serial := by
  have k := congrArg (·.serial) h
  by_cases hp : View.sys ∈ W <;> simpa [SysSt.mask, SysSt.maskR, hide, hideR, hv, hp] using k

theorem SysSt.orderCode_of_mask {W : List View} {x y : SysSt} (h : x.mask W = y.maskR W) (hv : View.factory ∉ W) :
    x.orderCode = y.orderCode := by
  have k := congrArg (·.orderCode) h
  by_cases hp : View.sys ∈ W <;> simpa [SysSt.mask, SysSt.maskR, hide, hideR, hv, hp] using k

theorem SysSt.hwIssue_of_mask {W : List View} {x y : SysSt} (h : x.mask W = y.maskR W) (hv : View.factory ∉ W) :
    x.hwIssue = y.hwIssue := by
  have k := congrArg (·.hwIssue) h
  by_cases hp : View.sys ∈ W <;> simpa [SysSt.mask, SysSt.maskR, hide, hideR, hv, hp] using k

theorem SysSt.bootRom_of_mask {W : List View} {x y : SysSt} (h : x.mask W = y.maskR W) (hv : View.factory ∉ W) :
    x.bootRom = y.bootRom := by
  have k := congrArg (·.bootRom) h
  by_cases hp : View.sys ∈ W <;> simpa [SysSt.mask, SysSt.maskR, hide, hideR, hv, hp] using k

theorem TimeSt.of_mask {W : List View} {x y : TimeSt} (h : x.mask W = y.maskR W) (hv : View.time ∉ W) : x = y := by
  simpa [TimeSt.mask, TimeSt.maskR, hv] using h

theorem TimeSt.frame_of_mask {W : List View} {x y : TimeSt} (h : x.mask W = y.maskR W) (hv : View.frame ∉ W) :
    x.frame = y.frame := by
  have k := congrArg (·.frame) h
  by_cases hp : View.time ∈ W <;> simpa [TimeSt.mask, TimeSt.maskR, hide, hideR, hv, hp] using k

theorem TimeSt.cfg_of_mask {W : List View} {x y : TimeSt} (h : x.mask W = y.maskR W) (hv : View.policies ∉ W) :
    x.cfg = y.cfg := by
  have k := congrArg (·.cfg) h
  by_cases hp : View.time ∈ W <;> simpa [TimeSt.mask, TimeSt.maskR, hide, hideR, hv, hp] using k

theorem ModeSt.of_mask {W : List View} {x y : ModeSt} (h : x.mask W = y.maskR W) (hv : View.mode ∉ W) : x = y := by
  simpa [ModeSt.mask, ModeSt.maskR, hv] using h

theorem ModeSt.mode_of_mask {W : List View} {x y : ModeSt} (h : x.mask W = y.maskR W) (hv : View.modeNow ∉ W) :
    x.mode = y.mode := by
  have k := congrArg (·.mode) h
  by_cases hp : View.mode ∈ W <;> simpa [ModeSt.mask, ModeSt.maskR, hide, hideR, hv, hp] using k

theorem ModeSt.enabled_of_mask {W : List View} {x y : ModeSt} (h : x.mask W = y.maskR W) (hv : View.enabled ∉ W) :
    x.enabled = y.enabled := by
  have k := congrArg (·.enabled) h
  by_cases hp : View.mode ∈ W <;> simpa [ModeSt.mask, ModeSt.maskR, hide, hideR, hv, hp] using k

theorem ModeSt.cfg_of_mask {W : List View} {x y : ModeSt} (h : x.mask W = y.maskR W) (hv : View.policies ∉ W) :
    x.cfg = y.cfg := by
  have k := congrArg (·.cfg) h
  by_cases hp : View.mode ∈ W <;> simpa [ModeSt.mask, ModeSt.maskR, hide, hideR, hv, hp] using k

theorem MeasSt.of_mask {W : List View} {x y : MeasSt} (h : x.mask W = y.maskR W) (hv : View.meas ∉ W) : x = y := by
  simpa [MeasSt.mask, MeasSt.maskR, hv] using h

theorem MeasSt.cfg_of_mask {W : List View} {x y : MeasSt} (h : x.mask W = y.maskR W) (hv : View.policies ∉ W) :
    x.cfg = y.cfg := by
  have k := congrArg (·.cfg) h
  by_cases hp : View.meas ∈ W <;> simpa [MeasSt.mask, MeasSt.maskR, hide, hideR, hv, hp] using k

theorem EstSt.of_mask {W : List View} {x y : EstSt} (h : x.mask W = y.maskR W) (hv : View.est ∉ W) : x = y := by
  simpa [EstSt.mask, EstSt.maskR, hv] using h

theorem EstSt.cfg_of_mask {W : List View} {x y : EstSt} (h : x.mask W = y.maskR W) (hv : View.policies ∉ W) :
    x.cfg = y.cfg := by
  have k := congrArg (·.cfg) h
  by_cases hp : View.est ∈ W <;> simpa [EstSt.mask, EstSt.maskR, hide, hideR, hv, hp] using k

theorem ThmSt.of_mask {W : List View} {x y : ThmSt} (h : x.mask W = y.maskR W) (hv : View.thm ∉ W) : x = y := by
  simpa [ThmSt.mask, ThmSt.maskR, hv] using h

theorem ThmSt.cfg_of_mask {W : List View} {x y : ThmSt} (h : x.mask W = y.maskR W) (hv : View.policies ∉ W) :
    x.cfg = y.cfg := by
  have k := congrArg (·.cfg) h
  by_cases hp : View.thm ∈ W <;> simpa [ThmSt.mask, ThmSt.maskR, hide, hideR, hv, hp] using k

theorem HerdSt.of_mask {W : List View} {x y : HerdSt} (h : x.mask W = y.maskR W) (hv : View.herd ∉ W) : x = y := by
  simpa [HerdSt.mask, HerdSt.maskR, hv] using h

theorem HerdSt.cfg_of_mask {W : List View} {x y : HerdSt} (h : x.mask W = y.maskR W) (hv : View.policies ∉ W) :
    x.cfg = y.cfg := by
  have k := congrArg (·.cfg) h
  by_cases hp : View.herd ∈ W <;> simpa [HerdSt.mask, HerdSt.maskR, hide, hideR, hv, hp] using k

theorem PowerSt.of_mask {W : List View} {x y : PowerSt} (h : x.mask W = y.maskR W) (hv : View.power ∉ W) : x = y := by
  simpa [PowerSt.mask, PowerSt.maskR, hv] using h

theorem PowerSt.stage_of_mask {W : List View} {x y : PowerSt} (h : x.mask W = y.maskR W) (hv : View.stages ∉ W) :
    x.stage = y.stage := by
  have k := congrArg (·.stage) h
  by_cases hp : View.power ∈ W <;> simpa [PowerSt.mask, PowerSt.maskR, hide, hideR, hv, hp] using k

theorem PowerSt.cfg_of_mask {W : List View} {x y : PowerSt} (h : x.mask W = y.maskR W) (hv : View.policies ∉ W) :
    x.cfg = y.cfg := by
  have k := congrArg (·.cfg) h
  by_cases hp : View.power ∈ W <;> simpa [PowerSt.mask, PowerSt.maskR, hide, hideR, hv, hp] using k

theorem ProtSt.of_mask {W : List View} {x y : ProtSt} (h : x.mask W = y.maskR W) (hv : View.prot ∉ W) : x = y := by
  simpa [ProtSt.mask, ProtSt.maskR, hv] using h

theorem ProtSt.safeA_of_mask {W : List View} {x y : ProtSt} (h : x.mask W = y.maskR W) (hv : View.safeOuts ∉ W) :
    x.safeA = y.safeA := by
  have k := congrArg (·.safeA) h
  by_cases hp : View.prot ∈ W <;> simpa [ProtSt.mask, ProtSt.maskR, hide, hideR, hv, hp] using k

theorem ProtSt.safeB_of_mask {W : List View} {x y : ProtSt} (h : x.mask W = y.maskR W) (hv : View.safeOuts ∉ W) :
    x.safeB = y.safeB := by
  have k := congrArg (·.safeB) h
  by_cases hp : View.prot ∈ W <;> simpa [ProtSt.mask, ProtSt.maskR, hide, hideR, hv, hp] using k

theorem ProtSt.cfg_of_mask {W : List View} {x y : ProtSt} (h : x.mask W = y.maskR W) (hv : View.policies ∉ W) :
    x.cfg = y.cfg := by
  have k := congrArg (·.cfg) h
  by_cases hp : View.prot ∈ W <;> simpa [ProtSt.mask, ProtSt.maskR, hide, hideR, hv, hp] using k

theorem DspSt.of_mask {W : List View} {x y : DspSt} (h : x.mask W = y.maskR W) (hv : View.dsp ∉ W) : x = y := by
  simpa [DspSt.mask, DspSt.maskR, hv] using h

theorem DspSt.cfg_of_mask {W : List View} {x y : DspSt} (h : x.mask W = y.maskR W) (hv : View.policies ∉ W) :
    x.cfg = y.cfg := by
  have k := congrArg (·.cfg) h
  by_cases hp : View.dsp ∈ W <;> simpa [DspSt.mask, DspSt.maskR, hide, hideR, hv, hp] using k

theorem GrzSt.of_mask {W : List View} {x y : GrzSt} (h : x.mask W = y.maskR W) (hv : View.grz ∉ W) : x = y := by
  simpa [GrzSt.mask, GrzSt.maskR, hv] using h

theorem GrzSt.cfg_of_mask {W : List View} {x y : GrzSt} (h : x.mask W = y.maskR W) (hv : View.policies ∉ W) :
    x.cfg = y.cfg := by
  have k := congrArg (·.cfg) h
  by_cases hp : View.grz ∈ W <;> simpa [GrzSt.mask, GrzSt.maskR, hide, hideR, hv, hp] using k

theorem PairSt.of_mask {W : List View} {x y : PairSt} (h : x.mask W = y.maskR W) (hv : View.pair ∉ W) : x = y := by
  simpa [PairSt.mask, PairSt.maskR, hv] using h

theorem PairSt.state_of_mask {W : List View} {x y : PairSt} (h : x.mask W = y.maskR W) (hv : View.pairState ∉ W) :
    x.state = y.state := by
  have k := congrArg (·.state) h
  by_cases hp : View.pair ∈ W <;> simpa [PairSt.mask, PairSt.maskR, hide, hideR, hv, hp] using k

theorem PairSt.cfg_of_mask {W : List View} {x y : PairSt} (h : x.mask W = y.maskR W) (hv : View.policies ∉ W) :
    x.cfg = y.cfg := by
  have k := congrArg (·.cfg) h
  by_cases hp : View.pair ∈ W <;> simpa [PairSt.mask, PairSt.maskR, hide, hideR, hv, hp] using k

theorem SiteSt.of_mask {W : List View} {x y : SiteSt} (h : x.mask W = y.maskR W) (hv : View.site ∉ W) : x = y := by
  simpa [SiteSt.mask, SiteSt.maskR, hv] using h

theorem SiteSt.sstate_of_mask {W : List View} {x y : SiteSt} (h : x.mask W = y.maskR W) (hv : View.session ∉ W) :
    x.sstate = y.sstate := by
  have k := congrArg (·.sstate) h
  by_cases hp : View.site ∈ W <;> simpa [SiteSt.mask, SiteSt.maskR, hide, hideR, hv, hp] using k

theorem SiteSt.session_of_mask {W : List View} {x y : SiteSt} (h : x.mask W = y.maskR W) (hv : View.session ∉ W) :
    x.session = y.session := by
  have k := congrArg (·.session) h
  by_cases hp : View.site ∈ W <;> simpa [SiteSt.mask, SiteSt.maskR, hide, hideR, hv, hp] using k

theorem SiteSt.seqTop_of_mask {W : List View} {x y : SiteSt} (h : x.mask W = y.maskR W) (hv : View.session ∉ W) :
    x.seqTop = y.seqTop := by
  have k := congrArg (·.seqTop) h
  by_cases hp : View.site ∈ W <;> simpa [SiteSt.mask, SiteSt.maskR, hide, hideR, hv, hp] using k

theorem SiteSt.seqSeen_of_mask {W : List View} {x y : SiteSt} (h : x.mask W = y.maskR W) (hv : View.session ∉ W) :
    x.seqSeen = y.seqSeen := by
  have k := congrArg (·.seqSeen) h
  by_cases hp : View.site ∈ W <;> simpa [SiteSt.mask, SiteSt.maskR, hide, hideR, hv, hp] using k

theorem SiteSt.ledger_of_mask {W : List View} {x y : SiteSt} (h : x.mask W = y.maskR W) (hv : View.ledger ∉ W) :
    x.ledger = y.ledger := by
  have k := congrArg (·.ledger) h
  by_cases hp : View.site ∈ W <;> simpa [SiteSt.mask, SiteSt.maskR, hide, hideR, hv, hp] using k

theorem SiteSt.newest_of_mask {W : List View} {x y : SiteSt} (h : x.mask W = y.maskR W) (hv : View.ledger ∉ W) :
    x.newest = y.newest := by
  have k := congrArg (·.newest) h
  by_cases hp : View.site ∈ W <;> simpa [SiteSt.mask, SiteSt.maskR, hide, hideR, hv, hp] using k

theorem SiteSt.pages_of_mask {W : List View} {x y : SiteSt} (h : x.mask W = y.maskR W) (hv : View.pages ∉ W) :
    x.pages = y.pages := by
  have k := congrArg (·.pages) h
  by_cases hp : View.site ∈ W <;> simpa [SiteSt.mask, SiteSt.maskR, hide, hideR, hv, hp] using k

theorem BusSt.of_mask {W : List View} {x y : BusSt} (h : x.mask W = y.maskR W) (hv : View.bus ∉ W) : x = y := by
  simpa [BusSt.mask, BusSt.maskR, hv] using h

theorem BusSt.cfg_of_mask {W : List View} {x y : BusSt} (h : x.mask W = y.maskR W) (hv : View.policies ∉ W) :
    x.cfg = y.cfg := by
  have k := congrArg (·.cfg) h
  by_cases hp : View.bus ∈ W <;> simpa [BusSt.mask, BusSt.maskR, hide, hideR, hv, hp] using k

theorem TwSt.of_mask {W : List View} {x y : TwSt} (h : x.mask W = y.maskR W) (hv : View.tw ∉ W) : x = y := by
  simpa [TwSt.mask, TwSt.maskR, hv] using h

theorem TwSt.cfg_of_mask {W : List View} {x y : TwSt} (h : x.mask W = y.maskR W) (hv : View.policies ∉ W) :
    x.cfg = y.cfg := by
  have k := congrArg (·.cfg) h
  by_cases hp : View.tw ∈ W <;> simpa [TwSt.mask, TwSt.maskR, hide, hideR, hv, hp] using k

theorem CfgSt.of_mask {W : List View} {x y : CfgSt} (h : x.mask W = y.maskR W) (hv : View.cfg ∉ W) : x = y := by
  simpa [CfgSt.mask, CfgSt.maskR, hv] using h

theorem CfgSt.slot0_of_mask {W : List View} {x y : CfgSt} (h : x.mask W = y.maskR W) (hv : View.slots ∉ W) :
    x.slot0 = y.slot0 := by
  have k := congrArg (·.slot0) h
  by_cases hp : View.cfg ∈ W <;> simpa [CfgSt.mask, CfgSt.maskR, hide, hideR, hv, hp] using k

theorem CfgSt.slot1_of_mask {W : List View} {x y : CfgSt} (h : x.mask W = y.maskR W) (hv : View.slots ∉ W) :
    x.slot1 = y.slot1 := by
  have k := congrArg (·.slot1) h
  by_cases hp : View.cfg ∈ W <;> simpa [CfgSt.mask, CfgSt.maskR, hide, hideR, hv, hp] using k

theorem CfgSt.half0_of_mask {W : List View} {x y : CfgSt} (h : x.mask W = y.maskR W) (hv : View.slots ∉ W) :
    x.half0 = y.half0 := by
  have k := congrArg (·.half0) h
  by_cases hp : View.cfg ∈ W <;> simpa [CfgSt.mask, CfgSt.maskR, hide, hideR, hv, hp] using k

theorem CfgSt.half1_of_mask {W : List View} {x y : CfgSt} (h : x.mask W = y.maskR W) (hv : View.slots ∉ W) :
    x.half1 = y.half1 := by
  have k := congrArg (·.half1) h
  by_cases hp : View.cfg ∈ W <;> simpa [CfgSt.mask, CfgSt.maskR, hide, hideR, hv, hp] using k

theorem UpdSt.of_mask {W : List View} {x y : UpdSt} (h : x.mask W = y.maskR W) (hv : View.upd ∉ W) : x = y := by
  simpa [UpdSt.mask, UpdSt.maskR, hv] using h

theorem UpdSt.bankA_of_mask {W : List View} {x y : UpdSt} (h : x.mask W = y.maskR W) (hv : View.banks ∉ W) :
    x.bankA = y.bankA := by
  have k := congrArg (·.bankA) h
  by_cases hp : View.upd ∈ W <;> simpa [UpdSt.mask, UpdSt.maskR, hide, hideR, hv, hp] using k

theorem UpdSt.bankB_of_mask {W : List View} {x y : UpdSt} (h : x.mask W = y.maskR W) (hv : View.banks ∉ W) :
    x.bankB = y.bankB := by
  have k := congrArg (·.bankB) h
  by_cases hp : View.upd ∈ W <;> simpa [UpdSt.mask, UpdSt.maskR, hide, hideR, hv, hp] using k

theorem UpdSt.velvet_of_mask {W : List View} {x y : UpdSt} (h : x.mask W = y.maskR W) (hv : View.banks ∉ W) :
    x.velvet = y.velvet := by
  have k := congrArg (·.velvet) h
  by_cases hp : View.upd ∈ W <;> simpa [UpdSt.mask, UpdSt.maskR, hide, hideR, hv, hp] using k

theorem UpdSt.rollback_of_mask {W : List View} {x y : UpdSt} (h : x.mask W = y.maskR W) (hv : View.rollback ∉ W) :
    x.rollback = y.rollback := by
  have k := congrArg (·.rollback) h
  by_cases hp : View.upd ∈ W <;> simpa [UpdSt.mask, UpdSt.maskR, hide, hideR, hv, hp] using k

theorem MemSt.of_mask {W : List View} {x y : MemSt} (h : x.mask W = y.maskR W) (hv : View.mem ∉ W) : x = y := by
  simpa [MemSt.mask, MemSt.maskR, hv] using h

theorem MemSt.remap_of_mask {W : List View} {x y : MemSt} (h : x.mask W = y.maskR W) (hv : View.remap ∉ W) :
    x.remap = y.remap := by
  have k := congrArg (·.remap) h
  by_cases hp : View.mem ∈ W <;> simpa [MemSt.mask, MemSt.maskR, hide, hideR, hv, hp] using k

theorem MemSt.remapMk_of_mask {W : List View} {x y : MemSt} (h : x.mask W = y.maskR W) (hv : View.remap ∉ W) :
    x.remapMk = y.remapMk := by
  have k := congrArg (·.remapMk) h
  by_cases hp : View.mem ∈ W <;> simpa [MemSt.mask, MemSt.maskR, hide, hideR, hv, hp] using k

theorem JnlSt.of_mask {W : List View} {x y : JnlSt} (h : x.mask W = y.maskR W) (hv : View.jnl ∉ W) : x = y := by
  simpa [JnlSt.mask, JnlSt.maskR, hv] using h

theorem JnlSt.safeLatch_of_mask {W : List View} {x y : JnlSt} (h : x.mask W = y.maskR W) (hv : View.safeLatch ∉ W) :
    x.safeLatch = y.safeLatch := by
  have k := congrArg (·.safeLatch) h
  by_cases hp : View.jnl ∈ W <;> simpa [JnlSt.mask, JnlSt.maskR, hide, hideR, hv, hp] using k

theorem JnlSt.mirror0_of_mask {W : List View} {x y : JnlSt} (h : x.mask W = y.maskR W) (hv : View.wearRecs ∉ W) :
    x.mirror0 = y.mirror0 := by
  have k := congrArg (·.mirror0) h
  by_cases hp : View.jnl ∈ W <;> simpa [JnlSt.mask, JnlSt.maskR, hide, hideR, hv, hp] using k

theorem JnlSt.mirror1_of_mask {W : List View} {x y : JnlSt} (h : x.mask W = y.maskR W) (hv : View.wearRecs ∉ W) :
    x.mirror1 = y.mirror1 := by
  have k := congrArg (·.mirror1) h
  by_cases hp : View.jnl ∈ W <;> simpa [JnlSt.mask, JnlSt.maskR, hide, hideR, hv, hp] using k

theorem JnlSt.carrier0_of_mask {W : List View} {x y : JnlSt} (h : x.mask W = y.maskR W) (hv : View.wearRecs ∉ W) :
    x.carrier0 = y.carrier0 := by
  have k := congrArg (·.carrier0) h
  by_cases hp : View.jnl ∈ W <;> simpa [JnlSt.mask, JnlSt.maskR, hide, hideR, hv, hp] using k

theorem JnlSt.carrier1_of_mask {W : List View} {x y : JnlSt} (h : x.mask W = y.maskR W) (hv : View.wearRecs ∉ W) :
    x.carrier1 = y.carrier1 := by
  have k := congrArg (·.carrier1) h
  by_cases hp : View.jnl ∈ W <;> simpa [JnlSt.mask, JnlSt.maskR, hide, hideR, hv, hp] using k

theorem JnlSt.gasp0_of_mask {W : List View} {x y : JnlSt} (h : x.mask W = y.maskR W) (hv : View.wearRecs ∉ W) :
    x.gasp0 = y.gasp0 := by
  have k := congrArg (·.gasp0) h
  by_cases hp : View.jnl ∈ W <;> simpa [JnlSt.mask, JnlSt.maskR, hide, hideR, hv, hp] using k

theorem JnlSt.gasp1_of_mask {W : List View} {x y : JnlSt} (h : x.mask W = y.maskR W) (hv : View.wearRecs ∉ W) :
    x.gasp1 = y.gasp1 := by
  have k := congrArg (·.gasp1) h
  by_cases hp : View.jnl ∈ W <;> simpa [JnlSt.mask, JnlSt.maskR, hide, hideR, hv, hp] using k

theorem AccSt.of_mask {W : List View} {x y : AccSt} (h : x.mask W = y.maskR W) (hv : View.acc ∉ W) : x = y := by
  simpa [AccSt.mask, AccSt.maskR, hv] using h

theorem AccSt.written_of_mask {W : List View} {x y : AccSt} (h : x.mask W = y.maskR W) (hv : View.otp ∉ W) :
    x.written = y.written := by
  have k := congrArg (·.written) h
  by_cases hp : View.acc ∈ W <;> simpa [AccSt.mask, AccSt.maskR, hide, hideR, hv, hp] using k

theorem AccSt.retired_of_mask {W : List View} {x y : AccSt} (h : x.mask W = y.maskR W) (hv : View.otp ∉ W) :
    x.retired = y.retired := by
  have k := congrArg (·.retired) h
  by_cases hp : View.acc ∈ W <;> simpa [AccSt.mask, AccSt.maskR, hide, hideR, hv, hp] using k

theorem AccSt.roots_of_mask {W : List View} {x y : AccSt} (h : x.mask W = y.maskR W) (hv : View.otp ∉ W) :
    x.roots = y.roots := by
  have k := congrArg (·.roots) h
  by_cases hp : View.acc ∈ W <;> simpa [AccSt.mask, AccSt.maskR, hide, hideR, hv, hp] using k

theorem AccSt.denyOtp_of_mask {W : List View} {x y : AccSt} (h : x.mask W = y.maskR W) (hv : View.otp ∉ W) :
    x.denyOtp = y.denyOtp := by
  have k := congrArg (·.denyOtp) h
  by_cases hp : View.acc ∈ W <;> simpa [AccSt.mask, AccSt.maskR, hide, hideR, hv, hp] using k

/-- A record update is within a frame that lists what it changes. -/
theorem Frame.updL {W : List View} {s u t : State} (h : Frame W s u) (e : u.mask W = t.maskR W) (l : Lasting u t) :
    Frame W s t := by
  refine h.trans ⟨fun v hv => ?_, l⟩
  cases v with
  | sys => exact SysSt.of_mask (congrArg State.sys e) hv
  | time => exact TimeSt.of_mask (congrArg State.time e) hv
  | mode => exact ModeSt.of_mask (congrArg State.mode e) hv
  | linkCfg => exact hide_inj (congrArg State.linkCfg e) hv
  | link => exact hide_inj (congrArg State.link e) hv
  | cfeCfg => exact hide_inj (congrArg State.cfeCfg e) hv
  | cfgReplaced => exact hide_inj (congrArg State.cfgReplaced e) hv
  | cfe => exact hide_inj (congrArg State.cfe e) hv
  | fe => exact hide_inj (congrArg State.fe e) hv
  | meas => exact MeasSt.of_mask (congrArg State.meas e) hv
  | cells => exact hide_inj (congrArg State.cells e) hv
  | aux => exact hide_inj (congrArg State.aux e) hv
  | th => exact hide_inj (congrArg State.th e) hv
  | herdTab => exact hide_inj (congrArg State.herdTab e) hv
  | mkCell => exact hide_inj (congrArg State.mkCell e) hv
  | mkTh => exact hide_inj (congrArg State.mkTh e) hv
  | est => exact EstSt.of_mask (congrArg State.est e) hv
  | thm => exact ThmSt.of_mask (congrArg State.thm e) hv
  | herd => exact HerdSt.of_mask (congrArg State.herd e) hv
  | power => exact PowerSt.of_mask (congrArg State.power e) hv
  | prot => exact ProtSt.of_mask (congrArg State.prot e) hv
  | dsp => exact DspSt.of_mask (congrArg State.dsp e) hv
  | grz => exact GrzSt.of_mask (congrArg State.grz e) hv
  | pair => exact PairSt.of_mask (congrArg State.pair e) hv
  | site => exact SiteSt.of_mask (congrArg State.site e) hv
  | ledgerOther => exact hide_inj (congrArg State.ledgerOther e) hv
  | bus => exact BusSt.of_mask (congrArg State.bus e) hv
  | tw => exact TwSt.of_mask (congrArg State.tw e) hv
  | cfg => exact CfgSt.of_mask (congrArg State.cfg e) hv
  | upd => exact UpdSt.of_mask (congrArg State.upd e) hv
  | mem => exact MemSt.of_mask (congrArg State.mem e) hv
  | jnl => exact JnlSt.of_mask (congrArg State.jnl e) hv
  | acc => exact AccSt.of_mask (congrArg State.acc e) hv
  | psv => exact hide_inj (congrArg State.psv e) hv
  | pending => exact hide_inj (congrArg State.pending e) hv
  | free => exact hide_inj (congrArg State.free e) hv
  | frame => exact TimeSt.frame_of_mask (congrArg State.time e) hv
  | modeNow => exact ModeSt.mode_of_mask (congrArg State.mode e) hv
  | enabled => exact ModeSt.enabled_of_mask (congrArg State.mode e) hv
  | stages => exact PowerSt.stage_of_mask (congrArg State.power e) hv
  | safeOuts =>
    exact ⟨ProtSt.safeA_of_mask (congrArg State.prot e) hv,
      ProtSt.safeB_of_mask (congrArg State.prot e) hv⟩
  | pairState => exact PairSt.state_of_mask (congrArg State.pair e) hv
  | session =>
    exact ⟨SiteSt.sstate_of_mask (congrArg State.site e) hv,
      SiteSt.session_of_mask (congrArg State.site e) hv,
      SiteSt.seqTop_of_mask (congrArg State.site e) hv,
      SiteSt.seqSeen_of_mask (congrArg State.site e) hv⟩
  | ledger =>
    exact ⟨SiteSt.ledger_of_mask (congrArg State.site e) hv,
      SiteSt.newest_of_mask (congrArg State.site e) hv⟩
  | pages => exact SiteSt.pages_of_mask (congrArg State.site e) hv
  | slots =>
    exact ⟨CfgSt.slot0_of_mask (congrArg State.cfg e) hv,
      CfgSt.slot1_of_mask (congrArg State.cfg e) hv,
      CfgSt.half0_of_mask (congrArg State.cfg e) hv,
      CfgSt.half1_of_mask (congrArg State.cfg e) hv⟩
  | banks =>
    exact ⟨UpdSt.bankA_of_mask (congrArg State.upd e) hv,
      UpdSt.bankB_of_mask (congrArg State.upd e) hv,
      UpdSt.velvet_of_mask (congrArg State.upd e) hv⟩
  | rollback => exact UpdSt.rollback_of_mask (congrArg State.upd e) hv
  | remap =>
    exact ⟨MemSt.remap_of_mask (congrArg State.mem e) hv,
      MemSt.remapMk_of_mask (congrArg State.mem e) hv⟩
  | safeLatch => exact JnlSt.safeLatch_of_mask (congrArg State.jnl e) hv
  | wearRecs =>
    exact ⟨JnlSt.mirror0_of_mask (congrArg State.jnl e) hv,
      JnlSt.mirror1_of_mask (congrArg State.jnl e) hv,
      JnlSt.carrier0_of_mask (congrArg State.jnl e) hv,
      JnlSt.carrier1_of_mask (congrArg State.jnl e) hv,
      JnlSt.gasp0_of_mask (congrArg State.jnl e) hv,
      JnlSt.gasp1_of_mask (congrArg State.jnl e) hv⟩
  | otp =>
    exact ⟨AccSt.written_of_mask (congrArg State.acc e) hv,
      AccSt.retired_of_mask (congrArg State.acc e) hv,
      AccSt.roots_of_mask (congrArg State.acc e) hv,
      AccSt.denyOtp_of_mask (congrArg State.acc e) hv⟩
  | factory =>
    exact ⟨SysSt.serial_of_mask (congrArg State.sys e) hv,
      SysSt.orderCode_of_mask (congrArg State.sys e) hv,
      SysSt.hwIssue_of_mask (congrArg State.sys e) hv,
      SysSt.bootRom_of_mask (congrArg State.sys e) hv⟩
  | policies =>
    exact ⟨TimeSt.cfg_of_mask (congrArg State.time e) hv,
      ModeSt.cfg_of_mask (congrArg State.mode e) hv,
      MeasSt.cfg_of_mask (congrArg State.meas e) hv,
      EstSt.cfg_of_mask (congrArg State.est e) hv,
      ThmSt.cfg_of_mask (congrArg State.thm e) hv,
      HerdSt.cfg_of_mask (congrArg State.herd e) hv,
      PowerSt.cfg_of_mask (congrArg State.power e) hv,
      ProtSt.cfg_of_mask (congrArg State.prot e) hv,
      DspSt.cfg_of_mask (congrArg State.dsp e) hv,
      GrzSt.cfg_of_mask (congrArg State.grz e) hv,
      PairSt.cfg_of_mask (congrArg State.pair e) hv,
      BusSt.cfg_of_mask (congrArg State.bus e) hv,
      TwSt.cfg_of_mask (congrArg State.tw e) hv⟩

/-- The same where the update touches nothing that what lasts is read from. -/
theorem Frame.upd {W : List View} {s u t : State} (h : Frame W s u) (e : (u.mask W, u.lasting) = (t.maskR W, t.lasting)) :
    Frame W s t :=
  h.updL (Prod.mk.inj e).1 (Lasting.of_eq (Prod.mk.inj e).2)

/-! ### What a frame says, view by view -/

theorem Frame.sys_eq {W : List View} {s t : State} (h : Frame W s t) (hv : View.sys ∉ W) : t.sys = s.sys :=
  (h.same .sys hv).symm
theorem Frame.time_eq {W : List View} {s t : State} (h : Frame W s t) (hv : View.time ∉ W) : t.time = s.time :=
  (h.same .time hv).symm
theorem Frame.mode_eq {W : List View} {s t : State} (h : Frame W s t) (hv : View.mode ∉ W) : t.mode = s.mode :=
  (h.same .mode hv).symm
theorem Frame.linkCfg_eq {W : List View} {s t : State} (h : Frame W s t) (hv : View.linkCfg ∉ W) : t.linkCfg = s.linkCfg :=
  (h.same .linkCfg hv).symm
theorem Frame.link_eq {W : List View} {s t : State} (h : Frame W s t) (hv : View.link ∉ W) : t.link = s.link :=
  (h.same .link hv).symm
theorem Frame.cfeCfg_eq {W : List View} {s t : State} (h : Frame W s t) (hv : View.cfeCfg ∉ W) : t.cfeCfg = s.cfeCfg :=
  (h.same .cfeCfg hv).symm
theorem Frame.cfgReplaced_eq {W : List View} {s t : State} (h : Frame W s t) (hv : View.cfgReplaced ∉ W) : t.cfgReplaced = s.cfgReplaced :=
  (h.same .cfgReplaced hv).symm
theorem Frame.cfe_eq {W : List View} {s t : State} (h : Frame W s t) (hv : View.cfe ∉ W) : t.cfe = s.cfe :=
  (h.same .cfe hv).symm
theorem Frame.fe_eq {W : List View} {s t : State} (h : Frame W s t) (hv : View.fe ∉ W) : t.fe = s.fe :=
  (h.same .fe hv).symm
theorem Frame.meas_eq {W : List View} {s t : State} (h : Frame W s t) (hv : View.meas ∉ W) : t.meas = s.meas :=
  (h.same .meas hv).symm
theorem Frame.cells_eq {W : List View} {s t : State} (h : Frame W s t) (hv : View.cells ∉ W) : t.cells = s.cells :=
  (h.same .cells hv).symm
theorem Frame.aux_eq {W : List View} {s t : State} (h : Frame W s t) (hv : View.aux ∉ W) : t.aux = s.aux :=
  (h.same .aux hv).symm
theorem Frame.th_eq {W : List View} {s t : State} (h : Frame W s t) (hv : View.th ∉ W) : t.th = s.th :=
  (h.same .th hv).symm
theorem Frame.herdTab_eq {W : List View} {s t : State} (h : Frame W s t) (hv : View.herdTab ∉ W) : t.herdTab = s.herdTab :=
  (h.same .herdTab hv).symm
theorem Frame.mkCell_eq {W : List View} {s t : State} (h : Frame W s t) (hv : View.mkCell ∉ W) : t.mkCell = s.mkCell :=
  (h.same .mkCell hv).symm
theorem Frame.mkTh_eq {W : List View} {s t : State} (h : Frame W s t) (hv : View.mkTh ∉ W) : t.mkTh = s.mkTh :=
  (h.same .mkTh hv).symm
theorem Frame.est_eq {W : List View} {s t : State} (h : Frame W s t) (hv : View.est ∉ W) : t.est = s.est :=
  (h.same .est hv).symm
theorem Frame.thm_eq {W : List View} {s t : State} (h : Frame W s t) (hv : View.thm ∉ W) : t.thm = s.thm :=
  (h.same .thm hv).symm
theorem Frame.herd_eq {W : List View} {s t : State} (h : Frame W s t) (hv : View.herd ∉ W) : t.herd = s.herd :=
  (h.same .herd hv).symm
theorem Frame.power_eq {W : List View} {s t : State} (h : Frame W s t) (hv : View.power ∉ W) : t.power = s.power :=
  (h.same .power hv).symm
theorem Frame.prot_eq {W : List View} {s t : State} (h : Frame W s t) (hv : View.prot ∉ W) : t.prot = s.prot :=
  (h.same .prot hv).symm
theorem Frame.dsp_eq {W : List View} {s t : State} (h : Frame W s t) (hv : View.dsp ∉ W) : t.dsp = s.dsp :=
  (h.same .dsp hv).symm
theorem Frame.grz_eq {W : List View} {s t : State} (h : Frame W s t) (hv : View.grz ∉ W) : t.grz = s.grz :=
  (h.same .grz hv).symm
theorem Frame.pair_eq {W : List View} {s t : State} (h : Frame W s t) (hv : View.pair ∉ W) : t.pair = s.pair :=
  (h.same .pair hv).symm
theorem Frame.site_eq {W : List View} {s t : State} (h : Frame W s t) (hv : View.site ∉ W) : t.site = s.site :=
  (h.same .site hv).symm
theorem Frame.ledgerOther_eq {W : List View} {s t : State} (h : Frame W s t) (hv : View.ledgerOther ∉ W) : t.ledgerOther = s.ledgerOther :=
  (h.same .ledgerOther hv).symm
theorem Frame.bus_eq {W : List View} {s t : State} (h : Frame W s t) (hv : View.bus ∉ W) : t.bus = s.bus :=
  (h.same .bus hv).symm
theorem Frame.tw_eq {W : List View} {s t : State} (h : Frame W s t) (hv : View.tw ∉ W) : t.tw = s.tw :=
  (h.same .tw hv).symm
theorem Frame.cfg_eq {W : List View} {s t : State} (h : Frame W s t) (hv : View.cfg ∉ W) : t.cfg = s.cfg :=
  (h.same .cfg hv).symm
theorem Frame.upd_eq {W : List View} {s t : State} (h : Frame W s t) (hv : View.upd ∉ W) : t.upd = s.upd :=
  (h.same .upd hv).symm
theorem Frame.mem_eq {W : List View} {s t : State} (h : Frame W s t) (hv : View.mem ∉ W) : t.mem = s.mem :=
  (h.same .mem hv).symm
theorem Frame.jnl_eq {W : List View} {s t : State} (h : Frame W s t) (hv : View.jnl ∉ W) : t.jnl = s.jnl :=
  (h.same .jnl hv).symm
theorem Frame.acc_eq {W : List View} {s t : State} (h : Frame W s t) (hv : View.acc ∉ W) : t.acc = s.acc :=
  (h.same .acc hv).symm
theorem Frame.psv_eq {W : List View} {s t : State} (h : Frame W s t) (hv : View.psv ∉ W) : t.psv = s.psv :=
  (h.same .psv hv).symm
theorem Frame.pending_eq {W : List View} {s t : State} (h : Frame W s t) (hv : View.pending ∉ W) : t.pending = s.pending :=
  (h.same .pending hv).symm
theorem Frame.free_eq {W : List View} {s t : State} (h : Frame W s t) (hv : View.free ∉ W) : t.free = s.free :=
  (h.same .free hv).symm
theorem Frame.frame_eq {W : List View} {s t : State} (h : Frame W s t) (hv : View.frame ∉ W) : t.time.frame = s.time.frame :=
  (h.same .frame hv).symm
theorem Frame.modeNow_eq {W : List View} {s t : State} (h : Frame W s t) (hv : View.modeNow ∉ W) : t.mode.mode = s.mode.mode :=
  (h.same .modeNow hv).symm
theorem Frame.enabled_eq {W : List View} {s t : State} (h : Frame W s t) (hv : View.enabled ∉ W) : t.mode.enabled = s.mode.enabled :=
  (h.same .enabled hv).symm
theorem Frame.stages_eq {W : List View} {s t : State} (h : Frame W s t) (hv : View.stages ∉ W) : t.power.stage = s.power.stage :=
  (h.same .stages hv).symm
theorem Frame.pairState_eq {W : List View} {s t : State} (h : Frame W s t) (hv : View.pairState ∉ W) : t.pair.state = s.pair.state :=
  (h.same .pairState hv).symm
theorem Frame.pages_eq {W : List View} {s t : State} (h : Frame W s t) (hv : View.pages ∉ W) : t.site.pages = s.site.pages :=
  (h.same .pages hv).symm
theorem Frame.rollback_eq {W : List View} {s t : State} (h : Frame W s t) (hv : View.rollback ∉ W) : t.upd.rollback = s.upd.rollback :=
  (h.same .rollback hv).symm
theorem Frame.safeLatch_eq {W : List View} {s t : State} (h : Frame W s t) (hv : View.safeLatch ∉ W) : t.jnl.safeLatch = s.jnl.safeLatch :=
  (h.same .safeLatch hv).symm

end Sys2Proof.Machine
end

