-- ==== Sys2Proof/Laws/FrameOps.lean ====
section
/-! SUPPORT. What the operations of `Machine/Ops.lean` leave alone. -/

namespace Sys2Proof.Machine

theorem State.modStr_frame (s : State) (k : Nat) (f : StrSt → StrSt) :
    Frame [.mode] s (State.modStr s k f) := by
  unfold State.modStr
  have h0 : Frame [.mode] s s := Frame.refl _ _
  exact (.upd h0 rfl)

theorem State.modRing_frame (s : State) (j : JournalId) {f : Ring → Ring}
    (h : ∀ r, r.inSequence = true → (f r).inSequence = true) (g : ∀ r, r.next ≤ (f r).next) :
    Frame [.jnl] s (State.modRing s j f) := by
  cases j <;>
  refine .updL (.refl _ s) rfl ⟨fun x => x, fun x i => ?_, fun i => ?_, Nat.le_refl _, OtpGrows.refl _⟩ <;>
  cases i <;>
  first
  | exact h _ (x .safety)
  | exact h _ (x .event)
  | exact h _ (x .audit)
  | exact x .safety
  | exact x .event
  | exact x .audit
  | exact g _
  | exact Nat.le_refl _

theorem State.enqueue_frame (s : State) (j : JournalId) (rec : JRec) :
    Frame [.jnl] s (State.enqueue s j rec) := by
  unfold State.enqueue
  extract_lets x1 x2 x3
  have hx3 : Frame [.jnl] s x3 := State.modRing_frame s j (fun _ h => h) (fun _ => Nat.le_refl _)
  exact .ite (State.modRing_frame s j (fun _ h => h) (fun _ => Nat.le_refl _))
    (.ite (.upd hx3 rfl) (.upd (.refl _ _) rfl))

theorem State.writeSafety_frame (s : State) (rec : JRec) :
    Frame [.jnl] s (State.writeSafety s rec) := by
  unfold State.writeSafety
  extract_lets r r1
  have h1 : s.jnl.safety.inSequence = true → r1.inSequence = true := by
    intro h
    show (if _ then _ else _ : Ring).inSequence = true
    split
    · exact ringPush_inSequence _ _ h
    · exact h
  have h2 : r.next ≤ r1.next := by
    show _ ≤ (if _ then _ else _ : Ring).next
    split
    · exact Nat.le_succ _
    · exact Nat.le_refl _
  refine .updL (.refl _ s) rfl ⟨fun x => x, fun x j => ?_, fun j => ?_, Nat.le_refl _, OtpGrows.refl _⟩
  · cases j
    · exact ringPush_inSequence _ _ (h1 (x .safety))
    · exact x .event
    · exact x .audit
  · cases j
    · exact Nat.le_succ_of_le h2
    · exact Nat.le_refl _
    · exact Nat.le_refl _

theorem State.ev_frame (s : State) (code : Nat) (pl : Bytes) :
    Frame [.jnl] s (State.ev s code pl) := by
  unfold State.ev
  split
  · exact (.after (State.writeSafety_frame ..) (.refl _ _) rfl)
  · exact (.after (State.enqueue_frame ..) (.refl _ _) rfl)

theorem State.modPst_frame (s : State) (k : Nat) (f : ProtStr → ProtStr) :
    Frame [.prot] s (State.modPst s k f) := by
  unfold State.modPst
  have h0 : Frame [.prot] s s := Frame.refl _ _
  exact (.upd h0 rfl)

theorem State.modPp_frame (s : State) (k : Nat) (f : PpSt → PpSt) :
    Frame [.power] s (State.modPp s k f) := by
  unfold State.modPp
  have h0 : Frame [.power] s s := Frame.refl _ _
  exact (.upd h0 rfl)

theorem State.send_frame (s : State) (type : Nat) (pairOut : Bool) (payload : Bytes) :
    Frame [.pair, .site] s (State.send s type pairOut payload) := by
  unfold State.send
  have h0 : Frame [.pair, .site] s s := Frame.refl _ _
  extract_lets x1 x2 x3 x4 x5
  exact (.ite (.ite (.upd h0 rfl) h0) (.ite (.upd h0 rfl) (.upd h0 rfl)))

theorem State.sendPairOpen_frame (s : State) (type : Nat) (payload : Bytes) :
    Frame [.pair, .site] s (State.sendPairOpen s type payload) := by
  unfold State.sendPairOpen
  exact (.ite (.ite (.after (State.send_frame ..) (.refl _ _) rfl) (.after (State.send_frame ..) (.refl _ _) rfl)) (.refl _ _))

theorem State.evIf_frame (s : State) (c : Bool) (code : Nat) (pl : Bytes) :
    Frame [.jnl] s (State.evIf s c code pl) := by
  unfold State.evIf
  exact (.ite (.after (State.ev_frame ..) (.refl _ _) rfl) (.refl _ _))

theorem State.atP_frame (s : State) (p : Nat) :
    Frame [.time] s (State.atP s p) := by
  unfold State.atP
  have h0 : Frame [.time] s s := Frame.refl _ _
  exact (.upd h0 rfl)

theorem State.modLnk_frame (s : State) (p : Nat) (f : LinkSt → LinkSt) :
    Frame [.link] s (State.modLnk s p f) := by
  unfold State.modLnk
  exact (.upd (.refl _ _) rfl)

theorem State.modFee_frame (s : State) (p : Nat) (f : FeSt → FeSt) :
    Frame [.fe] s (State.modFee s p f) := by
  unfold State.modFee
  exact (.upd (.refl _ _) rfl)

end Sys2Proof.Machine
end

