-- ==== Sys2Proof/Laws/FrameLedger.lean ====
section
/-! SUPPORT. What the operations of `Machine/Ledger.lean` leave alone. -/

namespace Sys2Proof.Machine

theorem State.audit_frame (s : State) (e : LedgerEntry) (object : Nat) (word : Nat) (old : Word) (new : Word) :
    Frame [.jnl] s (State.audit s e object word old new) := by
  unfold State.audit
  exact (.after (State.ev_frame ..) (.refl _ _) rfl)

theorem State.cmdTo_frame (s : State) (id : Word) (st : LedgerState) (status : Status) (step : Nat) (detail : Bytes) :
    Frame [.pair, .site, .jnl, .ledger] s (State.cmdTo s id st status step detail) := by
  unfold State.cmdTo
  have h0 : Frame [.pair, .site, .jnl, .ledger] s s := Frame.refl _ _
  extract_lets x1
  split
  · exact h0
  · extract_lets x2 x3 x4 x5 x6 x7
    have hx4 : Frame _ _ x4 := (.updL h0 rfl (.of_ledger rfl (twf_tput _ _)))
    have hx5 : Frame _ _ x5 := (.after (State.sendPairOpen_frame ..) hx4 rfl)
    have hx6 : Frame _ _ x6 := (.ite (.after (State.audit_frame ..) hx5 rfl) hx5)
    exact (.ite (.upd hx6 rfl) hx6)

theorem State.cmdFail_frame (s : State) (id : Word) (st : Status) (k : Nat) (detail : Bytes) :
    Frame [.pair, .site, .jnl, .ledger] s (State.cmdFail s id st k detail) := by
  unfold State.cmdFail
  exact (.after (State.cmdTo_frame ..) (.refl _ _) rfl)

theorem State.cmdAbort_frame (s : State) (id : Word) :
    Frame [.pair, .site, .jnl, .ledger] s (State.cmdAbort s id) := by
  unfold State.cmdAbort
  exact (.ite (.after (State.cmdFail_frame ..) (.refl _ _) rfl) (.refl _ _))

theorem State.cmdBegin_frame (s : State) (id : Word) (steps : Nat) :
    Frame [.site, .ledger] s (State.cmdBegin s id steps) := by
  unfold State.cmdBegin
  split
  · exact .refl _ _
  · exact .updL (.refl _ _) rfl (.of_ledger rfl (twf_tput _ _))

theorem State.cmdDone_frame (s : State) (id : Word) :
    Frame [.pair, .site, .jnl, .ledger] s (State.cmdDone s id) := by
  unfold State.cmdDone
  have h0 : Frame [.pair, .site, .jnl, .ledger] s s := Frame.refl _ _
  extract_lets x1
  exact (.after (State.cmdTo_frame ..) h0 rfl)

theorem State.cmdEndStrings_frame (s : State) (id : Word) (m : Mask) (refused : List (Nat × Status)) :
    Frame [.pair, .site, .jnl, .ledger] s (State.cmdEndStrings s id m refused) := by
  unfold State.cmdEndStrings
  have h0 : Frame [.pair, .site, .jnl, .ledger] s s := Frame.refl _ _
  extract_lets x1
  exact (.ite (.after (State.cmdTo_frame ..) h0 rfl) (.after (State.cmdTo_frame ..) h0 rfl))

theorem State.cmdRefuse_frame (s : State) (e : LedgerEntry) (st : Status) (strState : Nat) :
    Frame [.pair, .site, .jnl, .ledger] s (State.cmdRefuse s e st strState) := by
  unfold State.cmdRefuse
  exact (.after (State.cmdTo_frame ..) (.after (State.ev_frame ..) (.refl _ _) rfl) rfl)

theorem State.cmdStep_frame (s : State) (id : Word) (k : Nat) :
    Frame [.pair, .site, .jnl, .ledger] s (State.cmdStep s id k) := by
  unfold State.cmdStep
  exact (.after (State.cmdTo_frame ..) (.refl _ _) rfl)

theorem State.evaluate_frame {W : List View} {s u : State} {id : Word} {code steps : Nat}
    {checks : State → LedgerEntry → Checks} {strState : State → LedgerEntry → Nat} {go : State → LedgerEntry → State}
    (h : Frame W s u) (hgo : ∀ x e, Frame W s x → Frame W s (go x e))
    (hw : [View.time, .pair, .site, .jnl, .ledger].all W.contains = true) :
    Frame W s (u.evaluate id code steps checks strState go) := by
  unfold State.evaluate
  split
  · exact h
  · refine Frame.ite ?_ h
    have h1 : Frame W s (u.atP 0) := h.trans ((State.atP_frame u 0).mono (by simp_all))
    extract_lets
    split
    · exact h1.trans ((State.cmdRefuse_frame ..).mono (by simp_all))
    · exact hgo _ _ (h1.trans ((State.cmdBegin_frame ..).mono (by simp_all)))

theorem State.evaluateStrings_frame {W : List View} {s u : State} {id : Word} {code steps : Nat}
    {checks : State → LedgerEntry → Checks} {ok : State → LedgerEntry → Nat → Option Status}
    {go : State → LedgerEntry → List Nat → List (Nat × Status) → State} (h : Frame W s u)
    (hgo : ∀ x e l r, Frame W s x → Frame W s (go x e l r))
    (hw : [View.time, .pair, .site, .jnl, .ledger].all W.contains = true) :
    Frame W s (u.evaluateStrings id code steps checks ok go) := by
  unfold State.evaluateStrings
  split
  · exact h
  · refine Frame.ite ?_ h
    have h1 : Frame W s (u.atP 0) := h.trans ((State.atP_frame u 0).mono (by simp_all))
    extract_lets
    split
    · exact h1.trans ((State.cmdRefuse_frame ..).mono (by simp_all))
    · exact hgo _ _ _ _ (h1.trans ((State.cmdBegin_frame ..).mono (by simp_all)))

end Sys2Proof.Machine
end

