-- ==== Sys2Proof/Laws/FrameSiteOps.lean ====
section
/-! SUPPORT. What the operations of `Machine/SiteOps.lean` leave alone. -/

namespace Sys2Proof.Machine

theorem State.winLoss_frame (s : State) (stream : Nat) (kind : Nat) :
    Frame [.site, .jnl] s (State.winLoss s stream kind) := by
  unfold State.winLoss
  have h0 : Frame [.site, .jnl] s s := Frame.refl _ _
  extract_lets x1 x2 x3
  have hx2 : Frame _ _ x2 := (.after (State.evIf_frame ..) h0 rfl)
  exact (.upd hx2 rfl)

theorem State.modPage_frame (s : State) (p : Nat) (f : Page → Page) :
    Frame [.site, .pages] s (State.modPage s p f) :=
  .updL (.refl _ _) rfl (.of_pages rfl (twf_tmod _ _))

theorem State.handoverMsg_frame (s : State) (op : Nat) (es : List (Nat × Nat)) :
    Frame [.pair, .site] s (State.handoverMsg s op es) := by
  unfold State.handoverMsg
  exact (.ite (.after (State.send_frame ..) (.refl _ _) rfl) (.refl _ _))

theorem State.endSession_frame (s : State) (kind : Byte) :
    Frame [.site, .jnl, .acc, .session, .pages] s (State.endSession s kind) := by
  unfold State.endSession
  extract_lets x1
  have h1 : Frame [.site, .jnl, .acc, .session, .pages] s x1 := .after (State.ev_frame ..) (.refl _ _) rfl
  exact .ite (.refl _ _) (.updL h1 rfl (.of_pages rfl (twf_tmap _)))

theorem State.freeByte_frame (s : State) : Frame [.free] s (State.freeByte s).2 := Frame.upd (Frame.refl _ _) rfl

theorem State.poisonPage_frame (s : State) (p : Nat) :
    Frame [.pair, .site, .jnl, .pages] s (State.poisonPage s p) := by
  unfold State.poisonPage
  have h0 : Frame [.pair, .site, .jnl, .pages] s s := Frame.refl _ _
  extract_lets x1 x2 x3 x4
  have hx2 : Frame _ _ x2 := (.after (State.modPage_frame ..) h0 rfl)
  have hx4 : Frame _ _ x4 := (.upd hx2 rfl)
  exact (.ite h0 (.after (State.handoverMsg_frame ..) (.after (State.ev_frame ..) hx4 rfl) rfl))

end Sys2Proof.Machine
end

