-- ==== Sys2Proof/Laws/FrameItems.lean ====
section
/-! SUPPORT. What the operations of `Machine/Items.lean` leave alone. -/

namespace Sys2Proof.Machine

theorem State.setEffective_frame (s : State) (id : Word) (f : Nat) :
    Frame [.site, .ledger] s (State.setEffective s id f) := by
  unfold State.setEffective
  split
  · exact .refl _ _
  · exact .ite (.updL (.refl _ _) rfl (.of_ledger rfl (twf_tput _ _))) (.refl _ _)

theorem State.adoptCommand_frame (s : State) (it : PairItem) (f : Nat) :
    Frame [.site, .ledger] s (State.adoptCommand s it f) := by
  unfold State.adoptCommand
  split
  · split
    · exact .after (State.setEffective_frame ..) (.refl _ _) rfl
    · split
      · exact .refl _ _
      · exact .updL (.refl _ _) rfl (.of_ledger rfl (twf_tput _ _))
  · exact .refl _ _

theorem State.assign_frame (s : State) (f : Nat) (its : List PairItem) :
    Frame [.pair, .site, .ledger] s (State.assign s f its) := by
  unfold State.assign
  have h0 : Frame [.pair, .site, .ledger] s s := Frame.refl _ _
  extract_lets x1 x2
  have hx1 : Frame _ _ x1 := (.foldl h0 fun _ _ h1 => (.after (State.adoptCommand_frame ..) h1 rfl))
  exact (.upd hx1 rfl)

theorem State.itemIn_frame (s : State) (it : PairItem) :
    Frame [.pair, .site, .ledger] s (State.itemIn s it) := by
  unfold State.itemIn
  have h0 : Frame [.pair, .site, .ledger] s s := Frame.refl _ _
  exact (.ite (.after (State.assign_frame ..) h0 rfl) (.upd h0 rfl))

theorem State.listStep_frame (s : State) (cmd : Word) (step : Nat) (code : Nat) (info : Nat) :
    Frame [.pair, .site, .ledger] s (State.listStep s cmd step code info) := by
  unfold State.listStep
  exact (.after (State.itemIn_frame ..) (.refl _ _) rfl)

end Sys2Proof.Machine
end

