-- ==== Sys2Proof/Laws/FrameAccess.lean ====
section
/-! SUPPORT. What the operations of `Machine/Access.lean` leave alone. -/

namespace Sys2Proof.Machine

theorem State.dropInvalidSession_frame (s : State) :
    Frame [.site, .jnl, .acc, .free, .session, .pages] s (State.dropInvalidSession s) := by
  unfold State.dropInvalidSession
  have h0 : Frame [.site, .jnl, .acc, .free, .session, .pages] s s := Frame.refl _ _
  extract_lets x1 x2
  have hx2 : Frame _ _ x2.2 := (.after (State.freeByte_frame ..) h0 rfl)
  exact (.ite (.after (State.endSession_frame ..) hx2 rfl) h0)

end Sys2Proof.Machine
end

