-- ==== Sys2Proof/Laws/FrameUpdate.lean ====
section
/-! SUPPORT. What the operations of `Machine/Update.lean` leave alone. -/

namespace Sys2Proof.Machine

theorem State.acceptUpd_frame (s : State) (e : LedgerEntry) (op : Nat) (first : Nat) (count : Nat) (pages : List Nat) :
    Frame [.pair, .site, .upd, .jnl, .ledger] s (State.acceptUpd s e op first count pages) := by
  unfold State.acceptUpd
  have h0 : Frame [.pair, .site, .upd, .jnl, .ledger] s s := Frame.refl _ _
  extract_lets x1 x2
  exact (.after (State.cmdTo_frame ..) (.upd h0 rfl) rfl)

theorem State.secQueue_frame (s : State) (p : Nat) (ts : List SecTx) :
    Frame [.link] s (State.secQueue s p ts) := by
  unfold State.secQueue
  exact (.after (State.modLnk_frame ..) (.refl _ _) rfl)

theorem State.policyWrite_frame (s : State) (p : Nat) :
    Frame [.link] s (State.policyWrite s p) := by
  unfold State.policyWrite
  exact (.ite (.after (State.secQueue_frame ..) (.refl _ _) rfl) (.refl _ _))

theorem State.cfeAbort_frame (s : State) :
    Frame [.link, .pair, .site, .upd, .jnl, .ledger] s (State.cfeAbort s) := by
  unfold State.cfeAbort
  have h0 : Frame [.link, .pair, .site, .upd, .jnl, .ledger] s s := Frame.refl _ _
  split
  · exact h0
  · extract_lets x1 x2 x3
    have hx1 : Frame _ _ x1 := (.after (State.modLnk_frame ..) h0 rfl)
    have hx2 : Frame _ _ x2 := (.after (State.cmdFail_frame ..) hx1 rfl)
    exact (.upd hx2 rfl)

theorem State.cfeDone_frame (s : State) (k : Nat) :
    Frame [.pair, .site, .upd, .ledger] s (State.cfeDone s k) := by
  unfold State.cfeDone
  have h0 : Frame [.pair, .site, .upd, .ledger] s s := Frame.refl _ _
  extract_lets x1
  split
  · exact h0
  · exact (.after (State.listStep_frame ..) (.upd h0 rfl) rfl)

theorem State.cfeSwitch_frame (s : State) (p : Nat) (now : Word) (rstat : Nat) :
    Frame [.link, .cfe, .jnl] s (State.cfeSwitch s p now rstat) := by
  unfold State.cfeSwitch
  have h0 : Frame [.link, .cfe, .jnl] s s := Frame.refl _ _
  extract_lets x1 x2
  have hx2 : Frame _ _ x2 := (.after (State.ev_frame ..) h0 rfl)
  exact (.after (State.policyWrite_frame ..) (.upd hx2 rfl) rfl)

theorem State.cfeFailed_frame (s : State) (code : Nat) (rstat : Nat) (now : Option Word) :
    Frame [.link, .cfe, .pair, .site, .upd, .jnl, .ledger] s (State.cfeFailed s code rstat now) := by
  unfold State.cfeFailed
  have h0 : Frame [.link, .cfe, .pair, .site, .upd, .jnl, .ledger] s s := Frame.refl _ _
  split
  · exact h0
  · extract_lets x1 x2
    have hx1 : Frame _ _ x1 := (.after (State.cfeSwitch_frame ..) h0 rfl)
    exact (.ite h0 (.after (State.listStep_frame ..) (.upd hx1 rfl) rfl))

theorem State.cfeTake_frame (s : State) (j : CfeFwJob) (slot : Slot) (k : Nat) (code : Nat) (rstat : Nat) :
    Frame [.pair, .site, .upd, .jnl, .ledger] s (State.cfeTake s j slot k code rstat) := by
  unfold State.cfeTake
  have h0 : Frame [.pair, .site, .upd, .jnl, .ledger] s s := Frame.refl _ _
  extract_lets x1 x2 x3 x4
  have hx1 : Frame _ _ x1 := (.after (State.cmdFail_frame ..) h0 rfl)
  have hx3 : Frame _ _ x3 := (.after (State.cmdTo_frame ..) h0 rfl)
  exact (.ite (.upd hx1 rfl) (.ite (.ite (.upd hx3 rfl) (.after (State.cmdTo_frame ..) h0 rfl)) h0))

theorem State.confirm_frame (s : State) (by_ : Nat) (otp : Verdict) :
    Frame [.upd, .jnl, .banks, .rollback] s (State.confirm s by_ otp) := by
  unfold State.confirm
  extract_lets x1 x2 x3
  refine .after (State.ev_frame ..) (.updL (.refl _ _) rfl
    ⟨id, id, fun _ => Nat.le_refl _, ?_, OtpGrows.refl _⟩) rfl
  show s.upd.rollback ≤ if _ then _ else _
  split
  · next h => exact Nat.le_of_lt h.1
  · exact Nat.le_refl _

theorem State.dropUpd_frame (s : State) (id : Word) :
    Frame [.upd] s (State.dropUpd s id) := by
  unfold State.dropUpd
  have h0 : Frame [.upd] s s := Frame.refl _ _
  exact (.upd h0 rfl)

theorem State.evDownload_frame (s : State) (kind : Nat) (cmd : Word) :
    Frame [.jnl] s (State.evDownload s kind cmd) := by
  unfold State.evDownload
  exact (.after (State.ev_frame ..) (.refl _ _) rfl)

theorem State.evalStage_frame (s : State) (id : Word) :
    Frame [.time, .pair, .site, .upd, .jnl, .ledger] s (State.evalStage s id) := by
  unfold State.evalStage
  have h0 : Frame [.time, .pair, .site, .upd, .jnl, .ledger] s s := Frame.refl _ _
  extract_lets x1 x2
  exact (State.evaluate_frame h0 (fun _ _ g3 => (.after (State.acceptUpd_frame ..) g3 rfl)) rfl)

theorem State.updRecord_frame (s : State) (j : UpdJob) (slot : Slot) (k : Nat) :
    Frame [.pair, .site, .upd, .jnl, .ledger] s (State.updRecord s j slot k) := by
  unfold State.updRecord
  have h0 : Frame [.pair, .site, .upd, .jnl, .ledger] s s := Frame.refl _ _
  extract_lets x1 x2 x3 x4 x5 x6
  have hx3 : Frame _ _ x3 := (.upd h0 rfl)
  have hx5 : Frame _ _ x5 := (.after (State.dropUpd_frame ..) (.after (State.cmdTo_frame ..) hx3 rfl) rfl)
  exact (.ite hx3 (.ite (.ite (.upd hx5 rfl) hx5) (.ite (.after (State.dropUpd_frame ..) (.after (State.cmdTo_frame ..) hx3 rfl) rfl) (.after (State.cmdTo_frame ..) hx3 rfl))))

theorem State.updTake_frame (s : State) (id : Word) (slot : Slot) (step : Nat) (code : Nat) (info : Nat) :
    Frame [.pair, .site, .upd, .jnl, .ledger] s (State.updTake s id slot step code info) := by
  unfold State.updTake
  split
  · exact (.ite (.refl _ _) (.ite (.after (State.updRecord_frame ..) (.refl _ _) rfl) (.after (State.dropUpd_frame ..) (.after (State.cmdFail_frame ..) (.refl _ _) rfl) rfl)))
  · split
    · exact (.ite (.after (State.cfeTake_frame ..) (.refl _ _) rfl) (.refl _ _))
    · exact (.refl _ _)

theorem State.useSet_frame (s : State) (k : Nat) :
    Frame [.site, .ledgerOther, .upd, .jnl, .ledger, .wearRecs] s (State.useSet s k) :=
  .ite (.refl _ _) (.updL (.refl _ _) rfl (.of_tables rfl (fun h => ⟨h.2.1, h.1, h.2.2⟩)))

theorem State.setUpd_frame (s : State) (j : UpdJob) :
    Frame [.upd] s (State.setUpd s j) := by
  unfold State.setUpd
  have h0 : Frame [.upd] s s := Frame.refl _ _
  exact (.upd h0 rfl)

theorem State.verifyVelvet_frame (s : State) (code : Nat) (block : Nat) :
    Frame [.upd, .jnl, .banks, .rollback] s (State.verifyVelvet s code block) := by
  unfold State.verifyVelvet
  have h0 : Frame [.upd, .jnl, .banks, .rollback] s s := Frame.refl _ _
  exact (.ite (.after (State.ev_frame ..) (.upd h0 rfl) rfl) (.after (State.ev_frame ..) h0 rfl))

theorem State.workVerify_frame (s : State) (code block : Nat) : Frame [.upd, .jnl, .banks, .rollback] s (State.workVerify s code block).2 := by
  unfold State.workVerify
  repeat' split
  · exact Frame.refl _ _
  · exact Frame.refl _ _
  · exact Frame.step (Frame.refl _ _) (State.verifyVelvet_frame ..) rfl

theorem State.workBlock_frame (s : State) (j : UpdJob) (k code : Nat) : Frame [.upd, .jnl, .banks, .rollback] s (State.workBlock s j k code).2 := by
  unfold State.workBlock
  extract_lets b
  repeat' split
  all_goals first
    | exact Frame.refl _ _
    | exact .upd (Frame.refl _ _) rfl
    | exact .after (State.evDownload_frame ..) (.upd (Frame.refl _ _) rfl) rfl

theorem State.workManifest_frame (s : State) (j : UpdJob) (code : Nat) :
    Frame [.upd, .jnl, .banks, .rollback] s (State.workManifest s j code).2 := by
  unfold State.workManifest
  extract_lets b
  repeat' split
  all_goals first
    | exact Frame.refl _ _
    | exact .after (State.evDownload_frame ..) (.upd (Frame.refl _ _) rfl) rfl

theorem State.updWork_frame (s : State) (j : UpdJob) (k code block : Nat) :
    Frame [.upd, .jnl, .banks, .rollback] s (State.updWork s j k code block).2 := by
  unfold State.updWork
  repeat' split
  all_goals first
    | exact Frame.refl _ _
    | exact Frame.step (Frame.refl _ _) (State.workManifest_frame ..) rfl
    | exact Frame.step (Frame.refl _ _) (State.workBlock_frame ..) rfl
    | exact Frame.step (Frame.refl _ _) (State.workVerify_frame ..) rfl
    | exact Frame.step (Frame.refl _ _) (State.confirm_frame ..) rfl
    | exact .after (State.evDownload_frame ..) (.upd (Frame.refl _ _) rfl) rfl

end Sys2Proof.Machine
end

