-- ==== Sys2Proof/Laws/FrameModeOps.lean ====
section
/-! SUPPORT. What the operations of `Machine/ModeOps.lean` leave alone. -/

namespace Sys2Proof.Machine

theorem State.setStr_frame (s : State) (k : Nat) (new : SState) (cause : Byte) (sf : Nat) (dwell : Bool) :
    Frame [.mode, .jnl] s (State.setStr s k new cause sf dwell) := by
  unfold State.setStr
  have h0 : Frame [.mode, .jnl] s s := Frame.refl _ _
  extract_lets x1 x2 x3 x4 x5
  have hx2 : Frame _ _ x2 := (.after (State.ev_frame ..) h0 rfl)
  have hx4 : Frame _ _ x4 := (.after (State.modStr_frame ..) hx2 rfl)
  exact (.upd hx4 rfl)

theorem State.startOpening_frame (s : State) (k : Nat) :
    Frame [.power, .prot] s (State.startOpening s k) := by
  unfold State.startOpening
  have h0 : Frame [.power, .prot] s s := Frame.refl _ _
  extract_lets x1 x2
  exact (.after (State.modPp_frame ..) (.after (State.modPst_frame ..) h0 rfl) rfl)

theorem State.endConnect_frame (s : State) (k : Nat) (cause : Nat) (new : SState) (why : Byte) (sf : Nat) :
    Frame [.mode, .power, .prot, .jnl, .enabled] s (State.endConnect s k cause new why sf) := by
  unfold State.endConnect
  have h0 : Frame [.mode, .power, .prot, .jnl, .enabled] s s := Frame.refl _ _
  extract_lets x1 x2 x3 x4 x5 x6 x7 x8 x9
  have hx5 : Frame _ _ x5 := (.after (State.ev_frame ..) h0 rfl)
  have hx6 : Frame _ _ x6 := (.after (State.modPp_frame ..) (.after (State.startOpening_frame ..) hx5 rfl) rfl)
  have hx7 : Frame _ _ x7 := (.after (State.setStr_frame ..) hx6 rfl)
  have hx8 : Frame _ _ x8 := (.after (State.modStr_frame ..) hx7 rfl)
  exact (.ite (.upd hx8 rfl) hx8)

theorem State.abortConnect_frame (s : State) (k : Nat) (cause : Nat) :
    Frame [.mode, .power, .prot, .jnl, .enabled] s (State.abortConnect s k cause) := by
  unfold State.abortConnect
  exact (.ite (.after (State.endConnect_frame ..) (.refl _ _) rfl) (.refl _ _))

theorem State.undoTaken_frame (s : State) (k : Nat) :
    Frame [.mode, .power] s (State.undoTaken s k) := by
  unfold State.undoTaken
  have h0 : Frame [.mode, .power] s s := Frame.refl _ _
  extract_lets x1
  have hx1 : Frame _ _ x1 := (.after (State.modStr_frame ..) h0 rfl)
  exact (.ite (.after (State.modPp_frame ..) hx1 rfl) h0)

theorem State.abortConnects_frame (s : State) (ks : List Nat) :
    Frame [.mode, .power, .prot, .jnl, .enabled] s (State.abortConnects s ks) := by
  unfold State.abortConnects
  exact (.foldl (.refl _ _) fun _ _ h1 => (.after (State.abortConnect_frame ..) (.after (State.undoTaken_frame ..) h1 rfl) rfl))

theorem State.clearAlarm_frame (s : State) (k : Nat) (bit : Nat) (stands : Bool) :
    Frame [.prot, .jnl] s (State.clearAlarm s k bit stands) := by
  unfold State.clearAlarm
  exact (.ite (.after (State.modPst_frame ..) (.after (State.ev_frame ..) (.refl _ _) rfl) rfl) (.refl _ _))

theorem State.cancelHandover_frame (s : State) :
    Frame [.pair, .site, .jnl, .ledger] s (State.cancelHandover s) := by
  unfold State.cancelHandover
  have h0 : Frame [.pair, .site, .jnl, .ledger] s s := Frame.refl _ _
  extract_lets x1 x2 x3
  have hx1 : ∀ a4, Frame [.pair, .site, .jnl, .ledger] s a4 → ∀ a5, ∀ a6, Frame [.pair, .site, .jnl, .ledger] s (x1 a4 a5 a6) := by
    intro a4 ha4 a5 a6
    unfold x1
    extract_lets x7
    have hx7 : Frame _ _ x7 := (.after (State.ev_frame ..) ha4 rfl)
    exact (.ite hx7 (.after (State.cmdAbort_frame ..) hx7 rfl))
  have hx2 : Frame [.pair, .site, .jnl, .ledger] s x2 := by
    unfold x2
    split
    · exact (hx1 _ h0 _ _)
    · split
      · exact (hx1 _ h0 _ _)
      · exact h0
  exact (.upd hx2 rfl)

theorem State.setPair_frame (s0 : State) (new : PairState) (cause : Nat) :
    Frame [.pair, .site, .jnl, .pairState, .ledger] s0 (State.setPair s0 new cause) := by
  unfold State.setPair
  have h0 : Frame [.pair, .site, .jnl, .pairState, .ledger] s0 s0 := Frame.refl _ _
  extract_lets x1 x2 x3 x4
  have hx1 : Frame _ _ x1 := (.ite h0 (.after (State.cancelHandover_frame ..) h0 rfl))
  have hx3 : Frame _ _ x3 := (.after (State.ev_frame ..) hx1 rfl)
  exact (.upd hx3 rfl)

theorem State.recordProt_frame (s : State) (k : Nat) (isolate : Bool) (hold : Bool) (sf : Nat) :
    Frame [.mode, .power, .prot, .jnl, .enabled] s (State.recordProt s k isolate hold sf) := by
  unfold State.recordProt
  split
  · exact (.ite (.after (State.endConnect_frame ..) (.refl _ _) rfl) (.refl _ _))
  · exact (.ite (.after (State.setStr_frame ..) (.refl _ _) rfl) (.refl _ _))
  · exact (.ite (.after (State.setStr_frame ..) (.after (State.startOpening_frame ..) (.refl _ _) rfl) rfl) (.ite (.after (State.setStr_frame ..) (.refl _ _) rfl) (.refl _ _)))
  · exact (.ite (.after (State.setStr_frame ..) (.after (State.startOpening_frame ..) (.refl _ _) rfl) rfl) (.ite (.refl _ _) (.after (State.setStr_frame ..) (.refl _ _) rfl)))
  · exact (.refl _ _)

theorem State.recordOwn_frame (s : State) (k : Nat) :
    Frame [.mode, .power, .prot, .jnl, .enabled] s (State.recordOwn s k) := by
  unfold State.recordOwn
  exact (.ite (.refl _ _) (.after (State.recordProt_frame ..) (.refl _ _) rfl))

theorem State.surveyStop_frame (s : State) (k : Nat) :
    Frame [.mode, .pair, .site, .jnl, .ledger] s (State.surveyStop s k) := by
  unfold State.surveyStop
  have h0 : Frame [.mode, .pair, .site, .jnl, .ledger] s s := Frame.refl _ _
  extract_lets x1
  split
  · exact (.ite h0 (.after (State.cmdAbort_frame ..) (.upd h0 rfl) rfl))
  · exact h0

theorem State.latch_frame (s : State) (k : Nat) (n : Nat) :
    Frame [.mode, .power, .prot, .pair, .site, .tw, .jnl, .ledger] s (State.latch s k n) := by
  unfold State.latch
  have h0 : Frame [.mode, .power, .prot, .pair, .site, .tw, .jnl, .ledger] s s := Frame.refl _ _
  extract_lets x1 x2 x3 x4 x5 x6 x7
  have hx2 : Frame _ _ x2 := (.after (State.evIf_frame ..) h0 rfl)
  have hx4 : Frame _ _ x4 := (.after (State.modPst_frame ..) hx2 rfl)
  have hx5 : Frame _ _ x5 := (.after (State.surveyStop_frame ..) (.after (State.startOpening_frame ..) hx4 rfl) rfl)
  exact (.upd hx5 rfl)

theorem State.raiseAlarm_frame (s : State) (k : Nat) (bit : Nat) :
    Frame [.prot, .jnl] s (State.raiseAlarm s k bit) := by
  unfold State.raiseAlarm
  exact (.ite (.refl _ _) (.after (State.modPst_frame ..) (.after (State.ev_frame ..) (.refl _ _) rfl) rfl))

theorem State.takeActions_frame (s : State) (k : Nat) (n : Nat) (acts : Byte) :
    Frame [.mode, .power, .prot, .pair, .site, .tw, .jnl, .enabled, .ledger] s (State.takeActions s k n acts) := by
  unfold State.takeActions
  have h0 : Frame [.mode, .power, .prot, .pair, .site, .tw, .jnl, .enabled, .ledger] s s := Frame.refl _ _
  extract_lets x1 x2 x3 x4
  have hx1 : Frame _ _ x1 := (.ite (.after (State.raiseAlarm_frame ..) h0 rfl) h0)
  have hx2 : Frame _ _ x2 := (.ite (.after (State.modPst_frame ..) hx1 rfl) hx1)
  have hx4 : Frame _ _ x4 := (.foldl hx2 fun _ _ h3 => (.after (State.latch_frame ..) h3 rfl))
  exact (.foldl hx4 fun _ _ h4 => (.after (State.recordOwn_frame ..) h4 rfl))

theorem State.warnStart_frame (s : State) (k : Nat) (n : Nat) (idx : Nat) (value : Int) :
    Frame [.mode, .power, .prot, .pair, .site, .tw, .jnl, .enabled, .ledger] s (State.warnStart s k n idx value) := by
  unfold State.warnStart
  have h0 : Frame [.mode, .power, .prot, .pair, .site, .tw, .jnl, .enabled, .ledger] s s := Frame.refl _ _
  extract_lets x1 x2 x3
  have hx2 : Frame _ _ x2 := (.after (State.modPst_frame ..) h0 rfl)
  have hx3 : Frame _ _ x3 := (.after (State.ev_frame ..) hx2 rfl)
  exact (.ite h0 (.after (State.takeActions_frame ..) hx3 rfl))

theorem State.clearLatches_frame (s : State) (k : Nat) (cmd : Word) (role : Role) :
    Frame [.prot, .jnl] s (State.clearLatches s k cmd role) := by
  unfold State.clearLatches
  have h0 : Frame [.prot, .jnl] s s := Frame.refl _ _
  extract_lets x1 x2 x3
  have hx1 : Frame _ _ x1 := (.foldl h0 fun _ _ h1 => (.after (State.evIf_frame ..) h1 rfl))
  have hx3 : Frame _ _ x3 := (.after (State.modPst_frame ..) (.upd hx1 rfl) rfl)
  exact (.foldl hx3 fun _ _ h3 => (.after (State.clearAlarm_frame ..) h3 rfl))

theorem State.orderOpen_frame (s : State) (k : Nat) (why : OpenWhy) (deadline : Nat) :
    Frame [.mode] s (State.orderOpen s k why deadline) := by
  unfold State.orderOpen
  exact (.ite (.after (State.modStr_frame ..) (.refl _ _) rfl) (.refl _ _))

theorem State.openNow_frame (s : State) (k : Nat) :
    Frame [.mode, .power, .prot, .jnl] s (State.openNow s k) := by
  unfold State.openNow
  exact (.ite (.after (State.setStr_frame ..) (.after (State.startOpening_frame ..) (.refl _ _) rfl) rfl) (.refl _ _))

theorem State.setMode_frame (s : State) (m : Mode) (cause : Nat) (cmd : Word) :
    Frame [.mode, .tw, .jnl, .modeNow] s (State.setMode s m cause cmd) := by
  unfold State.setMode
  have h0 : Frame [.mode, .tw, .jnl, .modeNow] s s := Frame.refl _ _
  extract_lets x1 x2 x3
  have hx1 : Frame _ _ x1 := (.after (State.ev_frame ..) h0 rfl)
  exact (.upd hx1 rfl)

theorem State.startCapture_frame (s : State) (k : Nat) (n : Nat) :
    Frame [.site, .jnl] s (State.startCapture s k n) := by
  unfold State.startCapture
  have h0 : Frame [.site, .jnl] s s := Frame.refl _ _
  exact (.ite h0 (.ite (.after (State.winLoss_frame ..) h0 rfl) (.upd h0 rfl)))

theorem State.tripStart_frame (s : State) (k : Nat) (n : Nat) (idx : Nat) (value : Int) :
    Frame [.mode, .power, .prot, .pair, .site, .tw, .jnl, .enabled, .ledger] s (State.tripStart s k n idx value) := by
  unfold State.tripStart
  have h0 : Frame [.mode, .power, .prot, .pair, .site, .tw, .jnl, .enabled, .ledger] s s := Frame.refl _ _
  extract_lets x1 x2 x3
  have hx2 : Frame _ _ x2 := (.after (State.modPst_frame ..) h0 rfl)
  have hx3 : Frame _ _ x3 := (.after (State.ev_frame ..) hx2 rfl)
  exact (.ite h0 (.after (State.takeActions_frame ..) (.after (State.startCapture_frame ..) hx3 rfl) rfl))

theorem State.diagFail_frame (s : State) (n : Nat) (detail : Nat) :
    Frame [.prot, .jnl] s (State.diagFail s n detail) := by
  unfold State.diagFail
  have h0 : Frame [.prot, .jnl] s s := Frame.refl _ _
  extract_lets x1 x2
  have hx1 : Frame _ _ x1 := (.after (State.ev_frame ..) h0 rfl)
  exact (.upd hx1 rfl)

theorem State.safeAborts_frame (s : State) :
    Frame [.mode, .link, .pair, .site, .upd, .jnl, .ledger] s (State.safeAborts s) := by
  unfold State.safeAborts
  have h0 : Frame [.mode, .link, .pair, .site, .upd, .jnl, .ledger] s s := Frame.refl _ _
  extract_lets x1 x2 x3
  have hx1 : Frame _ _ x1 := (.ite h0 (.after (State.cmdAbort_frame ..) h0 rfl))
  have hx2 : Frame _ _ x2 := (.foldl hx1 fun _ _ h2 => (.after (State.cmdAbort_frame ..) h2 rfl))
  exact (.after (State.cfeAbort_frame ..) (.upd hx2 rfl) rfl)

theorem State.safeStr_frame (s : State) (k : Nat) :
    Frame [.mode, .power, .prot, .jnl, .enabled] s (State.safeStr s k) := by
  unfold State.safeStr
  have h0 : Frame [.mode, .power, .prot, .jnl, .enabled] s s := Frame.refl _ _
  extract_lets x1
  have hx1 : Frame _ _ x1 := (.after (State.modPst_frame ..) h0 rfl)
  split
  · exact (.after (State.endConnect_frame ..) hx1 rfl)
  · exact (.after (State.setStr_frame ..) (.after (State.startOpening_frame ..) hx1 rfl) rfl)
  · exact (.after (State.setStr_frame ..) (.after (State.startOpening_frame ..) hx1 rfl) rfl)
  · exact (.after (State.setStr_frame ..) (.after (State.startOpening_frame ..) hx1 rfl) rfl)
  · exact (.after (State.startOpening_frame ..) hx1 rfl)

theorem State.safeLatchSet_frame (s : State) (cause : Byte) :
    Frame [.jnl, .safeLatch] s (State.safeLatchSet s cause) := by
  unfold State.safeLatchSet
  have h0 : Frame [.jnl, .safeLatch] s s := Frame.refl _ _
  exact (.ite (.after (State.ev_frame ..) (.upd h0 rfl) rfl) h0)

theorem State.enterSafe_frame (s : State) (cause : Byte) (cmd : Word) :
    Frame [.mode, .link, .power, .prot, .pair, .site, .tw, .upd, .jnl, .modeNow, .enabled, .safeOuts, .pairState, .ledger, .safeLatch] s (State.enterSafe s cause cmd) := by
  unfold State.enterSafe
  have h0 : Frame [.mode, .link, .power, .prot, .pair, .site, .tw, .upd, .jnl, .modeNow, .enabled, .safeOuts, .pairState, .ledger, .safeLatch] s s := Frame.refl _ _
  extract_lets x1 x2 x3 x4 x5 x6 x7
  have hx3 : Frame _ _ x3 := (.after (State.safeLatchSet_frame ..) (.upd h0 rfl) rfl)
  have hx4 : Frame _ _ x4 := (.foldl (.after (State.safeAborts_frame ..) hx3 rfl) fun _ _ h2 => (.after (State.safeStr_frame ..) h2 rfl))
  have hx5 : Frame _ _ x5 := (.after (State.setMode_frame ..) hx4 rfl)
  have hx7 : Frame _ _ x7 := (.upd hx5 rfl)
  split
  · exact (.foldl hx3 fun _ _ h5 => (.after (State.safeStr_frame ..) h5 rfl))
  · exact (.foldl hx3 fun _ _ h5 => (.after (State.safeStr_frame ..) h5 rfl))
  · exact (.after (State.ev_frame ..) hx3 rfl)
  · exact (.ite (.after (State.setPair_frame ..) hx7 rfl) hx7)

theorem State.keptAll_frame (s : State) (cause : Byte) : Frame [.sys, .time, .mode, .linkCfg, .link, .cfeCfg, .cfgReplaced, .cfe, .meas, .cells, .aux, .th, .herdTab, .mkCell, .mkTh, .est, .thm, .herd, .power, .prot, .dsp, .grz, .pair, .site, .bus, .tw, .cfg, .upd, .mem, .jnl, .acc, .psv, .frame, .modeNow, .enabled, .safeOuts, .pairState, .session, .pages, .remap, .policies] s (State.keptAll s cause) :=
  .updL (.refl _ _) rfl (.of_pages rfl (fun _ => rfl))

theorem State.outputsOff_frame (s : State) :
    Frame [.power] s (State.outputsOff s) := by
  unfold State.outputsOff
  have h0 : Frame [.power] s s := Frame.refl _ _
  exact (.upd h0 rfl)

theorem State.keptRuntime_frame (s : State) : Frame restartViews s (State.keptRuntime s) :=
  .upd (.after (State.keptAll_frame s 0x04) (Frame.refl _ _) rfl) rfl

theorem State.restart_frame (s : State) (cause : Byte) :
    Frame restartViews s (State.restart s cause) := by
  unfold State.restart
  exact (.ite (.after (State.keptRuntime_frame ..) (.refl _ _) rfl) (.after (State.keptAll_frame ..) (.refl _ _) rfl))

theorem State.sf12_frame (s : State) (n : Nat) (detail : Nat) (island : Bool) :
    Frame [.mode, .link, .power, .prot, .pair, .site, .tw, .upd, .jnl, .modeNow, .enabled, .safeOuts, .pairState, .ledger, .safeLatch] s (State.sf12 s n detail island) := by
  unfold State.sf12
  have h0 : Frame [.mode, .link, .power, .prot, .pair, .site, .tw, .upd, .jnl, .modeNow, .enabled, .safeOuts, .pairState, .ledger, .safeLatch] s s := Frame.refl _ _
  extract_lets x1 x2 x3 x4
  have hx1 : Frame _ _ x1 := (.after (State.diagFail_frame ..) h0 rfl)
  have hx2 : Frame _ _ x2 := (.after (State.ev_frame ..) hx1 rfl)
  have hx4 : Frame _ _ x4 := (.upd hx2 rfl)
  exact (.after (State.enterSafe_frame ..) hx4 rfl)

theorem State.freeze_frame (s : State) (trigger : Nat) :
    Frame (View.ledger :: View.safeLatch :: restartViews) s (State.freeze s trigger) := by
  unfold State.freeze
  have h0 : Frame (View.ledger :: View.safeLatch :: restartViews) s s := Frame.refl _ _
  extract_lets x1 x2 x3 x4 x5 x6 x7 x8 x9 x10
  have hx2 : Frame _ _ x2 := (.after (State.diagFail_frame ..) h0 rfl)
  have hx3 : Frame _ _ x3 := (.after (State.ev_frame ..) hx2 rfl)
  have hx6 : Frame _ _ x6 := (.foldl hx3 fun _ _ h3 => (.after (State.endConnect_frame ..) (.after (State.modPp_frame ..) (.after (State.modPst_frame ..) h3 rfl) rfl) rfl))
  have hx9 : Frame _ _ x9 := (.upd hx6 rfl)
  have hx10 : Frame _ _ x10 := (.ite (.after (State.sf12_frame ..) hx9 rfl) hx9)
  exact (.after (State.restart_frame ..) hx10 rfl)

theorem State.tripModule_frame (s : State) (n : Nat) (idx : Nat) (value : Int) :
    Frame [.mode, .power, .prot, .pair, .site, .tw, .jnl, .enabled, .ledger] s (State.tripModule s n idx value) := by
  unfold State.tripModule
  have h0 : Frame [.mode, .power, .prot, .pair, .site, .tw, .jnl, .enabled, .ledger] s s := Frame.refl _ _
  extract_lets x1 x2 x3 x4
  have hx2 : Frame _ _ x2 := (.after (State.ev_frame ..) h0 rfl)
  have hx4 : Frame _ _ x4 := (.foldl hx2 fun _ _ h2 => (.after (State.startCapture_frame ..) h2 rfl))
  exact (.foldl hx4 fun _ _ h3 => (.after (State.takeActions_frame ..) (.after (State.modPst_frame ..) h3 rfl) rfl))

theorem State.warnEnd_frame (s : State) (k : Nat) (n : Nat) :
    Frame [.mode, .power, .prot, .jnl, .enabled] s (State.warnEnd s k n) := by
  unfold State.warnEnd
  have h0 : Frame [.mode, .power, .prot, .jnl, .enabled] s s := Frame.refl _ _
  extract_lets x1 x2
  have hx1 : Frame _ _ x1 := (.after (State.modPst_frame ..) h0 rfl)
  have hx2 : Frame _ _ x2 := (.after (State.ev_frame ..) hx1 rfl)
  exact (.ite (.after (State.recordOwn_frame ..) (.after (State.clearAlarm_frame ..) hx2 rfl) rfl) h0)

end Sys2Proof.Machine
end

