-- ==== Sys2Proof/Laws/FrameProt.lean ====
section
/-! SUPPORT. What the operations of `Machine/Prot.lean` leave alone. -/

namespace Sys2Proof.Machine

theorem State.ackString_frame (s : State) (fm : Mask) (k : Nat) :
    Frame [.prot, .jnl] s (State.ackString s fm k) := by
  unfold State.ackString
  have h0 : Frame [.prot, .jnl] s s := Frame.refl _ _
  refine .foldl h0 fun _ _ h1 => ?_
  extract_lets x2
  have hx2 : Frame _ _ x2 := (.after (State.modPst_frame ..) (.after (State.ev_frame ..) h1 rfl) rfl)
  exact (.ite (.after (State.clearAlarm_frame ..) hx2 rfl) h1)

theorem State.auxWatch_frame (s : State) (k : Nat) :
    Frame [.prot] s (State.auxWatch s k) := by
  unfold State.auxWatch
  have h0 : Frame [.prot] s s := Frame.refl _ _
  extract_lets x1
  exact (.after (State.modPst_frame ..) h0 rfl)

theorem State.setAbsent_frame (s : State) (k : Nat) (key : Nat) (absent : Bool) :
    Frame [.prot] s (State.setAbsent s k key absent) := by
  unfold State.setAbsent
  exact (.after (State.modPst_frame ..) (.refl _ _) rfl)

theorem State.sf10Check_frame (s : State) :
    Frame [.mode, .power, .prot, .pair, .site, .tw, .jnl, .enabled, .ledger] s (State.sf10Check s) := by
  unfold State.sf10Check
  have h0 : Frame [.mode, .power, .prot, .pair, .site, .tw, .jnl, .enabled, .ledger] s s := Frame.refl _ _
  extract_lets x1 x2 x3 x4 x5 x6 x7 x8
  have hx3 : Frame _ _ x3 := (.upd h0 rfl)
  have hx6 : Frame _ _ x6 := (.foldl hx3 fun _ _ h2 => (.after (State.warnStart_frame ..) h2 rfl))
  exact (.ite hx3 (.ite (.foldl (.upd hx6 rfl) fun _ _ h3 => (.after (State.setAbsent_frame ..) h3 rfl)) (.foldl (.upd hx3 rfl) fun _ _ h3 => (.after (State.setAbsent_frame ..) h3 rfl))))

theorem State.cellAbsence_frame (s : State) (k : Nat) :
    Frame [.prot] s (State.cellAbsence s k) := by
  unfold State.cellAbsence
  have h0 : Frame [.prot] s s := Frame.refl _ _
  extract_lets x1 x2 x3 x4 x5 x6 x7 x8
  have hx6 : Frame _ _ x6 := (.after (State.setAbsent_frame ..) h0 rfl)
  have hx7 : Frame _ _ x7 := (.after (State.setAbsent_frame ..) hx6 rfl)
  have hx8 : Frame _ _ x8 := (.after (State.setAbsent_frame ..) hx7 rfl)
  exact (.ite (.after (State.setAbsent_frame ..) hx8 rfl) h0)

theorem State.decideCell_frame (s : State) (k : Nat) (n : Nat) (trip : Bool) (gs : List Nat) (f : MkCell → Nat) :
    Frame [.mode, .power, .prot, .pair, .site, .tw, .jnl, .enabled, .ledger] s (State.decideCell s k n trip gs f) := by
  unfold State.decideCell
  split
  · exact (.refl _ _)
  · exact (.ite (.after (State.tripStart_frame ..) (.refl _ _) rfl) (.after (State.warnStart_frame ..) (.refl _ _) rfl))

theorem State.diagPass_frame (s : State) (n : Nat) :
    Frame [.prot, .jnl] s (State.diagPass s n) := by
  unfold State.diagPass
  have h0 : Frame [.prot, .jnl] s s := Frame.refl _ _
  extract_lets x1 x2 x3
  have hx1 : Frame _ _ x1 := (.after (State.ev_frame ..) h0 rfl)
  have hx3 : Frame _ _ x3 := (.upd hx1 rfl)
  exact (.ite (.ite (.foldl hx3 fun _ _ h3 => (.after (State.clearAlarm_frame ..) h3 rfl)) hx3) h0)

theorem State.diagsPass_frame (s : State) :
    Frame [.prot, .jnl] s (State.diagsPass s) := by
  unfold State.diagsPass
  exact (.ite (.foldl (.refl _ _) fun _ _ h1 => (.ite h1 (.after (State.diagPass_frame ..) h1 rfl))) (.refl _ _))

theorem State.ilkAbsence_frame (s : State) :
    Frame [.prot] s (State.ilkAbsence s) := by
  unfold State.ilkAbsence
  exact (.foldl (.refl _ _) fun _ _ h1 => (.after (State.setAbsent_frame ..) (.after (State.setAbsent_frame ..) h1 rfl) rfl))

theorem State.ilkTrip_frame (s : State) (i : Nat) :
    Frame [.mode, .power, .prot, .pair, .site, .tw, .jnl, .enabled, .ledger] s (State.ilkTrip s i) := by
  unfold State.ilkTrip
  have h0 : Frame [.mode, .power, .prot, .pair, .site, .tw, .jnl, .enabled, .ledger] s s := Frame.refl _ _
  extract_lets x1
  have hx1 : Frame _ _ x1 := (.after (State.ev_frame ..) h0 rfl)
  exact (.ite (.after (State.tripModule_frame ..) h0 rfl) (.foldl hx1 fun _ _ h2 => (.after (State.startOpening_frame ..) (.after (State.modPst_frame ..) h2 rfl) rfl)))

theorem State.inhWatch_frame (s : State) (k : Nat) (i : Int) :
    Frame [.prot] s (State.inhWatch s k i) := by
  unfold State.inhWatch
  have h0 : Frame [.prot] s s := Frame.refl _ _
  extract_lets x1 x2 x3
  exact (.after (State.modPst_frame ..) h0 rfl)

theorem State.limitCheck_frame (s : State) (p : Nat) (test : Bool) :
    Frame [.mode, .mkCell, .power, .prot, .pair, .site, .tw, .jnl, .enabled, .ledger] s (State.limitCheck s p test) := by
  unfold State.limitCheck
  have h0 : Frame [.mode, .mkCell, .power, .prot, .pair, .site, .tw, .jnl, .enabled, .ledger] s s := Frame.refl _ _
  extract_lets x1 x2 x3 x4 x5 x6 x7 x8
  have hx3 : Frame _ _ x3 := (.upd h0 rfl)
  have hx4 : Frame _ _ x4 := (.after (State.decideCell_frame ..) hx3 rfl)
  have hx5 : Frame _ _ x5 := (.after (State.decideCell_frame ..) hx4 rfl)
  have hx6 : Frame _ _ x6 := (.after (State.decideCell_frame ..) hx5 rfl)
  have hx7 : Frame _ _ x7 := (.after (State.decideCell_frame ..) hx6 rfl)
  have hx8 : Frame _ _ x8 := (.after (State.cellAbsence_frame ..) (.after (State.modPst_frame ..) hx7 rfl) rfl)
  exact (.ite hx8 (.after (State.recordOwn_frame ..) hx8 rfl))

theorem State.sf03Check_frame (s : State) (k : Nat) :
    Frame [.mode, .power, .prot, .pair, .site, .tw, .jnl, .enabled, .ledger] s (State.sf03Check s k) := by
  unfold State.sf03Check
  have h0 : Frame [.mode, .power, .prot, .pair, .site, .tw, .jnl, .enabled, .ledger] s s := Frame.refl _ _
  extract_lets x1 x2 x3 x4 x5 x6 x7 x8 x9 x10 x11 x12
  have hx10 : Frame _ _ x10 := (.ite (.after (State.warnStart_frame ..) h0 rfl) h0)
  have hx11 : Frame _ _ x11 := (.ite (.after (State.tripStart_frame ..) hx10 rfl) hx10)
  exact (.ite (.after (State.setAbsent_frame ..) (.after (State.setAbsent_frame ..) hx11 rfl) rfl) hx11)

theorem State.mkThTake_frame (s : State) (i : Nat) :
    Frame [.mkTh] s (State.mkThTake s i) := by
  unfold State.mkThTake
  have h0 : Frame [.mkTh] s s := Frame.refl _ _
  extract_lets x1 x2 x3
  exact (.ite h0 (.upd h0 rfl))

theorem State.sf10_frame (s : State) (k : Nat) (value : Int) :
    Frame [.mode, .power, .prot, .pair, .site, .tw, .jnl, .enabled, .ledger] s (State.sf10 s k value) := by
  unfold State.sf10
  exact (.ite (.after (State.tripStart_frame ..) (.refl _ _) rfl) (.refl _ _))

theorem State.modelInput_frame (s : State) (k : Nat) (v : Int) :
    Frame [.mode, .power, .prot, .pair, .site, .tw, .jnl, .enabled, .ledger] s (State.modelInput s k v) := by
  unfold State.modelInput
  have h0 : Frame [.mode, .power, .prot, .pair, .site, .tw, .jnl, .enabled, .ledger] s s := Frame.refl _ _
  extract_lets x1
  exact (.after (State.sf03Check_frame ..) (.after (State.modPst_frame ..) h0 rfl) rfl)

theorem State.powerAbsence_frame (s : State) (k : Nat) :
    Frame [.prot] s (State.powerAbsence s k) := by
  unfold State.powerAbsence
  exact (.foldl (.refl _ _) fun _ _ h1 => (.ite (.after (State.setAbsent_frame ..) h1 rfl) h1))

theorem State.rewriteSafety_frame (s : State) :
    Frame [.jnl] s (State.rewriteSafety s) := by
  unfold State.rewriteSafety
  split
  · exact (.after (State.writeSafety_frame ..) (.refl _ _) rfl)
  · exact (.refl _ _)

theorem State.sf09_frame (s : State) (k : Nat) (value : Int) :
    Frame [.mode, .power, .prot, .pair, .site, .tw, .jnl, .enabled, .ledger] s (State.sf09 s k value) := by
  unfold State.sf09
  exact (.ite (.after (State.tripStart_frame ..) (.refl _ _) rfl) (.refl _ _))

theorem State.sf09Stands_frame (s : State) (k : Nat) :
    Frame [.mode, .power, .prot, .pair, .site, .tw, .jnl, .enabled, .ledger] s (State.sf09Stands s k) := by
  unfold State.sf09Stands
  have h0 : Frame [.mode, .power, .prot, .pair, .site, .tw, .jnl, .enabled, .ledger] s s := Frame.refl _ _
  extract_lets x1
  exact (.ite (.after (State.sf09_frame ..) h0 rfl) (.ite (.after (State.sf09_frame ..) h0 rfl) (.ite (.after (State.sf09_frame ..) h0 rfl) h0)))

theorem State.sf10Frame_frame (s : State) :
    Frame [.mode, .power, .prot, .pair, .site, .tw, .jnl, .enabled, .ledger] s (State.sf10Frame s) := by
  unfold State.sf10Frame
  exact (.ite (.foldl (.refl _ _) fun _ _ h1 => (.after (State.modPst_frame ..) h1 rfl)) (.after (State.sf10Check_frame ..) (.refl _ _) rfl))

theorem State.tripEnd_frame (s : State) (k : Nat) (n : Nat) :
    Frame [.mode, .power, .prot, .jnl, .enabled] s (State.tripEnd s k n) := by
  unfold State.tripEnd
  have h0 : Frame [.mode, .power, .prot, .jnl, .enabled] s s := Frame.refl _ _
  extract_lets x1
  have hx1 : Frame _ _ x1 := (.after (State.modPst_frame ..) h0 rfl)
  exact (.ite (.after (State.recordOwn_frame ..) (.after (State.clearAlarm_frame ..) hx1 rfl) rfl) h0)

theorem State.verifyFault_frame (s : State) (detail : Nat) :
    Frame [.prot, .jnl] s (State.verifyFault s detail) := by
  unfold State.verifyFault
  have h0 : Frame [.prot, .jnl] s s := Frame.refl _ _
  extract_lets x1 x2 x3 x4 x5 x6 x7 x8
  have hx3 : Frame _ _ x3 := (.upd h0 rfl)
  have hx4 : Frame _ _ x4 := (.after (State.diagFail_frame ..) hx3 rfl)
  have hx6 : Frame _ _ x6 := (.upd hx4 rfl)
  have hx7 : Frame _ _ x7 := (.after (State.diagFail_frame ..) (.after (State.rewriteSafety_frame ..) hx3 rfl) rfl)
  exact (.ite (.foldl hx6 fun _ _ h5 => (.after (State.raiseAlarm_frame ..) h5 rfl)) (.upd hx7 rfl))

end Sys2Proof.Machine
end

