-- ==== Sys2Proof/Laws/FrameLinkOps.lean ====
section
/-! SUPPORT. What the operations of `Machine/LinkOps.lean` leave alone. -/

namespace Sys2Proof.Machine

theorem State.balCount_frame (s : State) (p : Nat) :
    Frame [.cells, .aux] s (State.balCount s p) := by
  unfold State.balCount
  have h0 : Frame [.cells, .aux] s s := Frame.refl _ _
  extract_lets x1 x2 x3
  split
  · exact h0
  · extract_lets x4
    exact (.ite h0 (.upd h0 rfl))

theorem State.policyDeferred_frame (s : State) :
    Frame [.link] s (State.policyDeferred s) := by
  unfold State.policyDeferred
  refine .foldl (.refl _ _) fun _ _ h1 => ?_
  split
  · exact (.ite (.after (State.policyWrite_frame ..) h1 rfl) h1)
  · exact h1

theorem State.blockCompare_frame (s : State) (p : Nat) (d : UpData) :
    Frame [.meas] s (State.blockCompare s p d) := by
  unfold State.blockCompare
  have h0 : Frame [.meas] s s := Frame.refl _ _
  extract_lets x1 x2 x3
  exact (.upd h0 rfl)

theorem State.setLink_frame (s : State) (p : Nat) (new : LinkState) (cause : Nat) :
    Frame [.link, .jnl] s (State.setLink s p new cause) := by
  unfold State.setLink
  have h0 : Frame [.link, .jnl] s s := Frame.refl _ _
  extract_lets x1
  exact (.ite h0 (.after (State.modLnk_frame ..) (.after (State.ev_frame ..) h0 rfl) rfl))

theorem State.thOpen_frame (s : State) (k : Nat) :
    Frame [.mode, .meas, .power, .prot, .pair, .site, .tw, .jnl, .enabled, .ledger] s (State.thOpen s k) := by
  unfold State.thOpen
  have h0 : Frame [.mode, .meas, .power, .prot, .pair, .site, .tw, .jnl, .enabled, .ledger] s s := Frame.refl _ _
  exact (.after (State.tripStart_frame ..) (.upd h0 rfl) rfl)

theorem State.wireOpen_frame (s : State) (k : Nat) :
    Frame [.mode, .meas, .power, .prot, .pair, .site, .tw, .jnl, .enabled, .ledger] s (State.wireOpen s k) := by
  unfold State.wireOpen
  have h0 : Frame [.mode, .meas, .power, .prot, .pair, .site, .tw, .jnl, .enabled, .ledger] s s := Frame.refl _ _
  exact (.after (State.tripStart_frame ..) (.upd h0 rfl) rfl)

theorem State.pairSend_frame (s : State) (m : PairMsg) :
    Frame [.pair] s (State.pairSend s m) := by
  unfold State.pairSend
  have h0 : Frame [.pair] s s := Frame.refl _ _
  exact (.ite (.upd h0 rfl) h0)

theorem State.wireFlags_frame (s : State) (p : Nat) :
    Frame [.cells] s (State.wireFlags s p) := by
  unfold State.wireFlags
  have h0 : Frame [.cells] s s := Frame.refl _ _
  extract_lets x1 x2 x3
  exact (.upd h0 rfl)

theorem State.markhorTake_frame (s : State) (p : Nat) (d : UpData) :
    Frame [.mkCell, .mkTh] s (State.markhorTake s p d) := by
  unfold State.markhorTake
  have h0 : Frame [.mkCell, .mkTh] s s := Frame.refl _ _
  extract_lets x1 x2 x3
  have hx3 : Frame _ _ x3 := (.upd h0 rfl)
  exact (.foldl hx3 fun _ _ h2 => (.after (State.mkThTake_frame ..) h2 rfl))

theorem State.testTake_frame (s : State) (p : Nat) (d : UpData) :
    Frame [.meas] s (State.testTake s p d) := by
  unfold State.testTake
  have h0 : Frame [.meas] s s := Frame.refl _ _
  extract_lets x1 x2
  split
  · exact h0
  · extract_lets x3 x4 x5
    exact (.ite h0 (.upd h0 rfl))

theorem State.tableWrite_frame (s : State) (p : Nat) (d : UpData) :
    Frame [.meas, .cells, .th] s (State.tableWrite s p d) := by
  unfold State.tableWrite
  have h0 : Frame [.meas, .cells, .th] s s := Frame.refl _ _
  extract_lets x1 x2 x3
  exact (.ite h0 (.upd h0 rfl))

theorem State.tableTake_frame (s : State) (p : Nat) (d : UpData) :
    Frame [.link, .meas, .cells, .th] s (State.tableTake s p d) := by
  unfold State.tableTake
  have h0 : Frame [.link, .meas, .cells, .th] s s := Frame.refl _ _
  extract_lets x1
  have hx1 : Frame _ _ x1 := (.after (State.tableWrite_frame ..) h0 rfl)
  exact (.ite (.after (State.modLnk_frame ..) hx1 rfl) hx1)

theorem State.sendWake_frame (s : State) (p : Nat) :
    Frame [.link] s (State.sendWake s p) := by
  unfold State.sendWake
  exact (.after (State.modLnk_frame ..) (.refl _ _) rfl)

theorem State.wakePort_frame (s : State) (p : Nat) (from_ : LinkState) :
    Frame [.link, .jnl] s (State.wakePort s p from_) := by
  unfold State.wakePort
  exact (.ite (.after (State.modLnk_frame ..) (.after (State.setLink_frame ..) (.after (State.sendWake_frame ..) (.refl _ _) rfl) rfl) rfl) (.refl _ _))

theorem State.secStart_frame (s : State) (p : Nat) :
    Frame [.link] s (State.secStart s p) := by
  unfold State.secStart
  have h0 : Frame [.link] s s := Frame.refl _ _
  extract_lets x1 x2
  refine .ite ?_ ?_
  · exact h0
  · split
    · exact h0
    · exact (.ite (.after (State.modLnk_frame ..) h0 rfl) h0)

theorem State.wireDeclared_frame (s : State) (k : Nat) (value : Nat) (atOnce : Bool) :
    Frame [.mode, .meas, .power, .prot, .pair, .site, .tw, .jnl, .enabled, .ledger] s (State.wireDeclared s k value atOnce) := by
  unfold State.wireDeclared
  have h0 : Frame [.mode, .meas, .power, .prot, .pair, .site, .tw, .jnl, .enabled, .ledger] s s := Frame.refl _ _
  extract_lets x1 x2 x3 x4
  have hx1 : Frame _ _ x1 := (.after (State.warnStart_frame ..) h0 rfl)
  have hx3 : Frame _ _ x3 := (.after (State.ev_frame ..) hx1 rfl)
  exact (.ite (.after (State.wireOpen_frame ..) hx1 rfl) (.ite hx1 (.upd hx3 rfl)))

theorem State.wiresClear_frame (s : State) (k : Nat) :
    Frame [.mode, .meas, .cells, .power, .prot, .jnl, .enabled] s (State.wiresClear s k) := by
  unfold State.wiresClear
  have h0 : Frame [.mode, .meas, .cells, .power, .prot, .jnl, .enabled] s s := Frame.refl _ _
  extract_lets x1 x2
  have hx2 : Frame _ _ x2 := (.upd h0 rfl)
  exact (.after (State.warnEnd_frame ..) (.foldl hx2 fun _ _ h2 => (.after (State.wireFlags_frame ..) h2 rfl)) rfl)

end Sys2Proof.Machine
end

