-- ==== Sys2Proof/Laws/FrameMemory.lean ====
section
/-! SUPPORT. What the operations of `Machine/Memory.lean` leave alone. -/

namespace Sys2Proof.Machine

theorem State.adoptLatch_frame (s : State) (k : Nat) (n : Nat) :
    Frame [.prot, .jnl] s (State.adoptLatch s k n) := by
  unfold State.adoptLatch
  have h0 : Frame [.prot, .jnl] s s := Frame.refl _ _
  extract_lets x1
  have hx1 : Frame _ _ x1 := (.after (State.ev_frame ..) h0 rfl)
  exact (.after (State.modPst_frame ..) hx1 rfl)

theorem State.carrierWrite_frame (s : State) (w : WearRec) (v : Verdict) :
    Frame [.jnl, .wearRecs] s (State.carrierWrite s w v) := by
  unfold State.carrierWrite
  have h0 : Frame [.jnl, .wearRecs] s s := Frame.refl _ _
  extract_lets x1 x2 x3 x4 x5 x6 x7
  have hx4 : Frame _ _ x4 := (.ite (.upd h0 rfl) (.upd h0 rfl))
  have hx6 : Frame _ _ x6 := (.after (State.ev_frame ..) hx4 rfl)
  exact (.ite (.upd hx4 rfl) (.upd hx6 rfl))

theorem State.cellLost_frame (s : State) (g : Nat) :
    Frame [.cells, .aux, .herdTab] s (State.cellLost s g) := by
  unfold State.cellLost
  have h0 : Frame [.cells, .aux, .herdTab] s s := Frame.refl _ _
  extract_lets x1 x2
  exact (.upd h0 rfl)

theorem State.reconcile_frame (s : State) :
    Frame [.mode, .est, .prot, .jnl] s (State.reconcile s) := by
  unfold State.reconcile
  have h0 : Frame [.mode, .est, .prot, .jnl] s s := Frame.refl _ _
  extract_lets x1 x2 x3 x4 x5 x6 x7 x8 x9 x10 x11 x12 x13 x14 x15 x16 x17
  have hx8 : Frame _ _ x8 := (.after (State.ev_frame ..) h0 rfl)
  have hx13 : Frame _ _ x13 := (.upd h0 rfl)
  clear_value x7
  split
  · exact (.upd hx8 rfl)
  · clear_value x15
    split
    · exact hx13
    · extract_lets x18 x19 x20 x21
      have hx18 : Frame _ _ x18 := (.upd hx13 rfl)
      have hx19 : Frame _ _ x19 := (.foldl hx18 fun _ _ h4 => (.foldl h4 fun _ _ h5 => (.ite (.after (State.adoptLatch_frame ..) h5 rfl) h5)))
      have hx21 : Frame _ _ x21 := (.upd hx19 rfl)
      exact (.after (State.ev_frame ..) hx21 rfl)

theorem State.wearToFe_frame (s : State) (w : WearRec) (ports : List Nat) (tries : Nat) :
    Frame [.link, .jnl] s (State.wearToFe s w ports tries) := by
  unfold State.wearToFe
  have h0 : Frame [.link, .jnl] s s := Frame.refl _ _
  extract_lets x1 x2
  have hx1 : Frame _ _ x1 := (.foldl h0 fun _ _ h1 => (.after (State.modLnk_frame ..) h1 rfl))
  exact (.upd hx1 rfl)

theorem State.wearFault_frame (s : State) (p : Nat) (cause : Nat) :
    Frame [.jnl] s (State.wearFault s p cause) := by
  unfold State.wearFault
  exact (.after (State.ev_frame ..) (.refl _ _) rfl)

theorem State.commitFailed_frame (s : State) (p : Nat) (cause : Nat) :
    Frame [.link, .jnl] s (State.commitFailed s p cause) := by
  unfold State.commitFailed
  have h0 : Frame [.link, .jnl] s s := Frame.refl _ _
  extract_lets x1 x2 x3
  have hx1 : Frame _ _ x1 := (.after (State.wearFault_frame ..) h0 rfl)
  have hx2 : Frame _ _ x2 := (.after (State.modLnk_frame ..) hx1 rfl)
  split
  · exact h0
  · split
    · exact (.after (State.wearToFe_frame ..) hx2 rfl)
    · exact (.upd hx2 rfl)

theorem State.hardFault_frame (s : State) (r : MemRegion) (addr : Nat) :
    Frame [.prot, .mem, .jnl, .remap] s (State.hardFault s r addr) := by
  unfold State.hardFault
  have h0 : Frame [.prot, .mem, .jnl, .remap] s s := Frame.refl _ _
  extract_lets x1 x2 x3 x4 x5 x6 x7 x8 x9
  have hx5 : Frame _ _ x5 := (.after (State.ev_frame ..) h0 rfl)
  have hx7 : Frame _ _ x7 := (.upd hx5 rfl)
  exact (.ite h0 (.ite (.upd hx7 rfl) (.ite (.upd hx7 rfl) (.upd hx7 rfl))))

theorem State.modMem_frame (s : State) (r : MemRegion) (f : MemReg → MemReg) :
    Frame [.mem] s (State.modMem s r f) := by
  unfold State.modMem
  have h0 : Frame [.mem] s s := Frame.refl _ _
  extract_lets x1
  split
  · exact (.upd h0 rfl)
  · exact (.upd h0 rfl)
  · exact (.upd h0 rfl)

theorem State.corrected_frame (s : State) (r : MemRegion) (page : Bool) (addr : Nat) :
    Frame [.prot, .mem, .jnl, .remap] s (State.corrected s r page addr) := by
  unfold State.corrected
  have h0 : Frame [.prot, .mem, .jnl, .remap] s s := Frame.refl _ _
  extract_lets x1 x2 x3 x4 x5 x6
  have hx3 : Frame _ _ x3 := (.after (State.evIf_frame ..) h0 rfl)
  have hx4 : Frame _ _ x4 := (.after (State.modMem_frame ..) hx3 rfl)
  have hx6 : Frame _ _ x6 := (.upd hx4 rfl)
  exact (.ite (.after (State.hardFault_frame ..) hx6 rfl) hx6)

theorem State.gaspBase_frame (s : State) :
    Frame [.jnl] s (State.gaspBase s) := by
  unfold State.gaspBase
  have h0 : Frame [.jnl] s s := Frame.refl _ _
  extract_lets x1 x2 x3 x4 x5
  have hx3 : Frame _ _ x3 := (.upd h0 rfl)
  clear_value x4
  split
  · exact hx3
  · refine .ite ?_ ?_
    · exact hx3
    · split
      · exact (.upd hx3 rfl)
      · exact hx3

theorem State.gaspWrite_frame (s : State) :
    Frame [.jnl, .wearRecs] s (State.gaspWrite s) := by
  unfold State.gaspWrite
  have h0 : Frame [.jnl, .wearRecs] s s := Frame.refl _ _
  extract_lets x1 x2 x3
  split
  · exact h0
  · extract_lets x4
    exact (.ite (.upd h0 rfl) (.upd h0 rfl))

theorem State.memOutcome_frame (s : State) (a1 : MemHit) :
    Frame [.mode, .cells, .aux, .th, .herdTab, .power, .prot, .pair, .site, .tw, .jnl, .enabled, .ledger, .pages] s (State.memOutcome s a1) := by
  unfold State.memOutcome
  have h0 : Frame [.mode, .cells, .aux, .th, .herdTab, .power, .prot, .pair, .site, .tw, .jnl, .enabled, .ledger, .pages] s s := Frame.refl _ _
  extract_lets x1 x2
  split
  · exact h0
  · exact (.after (State.cellLost_frame ..) h0 rfl)
  · exact (.upd h0 rfl)
  · exact (.after (State.poisonPage_frame ..) h0 rfl)
  · exact (.after (State.winLoss_frame ..) (.upd h0 rfl) rfl)
  · exact (.ite (.after (State.winLoss_frame ..) (.upd h0 rfl) rfl) h0)
  · extract_lets x3
    have hx3 : Frame _ _ x3 := (.after (State.modPp_frame ..) h0 rfl)
    exact (.ite (.after (State.sf10_frame ..) (.upd hx3 rfl) rfl) (.upd h0 rfl))

theorem State.uncorrectable_frame {W : List View} {s u : State} {r : MemRegion} {addr row : Nat}
    {outcome : State → State} (h : Frame W s u) (ho : ∀ x, Frame W s x → Frame W s (outcome x))
    (hw : ([.prot, .mem, .jnl, .remap] : List View).all W.contains = true) : Frame W s (u.uncorrectable r addr row outcome) := by
  unfold State.uncorrectable
  extract_lets x1 x2
  have hx1 : Frame W s x1 := h.trans (Frame.mono (V := [.prot, .mem, .jnl, .remap]) (.after (State.modMem_frame ..) (.after (State.ev_frame ..) (.refl _ _) rfl) rfl) hw)
  have hx2 : Frame W s x2 := (ho _ hx1).trans (Frame.mono (V := [.prot, .mem, .jnl, .remap]) (.after (State.hardFault_frame ..) (.refl _ _) rfl) hw)
  exact .ite hx2 (hx2.trans (Frame.mono (V := [.prot, .mem, .jnl, .remap]) (.after (State.modMem_frame ..) (.refl _ _) rfl) hw))

theorem State.memError_frame (s : State) (r : MemRegion) (e : MemErr) :
    Frame [.mode, .cells, .aux, .th, .herdTab, .power, .prot, .pair, .site, .tw, .mem, .jnl, .enabled, .ledger, .pages, .remap] s (State.memError s r e) := by
  unfold State.memError
  split
  · exact (.refl _ _)
  · exact (.after (State.corrected_frame ..) (.refl _ _) rfl)
  · exact (.after (State.corrected_frame ..) (.refl _ _) rfl)
  · exact (State.uncorrectable_frame (.refl _ _) (fun _  g1 => (.after (State.memOutcome_frame ..) g1 rfl)) rfl)

theorem State.mirrorWrite_frame (s : State) (w : WearRec) :
    Frame [.jnl, .wearRecs] s (State.mirrorWrite s w) := by
  unfold State.mirrorWrite
  have h0 : Frame [.jnl, .wearRecs] s s := Frame.refl _ _
  exact (.ite (.upd h0 rfl) (.upd h0 rfl))

theorem State.uploadLost_frame (s : State) (a1 : MemHit) :
    Frame [.cells] s (State.uploadLost s a1) := by
  unfold State.uploadLost
  split
  · exact (.upd (.refl _ _) rfl)
  · exact (.refl _ _)

theorem State.oldWords_frame (s : State) (es : List MemErr) :
    Frame [.cells, .prot, .mem, .jnl, .remap] s (State.oldWords s es) := by
  unfold State.oldWords
  refine .foldl (.refl _ _) fun _ _ h1 => ?_
  split
  · exact h1
  · exact (.after (State.corrected_frame ..) h1 rfl)
  · exact (.after (State.corrected_frame ..) h1 rfl)
  · exact (State.uncorrectable_frame h1 (fun _  g2 => (.after (State.uploadLost_frame ..) g2 rfl)) rfl)

end Sys2Proof.Machine
end

