-- ==== Sys2Proof/Laws/FrameModes.lean ====
section
/-! SUPPORT. What the operations of `Machine/Modes.lean` leave alone. -/

namespace Sys2Proof.Machine

theorem State.idleEntry_frame (s : State) :
    Frame [.mode, .pair, .site, .tw, .jnl, .modeNow, .ledger] s (State.idleEntry s) := by
  unfold State.idleEntry
  have h0 : Frame [.mode, .pair, .site, .tw, .jnl, .modeNow, .ledger] s s := Frame.refl _ _
  extract_lets x1 x2
  have hx2 : Frame _ _ x2 := (.after (State.setMode_frame ..) h0 rfl)
  exact (.ite (.ite (.ite hx2 (.after (State.cmdTo_frame ..) hx2 rfl)) (.ite h0 (.after (State.setMode_frame ..) h0 rfl))) h0)

theorem State.herdClear_frame (s : State) (k : Nat) (cmd : Word) :
    Frame [.herdTab, .herd, .prot, .jnl] s (State.herdClear s k cmd) := by
  unfold State.herdClear
  have h0 : Frame [.herdTab, .herd, .prot, .jnl] s s := Frame.refl _ _
  extract_lets x1 x2 x3 x4 x5 x6 x7
  have hx1 : ∀ a8, Frame [.herdTab, .herd, .prot, .jnl] s a8 → ∀ a9, ∀ a10, Frame [.herdTab, .herd, .prot, .jnl] s (x1 a8 a9 a10) := by
    intro a8 ha8 a9 a10
    unfold x1
    extract_lets x11
    exact (.after (State.evIf_frame ..) ha8 rfl)
  have hx2 : Frame _ _ x2 := (.foldl h0 fun _ _ h1 => (.foldl h1 fun _ _ h2 => (hx1 _ h2 _ _)))
  have hx3 : Frame _ _ x3 := (.after (State.evIf_frame ..) (.after (State.ev_frame ..) hx2 rfl) rfl)
  exact (.after (State.clearAlarm_frame ..) (.upd hx3 rfl) rfl)

theorem State.recordIdentities_frame (s : State) (k : Nat) (renew : Bool) :
    Frame [.jnl] s (State.recordIdentities s k renew) := by
  unfold State.recordIdentities
  have h0 : Frame [.jnl] s s := Frame.refl _ _
  refine .foldl h0 fun _ _ h1 => ?_
  extract_lets x2 x3 x4 x5 x6 x7
  have hx6 : Frame _ _ x6 := (.after (State.ev_frame ..) h1 rfl)
  exact (.ite (.upd hx6 rfl) h1)

theorem State.surveyStart_frame (s : State) (k : Nat) (cmd : Word) :
    Frame [.mode, .link, .cfe, .meas, .jnl] s (State.surveyStart s k cmd) := by
  unfold State.surveyStart
  have h0 : Frame [.mode, .link, .cfe, .meas, .jnl] s s := Frame.refl _ _
  extract_lets x1 x2 x3
  have hx2 : Frame _ _ x2 := (.upd h0 rfl)
  have hx3 : Frame _ _ x3 := (.after (State.modStr_frame ..) hx2 rfl)
  refine .foldl hx3 fun _ _ h4 => ?_
  extract_lets x5
  have hx5 : Frame _ _ x5 := (.after (State.secQueue_frame ..) (.after (State.wakePort_frame ..) h4 rfl) rfl)
  exact (.upd hx5 rfl)

theorem State.surveyCmdEnd_frame (s : State) (c : SurveyCmd) :
    Frame [.pair, .site, .jnl, .ledger] s (State.surveyCmdEnd s c) := by
  unfold State.surveyCmdEnd
  have h0 : Frame [.pair, .site, .jnl, .ledger] s s := Frame.refl _ _
  extract_lets x1 x2
  exact (.ite (.after (State.cmdTo_frame ..) h0 rfl) (.ite (.after (State.cmdTo_frame ..) h0 rfl) (.after (State.cmdFail_frame ..) h0 rfl)))

theorem State.surveyCode_frame (s : State) (k : Nat) (cmd : Word) (code : Nat) :
    Frame [.mode, .pair, .site, .jnl, .ledger] s (State.surveyCode s k cmd code) := by
  unfold State.surveyCode
  have h0 : Frame [.mode, .pair, .site, .jnl, .ledger] s s := Frame.refl _ _
  extract_lets x1 x2
  split
  · exact h0
  · extract_lets x3
    exact (.ite (.upd h0 rfl) (.after (State.surveyCmdEnd_frame ..) (.upd h0 rfl) rfl))

theorem State.surveyTake_frame (s : State) (k : Nat) (v : SurveySt) (r : SState × Byte) :
    Frame [.mode, .power, .prot, .pair, .site, .tw, .jnl, .enabled, .ledger] s (State.surveyTake s k v r) := by
  unfold State.surveyTake
  have h0 : Frame [.mode, .power, .prot, .pair, .site, .tw, .jnl, .enabled, .ledger] s s := Frame.refl _ _
  extract_lets x1 x2 x3 x4
  have hx1 : Frame _ _ x1 := (.after (State.modStr_frame ..) h0 rfl)
  have hx3 : Frame _ _ x3 := (.ite (.after (State.tripStart_frame ..) (.upd hx1 rfl) rfl) hx1)
  have hx4 : Frame _ _ x4 := (.ite (.ite hx3 (.after (State.setStr_frame ..) hx3 rfl)) (.ite hx3 (.after (State.setStr_frame ..) hx3 rfl)))
  exact (.after (State.surveyCode_frame ..) hx4 rfl)

theorem State.surveysStart_frame (s : State) (e : LedgerEntry) (renew : Bool) (ks : List Nat) (refused : List (Nat × Status)) :
    Frame [.mode, .link, .cfe, .meas, .prot, .pair, .site, .jnl, .ledger] s (State.surveysStart s e renew ks refused) := by
  unfold State.surveysStart
  have h0 : Frame [.mode, .link, .cfe, .meas, .prot, .pair, .site, .jnl, .ledger] s s := Frame.refl _ _
  extract_lets x1 x2 x3 x4
  have hx1 : Frame _ _ x1 := (.after (State.cmdStep_frame ..) h0 rfl)
  have hx2 : Frame _ _ x2 := (.foldl hx1 fun _ _ h2 => (.after (State.surveyStart_frame ..) (.after (State.clearLatches_frame ..) h2 rfl) rfl))
  exact (.upd hx2 rfl)

theorem State.targetIdle_frame (s : State) (cmd : Word) (holdup : Bool) :
    Frame [.mode, .power, .prot, .jnl, .enabled] s (State.targetIdle s cmd holdup) := by
  unfold State.targetIdle
  have h0 : Frame [.mode, .power, .prot, .jnl, .enabled] s s := Frame.refl _ _
  extract_lets x1 x2 x3
  have hx2 : Frame _ _ x2 := (.upd h0 rfl)
  have hx3 : Frame _ _ x3 := (.after (State.abortConnects_frame ..) hx2 rfl)
  exact (.foldl hx3 fun _ _ h3 => (.after (State.orderOpen_frame ..) h3 rfl))

end Sys2Proof.Machine
end

