-- ==== Sys2Proof/Laws/FrameMeas.lean ====
section
/-! SUPPORT. What the operations of `Machine/Meas.lean` leave alone. -/

namespace Sys2Proof.Machine

theorem State.blkFlags_frame (s : State) (p : Nat) (b : Bool) :
    Frame [.cells] s (State.blkFlags s p b) := by
  unfold State.blkFlags
  exact (.upd (.refl _ _) rfl)

theorem State.blockEvent_frame (s : State) (p : Nat) (k : Nat) (residual : Int) (kind : Byte) :
    Frame [.jnl] s (State.blockEvent s p k residual kind) := by
  unfold State.blockEvent
  exact (.after (State.ev_frame ..) (.refl _ _) rfl)

theorem State.wireOpenLow_frame (s : State) (k : Nat) :
    Frame [.mode, .meas, .power, .prot, .pair, .site, .tw, .jnl, .enabled, .ledger] s (State.wireOpenLow s k) := by
  unfold State.wireOpenLow
  have h0 : Frame [.mode, .meas, .power, .prot, .pair, .site, .tw, .jnl, .enabled, .ledger] s s := Frame.refl _ _
  extract_lets x1 x2
  have hx2 : Frame _ _ x2 := (.ite (.after (State.wireOpen_frame ..) h0 rfl) h0)
  exact (.ite (.ite (.after (State.thOpen_frame ..) hx2 rfl) hx2) h0)

theorem State.modMf_frame (s : State) (p : Nat) (f : FeMeas → FeMeas) :
    Frame [.meas] s (State.modMf s p f) := by
  unfold State.modMf
  have h0 : Frame [.meas] s s := Frame.refl _ _
  exact (.upd h0 rfl)

theorem State.modMs_frame (s : State) (k : Nat) (f : StrMeas → StrMeas) :
    Frame [.meas] s (State.modMs s k f) := by
  unfold State.modMs
  have h0 : Frame [.meas] s s := Frame.refl _ _
  exact (.upd h0 rfl)

theorem State.outOfService_frame (s : State) (k : Nat) :
    Frame [.mode, .meas, .power, .prot, .pair, .site, .tw, .jnl, .enabled, .ledger] s (State.outOfService s k) := by
  unfold State.outOfService
  have h0 : Frame [.mode, .meas, .power, .prot, .pair, .site, .tw, .jnl, .enabled, .ledger] s s := Frame.refl _ _
  extract_lets x1 x2 x3 x4
  have hx4 : Frame _ _ x4 := (.after (State.modMs_frame ..) (.after (State.ev_frame ..) h0 rfl) rfl)
  exact (.ite (.ite h0 (.ite (.after (State.thOpen_frame ..) hx4 rfl) hx4)) (.after (State.modMs_frame ..) h0 rfl))

theorem State.wireEvent_frame (s : State) (p : Nat) (w : Nat) (n : Nat) (r : OwFound) :
    Frame [.jnl] s (State.wireEvent s p w n r) := by
  unfold State.wireEvent
  have h0 : Frame [.jnl] s s := Frame.refl _ _
  extract_lets x1 x2
  exact (.after (State.ev_frame ..) h0 rfl)

theorem State.wireDeclare_frame (s : State) (p : Nat) (r : OwFound) (atOnce : Bool) :
    Frame [.mode, .meas, .cells, .power, .prot, .pair, .site, .tw, .jnl, .enabled, .ledger] s (State.wireDeclare s p r atOnce) := by
  unfold State.wireDeclare
  have h0 : Frame [.mode, .meas, .cells, .power, .prot, .pair, .site, .tw, .jnl, .enabled, .ledger] s s := Frame.refl _ _
  extract_lets x1 x2 x3 x4 x5 x6 x7 x8 x9 x10
  have hx6 : Frame _ _ x6 := (.foldl h0 fun _ _ h1 => (.after (State.wireEvent_frame ..) h1 rfl))
  have hx7 : Frame _ _ x7 := (.ite (.after (State.wireEvent_frame ..) hx6 rfl) hx6)
  have hx9 : Frame _ _ x9 := (.after (State.modMf_frame ..) hx7 rfl)
  have hx10 : Frame _ _ x10 := (.after (State.modMs_frame ..) hx9 rfl)
  exact (.ite (.after (State.wireFlags_frame ..) hx10 rfl) (.after (State.wireDeclared_frame ..) (.after (State.wireFlags_frame ..) hx10 rfl) rfl))

theorem State.testGood_frame (s : State) (p : Nat) (t : OwTest) :
    Frame [.mode, .meas, .cells, .power, .prot, .pair, .site, .tw, .jnl, .enabled, .ledger] s (State.testGood s p t) := by
  unfold State.testGood
  have h0 : Frame [.mode, .meas, .cells, .power, .prot, .pair, .site, .tw, .jnl, .enabled, .ledger] s s := Frame.refl _ _
  extract_lets x1 x2 x3 x4 x5 x6
  have hx5 : Frame _ _ x5 := (.after (State.modMf_frame ..) (.after (State.modMs_frame ..) h0 rfl) rfl)
  have hx6 : Frame _ _ x6 := (.ite (.after (State.modStr_frame ..) hx5 rfl) hx5)
  exact (.ite hx6 (.after (State.wireDeclare_frame ..) hx6 rfl))

theorem State.testStart_frame (s : State) (p : Nat) (why : TestWhy) (attempt : Nat) :
    Frame [.link, .meas] s (State.testStart s p why attempt) := by
  unfold State.testStart
  exact (.after (State.modLnk_frame ..) (.after (State.modMf_frame ..) (.refl _ _) rfl) rfl)

theorem State.testVoid_frame (s : State) (p : Nat) (t : OwTest) (cause : Nat) :
    Frame [.mode, .meas, .jnl] s (State.testVoid s p t cause) := by
  unfold State.testVoid
  have h0 : Frame [.mode, .meas, .jnl] s s := Frame.refl _ _
  extract_lets x1 x2 x3 x4 x5
  have hx3 : Frame _ _ x3 := (.after (State.ev_frame ..) h0 rfl)
  have hx4 : Frame _ _ x4 := (.after (State.modMs_frame ..) hx3 rfl)
  have hx5 : Frame _ _ x5 := (.after (State.modMf_frame ..) hx4 rfl)
  exact (.ite (.after (State.modMf_frame ..) hx4 rfl) (.ite (.after (State.modStr_frame ..) hx5 rfl) hx5))

theorem State.thEvent_frame (s : State) (p : Nat) (t : Nat) (kind : Nat) (reading : Int) :
    Frame [.jnl] s (State.thEvent s p t kind reading) := by
  unfold State.thEvent
  exact (.after (State.ev_frame ..) (.refl _ _) rfl)

theorem State.tierPermit_frame (s : State) (k : Nat) :
    Frame [.meas, .jnl] s (State.tierPermit s k) := by
  unfold State.tierPermit
  have h0 : Frame [.meas, .jnl] s s := Frame.refl _ _
  extract_lets x1 x2 x3 x4 x5 x6 x7 x8
  have hx8 : Frame _ _ x8 := (.after (State.evIf_frame ..) h0 rfl)
  exact (.after (State.modMs_frame ..) hx8 rfl)

end Sys2Proof.Machine
end

