-- ==== Sys2Proof/Laws/FrameThermal.lean ====
section
/-! SUPPORT. What the operations of `Machine/Thermal.lean` leave alone. -/

namespace Sys2Proof.Machine

theorem State.leadSelect_frame (s : State) (k : Nat) :
    Frame [.thm] s (State.leadSelect s k) := by
  unfold State.leadSelect
  have h0 : Frame [.thm] s s := Frame.refl _ _
  extract_lets x1 x2 x3 x4 x5
  exact (.upd h0 rfl)

theorem State.plateTake_frame (s : State) (k : Nat) :
    Frame [.thm, .jnl] s (State.plateTake s k) := by
  unfold State.plateTake
  have h0 : Frame [.thm, .jnl] s s := Frame.refl _ _
  extract_lets x1 x2 x3 x4
  have hx3 : Frame _ _ x3 := (.after (State.evIf_frame ..) h0 rfl)
  exact (.upd hx3 rfl)

theorem State.predSet_frame (s : State) (k : Nat) :
    Frame [.thm] s (State.predSet s k) := by
  unfold State.predSet
  have h0 : Frame [.thm] s s := Frame.refl _ _
  extract_lets x1 x2
  exact (.upd h0 rfl)

theorem State.thInit_frame (s : State) (k : Nat) :
    Frame [.cells, .aux, .est, .thm, .jnl] s (State.thInit s k) := by
  unfold State.thInit
  have h0 : Frame [.cells, .aux, .est, .thm, .jnl] s s := Frame.refl _ _
  extract_lets x1 x2 x3 x4 x5 x6
  have hx4 : Frame _ _ x4 := (.after (State.evIf_frame ..) h0 rfl)
  exact (.ite h0 (.upd hx4 rfl))

theorem State.thStep_frame (s : State) (k : Nat) (gs : List Nat) :
    Frame [.cells, .aux, .th] s (State.thStep s k gs) := by
  unfold State.thStep
  have h0 : Frame [.cells, .aux, .th] s s := Frame.refl _ _
  extract_lets x1 x2 x3 x4 x5 x6 x7 x8 x9 x10 x11 x12 x13 x14
  exact (.upd h0 rfl)

theorem State.thUpdate_frame (s : State) (p : Nat) :
    Frame [.cells, .th] s (State.thUpdate s p) := by
  unfold State.thUpdate
  have h0 : Frame [.cells, .th] s s := Frame.refl _ _
  extract_lets x1 x2
  exact (.ite h0 (.upd h0 rfl))

end Sys2Proof.Machine
end

