-- ==== Sys2Proof/Laws/FrameEst.lean ====
section
/-! SUPPORT. What the operations of `Machine/Est.lean` leave alone. -/

namespace Sys2Proof.Machine

theorem State.refEvent_frame (s : State) (k : Nat) (refs : List RefCell) (kind : Nat) :
    Frame [.jnl] s (State.refEvent s k refs kind) := by
  unfold State.refEvent
  have h0 : Frame [.jnl] s s := Frame.refl _ _
  split
  · exact h0
  · extract_lets x1
    exact (.after (State.ev_frame ..) h0 rfl)

theorem State.stepCells_frame (s : State) (k : Nat) (gs : List Nat) : Frame [.cells, .aux] s (State.stepCells s k gs).1 := by
  unfold State.stepCells
  extract_lets
  refine .fold_fst (Frame.refl _ _) fun acc g h => ?_
  extract_lets
  split
  · exact h
  · exact h.upd rfl

theorem State.estString_frame (s : State) (k : Nat) (reached : List Nat) (unreached : List Nat) :
    Frame [.cells, .aux, .est, .jnl] s (State.estString s k reached unreached) := by
  unfold State.estString
  have h0 : Frame [.cells, .aux, .est, .jnl] s s := Frame.refl _ _
  extract_lets x1 x2 x3 x4 x5 x6 x7 x8
  have hx1 : Frame _ _ x1.1 := (.after (State.stepCells_frame ..) h0 rfl)
  have hx2 : Frame _ _ x2 := hx1
  have hx4 : Frame _ _ x4 := (.upd hx2 rfl)
  have hx6 : Frame _ _ x6 := (.after (State.evIf_frame ..) hx4 rfl)
  have hx7 : Frame _ _ x7 := (.after (State.refEvent_frame ..) (.after (State.refEvent_frame ..) (.after (State.refEvent_frame ..) hx6 rfl) rfl) rfl)
  exact (.upd hx7 rfl)

theorem State.restEnd_frame (s : State) (k : Nat) :
    Frame [.aux, .est] s (State.restEnd s k) := by
  unfold State.restEnd
  have h0 : Frame [.aux, .est] s s := Frame.refl _ _
  extract_lets x1 x2
  exact (.ite (.upd h0 rfl) h0)

theorem State.excEvent_frame (s : State) (k : Nat) (cause : Nat) (q : Excursion) :
    Frame [.jnl] s (State.excEvent s k cause q) := by
  unfold State.excEvent
  exact (.after (State.ev_frame ..) (.refl _ _) rfl)

theorem State.excEnd_frame (s : State) (k : Nat) (cause : Nat) :
    Frame [.est, .jnl] s (State.excEnd s k cause) := by
  unfold State.excEnd
  have h0 : Frame [.est, .jnl] s s := Frame.refl _ _
  extract_lets x1
  split
  · exact h0
  · extract_lets x2 x3
    have hx2 : Frame _ _ x2 := (.after (State.excEvent_frame ..) h0 rfl)
    exact (.upd hx2 rfl)

theorem State.excOpened_frame (s : State) (k : Nat) :
    Frame [.est, .jnl] s (State.excOpened s k) := by
  unfold State.excOpened
  exact (.ite (.refl _ _) (.after (State.excEnd_frame ..) (.refl _ _) rfl))

theorem State.excComplete_frame (s : State) (k : Nat) :
    Frame [.est, .jnl] s (State.excComplete s k) := by
  unfold State.excComplete
  have h0 : Frame [.est, .jnl] s s := Frame.refl _ _
  extract_lets x1
  have hx1 : Frame _ _ x1 := (.after (State.excOpened_frame ..) h0 rfl)
  split
  · exact hx1
  · exact (.ite (.after (State.excEnd_frame ..) hx1 rfl) hx1)

theorem State.requestEvent_frame (s : State) (k : Nat) (cause : Nat) :
    Frame [.jnl] s (State.requestEvent s k cause) := by
  unfold State.requestEvent
  have h0 : Frame [.jnl] s s := Frame.refl _ _
  extract_lets x1 x2
  exact (.after (State.ev_frame ..) h0 rfl)

theorem State.requests_frame (s : State) (k : Nat) :
    Frame [.est, .jnl] s (State.requests s k) := by
  unfold State.requests
  have h0 : Frame [.est, .jnl] s s := Frame.refl _ _
  extract_lets x1 x2 x3
  have hx3 : ∀ a4, Frame [.est, .jnl] s a4 → ∀ a5, ∀ a6, Frame [.est, .jnl] s (x3 a4 a5 a6) := by
    intro a4 ha4 a5 a6
    unfold x3
    exact (.upd ha4 rfl)
  clear_value x2
  split
  · exact (.ite h0 (hx3 _ (.after (State.requestEvent_frame ..) h0 rfl) _ _))
  · exact (.ite (hx3 _ (.after (State.requestEvent_frame ..) h0 rfl) _ _) (hx3 _ h0 _ _))

end Sys2Proof.Machine
end

