-- ==== Sys2Proof/Laws/FrameWindow.lean ====
section
/-! SUPPORT. What the operations of `Machine/Window.lean` leave alone. -/

namespace Sys2Proof.Machine

theorem State.writePages_frame (s : State) (st sub rec_ : Nat) (complete : Bool) (ps : List Nat) (data : List Bytes) :
    Frame [.site, .pages] s (State.writePages s st sub rec_ complete ps data) := by
  unfold State.writePages
  extract_lets n one
  exact .ite (.refl _ _) (Frame.foldl (.refl _ _) fun x e h => .updL h rfl (.of_pages rfl (twf_tput _ _)))

theorem State.streamPut_frame {s u : State} {st sub rec_ : Nat} {b : Bytes} (h : s.streamPut st sub rec_ b = some u) :
    Frame [.site, .pages] s u := by
  simp only [State.streamPut, Option.map_eq_some_iff] at h
  obtain ⟨ps, -, rfl⟩ := h
  exact Frame.step (Frame.refl _ _) (State.writePages_frame ..) rfl

theorem State.extract_frame (s : State) (j : JournalId) : Frame [.site, .jnl, .pages] s (State.extract s j) := by
  unfold State.extract
  have h0 : Frame [.site, .jnl, .pages] s s := Frame.refl _ _
  extract_lets x1 x2 x3 x4 x5 x6 x7
  have hx4 : Frame _ _ x4 := (.after (State.winLoss_frame ..) h0 rfl)
  have hx6 : Frame _ _ x6 := (.ite h0 (.upd hx4 rfl))
  refine .ite hx6 ?_
  split
  · exact hx6
  · next h => exact (.upd (.after (State.streamPut_frame h) hx6 rfl) rfl)

theorem State.placeHistory_frame (s : State) :
    Frame [.site, .pages] s (State.placeHistory s) := by
  unfold State.placeHistory
  have h0 : Frame [.site, .pages] s s := Frame.refl _ _
  split
  · exact h0
  · split
    · exact h0
    · extract_lets x1 x2 x3
      have hx1 : Frame _ _ x1 := (.after (State.writePages_frame ..) h0 rfl)
      have hx2 : Frame _ _ x2 := (.after (State.writePages_frame ..) hx1 rfl)
      exact (.upd hx2 rfl)

theorem State.deferrable_frame (s : State) :
    Frame [.site, .jnl, .pages] s (State.deferrable s) := by
  unfold State.deferrable
  have h0 : Frame [.site, .jnl, .pages] s s := Frame.refl _ _
  extract_lets x1
  have hx1 : Frame [.site, .jnl, .pages] s x1 := by
    unfold x1
    split
    · exact h0
    · extract_lets x2 x3
      have hx2 : Frame _ _ x2 := (.foldl h0 fun _ _ h1 => (.after (State.modPage_frame ..) h1 rfl))
      exact (.upd hx2 rfl)
  exact (.ite h0 (.after (State.placeHistory_frame ..) (.after (State.extract_frame ..) (.after (State.extract_frame ..) (.after (State.extract_frame ..) hx1 rfl) rfl) rfl) rfl))

theorem State.doClaim_frame (s : State) (n : Nat) :
    Frame [.pair, .site, .pages] s (State.doClaim s n) := by
  unfold State.doClaim
  have h0 : Frame [.pair, .site, .pages] s s := Frame.refl _ _
  extract_lets x1 x2 x3
  have hx3 : Frame _ _ x3 := (.foldl h0 fun _ _ h1 => (.after (State.modPage_frame ..) h1 rfl))
  exact (.after (State.handoverMsg_frame ..) hx3 rfl)

theorem State.handoverMsgs_frame (s : State) (op : Nat) (es : List (Nat × Nat)) :
    Frame [.pair, .site] s (State.handoverMsgs s op es) := by
  unfold State.handoverMsgs
  exact (.foldl (.refl _ _) fun _ _ h1 => (.after (State.handoverMsg_frame ..) h1 rfl))

theorem State.doFreed_frame (s : State) (ps : List Nat) (st : Status) :
    Frame [.pair, .site, .pages] s (State.doFreed s ps st) := by
  unfold State.doFreed
  have h0 : Frame [.pair, .site, .pages] s s := Frame.refl _ _
  extract_lets x1 x2
  have hx2 : Frame _ _ x2 := (.foldl h0 fun _ _ h1 => (.after (State.modPage_frame ..) h1 rfl))
  exact (.ite h0 (.after (State.handoverMsgs_frame ..) hx2 rfl))

theorem State.doRelease_frame (s : State) (es : List (Nat × Nat)) : Frame [.pair, .site, .pages] s (State.doRelease s es) := by
  unfold State.doRelease
  have h0 : Frame [.pair, .site, .pages] s s := Frame.refl _ _
  extract_lets x1 x2
  refine .after (State.handoverMsgs_frame ..) (.fold_fst h0 fun acc e h => ?_) rfl
  unfold x1
  extract_lets
  split
  · exact .after (State.modPage_frame ..) h rfl
  · exact h

theorem State.doReturn_frame (s : State) (es : List (Nat × Nat × Nat × Word)) :
    Frame [.pair, .site, .pages] s (State.doReturn s es) := by
  unfold State.doReturn
  have h0 : Frame [.pair, .site, .pages] s s := Frame.refl _ _
  extract_lets x1 x2
  refine .after (State.handoverMsgs_frame ..) (.fold_fst h0 fun acc e h => ?_) rfl
  unfold x1
  extract_lets x3 x4 x5 x6 x7
  have hx6 : Frame _ _ x6 := .after (State.modPage_frame ..) h rfl
  split
  · exact h
  split
  · exact h
  split
  · exact h
  · exact .upd hx6 rfl

theorem State.giveAll_frame (s : State) :
    Frame [.pair, .site, .pages] s (State.giveAll s) := by
  unfold State.giveAll
  have h0 : Frame [.pair, .site, .pages] s s := Frame.refl _ _
  extract_lets x1 x2
  have hx2 : Frame _ _ x2 := (.foldl h0 fun _ _ h1 => (.after (State.modPage_frame ..) h1 rfl))
  exact (.ite (.after (State.handoverMsgs_frame ..) hx2 rfl) h0)

theorem State.placeCaptures_frame (s : State) (l : List Capture) : Frame [.site, .pages] s (State.placeCaptures s l) := by
  induction l generalizing s with
  | nil => exact Frame.refl _ _
  | cons c t ih =>
    unfold State.placeCaptures
    split
    · exact Frame.refl _ _
    · next h =>
      refine Frame.trans ?_ (ih _)
      exact .upd (Frame.step (Frame.refl _ s) (State.streamPut_frame h) rfl) rfl

theorem State.stallCheck_frame (s : State) :
    Frame [.site, .jnl] s (State.stallCheck s) := by
  unfold State.stallCheck
  have h0 : Frame [.site, .jnl] s s := Frame.refl _ _
  extract_lets x1 x2
  exact (.ite h0 (.after (State.ev_frame ..) (.upd h0 rfl) rfl))

theorem State.winApply_frame (s : State) (a1 : WinReq) :
    Frame [.pair, .site, .pages] s (State.winApply s a1) := by
  unfold State.winApply
  split
  · exact (.after (State.doRelease_frame ..) (.refl _ _) rfl)
  · exact (.after (State.doClaim_frame ..) (.refl _ _) rfl)
  · exact (.after (State.doReturn_frame ..) (.refl _ _) rfl)
  · exact (.after (State.doFreed_frame ..) (.refl _ _) rfl)

end Sys2Proof.Machine
end

