-- ==== Sys2Proof/Laws/FrameHerd.lean ====
section
/-! SUPPORT. What the operations of `Machine/Herd.lean` leave alone. -/

namespace Sys2Proof.Machine

theorem State.herdRecord_frame (s : State) :
    Frame [.jnl] s (State.herdRecord s) := by
  unfold State.herdRecord
  have h0 : Frame [.jnl] s s := Frame.refl _ _
  extract_lets x1 x2 x3
  exact (.upd h0 rfl)

theorem State.windowDone_frame (s : State) (k : Nat) (idx : Nat) (gs : List Nat) :
    Frame [.herdTab, .herd] s (State.windowDone s k idx gs) := by
  unfold State.windowDone
  have h0 : Frame [.herdTab, .herd] s s := Frame.refl _ _
  extract_lets x1 x2 x3 x4
  have hx1 : ∀ a5, Frame [.herdTab, .herd] s a5 → Frame [.herdTab, .herd] s (x1 a5) := by
    intro a5 ha5
    unfold x1
    exact (.upd ha5 rfl)
  exact (.ite (hx1 _ (.upd h0 rfl)) (.ite (hx1 _ h0) (hx1 _ (.upd h0 rfl))))

theorem State.modHerd_frame (s : State) (k : Nat) (f : StrHerd → StrHerd) :
    Frame [.herd] s (State.modHerd s k f) := by
  unfold State.modHerd
  have h0 : Frame [.herd] s s := Frame.refl _ _
  exact (.upd h0 rfl)

theorem State.episodeEnd_frame (s : State) (k : Nat) :
    Frame [.herdTab, .herd] s (State.episodeEnd s k) := by
  unfold State.episodeEnd
  have h0 : Frame [.herdTab, .herd] s s := Frame.refl _ _
  exact (.ite h0 (.upd h0 rfl))

theorem State.episode_frame (s : State) (k : Nat) (n : Nat) (gs : List Nat) :
    Frame [.herdTab, .herd] s (State.episode s k n gs) := by
  unfold State.episode
  have h0 : Frame [.herdTab, .herd] s s := Frame.refl _ _
  extract_lets x1 x2 x3 x4 x5 x6 x7 x8 x9
  have hx2 : Frame _ _ x2 := (.ite (.after (State.modHerd_frame ..) h0 rfl) h0)
  have hx7 : Frame _ _ x7 := (.upd hx2 rfl)
  exact (.ite (.after (State.episodeEnd_frame ..) h0 rfl) (.ite (.after (State.windowDone_frame ..) hx7 rfl) hx7))

theorem State.herdAct_frame (s : State) (k : Nat) :
    Frame [.herd, .prot, .jnl] s (State.herdAct s k) := by
  unfold State.herdAct
  have h0 : Frame [.herd, .prot, .jnl] s s := Frame.refl _ _
  extract_lets x1 x2 x3 x4 x5
  have hx5 : Frame _ _ x5 := (.after (State.modHerd_frame ..) (.after (State.ev_frame ..) h0 rfl) rfl)
  exact (.ite h0 (.ite (.after (State.raiseAlarm_frame ..) hx5 rfl) hx5))

theorem State.herdCell_frame (s : State) (n g : Nat) (fs : List FeatStat) : Frame [.herdTab, .jnl] s (State.herdCell s n g fs).1 := by
  refine Frame.upd (Frame.step (Frame.foldl (Frame.refl _ _) fun x f h => h.step (State.evIf_frame ..) rfl) (State.evIf_frame ..) rfl) rfl

theorem State.herdStart_frame (s : State) (k : Nat) (gs : List Nat) :
    Frame [.cells, .th, .herd] s (State.herdStart s k gs) := by
  unfold State.herdStart
  have h0 : Frame [.cells, .th, .herd] s s := Frame.refl _ _
  extract_lets x1 x2 x3
  exact (.ite h0 (.upd h0 rfl))

theorem State.herdIncr_frame (s : State) (k : Nat) (ths : List Nat) :
    Frame [.cells, .th, .herd] s (State.herdIncr s k ths) := by
  unfold State.herdIncr
  have h0 : Frame [.cells, .th, .herd] s s := Frame.refl _ _
  extract_lets x1 x2 x3 x4 x5 x6 x7 x8 x9
  have hx3 : Frame _ _ x3 := (.after (State.herdStart_frame ..) h0 rfl)
  have hx4 : Frame _ _ x4 := (.upd hx3 rfl)
  exact (.ite (.after (State.modHerd_frame ..) h0 rfl) (.ite hx4 (.upd hx4 rfl)))

theorem State.herdReport_frame (s : State) (k n kind : Nat) (fs : List FeatStat) :
    Frame [.herd, .site, .pages] s (State.herdReport s k n kind fs) := by
  unfold State.herdReport
  split
  · next h => exact (Frame.step (Frame.refl _ _) (State.streamPut_frame h) rfl)
  · exact (Frame.upd (Frame.refl _ _) rfl)

theorem State.herdSecond_frame (s : State) :
    Frame [.aux, .herd] s (State.herdSecond s) := by
  unfold State.herdSecond
  have h0 : Frame [.aux, .herd] s s := Frame.refl _ _
  extract_lets x1 x2 x3
  exact (.upd h0 rfl)

theorem State.sweepString_frame (s : State) (n k : Nat) : Frame [.herdTab, .herd, .prot, .site, .jnl, .pages] s (State.sweepString s n k) := by
  unfold State.sweepString
  have h0 : Frame [.herdTab, .herd, .prot, .site, .jnl, .pages] s s := Frame.refl _ _
  extract_lets x1 x2 x3 x4 x5 x6 x7 x8 x9 x10
  have hx3 : Frame _ _ x3 := (.ite (.upd h0 rfl) h0)
  have hx4 : Frame _ _ x4 := (.after (State.episode_frame ..) hx3 rfl)
  have hx6 : Frame _ _ x6.1 := .fold_fst hx4 fun acc g h => .after (State.herdCell_frame ..) h rfl
  have hx8 : Frame _ _ x8 := (.after (State.modHerd_frame ..) hx6 rfl)
  have hx9 : Frame _ _ x9 := (.after (State.herdAct_frame ..) hx8 rfl)
  have hx10 : Frame _ _ x10 := (.ite (.after (State.herdReport_frame ..) hx9 rfl) hx9)
  exact (.ite (.after (State.modHerd_frame ..) (.after (State.episodeEnd_frame ..) h0 rfl) rfl) (.ite (.after (State.herdReport_frame ..) hx10 rfl) hx10))

end Sys2Proof.Machine
end

