-- ==== Sys2Proof/Laws/FrameEland.lean ====
section
/-! SUPPORT. What the operations of `Machine/Eland.lean` leave alone. -/

namespace Sys2Proof.Machine

theorem State.unsurveyedMark_frame (s : State) :
    Frame [.est, .thm] s (State.unsurveyedMark s) := by
  unfold State.unsurveyedMark
  have h0 : Frame [.est, .thm] s s := Frame.refl _ _
  extract_lets x1 x2 x3
  exact (.ite h0 (.upd h0 rfl))

theorem State.estPass_frame (s : State) (unreached : Nat) :
    Frame [.cells, .aux, .est, .thm, .jnl] s (State.estPass s unreached) := by
  unfold State.estPass
  have h0 : Frame [.cells, .aux, .est, .thm, .jnl] s s := Frame.refl _ _
  extract_lets x1 x2 x3 x4 x5 x6 x7 x8
  have hx4 : Frame _ _ x4 := (.foldl (.upd h0 rfl) fun _ _ h1 => (.after (State.restEnd_frame ..) h1 rfl))
  have hx6 : Frame _ _ x6 := (.after (State.unsurveyedMark_frame ..) hx4 rfl)
  have hx8 : Frame _ _ x8 := (.upd hx6 rfl)
  refine .foldl hx8 fun _ _ h9 => ?_
  extract_lets x10
  exact (.after (State.estString_frame ..) h9 rfl)

theorem State.histFrame_frame (s : State) :
    Frame [.site] s (State.histFrame s) := by
  unfold State.histFrame
  have h0 : Frame [.site] s s := Frame.refl _ _
  extract_lets x1 x2 x3 x4
  exact (.upd h0 rfl)

theorem State.histSecond_frame (s : State) :
    Frame [.site] s (State.histSecond s) := by
  unfold State.histSecond
  have h0 : Frame [.site] s s := Frame.refl _ _
  exact (.upd h0 rfl)

theorem State.thPass_frame (s : State) (k : Nat) (reached : List Nat) (missed : List Nat) :
    Frame [.mode, .cells, .aux, .th, .est, .thm, .power, .prot, .pair, .site, .tw, .jnl, .enabled, .ledger] s (State.thPass s k reached missed) := by
  unfold State.thPass
  have h0 : Frame [.mode, .cells, .aux, .th, .est, .thm, .power, .prot, .pair, .site, .tw, .jnl, .enabled, .ledger] s s := Frame.refl _ _
  extract_lets x1 x2 x3 x4 x5
  have hx2 : Frame _ _ x2 := (.ite h0 (.after (State.thStep_frame ..) (.after (State.plateTake_frame ..) h0 rfl) rfl))
  have hx5 : Frame _ _ x5 := (.upd hx2 rfl)
  exact (.ite hx5 (.after (State.modelInput_frame ..) hx5 rfl))

end Sys2Proof.Machine
end

