-- ==== Sys2Proof/Laws/FrameImage.lean ====
section
/-! SUPPORT. What the operations of `Machine/Image.lean` leave alone. -/

namespace Sys2Proof.Machine

theorem State.setCfgWord_frame (s : State) (type : Nat) (word : Nat) (v : Word) :
    Frame [.thm, .power, .policies] s (State.setCfgWord s type word v) := by
  unfold State.setCfgWord
  have h0 : Frame [.thm, .power, .policies] s s := Frame.refl _ _
  exact (.ite (.upd h0 rfl) (.ite (.upd h0 rfl) (.upd h0 rfl)))

theorem State.applyItem_frame (s : State) (i : PatchItem) :
    Frame [.thm, .power, .cfg, .policies] s (State.applyItem s i) := by
  unfold State.applyItem
  have h0 : Frame [.thm, .power, .cfg, .policies] s s := Frame.refl _ _
  extract_lets x1 x2 x3 x4 x5
  have hx4 : Frame _ _ x4 := (.after (State.setCfgWord_frame ..) h0 rfl)
  exact (.upd hx4 rfl)

theorem State.applyLogged_frame (s : State) (e : LedgerEntry) (i : PatchItem) :
    Frame [.thm, .power, .cfg, .jnl, .policies] s (State.applyLogged s e i) := by
  unfold State.applyLogged
  have h0 : Frame [.thm, .power, .cfg, .jnl, .policies] s s := Frame.refl _ _
  extract_lets x1 x2
  exact (.after (State.audit_frame ..) (.after (State.ev_frame ..) (.after (State.applyItem_frame ..) h0 rfl) rfl) rfl)

theorem State.setPatch_frame (s : State) (j : PatchJob) :
    Frame [.cfg] s (State.setPatch s j) := by
  unfold State.setPatch
  have h0 : Frame [.cfg] s s := Frame.refl _ _
  exact (.upd h0 rfl)

theorem State.dropPatch_frame (s : State) (id : Word) :
    Frame [.cfg] s (State.dropPatch s id) := by
  unfold State.dropPatch
  have h0 : Frame [.cfg] s s := Frame.refl _ _
  exact (.upd h0 rfl)

theorem State.patchTake_frame (s : State) (j : PatchJob) (slot : Slot) (code : Nat) :
    Frame [.pair, .site, .cfg, .jnl, .ledger] s (State.patchTake s j slot code) := by
  unfold State.patchTake
  have h0 : Frame [.pair, .site, .cfg, .jnl, .ledger] s s := Frame.refl _ _
  extract_lets x1
  exact (.ite (.after (State.dropPatch_frame ..) (.after (State.cmdFail_frame ..) h0 rfl) rfl) (.ite (.after (State.dropPatch_frame ..) (.after (State.cmdTo_frame ..) h0 rfl) rfl) (.after (State.setPatch_frame ..) h0 rfl)))

theorem State.stageTake_frame (s : State) (j : StageJob) (slot : Slot) (step : Nat) (code : Nat) (info : Nat) :
    Frame [.pair, .site, .cfg, .jnl, .ledger] s (State.stageTake s j slot step code info) := by
  unfold State.stageTake
  have h0 : Frame [.pair, .site, .cfg, .jnl, .ledger] s s := Frame.refl _ _
  extract_lets x1 x2 x3 x4 x5 x6 x7 x8
  have hx1 : Frame _ _ x1 := (.after (State.cmdFail_frame ..) h0 rfl)
  have hx6 : Frame _ _ x6 := (.upd h0 rfl)
  have hx7 : Frame _ _ x7 := (.after (State.cmdTo_frame ..) hx6 rfl)
  exact (.ite (.upd hx1 rfl) (.ite hx6 (.ite (.upd hx7 rfl) (.after (State.cmdTo_frame ..) hx6 rfl))))

theorem State.cfgTake_frame (s : State) (id : Word) (slot : Slot) (step : Nat) (code : Nat) (info : Nat) :
    Frame [.pair, .site, .cfg, .jnl, .ledger] s (State.cfgTake s id slot step code info) := by
  unfold State.cfgTake
  split
  · refine .ite ?_ ?_
    · exact (.after (State.stageTake_frame ..) (.refl _ _) rfl)
    · exact (Frame.refl _ _).getD_map fun _ => .after (State.patchTake_frame ..) (.refl _ _) rfl
  · exact (.after (State.patchTake_frame ..) (.refl _ _) rfl)
  · exact (.refl _ _)

theorem State.setHalf_frame (s : State) (k : Nat) (h : PatchHalf) :
    Frame [.cfg, .slots] s (State.setHalf s k h) := by
  unfold State.setHalf
  have h0 : Frame [.cfg, .slots] s s := Frame.refl _ _
  exact (.ite (.upd h0 rfl) (.upd h0 rfl))

theorem State.compact_frame (s : State) (role : Role) (cmd : Word) :
    Frame [.cfg, .slots] s (State.compact s role cmd) := by
  unfold State.compact
  have h0 : Frame [.cfg, .slots] s s := Frame.refl _ _
  extract_lets x1 x2 x3 x4 x5
  exact (.after (State.setHalf_frame ..) h0 rfl)

theorem State.evStage_frame (s : State) (kind : Nat) (j : StageJob) (step : Nat) :
    Frame [.jnl] s (State.evStage s kind j step) := by
  unfold State.evStage
  exact (.after (State.ev_frame ..) (.refl _ _) rfl)

theorem State.persist_frame (s : State) (j : PatchJob) :
    Frame [.cfg, .slots] s (State.persist s j) := by
  unfold State.persist
  have h0 : Frame [.cfg, .slots] s s := Frame.refl _ _
  extract_lets x1 x2
  split
  · exact (.after (State.compact_frame ..) h0 rfl)
  · extract_lets x3
    exact (.ite (.after (State.compact_frame ..) h0 rfl) (.after (State.setHalf_frame ..) h0 rfl))

theorem State.setOther_frame (s : State) (k : Nat) (res : Nat) (b : Bytes) :
    Frame [.cfg] s (State.setOther s k res b) := by
  unfold State.setOther
  have h0 : Frame [.cfg] s s := Frame.refl _ _
  extract_lets x1 x2 x3
  have hx2 : Frame _ _ x2 := (.ite (.upd h0 rfl) (.upd h0 rfl))
  exact (.upd hx2 rfl)

theorem State.setSlot_frame (s : State) (k : Nat) (b : Bytes) :
    Frame [.cfg, .slots] s (State.setSlot s k b) := by
  unfold State.setSlot
  have h0 : Frame [.cfg, .slots] s s := Frame.refl _ _
  exact (.ite (.upd h0 rfl) (.upd h0 rfl))

theorem State.stageWork_frame (s : State) (j : StageJob) (step : Nat) :
    Frame [.cfg, .jnl, .slots] s (State.stageWork s j step) := by
  unfold State.stageWork
  have h0 : Frame [.cfg, .jnl, .slots] s s := Frame.refl _ _
  extract_lets x1 x2
  have hx1 : Frame _ _ x1 := (.after (State.evStage_frame ..) (.after (State.setOther_frame ..) h0 rfl) rfl)
  exact (.ite (.after (State.evStage_frame ..) h0 rfl) (.ite (.after (State.setOther_frame ..) (.after (State.setSlot_frame ..) h0 rfl) rfl) (.ite (.after (State.setSlot_frame ..) h0 rfl) (.upd hx1 rfl))))

theorem State.stageStep_frame (s : State) (id : Word) (step : Nat) (st : Status) (chain : Verdict) (required : List CfgRec → Bool) :
    Frame [.pair, .site, .cfg, .jnl, .ledger, .slots] s (State.stageStep s id step st chain required) := by
  unfold State.stageStep
  have h0 : Frame [.pair, .site, .cfg, .jnl, .ledger, .slots] s s := Frame.refl _ _
  split
  · exact h0
  · extract_lets x1 x2 x3 x4 x5
    have hx2 : Frame _ _ x2 := (.after (State.evStage_frame ..) h0 rfl)
    have hx4 : Frame _ _ x4 := (.after (State.stageWork_frame ..) h0 rfl)
    exact (.ite h0 (.ite (.after (State.listStep_frame ..) (.upd hx2 rfl) rfl) (.after (State.listStep_frame ..) (.upd hx4 rfl) rfl)))

end Sys2Proof.Machine
end

