-- ==== Sys2Proof/Laws/FrameEnvelope.lean ====
section
/-! SUPPORT. What the operations of `Machine/Envelope.lean` leave alone. -/

namespace Sys2Proof.Machine

theorem State.candSelect_frame (s : State) (k : Nat) :
    Frame [.dsp] s (State.candSelect s k) := by
  unfold State.candSelect
  have h0 : Frame [.dsp] s s := Frame.refl _ _
  extract_lets x1 x2 x3 x4 x5
  exact (.upd h0 rfl)

theorem State.excessWatch_frame (s : State) :
    Frame [.dsp] s (State.excessWatch s) := by
  unfold State.excessWatch
  have h0 : Frame [.dsp] s s := Frame.refl _ _
  extract_lets x1 x2
  exact (.upd h0 rfl)

theorem State.derateAsk_frame (s : State) (zeroLimits : Bool) :
    Frame [.dsp, .jnl] s (State.derateAsk s zeroLimits) := by
  unfold State.derateAsk
  have h0 : Frame [.dsp, .jnl] s s := Frame.refl _ _
  extract_lets x1 x2
  have hx1 : Frame _ _ x1 := (.after (State.evIf_frame ..) h0 rfl)
  exact (.ite (.upd hx1 rfl) (.upd hx1 rfl))

theorem State.envString_frame (s : State) (k : Nat) :
    Frame [.dsp] s (State.envString s k) := by
  unfold State.envString
  have h0 : Frame [.dsp] s s := Frame.refl _ _
  extract_lets x1 x2 x3 x4 x5 x6 x7 x8 x9 x10 x11
  exact (.upd h0 rfl)

theorem State.envelope_frame (s : State) :
    Frame [.dsp, .free] s (State.envelope s) := by
  unfold State.envelope
  have h0 : Frame [.dsp, .free] s s := Frame.refl _ _
  extract_lets x1 x2 x3 x4
  have hx1 : Frame _ _ x1 := (.foldl h0 fun _ _ h1 => (.after (State.envString_frame ..) h1 rfl))
  exact (.upd hx1 rfl)

theorem State.zeroLimits_frame (s : State) :
    Frame [.dsp, .jnl] s (State.zeroLimits s) := by
  unfold State.zeroLimits
  have h0 : Frame [.dsp, .jnl] s s := Frame.refl _ _
  extract_lets x1 x2 x3
  have hx2 : Frame _ _ x2 := (.ite h0 (.after (State.derateAsk_frame ..) h0 rfl))
  exact (.upd hx2 rfl)

end Sys2Proof.Machine
end

