-- ==== Sys2Proof/Laws/FrameSupply.lean ====
section
/-! SUPPORT. What the operations of `Machine/Supply.lean` leave alone. -/

namespace Sys2Proof.Machine

theorem State.lossEvent_frame (s : State) (kind : Nat) (ms : Nat) (mask : Mask) :
    Frame [.jnl] s (State.lossEvent s kind ms mask) := by
  unfold State.lossEvent
  exact (.after (State.ev_frame ..) (.refl _ _) rfl)

theorem State.modLoss_frame (s : State) (f : LossSeq → LossSeq) :
    Frame [.psv] s (State.modLoss s f) := by
  unfold State.modLoss
  have h0 : Frame [.psv] s s := Frame.refl _ _
  exact (.upd h0 rfl)

theorem State.lossGasp_frame (s : State) :
    Frame [.jnl, .psv, .wearRecs] s (State.lossGasp s) := by
  unfold State.lossGasp
  split
  · exact (.ite (.refl _ _) (.after (State.modLoss_frame ..) (.after (State.gaspWrite_frame ..) (.refl _ _) rfl) rfl))
  · exact (.refl _ _)

theorem State.lossRuns_frame (s : State) :
    Frame [.mode, .power, .prot, .jnl, .psv, .enabled] s (State.lossRuns s) := by
  unfold State.lossRuns
  exact (.after (State.modLoss_frame ..) (.after (State.abortConnects_frame ..) (.refl _ _) rfl) rfl)

theorem State.lossOpen_frame (s : State) (k : Nat) :
    Frame [.mode, .power, .prot, .jnl, .psv] s (State.lossOpen s k) := by
  unfold State.lossOpen
  have h0 : Frame [.mode, .power, .prot, .jnl, .psv] s s := Frame.refl _ _
  extract_lets x1
  have hx1 : Frame _ _ x1 := (.after (State.startOpening_frame ..) (.after (State.modPst_frame ..) h0 rfl) rfl)
  exact (.ite (.after (State.modLoss_frame ..) (.after (State.setStr_frame ..) hx1 rfl) rfl) h0)

theorem State.lossStep_frame (s : State) (ks : List Nat) (bound : Bool) :
    Frame [.mode, .power, .prot, .jnl, .psv] s (State.lossStep s ks bound) := by
  unfold State.lossStep
  have h0 : Frame [.mode, .power, .prot, .jnl, .psv] s s := Frame.refl _ _
  extract_lets x1
  have hx1 : Frame _ _ x1 := (.foldl h0 fun _ _ h1 => (.after (State.lossOpen_frame ..) h1 rfl))
  exact (.ite h0 (.after (State.lossEvent_frame ..) hx1 rfl))

theorem State.lossOpenLow_frame (s : State) :
    Frame [.mode, .power, .prot, .jnl, .psv, .wearRecs] s (State.lossOpenLow s) := by
  unfold State.lossOpenLow
  have h0 : Frame [.mode, .power, .prot, .jnl, .psv, .wearRecs] s s := Frame.refl _ _
  extract_lets x1 x2
  have hx2 : Frame _ _ x2 := (.after (State.lossStep_frame ..) h0 rfl)
  exact (.ite (.after (State.lossGasp_frame ..) hx2 rfl) hx2)

end Sys2Proof.Machine
end

