-- ==== Sys2Proof/Laws/FramePower.lean ====
section
/-! SUPPORT. What the operations of `Machine/Power.lean` leave alone. -/

namespace Sys2Proof.Machine

theorem State.connectStart_frame (s : State) (k : Nat) :
    Frame [.mode, .power, .prot, .jnl, .enabled] s (State.connectStart s k) := by
  unfold State.connectStart
  have h0 : Frame [.mode, .power, .prot, .jnl, .enabled] s s := Frame.refl _ _
  extract_lets x1 x2 x3
  have hx1 : Frame _ _ x1 := (.after (State.ev_frame ..) (.after (State.setStr_frame ..) h0 rfl) rfl)
  have hx2 : Frame _ _ x2 := (.after (State.modPp_frame ..) hx1 rfl)
  split
  · exact (.after (State.endConnect_frame ..) hx2 rfl)
  · exact (.after (State.modPp_frame ..) hx2 rfl)

theorem State.connectConsent_frame (s : State) (k : Nat) :
    Frame [.mode, .power, .prot, .jnl, .enabled] s (State.connectConsent s k) := by
  unfold State.connectConsent
  have h0 : Frame [.mode, .power, .prot, .jnl, .enabled] s s := Frame.refl _ _
  extract_lets x1
  exact (.ite (.ite (.after (State.endConnect_frame ..) (.after (State.ev_frame ..) h0 rfl) rfl) (.after (State.modPst_frame ..) h0 rfl)) h0)

theorem State.connectContactors_frame (s : State) (k : Nat) :
    Frame [.power] s (State.connectContactors s k) := by
  unfold State.connectContactors
  have h0 : Frame [.power] s s := Frame.refl _ _
  exact (.ite (.after (State.modPp_frame ..) h0 rfl) h0)

theorem State.handoverTake_frame (s : State) (k : Nat) :
    Frame [.mode, .power, .prot, .jnl, .enabled] s (State.handoverTake s k) := by
  unfold State.handoverTake
  have h0 : Frame [.mode, .power, .prot, .jnl, .enabled] s s := Frame.refl _ _
  extract_lets x1 x2 x3
  have hx2 : Frame _ _ x2 := (.after (State.ev_frame ..) h0 rfl)
  have hx3 : Frame _ _ x3 := (.after (State.modPp_frame ..) hx2 rfl)
  exact (.ite (.after (State.recordOwn_frame ..) (.after (State.modStr_frame ..) (.after (State.setStr_frame ..) hx3 rfl) rfl) rfl) h0)

theorem State.streamEvent_frame (s : State) (k : Nat) (chan : Nat) (valid : Bool) :
    Frame [.jnl] s (State.streamEvent s k chan valid) := by
  unfold State.streamEvent
  exact (.after (State.ev_frame ..) (.refl _ _) rfl)

theorem State.takeInterval_frame (s : State) (k : Nat) :
    Frame [.est, .power, .jnl] s (State.takeInterval s k) := by
  unfold State.takeInterval
  have h0 : Frame [.est, .power, .jnl] s s := Frame.refl _ _
  extract_lets x1 x2 x3 x4 x5 x6 x7 x8
  have hx6 : Frame _ _ x6 := (.after (State.modPp_frame ..) h0 rfl)
  exact (.upd hx6 rfl)

end Sys2Proof.Machine
end

