-- ==== Sys2Proof/Laws/FrameGraze.lean ====
section
/-! SUPPORT. What the operations of `Machine/Graze.lean` leave alone. -/

namespace Sys2Proof.Machine

theorem State.balanceBudget_frame (s : State) :
    Frame [.grz] s (State.balanceBudget s) := by
  unfold State.balanceBudget
  have h0 : Frame [.grz] s s := Frame.refl _ _
  extract_lets x1 x2 x3 x4 x5
  exact (.upd h0 rfl)

theorem State.balancePlan_frame (s : State) :
    Frame [.link, .grz] s (State.balancePlan s) := by
  unfold State.balancePlan
  have h0 : Frame [.link, .grz] s s := Frame.refl _ _
  refine .foldl h0 fun _ _ h1 => ?_
  extract_lets x2 x3 x4
  have hx3 : Frame _ _ x3 := (.after (State.modLnk_frame ..) h1 rfl)
  exact (.ite hx3 (.upd hx3 rfl))

theorem State.setRun_frame (s : State) (n : Nat) (a2 : OverrunKind) :
    Frame [.time] s (State.setRun s n a2) := by
  unfold State.setRun
  have h0 : Frame [.time] s s := Frame.refl _ _
  extract_lets x1
  split
  · exact (.upd h0 rfl)
  · exact (.upd h0 rfl)
  · exact (.upd h0 rfl)
  · exact (.upd h0 rfl)

theorem State.overrunEnd_frame (s : State) (k : OverrunKind) :
    Frame [.time, .jnl] s (State.overrunEnd s k) := by
  unfold State.overrunEnd
  exact (.ite (.refl _ _) (.after (State.setRun_frame ..) (.after (State.ev_frame ..) (.refl _ _) rfl) rfl))

theorem State.junction_frame (s : State) (x : Sensors) :
    Frame [.grz] s (State.junction s x) := by
  unfold State.junction
  have h0 : Frame [.grz] s s := Frame.refl _ _
  extract_lets x1 x2 x3 x4 x5 x6 x7 x8 x9
  have hx7 : Frame _ _ x7 := (.upd h0 rfl)
  exact (.upd hx7 rfl)

theorem State.throttle_frame (s : State) :
    Frame [.grz] s (State.throttle s) := by
  unfold State.throttle
  have h0 : Frame [.grz] s s := Frame.refl _ _
  exact (.upd h0 rfl)

theorem State.grazeAdmit_frame (s : State) :
    Frame [.grz] s (State.grazeAdmit s) := by
  unfold State.grazeAdmit
  have h0 : Frame [.grz] s s := Frame.refl _ _
  exact (.upd h0 rfl)

theorem State.rosterEvent_frame (s : State) (k : Nat) (join : Bool) (cause : Nat) :
    Frame [.jnl] s (State.rosterEvent s k join cause) := by
  unfold State.rosterEvent
  exact (.after (State.ev_frame ..) (.refl _ _) rfl)

theorem State.rosterRest_frame (s : State) (k : Nat) (cause : Nat) :
    Frame [.mode, .power, .prot, .grz, .jnl] s (State.rosterRest s k cause) := by
  unfold State.rosterRest
  have h0 : Frame [.mode, .power, .prot, .grz, .jnl] s s := Frame.refl _ _
  extract_lets x1 x2
  have hx1 : Frame _ _ x1 := (.after (State.openNow_frame ..) (.after (State.orderOpen_frame ..) (.after (State.rosterEvent_frame ..) h0 rfl) rfl) rfl)
  clear_value x1
  exact (.ite (.upd hx1 rfl) h0)

theorem State.rosterAdmit_frame (s : State) (k : Nat) (cause : Nat) :
    Frame [.mode, .power, .prot, .grz, .jnl, .enabled] s (State.rosterAdmit s k cause) := by
  unfold State.rosterAdmit
  have h0 : Frame [.mode, .power, .prot, .grz, .jnl, .enabled] s s := Frame.refl _ _
  extract_lets x1 x2 x3
  have hx1 : Frame _ _ x1 := (.after (State.modStr_frame ..) (.after (State.rosterEvent_frame ..) h0 rfl) rfl)
  clear_value x1
  have hx2 : Frame _ _ x2 := (.after (State.connectStart_frame ..) hx1 rfl)
  clear_value x2
  exact (.ite (.upd hx2 rfl) h0)

theorem State.rosterApply_frame (s : State) :
    Frame [.mode, .power, .prot, .grz, .jnl, .enabled] s (State.rosterApply s) := by
  unfold State.rosterApply
  have h0 : Frame [.mode, .power, .prot, .grz, .jnl, .enabled] s s := Frame.refl _ _
  extract_lets x1 x2 x3 x4 x5
  have hx3 : Frame _ _ x3 := (.foldl h0 fun _ _ h1 => (.after (State.rosterRest_frame ..) h1 rfl))
  have hx4 : Frame _ _ x4 := (.foldl hx3 fun _ _ h2 => (.ite (.after (State.rosterAdmit_frame ..) h2 rfl) (.after (State.rosterRest_frame ..) h2 rfl)))
  exact (.ite (.upd h0 rfl) (.ite (.upd hx4 rfl) hx3))

theorem State.setElastic_frame (s : State) (r : Nat) (cause : Nat) :
    Frame [.grz, .jnl] s (State.setElastic s r cause) := by
  unfold State.setElastic
  have h0 : Frame [.grz, .jnl] s s := Frame.refl _ _
  extract_lets x1 x2
  have hx1 : Frame _ _ x1 := (.after (State.ev_frame ..) h0 rfl)
  exact (.ite h0 (.upd hx1 rfl))

theorem State.elasticPower_frame (s : State) :
    Frame [.grz, .jnl] s (State.elasticPower s) := by
  unfold State.elasticPower
  have h0 : Frame [.grz, .jnl] s s := Frame.refl _ _
  extract_lets x1 x2 x3 x4
  have hx2 : Frame _ _ x2 := (.upd h0 rfl)
  have hx3 : Frame _ _ x3 := (.after (State.setElastic_frame ..) hx2 rfl)
  exact (.ite (.upd hx3 rfl) hx2)

theorem State.overrun_frame (s : State) (k : OverrunKind) :
    Frame [.time, .jnl] s (State.overrun s k) := by
  unfold State.overrun
  have h0 : Frame [.time, .jnl] s s := Frame.refl _ _
  extract_lets x1 x2 x3
  have hx2 : Frame _ _ x2 := (.after (State.evIf_frame ..) h0 rfl)
  exact (.ite h0 (.after (State.setRun_frame ..) (.upd hx2 rfl) rfl))

theorem State.junctionFill_frame (s : State) :
    Frame [.grz] s (State.junctionFill s) := by
  unfold State.junctionFill
  have h0 : Frame [.grz] s s := Frame.refl _ _
  exact (.upd h0 rfl)

theorem State.intervalApply_frame (s : State) (k : Nat) :
    Frame [.est] s (State.intervalApply s k) := by
  unfold State.intervalApply
  have h0 : Frame [.est] s s := Frame.refl _ _
  extract_lets x1 x2
  exact (.ite (.upd h0 rfl) h0)

theorem State.meanTake_frame (s : State) :
    Frame [.grz] s (State.meanTake s) := by
  unfold State.meanTake
  have h0 : Frame [.grz] s s := Frame.refl _ _
  extract_lets x1 x2
  exact (.upd h0 rfl)

theorem State.rungApply_frame (s : State) :
    Frame [.mode, .link, .power, .prot, .grz, .pair, .site, .tw, .upd, .jnl, .modeNow, .enabled, .safeOuts, .pairState, .ledger, .safeLatch] s (State.rungApply s) := by
  unfold State.rungApply
  have h0 : Frame [.mode, .link, .power, .prot, .grz, .pair, .site, .tw, .upd, .jnl, .modeNow, .enabled, .safeOuts, .pairState, .ledger, .safeLatch] s s := Frame.refl _ _
  extract_lets x1 x2 x3 x4 x5 x6 x7 x8 x9 x10
  have hx3 : Frame _ _ x3 := (.after (State.ev_frame ..) h0 rfl)
  have hx5 : Frame _ _ x5 := (.ite h0 (.upd hx3 rfl))
  have hx6 : Frame _ _ x6 := (.after (State.setElastic_frame ..) hx5 rfl)
  have hx9 : Frame _ _ x9 := (.ite (.upd hx6 rfl) (.upd hx5 rfl))
  have hx10 : Frame _ _ x10 := (.ite (.after (State.setElastic_frame ..) hx9 rfl) hx9)
  exact (.ite (.after (State.enterSafe_frame ..) hx10 rfl) hx10)

end Sys2Proof.Machine
end

