-- ==== Sys2Proof/Laws/FrameCan.lean ====
section
/-! SUPPORT. What the operations of `Machine/Can.lean` leave alone. -/

namespace Sys2Proof.Machine

theorem State.clashEvent_frame (s : State) (c : Nat) (o : Nat) (ident : Nat) (kind : Nat) (src : Nat) :
    Frame [.jnl] s (State.clashEvent s c o ident kind src) := by
  unfold State.clashEvent
  exact (.after (State.ev_frame ..) (.refl _ _) rfl)

theorem State.modCtl_frame (s : State) (c : Nat) (f : CanCtl → CanCtl) :
    Frame [.bus] s (State.modCtl s c f) := by
  unfold State.modCtl
  have h0 : Frame [.bus] s s := Frame.refl _ _
  exact (.ite (.upd h0 rfl) (.upd h0 rfl))

theorem State.disableObj_frame (s : State) (c : Nat) (o : Nat) :
    Frame [.pair, .site, .bus, .ledger] s (State.disableObj s c o) := by
  unfold State.disableObj
  have h0 : Frame [.pair, .site, .bus, .ledger] s s := Frame.refl _ _
  extract_lets x1
  have hx1 : Frame _ _ x1 := (.after (State.modCtl_frame ..) h0 rfl)
  exact (.ite (.after (State.itemIn_frame ..) hx1 rfl) hx1)

theorem State.clashRx_frame (s : State) (c : Nat) (f : CanFrame) :
    Frame [.pair, .site, .bus, .jnl, .ledger] s (State.clashRx s c f) := by
  unfold State.clashRx
  have h0 : Frame [.pair, .site, .bus, .jnl, .ledger] s s := Frame.refl _ _
  extract_lets x1 x2 x3
  have hx3 : Frame _ _ x3 := (.foldl h0 fun _ _ h1 => (.ite h1 (.after (State.disableObj_frame ..) (.after (State.clashEvent_frame ..) h1 rfl) rfl)))
  exact (.ite (.after (State.clashEvent_frame ..) hx3 rfl) hx3)

theorem State.undeliver_frame (s : State) (c : Nat) (o : Nat) (frame : Nat) :
    Frame [.bus, .jnl] s (State.undeliver s c o frame) := by
  unfold State.undeliver
  have h0 : Frame [.bus, .jnl] s s := Frame.refl _ _
  extract_lets x1
  exact (.after (State.modCtl_frame ..) (.after (State.evIf_frame ..) h0 rfl) rfl)

theorem State.dropObjects_frame (s : State) (c : Nat) :
    Frame [.bus, .jnl] s (State.dropObjects s c) := by
  unfold State.dropObjects
  have h0 : Frame [.bus, .jnl] s s := Frame.refl _ _
  extract_lets x1 x2
  have hx2 : Frame _ _ x2 := (.foldl h0 fun _ _ h1 => (.after (State.undeliver_frame ..) h1 rfl))
  exact (.after (State.modCtl_frame ..) hx2 rfl)

theorem State.setCtl_frame (s : State) (c : Nat) (new : CanState) (cause : Nat) :
    Frame [.pair, .site, .bus, .jnl, .ledger] s (State.setCtl s c new cause) := by
  unfold State.setCtl
  have h0 : Frame [.pair, .site, .bus, .jnl, .ledger] s s := Frame.refl _ _
  extract_lets x1 x2 x3 x4
  have hx2 : Frame _ _ x2 := (.ite (.after (State.dropObjects_frame ..) h0 rfl) h0)
  have hx3 : Frame _ _ x3 := (.after (State.modCtl_frame ..) hx2 rfl)
  have hx4 : Frame _ _ x4 := (.after (State.ev_frame ..) hx3 rfl)
  exact (.after (State.itemIn_frame ..) hx4 rfl)

theorem State.canHear_frame (s : State) (c : Nat) (f : CanFrame) :
    Frame [.pair, .site, .bus, .jnl, .ledger] s (State.canHear s c f) := by
  unfold State.canHear
  have h0 : Frame [.pair, .site, .bus, .jnl, .ledger] s s := Frame.refl _ _
  extract_lets x1 x2 x3
  have hx1 : Frame _ _ x1 := (.after (State.modCtl_frame ..) h0 rfl)
  have hx2 : Frame _ _ x2 := (.after (State.modCtl_frame ..) h0 rfl)
  have hx3 : Frame _ _ x3 := (.ite (.after (State.setCtl_frame ..) hx2 rfl) hx2)
  split
  · exact (.ite (.ite (.after (State.clashRx_frame ..) hx1 rfl) hx1) (.after (State.modCtl_frame ..) h0 rfl))
  · exact (.ite (.after (State.modCtl_frame ..) h0 rfl) (.ite (.after (State.clashRx_frame ..) hx3 rfl) hx3))
  · exact (.ite (.after (State.modCtl_frame ..) h0 rfl) (.ite (.after (State.clashRx_frame ..) hx3 rfl) hx3))
  · exact h0

theorem State.canPut_frame (s : State) (c : Nat) (o : Nat) (k : CanContent) :
    Frame [.bus] s (State.canPut s c o k) := by
  unfold State.canPut
  have h0 : Frame [.bus] s s := Frame.refl _ _
  extract_lets x1 x2
  exact (.ite (.after (State.modCtl_frame ..) h0 rfl) (.ite h0 (.after (State.modCtl_frame ..) h0 rfl)))

theorem State.canPairOut_frame (s : State) (o : Nat) (body : Bytes) :
    Frame [.pair, .bus] s (State.canPairOut s o body) := by
  unfold State.canPairOut
  have h0 : Frame [.pair, .bus] s s := Frame.refl _ _
  extract_lets x1 x2 x3
  have hx2 : Frame _ _ x2 := (.after (State.canPut_frame ..) (.after (State.canPut_frame ..) h0 rfl) rfl)
  exact (.ite (.upd hx2 rfl) h0)

theorem State.canRx_frame (s : State) (c : Nat) (f : CanFrame) (msg : Nat) (node : Nat) (n : Nat) (q : Nat) (full : Bool) :
    Frame [.pair, .site, .bus, .jnl, .ledger] s (State.canRx s c f msg node n q full) := by
  unfold State.canRx
  have h0 : Frame [.pair, .site, .bus, .jnl, .ledger] s s := Frame.refl _ _
  extract_lets x1 x2 x3 x4 x5 x6 x7 x8 x9 x10
  have hx2 : Frame _ _ x2 := (.after (State.canHear_frame ..) h0 rfl)
  have hx3 : ∀ a11, Frame [.pair, .site, .bus, .jnl, .ledger] s a11 → Frame [.pair, .site, .bus, .jnl, .ledger] s (x3 a11) := by
    intro a11 ha11
    unfold x3
    exact (.after (State.modCtl_frame ..) ha11 rfl)
  have hx8 : Frame _ _ x8 := (.after (State.modCtl_frame ..) (.after (State.evIf_frame ..) hx2 rfl) rfl)
  exact (.ite hx2 (.ite (hx3 _ hx2) (.ite (hx3 _ (.upd hx2 rfl)) (.ite (.upd hx8 rfl) (.after (State.itemIn_frame ..) (.upd hx2 rfl) rfl)))))

theorem State.canStart_frame (s : State) (c : Nat) :
    Frame [.pair, .site, .bus, .jnl, .ledger] s (State.canStart s c) := by
  unfold State.canStart
  have h0 : Frame [.pair, .site, .bus, .jnl, .ledger] s s := Frame.refl _ _
  extract_lets x1
  have hx1 : Frame _ _ x1 := (.after (State.modCtl_frame ..) h0 rfl)
  exact (.ite h0 (.ite (.after (State.setCtl_frame ..) hx1 rfl) (.after (State.setCtl_frame ..) hx1 rfl)))

theorem State.canTake_frame (s : State) (msg : Nat) (frame16 : Nat) (b : Bytes) :
    Frame [.mode, .power, .prot, .grz, .pair, .site, .bus, .tw, .jnl, .enabled, .ledger] s (State.canTake s msg frame16 b) := by
  unfold State.canTake
  have h0 : Frame [.mode, .power, .prot, .grz, .pair, .site, .bus, .tw, .jnl, .enabled, .ledger] s s := Frame.refl _ _
  extract_lets x1 x2 x3 x4 x5 x6 x7
  have hx5 : Frame _ _ x5 := (.upd h0 rfl)
  exact (.ite (.ite (.after (State.sf10Check_frame ..) (.upd hx5 rfl) rfl) hx5) (.ite (.upd h0 rfl) (.ite (.upd h0 rfl) (.upd h0 rfl))))

theorem State.timeRef_frame (s : State) (c : Nat) :
    Frame [.bus] s (State.timeRef s c) := by
  unfold State.timeRef
  have h0 : Frame [.bus] s s := Frame.refl _ _
  extract_lets x1 x2
  exact (.ite (.after (State.canPut_frame ..) h0 rfl) h0)

theorem State.canTimeRef_frame (s : State) :
    Frame [.bus] s (State.canTimeRef s) := by
  unfold State.canTimeRef
  exact (.ite (.after (State.timeRef_frame ..) (.after (State.timeRef_frame ..) (.refl _ _) rfl) rfl) (.refl _ _))

theorem State.loneOpen_frame (s : State) (k : Nat) :
    Frame [.mode, .power, .prot, .bus, .jnl] s (State.loneOpen s k) := by
  unfold State.loneOpen
  have h0 : Frame [.mode, .power, .prot, .bus, .jnl] s s := Frame.refl _ _
  extract_lets x1 x2
  have hx1 : Frame _ _ x1 := (.after (State.openNow_frame ..) h0 rfl)
  exact (.upd hx1 rfl)

theorem State.ctlApply_frame (s : State) (slot : Slot) (c : Nat) (st : CanState) (lim : Bool) :
    Frame [.bus] s (State.ctlApply s slot c st lim) := by
  unfold State.ctlApply
  have h0 : Frame [.bus] s s := Frame.refl _ _
  extract_lets x1 x2
  exact (.ite (.after (State.modCtl_frame ..) h0 rfl) (.upd h0 rfl))

theorem State.queueLimits_frame (s : State) :
    Frame [.dsp, .pair, .bus] s (State.queueLimits s) := by
  unfold State.queueLimits
  have h0 : Frame [.dsp, .pair, .bus] s s := Frame.refl _ _
  extract_lets x1 x2
  have hx1 : Frame _ _ x1 := (.after (State.canPairOut_frame ..) h0 rfl)
  exact (.ite (.upd hx1 rfl) h0)

theorem State.queueState_frame (s : State) :
    Frame [.pair, .bus] s (State.queueState s) := by
  unfold State.queueState
  have h0 : Frame [.pair, .bus] s s := Frame.refl _ _
  extract_lets x1
  have hx1 : Frame _ _ x1 := (.after (State.canPairOut_frame ..) h0 rfl)
  exact (.ite h0 (.foldl hx1 fun _ _ h2 => (.ite (.after (State.canPairOut_frame ..) h2 rfl) h2)))

theorem State.inputsTake_frame (s : State) :
    Frame [.mode, .power, .prot, .grz, .pair, .site, .bus, .tw, .cfg, .upd, .jnl, .enabled, .ledger] s (State.inputsTake s) := by
  unfold State.inputsTake
  have h0 : Frame [.mode, .power, .prot, .grz, .pair, .site, .bus, .tw, .cfg, .upd, .jnl, .enabled, .ledger] s s := Frame.refl _ _
  extract_lets x1 x2 x3
  have hx2 : Frame [.mode, .power, .prot, .grz, .pair, .site, .bus, .tw, .cfg, .upd, .jnl, .enabled, .ledger] s x2 := by
    unfold x2
    refine .foldl h0 fun _ _ h4 => ?_
    split
    · exact (.after (State.canTake_frame ..) h4 rfl)
    · exact (.after (State.ctlApply_frame ..) h4 rfl)
    · exact (.after (State.cfgTake_frame ..) (.after (State.updTake_frame ..) h4 rfl) rfl)
    · exact h4
  exact (.upd hx2 rfl)

theorem State.loneOrders_frame (s : State) :
    Frame [.mode] s (State.loneOrders s) := by
  unfold State.loneOrders
  refine .foldl (.refl _ _) fun _ _ h1 => ?_
  split
  · exact h1
  · exact (.after (State.orderOpen_frame ..) h1 rfl)

theorem State.reachJudge_frame (s : State) :
    Frame [.mode, .bus, .jnl] s (State.reachJudge s) := by
  unfold State.reachJudge
  have h0 : Frame [.mode, .bus, .jnl] s s := Frame.refl _ _
  extract_lets x1 x2 x3 x4 x5 x6 x7 x8
  have hx3 : Frame _ _ x3 := (.after (State.ev_frame ..) h0 rfl)
  have hx5 : Frame _ _ x5 := (.ite h0 (.upd hx3 rfl))
  have hx6 : Frame _ _ x6 := (.after (State.ev_frame ..) h0 rfl)
  exact (.ite h0 (.ite (.after (State.loneOrders_frame ..) hx5 rfl) (.ite (.upd hx6 rfl) h0)))

end Sys2Proof.Machine
end

