-- ==== Sys2Proof/Laws/FrameLink.lean ====
section
/-! SUPPORT. What the operations of `Machine/Link.lean` leave alone. -/

namespace Sys2Proof.Machine

theorem State.flagCells_frame (s : State) (p : Nat) :
    Frame [.cells] s (State.flagCells s p) := by
  unfold State.flagCells
  have h0 : Frame [.cells] s s := Frame.refl _ _
  extract_lets x1 x2 x3
  exact (.upd h0 rfl)

theorem State.modSurvey_frame (s : State) (p : Nat) (f : SurveySt → SurveySt) :
    Frame [.mode] s (State.modSurvey s p f) := by
  unfold State.modSurvey
  exact (.after (State.modStr_frame ..) (.refl _ _) rfl)

theorem State.step3Fail_frame (s : State) (p : Nat) :
    Frame [.mode] s (State.step3Fail s p) := by
  unfold State.step3Fail
  exact (.after (State.modSurvey_frame ..) (.refl _ _) rfl)

theorem State.step3Try_frame (s : State) (p : Nat) :
    Frame [.mode] s (State.step3Try s p) := by
  unfold State.step3Try
  have h0 : Frame [.mode] s s := Frame.refl _ _
  extract_lets x1
  exact (.ite (.after (State.modSurvey_frame ..) h0 rfl) h0)

theorem State.gotCal_frame (s : State) (p : Nat) (addr : Nat) (d : List Word) :
    Frame [.mode, .cfe] s (State.gotCal s p addr d) := by
  unfold State.gotCal
  have h0 : Frame [.mode, .cfe] s s := Frame.refl _ _
  extract_lets x1 x2 x3 x4 x5 x6
  have hx3 : Frame _ _ x3 := (.upd h0 rfl)
  have hx6 : Frame _ _ x6 := (.upd hx3 rfl)
  exact (.ite hx3 (.ite (.after (State.step3Try_frame ..) hx6 rfl) (.after (State.step3Fail_frame ..) hx6 rfl)))

theorem State.gotCommit_frame (s : State) (p : Nat) :
    Frame [.link, .jnl] s (State.gotCommit s p) := by
  unfold State.gotCommit
  have h0 : Frame [.link, .jnl] s s := Frame.refl _ _
  exact (.after (State.secQueue_frame ..) (.upd h0 rfl) rfl)

theorem State.secClear_frame (s : State) (p : Nat) :
    Frame [.link] s (State.secClear s p) := by
  unfold State.secClear
  exact (.after (State.modLnk_frame ..) (.refl _ _) rfl)

theorem State.gotFwAck_frame (s : State) (p : Nat) (bank : Nat) (rstat : Nat) :
    Frame [.link, .cfe, .pair, .site, .upd, .jnl, .ledger] s (State.gotFwAck s p bank rstat) := by
  unfold State.gotFwAck
  have h0 : Frame [.link, .cfe, .pair, .site, .upd, .jnl, .ledger] s s := Frame.refl _ _
  extract_lets x1 x2 x3
  have hx1 : Frame _ _ x1 := (.after (State.secClear_frame ..) h0 rfl)
  have hx3 : Frame _ _ x3 := (.upd hx1 rfl)
  exact (.ite (.after (State.cfeFailed_frame ..) (.after (State.modLnk_frame ..) hx1 rfl) rfl) (.ite hx3 (.after (State.secQueue_frame ..) (.after (State.cfeDone_frame ..) hx3 rfl) rfl)))

theorem State.gotFwRun_frame (s : State) (p : Nat) (w : Word) :
    Frame [.link, .cfe, .pair, .site, .upd, .jnl, .ledger] s (State.gotFwRun s p w) := by
  unfold State.gotFwRun
  split
  · exact (.refl _ _)
  · exact (.ite (.after (State.cfeDone_frame ..) (.after (State.cfeSwitch_frame ..) (.refl _ _) rfl) rfl) (.after (State.cfeFailed_frame ..) (.refl _ _) rfl))

theorem State.gotIdentity_frame (s : State) (p : Nat) (d : List Word) :
    Frame [.mode, .link, .cfe] s (State.gotIdentity s p d) := by
  unfold State.gotIdentity
  have h0 : Frame [.mode, .link, .cfe] s s := Frame.refl _ _
  extract_lets x1 x2 x3 x4 x5 x6 x7 x8 x9
  have hx3 : Frame _ _ x3 := (.upd h0 rfl)
  have hx9 : Frame _ _ x9 := (.after (State.modSurvey_frame ..) hx3 rfl)
  split
  · exact hx3
  · exact (.ite hx9 (.after (State.policyWrite_frame ..) hx9 rfl))

theorem State.gotReadback_frame (s : State) (p : Nat) (d : List Word) :
    Frame [.mode, .cfe, .jnl] s (State.gotReadback s p d) := by
  unfold State.gotReadback
  have h0 : Frame [.mode, .cfe, .jnl] s s := Frame.refl _ _
  extract_lets x1
  split
  · exact (.after (State.step3Try_frame ..) (.upd h0 rfl) rfl)
  · exact (.after (State.step3Fail_frame ..) (.after (State.ev_frame ..) h0 rfl) rfl)

theorem State.statusSeen_frame (s : State) (p : Nat) (w : Word) :
    Frame [.link, .cfe] s (State.statusSeen s p w) := by
  unfold State.statusSeen
  have h0 : Frame [.link, .cfe] s s := Frame.refl _ _
  extract_lets x1
  have hx1 : Frame _ _ x1 := (.upd h0 rfl)
  exact (.ite (.after (State.policyWrite_frame ..) hx1 rfl) hx1)

theorem State.gotStatus_frame (s : State) (p : Nat) (d : List Word) :
    Frame [.link, .cfe, .jnl] s (State.gotStatus s p d) := by
  unfold State.gotStatus
  have h0 : Frame [.link, .cfe, .jnl] s s := Frame.refl _ _
  extract_lets x1 x2 x3 x4 x5
  have hx3 : Frame _ _ x3 := (.upd h0 rfl)
  have hx4 : Frame _ _ x4 := (.after (State.ev_frame ..) hx3 rfl)
  have hx5 : Frame _ _ x5 := (.ite hx3 (.ite (.after (State.secQueue_frame ..) hx4 rfl) hx4))
  exact (.after (State.statusSeen_frame ..) hx5 rfl)

theorem State.gotTarget_frame (s : State) (p : Nat) (good : Bool) :
    Frame [.link] s (State.gotTarget s p good) := by
  unfold State.gotTarget
  exact (.ite (.after (State.modLnk_frame ..) (.refl _ _) rfl) (.ite (.refl _ _) (.after (State.modLnk_frame ..) (.refl _ _) rfl)))

theorem State.secAgain_frame (s : State) (p : Nat) (t : SecTx) :
    Frame [.link] s (State.secAgain s p t) := by
  unfold State.secAgain
  exact (.after (State.modLnk_frame ..) (.refl _ _) rfl)

theorem State.gotWearCheck_frame (s : State) (p : Nat) (w : Word) (t : SecTx) :
    Frame [.link, .cfe, .jnl] s (State.gotWearCheck s p w t) := by
  unfold State.gotWearCheck
  have h0 : Frame [.link, .cfe, .jnl] s s := Frame.refl _ _
  extract_lets x1 x2
  exact (.ite (.upd h0 rfl) (.after (State.secAgain_frame ..) h0 rfl))

theorem State.gotWearStat_frame (s : State) (p : Nat) (w : Word) :
    Frame [.cfe, .jnl] s (State.gotWearStat s p w) := by
  unfold State.gotWearStat
  have h0 : Frame [.cfe, .jnl] s s := Frame.refl _ _
  extract_lets x1
  have hx1 : Frame _ _ x1 := (.upd h0 rfl)
  exact (.ite (.after (State.wearFault_frame ..) hx1 rfl) hx1)

theorem State.restAlarm_frame (s : State) (p : Nat) :
    Frame [.mode] s (State.restAlarm s p) := by
  unfold State.restAlarm
  have h0 : Frame [.mode] s s := Frame.refl _ _
  exact (.ite (.upd h0 rfl) h0)

theorem State.markhorJudge_frame (s : State) (p : Nat) (d : UpData) :
    Frame [.mode, .meas, .mkCell, .mkTh, .power, .prot, .pair, .site, .tw, .jnl, .enabled, .ledger] s (State.markhorJudge s p d) := by
  unfold State.markhorJudge
  have h0 : Frame [.mode, .meas, .mkCell, .mkTh, .power, .prot, .pair, .site, .tw, .jnl, .enabled, .ledger] s s := Frame.refl _ _
  extract_lets x1 x2 x3
  have hx1 : Frame _ _ x1 := (.after (State.testTake_frame ..) (.after (State.markhorTake_frame ..) h0 rfl) rfl)
  have hx2 : Frame _ _ x2 := (.after (State.sf03Check_frame ..) (.after (State.limitCheck_frame ..) hx1 rfl) rfl)
  have hx3 : Frame _ _ x3 := (.ite hx2 (.after (State.blockCompare_frame ..) hx2 rfl))
  exact (.after (State.restAlarm_frame ..) hx3 rfl)

theorem State.measureFailed_frame (s : State) (p : Nat) :
    Frame [.link] s (State.measureFailed s p) := by
  unfold State.measureFailed
  exact (.after (State.modLnk_frame ..) (.refl _ _) rfl)

theorem State.measureEnd_frame (s : State) (p : Nat) :
    Frame [.link, .jnl] s (State.measureEnd s p) := by
  unfold State.measureEnd
  have h0 : Frame [.link, .jnl] s s := Frame.refl _ _
  extract_lets x1
  refine .ite ?_ ?_
  · exact h0
  · split
    · exact (.ite h0 (.after (State.measureFailed_frame ..) h0 rfl))
    · extract_lets x2
      exact (.after (State.modLnk_frame ..) (.after (State.evIf_frame ..) h0 rfl) rfl)

theorem State.uploadDiffers_frame (s : State) (own : UpData) (peer : UpData) :
    Frame [.pair, .jnl] s (State.uploadDiffers s own peer) := by
  unfold State.uploadDiffers
  have h0 : Frame [.pair, .jnl] s s := Frame.refl _ _
  extract_lets x1 x2
  have hx1 : Frame _ _ x1 := (.after (State.ev_frame ..) h0 rfl)
  exact (.upd hx1 rfl)

theorem State.ownUse_frame (s : State) (p : Nat) (d : UpData) :
    Frame [.link, .meas, .cells, .th, .pair, .jnl] s (State.ownUse s p d) := by
  unfold State.ownUse
  split
  · exact (.ite (.refl _ _) (.ite (.after (State.tableTake_frame ..) (.after (State.uploadDiffers_frame ..) (.refl _ _) rfl) rfl) (.after (State.uploadDiffers_frame ..) (.refl _ _) rfl)))
  · exact (.after (State.tableTake_frame ..) (.refl _ _) rfl)

theorem State.portAsk_frame (s : State) (p : Nat) :
    Frame [.link, .cfe] s (State.portAsk s p) := by
  unfold State.portAsk
  have h0 : Frame [.link, .cfe] s s := Frame.refl _ _
  extract_lets x1 x2 x3 x4
  have hx2 : Frame _ _ x2 := (.ite (.after (State.modLnk_frame ..) h0 rfl) h0)
  have hx3 : Frame _ _ x3 := (.after (State.secQueue_frame ..) hx2 rfl)
  have hx4 : Frame _ _ x4 := (.ite (.upd hx3 rfl) hx2)
  split
  · exact (.ite (.after (State.secQueue_frame ..) hx4 rfl) hx4)
  · exact hx4

theorem State.portCount_frame (s : State) (p : Nat) :
    Frame [.link, .prot] s (State.portCount s p) := by
  unfold State.portCount
  have h0 : Frame [.link, .prot] s s := Frame.refl _ _
  extract_lets x1 x2 x3 x4
  have hx3 : Frame _ _ x3 := (.after (State.modLnk_frame ..) h0 rfl)
  exact (.upd hx3 rfl)

theorem State.portWoken_frame (s : State) (p : Nat) :
    Frame [.link, .jnl] s (State.portWoken s p) := by
  unfold State.portWoken
  have h0 : Frame [.link, .jnl] s s := Frame.refl _ _
  extract_lets x1 x2
  have hx2 : Frame _ _ x2 := (.ite h0 (.after (State.secQueue_frame ..) h0 rfl))
  exact (.ite (.ite (.after (State.setLink_frame ..) hx2 rfl) (.after (State.modLnk_frame ..) (.after (State.setLink_frame ..) hx2 rfl) rfl)) (.ite (.after (State.setLink_frame ..) h0 rfl) h0))

theorem State.secReport_frame (s : State) (p : Nat) (t : SecTx) :
    Frame [.mode, .link, .cfe, .pair, .site, .upd, .jnl, .ledger] s (State.secReport s p t) := by
  unfold State.secReport
  split
  · exact (.ite (.after (State.secAgain_frame ..) (.refl _ _) rfl) (.refl _ _))
  · exact (.after (State.step3Fail_frame ..) (.refl _ _) rfl)
  · exact (.after (State.step3Fail_frame ..) (.refl _ _) rfl)
  · exact (.after (State.commitFailed_frame ..) (.refl _ _) rfl)
  · exact (.after (State.commitFailed_frame ..) (.refl _ _) rfl)
  · exact (.after (State.cfeFailed_frame ..) (.refl _ _) rfl)
  · exact (.after (State.cfeFailed_frame ..) (.refl _ _) rfl)
  · exact (.after (State.cfeFailed_frame ..) (.refl _ _) rfl)
  · exact (.after (State.measureEnd_frame ..) (.after (State.modLnk_frame ..) (.refl _ _) rfl) rfl)
  · exact (.after (State.gotTarget_frame ..) (.refl _ _) rfl)
  · exact (.refl _ _)
  · exact (.refl _ _)
  · exact (.refl _ _)
  · exact (.refl _ _)

theorem State.secFail_frame (s : State) (p : Nat) :
    Frame [.mode, .link, .cfe, .pair, .site, .upd, .jnl, .ledger] s (State.secFail s p) := by
  unfold State.secFail
  have h0 : Frame [.mode, .link, .cfe, .pair, .site, .upd, .jnl, .ledger] s s := Frame.refl _ _
  extract_lets x1
  have hx1 : Frame _ _ x1 := (.after (State.modLnk_frame ..) (.after (State.secClear_frame ..) h0 rfl) rfl)
  split
  · exact h0
  · exact (.ite (.after (State.secAgain_frame ..) hx1 rfl) (.after (State.secReport_frame ..) hx1 rfl))

theorem State.replyTake_frame {W : List View} {s u : State} {p type : Nat} {h : LinkHead} {payload : Bytes}
    {act : SecTx → State} (g : Frame W s u) (ha : ∀ t, Frame W s (act t))
    (hw : ([.mode, .link, .cfe, .pair, .site, .upd, .jnl, .ledger] : List View).all W.contains = true) : Frame W s (u.replyTake p type h payload act) := by
  unfold State.replyTake
  refine .ite ?_ (.ite ?_ ?_)
  · exact g.trans (Frame.mono (V := [.mode, .link, .cfe, .pair, .site, .upd, .jnl, .ledger]) (.after (State.secFail_frame ..) (.after (State.modLnk_frame ..) (.refl _ _) rfl) rfl) hw)
  · exact g.trans (Frame.mono (V := [.mode, .link, .cfe, .pair, .site, .upd, .jnl, .ledger]) (.after (State.secFail_frame ..) (.after (State.modLnk_frame ..) (.refl _ _) rfl) rfl) hw)
  · split
    · exact g
    · exact .ite (ha _) (g.trans (Frame.mono (V := [.mode, .link, .cfe, .pair, .site, .upd, .jnl, .ledger]) (.after (State.secFail_frame ..) (.refl _ _) rfl) hw))

theorem State.restWakeAll_frame (s : State) :
    Frame [.mode, .link, .jnl] s (State.restWakeAll s) := by
  unfold State.restWakeAll
  have h0 : Frame [.mode, .link, .jnl] s s := Frame.refl _ _
  extract_lets x1 x2
  have hx1 : Frame _ _ x1 := (.foldl h0 fun _ _ h1 => (.after (State.wakePort_frame ..) h1 rfl))
  exact (.ite (.upd hx1 rfl) h0)

theorem State.secDone_frame (s : State) (p : Nat) (t : SecTx) (rstat : Nat) (addr : Nat) (d : List Word) :
    Frame [.mode, .link, .cfe, .pair, .site, .upd, .jnl, .ledger] s (State.secDone s p t rstat addr d) := by
  unfold State.secDone
  have h0 : Frame [.mode, .link, .cfe, .pair, .site, .upd, .jnl, .ledger] s s := Frame.refl _ _
  extract_lets x1
  split
  · exact (.ite (.after (State.gotIdentity_frame ..) h0 rfl) (.ite (.after (State.secAgain_frame ..) h0 rfl) h0))
  · exact (.ite (.after (State.gotCal_frame ..) h0 rfl) h0)
  · exact (.ite (.after (State.secQueue_frame ..) (.after (State.ev_frame ..) h0 rfl) rfl) (.after (State.step3Fail_frame ..) h0 rfl))
  · exact (.ite (.after (State.gotReadback_frame ..) h0 rfl) (.after (State.step3Fail_frame ..) h0 rfl))
  · exact (.ite h0 (.ite (.after (State.gotStatus_frame ..) h0 rfl) (.after (State.gotWearStat_frame ..) h0 rfl)))
  · exact h0
  · exact (.after (State.gotTarget_frame ..) h0 rfl)
  · exact (.ite h0 (.after (State.commitFailed_frame ..) h0 rfl))
  · exact (.ite (.after (State.gotCommit_frame ..) h0 rfl) (.after (State.commitFailed_frame ..) h0 rfl))
  · exact (.ite (.after (State.gotWearCheck_frame ..) h0 rfl) h0)
  · exact h0
  · exact (.ite (.after (State.cfeDone_frame ..) h0 rfl) (.after (State.cfeFailed_frame ..) h0 rfl))
  · exact (.ite (.after (State.cfeFailed_frame ..) h0 rfl) (.ite (.after (State.statusSeen_frame ..) h0 rfl) (.after (State.gotFwRun_frame ..) h0 rfl)))
  · exact h0

theorem State.sumCompare_frame (s : State) (k : Nat) :
    Frame [.mode, .meas] s (State.sumCompare s k) := by
  unfold State.sumCompare
  have h0 : Frame [.mode, .meas] s s := Frame.refl _ _
  extract_lets x1 x2 x3 x4 x5 x6
  have hx6 : Frame _ _ x6 := (.upd h0 rfl)
  refine .ite ?_ ?_
  · exact h0
  · split
    · exact (.ite (.after (State.modStr_frame ..) hx6 rfl) hx6)
    · exact (.ite h0 (.upd h0 rfl))

theorem State.surveySeen_frame (s : State) (p : Nat) :
    Frame [.mode] s (State.surveySeen s p) := by
  unfold State.surveySeen
  exact (.after (State.modStr_frame ..) (.refl _ _) rfl)

theorem State.surveySlotBad_frame (s : State) (p : Nat) :
    Frame [.mode] s (State.surveySlotBad s p) := by
  unfold State.surveySlotBad
  exact (.after (State.modStr_frame ..) (.refl _ _) rfl)

theorem State.upBad_frame (s : State) (p : Nat) (code : Nat) (u : UpFrame) :
    Frame [.mode, .link, .jnl] s (State.upBad s p code u) := by
  unfold State.upBad
  have h0 : Frame [.mode, .link, .jnl] s s := Frame.refl _ _
  extract_lets x1 x2 x3
  have hx2 : Frame _ _ x2 := (.after (State.evIf_frame ..) h0 rfl)
  have hx3 : Frame _ _ x3 := (.after (State.modLnk_frame ..) hx2 rfl)
  split
  · exact (.after (State.modLnk_frame ..) h0 rfl)
  · exact (.after (State.modLnk_frame ..) h0 rfl)
  · exact (.ite (.after (State.surveySlotBad_frame ..) hx3 rfl) hx3)
  · exact (.after (State.modLnk_frame ..) h0 rfl)

theorem State.upGood_frame (s : State) (p : Nat) (u : UpFrame) (d : UpData) :
    Frame [.link, .jnl] s (State.upGood s p u d) := by
  unfold State.upGood
  have h0 : Frame [.link, .jnl] s s := Frame.refl _ _
  extract_lets x1 x2 x3
  have hx3 : Frame _ _ x3 := (.after (State.evIf_frame ..) h0 rfl)
  exact (.after (State.modLnk_frame ..) hx3 rfl)

end Sys2Proof.Machine
end

