-- ==== Sys2Proof/Laws/FrameTwoWire.lean ====
section
/-! SUPPORT. What the operations of `Machine/TwoWire.lean` leave alone. -/

namespace Sys2Proof.Machine

theorem State.twRefresh_frame (s : State) :
    Frame [.tw] s (State.twRefresh s) := by
  unfold State.twRefresh
  have h0 : Frame [.tw] s s := Frame.refl _ _
  exact (.upd h0 rfl)

theorem State.twAge_frame (s : State) :
    Frame [.tw] s (State.twAge s) := by
  unfold State.twAge
  have h0 : Frame [.tw] s s := Frame.refl _ _
  exact (.upd h0 rfl)

theorem State.twDisarm_frame (s : State) (flag : Bool) :
    Frame [.tw] s (State.twDisarm s flag) := by
  unfold State.twDisarm
  have h0 : Frame [.tw] s s := Frame.refl _ _
  exact (.ite (.upd h0 rfl) h0)

theorem State.twComplete_frame (s : State) :
    Frame [.mode, .link, .power, .prot, .pair, .site, .tw, .upd, .jnl, .modeNow, .enabled, .safeOuts, .pairState, .ledger, .safeLatch] s (State.twComplete s) := by
  unfold State.twComplete
  have h0 : Frame [.mode, .link, .power, .prot, .pair, .site, .tw, .upd, .jnl, .modeNow, .enabled, .safeOuts, .pairState, .ledger, .safeLatch] s s := Frame.refl _ _
  extract_lets x1 x2 x3 x4
  have hx2 : Frame _ _ x2 := (.upd h0 rfl)
  have hx4 : Frame _ _ x4 := (.after (State.ev_frame ..) hx2 rfl)
  exact (.ite hx4 (.after (State.enterSafe_frame ..) hx4 rfl))

theorem State.twLapse_frame (s : State) :
    Frame [.tw] s (State.twLapse s) := by
  unfold State.twLapse
  exact (.ite (.after (State.twDisarm_frame ..) (.refl _ _) rfl) (.refl _ _))

theorem State.twCommit_frame (s : State) (b : Byte) :
    Frame [.mode, .link, .power, .prot, .pair, .site, .tw, .upd, .jnl, .modeNow, .enabled, .safeOuts, .pairState, .ledger, .safeLatch] s (State.twCommit s b) := by
  unfold State.twCommit
  have h0 : Frame [.mode, .link, .power, .prot, .pair, .site, .tw, .upd, .jnl, .modeNow, .enabled, .safeOuts, .pairState, .ledger, .safeLatch] s s := Frame.refl _ _
  extract_lets x1 x2
  have hx1 : Frame _ _ x1 := (.after (State.twLapse_frame ..) h0 rfl)
  exact (.ite (.upd hx1 rfl) (.ite (.ite (.after (State.twComplete_frame ..) hx1 rfl) (.upd hx1 rfl)) (.after (State.twDisarm_frame ..) hx1 rfl)))

theorem State.twEnd_frame (s : State) (sent : Nat) :
    Frame [.tw] s (State.twEnd s sent) := by
  unfold State.twEnd
  have h0 : Frame [.tw] s s := Frame.refl _ _
  extract_lets x1 x2 x3 x4
  have hx3 : Frame _ _ x3 := (.upd h0 rfl)
  split
  · exact (.upd hx3 rfl)
  · exact (.upd hx3 rfl)
  · exact (.upd hx3 rfl)
  · exact (.upd hx3 rfl)
  · exact (.upd hx3 rfl)

theorem State.twFault_frame (s : State) (first : Bool) (kind : Nat) (count : Nat) :
    Frame [.jnl] s (State.twFault s first kind count) := by
  unfold State.twFault
  exact (.after (State.evIf_frame ..) (.refl _ _) rfl)

theorem State.twMarkhor_frame (s : State) :
    Frame [.tw] s (State.twMarkhor s) := by
  unfold State.twMarkhor
  have h0 : Frame [.tw] s s := Frame.refl _ _
  exact (.upd h0 rfl)

end Sys2Proof.Machine
end

