-- ==== Sys2Proof/Laws/FrameSurvey.lean ====
section
/-! SUPPORT. What the operations of `Machine/Survey.lean` leave alone. -/

namespace Sys2Proof.Machine

theorem State.freezeEnd_frame (s : State) :
    Frame [.prot, .pair, .jnl] s (State.freezeEnd s) := by
  unfold State.freezeEnd
  have h0 : Frame [.prot, .pair, .jnl] s s := Frame.refl _ _
  extract_lets x1 x2 x3
  have hx1 : Frame _ _ x1 := (.after (State.ev_frame ..) h0 rfl)
  exact (.ite (.upd hx1 rfl) h0)

theorem State.identRecheck_frame (s : State) (k : Nat) :
    Frame [.mode] s (State.identRecheck s k) := by
  unfold State.identRecheck
  have h0 : Frame [.mode] s s := Frame.refl _ _
  extract_lets x1
  exact (.after (State.modStr_frame ..) h0 rfl)

theorem State.safeOutRelease_frame (s : State) :
    Frame [.prot, .safeOuts] s (State.safeOutRelease s) := by
  unfold State.safeOutRelease
  have h0 : Frame [.prot, .safeOuts] s s := Frame.refl _ _
  exact (.ite (.upd h0 rfl) h0)

theorem State.startTake_frame (s : State) (k : Nat) :
    Frame [.mode, .jnl] s (State.startTake s k) := by
  unfold State.startTake
  have h0 : Frame [.mode, .jnl] s s := Frame.refl _ _
  extract_lets x1 x2
  have hx2 : Frame _ _ x2 := (.ite h0 (.after (State.setStr_frame ..) h0 rfl))
  exact (.after (State.modStr_frame ..) hx2 rfl)

theorem State.surveyLeave_frame (s : State) :
    Frame [.mode, .prot, .pair, .tw, .jnl, .modeNow, .enabled, .safeOuts] s (State.surveyLeave s) := by
  unfold State.surveyLeave
  have h0 : Frame [.mode, .prot, .pair, .tw, .jnl, .modeNow, .enabled, .safeOuts] s s := Frame.refl _ _
  extract_lets x1 x2 x3 x4 x5 x6 x7 x8 x9 x10
  have hx3 : Frame _ _ x3 := (.ite h0 (.foldl h0 fun _ _ h1 => (.after (State.startTake_frame ..) (.after (State.recordIdentities_frame ..) h1 rfl) rfl)))
  clear_value x3
  have hx5 : Frame _ _ x5 := (.ite hx3 (.upd hx3 rfl))
  clear_value x5
  have hx6 : Frame _ _ x6 := (.after (State.ev_frame ..) hx5 rfl)
  clear_value x6
  have hx7 : Frame _ _ x7 := (.after (State.freezeEnd_frame ..) (.after (State.safeOutRelease_frame ..) hx6 rfl) rfl)
  clear_value x7
  have hx9 : Frame _ _ x9 := (.after (State.setMode_frame ..) hx7 rfl)
  clear_value x9
  exact (.upd hx9 rfl)

theorem State.surveyWaitEnd_frame (s : State) :
    Frame [.mode, .prot, .pair, .tw, .jnl, .modeNow, .enabled, .safeOuts] s (State.surveyWaitEnd s) := by
  unfold State.surveyWaitEnd
  have h0 : Frame [.mode, .prot, .pair, .tw, .jnl, .modeNow, .enabled, .safeOuts] s s := Frame.refl _ _
  extract_lets x1 x2 x3 x4
  have hx1 : Frame _ _ x1 := (.after (State.surveyLeave_frame ..) h0 rfl)
  clear_value x1
  have hx4 : Frame _ _ x4 := (.upd h0 rfl)
  clear_value x4
  exact (.ite (.ite (.upd hx1 rfl) h0) (.ite (.ite hx4 (.after (State.setMode_frame ..) hx4 rfl)) h0))

theorem State.surveyReconcile_frame (s : State) :
    Frame [.mode, .est, .prot, .jnl] s (State.surveyReconcile s) := by
  unfold State.surveyReconcile
  have h0 : Frame [.mode, .est, .prot, .jnl] s s := Frame.refl _ _
  extract_lets x1 x2 x3 x4
  have hx1 : Frame _ _ x1 := (.after (State.reconcile_frame ..) h0 rfl)
  have hx2 : Frame _ _ x2 := (.foldl hx1 fun _ _ h2 => (.after (State.identRecheck_frame ..) h2 rfl))
  exact (.ite (.upd hx2 rfl) hx2)

end Sys2Proof.Machine
end

