-- ==== Sys2Proof/Laws/FrameSite.lean ====
section
/-! SUPPORT. What the operations of `Machine/Site.lean` leave alone. -/

namespace Sys2Proof.Machine

theorem State.sessionOpens_frame (s : State) :
    Frame [.site, .jnl, .session] s (State.sessionOpens s) := by
  unfold State.sessionOpens
  have h0 : Frame [.site, .jnl, .session] s s := Frame.refl _ _
  extract_lets x1 x2
  have hx2 : Frame _ _ x2 := (.upd h0 rfl)
  exact (.ite (.after (State.ev_frame ..) hx2 rfl) h0)

theorem SiteSt.heard_eq (t : SiteSt) (p a : Nat) :
    t.heard p a = { t with port := some p, addr0 := if p = 0 then some a else t.addr0,
                           addr1 := if p = 0 then t.addr1 else some a } := by
  unfold SiteSt.heard
  split <;> rfl

theorem State.acceptMsg_frame (s : State) (m : SiteIn) : Frame [.site, .jnl, .session] s (State.acceptMsg s m) := by
  unfold State.acceptMsg
  rw [SiteSt.heard_eq]
  exact .after (State.sessionOpens_frame ..) (.upd (Frame.refl _ _) rfl) rfl

theorem State.answer_frame (s : State) (e : LedgerEntry) (flags : Nat) :
    Frame [.pair, .site] s (State.answer s e flags) := by
  unfold State.answer
  exact (.after (State.sendPairOpen_frame ..) (.refl _ _) rfl)

theorem State.authFail_frame (s : State) (cause : Nat) (o : OpenIn) :
    Frame [.jnl, .acc] s (State.authFail s cause o) := by
  unfold State.authFail
  have h0 : Frame [.jnl, .acc] s s := Frame.refl _ _
  extract_lets x1 x2 x3
  have hx2 : Frame _ _ x2 := (.after (State.evIf_frame ..) h0 rfl)
  exact (.upd hx2 rfl)

theorem State.siteHeartbeat_frame (s : State) :
    Frame [.pair, .site] s (State.siteHeartbeat s) := by
  unfold State.siteHeartbeat
  exact (.ite (.after (State.send_frame ..) (.refl _ _) rfl) (.refl _ _))

theorem State.eventPush_frame (s : State) :
    Frame [.pair, .site] s (State.eventPush s) := by
  unfold State.eventPush
  have h0 : Frame [.pair, .site] s s := Frame.refl _ _
  refine .ite ?_ ?_
  · refine .foldl h0 fun _ _ h1 => ?_
    extract_lets x2 x3 x4 x5
    have hx3 : Frame _ _ x3 := (.foldl h1 fun _ _ h2 => (.after (State.send_frame ..) h2 rfl))
    exact (.upd hx3 rfl)
  · exact h0

theorem State.commandIn_frame (s : State) (id : Word) (code : Nat) (body : Bytes) (role : Role) (seq : Nat) :
    Frame [.pair, .site, .ledger] s (State.commandIn s id code body role seq) := by
  unfold State.commandIn
  have h0 : Frame [.pair, .site, .ledger] s s := Frame.refl _ _
  extract_lets x1 x2 x3
  refine .ite ?_ ?_
  · exact (.after (State.answer_frame ..) h0 rfl)
  · split
    · exact (.after (State.answer_frame ..) h0 rfl)
    · split
      · exact (.after (State.answer_frame ..) h0 rfl)
      · extract_lets x4 x5
        have hx4 : Frame _ _ x4 := (.updL h0 rfl (.of_ledger rfl (twf_tput _ _)))
        have hx5 : Frame _ _ x5 := (.after (State.itemIn_frame ..) hx4 rfl)
        exact (.after (State.answer_frame ..) hx5 rfl)

theorem State.countFmt_frame (s : State) :
    Frame [.site] s (State.countFmt s) := by
  unfold State.countFmt
  have h0 : Frame [.site] s s := Frame.refl _ _
  exact (.upd h0 rfl)

theorem State.statusPush_frame (s : State) :
    Frame [.pair, .site] s (State.statusPush s) := by
  unfold State.statusPush
  have h0 : Frame [.pair, .site] s s := Frame.refl _ _
  extract_lets x1 x2
  have hx1 : Frame _ _ x1 := (.ite (.after (State.sendPairOpen_frame ..) h0 rfl) h0)
  exact (.ite (.foldl hx1 fun _ _ h2 => (.after (State.send_frame ..) h2 rfl)) hx1)

theorem State.freshSession_frame (s : State) : Frame [.free] s (State.freshSession s).2 := Frame.upd (Frame.refl _ _) rfl

/-- The ledger at the end of Load keeps its canonical form. -/
theorem State.ledgerAtLoad_wf (s : State) (r : LedgerEntry → Bool) (b : Nat) (t : Tab LedgerEntry)
    (h : twfFrom b t = true) :
    twfFrom b (t.map (fun (e : Nat × LedgerEntry) =>
      let x := e.2
      if x.state = .pending then (e.1, { x with state := .failed, status := .failedAborted, step := 0, changed := s.now })
      else if (x.state = .accepted ∨ x.state = .started) ∧ !r x then
        (e.1, { x with state := .failed, status := .failedAborted, changed := s.now })
      else e)) = true := by
  induction t generalizing b with
  | nil => rfl
  | cons e t ih =>
    obtain ⟨k, v⟩ := e
    simp only [twfFrom, Bool.and_eq_true, decide_eq_true_eq] at h
    have hd : ∀ x : LedgerEntry, x.state = .failed → x ≠ default := fun x hx e => by subst e; cases hx
    simp only [List.map_cons]
    by_cases h1 : v.state = .pending
    · simp only [h1, if_true, twfFrom, Bool.and_eq_true, decide_eq_true_eq]
      exact ⟨⟨h.1.1, hd _ rfl⟩, ih _ h.2⟩
    · by_cases h2 : (v.state = .accepted ∨ v.state = .started) ∧ (!r v) = true
      · rw [if_neg h1, if_pos h2]
        simp only [twfFrom, Bool.and_eq_true, decide_eq_true_eq]
        exact ⟨⟨h.1.1, hd _ rfl⟩, ih _ h.2⟩
      · rw [if_neg h1, if_neg h2]
        simp only [twfFrom, Bool.and_eq_true, decide_eq_true_eq]
        exact ⟨⟨h.1.1, h.1.2⟩, ih _ h.2⟩

theorem State.ledgerAtLoad_frame (s : State) (resumes : LedgerEntry → Bool) :
    Frame [.site, .ledger] s (State.ledgerAtLoad s resumes) :=
  .updL (.refl _ _) rfl (.of_ledger rfl (State.ledgerAtLoad_wf s resumes 0 _))

theorem State.markPush_frame (s : State) :
    Frame [.site] s (State.markPush s) := by
  unfold State.markPush
  have h0 : Frame [.site] s s := Frame.refl _ _
  exact (.upd h0 rfl)

theorem State.onValid_frame {W : List View} {s u : State} {m : SiteIn} {ty : Nat} {b : Bytes} {go : State → State}
    (h : Frame W s u) (hgo : ∀ x, Frame W s x → Frame W s (go x))
    (hw : [View.site, .jnl, .session].all W.contains = true) : Frame W s (u.onValid m ty b go) := by
  unfold State.onValid
  refine .ite h (.ite ?_ (.ite ?_ (.ite ?_ (hgo _ ?_))))
  · exact h.trans ((State.countFmt_frame u).mono (by simp_all))
  · exact h.trans (Frame.mono (V := [.site]) (.upd (Frame.refl _ _) rfl) (by simp_all))
  · exact h.trans (Frame.mono (V := [.site]) (.upd (Frame.refl _ _) rfl) (by simp_all))
  · exact h.trans ((State.acceptMsg_frame u m).mono hw)

theorem State.siteFrame_frame (s : State) :
    Frame [.pair, .site] s (State.siteFrame s) := by
  unfold State.siteFrame
  have h0 : Frame [.pair, .site] s s := Frame.refl _ _
  extract_lets x1 x2 x3 x4
  have hx2 : Frame _ _ x2 := (.after (State.markPush_frame ..) h0 rfl)
  have hx4 : Frame _ _ x4 := (.upd hx2 rfl)
  exact (.foldl hx4 fun _ _ h3 => (.after (State.send_frame ..) h3 rfl))

theorem State.winAsk_frame (s : State) (r : WinReq) :
    Frame [.site] s (State.winAsk s r) := by
  unfold State.winAsk
  have h0 : Frame [.site] s s := Frame.refl _ _
  exact (.upd h0 rfl)

theorem State.windowReply_frame (s : State) (seq : Nat) (st : Status) (page : Nat) (chunk : Nat) (data : Bytes) :
    Frame [.pair, .site] s (State.windowReply s seq st page chunk data) := by
  unfold State.windowReply
  exact (.after (State.send_frame ..) (.refl _ _) rfl)

end Sys2Proof.Machine
end

