-- ==== Sys2Proof/Laws/FrameTimebase.lean ====
section
/-! SUPPORT. What the operations of `Machine/Timebase.lean` leave alone. -/

namespace Sys2Proof.Machine

theorem State.boundTake_frame (s : State) :
    Frame [.time] s (State.boundTake s) := by
  unfold State.boundTake
  have h0 : Frame [.time] s s := Frame.refl _ _
  extract_lets x1 x2 x3
  have hx2 : Frame _ _ x2 := (.upd h0 rfl)
  exact (.upd hx2 rfl)

theorem State.alignJudge_frame (s : State) :
    Frame [.time, .jnl] s (State.alignJudge s) := by
  unfold State.alignJudge
  have h0 : Frame [.time, .jnl] s s := Frame.refl _ _
  extract_lets x1 x2 x3 x4
  have hx1 : Frame _ _ x1 := (.after (State.boundTake_frame ..) h0 rfl)
  have hx3 : Frame _ _ x3 := (.after (State.evIf_frame ..) hx1 rfl)
  exact (.upd hx3 rfl)

theorem State.announceStep_frame (s : State) :
    Frame [.time, .pair] s (State.announceStep s) := by
  unfold State.announceStep
  have h0 : Frame [.time, .pair] s s := Frame.refl _ _
  extract_lets x1 x2 x3 x4 x5
  have hx4 : Frame _ _ x4 := (.upd h0 rfl)
  exact (.ite (.upd hx4 rfl) hx4)

theorem State.timeFollow_frame (s : State) :
    Frame [.time, .jnl] s (State.timeFollow s) := by
  unfold State.timeFollow
  have h0 : Frame [.time, .jnl] s s := Frame.refl _ _
  exact (.after (State.alignJudge_frame ..) (.upd h0 rfl) rfl)

theorem State.enterHoldover_frame (s : State) (last : TimeSource) :
    Frame [.time, .jnl] s (State.enterHoldover s last) := by
  unfold State.enterHoldover
  have h0 : Frame [.time, .jnl] s s := Frame.refl _ _
  extract_lets x1 x2 x3
  have hx2 : Frame _ _ x2 := (.after (State.ev_frame ..) h0 rfl)
  exact (.upd hx2 rfl)

theorem State.freqTake_frame (s : State) (f : FreqSource) (freq : Int) :
    Frame [.time] s (State.freqTake s f freq) := by
  unfold State.freqTake
  have h0 : Frame [.time] s s := Frame.refl _ _
  exact (.ite (.upd h0 rfl) h0)

theorem State.offsetTake_frame (s : State) (offset : Int) (freq : Int) :
    Frame [.time, .pair, .jnl] s (State.offsetTake s offset freq) := by
  unfold State.offsetTake
  have h0 : Frame [.time, .pair, .jnl] s s := Frame.refl _ _
  extract_lets x1 x2 x3 x4
  have hx3 : Frame _ _ x3 := (.upd h0 rfl)
  have hx4 : Frame _ _ x4 := (.ite (.after (State.announceStep_frame ..) hx3 rfl) hx3)
  exact (.after (State.alignJudge_frame ..) hx4 rfl)

theorem State.retime_frame (s : State) (cause : Nat) :
    Frame [.time, .jnl] s (State.retime s cause) := by
  unfold State.retime
  have h0 : Frame [.time, .jnl] s s := Frame.refl _ _
  extract_lets x1 x2 x3 x4 x5 x6 x7
  have hx3 : Frame _ _ x3 := (.after (State.evIf_frame ..) h0 rfl)
  have hx5 : Frame _ _ x5 := (.upd hx3 rfl)
  have hx7 : Frame [.time, .jnl] s x7 := by
    unfold x7
    refine .ite ?_ ?_
    · split
      · exact (.after (State.enterHoldover_frame ..) hx5 rfl)
      · exact (.ite (.after (State.enterHoldover_frame ..) hx5 rfl) (.upd hx5 rfl))
      · exact hx5
    · split
      · exact (.upd hx5 rfl)
      · exact (.upd hx5 rfl)
      · exact hx5
  exact (.ite h0 (.after (State.alignJudge_frame ..) hx7 rfl))

theorem State.setAnn_frame (s : State) (port : Nat) (a : Announce) :
    Frame [.time] s (State.setAnn s port a) := by
  unfold State.setAnn
  have h0 : Frame [.time] s s := Frame.refl _ _
  exact (.ite (.upd h0 rfl) (.upd h0 rfl))

theorem State.slewFrame_frame (s : State) :
    Frame [.time] s (State.slewFrame s) := by
  unfold State.slewFrame
  have h0 : Frame [.time] s s := Frame.refl _ _
  extract_lets x1 x2
  exact (.ite h0 (.upd h0 rfl))

theorem State.stepAnnounce_frame (s : State) :
    Frame [.time, .pair] s (State.stepAnnounce s) := by
  unfold State.stepAnnounce
  exact (.ite (.after (State.announceStep_frame ..) (.refl _ _) rfl) (.refl _ _))

theorem State.stepPut_frame (s : State) :
    Frame [.time] s (State.stepPut s) := by
  unfold State.stepPut
  have h0 : Frame [.time] s s := Frame.refl _ _
  exact (.upd h0 rfl)

theorem State.stepTo_frame (s : State) (n : Nat) :
    Frame [.time, .site, .jnl, .acc, .frame, .session, .pages] s (State.stepTo s n) := by
  unfold State.stepTo
  have h0 : Frame [.time, .site, .jnl, .acc, .frame, .session, .pages] s s := Frame.refl _ _
  extract_lets x1 x2 x3 x4 x5 x6
  have hx1 : Frame _ _ x1 := (.after (State.ev_frame ..) h0 rfl)
  have hx6 : Frame _ _ x6 := (.upd hx1 rfl)
  exact (.ite (.after (State.endSession_frame ..) hx6 rfl) hx6)

theorem State.timeUnfollow_frame (s : State) :
    Frame [.time, .jnl] s (State.timeUnfollow s) := by
  unfold State.timeUnfollow
  have h0 : Frame [.time, .jnl] s s := Frame.refl _ _
  extract_lets x1 x2 x3 x4
  have hx3 : Frame _ _ x3 := (.upd h0 rfl)
  exact (.ite (.after (State.alignJudge_frame ..) (.ite (.upd hx3 rfl) (.ite (.after (State.enterHoldover_frame ..) hx3 rfl) (.upd hx3 rfl))) rfl) h0)

end Sys2Proof.Machine
end

