-- ==== Sys2Proof/Laws/FramePair.lean ====
section
/-! SUPPORT. What the operations of `Machine/Pair.lean` leave alone. -/

namespace Sys2Proof.Machine

theorem State.becomeLone_frame (s : State) (cause : Nat) :
    Frame [.link, .pair, .site, .jnl, .pairState, .ledger] s (State.becomeLone s cause) := by
  unfold State.becomeLone
  have h0 : Frame [.link, .pair, .site, .jnl, .pairState, .ledger] s s := Frame.refl _ _
  extract_lets x1 x2 x3
  have hx2 : Frame _ _ x2 := (.after (State.assign_frame ..) (.after (State.setPair_frame ..) h0 rfl) rfl)
  exact (.after (State.policyDeferred_frame ..) (.upd hx2 rfl) rfl)

theorem State.copyEvent_frame (s : State) (kind : Nat) :
    Frame [.jnl] s (State.copyEvent s kind) := by
  unfold State.copyEvent
  exact (.after (State.ev_frame ..) (.refl _ _) rfl)

theorem State.becomeStandby_frame (s : State) :
    Frame [.time, .pair, .site, .jnl, .pairState, .ledger] s (State.becomeStandby s) := by
  unfold State.becomeStandby
  have h0 : Frame [.time, .pair, .site, .jnl, .pairState, .ledger] s s := Frame.refl _ _
  extract_lets x1 x2
  have hx1 : Frame _ _ x1 := (.after (State.copyEvent_frame ..) (.after (State.setPair_frame ..) h0 rfl) rfl)
  exact (.after (State.timeFollow_frame ..) (.upd hx1 rfl) rfl)

theorem State.listSend_frame (s : State) :
    Frame [.pair] s (State.listSend s) := by
  unfold State.listSend
  have h0 : Frame [.pair] s s := Frame.refl _ _
  extract_lets x1 x2 x3
  have hx2 : Frame _ _ x2 := (.after (State.pairSend_frame ..) h0 rfl)
  exact (.ite h0 (.ite (.upd hx2 rfl) hx2))

theorem State.copySend_frame (s : State) :
    Frame [.pair] s (State.copySend s) := by
  unfold State.copySend
  have h0 : Frame [.pair] s s := Frame.refl _ _
  extract_lets x1 x2 x3 x4 x5 x6
  have hx4 : Frame _ _ x4 := (.foldl h0 fun _ _ h1 => (.after (State.pairSend_frame ..) h1 rfl))
  have hx5 : Frame _ _ x5 := (.after (State.pairSend_frame ..) hx4 rfl)
  exact (.ite (.upd hx5 rfl) h0)

theorem State.herdRestore_frame (s : State) :
    Frame [.herdTab, .herd, .jnl] s (State.herdRestore s) := by
  unfold State.herdRestore
  have h0 : Frame [.herdTab, .herd, .jnl] s s := Frame.refl _ _
  extract_lets x1 x2 x3 x4
  have hx3 : Frame _ _ x3 := (.foldl h0 fun _ _ h1 => (.after (State.ev_frame ..) h1 rfl))
  exact (.upd hx3 rfl)

theorem State.coldCells_frame (s : State) :
    Frame [.mode, .cells, .aux, .th, .herdTab, .est, .thm, .herd, .prot, .dsp, .pair, .jnl] s (State.coldCells s) := by
  unfold State.coldCells
  have h0 : Frame [.mode, .cells, .aux, .th, .herdTab, .est, .thm, .herd, .prot, .dsp, .pair, .jnl] s s := Frame.refl _ _
  extract_lets x1 x2 x3 x4 x5 x6 x7
  have hx6 : Frame _ _ x6 := (.upd h0 rfl)
  have hx7 : Frame _ _ x7 := (.after (State.herdRestore_frame ..) hx6 rfl)
  exact (.after (State.herdRecord_frame ..) (.foldl hx7 fun _ _ h3 => (.after (State.ev_frame ..) h3 rfl)) rfl)

theorem State.coldJudge_frame (s : State) :
    Frame [.pair] s (State.coldJudge s) := by
  unfold State.coldJudge
  have h0 : Frame [.pair] s s := Frame.refl _ _
  exact (.ite (.upd h0 rfl) h0)

theorem State.coldString_frame (s : State) (k : Nat) :
    Frame [.mode, .power, .prot, .jnl, .enabled] s (State.coldString s k) := by
  unfold State.coldString
  have h0 : Frame [.mode, .power, .prot, .jnl, .enabled] s s := Frame.refl _ _
  extract_lets x1 x2 x3 x4 x5 x6 x7 x8
  have hx4 : Frame _ _ x4 := (.after (State.modStr_frame ..) h0 rfl)
  have hx6 : Frame _ _ x6 := (.after (State.setStr_frame ..) hx4 rfl)
  have hx7 : Frame _ _ x7 := (.after (State.modPst_frame ..) (.after (State.modPp_frame ..) hx6 rfl) rfl)
  have hx8 : Frame _ _ x8 := (.ite (.after (State.setStr_frame ..) hx4 rfl) (.after (State.setStr_frame ..) hx4 rfl))
  exact (.ite (.after (State.recordOwn_frame ..) hx7 rfl) (.ite (.after (State.startOpening_frame ..) hx8 rfl) hx8))

theorem State.coldStart_frame (s : State) :
    Frame [.mode, .cells, .aux, .th, .herdTab, .est, .thm, .herd, .power, .prot, .dsp, .grz, .pair, .jnl, .enabled] s (State.coldStart s) := by
  unfold State.coldStart
  have h0 : Frame [.mode, .cells, .aux, .th, .herdTab, .est, .thm, .herd, .power, .prot, .dsp, .grz, .pair, .jnl, .enabled] s s := Frame.refl _ _
  extract_lets x1 x2 x3 x4 x5
  have hx1 : Frame _ _ x1 := (.after (State.coldCells_frame ..) h0 rfl)
  have hx2 : Frame _ _ x2 := (.foldl hx1 fun _ _ h2 => (.after (State.coldString_frame ..) h2 rfl))
  exact (.upd hx2 rfl)

theorem State.copyTake_frame (s : State) (c : CopyIn) :
    Frame [.meas, .cells, .aux, .th, .herdTab, .est, .thm, .herd, .dsp, .grz, .site] s (State.copyTake s c) := by
  unfold State.copyTake
  have h0 : Frame [.meas, .cells, .aux, .th, .herdTab, .est, .thm, .herd, .dsp, .grz, .site] s s := Frame.refl _ _
  exact (.upd h0 rfl)

theorem State.digestEqual_frame (s : State) :
    Frame [.time, .pair, .site, .jnl, .pairState, .ledger] s (State.digestEqual s) := by
  unfold State.digestEqual
  have h0 : Frame [.time, .pair, .site, .jnl, .pairState, .ledger] s s := Frame.refl _ _
  extract_lets x1 x2
  have hx2 : Frame _ _ x2 := (.upd h0 rfl)
  exact (.ite (.after (State.becomeStandby_frame ..) hx2 rfl) hx2)

theorem State.joinReset_frame (s : State) :
    Frame [.pair] s (State.joinReset s) := by
  unfold State.joinReset
  have h0 : Frame [.pair] s s := Frame.refl _ _
  exact (.upd h0 rfl)

theorem State.joinFail_frame (s : State) :
    Frame [.pair, .site, .jnl, .pairState, .ledger] s (State.joinFail s) := by
  unfold State.joinFail
  have h0 : Frame [.pair, .site, .jnl, .pairState, .ledger] s s := Frame.refl _ _
  extract_lets x1 x2 x3
  have hx3 : Frame _ _ x3 := (.after (State.copyEvent_frame ..) (.upd h0 rfl) rfl)
  exact (.ite (.after (State.setPair_frame ..) hx3 rfl) (.after (State.joinReset_frame ..) hx3 rfl))

theorem State.divergence_frame (s : State) (mask : Nat) (peer : List Word) :
    Frame [.jnl] s (State.divergence s mask peer) := by
  unfold State.divergence
  exact (.after (State.ev_frame ..) (.refl _ _) rfl)

theorem State.digestUnequal_frame (s : State) (mask : Nat) (peer : List Word) :
    Frame [.pair, .site, .jnl, .pairState, .ledger] s (State.digestUnequal s mask peer) := by
  unfold State.digestUnequal
  have h0 : Frame [.pair, .site, .jnl, .pairState, .ledger] s s := Frame.refl _ _
  extract_lets x1 x2 x3 x4
  have hx2 : Frame _ _ x2 := (.upd h0 rfl)
  have hx3 : Frame _ _ x3 := (.after (State.divergence_frame ..) hx2 rfl)
  exact (.ite (.ite (.upd hx3 rfl) hx3) (.ite (.after (State.joinFail_frame ..) hx2 rfl) hx2))

theorem State.epochStart_frame (s : State) (h : PairHb) :
    Frame [.pair, .jnl] s (State.epochStart s h) := by
  unfold State.epochStart
  have h0 : Frame [.pair, .jnl] s s := Frame.refl _ _
  extract_lets x1 x2 x3 x4
  have hx4 : Frame _ _ x4 := (.upd h0 rfl)
  exact (.after (State.pairSend_frame ..) (.after (State.copyEvent_frame ..) hx4 rfl) rfl)

theorem State.handoverChoose_frame (s : State) :
    Frame [.pair] s (State.handoverChoose s) := by
  unfold State.handoverChoose
  have h0 : Frame [.pair] s s := Frame.refl _ _
  extract_lets x1 x2
  split
  · exact (.ite (.after (State.pairSend_frame ..) (.upd h0 rfl) rfl) h0)
  · exact h0

theorem State.handoverEnd_frame (s : State) (h kind : Nat) (cmd : Word) :
    Frame [.pair, .site, .jnl, .free, .ledger] s (State.handoverEnd s h kind cmd) := by
  unfold State.handoverEnd
  have h0 : Frame [.pair, .site, .jnl, .free, .ledger] s s := Frame.refl _ _
  extract_lets x1 x2 x3 x4 x5 x6
  have hx2 : Frame [.pair, .site, .jnl, .free, .ledger] s x2.2 := by
    unfold x2
    split
    · exact .after (State.freeByte_frame s) h0 rfl
    · exact h0
  have hx3 : Frame _ _ x3 := (.after (State.ev_frame ..) hx2 rfl)
  have hx4 : Frame _ _ x4 := (.ite hx3 (.after (State.cmdDone_frame ..) hx3 rfl))
  exact (.upd hx4 rfl)

theorem State.joinRequest_frame (s : State) (h : PairHb) :
    Frame [.mode, .pair, .jnl] s (State.joinRequest s h) := by
  unfold State.joinRequest
  have h0 : Frame [.mode, .pair, .jnl] s s := Frame.refl _ _
  extract_lets x1 x2 x3
  have hx2 : Frame _ _ x2 := (.after (State.epochStart_frame ..) h0 rfl)
  exact (.ite (.ite (.upd h0 rfl) (.ite (.upd hx2 rfl) h0)) (.upd h0 rfl))

theorem State.lineJudge_frame (s : State) (bad : Bool) :
    Frame [.pair, .jnl] s (State.lineJudge s bad) := by
  unfold State.lineJudge
  have h0 : Frame [.pair, .jnl] s s := Frame.refl _ _
  extract_lets x1 x2
  have hx1 : Frame _ _ x1 := (.after (State.ev_frame ..) h0 rfl)
  exact (.ite h0 (.upd hx1 rfl))

theorem State.lossJudge_frame (s : State) (h : PairHb) :
    Frame [.mode, .power, .prot, .pair, .jnl, .psv, .enabled] s (State.lossJudge s h) := by
  unfold State.lossJudge
  have h0 : Frame [.mode, .power, .prot, .pair, .jnl, .psv, .enabled] s s := Frame.refl _ _
  extract_lets x1 x2 x3
  have hx1 : Frame _ _ x1 := (.after (State.modLoss_frame ..) h0 rfl)
  split
  · exact (.ite (.ite (.after (State.lossRuns_frame ..) h0 rfl) (.upd hx1 rfl)) h0)
  · exact h0

theorem State.twoSeen_frame (s : State) :
    Frame [.pair, .jnl] s (State.twoSeen s) := by
  unfold State.twoSeen
  have h0 : Frame [.pair, .jnl] s s := Frame.refl _ _
  extract_lets x1 x2
  have hx1 : Frame _ _ x1 := (.after (State.ev_frame ..) h0 rfl)
  exact (.ite h0 (.upd hx1 rfl))

theorem State.twoResolved_frame (s : State) :
    Frame [.pair, .jnl] s (State.twoResolved s) := by
  unfold State.twoResolved
  have h0 : Frame [.pair, .jnl] s s := Frame.refl _ _
  extract_lets x1 x2
  have hx1 : Frame _ _ x1 := (.after (State.ev_frame ..) h0 rfl)
  exact (.ite (.upd hx1 rfl) h0)

theorem State.meetActive_frame (s : State) :
    Frame [.mode, .power, .prot, .pair, .site, .jnl, .enabled, .pairState, .ledger] s (State.meetActive s) := by
  unfold State.meetActive
  exact (.ite (.refl _ _) (.ite (.after (State.twoResolved_frame ..) (.after (State.setPair_frame ..) (.after (State.twoSeen_frame ..) (.after (State.abortConnects_frame ..) (.refl _ _) rfl) rfl) rfl) rfl) (.after (State.twoSeen_frame ..) (.refl _ _) rfl)))

theorem State.pairFrame_frame (s : State) :
    Frame [.pair, .site, .jnl, .pairState, .ledger] s (State.pairFrame s) := by
  unfold State.pairFrame
  have h0 : Frame [.pair, .site, .jnl, .pairState, .ledger] s s := Frame.refl _ _
  extract_lets x1 x2
  have hx1 : Frame _ _ x1 := (.ite (.after (State.setPair_frame ..) h0 rfl) h0)
  exact (.after (State.coldJudge_frame ..) (.upd hx1 rfl) rfl)

theorem State.peerInStep_frame (s : State) (was : Option PairState) (h : PairHb) :
    Frame [.pair] s (State.peerInStep s was h) := by
  unfold State.peerInStep
  have h0 : Frame [.pair] s s := Frame.refl _ _
  exact (.ite (.upd h0 rfl) h0)

theorem State.peerTake_frame (s : State) (h : PairHb) :
    Frame [.time, .pair] s (State.peerTake s h) := by
  unfold State.peerTake
  have h0 : Frame [.time, .pair] s s := Frame.refl _ _
  exact (.upd h0 rfl)

theorem State.portTake_frame (s : State) (c : CopyIn) (k : Nat) :
    Frame [.power, .prot] s (State.portTake s c k) := by
  unfold State.portTake
  have h0 : Frame [.power, .prot] s s := Frame.refl _ _
  extract_lets x1 x2 x3 x4 x5
  exact (.after (State.modPst_frame ..) (.after (State.modPp_frame ..) h0 rfl) rfl)

theorem State.recordsTake_frame (s : State) (c : CopyIn) :
    Frame [.mode, .dsp, .site, .mem, .jnl, .enabled, .ledger] s (State.recordsTake s c) :=
  .updL (.refl _ _) rfl (.of_ledger rfl (fun _ => twf_tcanon _))

end Sys2Proof.Machine
end

