-- ==== Sys2Proof/Laws/FrameLoad.lean ====
section
/-! SUPPORT. What the operations of `Machine/Load.lean` leave alone. -/

namespace Sys2Proof.Machine

theorem State.bad16_frame (code : Nat) (s : State) :
    Frame [.jnl] s (State.bad16 code s) := by
  unfold State.bad16
  exact (.after (State.ev_frame ..) (.refl _ _) rfl)

theorem State.badType_frame (code : Nat) (type : Nat) (s : State) :
    Frame [.jnl] s (State.badType code type s) := by
  unfold State.badType
  exact (.after (State.ev_frame ..) (.refl _ _) rfl)

theorem State.evSelect_frame (s : State) (cause : Nat) :
    Frame [.jnl] s (State.evSelect s cause) := by
  unfold State.evSelect
  exact (.after (State.ev_frame ..) (.refl _ _) rfl)

theorem State.faultsBack_frame (s : State) :
    Frame [.cells, .th] s (State.faultsBack s) := by
  unfold State.faultsBack
  have h0 : Frame [.cells, .th] s s := Frame.refl _ _
  extract_lets x1
  have hx1 : Frame _ _ x1 := (.foldl h0 fun _ _ h1 => (.after (State.blkFlags_frame ..) (.after (State.wireFlags_frame ..) h1 rfl) rfl))
  exact (.foldl hx1 fun _ _ h2 => (.upd h2 rfl))

theorem State.pseqSet_frame (s : State) :
    Frame [.power] s (State.pseqSet s) := by
  unfold State.pseqSet
  have h0 : Frame [.power] s s := Frame.refl _ _
  exact (.ite h0 (.upd h0 rfl))

@[simp] theorem UpdSt.setBank_rollback (u : UpdSt) (k : Nat) (b : BankSt) (v : Word) :
    (u.setBank k b v).rollback = u.rollback := by
  unfold UpdSt.setBank
  split <;> rfl

@[simp] theorem UpdSt.wrote_rollback (u : UpdSt) : u.wrote.rollback = u.rollback := rfl

@[simp] theorem UpdSt.reject_rollback (u : UpdSt) (c : Nat) : (u.reject c).rollback = u.rollback := rfl

@[simp] theorem UpdSt.promote_rollback (u : UpdSt) (k c : Nat) : (u.promote k c).rollback = u.rollback := rfl

@[simp] theorem UpdSt.wroteN_rollback (u : UpdSt) (n : Nat) : (u.wroteN n).rollback = u.rollback := by
  unfold UpdSt.wroteN
  split <;> rfl

@[simp] theorem UpdSt.readRecord_rollback (u : UpdSt) (f : BootFind) : (u.readRecord f).rollback = u.rollback := by
  unfold UpdSt.readRecord
  split <;> rfl

@[simp] theorem UpdSt.fresh_rollback (u : UpdSt) (f : BootFind) : (u.fresh f).rollback = u.rollback := by
  unfold UpdSt.fresh
  split <;> rfl

@[simp] theorem UpdSt.copyVelvet_rollback (u : UpdSt) (f : BootFind) : (u.copyVelvet f).rollback = u.rollback := by
  unfold UpdSt.copyVelvet
  extract_lets t n u1 upTo bad
  clear_value bad
  have h (e : Nat) : (upTo e).rollback = u.rollback := UpdSt.wroteN_rollback _ _
  clear_value upTo
  split
  · simp [h]
  · exact (UpdSt.setBank_rollback ..).trans (h _)

/-- The hardened selection never lowers the rollback counter. -/
theorem UpdSt.bootHardened_rollback (u : UpdSt) (f : BootFind) : u.rollback ≤ (u.bootHardened f).rollback := by
  unfold UpdSt.bootHardened
  extract_lets u1 t
  have h : u.rollback ≤ u1.rollback := by
    show _ ≤ if _ then _ else _
    split
    · next h => exact Nat.le_of_lt h
    · exact Nat.le_refl _
  split
  · split <;> exact h
  · split
    · exact h
    · split <;> exact h

/-- The boot ROM never lowers the rollback counter. -/
theorem UpdSt.boot_rollback (u0 : UpdSt) (f : BootFind) : u0.rollback ≤ (u0.boot f).rollback := by
  unfold UpdSt.boot
  extract_lets src u u1 t u2
  have h : u1.rollback = u0.rollback := by
    show (if _ then _ else _ : UpdSt).rollback = _
    have hs : src.rollback = u0.rollback := by simp [src]
    split <;> simp [u, hs]
  refine h ▸ ?_
  split
  · split
    · exact UpdSt.bootHardened_rollback (u1.reject 0x01) f
    · split
      · exact Nat.le_refl _
      · exact UpdSt.bootHardened_rollback (u2.reject 0x03) f
  · exact UpdSt.bootHardened_rollback u1 f

theorem State.fillDone_frame (s : State) (f : BootFind) :
    Frame [.mode, .power, .grz, .upd, .modeNow, .banks, .rollback] s (State.fillDone s f) := by
  unfold State.fillDone
  have h0 : Frame [.mode, .power, .grz, .upd, .modeNow, .banks, .rollback] s s := Frame.refl _ _
  extract_lets x1 x2
  have hx1 : Frame _ _ x1 := (.after (State.junctionFill_frame ..) (.after (State.pseqSet_frame ..) h0 rfl) rfl)
  refine .updL hx1 rfl ⟨id, id, fun _ => Nat.le_refl _, ?_, OtpGrows.refl _⟩
  show _ ≤ UpdSt.rollback (if _ then _ else _)
  split
  · exact UpdSt.boot_rollback _ _
  · exact Nat.le_refl _

theorem State.fillFailed_frame (s : State) :
    Frame [.mode, .link, .power, .prot, .pair, .site, .tw, .upd, .jnl, .modeNow, .enabled, .safeOuts, .pairState, .ledger, .safeLatch] s (State.fillFailed s) := by
  unfold State.fillFailed
  have h0 : Frame [.mode, .link, .power, .prot, .pair, .site, .tw, .upd, .jnl, .modeNow, .enabled, .safeOuts, .pairState, .ledger, .safeLatch] s s := Frame.refl _ _
  extract_lets x1 x2
  have hx1 : Frame _ _ x1 := (.foldl (.after (State.enterSafe_frame ..) h0 rfl) fun _ _ h1 => (.after (State.startOpening_frame ..) (.after (State.modPst_frame ..) h1 rfl) rfl))
  clear_value x1
  exact (.upd hx1 rfl)

theorem State.ilkAtLoad_frame (s : State) (i : Nat) :
    Frame [.mode, .power, .prot, .pair, .site, .tw, .jnl, .enabled, .ledger] s (State.ilkAtLoad s i) := by
  unfold State.ilkAtLoad
  have h0 : Frame [.mode, .power, .prot, .pair, .site, .tw, .jnl, .enabled, .ledger] s s := Frame.refl _ _
  extract_lets x1 x2
  split
  · exact (.ite (.after (State.tripModule_frame ..) (.upd h0 rfl) rfl) (.upd h0 rfl))
  · exact h0

theorem State.handoff_frame (s : State) :
    Frame [.mode, .power, .prot, .pair, .site, .tw, .jnl, .enabled, .ledger] s (State.handoff s) := by
  unfold State.handoff
  have h0 : Frame [.mode, .power, .prot, .pair, .site, .tw, .jnl, .enabled, .ledger] s s := Frame.refl _ _
  extract_lets x1 x2 x3 x4 x5 x6
  have hx4 : Frame _ _ x4 := (.upd h0 rfl)
  have hx5 : Frame _ _ x5 := (.ite (.foldl hx4 fun _ _ h2 => (.after (State.ilkAtLoad_frame ..) h2 rfl)) hx4)
  exact (.upd hx5 rfl)

theorem State.hold_frame (s : State) :
    Frame [.mode, .jnl] s (State.hold s) := by
  unfold State.hold
  have h0 : Frame [.mode, .jnl] s s := Frame.refl _ _
  extract_lets x1 x2
  have hx1 : Frame _ _ x1 := (.after (State.evSelect_frame ..) h0 rfl)
  exact (.upd hx1 rfl)

theorem State.requiredEvents_frame (s : State) (cred : Verdict) (l : List CfgRec) :
    Frame [.jnl] s (State.requiredEvents s cred l) := by
  unfold State.requiredEvents
  have h0 : Frame [.jnl] s s := Frame.refl _ _
  extract_lets x1 x2 x3
  have hx1 : ∀ a4, Frame [.jnl] s a4 → ∀ a5, Frame [.jnl] s (x1 a4 a5) := by
    intro a4 ha4 a5
    unfold x1
    split
    · exact (.after (State.evIf_frame ..) ha4 rfl)
    · exact ha4
  have hx2 : Frame _ _ x2 := (.foldl h0 fun _ _ h1 => (hx1 _ h1 _))
  have hx3 : Frame [.jnl] s x3 := by
    unfold x3
    split
    · refine .ite ?_ ?_
      · split
        · exact (.after (State.ev_frame ..) hx2 rfl)
        · exact hx2
      · exact hx2
    · exact hx2
  split
  · exact (.after (State.evIf_frame ..) hx3 rfl)
  · exact (.after (State.ev_frame ..) hx3 rfl)
  · exact hx3

theorem State.judgeSlots_frame (s : State) (x : LoadIn) : Frame [.cfg, .jnl] s (State.judgeSlots s x) := by
  unfold State.judgeSlots
  have h0 : Frame [.cfg, .jnl] s s := Frame.refl _ _
  extract_lets x1 x2 x3 x4 x5 x6 x7 x8 x9 x10 x11 x12 x13
  have hx5 : Frame _ _ x5 := h0.getD_map fun l => .after (State.requiredEvents_frame ..) h0 rfl
  have hx6 : Frame _ _ x6 := hx5.getD_map fun l => .after (State.requiredEvents_frame ..) hx5 rfl
  have hx9 : Frame _ _ x9 := (.upd hx6 rfl)
  exact (.upd hx9 rfl)

theorem State.updEvents_frame (s : State) :
    Frame [.upd, .jnl, .banks, .rollback] s (State.updEvents s) := by
  unfold State.updEvents
  have h0 : Frame [.upd, .jnl, .banks, .rollback] s s := Frame.refl _ _
  extract_lets x1 x2 x3 x4 x5 x6 x7
  have e3 : Frame [.jnl] s x3 := State.ev_frame ..
  have r3 : x3.upd.rollback ≤ s.upd.rollback := Nat.le_of_eq (by rw [e3.upd_eq (by decide)])
  have hx3 : Frame _ _ x3 := (.after (State.ev_frame ..) h0 rfl)
  have hx4 : Frame _ _ x4 := (.ite (.updL hx3 rfl
    ⟨id, id, fun _ => Nat.le_refl _, r3, OtpGrows.refl _⟩) h0)
  have e5 : Frame [.jnl] x4 x5 := State.ev_frame ..
  have r5 : x5.upd.rollback ≤ x4.upd.rollback := Nat.le_of_eq (by rw [e5.upd_eq (by decide)])
  have hx5 : Frame _ _ x5 := (.after (State.ev_frame ..) hx4 rfl)
  have hx7 : Frame _ _ x7 := (.ite (.updL hx5 rfl
    ⟨id, id, fun _ => Nat.le_refl _, r5, OtpGrows.refl _⟩) hx4)
  exact (.after (State.evIf_frame ..) hx7 rfl)

theorem State.loopsBuild_frame (s : State) :
    Frame [.power] s (State.loopsBuild s) := by
  unfold State.loopsBuild
  have h0 : Frame [.power] s s := Frame.refl _ _
  extract_lets x1 x2
  exact (.upd h0 rfl)

theorem State.loadEnd_frame (s : State) :
    Frame [.sys, .mode, .herdTab, .herd, .power, .prot, .pair, .site, .bus, .tw, .upd, .jnl, .acc, .psv, .enabled, .ledger, .banks, .rollback] s (State.loadEnd s) := by
  unfold State.loadEnd
  have h0 : Frame [.sys, .mode, .herdTab, .herd, .power, .prot, .pair, .site, .bus, .tw, .upd, .jnl, .acc, .psv, .enabled, .ledger, .banks, .rollback] s s := Frame.refl _ _
  extract_lets x1 x2 x3 x4 x5 x6 x7 x8 x9
  have hx1 : Frame _ _ x1 := (.after (State.herdRestore_frame ..) (.after (State.handoff_frame ..) (.after (State.loopsBuild_frame ..) (.after (State.ledgerAtLoad_frame ..) h0 rfl) rfl) rfl) rfl)
  have hx6 : Frame _ _ x6 := .updL hx1 rfl ⟨id, id, fun _ => Nat.le_refl _, (by show _ ≤ UpdSt.rollback (if _ then _ else _); split <;> exact Nat.le_refl _), ⟨fun _ h => ⟨h, rfl⟩, fun _ h => h, List.prefix_refl _⟩⟩
  have hx7 : Frame _ _ x7 := (.after (State.ev_frame ..) hx6 rfl)
  have hx8 : Frame _ _ x8 := (.after (State.evIf_frame ..) hx7 rfl)
  have hx9 : Frame _ _ x9 := (.ite (.after (State.lossEvent_frame ..) hx8 rfl) hx8)
  exact (.after (State.canStart_frame ..) (.after (State.canStart_frame ..) (.after (State.updEvents_frame ..) hx9 rfl) rfl) rfl)

theorem State.recEvents_frame (s : State) (r : CfgRec) :
    Frame [.jnl] s (State.recEvents s r) := by
  unfold State.recEvents
  have h0 : Frame [.jnl] s s := Frame.refl _ _
  extract_lets x1 x2 x3
  have hx1 : ∀ a4, Frame [.jnl] s a4 → ∀ a5, Frame [.jnl] s (x1 a4 a5) := by
    intro a4 ha4 a5
    unfold x1
    exact (.after (State.ev_frame ..) ha4 rfl)
  have hx2 : Frame _ _ x2 := (.ite h0 (hx1 _ h0 _))
  have hx3 : Frame _ _ x3 := (.ite (hx1 _ hx2 _) hx2)
  exact (.ite (hx1 _ h0 _) (.ite (hx1 _ hx3 _) hx3))

theorem State.replacedBit_frame (s : State) (i : Nat) :
    Frame [.cfgReplaced] s (State.replacedBit s i) := by
  unfold State.replacedBit
  exact (.upd (.refl _ _) rfl)

theorem State.takeRec_frame {α : Type} {W : List View} {s u : State} {l : List CfgRec} {type : Nat}
    {parse : Bytes → Option α} {put : State → α → State} {invalid : State → State} (h : Frame W s u)
    (hp : ∀ x v, Frame W s x → Frame W s (put x v)) (hi : ∀ x, Frame W s x → Frame W s (invalid x)) :
    Frame W s (u.takeRec l type parse put invalid) := by
  unfold State.takeRec
  split
  · exact h
  · exact hp _ _ h
  · exact hi _ h

theorem State.takeBase_frame (s : State) (l : List CfgRec) :
    Frame [.sys, .time, .cfgReplaced, .cells, .jnl, .policies] s (State.takeBase s l) := by
  unfold State.takeBase
  have h0 : Frame [.sys, .time, .cfgReplaced, .cells, .jnl, .policies] s s := Frame.refl _ _
  extract_lets x1 x2 x3
  have hx1 : Frame _ _ x1 := (State.takeRec_frame h0 (fun _ _ g4 => (.upd g4 rfl)) (fun _  g5 => g5))
  have hx2 : Frame _ _ x2 := (State.takeRec_frame hx1 (fun _ _ g6 => (.upd g6 rfl)) (fun _  g7 => g7))
  have hx3 : Frame _ _ x3 := (State.takeRec_frame hx2 (fun _ _ g8 => (.upd g8 rfl)) (fun _  g9 => (.after (State.replacedBit_frame ..) (.after (State.ev_frame ..) g9 rfl) rfl)))
  exact (.upd hx3 rfl)

theorem State.takeProt_frame (s : State) (l : List CfgRec) :
    Frame [.prot, .jnl, .policies] s (State.takeProt s l) := by
  unfold State.takeProt
  have h0 : Frame [.prot, .jnl, .policies] s s := Frame.refl _ _
  extract_lets x1 x2 x3 x4 x5 x6
  have hx3 : Frame [.prot, .jnl, .policies] s x3 := by
    unfold x3
    split
    · exact (.upd h0 rfl)
    · exact (.after (State.ev_frame ..) (.upd h0 rfl) rfl)
  have hx4 : ∀ a7, ∀ a8, Frame [.prot, .jnl, .policies] s a8 → Frame [.prot, .jnl, .policies] s (x4 a7 a8) := by
    intro a7 a8 ha8
    unfold x4
    extract_lets x9 x10 x11
    have hx9 : Frame _ _ x9 := (.after (State.badType_frame ..) ha8 rfl)
    exact (.upd hx9 rfl)
  have hx5 : Frame _ _ x5 := (State.takeRec_frame hx3 (fun _ _ g12 => (.upd g12 rfl)) (fun _  g13 => (hx4 _ _ g13)))
  have hx6 : Frame _ _ x6 := (State.takeRec_frame hx5 (fun _ _ g14 => (.upd g14 rfl)) (fun _  g15 => (hx4 _ _ g15)))
  exact (State.takeRec_frame hx6 (fun _ _ g16 => (.upd g16 rfl)) (fun _  g17 => (hx4 _ _ g17)))

theorem State.takeCell_frame (s : State) (l : List CfgRec) :
    Frame [.mode, .linkCfg, .cfeCfg, .cfgReplaced, .meas, .jnl, .policies] s (State.takeCell s l) := by
  unfold State.takeCell
  have h0 : Frame [.mode, .linkCfg, .cfeCfg, .cfgReplaced, .meas, .jnl, .policies] s s := Frame.refl _ _
  extract_lets x1 x2 x3 x4 x5
  have hx1 : Frame _ _ x1 := (State.takeRec_frame h0 (fun _ _ g6 => (.upd g6 rfl)) (fun _  g7 => (.after (State.replacedBit_frame ..) (.upd g7 rfl) rfl)))
  have hx2 : Frame _ _ x2 := (State.takeRec_frame hx1 (fun _ _ g8 => (.upd g8 rfl)) (fun _  g9 => (.after (State.replacedBit_frame ..) (.after (State.ev_frame ..) g9 rfl) rfl)))
  have hx3 : Frame _ _ x3 := (.upd hx2 rfl)
  have hx4 : Frame _ _ x4 := (State.takeRec_frame hx3 (fun _ _ g10 => (.upd g10 rfl)) (fun _  g11 => (.after (State.replacedBit_frame ..) (.after (State.ev_frame ..) g11 rfl) rfl)))
  exact (State.takeRec_frame (.upd hx4 rfl) (fun _ _ g12 => (.upd g12 rfl)) (fun _  g13 => (.after (State.replacedBit_frame ..) (.after (State.bad16_frame ..) g13 rfl) rfl)))

theorem State.takeModel_frame (s : State) (l : List CfgRec) :
    Frame [.est, .thm, .herd, .jnl, .policies] s (State.takeModel s l) := by
  unfold State.takeModel
  have h0 : Frame [.est, .thm, .herd, .jnl, .policies] s s := Frame.refl _ _
  extract_lets x1 x2 x3 x4 x5 x6 x7 x8
  have hx3 : Frame [.est, .thm, .herd, .jnl, .policies] s x3 := by
    unfold x3
    split
    · exact (.upd h0 rfl)
    · exact (.after (State.ev_frame ..) h0 rfl)
  have hx4 : Frame _ _ x4 := (State.takeRec_frame hx3 (fun _ _ g9 => (.upd g9 rfl)) (fun _  g10 => by
        extract_lets x11 x12
        have hx11 : Frame _ _ x11 := (.after (State.badType_frame ..) g10 rfl)
        exact (.upd hx11 rfl)))
  have hx5 : ∀ a13, ∀ a14, Frame [.est, .thm, .herd, .jnl, .policies] s a14 → Frame [.est, .thm, .herd, .jnl, .policies] s (x5 a13 a14) := by
    intro a13 a14 ha14
    unfold x5
    extract_lets x15 x16 x17
    have hx15 : Frame _ _ x15 := (.after (State.badType_frame ..) ha14 rfl)
    exact (.upd hx15 rfl)
  have hx6 : Frame _ _ x6 := (State.takeRec_frame hx4 (fun _ _ g18 => (.upd g18 rfl)) (fun _  g19 => (hx5 _ _ g19)))
  have hx7 : Frame _ _ x7 := (State.takeRec_frame hx6 (fun _ _ g20 => (.upd g20 rfl)) (fun _  g21 => (hx5 _ _ g21)))
  have hx8 : Frame _ _ x8 := (State.takeRec_frame hx7 (fun _ _ g22 => (.upd g22 rfl)) (fun _  g23 => (hx5 _ _ g23)))
  exact (State.takeRec_frame hx8 (fun _ _ g24 => (.upd g24 rfl)) (fun _  g25 => by
        extract_lets x26 x27 x28
        have hx26 : Frame _ _ x26 := (.after (State.bad16_frame ..) g25 rfl)
        exact (.upd hx26 rfl)))

theorem State.takePower_frame (s : State) (l : List CfgRec) :
    Frame [.power, .jnl, .policies] s (State.takePower s l) := by
  unfold State.takePower
  have h0 : Frame [.power, .jnl, .policies] s s := Frame.refl _ _
  extract_lets x1 x2 x3 x4 x5 x6
  have hx1 : ∀ a7, ∀ a8, Frame [.power, .jnl, .policies] s a8 → Frame [.power, .jnl, .policies] s (x1 a7 a8) := by
    intro a7 a8 ha8
    unfold x1
    extract_lets x9 x10 x11
    have hx9 : Frame _ _ x9 := (.after (State.badType_frame ..) ha8 rfl)
    exact (.upd hx9 rfl)
  have hx3 : Frame _ _ x3 := (.upd h0 rfl)
  have hx4 : Frame _ _ x4 := (State.takeRec_frame hx3 (fun _ _ g12 => (.upd g12 rfl)) (fun _  g13 => (hx1 _ _ g13)))
  have hx5 : Frame _ _ x5 := (State.takeRec_frame hx4 (fun _ _ g14 => (.upd g14 rfl)) (fun _  g15 => (hx1 _ _ g15)))
  have hx6 : ∀ a16, Frame [.power, .jnl, .policies] s a16 → ∀ a17, Frame [.power, .jnl, .policies] s (x6 a16 a17) := by
    intro a16 ha16 a17
    unfold x6
    exact (.upd ha16 rfl)
  split
  · exact (hx6 _ hx5 _)
  · exact (hx6 _ (hx1 _ _ hx5) _)
  · exact (hx6 _ hx5 _)

theorem State.takeDispatch_frame (s : State) (l : List CfgRec) :
    Frame [.dsp, .grz, .pair, .jnl, .policies] s (State.takeDispatch s l) := by
  unfold State.takeDispatch
  have h0 : Frame [.dsp, .grz, .pair, .jnl, .policies] s s := Frame.refl _ _
  extract_lets x1 x2 x3 x4 x5 x6
  have hx1 : ∀ a7, ∀ a8, Frame [.dsp, .grz, .pair, .jnl, .policies] s a8 → Frame [.dsp, .grz, .pair, .jnl, .policies] s (x1 a7 a8) := by
    intro a7 a8 ha8
    unfold x1
    extract_lets x9 x10 x11
    have hx9 : Frame _ _ x9 := (.after (State.badType_frame ..) ha8 rfl)
    exact (.upd hx9 rfl)
  have hx2 : Frame _ _ x2 := (State.takeRec_frame h0 (fun _ _ g12 => (.upd g12 rfl)) (fun _  g13 => (hx1 _ _ g13)))
  have hx3 : Frame _ _ x3 := (State.takeRec_frame hx2 (fun _ _ g14 => (.upd g14 rfl)) (fun _  g15 => (hx1 _ _ g15)))
  have hx5 : Frame _ _ x5 := (.upd hx3 rfl)
  have hx6 : Frame _ _ x6 := (State.takeRec_frame hx5 (fun _ _ g16 => (.upd g16 rfl)) (fun _  g17 => by
        extract_lets x18 x19 x20
        have hx18 : Frame _ _ x18 := (.after (State.bad16_frame ..) g17 rfl)
        exact (.upd hx18 rfl)))
  exact (State.takeRec_frame hx6 (fun _ _ g21 => (.upd g21 rfl)) (fun _  g22 => by
        extract_lets x23 x24 x25
        have hx23 : Frame _ _ x23 := (.after (State.bad16_frame ..) g22 rfl)
        exact (.upd hx23 rfl)))

theorem State.takeOuter_frame (s : State) (l : List CfgRec) :
    Frame [.site, .bus, .tw, .jnl, .policies] s (State.takeOuter s l) := by
  unfold State.takeOuter
  have h0 : Frame [.site, .bus, .tw, .jnl, .policies] s s := Frame.refl _ _
  extract_lets x1 x2 x3 x4 x5 x6 x7
  have hx1 : Frame _ _ x1 := (State.takeRec_frame h0 (fun _ _ g8 => (.upd g8 rfl)) (fun _  g9 => by
        extract_lets x10 x11
        have hx10 : Frame _ _ x10 := (.after (State.badType_frame ..) g9 rfl)
        exact (.upd hx10 rfl)))
  have hx2 : Frame _ _ x2 := (State.takeRec_frame hx1 (fun _ _ g12 => (.upd g12 rfl)) (fun _  g13 => by
        extract_lets x14 x15
        have hx14 : Frame _ _ x14 := (.after (State.badType_frame ..) g13 rfl)
        exact (.upd hx14 rfl)))
  have hx3 : Frame _ _ x3 := (State.takeRec_frame hx2 (fun _ _ g16 => (.upd g16 rfl)) (fun _  g17 => by
        extract_lets x18 x19 x20
        have hx18 : Frame _ _ x18 := (.after (State.bad16_frame ..) g17 rfl)
        exact (.upd hx18 rfl)))
  have hx4 : Frame _ _ x4 := (State.takeRec_frame hx3 (fun _ _ g21 => (.upd g21 rfl)) (fun _  g22 => by
        extract_lets x23 x24 x25
        have hx23 : Frame _ _ x23 := (.after (State.bad16_frame ..) g22 rfl)
        exact (.upd hx23 rfl)))
  exact (.upd hx4 rfl)

theorem State.takeStore_frame (s : State) (l : List CfgRec) :
    Frame [.upd, .mem, .jnl, .acc, .psv] s (State.takeStore s l) := by
  unfold State.takeStore
  have h0 : Frame [.upd, .mem, .jnl, .acc, .psv] s s := Frame.refl _ _
  extract_lets x1 x2 x3 x4
  have hx1 : Frame _ _ x1 := (State.takeRec_frame h0 (fun _ _ g5 => (.upd g5 rfl)) (fun _  g6 => by
        extract_lets x7 x8
        have hx7 : Frame _ _ x7 := (.after (State.bad16_frame ..) g6 rfl)
        exact (.upd hx7 rfl)))
  have hx2 : Frame _ _ x2 := (State.takeRec_frame hx1 (fun _ _ g9 => (.upd g9 rfl)) (fun _  g10 => by
        extract_lets x11 x12
        have hx11 : Frame _ _ x11 := (.after (State.bad16_frame ..) g10 rfl)
        exact (.upd hx11 rfl)))
  have hx3 : Frame _ _ x3 := (State.takeRec_frame hx2 (fun _ _ g13 => (.upd g13 rfl)) (fun _  g14 => g14))
  have hx4 : Frame _ _ x4 := (State.takeRec_frame hx3 (fun _ _ g15 => (.upd g15 rfl)) (fun _  g16 => by
        extract_lets x17 x18
        have hx17 : Frame _ _ x17 := (.after (State.badType_frame ..) g16 rfl)
        exact (.upd hx17 rfl)))
  exact (State.takeRec_frame hx4 (fun _ _ g19 => (.upd g19 rfl)) (fun _  g20 => by
        extract_lets x21 x22
        have hx21 : Frame _ _ x21 := (.after (State.bad16_frame ..) g20 rfl)
        exact (.upd hx21 rfl)))

theorem State.takeRecords_frame (s : State) (l : List CfgRec) :
    Frame [.sys, .time, .mode, .linkCfg, .cfeCfg, .cfgReplaced, .meas, .cells, .est, .thm, .herd, .power, .prot, .dsp, .grz, .pair, .site, .bus, .tw, .upd, .mem, .jnl, .acc, .psv, .policies] s (State.takeRecords s l) := by
  unfold State.takeRecords
  exact (.after (State.takeStore_frame ..) (.after (State.takeOuter_frame ..) (.after (State.takeDispatch_frame ..) (.after (State.takePower_frame ..) (.after (State.takeModel_frame ..) (.after (State.takeCell_frame ..) (.after (State.takeProt_frame ..) (.after (State.takeBase_frame ..) (.foldl (.refl _ _) fun _ _ h1 => (.after (State.recEvents_frame ..) h1 rfl)) rfl) rfl) rfl) rfl) rfl) rfl) rfl) rfl)

theorem State.replay_frame (s : State) (bad : Bool) (e : PatchEntry) :
    Frame [.thm, .power, .cfg, .jnl, .policies] s (State.replay s bad e) := by
  unfold State.replay
  have h0 : Frame [.thm, .power, .cfg, .jnl, .policies] s s := Frame.refl _ _
  extract_lets x1
  exact (.ite (.after (State.ev_frame ..) h0 rfl) (.ite (.after (State.applyItem_frame ..) h0 rfl) (.after (State.ev_frame ..) h0 rfl)))

theorem State.patchReplay_frame (s : State) (bad : List Nat) :
    Frame [.thm, .power, .cfg, .jnl, .policies] s (State.patchReplay s bad) := by
  unfold State.patchReplay
  have h0 : Frame [.thm, .power, .cfg, .jnl, .policies] s s := Frame.refl _ _
  split
  · exact h0
  · extract_lets x1
    exact (.ite (.foldl h0 fun _ _ h1 => (.after (State.replay_frame ..) h1 rfl)) (.after (State.ev_frame ..) h0 rfl))

theorem State.loadImage_frame (s : State) (k : Nat) (bad : List Nat) :
    Frame [.sys, .time, .mode, .linkCfg, .cfeCfg, .cfgReplaced, .meas, .cells, .est, .thm, .herd, .power, .prot, .dsp, .grz, .pair, .site, .bus, .tw, .cfg, .upd, .mem, .jnl, .acc, .psv, .policies] s (State.loadImage s k bad) := by
  unfold State.loadImage
  have h0 : Frame [.sys, .time, .mode, .linkCfg, .cfeCfg, .cfgReplaced, .meas, .cells, .est, .thm, .herd, .power, .prot, .dsp, .grz, .pair, .site, .bus, .tw, .cfg, .upd, .mem, .jnl, .acc, .psv, .policies] s s := Frame.refl _ _
  extract_lets x1 x2 x3 x4 x5 x6 x7
  have hx5 : Frame _ _ x5 := (.upd h0 rfl)
  have hx6 : Frame _ _ x6 := (.after (State.patchReplay_frame ..) (.after (State.takeRecords_frame ..) hx5 rfl) rfl)
  exact (.after (State.evSelect_frame ..) (.upd hx6 rfl) rfl)

theorem State.loadSafe_frame (s : State) :
    Frame [.mode, .prot, .pair, .site, .tw, .jnl, .modeNow, .safeOuts, .pairState, .ledger] s (State.loadSafe s) := by
  unfold State.loadSafe
  have h0 : Frame [.mode, .prot, .pair, .site, .tw, .jnl, .modeNow, .safeOuts, .pairState, .ledger] s s := Frame.refl _ _
  extract_lets x1 x2 x3
  have hx1 : Frame _ _ x1 := (.after (State.setMode_frame ..) (.after (State.freezeEnd_frame ..) h0 rfl) rfl)
  exact (.after (State.setPair_frame ..) (.upd hx1 rfl) rfl)

theorem State.migrate_frame (s : State) :
    Frame [.site, .ledgerOther, .upd, .jnl, .ledger, .banks, .rollback, .wearRecs] s (State.migrate s) := by
  unfold State.migrate
  have h0 : Frame [.site, .ledgerOther, .upd, .jnl, .ledger, .banks, .rollback, .wearRecs] s s := Frame.refl _ _
  extract_lets x1 x2 x3 x4 x5 x6 x7 x8 x9 x10
  have hx3 : Frame _ _ x3 := (.after (State.useSet_frame ..) h0 rfl)
  have hx5 : Frame _ _ x5 := (.after (State.useSet_frame ..) h0 rfl)
  exact (.ite (.after (State.useSet_frame ..) h0 rfl) (.ite (.after (State.useSet_frame ..) h0 rfl) (.ite (.upd hx3 rfl) (.after (State.useSet_frame ..) (.updL hx5 rfl (.of_tables rfl fun h => ⟨h.1, h.1, h.2.2⟩)) rfl))))

theorem State.rejectTrial_frame (s : State) :
    Frame (View.banks :: View.rollback :: restartViews) s (State.rejectTrial s) := by
  unfold State.rejectTrial
  exact (.after (State.restart_frame ..) (.upd (.refl _ _) rfl) rfl)

theorem State.surveyBegin_frame (s : State) :
    Frame [.mode, .link, .cfe, .meas, .cells, .th, .pair, .site, .tw, .jnl, .modeNow, .pairState, .ledger] s (State.surveyBegin s) := by
  unfold State.surveyBegin
  have h0 : Frame [.mode, .link, .cfe, .meas, .cells, .th, .pair, .site, .tw, .jnl, .modeNow, .pairState, .ledger] s s := Frame.refl _ _
  extract_lets x1 x2 x3 x4 x5 x6 x7
  have hx2 : Frame _ _ x2 := (.after (State.setMode_frame ..) h0 rfl)
  have hx3 : Frame _ _ x3 := (.after (State.setPair_frame ..) hx2 rfl)
  have hx4 : Frame _ _ x4 := (.ite (.after (State.becomeLone_frame ..) hx2 rfl) (.ite (.after (State.setPair_frame ..) hx3 rfl) hx3))
  have hx5 : Frame _ _ x5 := (.after (State.faultsBack_frame ..) hx4 rfl)
  exact (.foldl (.upd hx5 rfl) fun _ _ h5 => (.after (State.surveyStart_frame ..) h5 rfl))

end Sys2Proof.Machine
end

