-- ==== Sys2Proof/Laws/FrameHealth.lean ====
section
/-! SUPPORT. What the operations of `Machine/Health.lean` leave alone. -/

namespace Sys2Proof.Machine

theorem State.healthTake_frame (s : State) (n : Nat) :
    Frame [.sys, .jnl] s (State.healthTake s n) := by
  unfold State.healthTake
  have h0 : Frame [.sys, .jnl] s s := Frame.refl _ _
  extract_lets x1 x2 x3 x4 x5 x6
  have hx5 : Frame _ _ x5 := (.after (State.ev_frame ..) h0 rfl)
  exact (.ite h0 (.upd hx5 rfl))

theorem State.health_frame (s : State) :
    Frame [.sys, .jnl] s (State.health s) := by
  unfold State.health
  exact (.foldl (.refl _ _) fun _ _ h1 => (.after (State.healthTake_frame ..) h1 rfl))

end Sys2Proof.Machine
end

