-- ==== Sys2Proof/Laws/FrameEnvRows.lean ====
section
/-! SUPPORT. What the operations of `Machine/EnvRows.lean` leave alone. -/

namespace Sys2Proof.Machine

theorem State.canUnqueue_frame (s : State) (o : Nat) (body : Bytes) :
    Frame [.pair, .bus] s (State.canUnqueue s o body) := by
  unfold State.canUnqueue
  have h0 : Frame [.pair, .bus] s s := Frame.refl _ _
  extract_lets x1 x2 x3
  have hx1 : ∀ a4, Frame [.pair, .bus] s a4 → ∀ a5, Frame [.pair, .bus] s (x1 a4 a5) := by
    intro a4 ha4 a5
    unfold x1
    exact (.after (State.modCtl_frame ..) ha4 rfl)
  have hx2 : Frame _ _ x2 := (hx1 _ (hx1 _ h0 _) _)
  exact (.upd hx2 rfl)

theorem State.outputsQueue_frame (s : State) :
    Frame [.dsp, .pair, .site, .bus] s (State.outputsQueue s) := by
  unfold State.outputsQueue
  exact (.after (State.statusPush_frame ..) (.after (State.queueState_frame ..) (.after (State.queueLimits_frame ..) (.refl _ _) rfl) rfl) rfl)

theorem State.recordUnion_frame (s : State) :
    Frame [.mode, .power, .prot, .jnl, .enabled] s (State.recordUnion s) := by
  unfold State.recordUnion
  have h0 : Frame [.mode, .power, .prot, .jnl, .enabled] s s := Frame.refl _ _
  refine .ite ?_ ?_
  · refine .foldl h0 fun _ _ h1 => ?_
    extract_lets x2 x3 x4 x5
    exact (.after (State.recordProt_frame ..) h1 rfl)
  · exact h0

theorem State.envelopeLate_frame (s : State) :
    Frame [.time, .mode, .power, .prot, .dsp, .grz, .pair, .site, .bus, .jnl, .enabled] s (State.envelopeLate s) := by
  unfold State.envelopeLate
  have h0 : Frame [.time, .mode, .power, .prot, .dsp, .grz, .pair, .site, .bus, .jnl, .enabled] s s := Frame.refl _ _
  extract_lets x1 x2 x3 x4 x5
  have hx1 : Frame _ _ x1 := (.after (State.overrun_frame ..) (.after (State.recordUnion_frame ..) h0 rfl) rfl)
  have hx4 : Frame _ _ x4 := (.upd hx1 rfl)
  have hx5 : Frame _ _ x5 := (.ite (.after (State.zeroLimits_frame ..) hx4 rfl) hx4)
  exact (.after (State.outputsQueue_frame ..) hx5 rfl)

end Sys2Proof.Machine
end

