-- ==== Sys2Proof/Laws/FrameFe.lean ====
section
/-! SUPPORT. What the operations of `Machine/Fe.lean` leave alone. -/

namespace Sys2Proof.Machine

theorem State.feReceive_frame (s : State) (p : Nat) (x : Slot) (type : Nat) (h : LinkHead) (payload : Bytes) (act : FeSt → FeSt) :
    Frame [.fe] s (State.feReceive s p x type h payload act) := by
  unfold State.feReceive
  exact (.after (State.modFee_frame ..) (.refl _ _) rfl)

theorem State.feRestarts_frame (s : State) :
    Frame [.fe] s (State.feRestarts s) := by
  unfold State.feRestarts
  exact (.upd (.refl _ _) rfl)

theorem State.feWrite_frame (s : State) (p : Nat) (side : Slot) (h : LinkHead) (addr : Nat) (d : List Word) (fw : Verdict) (ver : Word) :
    Frame [.fe] s (State.feWrite s p side h addr d fw ver) := by
  unfold State.feWrite
  have h0 : Frame [.fe] s s := Frame.refl _ _
  exact (.after (State.feReceive_frame ..) h0 rfl)

end Sys2Proof.Machine
end

