-- ==== Sys2Proof/Laws/FrameWords.lean ====
section
/-! SUPPORT. What the operations of `Machine/Words.lean` leave alone. -/

namespace Sys2Proof.Machine

theorem State.openingLow_frame (s : State) (k : Nat) :
    Frame [.mode, .power, .prot, .bus, .jnl] s (State.openingLow s k) := by
  unfold State.openingLow
  split
  · exact (.refl _ _)
  · exact (.ite (.after (State.loneOpen_frame ..) (.refl _ _) rfl) (.refl _ _))
  · exact (.ite (.after (State.openNow_frame ..) (.refl _ _) rfl) (.refl _ _))

theorem State.stringsWork_frame (s : State) :
    Frame [.time, .mode, .meas, .power, .prot, .grz, .pair, .site, .bus, .tw, .jnl, .modeNow, .enabled, .ledger] s (State.stringsWork s) := by
  unfold State.stringsWork
  have h0 : Frame [.time, .mode, .meas, .power, .prot, .grz, .pair, .site, .bus, .tw, .jnl, .modeNow, .enabled, .ledger] s s := Frame.refl _ _
  extract_lets x1 x2 x3
  have hx2 : Frame _ _ x2 := (.after (State.atP_frame ..) (.upd h0 rfl) rfl)
  have hx3 : Frame _ _ x3 := (.foldl hx2 fun _ _ h2 => (.after (State.wireOpenLow_frame ..) (.after (State.openingLow_frame ..) h2 rfl) rfl))
  exact (.ite (.after (State.idleEntry_frame ..) (.after (State.rosterApply_frame ..) hx3 rfl) rfl) h0)

theorem State.keepHeld_frame (s : State) (k : Nat) :
    Frame [.prot] s (State.keepHeld s k) := by
  unfold State.keepHeld
  exact (.after (State.modPst_frame ..) (.refl _ _) rfl)

theorem State.wordWork_frame (s : State) (k : Nat) :
    Frame [.time, .mode, .meas, .power, .prot, .grz, .pair, .site, .bus, .tw, .jnl, .modeNow, .enabled, .ledger] s (State.wordWork s k) := by
  unfold State.wordWork
  exact (.ite (.after (State.connectConsent_frame ..) (.after (State.atP_frame ..) (.after (State.stringsWork_frame ..) (.refl _ _) rfl) rfl) rfl) (.refl _ _))

end Sys2Proof.Machine
end

