-- ==== Sys2Proof/Laws/FrameFrame.lean ====
section
/-! SUPPORT. What the operations of `Machine/Frame.lean` leave alone. -/

namespace Sys2Proof.Machine

theorem State.cleanTake_frame (s : State) :
    Frame [.upd] s (State.cleanTake s) := by
  unfold State.cleanTake
  have h0 : Frame [.upd] s s := Frame.refl _ _
  exact (.upd h0 rfl)

theorem State.commitOne_frame (s : State) :
    Frame [.jnl] s (State.commitOne s) := by
  unfold State.commitOne
  split
  · exact .refl _ _
  · exact .after (State.modRing_frame _ _ (fun _ h => ringPush_inSequence _ _ h) (fun _ => Nat.le_succ _))
      (.upd (.refl _ _) rfl) rfl

theorem State.commitSome_frame (n : Nat) (s : State) : Frame [.jnl] s (State.commitSome n s) := by
  induction n generalizing s with
  | zero => exact Frame.refl _ _
  | succ n ih => exact ((Frame.refl _ _).step (State.commitOne_frame ..) rfl).trans (ih _)

theorem State.journalCommit_frame (s : State) (more : Nat) :
    Frame [.time, .jnl] s (State.journalCommit s more) := by
  unfold State.journalCommit
  have h0 : Frame [.time, .jnl] s s := Frame.refl _ _
  extract_lets x1
  have hx1 : Frame _ _ x1 := (.after (State.overrunEnd_frame ..) h0 rfl)
  exact (.ite (.after (State.commitSome_frame ..) hx1 rfl) (.after (State.commitSome_frame ..) h0 rfl))

theorem State.sleepTake_frame (s : State) (p : Nat) :
    Frame [.time, .link, .aux, .jnl] s (State.sleepTake s p) := by
  unfold State.sleepTake
  have h0 : Frame [.time, .link, .aux, .jnl] s s := Frame.refl _ _
  extract_lets x1 x2
  have hx2 : Frame _ _ x2 := (.after (State.atP_frame ..) (.after (State.setLink_frame ..) (.after (State.atP_frame ..) h0 rfl) rfl) rfl)
  exact (.ite (.after (State.modLnk_frame ..) h0 rfl) (.ite (.upd hx2 rfl) h0))

theorem State.herdClose_frame (s : State) :
    Frame [.herd, .jnl] s (State.herdClose s) := by
  unfold State.herdClose
  have h0 : Frame [.herd, .jnl] s s := Frame.refl _ _
  extract_lets x1 x2
  have hx1 : Frame _ _ x1 := (.after (State.herdRecord_frame ..) h0 rfl)
  exact (.ite (.upd hx1 rfl) h0)

theorem State.overrunsEnd_frame (s : State) :
    Frame [.time, .jnl] s (State.overrunsEnd s) := by
  unfold State.overrunsEnd
  exact (.after (State.overrunEnd_frame ..) (.after (State.overrunEnd_frame ..) (.after (State.overrunEnd_frame ..) (.refl _ _) rfl) rfl) rfl)

theorem State.holdupTake_frame (s : State) :
    Frame [.mode] s (State.holdupTake s) := by
  unfold State.holdupTake
  have h0 : Frame [.mode] s s := Frame.refl _ _
  extract_lets x1 x2 x3 x4
  exact (.upd h0 rfl)

theorem State.closure_frame (s : State) (x : Sensors) (more : Nat) :
    Frame [.sys, .time, .mode, .link, .meas, .aux, .herd, .power, .prot, .dsp, .grz, .pair, .site, .bus, .tw, .upd, .jnl, .modeNow, .enabled, .ledger] s (State.closure s x more) := by
  unfold State.closure
  have h0 : Frame [.sys, .time, .mode, .link, .meas, .aux, .herd, .power, .prot, .dsp, .grz, .pair, .site, .bus, .tw, .upd, .jnl, .modeNow, .enabled, .ledger] s s := Frame.refl _ _
  extract_lets x1 x2 x3 x4 x5
  have hx1 : Frame _ _ x1 := (.after (State.holdupTake_frame ..) (.after (State.atP_frame ..) (.after (State.stringsWork_frame ..) h0 rfl) rfl) rfl)
  have hx3 : Frame _ _ x3 := (.after (State.copySend_frame ..) (.after (State.listSend_frame ..) (.upd hx1 rfl) rfl) rfl)
  have hx4 : Frame _ _ x4 := (.after (State.overrunsEnd_frame ..) (.after (State.excessWatch_frame ..) (.after (State.grazeAdmit_frame ..) (.after (State.throttle_frame ..) (.after (State.junction_frame ..) hx3 rfl) rfl) rfl) rfl) rfl)
  have hx5 : Frame _ _ x5 := (.after (State.cleanTake_frame ..) (.after (State.health_frame ..) (.after (State.herdClose_frame ..) (.foldl hx4 fun _ _ h4 => (.after (State.sleepTake_frame ..) h4 rfl)) rfl) rfl) rfl)
  exact (.after (State.twRefresh_frame ..) (.after (State.journalCommit_frame ..) (.after (State.eventPush_frame ..) (.after (State.siteHeartbeat_frame ..) hx5 rfl) rfl) rfl) rfl)

theorem State.derateRelease_frame (s : State) :
    Frame [.psv] s (State.derateRelease s) := by
  unfold State.derateRelease
  have h0 : Frame [.psv] s s := Frame.refl _ _
  extract_lets x1
  split
  · exact (.ite (.upd h0 rfl) h0)
  · exact h0

theorem State.linkClock_frame (s : State) :
    Frame [.time, .fe] s (State.linkClock s) := by
  unfold State.linkClock
  have h0 : Frame [.time, .fe] s s := Frame.refl _ _
  extract_lets x1 x2
  have hx1 : Frame _ _ x1 := (.after (State.feRestarts_frame ..) h0 rfl)
  clear_value x1
  exact (.upd hx1 rfl)

theorem State.linkFrame_frame (s : State) (p : Nat) :
    Frame [.link] s (State.linkFrame s p) := by
  unfold State.linkFrame
  have h0 : Frame [.link] s s := Frame.refl _ _
  extract_lets x1 x2
  exact (.ite (.after (State.modLnk_frame ..) h0 rfl) (.after (State.modLnk_frame ..) h0 rfl))

theorem State.outputsDrive_frame (s : State) :
    Frame [.power] s (State.outputsDrive s) := by
  unfold State.outputsDrive
  have h0 : Frame [.power] s s := Frame.refl _ _
  exact (.upd h0 rfl)

theorem State.portsFrame_frame (s : State) :
    Frame [.power] s (State.portsFrame s) := by
  unfold State.portsFrame
  have h0 : Frame [.power] s s := Frame.refl _ _
  exact (.upd h0 rfl)

theorem State.restLeave_frame (s : State) :
    Frame [.mode, .pair, .site, .tw, .jnl, .modeNow, .ledger] s (State.restLeave s) := by
  unfold State.restLeave
  have h0 : Frame [.mode, .pair, .site, .tw, .jnl, .modeNow, .ledger] s s := Frame.refl _ _
  extract_lets x1 x2 x3 x4
  have hx3 : Frame _ _ x3 := (.ite (.after (State.cmdTo_frame ..) (.after (State.setMode_frame ..) h0 rfl) rfl) (.after (State.setMode_frame ..) h0 rfl))
  split
  · exact h0
  · exact (.ite (.upd hx3 rfl) h0)

theorem State.secondCounts_frame (s : State) :
    Frame [.site, .bus, .tw, .mem, .acc] s (State.secondCounts s) := by
  unfold State.secondCounts
  have h0 : Frame [.site, .bus, .tw, .mem, .acc] s s := Frame.refl _ _
  extract_lets x1 x2 x3 x4 x5 x6
  exact (.upd h0 rfl)

theorem State.snapshotDrop_frame (s : State) :
    Frame [.site, .jnl, .pages] s (State.snapshotDrop s) := by
  unfold State.snapshotDrop
  have h0 : Frame [.site, .jnl, .pages] s s := Frame.refl _ _
  split
  · exact h0
  · extract_lets x1 x2
    have hx1 : Frame _ _ x1 := (.foldl h0 fun _ _ h1 => (.after (State.modPage_frame ..) h1 rfl))
    exact (.after (State.winLoss_frame ..) (.upd hx1 rfl) rfl)

theorem State.snapshotTake_frame (s : State) :
    Frame [.site, .jnl, .pages] s (State.snapshotTake s) := by
  unfold State.snapshotTake
  have h0 : Frame [.site, .jnl, .pages] s s := Frame.refl _ _
  extract_lets x1
  have hx1 : Frame _ _ x1 := (.after (State.snapshotDrop_frame ..) h0 rfl)
  split
  · exact (.after (State.winLoss_frame ..) hx1 rfl)
  · extract_lets x2 x3
    have hx2 : Frame _ _ x2 := (.after (State.writePages_frame ..) hx1 rfl)
    exact (.upd hx2 rfl)

theorem State.secondWork_frame (s : State) :
    Frame [.aux, .thm, .herd, .dsp, .grz, .site, .jnl, .pages] s (State.secondWork s) := by
  unfold State.secondWork
  have h0 : Frame [.aux, .thm, .herd, .dsp, .grz, .site, .jnl, .pages] s s := Frame.refl _ _
  extract_lets x1 x2 x3 x4
  have hx1 : Frame _ _ x1 := (.after (State.herdSecond_frame ..) (.after (State.histSecond_frame ..) (.after (State.meanTake_frame ..) h0 rfl) rfl) rfl)
  have hx2 : Frame _ _ x2 := (.foldl hx1 fun _ _ h2 => (.after (State.candSelect_frame ..) (.after (State.leadSelect_frame ..) h2 rfl) rfl))
  have hx3 : Frame _ _ x3 := (.after (State.elasticPower_frame ..) (.after (State.balanceBudget_frame ..) hx2 rfl) rfl)
  exact (.after (State.snapshotTake_frame ..) (.upd hx3 rfl) rfl)

theorem State.sensorsTake_frame (s : State) (x : Sensors) :
    Frame [.time, .grz, .psv] s (State.sensorsTake s x) := by
  unfold State.sensorsTake
  have h0 : Frame [.time, .grz, .psv] s s := Frame.refl _ _
  exact (.upd h0 rfl)

theorem State.strobeGraze_frame (s : State) :
    Frame [.mode, .link, .est, .power, .prot, .grz, .pair, .site, .tw, .upd, .jnl, .modeNow, .enabled, .safeOuts, .pairState, .ledger, .safeLatch] s (State.strobeGraze s) := by
  unfold State.strobeGraze
  have h0 : Frame [.mode, .link, .est, .power, .prot, .grz, .pair, .site, .tw, .upd, .jnl, .modeNow, .enabled, .safeOuts, .pairState, .ledger, .safeLatch] s s := Frame.refl _ _
  extract_lets x1 x2 x3
  have hx1 : Frame _ _ x1 := (.after (State.rungApply_frame ..) h0 rfl)
  have hx3 : Frame _ _ x3 := (.upd hx1 rfl)
  exact (.foldl hx3 fun _ _ h3 => (.after (State.intervalApply_frame ..) h3 rfl))

theorem State.targetsNote_frame (s : State) (p : Nat) (ws : List Word) :
    Frame [.aux] s (State.targetsNote s p ws) := by
  unfold State.targetsNote
  exact (.upd (.refl _ _) rfl)

theorem State.targetsQueue_frame (s : State) (p : Nat) :
    Frame [.link, .aux] s (State.targetsQueue s p) := by
  unfold State.targetsQueue
  have h0 : Frame [.link, .aux] s s := Frame.refl _ _
  extract_lets x1 x2 x3 x4
  have hx3 : Frame _ _ x3 := (.after (State.modLnk_frame ..) (.after (State.targetsNote_frame ..) h0 rfl) rfl)
  exact (.ite h0 (.ite (.ite (.after (State.modLnk_frame ..) hx3 rfl) (.ite (.after (State.secQueue_frame ..) hx3 rfl) hx3)) (.ite (.after (State.modLnk_frame ..) h0 rfl) h0)))

theorem State.strobeLink_frame (s : State) :
    Frame [.mode, .link, .meas, .aux, .pair, .site, .tw, .jnl, .modeNow, .ledger] s (State.strobeLink s) := by
  unfold State.strobeLink
  have h0 : Frame [.mode, .link, .meas, .aux, .pair, .site, .tw, .jnl, .modeNow, .ledger] s s := Frame.refl _ _
  extract_lets x1 x2 x3 x4
  have hx1 : Frame _ _ x1 := (.after (State.restLeave_frame ..) h0 rfl)
  have hx4 : Frame _ _ x4 := (.upd hx1 rfl)
  exact (.foldl hx4 fun _ _ h3 => (.after (State.targetsQueue_frame ..) (.after (State.linkFrame_frame ..) h3 rfl) rfl))

theorem State.strobePair_frame (s : State) :
    Frame [.time, .mode, .power, .prot, .grz, .pair, .site, .bus, .tw, .cfg, .upd, .jnl, .modeNow, .enabled, .safeOuts, .pairState, .ledger] s (State.strobePair s) := by
  unfold State.strobePair
  exact (.after (State.reachJudge_frame ..) (.after (State.inputsTake_frame ..) (.after (State.handoverChoose_frame ..) (.after (State.surveyWaitEnd_frame ..) (.after (State.stepAnnounce_frame ..) (.after (State.pairFrame_frame ..) (.after (State.siteFrame_frame ..) (.refl _ _) rfl) rfl) rfl) rfl) rfl) rfl) rfl)

theorem State.strobeStrings_frame (s : State) :
    Frame [.mode, .est, .power, .prot, .pair, .site, .tw, .jnl, .modeNow, .enabled, .ledger] s (State.strobeStrings s) := by
  unfold State.strobeStrings
  have h0 : Frame [.mode, .est, .power, .prot, .pair, .site, .tw, .jnl, .modeNow, .enabled, .ledger] s s := Frame.refl _ _
  extract_lets x1 x2 x3
  have hx1 : Frame _ _ x1 := (.foldl h0 fun _ _ h1 => (.after (State.recordOwn_frame ..) (.after (State.connectContactors_frame ..) h1 rfl) rfl))
  have hx2 : Frame _ _ x2 := (.after (State.idleEntry_frame ..) (.foldl hx1 fun _ _ h2 => (.after (State.excOpened_frame ..) h2 rfl)) rfl)
  exact (.upd hx2 rfl)

theorem State.thermalLoops_frame (s : State) :
    Frame [.power] s (State.thermalLoops s) := by
  unfold State.thermalLoops
  have h0 : Frame [.power] s s := Frame.refl _ _
  exact (.ite (.after (State.outputsOff_frame ..) h0 rfl) (.after (State.outputsDrive_frame ..) (.upd h0 rfl) rfl))

theorem State.tick_frame (s : State) :
    Frame [.time, .est, .dsp, .pair, .frame] s (State.tick s) := by
  unfold State.tick
  have h0 : Frame [.time, .est, .dsp, .pair, .frame] s s := Frame.refl _ _
  exact (.after (State.boundTake_frame ..) (.after (State.slewFrame_frame ..) (.upd h0 rfl) rfl) rfl)

end Sys2Proof.Machine
end

