-- ==== Sys2Proof/Laws/State.lean ====
section
/-! SUPPORT. What each named update leaves of the state, part by part, and what the readers answer after it. -/

namespace Sys2Proof.Machine

/-! ### `atP` -/

@[simp] theorem State.atP_sys (s : State) (p : Nat) : (s.atP p).sys = s.sys := rfl
@[simp] theorem State.atP_time (s : State) (p : Nat) : (s.atP p).time = { s.time with pulse := p } := rfl
@[simp] theorem State.atP_mode (s : State) (p : Nat) : (s.atP p).mode = s.mode := rfl
@[simp] theorem State.atP_linkCfg (s : State) (p : Nat) : (s.atP p).linkCfg = s.linkCfg := rfl
@[simp] theorem State.atP_link (s : State) (p : Nat) : (s.atP p).link = s.link := rfl
@[simp] theorem State.atP_cfeCfg (s : State) (p : Nat) : (s.atP p).cfeCfg = s.cfeCfg := rfl
@[simp] theorem State.atP_cfgReplaced (s : State) (p : Nat) : (s.atP p).cfgReplaced = s.cfgReplaced := rfl
@[simp] theorem State.atP_cfe (s : State) (p : Nat) : (s.atP p).cfe = s.cfe := rfl
@[simp] theorem State.atP_fe (s : State) (p : Nat) : (s.atP p).fe = s.fe := rfl
@[simp] theorem State.atP_meas (s : State) (p : Nat) : (s.atP p).meas = s.meas := rfl
@[simp] theorem State.atP_cells (s : State) (p : Nat) : (s.atP p).cells = s.cells := rfl
@[simp] theorem State.atP_aux (s : State) (p : Nat) : (s.atP p).aux = s.aux := rfl
@[simp] theorem State.atP_th (s : State) (p : Nat) : (s.atP p).th = s.th := rfl
@[simp] theorem State.atP_herdTab (s : State) (p : Nat) : (s.atP p).herdTab = s.herdTab := rfl
@[simp] theorem State.atP_mkCell (s : State) (p : Nat) : (s.atP p).mkCell = s.mkCell := rfl
@[simp] theorem State.atP_mkTh (s : State) (p : Nat) : (s.atP p).mkTh = s.mkTh := rfl
@[simp] theorem State.atP_est (s : State) (p : Nat) : (s.atP p).est = s.est := rfl
@[simp] theorem State.atP_thm (s : State) (p : Nat) : (s.atP p).thm = s.thm := rfl
@[simp] theorem State.atP_herd (s : State) (p : Nat) : (s.atP p).herd = s.herd := rfl
@[simp] theorem State.atP_power (s : State) (p : Nat) : (s.atP p).power = s.power := rfl
@[simp] theorem State.atP_prot (s : State) (p : Nat) : (s.atP p).prot = s.prot := rfl
@[simp] theorem State.atP_dsp (s : State) (p : Nat) : (s.atP p).dsp = s.dsp := rfl
@[simp] theorem State.atP_grz (s : State) (p : Nat) : (s.atP p).grz = s.grz := rfl
@[simp] theorem State.atP_pair (s : State) (p : Nat) : (s.atP p).pair = s.pair := rfl
@[simp] theorem State.atP_site (s : State) (p : Nat) : (s.atP p).site = s.site := rfl
@[simp] theorem State.atP_ledgerOther (s : State) (p : Nat) : (s.atP p).ledgerOther = s.ledgerOther := rfl
@[simp] theorem State.atP_bus (s : State) (p : Nat) : (s.atP p).bus = s.bus := rfl
@[simp] theorem State.atP_tw (s : State) (p : Nat) : (s.atP p).tw = s.tw := rfl
@[simp] theorem State.atP_cfg (s : State) (p : Nat) : (s.atP p).cfg = s.cfg := rfl
@[simp] theorem State.atP_upd (s : State) (p : Nat) : (s.atP p).upd = s.upd := rfl
@[simp] theorem State.atP_mem (s : State) (p : Nat) : (s.atP p).mem = s.mem := rfl
@[simp] theorem State.atP_jnl (s : State) (p : Nat) : (s.atP p).jnl = s.jnl := rfl
@[simp] theorem State.atP_acc (s : State) (p : Nat) : (s.atP p).acc = s.acc := rfl
@[simp] theorem State.atP_psv (s : State) (p : Nat) : (s.atP p).psv = s.psv := rfl
@[simp] theorem State.atP_pending (s : State) (p : Nat) : (s.atP p).pending = s.pending := rfl
@[simp] theorem State.atP_free (s : State) (p : Nat) : (s.atP p).free = s.free := rfl
@[simp] theorem State.atP_now (s : State) (p : Nat) : (s.atP p).now = s.now := rfl
@[simp] theorem State.atP_str (s : State) (p : Nat) (j : Nat) : (s.atP p).str j = s.str j := rfl
@[simp] theorem State.atP_lnk (s : State) (p : Nat) (j : Nat) : (s.atP p).lnk j = s.lnk j := rfl
@[simp] theorem State.atP_fee (s : State) (p : Nat) (j : Nat) : (s.atP p).fee j = s.fee j := rfl
@[simp] theorem State.atP_pp (s : State) (p : Nat) (j : Nat) : (s.atP p).pp j = s.pp j := rfl
@[simp] theorem State.atP_pst (s : State) (p : Nat) (j : Nat) : (s.atP p).pst j = s.pst j := rfl
@[simp] theorem State.atP_page (s : State) (p : Nat) (j : Nat) : (s.atP p).page j = s.page j := rfl

/-! ### `modStr` -/

@[simp] theorem State.modStr_sys (s : State) (k : Nat) (f : StrSt → StrSt) : (s.modStr k f).sys = s.sys := rfl
@[simp] theorem State.modStr_time (s : State) (k : Nat) (f : StrSt → StrSt) : (s.modStr k f).time = s.time := rfl
@[simp] theorem State.modStr_mode (s : State) (k : Nat) (f : StrSt → StrSt) : (s.modStr k f).mode = { s.mode with str := tmod s.mode.str k f } := rfl
@[simp] theorem State.modStr_linkCfg (s : State) (k : Nat) (f : StrSt → StrSt) : (s.modStr k f).linkCfg = s.linkCfg := rfl
@[simp] theorem State.modStr_link (s : State) (k : Nat) (f : StrSt → StrSt) : (s.modStr k f).link = s.link := rfl
@[simp] theorem State.modStr_cfeCfg (s : State) (k : Nat) (f : StrSt → StrSt) : (s.modStr k f).cfeCfg = s.cfeCfg := rfl
@[simp] theorem State.modStr_cfgReplaced (s : State) (k : Nat) (f : StrSt → StrSt) : (s.modStr k f).cfgReplaced = s.cfgReplaced := rfl
@[simp] theorem State.modStr_cfe (s : State) (k : Nat) (f : StrSt → StrSt) : (s.modStr k f).cfe = s.cfe := rfl
@[simp] theorem State.modStr_fe (s : State) (k : Nat) (f : StrSt → StrSt) : (s.modStr k f).fe = s.fe := rfl
@[simp] theorem State.modStr_meas (s : State) (k : Nat) (f : StrSt → StrSt) : (s.modStr k f).meas = s.meas := rfl
@[simp] theorem State.modStr_cells (s : State) (k : Nat) (f : StrSt → StrSt) : (s.modStr k f).cells = s.cells := rfl
@[simp] theorem State.modStr_aux (s : State) (k : Nat) (f : StrSt → StrSt) : (s.modStr k f).aux = s.aux := rfl
@[simp] theorem State.modStr_th (s : State) (k : Nat) (f : StrSt → StrSt) : (s.modStr k f).th = s.th := rfl
@[simp] theorem State.modStr_herdTab (s : State) (k : Nat) (f : StrSt → StrSt) : (s.modStr k f).herdTab = s.herdTab := rfl
@[simp] theorem State.modStr_mkCell (s : State) (k : Nat) (f : StrSt → StrSt) : (s.modStr k f).mkCell = s.mkCell := rfl
@[simp] theorem State.modStr_mkTh (s : State) (k : Nat) (f : StrSt → StrSt) : (s.modStr k f).mkTh = s.mkTh := rfl
@[simp] theorem State.modStr_est (s : State) (k : Nat) (f : StrSt → StrSt) : (s.modStr k f).est = s.est := rfl
@[simp] theorem State.modStr_thm (s : State) (k : Nat) (f : StrSt → StrSt) : (s.modStr k f).thm = s.thm := rfl
@[simp] theorem State.modStr_herd (s : State) (k : Nat) (f : StrSt → StrSt) : (s.modStr k f).herd = s.herd := rfl
@[simp] theorem State.modStr_power (s : State) (k : Nat) (f : StrSt → StrSt) : (s.modStr k f).power = s.power := rfl
@[simp] theorem State.modStr_prot (s : State) (k : Nat) (f : StrSt → StrSt) : (s.modStr k f).prot = s.prot := rfl
@[simp] theorem State.modStr_dsp (s : State) (k : Nat) (f : StrSt → StrSt) : (s.modStr k f).dsp = s.dsp := rfl
@[simp] theorem State.modStr_grz (s : State) (k : Nat) (f : StrSt → StrSt) : (s.modStr k f).grz = s.grz := rfl
@[simp] theorem State.modStr_pair (s : State) (k : Nat) (f : StrSt → StrSt) : (s.modStr k f).pair = s.pair := rfl
@[simp] theorem State.modStr_site (s : State) (k : Nat) (f : StrSt → StrSt) : (s.modStr k f).site = s.site := rfl
@[simp] theorem State.modStr_ledgerOther (s : State) (k : Nat) (f : StrSt → StrSt) : (s.modStr k f).ledgerOther = s.ledgerOther := rfl
@[simp] theorem State.modStr_bus (s : State) (k : Nat) (f : StrSt → StrSt) : (s.modStr k f).bus = s.bus := rfl
@[simp] theorem State.modStr_tw (s : State) (k : Nat) (f : StrSt → StrSt) : (s.modStr k f).tw = s.tw := rfl
@[simp] theorem State.modStr_cfg (s : State) (k : Nat) (f : StrSt → StrSt) : (s.modStr k f).cfg = s.cfg := rfl
@[simp] theorem State.modStr_upd (s : State) (k : Nat) (f : StrSt → StrSt) : (s.modStr k f).upd = s.upd := rfl
@[simp] theorem State.modStr_mem (s : State) (k : Nat) (f : StrSt → StrSt) : (s.modStr k f).mem = s.mem := rfl
@[simp] theorem State.modStr_jnl (s : State) (k : Nat) (f : StrSt → StrSt) : (s.modStr k f).jnl = s.jnl := rfl
@[simp] theorem State.modStr_acc (s : State) (k : Nat) (f : StrSt → StrSt) : (s.modStr k f).acc = s.acc := rfl
@[simp] theorem State.modStr_psv (s : State) (k : Nat) (f : StrSt → StrSt) : (s.modStr k f).psv = s.psv := rfl
@[simp] theorem State.modStr_pending (s : State) (k : Nat) (f : StrSt → StrSt) : (s.modStr k f).pending = s.pending := rfl
@[simp] theorem State.modStr_free (s : State) (k : Nat) (f : StrSt → StrSt) : (s.modStr k f).free = s.free := rfl
@[simp] theorem State.modStr_now (s : State) (k : Nat) (f : StrSt → StrSt) : (s.modStr k f).now = s.now := rfl
@[simp] theorem State.modStr_str (s : State) (k : Nat) (f : StrSt → StrSt) (j : Nat) :
    (s.modStr k f).str j = if j = k then f (s.str k) else s.str j := tget_tmod _ _ _ _
@[simp] theorem State.modStr_lnk (s : State) (k : Nat) (f : StrSt → StrSt) (j : Nat) : (s.modStr k f).lnk j = s.lnk j := rfl
@[simp] theorem State.modStr_fee (s : State) (k : Nat) (f : StrSt → StrSt) (j : Nat) : (s.modStr k f).fee j = s.fee j := rfl
@[simp] theorem State.modStr_pp (s : State) (k : Nat) (f : StrSt → StrSt) (j : Nat) : (s.modStr k f).pp j = s.pp j := rfl
@[simp] theorem State.modStr_pst (s : State) (k : Nat) (f : StrSt → StrSt) (j : Nat) : (s.modStr k f).pst j = s.pst j := rfl
@[simp] theorem State.modStr_page (s : State) (k : Nat) (f : StrSt → StrSt) (j : Nat) : (s.modStr k f).page j = s.page j := rfl

/-! ### `modLnk` -/

@[simp] theorem State.modLnk_sys (s : State) (k : Nat) (f : LinkSt → LinkSt) : (s.modLnk k f).sys = s.sys := rfl
@[simp] theorem State.modLnk_time (s : State) (k : Nat) (f : LinkSt → LinkSt) : (s.modLnk k f).time = s.time := rfl
@[simp] theorem State.modLnk_mode (s : State) (k : Nat) (f : LinkSt → LinkSt) : (s.modLnk k f).mode = s.mode := rfl
@[simp] theorem State.modLnk_linkCfg (s : State) (k : Nat) (f : LinkSt → LinkSt) : (s.modLnk k f).linkCfg = s.linkCfg := rfl
@[simp] theorem State.modLnk_link (s : State) (k : Nat) (f : LinkSt → LinkSt) : (s.modLnk k f).link = tmod s.link k f := rfl
@[simp] theorem State.modLnk_cfeCfg (s : State) (k : Nat) (f : LinkSt → LinkSt) : (s.modLnk k f).cfeCfg = s.cfeCfg := rfl
@[simp] theorem State.modLnk_cfgReplaced (s : State) (k : Nat) (f : LinkSt → LinkSt) : (s.modLnk k f).cfgReplaced = s.cfgReplaced := rfl
@[simp] theorem State.modLnk_cfe (s : State) (k : Nat) (f : LinkSt → LinkSt) : (s.modLnk k f).cfe = s.cfe := rfl
@[simp] theorem State.modLnk_fe (s : State) (k : Nat) (f : LinkSt → LinkSt) : (s.modLnk k f).fe = s.fe := rfl
@[simp] theorem State.modLnk_meas (s : State) (k : Nat) (f : LinkSt → LinkSt) : (s.modLnk k f).meas = s.meas := rfl
@[simp] theorem State.modLnk_cells (s : State) (k : Nat) (f : LinkSt → LinkSt) : (s.modLnk k f).cells = s.cells := rfl
@[simp] theorem State.modLnk_aux (s : State) (k : Nat) (f : LinkSt → LinkSt) : (s.modLnk k f).aux = s.aux := rfl
@[simp] theorem State.modLnk_th (s : State) (k : Nat) (f : LinkSt → LinkSt) : (s.modLnk k f).th = s.th := rfl
@[simp] theorem State.modLnk_herdTab (s : State) (k : Nat) (f : LinkSt → LinkSt) : (s.modLnk k f).herdTab = s.herdTab := rfl
@[simp] theorem State.modLnk_mkCell (s : State) (k : Nat) (f : LinkSt → LinkSt) : (s.modLnk k f).mkCell = s.mkCell := rfl
@[simp] theorem State.modLnk_mkTh (s : State) (k : Nat) (f : LinkSt → LinkSt) : (s.modLnk k f).mkTh = s.mkTh := rfl
@[simp] theorem State.modLnk_est (s : State) (k : Nat) (f : LinkSt → LinkSt) : (s.modLnk k f).est = s.est := rfl
@[simp] theorem State.modLnk_thm (s : State) (k : Nat) (f : LinkSt → LinkSt) : (s.modLnk k f).thm = s.thm := rfl
@[simp] theorem State.modLnk_herd (s : State) (k : Nat) (f : LinkSt → LinkSt) : (s.modLnk k f).herd = s.herd := rfl
@[simp] theorem State.modLnk_power (s : State) (k : Nat) (f : LinkSt → LinkSt) : (s.modLnk k f).power = s.power := rfl
@[simp] theorem State.modLnk_prot (s : State) (k : Nat) (f : LinkSt → LinkSt) : (s.modLnk k f).prot = s.prot := rfl
@[simp] theorem State.modLnk_dsp (s : State) (k : Nat) (f : LinkSt → LinkSt) : (s.modLnk k f).dsp = s.dsp := rfl
@[simp] theorem State.modLnk_grz (s : State) (k : Nat) (f : LinkSt → LinkSt) : (s.modLnk k f).grz = s.grz := rfl
@[simp] theorem State.modLnk_pair (s : State) (k : Nat) (f : LinkSt → LinkSt) : (s.modLnk k f).pair = s.pair := rfl
@[simp] theorem State.modLnk_site (s : State) (k : Nat) (f : LinkSt → LinkSt) : (s.modLnk k f).site = s.site := rfl
@[simp] theorem State.modLnk_ledgerOther (s : State) (k : Nat) (f : LinkSt → LinkSt) : (s.modLnk k f).ledgerOther = s.ledgerOther := rfl
@[simp] theorem State.modLnk_bus (s : State) (k : Nat) (f : LinkSt → LinkSt) : (s.modLnk k f).bus = s.bus := rfl
@[simp] theorem State.modLnk_tw (s : State) (k : Nat) (f : LinkSt → LinkSt) : (s.modLnk k f).tw = s.tw := rfl
@[simp] theorem State.modLnk_cfg (s : State) (k : Nat) (f : LinkSt → LinkSt) : (s.modLnk k f).cfg = s.cfg := rfl
@[simp] theorem State.modLnk_upd (s : State) (k : Nat) (f : LinkSt → LinkSt) : (s.modLnk k f).upd = s.upd := rfl
@[simp] theorem State.modLnk_mem (s : State) (k : Nat) (f : LinkSt → LinkSt) : (s.modLnk k f).mem = s.mem := rfl
@[simp] theorem State.modLnk_jnl (s : State) (k : Nat) (f : LinkSt → LinkSt) : (s.modLnk k f).jnl = s.jnl := rfl
@[simp] theorem State.modLnk_acc (s : State) (k : Nat) (f : LinkSt → LinkSt) : (s.modLnk k f).acc = s.acc := rfl
@[simp] theorem State.modLnk_psv (s : State) (k : Nat) (f : LinkSt → LinkSt) : (s.modLnk k f).psv = s.psv := rfl
@[simp] theorem State.modLnk_pending (s : State) (k : Nat) (f : LinkSt → LinkSt) : (s.modLnk k f).pending = s.pending := rfl
@[simp] theorem State.modLnk_free (s : State) (k : Nat) (f : LinkSt → LinkSt) : (s.modLnk k f).free = s.free := rfl
@[simp] theorem State.modLnk_now (s : State) (k : Nat) (f : LinkSt → LinkSt) : (s.modLnk k f).now = s.now := rfl
@[simp] theorem State.modLnk_str (s : State) (k : Nat) (f : LinkSt → LinkSt) (j : Nat) : (s.modLnk k f).str j = s.str j := rfl
@[simp] theorem State.modLnk_lnk (s : State) (k : Nat) (f : LinkSt → LinkSt) (j : Nat) :
    (s.modLnk k f).lnk j = if j = k then f (s.lnk k) else s.lnk j := tget_tmod _ _ _ _
@[simp] theorem State.modLnk_fee (s : State) (k : Nat) (f : LinkSt → LinkSt) (j : Nat) : (s.modLnk k f).fee j = s.fee j := rfl
@[simp] theorem State.modLnk_pp (s : State) (k : Nat) (f : LinkSt → LinkSt) (j : Nat) : (s.modLnk k f).pp j = s.pp j := rfl
@[simp] theorem State.modLnk_pst (s : State) (k : Nat) (f : LinkSt → LinkSt) (j : Nat) : (s.modLnk k f).pst j = s.pst j := rfl
@[simp] theorem State.modLnk_page (s : State) (k : Nat) (f : LinkSt → LinkSt) (j : Nat) : (s.modLnk k f).page j = s.page j := rfl

/-! ### `modFee` -/

@[simp] theorem State.modFee_sys (s : State) (k : Nat) (f : FeSt → FeSt) : (s.modFee k f).sys = s.sys := rfl
@[simp] theorem State.modFee_time (s : State) (k : Nat) (f : FeSt → FeSt) : (s.modFee k f).time = s.time := rfl
@[simp] theorem State.modFee_mode (s : State) (k : Nat) (f : FeSt → FeSt) : (s.modFee k f).mode = s.mode := rfl
@[simp] theorem State.modFee_linkCfg (s : State) (k : Nat) (f : FeSt → FeSt) : (s.modFee k f).linkCfg = s.linkCfg := rfl
@[simp] theorem State.modFee_link (s : State) (k : Nat) (f : FeSt → FeSt) : (s.modFee k f).link = s.link := rfl
@[simp] theorem State.modFee_cfeCfg (s : State) (k : Nat) (f : FeSt → FeSt) : (s.modFee k f).cfeCfg = s.cfeCfg := rfl
@[simp] theorem State.modFee_cfgReplaced (s : State) (k : Nat) (f : FeSt → FeSt) : (s.modFee k f).cfgReplaced = s.cfgReplaced := rfl
@[simp] theorem State.modFee_cfe (s : State) (k : Nat) (f : FeSt → FeSt) : (s.modFee k f).cfe = s.cfe := rfl
@[simp] theorem State.modFee_fe (s : State) (k : Nat) (f : FeSt → FeSt) : (s.modFee k f).fe = tmod s.fe k f := rfl
@[simp] theorem State.modFee_meas (s : State) (k : Nat) (f : FeSt → FeSt) : (s.modFee k f).meas = s.meas := rfl
@[simp] theorem State.modFee_cells (s : State) (k : Nat) (f : FeSt → FeSt) : (s.modFee k f).cells = s.cells := rfl
@[simp] theorem State.modFee_aux (s : State) (k : Nat) (f : FeSt → FeSt) : (s.modFee k f).aux = s.aux := rfl
@[simp] theorem State.modFee_th (s : State) (k : Nat) (f : FeSt → FeSt) : (s.modFee k f).th = s.th := rfl
@[simp] theorem State.modFee_herdTab (s : State) (k : Nat) (f : FeSt → FeSt) : (s.modFee k f).herdTab = s.herdTab := rfl
@[simp] theorem State.modFee_mkCell (s : State) (k : Nat) (f : FeSt → FeSt) : (s.modFee k f).mkCell = s.mkCell := rfl
@[simp] theorem State.modFee_mkTh (s : State) (k : Nat) (f : FeSt → FeSt) : (s.modFee k f).mkTh = s.mkTh := rfl
@[simp] theorem State.modFee_est (s : State) (k : Nat) (f : FeSt → FeSt) : (s.modFee k f).est = s.est := rfl
@[simp] theorem State.modFee_thm (s : State) (k : Nat) (f : FeSt → FeSt) : (s.modFee k f).thm = s.thm := rfl
@[simp] theorem State.modFee_herd (s : State) (k : Nat) (f : FeSt → FeSt) : (s.modFee k f).herd = s.herd := rfl
@[simp] theorem State.modFee_power (s : State) (k : Nat) (f : FeSt → FeSt) : (s.modFee k f).power = s.power := rfl
@[simp] theorem State.modFee_prot (s : State) (k : Nat) (f : FeSt → FeSt) : (s.modFee k f).prot = s.prot := rfl
@[simp] theorem State.modFee_dsp (s : State) (k : Nat) (f : FeSt → FeSt) : (s.modFee k f).dsp = s.dsp := rfl
@[simp] theorem State.modFee_grz (s : State) (k : Nat) (f : FeSt → FeSt) : (s.modFee k f).grz = s.grz := rfl
@[simp] theorem State.modFee_pair (s : State) (k : Nat) (f : FeSt → FeSt) : (s.modFee k f).pair = s.pair := rfl
@[simp] theorem State.modFee_site (s : State) (k : Nat) (f : FeSt → FeSt) : (s.modFee k f).site = s.site := rfl
@[simp] theorem State.modFee_ledgerOther (s : State) (k : Nat) (f : FeSt → FeSt) : (s.modFee k f).ledgerOther = s.ledgerOther := rfl
@[simp] theorem State.modFee_bus (s : State) (k : Nat) (f : FeSt → FeSt) : (s.modFee k f).bus = s.bus := rfl
@[simp] theorem State.modFee_tw (s : State) (k : Nat) (f : FeSt → FeSt) : (s.modFee k f).tw = s.tw := rfl
@[simp] theorem State.modFee_cfg (s : State) (k : Nat) (f : FeSt → FeSt) : (s.modFee k f).cfg = s.cfg := rfl
@[simp] theorem State.modFee_upd (s : State) (k : Nat) (f : FeSt → FeSt) : (s.modFee k f).upd = s.upd := rfl
@[simp] theorem State.modFee_mem (s : State) (k : Nat) (f : FeSt → FeSt) : (s.modFee k f).mem = s.mem := rfl
@[simp] theorem State.modFee_jnl (s : State) (k : Nat) (f : FeSt → FeSt) : (s.modFee k f).jnl = s.jnl := rfl
@[simp] theorem State.modFee_acc (s : State) (k : Nat) (f : FeSt → FeSt) : (s.modFee k f).acc = s.acc := rfl
@[simp] theorem State.modFee_psv (s : State) (k : Nat) (f : FeSt → FeSt) : (s.modFee k f).psv = s.psv := rfl
@[simp] theorem State.modFee_pending (s : State) (k : Nat) (f : FeSt → FeSt) : (s.modFee k f).pending = s.pending := rfl
@[simp] theorem State.modFee_free (s : State) (k : Nat) (f : FeSt → FeSt) : (s.modFee k f).free = s.free := rfl
@[simp] theorem State.modFee_now (s : State) (k : Nat) (f : FeSt → FeSt) : (s.modFee k f).now = s.now := rfl
@[simp] theorem State.modFee_str (s : State) (k : Nat) (f : FeSt → FeSt) (j : Nat) : (s.modFee k f).str j = s.str j := rfl
@[simp] theorem State.modFee_lnk (s : State) (k : Nat) (f : FeSt → FeSt) (j : Nat) : (s.modFee k f).lnk j = s.lnk j := rfl
@[simp] theorem State.modFee_fee (s : State) (k : Nat) (f : FeSt → FeSt) (j : Nat) :
    (s.modFee k f).fee j = if j = k then f (s.fee k) else s.fee j := tget_tmod _ _ _ _
@[simp] theorem State.modFee_pp (s : State) (k : Nat) (f : FeSt → FeSt) (j : Nat) : (s.modFee k f).pp j = s.pp j := rfl
@[simp] theorem State.modFee_pst (s : State) (k : Nat) (f : FeSt → FeSt) (j : Nat) : (s.modFee k f).pst j = s.pst j := rfl
@[simp] theorem State.modFee_page (s : State) (k : Nat) (f : FeSt → FeSt) (j : Nat) : (s.modFee k f).page j = s.page j := rfl

/-! ### `modPp` -/

@[simp] theorem State.modPp_sys (s : State) (k : Nat) (f : PpSt → PpSt) : (s.modPp k f).sys = s.sys := rfl
@[simp] theorem State.modPp_time (s : State) (k : Nat) (f : PpSt → PpSt) : (s.modPp k f).time = s.time := rfl
@[simp] theorem State.modPp_mode (s : State) (k : Nat) (f : PpSt → PpSt) : (s.modPp k f).mode = s.mode := rfl
@[simp] theorem State.modPp_linkCfg (s : State) (k : Nat) (f : PpSt → PpSt) : (s.modPp k f).linkCfg = s.linkCfg := rfl
@[simp] theorem State.modPp_link (s : State) (k : Nat) (f : PpSt → PpSt) : (s.modPp k f).link = s.link := rfl
@[simp] theorem State.modPp_cfeCfg (s : State) (k : Nat) (f : PpSt → PpSt) : (s.modPp k f).cfeCfg = s.cfeCfg := rfl
@[simp] theorem State.modPp_cfgReplaced (s : State) (k : Nat) (f : PpSt → PpSt) : (s.modPp k f).cfgReplaced = s.cfgReplaced := rfl
@[simp] theorem State.modPp_cfe (s : State) (k : Nat) (f : PpSt → PpSt) : (s.modPp k f).cfe = s.cfe := rfl
@[simp] theorem State.modPp_fe (s : State) (k : Nat) (f : PpSt → PpSt) : (s.modPp k f).fe = s.fe := rfl
@[simp] theorem State.modPp_meas (s : State) (k : Nat) (f : PpSt → PpSt) : (s.modPp k f).meas = s.meas := rfl
@[simp] theorem State.modPp_cells (s : State) (k : Nat) (f : PpSt → PpSt) : (s.modPp k f).cells = s.cells := rfl
@[simp] theorem State.modPp_aux (s : State) (k : Nat) (f : PpSt → PpSt) : (s.modPp k f).aux = s.aux := rfl
@[simp] theorem State.modPp_th (s : State) (k : Nat) (f : PpSt → PpSt) : (s.modPp k f).th = s.th := rfl
@[simp] theorem State.modPp_herdTab (s : State) (k : Nat) (f : PpSt → PpSt) : (s.modPp k f).herdTab = s.herdTab := rfl
@[simp] theorem State.modPp_mkCell (s : State) (k : Nat) (f : PpSt → PpSt) : (s.modPp k f).mkCell = s.mkCell := rfl
@[simp] theorem State.modPp_mkTh (s : State) (k : Nat) (f : PpSt → PpSt) : (s.modPp k f).mkTh = s.mkTh := rfl
@[simp] theorem State.modPp_est (s : State) (k : Nat) (f : PpSt → PpSt) : (s.modPp k f).est = s.est := rfl
@[simp] theorem State.modPp_thm (s : State) (k : Nat) (f : PpSt → PpSt) : (s.modPp k f).thm = s.thm := rfl
@[simp] theorem State.modPp_herd (s : State) (k : Nat) (f : PpSt → PpSt) : (s.modPp k f).herd = s.herd := rfl
@[simp] theorem State.modPp_power (s : State) (k : Nat) (f : PpSt → PpSt) : (s.modPp k f).power = { s.power with port := tmod s.power.port k f } := rfl
@[simp] theorem State.modPp_prot (s : State) (k : Nat) (f : PpSt → PpSt) : (s.modPp k f).prot = s.prot := rfl
@[simp] theorem State.modPp_dsp (s : State) (k : Nat) (f : PpSt → PpSt) : (s.modPp k f).dsp = s.dsp := rfl
@[simp] theorem State.modPp_grz (s : State) (k : Nat) (f : PpSt → PpSt) : (s.modPp k f).grz = s.grz := rfl
@[simp] theorem State.modPp_pair (s : State) (k : Nat) (f : PpSt → PpSt) : (s.modPp k f).pair = s.pair := rfl
@[simp] theorem State.modPp_site (s : State) (k : Nat) (f : PpSt → PpSt) : (s.modPp k f).site = s.site := rfl
@[simp] theorem State.modPp_ledgerOther (s : State) (k : Nat) (f : PpSt → PpSt) : (s.modPp k f).ledgerOther = s.ledgerOther := rfl
@[simp] theorem State.modPp_bus (s : State) (k : Nat) (f : PpSt → PpSt) : (s.modPp k f).bus = s.bus := rfl
@[simp] theorem State.modPp_tw (s : State) (k : Nat) (f : PpSt → PpSt) : (s.modPp k f).tw = s.tw := rfl
@[simp] theorem State.modPp_cfg (s : State) (k : Nat) (f : PpSt → PpSt) : (s.modPp k f).cfg = s.cfg := rfl
@[simp] theorem State.modPp_upd (s : State) (k : Nat) (f : PpSt → PpSt) : (s.modPp k f).upd = s.upd := rfl
@[simp] theorem State.modPp_mem (s : State) (k : Nat) (f : PpSt → PpSt) : (s.modPp k f).mem = s.mem := rfl
@[simp] theorem State.modPp_jnl (s : State) (k : Nat) (f : PpSt → PpSt) : (s.modPp k f).jnl = s.jnl := rfl
@[simp] theorem State.modPp_acc (s : State) (k : Nat) (f : PpSt → PpSt) : (s.modPp k f).acc = s.acc := rfl
@[simp] theorem State.modPp_psv (s : State) (k : Nat) (f : PpSt → PpSt) : (s.modPp k f).psv = s.psv := rfl
@[simp] theorem State.modPp_pending (s : State) (k : Nat) (f : PpSt → PpSt) : (s.modPp k f).pending = s.pending := rfl
@[simp] theorem State.modPp_free (s : State) (k : Nat) (f : PpSt → PpSt) : (s.modPp k f).free = s.free := rfl
@[simp] theorem State.modPp_now (s : State) (k : Nat) (f : PpSt → PpSt) : (s.modPp k f).now = s.now := rfl
@[simp] theorem State.modPp_str (s : State) (k : Nat) (f : PpSt → PpSt) (j : Nat) : (s.modPp k f).str j = s.str j := rfl
@[simp] theorem State.modPp_lnk (s : State) (k : Nat) (f : PpSt → PpSt) (j : Nat) : (s.modPp k f).lnk j = s.lnk j := rfl
@[simp] theorem State.modPp_fee (s : State) (k : Nat) (f : PpSt → PpSt) (j : Nat) : (s.modPp k f).fee j = s.fee j := rfl
@[simp] theorem State.modPp_pp (s : State) (k : Nat) (f : PpSt → PpSt) (j : Nat) :
    (s.modPp k f).pp j = if j = k then f (s.pp k) else s.pp j := tget_tmod _ _ _ _
@[simp] theorem State.modPp_pst (s : State) (k : Nat) (f : PpSt → PpSt) (j : Nat) : (s.modPp k f).pst j = s.pst j := rfl
@[simp] theorem State.modPp_page (s : State) (k : Nat) (f : PpSt → PpSt) (j : Nat) : (s.modPp k f).page j = s.page j := rfl

/-! ### `modPst` -/

@[simp] theorem State.modPst_sys (s : State) (k : Nat) (f : ProtStr → ProtStr) : (s.modPst k f).sys = s.sys := rfl
@[simp] theorem State.modPst_time (s : State) (k : Nat) (f : ProtStr → ProtStr) : (s.modPst k f).time = s.time := rfl
@[simp] theorem State.modPst_mode (s : State) (k : Nat) (f : ProtStr → ProtStr) : (s.modPst k f).mode = s.mode := rfl
@[simp] theorem State.modPst_linkCfg (s : State) (k : Nat) (f : ProtStr → ProtStr) : (s.modPst k f).linkCfg = s.linkCfg := rfl
@[simp] theorem State.modPst_link (s : State) (k : Nat) (f : ProtStr → ProtStr) : (s.modPst k f).link = s.link := rfl
@[simp] theorem State.modPst_cfeCfg (s : State) (k : Nat) (f : ProtStr → ProtStr) : (s.modPst k f).cfeCfg = s.cfeCfg := rfl
@[simp] theorem State.modPst_cfgReplaced (s : State) (k : Nat) (f : ProtStr → ProtStr) : (s.modPst k f).cfgReplaced = s.cfgReplaced := rfl
@[simp] theorem State.modPst_cfe (s : State) (k : Nat) (f : ProtStr → ProtStr) : (s.modPst k f).cfe = s.cfe := rfl
@[simp] theorem State.modPst_fe (s : State) (k : Nat) (f : ProtStr → ProtStr) : (s.modPst k f).fe = s.fe := rfl
@[simp] theorem State.modPst_meas (s : State) (k : Nat) (f : ProtStr → ProtStr) : (s.modPst k f).meas = s.meas := rfl
@[simp] theorem State.modPst_cells (s : State) (k : Nat) (f : ProtStr → ProtStr) : (s.modPst k f).cells = s.cells := rfl
@[simp] theorem State.modPst_aux (s : State) (k : Nat) (f : ProtStr → ProtStr) : (s.modPst k f).aux = s.aux := rfl
@[simp] theorem State.modPst_th (s : State) (k : Nat) (f : ProtStr → ProtStr) : (s.modPst k f).th = s.th := rfl
@[simp] theorem State.modPst_herdTab (s : State) (k : Nat) (f : ProtStr → ProtStr) : (s.modPst k f).herdTab = s.herdTab := rfl
@[simp] theorem State.modPst_mkCell (s : State) (k : Nat) (f : ProtStr → ProtStr) : (s.modPst k f).mkCell = s.mkCell := rfl
@[simp] theorem State.modPst_mkTh (s : State) (k : Nat) (f : ProtStr → ProtStr) : (s.modPst k f).mkTh = s.mkTh := rfl
@[simp] theorem State.modPst_est (s : State) (k : Nat) (f : ProtStr → ProtStr) : (s.modPst k f).est = s.est := rfl
@[simp] theorem State.modPst_thm (s : State) (k : Nat) (f : ProtStr → ProtStr) : (s.modPst k f).thm = s.thm := rfl
@[simp] theorem State.modPst_herd (s : State) (k : Nat) (f : ProtStr → ProtStr) : (s.modPst k f).herd = s.herd := rfl
@[simp] theorem State.modPst_power (s : State) (k : Nat) (f : ProtStr → ProtStr) : (s.modPst k f).power = s.power := rfl
@[simp] theorem State.modPst_prot (s : State) (k : Nat) (f : ProtStr → ProtStr) : (s.modPst k f).prot = { s.prot with str := tmod s.prot.str k f } := rfl
@[simp] theorem State.modPst_dsp (s : State) (k : Nat) (f : ProtStr → ProtStr) : (s.modPst k f).dsp = s.dsp := rfl
@[simp] theorem State.modPst_grz (s : State) (k : Nat) (f : ProtStr → ProtStr) : (s.modPst k f).grz = s.grz := rfl
@[simp] theorem State.modPst_pair (s : State) (k : Nat) (f : ProtStr → ProtStr) : (s.modPst k f).pair = s.pair := rfl
@[simp] theorem State.modPst_site (s : State) (k : Nat) (f : ProtStr → ProtStr) : (s.modPst k f).site = s.site := rfl
@[simp] theorem State.modPst_ledgerOther (s : State) (k : Nat) (f : ProtStr → ProtStr) : (s.modPst k f).ledgerOther = s.ledgerOther := rfl
@[simp] theorem State.modPst_bus (s : State) (k : Nat) (f : ProtStr → ProtStr) : (s.modPst k f).bus = s.bus := rfl
@[simp] theorem State.modPst_tw (s : State) (k : Nat) (f : ProtStr → ProtStr) : (s.modPst k f).tw = s.tw := rfl
@[simp] theorem State.modPst_cfg (s : State) (k : Nat) (f : ProtStr → ProtStr) : (s.modPst k f).cfg = s.cfg := rfl
@[simp] theorem State.modPst_upd (s : State) (k : Nat) (f : ProtStr → ProtStr) : (s.modPst k f).upd = s.upd := rfl
@[simp] theorem State.modPst_mem (s : State) (k : Nat) (f : ProtStr → ProtStr) : (s.modPst k f).mem = s.mem := rfl
@[simp] theorem State.modPst_jnl (s : State) (k : Nat) (f : ProtStr → ProtStr) : (s.modPst k f).jnl = s.jnl := rfl
@[simp] theorem State.modPst_acc (s : State) (k : Nat) (f : ProtStr → ProtStr) : (s.modPst k f).acc = s.acc := rfl
@[simp] theorem State.modPst_psv (s : State) (k : Nat) (f : ProtStr → ProtStr) : (s.modPst k f).psv = s.psv := rfl
@[simp] theorem State.modPst_pending (s : State) (k : Nat) (f : ProtStr → ProtStr) : (s.modPst k f).pending = s.pending := rfl
@[simp] theorem State.modPst_free (s : State) (k : Nat) (f : ProtStr → ProtStr) : (s.modPst k f).free = s.free := rfl
@[simp] theorem State.modPst_now (s : State) (k : Nat) (f : ProtStr → ProtStr) : (s.modPst k f).now = s.now := rfl
@[simp] theorem State.modPst_str (s : State) (k : Nat) (f : ProtStr → ProtStr) (j : Nat) : (s.modPst k f).str j = s.str j := rfl
@[simp] theorem State.modPst_lnk (s : State) (k : Nat) (f : ProtStr → ProtStr) (j : Nat) : (s.modPst k f).lnk j = s.lnk j := rfl
@[simp] theorem State.modPst_fee (s : State) (k : Nat) (f : ProtStr → ProtStr) (j : Nat) : (s.modPst k f).fee j = s.fee j := rfl
@[simp] theorem State.modPst_pp (s : State) (k : Nat) (f : ProtStr → ProtStr) (j : Nat) : (s.modPst k f).pp j = s.pp j := rfl
@[simp] theorem State.modPst_pst (s : State) (k : Nat) (f : ProtStr → ProtStr) (j : Nat) :
    (s.modPst k f).pst j = if j = k then f (s.pst k) else s.pst j := tget_tmod _ _ _ _
@[simp] theorem State.modPst_page (s : State) (k : Nat) (f : ProtStr → ProtStr) (j : Nat) : (s.modPst k f).page j = s.page j := rfl

/-! ### `modMf` -/

@[simp] theorem State.modMf_sys (s : State) (k : Nat) (f : FeMeas → FeMeas) : (s.modMf k f).sys = s.sys := rfl
@[simp] theorem State.modMf_time (s : State) (k : Nat) (f : FeMeas → FeMeas) : (s.modMf k f).time = s.time := rfl
@[simp] theorem State.modMf_mode (s : State) (k : Nat) (f : FeMeas → FeMeas) : (s.modMf k f).mode = s.mode := rfl
@[simp] theorem State.modMf_linkCfg (s : State) (k : Nat) (f : FeMeas → FeMeas) : (s.modMf k f).linkCfg = s.linkCfg := rfl
@[simp] theorem State.modMf_link (s : State) (k : Nat) (f : FeMeas → FeMeas) : (s.modMf k f).link = s.link := rfl
@[simp] theorem State.modMf_cfeCfg (s : State) (k : Nat) (f : FeMeas → FeMeas) : (s.modMf k f).cfeCfg = s.cfeCfg := rfl
@[simp] theorem State.modMf_cfgReplaced (s : State) (k : Nat) (f : FeMeas → FeMeas) : (s.modMf k f).cfgReplaced = s.cfgReplaced := rfl
@[simp] theorem State.modMf_cfe (s : State) (k : Nat) (f : FeMeas → FeMeas) : (s.modMf k f).cfe = s.cfe := rfl
@[simp] theorem State.modMf_fe (s : State) (k : Nat) (f : FeMeas → FeMeas) : (s.modMf k f).fe = s.fe := rfl
@[simp] theorem State.modMf_meas (s : State) (k : Nat) (f : FeMeas → FeMeas) : (s.modMf k f).meas = { s.meas with fe := tmod s.meas.fe k f } := rfl
@[simp] theorem State.modMf_cells (s : State) (k : Nat) (f : FeMeas → FeMeas) : (s.modMf k f).cells = s.cells := rfl
@[simp] theorem State.modMf_aux (s : State) (k : Nat) (f : FeMeas → FeMeas) : (s.modMf k f).aux = s.aux := rfl
@[simp] theorem State.modMf_th (s : State) (k : Nat) (f : FeMeas → FeMeas) : (s.modMf k f).th = s.th := rfl
@[simp] theorem State.modMf_herdTab (s : State) (k : Nat) (f : FeMeas → FeMeas) : (s.modMf k f).herdTab = s.herdTab := rfl
@[simp] theorem State.modMf_mkCell (s : State) (k : Nat) (f : FeMeas → FeMeas) : (s.modMf k f).mkCell = s.mkCell := rfl
@[simp] theorem State.modMf_mkTh (s : State) (k : Nat) (f : FeMeas → FeMeas) : (s.modMf k f).mkTh = s.mkTh := rfl
@[simp] theorem State.modMf_est (s : State) (k : Nat) (f : FeMeas → FeMeas) : (s.modMf k f).est = s.est := rfl
@[simp] theorem State.modMf_thm (s : State) (k : Nat) (f : FeMeas → FeMeas) : (s.modMf k f).thm = s.thm := rfl
@[simp] theorem State.modMf_herd (s : State) (k : Nat) (f : FeMeas → FeMeas) : (s.modMf k f).herd = s.herd := rfl
@[simp] theorem State.modMf_power (s : State) (k : Nat) (f : FeMeas → FeMeas) : (s.modMf k f).power = s.power := rfl
@[simp] theorem State.modMf_prot (s : State) (k : Nat) (f : FeMeas → FeMeas) : (s.modMf k f).prot = s.prot := rfl
@[simp] theorem State.modMf_dsp (s : State) (k : Nat) (f : FeMeas → FeMeas) : (s.modMf k f).dsp = s.dsp := rfl
@[simp] theorem State.modMf_grz (s : State) (k : Nat) (f : FeMeas → FeMeas) : (s.modMf k f).grz = s.grz := rfl
@[simp] theorem State.modMf_pair (s : State) (k : Nat) (f : FeMeas → FeMeas) : (s.modMf k f).pair = s.pair := rfl
@[simp] theorem State.modMf_site (s : State) (k : Nat) (f : FeMeas → FeMeas) : (s.modMf k f).site = s.site := rfl
@[simp] theorem State.modMf_ledgerOther (s : State) (k : Nat) (f : FeMeas → FeMeas) : (s.modMf k f).ledgerOther = s.ledgerOther := rfl
@[simp] theorem State.modMf_bus (s : State) (k : Nat) (f : FeMeas → FeMeas) : (s.modMf k f).bus = s.bus := rfl
@[simp] theorem State.modMf_tw (s : State) (k : Nat) (f : FeMeas → FeMeas) : (s.modMf k f).tw = s.tw := rfl
@[simp] theorem State.modMf_cfg (s : State) (k : Nat) (f : FeMeas → FeMeas) : (s.modMf k f).cfg = s.cfg := rfl
@[simp] theorem State.modMf_upd (s : State) (k : Nat) (f : FeMeas → FeMeas) : (s.modMf k f).upd = s.upd := rfl
@[simp] theorem State.modMf_mem (s : State) (k : Nat) (f : FeMeas → FeMeas) : (s.modMf k f).mem = s.mem := rfl
@[simp] theorem State.modMf_jnl (s : State) (k : Nat) (f : FeMeas → FeMeas) : (s.modMf k f).jnl = s.jnl := rfl
@[simp] theorem State.modMf_acc (s : State) (k : Nat) (f : FeMeas → FeMeas) : (s.modMf k f).acc = s.acc := rfl
@[simp] theorem State.modMf_psv (s : State) (k : Nat) (f : FeMeas → FeMeas) : (s.modMf k f).psv = s.psv := rfl
@[simp] theorem State.modMf_pending (s : State) (k : Nat) (f : FeMeas → FeMeas) : (s.modMf k f).pending = s.pending := rfl
@[simp] theorem State.modMf_free (s : State) (k : Nat) (f : FeMeas → FeMeas) : (s.modMf k f).free = s.free := rfl
@[simp] theorem State.modMf_now (s : State) (k : Nat) (f : FeMeas → FeMeas) : (s.modMf k f).now = s.now := rfl
@[simp] theorem State.modMf_str (s : State) (k : Nat) (f : FeMeas → FeMeas) (j : Nat) : (s.modMf k f).str j = s.str j := rfl
@[simp] theorem State.modMf_lnk (s : State) (k : Nat) (f : FeMeas → FeMeas) (j : Nat) : (s.modMf k f).lnk j = s.lnk j := rfl
@[simp] theorem State.modMf_fee (s : State) (k : Nat) (f : FeMeas → FeMeas) (j : Nat) : (s.modMf k f).fee j = s.fee j := rfl
@[simp] theorem State.modMf_pp (s : State) (k : Nat) (f : FeMeas → FeMeas) (j : Nat) : (s.modMf k f).pp j = s.pp j := rfl
@[simp] theorem State.modMf_pst (s : State) (k : Nat) (f : FeMeas → FeMeas) (j : Nat) : (s.modMf k f).pst j = s.pst j := rfl
@[simp] theorem State.modMf_page (s : State) (k : Nat) (f : FeMeas → FeMeas) (j : Nat) : (s.modMf k f).page j = s.page j := rfl

/-! ### `modMs` -/

@[simp] theorem State.modMs_sys (s : State) (k : Nat) (f : StrMeas → StrMeas) : (s.modMs k f).sys = s.sys := rfl
@[simp] theorem State.modMs_time (s : State) (k : Nat) (f : StrMeas → StrMeas) : (s.modMs k f).time = s.time := rfl
@[simp] theorem State.modMs_mode (s : State) (k : Nat) (f : StrMeas → StrMeas) : (s.modMs k f).mode = s.mode := rfl
@[simp] theorem State.modMs_linkCfg (s : State) (k : Nat) (f : StrMeas → StrMeas) : (s.modMs k f).linkCfg = s.linkCfg := rfl
@[simp] theorem State.modMs_link (s : State) (k : Nat) (f : StrMeas → StrMeas) : (s.modMs k f).link = s.link := rfl
@[simp] theorem State.modMs_cfeCfg (s : State) (k : Nat) (f : StrMeas → StrMeas) : (s.modMs k f).cfeCfg = s.cfeCfg := rfl
@[simp] theorem State.modMs_cfgReplaced (s : State) (k : Nat) (f : StrMeas → StrMeas) : (s.modMs k f).cfgReplaced = s.cfgReplaced := rfl
@[simp] theorem State.modMs_cfe (s : State) (k : Nat) (f : StrMeas → StrMeas) : (s.modMs k f).cfe = s.cfe := rfl
@[simp] theorem State.modMs_fe (s : State) (k : Nat) (f : StrMeas → StrMeas) : (s.modMs k f).fe = s.fe := rfl
@[simp] theorem State.modMs_meas (s : State) (k : Nat) (f : StrMeas → StrMeas) : (s.modMs k f).meas = { s.meas with str := tmod s.meas.str k f } := rfl
@[simp] theorem State.modMs_cells (s : State) (k : Nat) (f : StrMeas → StrMeas) : (s.modMs k f).cells = s.cells := rfl
@[simp] theorem State.modMs_aux (s : State) (k : Nat) (f : StrMeas → StrMeas) : (s.modMs k f).aux = s.aux := rfl
@[simp] theorem State.modMs_th (s : State) (k : Nat) (f : StrMeas → StrMeas) : (s.modMs k f).th = s.th := rfl
@[simp] theorem State.modMs_herdTab (s : State) (k : Nat) (f : StrMeas → StrMeas) : (s.modMs k f).herdTab = s.herdTab := rfl
@[simp] theorem State.modMs_mkCell (s : State) (k : Nat) (f : StrMeas → StrMeas) : (s.modMs k f).mkCell = s.mkCell := rfl
@[simp] theorem State.modMs_mkTh (s : State) (k : Nat) (f : StrMeas → StrMeas) : (s.modMs k f).mkTh = s.mkTh := rfl
@[simp] theorem State.modMs_est (s : State) (k : Nat) (f : StrMeas → StrMeas) : (s.modMs k f).est = s.est := rfl
@[simp] theorem State.modMs_thm (s : State) (k : Nat) (f : StrMeas → StrMeas) : (s.modMs k f).thm = s.thm := rfl
@[simp] theorem State.modMs_herd (s : State) (k : Nat) (f : StrMeas → StrMeas) : (s.modMs k f).herd = s.herd := rfl
@[simp] theorem State.modMs_power (s : State) (k : Nat) (f : StrMeas → StrMeas) : (s.modMs k f).power = s.power := rfl
@[simp] theorem State.modMs_prot (s : State) (k : Nat) (f : StrMeas → StrMeas) : (s.modMs k f).prot = s.prot := rfl
@[simp] theorem State.modMs_dsp (s : State) (k : Nat) (f : StrMeas → StrMeas) : (s.modMs k f).dsp = s.dsp := rfl
@[simp] theorem State.modMs_grz (s : State) (k : Nat) (f : StrMeas → StrMeas) : (s.modMs k f).grz = s.grz := rfl
@[simp] theorem State.modMs_pair (s : State) (k : Nat) (f : StrMeas → StrMeas) : (s.modMs k f).pair = s.pair := rfl
@[simp] theorem State.modMs_site (s : State) (k : Nat) (f : StrMeas → StrMeas) : (s.modMs k f).site = s.site := rfl
@[simp] theorem State.modMs_ledgerOther (s : State) (k : Nat) (f : StrMeas → StrMeas) : (s.modMs k f).ledgerOther = s.ledgerOther := rfl
@[simp] theorem State.modMs_bus (s : State) (k : Nat) (f : StrMeas → StrMeas) : (s.modMs k f).bus = s.bus := rfl
@[simp] theorem State.modMs_tw (s : State) (k : Nat) (f : StrMeas → StrMeas) : (s.modMs k f).tw = s.tw := rfl
@[simp] theorem State.modMs_cfg (s : State) (k : Nat) (f : StrMeas → StrMeas) : (s.modMs k f).cfg = s.cfg := rfl
@[simp] theorem State.modMs_upd (s : State) (k : Nat) (f : StrMeas → StrMeas) : (s.modMs k f).upd = s.upd := rfl
@[simp] theorem State.modMs_mem (s : State) (k : Nat) (f : StrMeas → StrMeas) : (s.modMs k f).mem = s.mem := rfl
@[simp] theorem State.modMs_jnl (s : State) (k : Nat) (f : StrMeas → StrMeas) : (s.modMs k f).jnl = s.jnl := rfl
@[simp] theorem State.modMs_acc (s : State) (k : Nat) (f : StrMeas → StrMeas) : (s.modMs k f).acc = s.acc := rfl
@[simp] theorem State.modMs_psv (s : State) (k : Nat) (f : StrMeas → StrMeas) : (s.modMs k f).psv = s.psv := rfl
@[simp] theorem State.modMs_pending (s : State) (k : Nat) (f : StrMeas → StrMeas) : (s.modMs k f).pending = s.pending := rfl
@[simp] theorem State.modMs_free (s : State) (k : Nat) (f : StrMeas → StrMeas) : (s.modMs k f).free = s.free := rfl
@[simp] theorem State.modMs_now (s : State) (k : Nat) (f : StrMeas → StrMeas) : (s.modMs k f).now = s.now := rfl
@[simp] theorem State.modMs_str (s : State) (k : Nat) (f : StrMeas → StrMeas) (j : Nat) : (s.modMs k f).str j = s.str j := rfl
@[simp] theorem State.modMs_lnk (s : State) (k : Nat) (f : StrMeas → StrMeas) (j : Nat) : (s.modMs k f).lnk j = s.lnk j := rfl
@[simp] theorem State.modMs_fee (s : State) (k : Nat) (f : StrMeas → StrMeas) (j : Nat) : (s.modMs k f).fee j = s.fee j := rfl
@[simp] theorem State.modMs_pp (s : State) (k : Nat) (f : StrMeas → StrMeas) (j : Nat) : (s.modMs k f).pp j = s.pp j := rfl
@[simp] theorem State.modMs_pst (s : State) (k : Nat) (f : StrMeas → StrMeas) (j : Nat) : (s.modMs k f).pst j = s.pst j := rfl
@[simp] theorem State.modMs_page (s : State) (k : Nat) (f : StrMeas → StrMeas) (j : Nat) : (s.modMs k f).page j = s.page j := rfl

/-! ### `modPage` -/

@[simp] theorem State.modPage_sys (s : State) (k : Nat) (f : Page → Page) : (s.modPage k f).sys = s.sys := rfl
@[simp] theorem State.modPage_time (s : State) (k : Nat) (f : Page → Page) : (s.modPage k f).time = s.time := rfl
@[simp] theorem State.modPage_mode (s : State) (k : Nat) (f : Page → Page) : (s.modPage k f).mode = s.mode := rfl
@[simp] theorem State.modPage_linkCfg (s : State) (k : Nat) (f : Page → Page) : (s.modPage k f).linkCfg = s.linkCfg := rfl
@[simp] theorem State.modPage_link (s : State) (k : Nat) (f : Page → Page) : (s.modPage k f).link = s.link := rfl
@[simp] theorem State.modPage_cfeCfg (s : State) (k : Nat) (f : Page → Page) : (s.modPage k f).cfeCfg = s.cfeCfg := rfl
@[simp] theorem State.modPage_cfgReplaced (s : State) (k : Nat) (f : Page → Page) : (s.modPage k f).cfgReplaced = s.cfgReplaced := rfl
@[simp] theorem State.modPage_cfe (s : State) (k : Nat) (f : Page → Page) : (s.modPage k f).cfe = s.cfe := rfl
@[simp] theorem State.modPage_fe (s : State) (k : Nat) (f : Page → Page) : (s.modPage k f).fe = s.fe := rfl
@[simp] theorem State.modPage_meas (s : State) (k : Nat) (f : Page → Page) : (s.modPage k f).meas = s.meas := rfl
@[simp] theorem State.modPage_cells (s : State) (k : Nat) (f : Page → Page) : (s.modPage k f).cells = s.cells := rfl
@[simp] theorem State.modPage_aux (s : State) (k : Nat) (f : Page → Page) : (s.modPage k f).aux = s.aux := rfl
@[simp] theorem State.modPage_th (s : State) (k : Nat) (f : Page → Page) : (s.modPage k f).th = s.th := rfl
@[simp] theorem State.modPage_herdTab (s : State) (k : Nat) (f : Page → Page) : (s.modPage k f).herdTab = s.herdTab := rfl
@[simp] theorem State.modPage_mkCell (s : State) (k : Nat) (f : Page → Page) : (s.modPage k f).mkCell = s.mkCell := rfl
@[simp] theorem State.modPage_mkTh (s : State) (k : Nat) (f : Page → Page) : (s.modPage k f).mkTh = s.mkTh := rfl
@[simp] theorem State.modPage_est (s : State) (k : Nat) (f : Page → Page) : (s.modPage k f).est = s.est := rfl
@[simp] theorem State.modPage_thm (s : State) (k : Nat) (f : Page → Page) : (s.modPage k f).thm = s.thm := rfl
@[simp] theorem State.modPage_herd (s : State) (k : Nat) (f : Page → Page) : (s.modPage k f).herd = s.herd := rfl
@[simp] theorem State.modPage_power (s : State) (k : Nat) (f : Page → Page) : (s.modPage k f).power = s.power := rfl
@[simp] theorem State.modPage_prot (s : State) (k : Nat) (f : Page → Page) : (s.modPage k f).prot = s.prot := rfl
@[simp] theorem State.modPage_dsp (s : State) (k : Nat) (f : Page → Page) : (s.modPage k f).dsp = s.dsp := rfl
@[simp] theorem State.modPage_grz (s : State) (k : Nat) (f : Page → Page) : (s.modPage k f).grz = s.grz := rfl
@[simp] theorem State.modPage_pair (s : State) (k : Nat) (f : Page → Page) : (s.modPage k f).pair = s.pair := rfl
@[simp] theorem State.modPage_site (s : State) (k : Nat) (f : Page → Page) : (s.modPage k f).site = { s.site with pages := tmod s.site.pages k f } := rfl
@[simp] theorem State.modPage_ledgerOther (s : State) (k : Nat) (f : Page → Page) : (s.modPage k f).ledgerOther = s.ledgerOther := rfl
@[simp] theorem State.modPage_bus (s : State) (k : Nat) (f : Page → Page) : (s.modPage k f).bus = s.bus := rfl
@[simp] theorem State.modPage_tw (s : State) (k : Nat) (f : Page → Page) : (s.modPage k f).tw = s.tw := rfl
@[simp] theorem State.modPage_cfg (s : State) (k : Nat) (f : Page → Page) : (s.modPage k f).cfg = s.cfg := rfl
@[simp] theorem State.modPage_upd (s : State) (k : Nat) (f : Page → Page) : (s.modPage k f).upd = s.upd := rfl
@[simp] theorem State.modPage_mem (s : State) (k : Nat) (f : Page → Page) : (s.modPage k f).mem = s.mem := rfl
@[simp] theorem State.modPage_jnl (s : State) (k : Nat) (f : Page → Page) : (s.modPage k f).jnl = s.jnl := rfl
@[simp] theorem State.modPage_acc (s : State) (k : Nat) (f : Page → Page) : (s.modPage k f).acc = s.acc := rfl
@[simp] theorem State.modPage_psv (s : State) (k : Nat) (f : Page → Page) : (s.modPage k f).psv = s.psv := rfl
@[simp] theorem State.modPage_pending (s : State) (k : Nat) (f : Page → Page) : (s.modPage k f).pending = s.pending := rfl
@[simp] theorem State.modPage_free (s : State) (k : Nat) (f : Page → Page) : (s.modPage k f).free = s.free := rfl
@[simp] theorem State.modPage_now (s : State) (k : Nat) (f : Page → Page) : (s.modPage k f).now = s.now := rfl
@[simp] theorem State.modPage_str (s : State) (k : Nat) (f : Page → Page) (j : Nat) : (s.modPage k f).str j = s.str j := rfl
@[simp] theorem State.modPage_lnk (s : State) (k : Nat) (f : Page → Page) (j : Nat) : (s.modPage k f).lnk j = s.lnk j := rfl
@[simp] theorem State.modPage_fee (s : State) (k : Nat) (f : Page → Page) (j : Nat) : (s.modPage k f).fee j = s.fee j := rfl
@[simp] theorem State.modPage_pp (s : State) (k : Nat) (f : Page → Page) (j : Nat) : (s.modPage k f).pp j = s.pp j := rfl
@[simp] theorem State.modPage_pst (s : State) (k : Nat) (f : Page → Page) (j : Nat) : (s.modPage k f).pst j = s.pst j := rfl
@[simp] theorem State.modPage_page (s : State) (k : Nat) (f : Page → Page) (j : Nat) :
    (s.modPage k f).page j = if j = k then f (s.page k) else s.page j := tget_tmod _ _ _ _

/-! ### `modHerd` -/

@[simp] theorem State.modHerd_sys (s : State) (k : Nat) (f : StrHerd → StrHerd) : (s.modHerd k f).sys = s.sys := rfl
@[simp] theorem State.modHerd_time (s : State) (k : Nat) (f : StrHerd → StrHerd) : (s.modHerd k f).time = s.time := rfl
@[simp] theorem State.modHerd_mode (s : State) (k : Nat) (f : StrHerd → StrHerd) : (s.modHerd k f).mode = s.mode := rfl
@[simp] theorem State.modHerd_linkCfg (s : State) (k : Nat) (f : StrHerd → StrHerd) : (s.modHerd k f).linkCfg = s.linkCfg := rfl
@[simp] theorem State.modHerd_link (s : State) (k : Nat) (f : StrHerd → StrHerd) : (s.modHerd k f).link = s.link := rfl
@[simp] theorem State.modHerd_cfeCfg (s : State) (k : Nat) (f : StrHerd → StrHerd) : (s.modHerd k f).cfeCfg = s.cfeCfg := rfl
@[simp] theorem State.modHerd_cfgReplaced (s : State) (k : Nat) (f : StrHerd → StrHerd) : (s.modHerd k f).cfgReplaced = s.cfgReplaced := rfl
@[simp] theorem State.modHerd_cfe (s : State) (k : Nat) (f : StrHerd → StrHerd) : (s.modHerd k f).cfe = s.cfe := rfl
@[simp] theorem State.modHerd_fe (s : State) (k : Nat) (f : StrHerd → StrHerd) : (s.modHerd k f).fe = s.fe := rfl
@[simp] theorem State.modHerd_meas (s : State) (k : Nat) (f : StrHerd → StrHerd) : (s.modHerd k f).meas = s.meas := rfl
@[simp] theorem State.modHerd_cells (s : State) (k : Nat) (f : StrHerd → StrHerd) : (s.modHerd k f).cells = s.cells := rfl
@[simp] theorem State.modHerd_aux (s : State) (k : Nat) (f : StrHerd → StrHerd) : (s.modHerd k f).aux = s.aux := rfl
@[simp] theorem State.modHerd_th (s : State) (k : Nat) (f : StrHerd → StrHerd) : (s.modHerd k f).th = s.th := rfl
@[simp] theorem State.modHerd_herdTab (s : State) (k : Nat) (f : StrHerd → StrHerd) : (s.modHerd k f).herdTab = s.herdTab := rfl
@[simp] theorem State.modHerd_mkCell (s : State) (k : Nat) (f : StrHerd → StrHerd) : (s.modHerd k f).mkCell = s.mkCell := rfl
@[simp] theorem State.modHerd_mkTh (s : State) (k : Nat) (f : StrHerd → StrHerd) : (s.modHerd k f).mkTh = s.mkTh := rfl
@[simp] theorem State.modHerd_est (s : State) (k : Nat) (f : StrHerd → StrHerd) : (s.modHerd k f).est = s.est := rfl
@[simp] theorem State.modHerd_thm (s : State) (k : Nat) (f : StrHerd → StrHerd) : (s.modHerd k f).thm = s.thm := rfl
@[simp] theorem State.modHerd_herd (s : State) (k : Nat) (f : StrHerd → StrHerd) : (s.modHerd k f).herd = { s.herd with str := tmod s.herd.str k f } := rfl
@[simp] theorem State.modHerd_power (s : State) (k : Nat) (f : StrHerd → StrHerd) : (s.modHerd k f).power = s.power := rfl
@[simp] theorem State.modHerd_prot (s : State) (k : Nat) (f : StrHerd → StrHerd) : (s.modHerd k f).prot = s.prot := rfl
@[simp] theorem State.modHerd_dsp (s : State) (k : Nat) (f : StrHerd → StrHerd) : (s.modHerd k f).dsp = s.dsp := rfl
@[simp] theorem State.modHerd_grz (s : State) (k : Nat) (f : StrHerd → StrHerd) : (s.modHerd k f).grz = s.grz := rfl
@[simp] theorem State.modHerd_pair (s : State) (k : Nat) (f : StrHerd → StrHerd) : (s.modHerd k f).pair = s.pair := rfl
@[simp] theorem State.modHerd_site (s : State) (k : Nat) (f : StrHerd → StrHerd) : (s.modHerd k f).site = s.site := rfl
@[simp] theorem State.modHerd_ledgerOther (s : State) (k : Nat) (f : StrHerd → StrHerd) : (s.modHerd k f).ledgerOther = s.ledgerOther := rfl
@[simp] theorem State.modHerd_bus (s : State) (k : Nat) (f : StrHerd → StrHerd) : (s.modHerd k f).bus = s.bus := rfl
@[simp] theorem State.modHerd_tw (s : State) (k : Nat) (f : StrHerd → StrHerd) : (s.modHerd k f).tw = s.tw := rfl
@[simp] theorem State.modHerd_cfg (s : State) (k : Nat) (f : StrHerd → StrHerd) : (s.modHerd k f).cfg = s.cfg := rfl
@[simp] theorem State.modHerd_upd (s : State) (k : Nat) (f : StrHerd → StrHerd) : (s.modHerd k f).upd = s.upd := rfl
@[simp] theorem State.modHerd_mem (s : State) (k : Nat) (f : StrHerd → StrHerd) : (s.modHerd k f).mem = s.mem := rfl
@[simp] theorem State.modHerd_jnl (s : State) (k : Nat) (f : StrHerd → StrHerd) : (s.modHerd k f).jnl = s.jnl := rfl
@[simp] theorem State.modHerd_acc (s : State) (k : Nat) (f : StrHerd → StrHerd) : (s.modHerd k f).acc = s.acc := rfl
@[simp] theorem State.modHerd_psv (s : State) (k : Nat) (f : StrHerd → StrHerd) : (s.modHerd k f).psv = s.psv := rfl
@[simp] theorem State.modHerd_pending (s : State) (k : Nat) (f : StrHerd → StrHerd) : (s.modHerd k f).pending = s.pending := rfl
@[simp] theorem State.modHerd_free (s : State) (k : Nat) (f : StrHerd → StrHerd) : (s.modHerd k f).free = s.free := rfl
@[simp] theorem State.modHerd_now (s : State) (k : Nat) (f : StrHerd → StrHerd) : (s.modHerd k f).now = s.now := rfl
@[simp] theorem State.modHerd_str (s : State) (k : Nat) (f : StrHerd → StrHerd) (j : Nat) : (s.modHerd k f).str j = s.str j := rfl
@[simp] theorem State.modHerd_lnk (s : State) (k : Nat) (f : StrHerd → StrHerd) (j : Nat) : (s.modHerd k f).lnk j = s.lnk j := rfl
@[simp] theorem State.modHerd_fee (s : State) (k : Nat) (f : StrHerd → StrHerd) (j : Nat) : (s.modHerd k f).fee j = s.fee j := rfl
@[simp] theorem State.modHerd_pp (s : State) (k : Nat) (f : StrHerd → StrHerd) (j : Nat) : (s.modHerd k f).pp j = s.pp j := rfl
@[simp] theorem State.modHerd_pst (s : State) (k : Nat) (f : StrHerd → StrHerd) (j : Nat) : (s.modHerd k f).pst j = s.pst j := rfl
@[simp] theorem State.modHerd_page (s : State) (k : Nat) (f : StrHerd → StrHerd) (j : Nat) : (s.modHerd k f).page j = s.page j := rfl

end Sys2Proof.Machine
end

