-- ==== Sys2Proof/Laws/Ledger.lean ====
section
/-! SUPPORT. The laws of the command ledger: where an entry stands, what moving it to a state does, and when a partner
command is carried out. -/

namespace Sys2Proof.Machine

/-- The entry a search by command ID finds. -/
theorem slotOf_cons (k : Nat) (v : LedgerEntry) (t : Tab LedgerEntry) (id : Word) :
    slotOf ((k, v) :: t) id = if v.id = id ∧ v.state ≠ .empty then some k else slotOf t id := by
  unfold slotOf
  by_cases h : v.id = id ∧ v.state ≠ .empty <;> simp [h]

theorem slotOf_ge {b : Nat} {t : Tab LedgerEntry} {id : Word} {k : Nat} (hw : twfFrom b t = true)
    (h : slotOf t id = some k) : b ≤ k := by
  induction t generalizing b with
  | nil => simp [slotOf] at h
  | cons e t ih =>
    obtain ⟨j, v⟩ := e
    rw [slotOf_cons] at h
    simp only [twfFrom, Bool.and_eq_true, decide_eq_true_eq] at hw
    split at h
    · cases h; exact hw.1.1
    · have := ih hw.2 h; omega

/-- The slot found holds an entry of the command ID. -/
theorem slotOf_entry {b : Nat} {t : Tab LedgerEntry} {id : Word} {k : Nat} (hw : twfFrom b t = true)
    (h : slotOf t id = some k) : (tget t k).id = id ∧ (tget t k).state ≠ .empty := by
  induction t generalizing b with
  | nil => simp [slotOf] at h
  | cons e t ih =>
    obtain ⟨j, v⟩ := e
    rw [slotOf_cons] at h
    simp only [twfFrom, Bool.and_eq_true, decide_eq_true_eq] at hw
    split at h
    · next hv => cases h; simpa [tget] using hv
    · have hk : j + 1 ≤ k := slotOf_ge hw.2 h
      have hne : ¬ k = j := by omega
      simp only [tget, hne, if_false]
      exact ih hw.2 h

/-- A write to the slot of a command leaves every search as it was, if the new entry carries the same ID. -/
theorem slotOf_tput {b : Nat} {t : Tab LedgerEntry} {id : Word} {k : Nat} {e : LedgerEntry} (hw : twfFrom b t = true)
    (h : slotOf t id = some k) (hid : e.id = id) (he : e.state ≠ .empty) (id' : Word) :
    slotOf (tput t k e) id' = slotOf t id' := by
  have hd : e ≠ default := fun x => he (by rw [x]; rfl)
  induction t generalizing b with
  | nil => simp [slotOf] at h
  | cons p t ih =>
    obtain ⟨j, v⟩ := p
    rw [slotOf_cons] at h
    simp only [twfFrom, Bool.and_eq_true, decide_eq_true_eq] at hw
    split at h
    · next hv =>
      cases h
      simp only [tput, if_true, hd, if_false, slotOf_cons, hid, he, ne_eq, not_false_eq_true, and_true]
      obtain ⟨rfl, hs⟩ := hv
      by_cases hi : v.id = id' <;> simp [hi, hs]
    · have hk : j + 1 ≤ k := slotOf_ge hw.2 h
      have h1 : ¬ k = j := by omega
      have h2 : ¬ (k < j ∧ e ≠ default) := by omega
      simp only [tput, h1, h2, if_false, slotOf_cons, ih hw.2 h]

theorem State.entry_slot {s : State} {id : Word} {e : LedgerEntry} (h : s.entry id = some e) :
    ∃ k, slotOf s.site.ledger id = some k ∧ tget s.site.ledger k = e := by
  simpa [State.entry, Option.map_eq_some_iff] using h

/-- An entry that is rewritten in its slot is read back, and the entries of other commands stay. -/
theorem State.entry_tput {s t : State} {id : Word} {k : Nat} {e : LedgerEntry} (hw : twf s.site.ledger = true)
    (h : slotOf s.site.ledger id = some k) (hid : e.id = id) (he : e.state ≠ .empty)
    (ht : t.site.ledger = tput s.site.ledger k e) :
    t.entry id = some e ∧ ∀ id', id' ≠ id → t.entry id' = s.entry id' := by
  constructor
  · simp [State.entry, ht, slotOf_tput hw h hid he, h]
  · intro id' hne
    simp only [State.entry, ht, slotOf_tput hw h hid he]
    cases hs : slotOf s.site.ledger id' with
    | none => rfl
    | some k' =>
      have hk : k' ≠ k := by
        rintro rfl
        exact hne ((slotOf_entry hw hs).1.symm.trans (slotOf_entry hw h).1)
      simp [tget_tput, hk]

theorem State.entry_congr {s t : State} (h : t.site.ledger = s.site.ledger) (id : Word) : t.entry id = s.entry id := by
  simp [State.entry, h]

theorem Frame.ledger_eq {W : List View} {s t : State} (h : Frame W s t) (hv : View.ledger ∉ W) :
    t.site.ledger = s.site.ledger := (h.same .ledger hv).1.symm

theorem Frame.entry {W : List View} {s t : State} (h : Frame W s t) (hv : View.ledger ∉ W) (id : Word) :
    t.entry id = s.entry id :=
  State.entry_congr (h.same .ledger hv).1.symm id

/-- Moving a command to a state writes its entry, and no other. -/
theorem State.cmdTo_entry {s : State} {id : Word} {e : LedgerEntry} (hw : twf s.site.ledger = true)
    (h : s.entry id = some e) {st : LedgerState} (hs : st ≠ .empty) (status : Status) (step : Nat) (detail : Bytes) :
    (s.cmdTo id st status step detail).entry id =
        some { e with state := st, status := status, step := step, detail := detail.take 192, changed := s.now } ∧
      (∀ id', id' ≠ id → (s.cmdTo id st status step detail).entry id' = s.entry id') ∧
      twf (s.cmdTo id st status step detail).site.ledger = true := by
  obtain ⟨k, hk, rfl⟩ := State.entry_slot h
  have hid := (slotOf_entry hw hk).1
  unfold State.cmdTo
  split
  · next hn => rw [hk] at hn; cases hn
  next k' hk' =>
  obtain rfl : k = k' := by rw [hk] at hk'; exact Option.some.inj hk'
  extract_lets _ e' _ s1 s2 s3
  have h1 : s1.site.ledger = tput s.site.ledger k e' := rfl
  have hid' : e'.id = id := hid
  have f2 : Frame [.pair, .site] s1 s2 := State.sendPairOpen_frame ..
  have f3 : Frame [.pair, .site, .jnl] s1 s3 :=
    .ite (.after (State.audit_frame ..) (f2.mono rfl) rfl) (f2.mono rfl)
  have f4 : ∀ u : State, Frame [.pair, .site, .jnl] s1 u → u.entry id = some e' ∧
      (∀ id', id' ≠ id → u.entry id' = s.entry id') ∧ twf u.site.ledger = true := by
    intro u f
    have hl : u.site.ledger = tput s.site.ledger k e' := (f.same .ledger (by decide)).1.symm.trans h1
    obtain ⟨a, b⟩ := State.entry_tput hw hk hid' hs hl
    exact ⟨a, b, hl ▸ twf_tput _ _ hw⟩
  exact f4 _ (.ite (.upd f3 rfl) f3)

/-- Beginning a command changes the step count and the digest of its entry alone. -/
theorem State.cmdBegin_entry {s : State} {id : Word} {e : LedgerEntry} (hw : twf s.site.ledger = true)
    (h : s.entry id = some e) (steps : Nat) :
    (∃ w, (s.cmdBegin id steps).entry id = some { e with steps := steps, before := w }) ∧
      (∀ id', id' ≠ id → (s.cmdBegin id steps).entry id' = s.entry id') ∧
      twf (s.cmdBegin id steps).site.ledger = true := by
  obtain ⟨k, hk, rfl⟩ := State.entry_slot h
  obtain ⟨hid, hs⟩ := slotOf_entry hw hk
  unfold State.cmdBegin
  simp only [hk]
  have g (e' : LedgerEntry) (he : e'.id = id) (hs' : e'.state ≠ .empty) :
      State.entry { s with site.ledger := tput s.site.ledger k e' } id = some e' ∧
      (∀ id', id' ≠ id → State.entry { s with site.ledger := tput s.site.ledger k e' } id' = s.entry id') :=
    State.entry_tput hw hk he hs' rfl
  exact ⟨⟨_, (g { tget s.site.ledger k with steps := steps, before := s.auditDigest (tget s.site.ledger k) } hid hs).1⟩,
    (g { tget s.site.ledger k with steps := steps, before := s.auditDigest (tget s.site.ledger k) } hid hs).2,
    twf_tput _ _ hw⟩

/-- A command done in the present frame: its entry says so, and no other entry changes. -/
theorem State.cmdDone_entry {s : State} {id : Word} {e : LedgerEntry} (hw : twf s.site.ledger = true)
    (h : s.entry id = some e) :
    (s.cmdDone id).entry id = some { e with
        state := .done, status := .ok, step := e.steps, detail := [], changed := s.now } ∧
      (∀ id', id' ≠ id → (s.cmdDone id).entry id' = s.entry id') ∧ twf (s.cmdDone id).site.ledger = true := by
  have k := State.cmdTo_entry hw h (st := .done) (by decide) .ok e.steps []
  simpa [State.cmdDone, h] using k

theorem State.cmdDone_cmdStands {s : State} {id : Word} {e : LedgerEntry} (hw : twf s.site.ledger = true)
    (h : s.entry id = some e) : (s.cmdDone id).cmdStands id .done .ok :=
  ⟨_, (State.cmdDone_entry hw h).1, rfl, rfl⟩

theorem State.cmdTo_cmdStands {s : State} {id : Word} {e : LedgerEntry} (hw : twf s.site.ledger = true)
    (h : s.entry id = some e) {st : LedgerState} (hs : st ≠ .empty) (status : Status) (step : Nat) (detail : Bytes) :
    (s.cmdTo id st status step detail).cmdStands id st status :=
  ⟨_, (State.cmdTo_entry hw h hs status step detail).1, rfl, rfl⟩

theorem State.cmdStands_of_frame {W : List View} {s t : State} (h : Frame W s t) (hv : View.ledger ∉ W) {id : Word}
    {st : LedgerState} {status : Status} (k : s.cmdStands id st status) : t.cmdStands id st status := by
  obtain ⟨e, he, h1, h2⟩ := k
  exact ⟨e, (h.entry hv id).trans he, h1, h2⟩

/-- A command whose checks pass is carried out, from the state that its beginning leaves. -/
theorem State.evaluate_due {s : State} {id : Word} {code steps : Nat} {checks : State → LedgerEntry → Checks}
    {strState : State → LedgerEntry → Nat} {go : State → LedgerEntry → State} {e : LedgerEntry}
    (h : Due s id code e) (hc : (checks (s.atP 0) e).pass = true) :
    ∃ x w, s.evaluate id code steps checks strState go = go x e ∧ Frame [.site, .ledger] (s.atP 0) x ∧
      x.entry id = some { e with steps := steps, before := w } ∧ twf x.site.ledger = true ∧ e.id = id := by
  obtain ⟨k, hk, hke⟩ := State.entry_slot h.entry
  obtain ⟨⟨w, hw⟩, -, ht⟩ := State.cmdBegin_entry (s := s.atP 0) h.canonical h.entry steps
  refine ⟨(s.atP 0).cmdBegin id steps, w, ?_, State.cmdBegin_frame .., hw, ht,
    hke ▸ (slotOf_entry h.canonical hk).1⟩
  have hf : (s.atP 0).firstFail e (checks (s.atP 0) e) = none := by
    have hm : (s.atP 0).admits e = true := h.mode
    simp only [Checks.pass, Bool.and_eq_true] at hc
    obtain ⟨⟨⟨⟨⟨h1, h2⟩, h3⟩, h4⟩, h5⟩, h6⟩ := hc
    simp [State.firstFail, h1, h2, h3, h4, h5, h6, hm, h.role]
  simp only [State.evaluate, h.entry, h.pending, h.code, h.effective, h.inOrder, hf, and_self, if_true]

/-- What follows from the work of a command follows from the command, where it is due and its checks pass. -/
theorem State.evaluate_next {s : State} {id : Word} {code steps : Nat} {checks : State → LedgerEntry → Checks}
    {strState : State → LedgerEntry → Nat} {go : State → LedgerEntry → State} {e : LedgerEntry} {Q : State → Prop}
    {o : Host.Outcome State Fault Refusal} (ho : o = ok (s.evaluate id code steps checks strState go))
    (h : Due s id code e) (hc : (checks (s.atP 0) e).pass = true)
    (hq : ∀ x w, Frame [.site, .ledger] (s.atP 0) x → x.entry id = some { e with steps := steps, before := w } →
      twf x.site.ledger = true → e.id = id → Q (go x e)) : ∃ t, o = .next t ∧ Q t := by
  obtain ⟨x, w, hx, hf, he, hw, hid⟩ := State.evaluate_due (steps := steps) (strState := strState) (go := go) h hc
  exact ⟨go x e, by rw [ho, hx]; rfl, hq x w hf he hw hid⟩

/-- A command that acts under a condition, where the condition holds. -/
theorem next_pos {Q : State → Prop} {o : Host.Outcome State Fault Refusal} {c : Prop} {d : Decidable c} {a b : State}
    (ho : o = ok (@ite _ c d a b)) (hc : c) (h : ∃ t, ok a = .next t ∧ Q t) : ∃ t, o = .next t ∧ Q t := by
  rw [ho, if_pos hc]; exact h

theorem next_neg {Q : State → Prop} {o : Host.Outcome State Fault Refusal} {c : Prop} {d : Decidable c} {a b : State}
    (ho : o = ok (@ite _ c d a b)) (hc : ¬c) (h : ∃ t, ok b = .next t ∧ Q t) : ∃ t, o = .next t ∧ Q t := by
  rw [ho, if_neg hc]; exact h

/-! ### Folds over strings and ports -/

/-- What no round of a fold changes, the fold does not change. -/
theorem foldl_view {α β : Type} {v : State → α} {f : State → β → State} (h : ∀ u k, v (f u k) = v u) (l : List β)
    (s : State) : v (l.foldl f s) = v s := by
  induction l generalizing s with
  | nil => rfl
  | cons a l ih => exact (ih _).trans (h s a)

/-- What each round brings about for its own index and no later round undoes holds after the fold. -/
theorem foldl_each {β : Type} {P : State → β → Prop} {f : State → β → State} (hs : ∀ u k, P (f u k) k)
    (hk : ∀ u k j, P u j → P (f u k) j) (l : List β) (s : State) : ∀ k ∈ l, P (l.foldl f s) k := by
  induction l generalizing s with
  | nil => simp
  | cons a l ih =>
    intro k hm
    rcases List.mem_cons.mp hm with rfl | hm
    · have hp : P (f s k) k := hs s k
      show P (l.foldl f (f s k)) k
      generalize f s k = u at hp
      clear ih hm
      induction l generalizing u with
      | nil => exact hp
      | cons b l ih => exact ih _ (hk _ _ _ hp)
    · exact ih _ k hm

/-- What only a round for an index changes stands after a fold that does not name the index. -/
theorem foldl_other {α β : Type} {v : State → β → α} {f : State → β → State} (h : ∀ u k j, j ≠ k → v (f u k) j = v u j)
    (l : List β) (s : State) (j : β) (hj : j ∉ l) : v (l.foldl f s) j = v s j := by
  induction l generalizing s with
  | nil => rfl
  | cons a l ih =>
    simp only [List.mem_cons, not_or] at hj
    exact (ih _ hj.2).trans (h s a j hj.1)

/-! ### Commands that name strings -/

/-- A fold over distinct indices, each round of which changes its own index alone, relates each index once. -/
theorem foldl_once {β γ : Type} {v : State → β → γ} {f : State → β → State} {R : γ → γ → Prop} {l : List β}
    (h : ∀ u k, R (v u k) (v (f u k) k)) (ho : ∀ u k j, j ≠ k → v (f u k) j = v u j) (hn : l.Nodup) (s : State) :
    ∀ k ∈ l, R (v s k) (v (l.foldl f s) k) := by
  induction l generalizing s with
  | nil => simp
  | cons a l ih =>
    intro k hm
    obtain ⟨ha, hl⟩ := List.nodup_cons.mp hn
    rcases List.mem_cons.mp hm with rfl | hm
    · rw [List.foldl_cons, foldl_other (v := v) ho l _ _ ha]; exact h s k
    · have := ih hl (f s a) k hm
      rwa [ho s a k (fun e => ha (e ▸ hm))] at this

theorem upFrom_nodup (a n : Nat) : (upFrom a n).Nodup ∧ ∀ x, x ∈ upFrom a n ↔ a ≤ x ∧ x < a + n := by
  induction n generalizing a with
  | zero => simp [upFrom]
  | succ n ih =>
    obtain ⟨h1, h2⟩ := ih (a + 1)
    refine ⟨?_, fun x => ?_⟩
    · simp [upFrom, h1, h2]; try omega
    · simp [upFrom, h2]; omega

theorem mem_strings (s : State) (k : Nat) : k ∈ s.strings ↔ s.installed k = true ∧ k < 16 := by
  have h := (upFrom_nodup 0 16).2 k
  have e : allStr = upFrom 0 16 := rfl
  simp only [State.strings, List.mem_filter, e, h]; simp [and_comm]

theorem foldl_collect {β : Type} {f : List Nat × β → Nat → List Nat × β} (l : List Nat)
    (hf : ∀ a, ∀ k ∈ l, f a k = (a.1 ++ [k], a.2)) (a : List Nat × β) : l.foldl f a = (a.1 ++ l, a.2) := by
  induction l generalizing a with
  | nil => simp
  | cons b l ih =>
    rw [List.foldl_cons, ih (fun a k hk => hf a k (by simp [hk])), hf a b (by simp)]
    simp

theorem judged_all {s : State} {m : Mask} {acc : Nat → Option Status}
    (h : ∀ k ∈ namedIn m, s.installed k = true ∧ acc k = none) : s.judged m acc = (namedIn m, []) := by
  unfold State.judged
  rw [foldl_collect _ fun a k hk => by simp [(h k hk).1, (h k hk).2]]
  simp

/-- A command that names strings is carried out whole where every string it names is installed and acceptable. -/
theorem State.evaluateStrings_next {s : State} {id : Word} {code steps : Nat} {checks : State → LedgerEntry → Checks}
    {acc : State → LedgerEntry → Nat → Option Status}
    {go : State → LedgerEntry → List Nat → List (Nat × Status) → State} {e : LedgerEntry} {Q : State → Prop}
    {o : Host.Outcome State Fault Refusal} (ho : o = Machine.ok (s.evaluateStrings id code steps checks acc go))
    (h : Due s id code e) (hc : (checks (s.atP 0) e).pass = true) (hn : namedIn e.mask ≠ [])
    (ha : ∀ k ∈ namedIn e.mask, s.installed k = true ∧ acc (s.atP 0) e k = none)
    (hq : ∀ x w, Frame [.site, .ledger] (s.atP 0) x → x.entry id = some { e with steps := steps, before := w } →
      twf x.site.ledger = true → e.id = id → Q (go x e (namedIn e.mask) [])) : ∃ t, o = .next t ∧ Q t := by
  obtain ⟨k, hk, hke⟩ := State.entry_slot h.entry
  obtain ⟨⟨w, hw⟩, -, ht⟩ := State.cmdBegin_entry (s := s.atP 0) h.canonical h.entry steps
  have hj : (s.atP 0).judged e.mask (acc (s.atP 0) e) = (namedIn e.mask, []) := judged_all ha
  have hm0 : e.mask ≠ 0#16 := fun h0 => hn (by rw [h0]; decide)
  have hm : (s.atP 0).admits e = true := h.mode
  simp only [Checks.pass, Bool.and_eq_true] at hc
  obtain ⟨⟨⟨⟨⟨h1, h2⟩, h3⟩, h4⟩, h5⟩, h6⟩ := hc
  refine ⟨go ((s.atP 0).cmdBegin id steps) e (namedIn e.mask) [], ?_, hq _ w (State.cmdBegin_frame ..) hw ht
    (hke ▸ (slotOf_entry h.canonical hk).1)⟩
  rw [ho]
  simp only [Machine.ok]
  congr 1
  unfold State.evaluateStrings
  simp only [h.entry, h.pending, h.code, h.effective, h.inOrder, and_self, if_true, hj]
  rw [show State.firstFail _ _ _ = none by simp [State.firstFail, h1, h2, h3, h4, h5, h6, hm, h.role, hn, hm0]]

/-- A command that ends after work which leaves the ledger alone. -/
theorem State.cmdTo_after {x u : State} {id : Word} {e : LedgerEntry} (h : x.entry id = some e)
    (hw : twf x.site.ledger = true) (hl : u.site.ledger = x.site.ledger) {st : LedgerState} (hs : st ≠ .empty)
    (status : Status) (step : Nat) (detail : Bytes) : (u.cmdTo id st status step detail).cmdStands id st status :=
  State.cmdTo_cmdStands (hl ▸ hw) ((State.entry_congr hl id).trans h) hs status step detail

theorem State.cmdDone_after {x u : State} {id : Word} {e : LedgerEntry} (h : x.entry id = some e)
    (hw : twf x.site.ledger = true) (hl : u.site.ledger = x.site.ledger) : (u.cmdDone id).cmdStands id .done .ok :=
  State.cmdDone_cmdStands (hl ▸ hw) ((State.entry_congr hl id).trans h)

theorem State.cmdEndStrings_after {x u : State} {id : Word} {e : LedgerEntry} (h : x.entry id = some e)
    (hw : twf x.site.ledger = true) (hl : u.site.ledger = x.site.ledger) (m : Mask) :
    (u.cmdEndStrings id m []).cmdStands id .done .ok :=
  State.cmdTo_after h hw hl (by decide) .ok _ []

end Sys2Proof.Machine
end

