-- ==== Sys2Proof/Laws/Effects.lean ====
section
/-! SUPPORT. The parts of the state that the journal, the messages and the command ledger leave as they were, each as a
rewriting rule. -/

namespace Sys2Proof.Machine

@[simp] theorem State.ev_sys (s : State) (code : Nat) (pl : Bytes) : (s.ev code pl).sys = s.sys :=
  (State.ev_frame ..).sys_eq (by decide)
@[simp] theorem State.ev_time (s : State) (code : Nat) (pl : Bytes) : (s.ev code pl).time = s.time :=
  (State.ev_frame ..).time_eq (by decide)
@[simp] theorem State.ev_mode (s : State) (code : Nat) (pl : Bytes) : (s.ev code pl).mode = s.mode :=
  (State.ev_frame ..).mode_eq (by decide)
@[simp] theorem State.ev_linkCfg (s : State) (code : Nat) (pl : Bytes) : (s.ev code pl).linkCfg = s.linkCfg :=
  (State.ev_frame ..).linkCfg_eq (by decide)
@[simp] theorem State.ev_link (s : State) (code : Nat) (pl : Bytes) : (s.ev code pl).link = s.link :=
  (State.ev_frame ..).link_eq (by decide)
@[simp] theorem State.ev_cfeCfg (s : State) (code : Nat) (pl : Bytes) : (s.ev code pl).cfeCfg = s.cfeCfg :=
  (State.ev_frame ..).cfeCfg_eq (by decide)
@[simp] theorem State.ev_cfgReplaced (s : State) (code : Nat) (pl : Bytes) : (s.ev code pl).cfgReplaced = s.cfgReplaced :=
  (State.ev_frame ..).cfgReplaced_eq (by decide)
@[simp] theorem State.ev_cfe (s : State) (code : Nat) (pl : Bytes) : (s.ev code pl).cfe = s.cfe :=
  (State.ev_frame ..).cfe_eq (by decide)
@[simp] theorem State.ev_fe (s : State) (code : Nat) (pl : Bytes) : (s.ev code pl).fe = s.fe :=
  (State.ev_frame ..).fe_eq (by decide)
@[simp] theorem State.ev_meas (s : State) (code : Nat) (pl : Bytes) : (s.ev code pl).meas = s.meas :=
  (State.ev_frame ..).meas_eq (by decide)
@[simp] theorem State.ev_cells (s : State) (code : Nat) (pl : Bytes) : (s.ev code pl).cells = s.cells :=
  (State.ev_frame ..).cells_eq (by decide)
@[simp] theorem State.ev_aux (s : State) (code : Nat) (pl : Bytes) : (s.ev code pl).aux = s.aux :=
  (State.ev_frame ..).aux_eq (by decide)
@[simp] theorem State.ev_th (s : State) (code : Nat) (pl : Bytes) : (s.ev code pl).th = s.th :=
  (State.ev_frame ..).th_eq (by decide)
@[simp] theorem State.ev_herdTab (s : State) (code : Nat) (pl : Bytes) : (s.ev code pl).herdTab = s.herdTab :=
  (State.ev_frame ..).herdTab_eq (by decide)
@[simp] theorem State.ev_mkCell (s : State) (code : Nat) (pl : Bytes) : (s.ev code pl).mkCell = s.mkCell :=
  (State.ev_frame ..).mkCell_eq (by decide)
@[simp] theorem State.ev_mkTh (s : State) (code : Nat) (pl : Bytes) : (s.ev code pl).mkTh = s.mkTh :=
  (State.ev_frame ..).mkTh_eq (by decide)
@[simp] theorem State.ev_est (s : State) (code : Nat) (pl : Bytes) : (s.ev code pl).est = s.est :=
  (State.ev_frame ..).est_eq (by decide)
@[simp] theorem State.ev_thm (s : State) (code : Nat) (pl : Bytes) : (s.ev code pl).thm = s.thm :=
  (State.ev_frame ..).thm_eq (by decide)
@[simp] theorem State.ev_herd (s : State) (code : Nat) (pl : Bytes) : (s.ev code pl).herd = s.herd :=
  (State.ev_frame ..).herd_eq (by decide)
@[simp] theorem State.ev_power (s : State) (code : Nat) (pl : Bytes) : (s.ev code pl).power = s.power :=
  (State.ev_frame ..).power_eq (by decide)
@[simp] theorem State.ev_prot (s : State) (code : Nat) (pl : Bytes) : (s.ev code pl).prot = s.prot :=
  (State.ev_frame ..).prot_eq (by decide)
@[simp] theorem State.ev_dsp (s : State) (code : Nat) (pl : Bytes) : (s.ev code pl).dsp = s.dsp :=
  (State.ev_frame ..).dsp_eq (by decide)
@[simp] theorem State.ev_grz (s : State) (code : Nat) (pl : Bytes) : (s.ev code pl).grz = s.grz :=
  (State.ev_frame ..).grz_eq (by decide)
@[simp] theorem State.ev_pair (s : State) (code : Nat) (pl : Bytes) : (s.ev code pl).pair = s.pair :=
  (State.ev_frame ..).pair_eq (by decide)
@[simp] theorem State.ev_site (s : State) (code : Nat) (pl : Bytes) : (s.ev code pl).site = s.site :=
  (State.ev_frame ..).site_eq (by decide)
@[simp] theorem State.ev_ledgerOther (s : State) (code : Nat) (pl : Bytes) : (s.ev code pl).ledgerOther = s.ledgerOther :=
  (State.ev_frame ..).ledgerOther_eq (by decide)
@[simp] theorem State.ev_bus (s : State) (code : Nat) (pl : Bytes) : (s.ev code pl).bus = s.bus :=
  (State.ev_frame ..).bus_eq (by decide)
@[simp] theorem State.ev_tw (s : State) (code : Nat) (pl : Bytes) : (s.ev code pl).tw = s.tw :=
  (State.ev_frame ..).tw_eq (by decide)
@[simp] theorem State.ev_cfg (s : State) (code : Nat) (pl : Bytes) : (s.ev code pl).cfg = s.cfg :=
  (State.ev_frame ..).cfg_eq (by decide)
@[simp] theorem State.ev_upd (s : State) (code : Nat) (pl : Bytes) : (s.ev code pl).upd = s.upd :=
  (State.ev_frame ..).upd_eq (by decide)
@[simp] theorem State.ev_mem (s : State) (code : Nat) (pl : Bytes) : (s.ev code pl).mem = s.mem :=
  (State.ev_frame ..).mem_eq (by decide)
@[simp] theorem State.ev_acc (s : State) (code : Nat) (pl : Bytes) : (s.ev code pl).acc = s.acc :=
  (State.ev_frame ..).acc_eq (by decide)
@[simp] theorem State.ev_psv (s : State) (code : Nat) (pl : Bytes) : (s.ev code pl).psv = s.psv :=
  (State.ev_frame ..).psv_eq (by decide)
@[simp] theorem State.ev_pending (s : State) (code : Nat) (pl : Bytes) : (s.ev code pl).pending = s.pending :=
  (State.ev_frame ..).pending_eq (by decide)
@[simp] theorem State.ev_free (s : State) (code : Nat) (pl : Bytes) : (s.ev code pl).free = s.free :=
  (State.ev_frame ..).free_eq (by decide)
@[simp] theorem State.ev_get_now (s : State) (code : Nat) (pl : Bytes) : (s.ev code pl).now = s.now := by
  simp [State.now]
@[simp] theorem State.ev_get_str (s : State) (code : Nat) (pl : Bytes) (i : Nat) : (s.ev code pl).str i = s.str i := by
  simp [State.str]
@[simp] theorem State.ev_get_lnk (s : State) (code : Nat) (pl : Bytes) (i : Nat) : (s.ev code pl).lnk i = s.lnk i := by
  simp [State.lnk]
@[simp] theorem State.ev_get_fee (s : State) (code : Nat) (pl : Bytes) (i : Nat) : (s.ev code pl).fee i = s.fee i := by
  simp [State.fee]
@[simp] theorem State.ev_get_pp (s : State) (code : Nat) (pl : Bytes) (i : Nat) : (s.ev code pl).pp i = s.pp i := by
  simp [State.pp]
@[simp] theorem State.ev_get_pst (s : State) (code : Nat) (pl : Bytes) (i : Nat) : (s.ev code pl).pst i = s.pst i := by
  simp [State.pst]
@[simp] theorem State.ev_entry (s : State) (code : Nat) (pl : Bytes) (i : Word) : (s.ev code pl).entry i = s.entry i :=
  (State.ev_frame ..).entry (by decide) i
@[simp] theorem State.evIf_sys (s : State) (c : Bool) (code : Nat) (pl : Bytes) : (s.evIf c code pl).sys = s.sys :=
  (State.evIf_frame ..).sys_eq (by decide)
@[simp] theorem State.evIf_time (s : State) (c : Bool) (code : Nat) (pl : Bytes) : (s.evIf c code pl).time = s.time :=
  (State.evIf_frame ..).time_eq (by decide)
@[simp] theorem State.evIf_mode (s : State) (c : Bool) (code : Nat) (pl : Bytes) : (s.evIf c code pl).mode = s.mode :=
  (State.evIf_frame ..).mode_eq (by decide)
@[simp] theorem State.evIf_linkCfg (s : State) (c : Bool) (code : Nat) (pl : Bytes) : (s.evIf c code pl).linkCfg = s.linkCfg :=
  (State.evIf_frame ..).linkCfg_eq (by decide)
@[simp] theorem State.evIf_link (s : State) (c : Bool) (code : Nat) (pl : Bytes) : (s.evIf c code pl).link = s.link :=
  (State.evIf_frame ..).link_eq (by decide)
@[simp] theorem State.evIf_cfeCfg (s : State) (c : Bool) (code : Nat) (pl : Bytes) : (s.evIf c code pl).cfeCfg = s.cfeCfg :=
  (State.evIf_frame ..).cfeCfg_eq (by decide)
@[simp] theorem State.evIf_cfgReplaced (s : State) (c : Bool) (code : Nat) (pl : Bytes) : (s.evIf c code pl).cfgReplaced = s.cfgReplaced :=
  (State.evIf_frame ..).cfgReplaced_eq (by decide)
@[simp] theorem State.evIf_cfe (s : State) (c : Bool) (code : Nat) (pl : Bytes) : (s.evIf c code pl).cfe = s.cfe :=
  (State.evIf_frame ..).cfe_eq (by decide)
@[simp] theorem State.evIf_fe (s : State) (c : Bool) (code : Nat) (pl : Bytes) : (s.evIf c code pl).fe = s.fe :=
  (State.evIf_frame ..).fe_eq (by decide)
@[simp] theorem State.evIf_meas (s : State) (c : Bool) (code : Nat) (pl : Bytes) : (s.evIf c code pl).meas = s.meas :=
  (State.evIf_frame ..).meas_eq (by decide)
@[simp] theorem State.evIf_cells (s : State) (c : Bool) (code : Nat) (pl : Bytes) : (s.evIf c code pl).cells = s.cells :=
  (State.evIf_frame ..).cells_eq (by decide)
@[simp] theorem State.evIf_aux (s : State) (c : Bool) (code : Nat) (pl : Bytes) : (s.evIf c code pl).aux = s.aux :=
  (State.evIf_frame ..).aux_eq (by decide)
@[simp] theorem State.evIf_th (s : State) (c : Bool) (code : Nat) (pl : Bytes) : (s.evIf c code pl).th = s.th :=
  (State.evIf_frame ..).th_eq (by decide)
@[simp] theorem State.evIf_herdTab (s : State) (c : Bool) (code : Nat) (pl : Bytes) : (s.evIf c code pl).herdTab = s.herdTab :=
  (State.evIf_frame ..).herdTab_eq (by decide)
@[simp] theorem State.evIf_mkCell (s : State) (c : Bool) (code : Nat) (pl : Bytes) : (s.evIf c code pl).mkCell = s.mkCell :=
  (State.evIf_frame ..).mkCell_eq (by decide)
@[simp] theorem State.evIf_mkTh (s : State) (c : Bool) (code : Nat) (pl : Bytes) : (s.evIf c code pl).mkTh = s.mkTh :=
  (State.evIf_frame ..).mkTh_eq (by decide)
@[simp] theorem State.evIf_est (s : State) (c : Bool) (code : Nat) (pl : Bytes) : (s.evIf c code pl).est = s.est :=
  (State.evIf_frame ..).est_eq (by decide)
@[simp] theorem State.evIf_thm (s : State) (c : Bool) (code : Nat) (pl : Bytes) : (s.evIf c code pl).thm = s.thm :=
  (State.evIf_frame ..).thm_eq (by decide)
@[simp] theorem State.evIf_herd (s : State) (c : Bool) (code : Nat) (pl : Bytes) : (s.evIf c code pl).herd = s.herd :=
  (State.evIf_frame ..).herd_eq (by decide)
@[simp] theorem State.evIf_power (s : State) (c : Bool) (code : Nat) (pl : Bytes) : (s.evIf c code pl).power = s.power :=
  (State.evIf_frame ..).power_eq (by decide)
@[simp] theorem State.evIf_prot (s : State) (c : Bool) (code : Nat) (pl : Bytes) : (s.evIf c code pl).prot = s.prot :=
  (State.evIf_frame ..).prot_eq (by decide)
@[simp] theorem State.evIf_dsp (s : State) (c : Bool) (code : Nat) (pl : Bytes) : (s.evIf c code pl).dsp = s.dsp :=
  (State.evIf_frame ..).dsp_eq (by decide)
@[simp] theorem State.evIf_grz (s : State) (c : Bool) (code : Nat) (pl : Bytes) : (s.evIf c code pl).grz = s.grz :=
  (State.evIf_frame ..).grz_eq (by decide)
@[simp] theorem State.evIf_pair (s : State) (c : Bool) (code : Nat) (pl : Bytes) : (s.evIf c code pl).pair = s.pair :=
  (State.evIf_frame ..).pair_eq (by decide)
@[simp] theorem State.evIf_site (s : State) (c : Bool) (code : Nat) (pl : Bytes) : (s.evIf c code pl).site = s.site :=
  (State.evIf_frame ..).site_eq (by decide)
@[simp] theorem State.evIf_ledgerOther (s : State) (c : Bool) (code : Nat) (pl : Bytes) : (s.evIf c code pl).ledgerOther = s.ledgerOther :=
  (State.evIf_frame ..).ledgerOther_eq (by decide)
@[simp] theorem State.evIf_bus (s : State) (c : Bool) (code : Nat) (pl : Bytes) : (s.evIf c code pl).bus = s.bus :=
  (State.evIf_frame ..).bus_eq (by decide)
@[simp] theorem State.evIf_tw (s : State) (c : Bool) (code : Nat) (pl : Bytes) : (s.evIf c code pl).tw = s.tw :=
  (State.evIf_frame ..).tw_eq (by decide)
@[simp] theorem State.evIf_cfg (s : State) (c : Bool) (code : Nat) (pl : Bytes) : (s.evIf c code pl).cfg = s.cfg :=
  (State.evIf_frame ..).cfg_eq (by decide)
@[simp] theorem State.evIf_upd (s : State) (c : Bool) (code : Nat) (pl : Bytes) : (s.evIf c code pl).upd = s.upd :=
  (State.evIf_frame ..).upd_eq (by decide)
@[simp] theorem State.evIf_mem (s : State) (c : Bool) (code : Nat) (pl : Bytes) : (s.evIf c code pl).mem = s.mem :=
  (State.evIf_frame ..).mem_eq (by decide)
@[simp] theorem State.evIf_acc (s : State) (c : Bool) (code : Nat) (pl : Bytes) : (s.evIf c code pl).acc = s.acc :=
  (State.evIf_frame ..).acc_eq (by decide)
@[simp] theorem State.evIf_psv (s : State) (c : Bool) (code : Nat) (pl : Bytes) : (s.evIf c code pl).psv = s.psv :=
  (State.evIf_frame ..).psv_eq (by decide)
@[simp] theorem State.evIf_pending (s : State) (c : Bool) (code : Nat) (pl : Bytes) : (s.evIf c code pl).pending = s.pending :=
  (State.evIf_frame ..).pending_eq (by decide)
@[simp] theorem State.evIf_free (s : State) (c : Bool) (code : Nat) (pl : Bytes) : (s.evIf c code pl).free = s.free :=
  (State.evIf_frame ..).free_eq (by decide)
@[simp] theorem State.evIf_get_now (s : State) (c : Bool) (code : Nat) (pl : Bytes) : (s.evIf c code pl).now = s.now := by
  simp [State.now]
@[simp] theorem State.evIf_get_str (s : State) (c : Bool) (code : Nat) (pl : Bytes) (i : Nat) : (s.evIf c code pl).str i = s.str i := by
  simp [State.str]
@[simp] theorem State.evIf_get_lnk (s : State) (c : Bool) (code : Nat) (pl : Bytes) (i : Nat) : (s.evIf c code pl).lnk i = s.lnk i := by
  simp [State.lnk]
@[simp] theorem State.evIf_get_fee (s : State) (c : Bool) (code : Nat) (pl : Bytes) (i : Nat) : (s.evIf c code pl).fee i = s.fee i := by
  simp [State.fee]
@[simp] theorem State.evIf_get_pp (s : State) (c : Bool) (code : Nat) (pl : Bytes) (i : Nat) : (s.evIf c code pl).pp i = s.pp i := by
  simp [State.pp]
@[simp] theorem State.evIf_get_pst (s : State) (c : Bool) (code : Nat) (pl : Bytes) (i : Nat) : (s.evIf c code pl).pst i = s.pst i := by
  simp [State.pst]
@[simp] theorem State.evIf_entry (s : State) (c : Bool) (code : Nat) (pl : Bytes) (i : Word) : (s.evIf c code pl).entry i = s.entry i :=
  (State.evIf_frame ..).entry (by decide) i
@[simp] theorem State.send_sys (s : State) (ty : Nat) (po : Bool) (pl : Bytes) : (s.send ty po pl).sys = s.sys :=
  (State.send_frame ..).sys_eq (by decide)
@[simp] theorem State.send_time (s : State) (ty : Nat) (po : Bool) (pl : Bytes) : (s.send ty po pl).time = s.time :=
  (State.send_frame ..).time_eq (by decide)
@[simp] theorem State.send_mode (s : State) (ty : Nat) (po : Bool) (pl : Bytes) : (s.send ty po pl).mode = s.mode :=
  (State.send_frame ..).mode_eq (by decide)
@[simp] theorem State.send_linkCfg (s : State) (ty : Nat) (po : Bool) (pl : Bytes) : (s.send ty po pl).linkCfg = s.linkCfg :=
  (State.send_frame ..).linkCfg_eq (by decide)
@[simp] theorem State.send_link (s : State) (ty : Nat) (po : Bool) (pl : Bytes) : (s.send ty po pl).link = s.link :=
  (State.send_frame ..).link_eq (by decide)
@[simp] theorem State.send_cfeCfg (s : State) (ty : Nat) (po : Bool) (pl : Bytes) : (s.send ty po pl).cfeCfg = s.cfeCfg :=
  (State.send_frame ..).cfeCfg_eq (by decide)
@[simp] theorem State.send_cfgReplaced (s : State) (ty : Nat) (po : Bool) (pl : Bytes) : (s.send ty po pl).cfgReplaced = s.cfgReplaced :=
  (State.send_frame ..).cfgReplaced_eq (by decide)
@[simp] theorem State.send_cfe (s : State) (ty : Nat) (po : Bool) (pl : Bytes) : (s.send ty po pl).cfe = s.cfe :=
  (State.send_frame ..).cfe_eq (by decide)
@[simp] theorem State.send_fe (s : State) (ty : Nat) (po : Bool) (pl : Bytes) : (s.send ty po pl).fe = s.fe :=
  (State.send_frame ..).fe_eq (by decide)
@[simp] theorem State.send_meas (s : State) (ty : Nat) (po : Bool) (pl : Bytes) : (s.send ty po pl).meas = s.meas :=
  (State.send_frame ..).meas_eq (by decide)
@[simp] theorem State.send_cells (s : State) (ty : Nat) (po : Bool) (pl : Bytes) : (s.send ty po pl).cells = s.cells :=
  (State.send_frame ..).cells_eq (by decide)
@[simp] theorem State.send_aux (s : State) (ty : Nat) (po : Bool) (pl : Bytes) : (s.send ty po pl).aux = s.aux :=
  (State.send_frame ..).aux_eq (by decide)
@[simp] theorem State.send_th (s : State) (ty : Nat) (po : Bool) (pl : Bytes) : (s.send ty po pl).th = s.th :=
  (State.send_frame ..).th_eq (by decide)
@[simp] theorem State.send_herdTab (s : State) (ty : Nat) (po : Bool) (pl : Bytes) : (s.send ty po pl).herdTab = s.herdTab :=
  (State.send_frame ..).herdTab_eq (by decide)
@[simp] theorem State.send_mkCell (s : State) (ty : Nat) (po : Bool) (pl : Bytes) : (s.send ty po pl).mkCell = s.mkCell :=
  (State.send_frame ..).mkCell_eq (by decide)
@[simp] theorem State.send_mkTh (s : State) (ty : Nat) (po : Bool) (pl : Bytes) : (s.send ty po pl).mkTh = s.mkTh :=
  (State.send_frame ..).mkTh_eq (by decide)
@[simp] theorem State.send_est (s : State) (ty : Nat) (po : Bool) (pl : Bytes) : (s.send ty po pl).est = s.est :=
  (State.send_frame ..).est_eq (by decide)
@[simp] theorem State.send_thm (s : State) (ty : Nat) (po : Bool) (pl : Bytes) : (s.send ty po pl).thm = s.thm :=
  (State.send_frame ..).thm_eq (by decide)
@[simp] theorem State.send_herd (s : State) (ty : Nat) (po : Bool) (pl : Bytes) : (s.send ty po pl).herd = s.herd :=
  (State.send_frame ..).herd_eq (by decide)
@[simp] theorem State.send_power (s : State) (ty : Nat) (po : Bool) (pl : Bytes) : (s.send ty po pl).power = s.power :=
  (State.send_frame ..).power_eq (by decide)
@[simp] theorem State.send_prot (s : State) (ty : Nat) (po : Bool) (pl : Bytes) : (s.send ty po pl).prot = s.prot :=
  (State.send_frame ..).prot_eq (by decide)
@[simp] theorem State.send_dsp (s : State) (ty : Nat) (po : Bool) (pl : Bytes) : (s.send ty po pl).dsp = s.dsp :=
  (State.send_frame ..).dsp_eq (by decide)
@[simp] theorem State.send_grz (s : State) (ty : Nat) (po : Bool) (pl : Bytes) : (s.send ty po pl).grz = s.grz :=
  (State.send_frame ..).grz_eq (by decide)
@[simp] theorem State.send_ledgerOther (s : State) (ty : Nat) (po : Bool) (pl : Bytes) : (s.send ty po pl).ledgerOther = s.ledgerOther :=
  (State.send_frame ..).ledgerOther_eq (by decide)
@[simp] theorem State.send_bus (s : State) (ty : Nat) (po : Bool) (pl : Bytes) : (s.send ty po pl).bus = s.bus :=
  (State.send_frame ..).bus_eq (by decide)
@[simp] theorem State.send_tw (s : State) (ty : Nat) (po : Bool) (pl : Bytes) : (s.send ty po pl).tw = s.tw :=
  (State.send_frame ..).tw_eq (by decide)
@[simp] theorem State.send_cfg (s : State) (ty : Nat) (po : Bool) (pl : Bytes) : (s.send ty po pl).cfg = s.cfg :=
  (State.send_frame ..).cfg_eq (by decide)
@[simp] theorem State.send_upd (s : State) (ty : Nat) (po : Bool) (pl : Bytes) : (s.send ty po pl).upd = s.upd :=
  (State.send_frame ..).upd_eq (by decide)
@[simp] theorem State.send_mem (s : State) (ty : Nat) (po : Bool) (pl : Bytes) : (s.send ty po pl).mem = s.mem :=
  (State.send_frame ..).mem_eq (by decide)
@[simp] theorem State.send_jnl (s : State) (ty : Nat) (po : Bool) (pl : Bytes) : (s.send ty po pl).jnl = s.jnl :=
  (State.send_frame ..).jnl_eq (by decide)
@[simp] theorem State.send_acc (s : State) (ty : Nat) (po : Bool) (pl : Bytes) : (s.send ty po pl).acc = s.acc :=
  (State.send_frame ..).acc_eq (by decide)
@[simp] theorem State.send_psv (s : State) (ty : Nat) (po : Bool) (pl : Bytes) : (s.send ty po pl).psv = s.psv :=
  (State.send_frame ..).psv_eq (by decide)
@[simp] theorem State.send_pending (s : State) (ty : Nat) (po : Bool) (pl : Bytes) : (s.send ty po pl).pending = s.pending :=
  (State.send_frame ..).pending_eq (by decide)
@[simp] theorem State.send_free (s : State) (ty : Nat) (po : Bool) (pl : Bytes) : (s.send ty po pl).free = s.free :=
  (State.send_frame ..).free_eq (by decide)
@[simp] theorem State.send_get_now (s : State) (ty : Nat) (po : Bool) (pl : Bytes) : (s.send ty po pl).now = s.now := by
  simp [State.now]
@[simp] theorem State.send_get_str (s : State) (ty : Nat) (po : Bool) (pl : Bytes) (i : Nat) : (s.send ty po pl).str i = s.str i := by
  simp [State.str]
@[simp] theorem State.send_get_lnk (s : State) (ty : Nat) (po : Bool) (pl : Bytes) (i : Nat) : (s.send ty po pl).lnk i = s.lnk i := by
  simp [State.lnk]
@[simp] theorem State.send_get_fee (s : State) (ty : Nat) (po : Bool) (pl : Bytes) (i : Nat) : (s.send ty po pl).fee i = s.fee i := by
  simp [State.fee]
@[simp] theorem State.send_get_pp (s : State) (ty : Nat) (po : Bool) (pl : Bytes) (i : Nat) : (s.send ty po pl).pp i = s.pp i := by
  simp [State.pp]
@[simp] theorem State.send_get_pst (s : State) (ty : Nat) (po : Bool) (pl : Bytes) (i : Nat) : (s.send ty po pl).pst i = s.pst i := by
  simp [State.pst]
@[simp] theorem State.send_ledger (s : State) (ty : Nat) (po : Bool) (pl : Bytes) : (s.send ty po pl).site.ledger = s.site.ledger :=
  ((State.send_frame ..).same .ledger (by decide)).1.symm
@[simp] theorem State.send_entry (s : State) (ty : Nat) (po : Bool) (pl : Bytes) (i : Word) : (s.send ty po pl).entry i = s.entry i :=
  (State.send_frame ..).entry (by decide) i
@[simp] theorem State.sendPairOpen_sys (s : State) (ty : Nat) (pl : Bytes) : (s.sendPairOpen ty pl).sys = s.sys :=
  (State.sendPairOpen_frame ..).sys_eq (by decide)
@[simp] theorem State.sendPairOpen_time (s : State) (ty : Nat) (pl : Bytes) : (s.sendPairOpen ty pl).time = s.time :=
  (State.sendPairOpen_frame ..).time_eq (by decide)
@[simp] theorem State.sendPairOpen_mode (s : State) (ty : Nat) (pl : Bytes) : (s.sendPairOpen ty pl).mode = s.mode :=
  (State.sendPairOpen_frame ..).mode_eq (by decide)
@[simp] theorem State.sendPairOpen_linkCfg (s : State) (ty : Nat) (pl : Bytes) : (s.sendPairOpen ty pl).linkCfg = s.linkCfg :=
  (State.sendPairOpen_frame ..).linkCfg_eq (by decide)
@[simp] theorem State.sendPairOpen_link (s : State) (ty : Nat) (pl : Bytes) : (s.sendPairOpen ty pl).link = s.link :=
  (State.sendPairOpen_frame ..).link_eq (by decide)
@[simp] theorem State.sendPairOpen_cfeCfg (s : State) (ty : Nat) (pl : Bytes) : (s.sendPairOpen ty pl).cfeCfg = s.cfeCfg :=
  (State.sendPairOpen_frame ..).cfeCfg_eq (by decide)
@[simp] theorem State.sendPairOpen_cfgReplaced (s : State) (ty : Nat) (pl : Bytes) : (s.sendPairOpen ty pl).cfgReplaced = s.cfgReplaced :=
  (State.sendPairOpen_frame ..).cfgReplaced_eq (by decide)
@[simp] theorem State.sendPairOpen_cfe (s : State) (ty : Nat) (pl : Bytes) : (s.sendPairOpen ty pl).cfe = s.cfe :=
  (State.sendPairOpen_frame ..).cfe_eq (by decide)
@[simp] theorem State.sendPairOpen_fe (s : State) (ty : Nat) (pl : Bytes) : (s.sendPairOpen ty pl).fe = s.fe :=
  (State.sendPairOpen_frame ..).fe_eq (by decide)
@[simp] theorem State.sendPairOpen_meas (s : State) (ty : Nat) (pl : Bytes) : (s.sendPairOpen ty pl).meas = s.meas :=
  (State.sendPairOpen_frame ..).meas_eq (by decide)
@[simp] theorem State.sendPairOpen_cells (s : State) (ty : Nat) (pl : Bytes) : (s.sendPairOpen ty pl).cells = s.cells :=
  (State.sendPairOpen_frame ..).cells_eq (by decide)
@[simp] theorem State.sendPairOpen_aux (s : State) (ty : Nat) (pl : Bytes) : (s.sendPairOpen ty pl).aux = s.aux :=
  (State.sendPairOpen_frame ..).aux_eq (by decide)
@[simp] theorem State.sendPairOpen_th (s : State) (ty : Nat) (pl : Bytes) : (s.sendPairOpen ty pl).th = s.th :=
  (State.sendPairOpen_frame ..).th_eq (by decide)
@[simp] theorem State.sendPairOpen_herdTab (s : State) (ty : Nat) (pl : Bytes) : (s.sendPairOpen ty pl).herdTab = s.herdTab :=
  (State.sendPairOpen_frame ..).herdTab_eq (by decide)
@[simp] theorem State.sendPairOpen_mkCell (s : State) (ty : Nat) (pl : Bytes) : (s.sendPairOpen ty pl).mkCell = s.mkCell :=
  (State.sendPairOpen_frame ..).mkCell_eq (by decide)
@[simp] theorem State.sendPairOpen_mkTh (s : State) (ty : Nat) (pl : Bytes) : (s.sendPairOpen ty pl).mkTh = s.mkTh :=
  (State.sendPairOpen_frame ..).mkTh_eq (by decide)
@[simp] theorem State.sendPairOpen_est (s : State) (ty : Nat) (pl : Bytes) : (s.sendPairOpen ty pl).est = s.est :=
  (State.sendPairOpen_frame ..).est_eq (by decide)
@[simp] theorem State.sendPairOpen_thm (s : State) (ty : Nat) (pl : Bytes) : (s.sendPairOpen ty pl).thm = s.thm :=
  (State.sendPairOpen_frame ..).thm_eq (by decide)
@[simp] theorem State.sendPairOpen_herd (s : State) (ty : Nat) (pl : Bytes) : (s.sendPairOpen ty pl).herd = s.herd :=
  (State.sendPairOpen_frame ..).herd_eq (by decide)
@[simp] theorem State.sendPairOpen_power (s : State) (ty : Nat) (pl : Bytes) : (s.sendPairOpen ty pl).power = s.power :=
  (State.sendPairOpen_frame ..).power_eq (by decide)
@[simp] theorem State.sendPairOpen_prot (s : State) (ty : Nat) (pl : Bytes) : (s.sendPairOpen ty pl).prot = s.prot :=
  (State.sendPairOpen_frame ..).prot_eq (by decide)
@[simp] theorem State.sendPairOpen_dsp (s : State) (ty : Nat) (pl : Bytes) : (s.sendPairOpen ty pl).dsp = s.dsp :=
  (State.sendPairOpen_frame ..).dsp_eq (by decide)
@[simp] theorem State.sendPairOpen_grz (s : State) (ty : Nat) (pl : Bytes) : (s.sendPairOpen ty pl).grz = s.grz :=
  (State.sendPairOpen_frame ..).grz_eq (by decide)
@[simp] theorem State.sendPairOpen_ledgerOther (s : State) (ty : Nat) (pl : Bytes) : (s.sendPairOpen ty pl).ledgerOther = s.ledgerOther :=
  (State.sendPairOpen_frame ..).ledgerOther_eq (by decide)
@[simp] theorem State.sendPairOpen_bus (s : State) (ty : Nat) (pl : Bytes) : (s.sendPairOpen ty pl).bus = s.bus :=
  (State.sendPairOpen_frame ..).bus_eq (by decide)
@[simp] theorem State.sendPairOpen_tw (s : State) (ty : Nat) (pl : Bytes) : (s.sendPairOpen ty pl).tw = s.tw :=
  (State.sendPairOpen_frame ..).tw_eq (by decide)
@[simp] theorem State.sendPairOpen_cfg (s : State) (ty : Nat) (pl : Bytes) : (s.sendPairOpen ty pl).cfg = s.cfg :=
  (State.sendPairOpen_frame ..).cfg_eq (by decide)
@[simp] theorem State.sendPairOpen_upd (s : State) (ty : Nat) (pl : Bytes) : (s.sendPairOpen ty pl).upd = s.upd :=
  (State.sendPairOpen_frame ..).upd_eq (by decide)
@[simp] theorem State.sendPairOpen_mem (s : State) (ty : Nat) (pl : Bytes) : (s.sendPairOpen ty pl).mem = s.mem :=
  (State.sendPairOpen_frame ..).mem_eq (by decide)
@[simp] theorem State.sendPairOpen_jnl (s : State) (ty : Nat) (pl : Bytes) : (s.sendPairOpen ty pl).jnl = s.jnl :=
  (State.sendPairOpen_frame ..).jnl_eq (by decide)
@[simp] theorem State.sendPairOpen_acc (s : State) (ty : Nat) (pl : Bytes) : (s.sendPairOpen ty pl).acc = s.acc :=
  (State.sendPairOpen_frame ..).acc_eq (by decide)
@[simp] theorem State.sendPairOpen_psv (s : State) (ty : Nat) (pl : Bytes) : (s.sendPairOpen ty pl).psv = s.psv :=
  (State.sendPairOpen_frame ..).psv_eq (by decide)
@[simp] theorem State.sendPairOpen_pending (s : State) (ty : Nat) (pl : Bytes) : (s.sendPairOpen ty pl).pending = s.pending :=
  (State.sendPairOpen_frame ..).pending_eq (by decide)
@[simp] theorem State.sendPairOpen_free (s : State) (ty : Nat) (pl : Bytes) : (s.sendPairOpen ty pl).free = s.free :=
  (State.sendPairOpen_frame ..).free_eq (by decide)
@[simp] theorem State.sendPairOpen_get_now (s : State) (ty : Nat) (pl : Bytes) : (s.sendPairOpen ty pl).now = s.now := by
  simp [State.now]
@[simp] theorem State.sendPairOpen_get_str (s : State) (ty : Nat) (pl : Bytes) (i : Nat) : (s.sendPairOpen ty pl).str i = s.str i := by
  simp [State.str]
@[simp] theorem State.sendPairOpen_get_lnk (s : State) (ty : Nat) (pl : Bytes) (i : Nat) : (s.sendPairOpen ty pl).lnk i = s.lnk i := by
  simp [State.lnk]
@[simp] theorem State.sendPairOpen_get_fee (s : State) (ty : Nat) (pl : Bytes) (i : Nat) : (s.sendPairOpen ty pl).fee i = s.fee i := by
  simp [State.fee]
@[simp] theorem State.sendPairOpen_get_pp (s : State) (ty : Nat) (pl : Bytes) (i : Nat) : (s.sendPairOpen ty pl).pp i = s.pp i := by
  simp [State.pp]
@[simp] theorem State.sendPairOpen_get_pst (s : State) (ty : Nat) (pl : Bytes) (i : Nat) : (s.sendPairOpen ty pl).pst i = s.pst i := by
  simp [State.pst]
@[simp] theorem State.sendPairOpen_ledger (s : State) (ty : Nat) (pl : Bytes) : (s.sendPairOpen ty pl).site.ledger = s.site.ledger :=
  ((State.sendPairOpen_frame ..).same .ledger (by decide)).1.symm
@[simp] theorem State.sendPairOpen_entry (s : State) (ty : Nat) (pl : Bytes) (i : Word) : (s.sendPairOpen ty pl).entry i = s.entry i :=
  (State.sendPairOpen_frame ..).entry (by decide) i
@[simp] theorem State.cmdTo_sys (s : State) (id : Word) (st : LedgerState) (status : Status) (step : Nat) (d : Bytes) : (s.cmdTo id st status step d).sys = s.sys :=
  (State.cmdTo_frame ..).sys_eq (by decide)
@[simp] theorem State.cmdTo_time (s : State) (id : Word) (st : LedgerState) (status : Status) (step : Nat) (d : Bytes) : (s.cmdTo id st status step d).time = s.time :=
  (State.cmdTo_frame ..).time_eq (by decide)
@[simp] theorem State.cmdTo_mode (s : State) (id : Word) (st : LedgerState) (status : Status) (step : Nat) (d : Bytes) : (s.cmdTo id st status step d).mode = s.mode :=
  (State.cmdTo_frame ..).mode_eq (by decide)
@[simp] theorem State.cmdTo_linkCfg (s : State) (id : Word) (st : LedgerState) (status : Status) (step : Nat) (d : Bytes) : (s.cmdTo id st status step d).linkCfg = s.linkCfg :=
  (State.cmdTo_frame ..).linkCfg_eq (by decide)
@[simp] theorem State.cmdTo_link (s : State) (id : Word) (st : LedgerState) (status : Status) (step : Nat) (d : Bytes) : (s.cmdTo id st status step d).link = s.link :=
  (State.cmdTo_frame ..).link_eq (by decide)
@[simp] theorem State.cmdTo_cfeCfg (s : State) (id : Word) (st : LedgerState) (status : Status) (step : Nat) (d : Bytes) : (s.cmdTo id st status step d).cfeCfg = s.cfeCfg :=
  (State.cmdTo_frame ..).cfeCfg_eq (by decide)
@[simp] theorem State.cmdTo_cfgReplaced (s : State) (id : Word) (st : LedgerState) (status : Status) (step : Nat) (d : Bytes) : (s.cmdTo id st status step d).cfgReplaced = s.cfgReplaced :=
  (State.cmdTo_frame ..).cfgReplaced_eq (by decide)
@[simp] theorem State.cmdTo_cfe (s : State) (id : Word) (st : LedgerState) (status : Status) (step : Nat) (d : Bytes) : (s.cmdTo id st status step d).cfe = s.cfe :=
  (State.cmdTo_frame ..).cfe_eq (by decide)
@[simp] theorem State.cmdTo_fe (s : State) (id : Word) (st : LedgerState) (status : Status) (step : Nat) (d : Bytes) : (s.cmdTo id st status step d).fe = s.fe :=
  (State.cmdTo_frame ..).fe_eq (by decide)
@[simp] theorem State.cmdTo_meas (s : State) (id : Word) (st : LedgerState) (status : Status) (step : Nat) (d : Bytes) : (s.cmdTo id st status step d).meas = s.meas :=
  (State.cmdTo_frame ..).meas_eq (by decide)
@[simp] theorem State.cmdTo_cells (s : State) (id : Word) (st : LedgerState) (status : Status) (step : Nat) (d : Bytes) : (s.cmdTo id st status step d).cells = s.cells :=
  (State.cmdTo_frame ..).cells_eq (by decide)
@[simp] theorem State.cmdTo_aux (s : State) (id : Word) (st : LedgerState) (status : Status) (step : Nat) (d : Bytes) : (s.cmdTo id st status step d).aux = s.aux :=
  (State.cmdTo_frame ..).aux_eq (by decide)
@[simp] theorem State.cmdTo_th (s : State) (id : Word) (st : LedgerState) (status : Status) (step : Nat) (d : Bytes) : (s.cmdTo id st status step d).th = s.th :=
  (State.cmdTo_frame ..).th_eq (by decide)
@[simp] theorem State.cmdTo_herdTab (s : State) (id : Word) (st : LedgerState) (status : Status) (step : Nat) (d : Bytes) : (s.cmdTo id st status step d).herdTab = s.herdTab :=
  (State.cmdTo_frame ..).herdTab_eq (by decide)
@[simp] theorem State.cmdTo_mkCell (s : State) (id : Word) (st : LedgerState) (status : Status) (step : Nat) (d : Bytes) : (s.cmdTo id st status step d).mkCell = s.mkCell :=
  (State.cmdTo_frame ..).mkCell_eq (by decide)
@[simp] theorem State.cmdTo_mkTh (s : State) (id : Word) (st : LedgerState) (status : Status) (step : Nat) (d : Bytes) : (s.cmdTo id st status step d).mkTh = s.mkTh :=
  (State.cmdTo_frame ..).mkTh_eq (by decide)
@[simp] theorem State.cmdTo_est (s : State) (id : Word) (st : LedgerState) (status : Status) (step : Nat) (d : Bytes) : (s.cmdTo id st status step d).est = s.est :=
  (State.cmdTo_frame ..).est_eq (by decide)
@[simp] theorem State.cmdTo_thm (s : State) (id : Word) (st : LedgerState) (status : Status) (step : Nat) (d : Bytes) : (s.cmdTo id st status step d).thm = s.thm :=
  (State.cmdTo_frame ..).thm_eq (by decide)
@[simp] theorem State.cmdTo_herd (s : State) (id : Word) (st : LedgerState) (status : Status) (step : Nat) (d : Bytes) : (s.cmdTo id st status step d).herd = s.herd :=
  (State.cmdTo_frame ..).herd_eq (by decide)
@[simp] theorem State.cmdTo_power (s : State) (id : Word) (st : LedgerState) (status : Status) (step : Nat) (d : Bytes) : (s.cmdTo id st status step d).power = s.power :=
  (State.cmdTo_frame ..).power_eq (by decide)
@[simp] theorem State.cmdTo_prot (s : State) (id : Word) (st : LedgerState) (status : Status) (step : Nat) (d : Bytes) : (s.cmdTo id st status step d).prot = s.prot :=
  (State.cmdTo_frame ..).prot_eq (by decide)
@[simp] theorem State.cmdTo_dsp (s : State) (id : Word) (st : LedgerState) (status : Status) (step : Nat) (d : Bytes) : (s.cmdTo id st status step d).dsp = s.dsp :=
  (State.cmdTo_frame ..).dsp_eq (by decide)
@[simp] theorem State.cmdTo_grz (s : State) (id : Word) (st : LedgerState) (status : Status) (step : Nat) (d : Bytes) : (s.cmdTo id st status step d).grz = s.grz :=
  (State.cmdTo_frame ..).grz_eq (by decide)
@[simp] theorem State.cmdTo_ledgerOther (s : State) (id : Word) (st : LedgerState) (status : Status) (step : Nat) (d : Bytes) : (s.cmdTo id st status step d).ledgerOther = s.ledgerOther :=
  (State.cmdTo_frame ..).ledgerOther_eq (by decide)
@[simp] theorem State.cmdTo_bus (s : State) (id : Word) (st : LedgerState) (status : Status) (step : Nat) (d : Bytes) : (s.cmdTo id st status step d).bus = s.bus :=
  (State.cmdTo_frame ..).bus_eq (by decide)
@[simp] theorem State.cmdTo_tw (s : State) (id : Word) (st : LedgerState) (status : Status) (step : Nat) (d : Bytes) : (s.cmdTo id st status step d).tw = s.tw :=
  (State.cmdTo_frame ..).tw_eq (by decide)
@[simp] theorem State.cmdTo_cfg (s : State) (id : Word) (st : LedgerState) (status : Status) (step : Nat) (d : Bytes) : (s.cmdTo id st status step d).cfg = s.cfg :=
  (State.cmdTo_frame ..).cfg_eq (by decide)
@[simp] theorem State.cmdTo_upd (s : State) (id : Word) (st : LedgerState) (status : Status) (step : Nat) (d : Bytes) : (s.cmdTo id st status step d).upd = s.upd :=
  (State.cmdTo_frame ..).upd_eq (by decide)
@[simp] theorem State.cmdTo_mem (s : State) (id : Word) (st : LedgerState) (status : Status) (step : Nat) (d : Bytes) : (s.cmdTo id st status step d).mem = s.mem :=
  (State.cmdTo_frame ..).mem_eq (by decide)
@[simp] theorem State.cmdTo_acc (s : State) (id : Word) (st : LedgerState) (status : Status) (step : Nat) (d : Bytes) : (s.cmdTo id st status step d).acc = s.acc :=
  (State.cmdTo_frame ..).acc_eq (by decide)
@[simp] theorem State.cmdTo_psv (s : State) (id : Word) (st : LedgerState) (status : Status) (step : Nat) (d : Bytes) : (s.cmdTo id st status step d).psv = s.psv :=
  (State.cmdTo_frame ..).psv_eq (by decide)
@[simp] theorem State.cmdTo_pending (s : State) (id : Word) (st : LedgerState) (status : Status) (step : Nat) (d : Bytes) : (s.cmdTo id st status step d).pending = s.pending :=
  (State.cmdTo_frame ..).pending_eq (by decide)
@[simp] theorem State.cmdTo_free (s : State) (id : Word) (st : LedgerState) (status : Status) (step : Nat) (d : Bytes) : (s.cmdTo id st status step d).free = s.free :=
  (State.cmdTo_frame ..).free_eq (by decide)
@[simp] theorem State.cmdTo_get_now (s : State) (id : Word) (st : LedgerState) (status : Status) (step : Nat) (d : Bytes) : (s.cmdTo id st status step d).now = s.now := by
  simp [State.now]
@[simp] theorem State.cmdTo_get_str (s : State) (id : Word) (st : LedgerState) (status : Status) (step : Nat) (d : Bytes) (i : Nat) : (s.cmdTo id st status step d).str i = s.str i := by
  simp [State.str]
@[simp] theorem State.cmdTo_get_lnk (s : State) (id : Word) (st : LedgerState) (status : Status) (step : Nat) (d : Bytes) (i : Nat) : (s.cmdTo id st status step d).lnk i = s.lnk i := by
  simp [State.lnk]
@[simp] theorem State.cmdTo_get_fee (s : State) (id : Word) (st : LedgerState) (status : Status) (step : Nat) (d : Bytes) (i : Nat) : (s.cmdTo id st status step d).fee i = s.fee i := by
  simp [State.fee]
@[simp] theorem State.cmdTo_get_pp (s : State) (id : Word) (st : LedgerState) (status : Status) (step : Nat) (d : Bytes) (i : Nat) : (s.cmdTo id st status step d).pp i = s.pp i := by
  simp [State.pp]
@[simp] theorem State.cmdTo_get_pst (s : State) (id : Word) (st : LedgerState) (status : Status) (step : Nat) (d : Bytes) (i : Nat) : (s.cmdTo id st status step d).pst i = s.pst i := by
  simp [State.pst]
@[simp] theorem State.cmdDone_sys (s : State) (id : Word) : (s.cmdDone id).sys = s.sys :=
  (State.cmdDone_frame ..).sys_eq (by decide)
@[simp] theorem State.cmdDone_time (s : State) (id : Word) : (s.cmdDone id).time = s.time :=
  (State.cmdDone_frame ..).time_eq (by decide)
@[simp] theorem State.cmdDone_mode (s : State) (id : Word) : (s.cmdDone id).mode = s.mode :=
  (State.cmdDone_frame ..).mode_eq (by decide)
@[simp] theorem State.cmdDone_linkCfg (s : State) (id : Word) : (s.cmdDone id).linkCfg = s.linkCfg :=
  (State.cmdDone_frame ..).linkCfg_eq (by decide)
@[simp] theorem State.cmdDone_link (s : State) (id : Word) : (s.cmdDone id).link = s.link :=
  (State.cmdDone_frame ..).link_eq (by decide)
@[simp] theorem State.cmdDone_cfeCfg (s : State) (id : Word) : (s.cmdDone id).cfeCfg = s.cfeCfg :=
  (State.cmdDone_frame ..).cfeCfg_eq (by decide)
@[simp] theorem State.cmdDone_cfgReplaced (s : State) (id : Word) : (s.cmdDone id).cfgReplaced = s.cfgReplaced :=
  (State.cmdDone_frame ..).cfgReplaced_eq (by decide)
@[simp] theorem State.cmdDone_cfe (s : State) (id : Word) : (s.cmdDone id).cfe = s.cfe :=
  (State.cmdDone_frame ..).cfe_eq (by decide)
@[simp] theorem State.cmdDone_fe (s : State) (id : Word) : (s.cmdDone id).fe = s.fe :=
  (State.cmdDone_frame ..).fe_eq (by decide)
@[simp] theorem State.cmdDone_meas (s : State) (id : Word) : (s.cmdDone id).meas = s.meas :=
  (State.cmdDone_frame ..).meas_eq (by decide)
@[simp] theorem State.cmdDone_cells (s : State) (id : Word) : (s.cmdDone id).cells = s.cells :=
  (State.cmdDone_frame ..).cells_eq (by decide)
@[simp] theorem State.cmdDone_aux (s : State) (id : Word) : (s.cmdDone id).aux = s.aux :=
  (State.cmdDone_frame ..).aux_eq (by decide)
@[simp] theorem State.cmdDone_th (s : State) (id : Word) : (s.cmdDone id).th = s.th :=
  (State.cmdDone_frame ..).th_eq (by decide)
@[simp] theorem State.cmdDone_herdTab (s : State) (id : Word) : (s.cmdDone id).herdTab = s.herdTab :=
  (State.cmdDone_frame ..).herdTab_eq (by decide)
@[simp] theorem State.cmdDone_mkCell (s : State) (id : Word) : (s.cmdDone id).mkCell = s.mkCell :=
  (State.cmdDone_frame ..).mkCell_eq (by decide)
@[simp] theorem State.cmdDone_mkTh (s : State) (id : Word) : (s.cmdDone id).mkTh = s.mkTh :=
  (State.cmdDone_frame ..).mkTh_eq (by decide)
@[simp] theorem State.cmdDone_est (s : State) (id : Word) : (s.cmdDone id).est = s.est :=
  (State.cmdDone_frame ..).est_eq (by decide)
@[simp] theorem State.cmdDone_thm (s : State) (id : Word) : (s.cmdDone id).thm = s.thm :=
  (State.cmdDone_frame ..).thm_eq (by decide)
@[simp] theorem State.cmdDone_herd (s : State) (id : Word) : (s.cmdDone id).herd = s.herd :=
  (State.cmdDone_frame ..).herd_eq (by decide)
@[simp] theorem State.cmdDone_power (s : State) (id : Word) : (s.cmdDone id).power = s.power :=
  (State.cmdDone_frame ..).power_eq (by decide)
@[simp] theorem State.cmdDone_prot (s : State) (id : Word) : (s.cmdDone id).prot = s.prot :=
  (State.cmdDone_frame ..).prot_eq (by decide)
@[simp] theorem State.cmdDone_dsp (s : State) (id : Word) : (s.cmdDone id).dsp = s.dsp :=
  (State.cmdDone_frame ..).dsp_eq (by decide)
@[simp] theorem State.cmdDone_grz (s : State) (id : Word) : (s.cmdDone id).grz = s.grz :=
  (State.cmdDone_frame ..).grz_eq (by decide)
@[simp] theorem State.cmdDone_ledgerOther (s : State) (id : Word) : (s.cmdDone id).ledgerOther = s.ledgerOther :=
  (State.cmdDone_frame ..).ledgerOther_eq (by decide)
@[simp] theorem State.cmdDone_bus (s : State) (id : Word) : (s.cmdDone id).bus = s.bus :=
  (State.cmdDone_frame ..).bus_eq (by decide)
@[simp] theorem State.cmdDone_tw (s : State) (id : Word) : (s.cmdDone id).tw = s.tw :=
  (State.cmdDone_frame ..).tw_eq (by decide)
@[simp] theorem State.cmdDone_cfg (s : State) (id : Word) : (s.cmdDone id).cfg = s.cfg :=
  (State.cmdDone_frame ..).cfg_eq (by decide)
@[simp] theorem State.cmdDone_upd (s : State) (id : Word) : (s.cmdDone id).upd = s.upd :=
  (State.cmdDone_frame ..).upd_eq (by decide)
@[simp] theorem State.cmdDone_mem (s : State) (id : Word) : (s.cmdDone id).mem = s.mem :=
  (State.cmdDone_frame ..).mem_eq (by decide)
@[simp] theorem State.cmdDone_acc (s : State) (id : Word) : (s.cmdDone id).acc = s.acc :=
  (State.cmdDone_frame ..).acc_eq (by decide)
@[simp] theorem State.cmdDone_psv (s : State) (id : Word) : (s.cmdDone id).psv = s.psv :=
  (State.cmdDone_frame ..).psv_eq (by decide)
@[simp] theorem State.cmdDone_pending (s : State) (id : Word) : (s.cmdDone id).pending = s.pending :=
  (State.cmdDone_frame ..).pending_eq (by decide)
@[simp] theorem State.cmdDone_free (s : State) (id : Word) : (s.cmdDone id).free = s.free :=
  (State.cmdDone_frame ..).free_eq (by decide)
@[simp] theorem State.cmdDone_get_now (s : State) (id : Word) : (s.cmdDone id).now = s.now := by
  simp [State.now]
@[simp] theorem State.cmdDone_get_str (s : State) (id : Word) (i : Nat) : (s.cmdDone id).str i = s.str i := by
  simp [State.str]
@[simp] theorem State.cmdDone_get_lnk (s : State) (id : Word) (i : Nat) : (s.cmdDone id).lnk i = s.lnk i := by
  simp [State.lnk]
@[simp] theorem State.cmdDone_get_fee (s : State) (id : Word) (i : Nat) : (s.cmdDone id).fee i = s.fee i := by
  simp [State.fee]
@[simp] theorem State.cmdDone_get_pp (s : State) (id : Word) (i : Nat) : (s.cmdDone id).pp i = s.pp i := by
  simp [State.pp]
@[simp] theorem State.cmdDone_get_pst (s : State) (id : Word) (i : Nat) : (s.cmdDone id).pst i = s.pst i := by
  simp [State.pst]
@[simp] theorem State.cmdFail_sys (s : State) (id : Word) (st : Status) (k : Nat) (d : Bytes) : (s.cmdFail id st k d).sys = s.sys :=
  (State.cmdFail_frame ..).sys_eq (by decide)
@[simp] theorem State.cmdFail_time (s : State) (id : Word) (st : Status) (k : Nat) (d : Bytes) : (s.cmdFail id st k d).time = s.time :=
  (State.cmdFail_frame ..).time_eq (by decide)
@[simp] theorem State.cmdFail_mode (s : State) (id : Word) (st : Status) (k : Nat) (d : Bytes) : (s.cmdFail id st k d).mode = s.mode :=
  (State.cmdFail_frame ..).mode_eq (by decide)
@[simp] theorem State.cmdFail_linkCfg (s : State) (id : Word) (st : Status) (k : Nat) (d : Bytes) : (s.cmdFail id st k d).linkCfg = s.linkCfg :=
  (State.cmdFail_frame ..).linkCfg_eq (by decide)
@[simp] theorem State.cmdFail_link (s : State) (id : Word) (st : Status) (k : Nat) (d : Bytes) : (s.cmdFail id st k d).link = s.link :=
  (State.cmdFail_frame ..).link_eq (by decide)
@[simp] theorem State.cmdFail_cfeCfg (s : State) (id : Word) (st : Status) (k : Nat) (d : Bytes) : (s.cmdFail id st k d).cfeCfg = s.cfeCfg :=
  (State.cmdFail_frame ..).cfeCfg_eq (by decide)
@[simp] theorem State.cmdFail_cfgReplaced (s : State) (id : Word) (st : Status) (k : Nat) (d : Bytes) : (s.cmdFail id st k d).cfgReplaced = s.cfgReplaced :=
  (State.cmdFail_frame ..).cfgReplaced_eq (by decide)
@[simp] theorem State.cmdFail_cfe (s : State) (id : Word) (st : Status) (k : Nat) (d : Bytes) : (s.cmdFail id st k d).cfe = s.cfe :=
  (State.cmdFail_frame ..).cfe_eq (by decide)
@[simp] theorem State.cmdFail_fe (s : State) (id : Word) (st : Status) (k : Nat) (d : Bytes) : (s.cmdFail id st k d).fe = s.fe :=
  (State.cmdFail_frame ..).fe_eq (by decide)
@[simp] theorem State.cmdFail_meas (s : State) (id : Word) (st : Status) (k : Nat) (d : Bytes) : (s.cmdFail id st k d).meas = s.meas :=
  (State.cmdFail_frame ..).meas_eq (by decide)
@[simp] theorem State.cmdFail_cells (s : State) (id : Word) (st : Status) (k : Nat) (d : Bytes) : (s.cmdFail id st k d).cells = s.cells :=
  (State.cmdFail_frame ..).cells_eq (by decide)
@[simp] theorem State.cmdFail_aux (s : State) (id : Word) (st : Status) (k : Nat) (d : Bytes) : (s.cmdFail id st k d).aux = s.aux :=
  (State.cmdFail_frame ..).aux_eq (by decide)
@[simp] theorem State.cmdFail_th (s : State) (id : Word) (st : Status) (k : Nat) (d : Bytes) : (s.cmdFail id st k d).th = s.th :=
  (State.cmdFail_frame ..).th_eq (by decide)
@[simp] theorem State.cmdFail_herdTab (s : State) (id : Word) (st : Status) (k : Nat) (d : Bytes) : (s.cmdFail id st k d).herdTab = s.herdTab :=
  (State.cmdFail_frame ..).herdTab_eq (by decide)
@[simp] theorem State.cmdFail_mkCell (s : State) (id : Word) (st : Status) (k : Nat) (d : Bytes) : (s.cmdFail id st k d).mkCell = s.mkCell :=
  (State.cmdFail_frame ..).mkCell_eq (by decide)
@[simp] theorem State.cmdFail_mkTh (s : State) (id : Word) (st : Status) (k : Nat) (d : Bytes) : (s.cmdFail id st k d).mkTh = s.mkTh :=
  (State.cmdFail_frame ..).mkTh_eq (by decide)
@[simp] theorem State.cmdFail_est (s : State) (id : Word) (st : Status) (k : Nat) (d : Bytes) : (s.cmdFail id st k d).est = s.est :=
  (State.cmdFail_frame ..).est_eq (by decide)
@[simp] theorem State.cmdFail_thm (s : State) (id : Word) (st : Status) (k : Nat) (d : Bytes) : (s.cmdFail id st k d).thm = s.thm :=
  (State.cmdFail_frame ..).thm_eq (by decide)
@[simp] theorem State.cmdFail_herd (s : State) (id : Word) (st : Status) (k : Nat) (d : Bytes) : (s.cmdFail id st k d).herd = s.herd :=
  (State.cmdFail_frame ..).herd_eq (by decide)
@[simp] theorem State.cmdFail_power (s : State) (id : Word) (st : Status) (k : Nat) (d : Bytes) : (s.cmdFail id st k d).power = s.power :=
  (State.cmdFail_frame ..).power_eq (by decide)
@[simp] theorem State.cmdFail_prot (s : State) (id : Word) (st : Status) (k : Nat) (d : Bytes) : (s.cmdFail id st k d).prot = s.prot :=
  (State.cmdFail_frame ..).prot_eq (by decide)
@[simp] theorem State.cmdFail_dsp (s : State) (id : Word) (st : Status) (k : Nat) (d : Bytes) : (s.cmdFail id st k d).dsp = s.dsp :=
  (State.cmdFail_frame ..).dsp_eq (by decide)
@[simp] theorem State.cmdFail_grz (s : State) (id : Word) (st : Status) (k : Nat) (d : Bytes) : (s.cmdFail id st k d).grz = s.grz :=
  (State.cmdFail_frame ..).grz_eq (by decide)
@[simp] theorem State.cmdFail_ledgerOther (s : State) (id : Word) (st : Status) (k : Nat) (d : Bytes) : (s.cmdFail id st k d).ledgerOther = s.ledgerOther :=
  (State.cmdFail_frame ..).ledgerOther_eq (by decide)
@[simp] theorem State.cmdFail_bus (s : State) (id : Word) (st : Status) (k : Nat) (d : Bytes) : (s.cmdFail id st k d).bus = s.bus :=
  (State.cmdFail_frame ..).bus_eq (by decide)
@[simp] theorem State.cmdFail_tw (s : State) (id : Word) (st : Status) (k : Nat) (d : Bytes) : (s.cmdFail id st k d).tw = s.tw :=
  (State.cmdFail_frame ..).tw_eq (by decide)
@[simp] theorem State.cmdFail_cfg (s : State) (id : Word) (st : Status) (k : Nat) (d : Bytes) : (s.cmdFail id st k d).cfg = s.cfg :=
  (State.cmdFail_frame ..).cfg_eq (by decide)
@[simp] theorem State.cmdFail_upd (s : State) (id : Word) (st : Status) (k : Nat) (d : Bytes) : (s.cmdFail id st k d).upd = s.upd :=
  (State.cmdFail_frame ..).upd_eq (by decide)
@[simp] theorem State.cmdFail_mem (s : State) (id : Word) (st : Status) (k : Nat) (d : Bytes) : (s.cmdFail id st k d).mem = s.mem :=
  (State.cmdFail_frame ..).mem_eq (by decide)
@[simp] theorem State.cmdFail_acc (s : State) (id : Word) (st : Status) (k : Nat) (d : Bytes) : (s.cmdFail id st k d).acc = s.acc :=
  (State.cmdFail_frame ..).acc_eq (by decide)
@[simp] theorem State.cmdFail_psv (s : State) (id : Word) (st : Status) (k : Nat) (d : Bytes) : (s.cmdFail id st k d).psv = s.psv :=
  (State.cmdFail_frame ..).psv_eq (by decide)
@[simp] theorem State.cmdFail_pending (s : State) (id : Word) (st : Status) (k : Nat) (d : Bytes) : (s.cmdFail id st k d).pending = s.pending :=
  (State.cmdFail_frame ..).pending_eq (by decide)
@[simp] theorem State.cmdFail_free (s : State) (id : Word) (st : Status) (k : Nat) (d : Bytes) : (s.cmdFail id st k d).free = s.free :=
  (State.cmdFail_frame ..).free_eq (by decide)
@[simp] theorem State.cmdFail_get_now (s : State) (id : Word) (st : Status) (k : Nat) (d : Bytes) : (s.cmdFail id st k d).now = s.now := by
  simp [State.now]
@[simp] theorem State.cmdFail_get_str (s : State) (id : Word) (st : Status) (k : Nat) (d : Bytes) (i : Nat) : (s.cmdFail id st k d).str i = s.str i := by
  simp [State.str]
@[simp] theorem State.cmdFail_get_lnk (s : State) (id : Word) (st : Status) (k : Nat) (d : Bytes) (i : Nat) : (s.cmdFail id st k d).lnk i = s.lnk i := by
  simp [State.lnk]
@[simp] theorem State.cmdFail_get_fee (s : State) (id : Word) (st : Status) (k : Nat) (d : Bytes) (i : Nat) : (s.cmdFail id st k d).fee i = s.fee i := by
  simp [State.fee]
@[simp] theorem State.cmdFail_get_pp (s : State) (id : Word) (st : Status) (k : Nat) (d : Bytes) (i : Nat) : (s.cmdFail id st k d).pp i = s.pp i := by
  simp [State.pp]
@[simp] theorem State.cmdFail_get_pst (s : State) (id : Word) (st : Status) (k : Nat) (d : Bytes) (i : Nat) : (s.cmdFail id st k d).pst i = s.pst i := by
  simp [State.pst]
@[simp] theorem State.cmdStep_sys (s : State) (id : Word) (k : Nat) : (s.cmdStep id k).sys = s.sys :=
  (State.cmdStep_frame ..).sys_eq (by decide)
@[simp] theorem State.cmdStep_time (s : State) (id : Word) (k : Nat) : (s.cmdStep id k).time = s.time :=
  (State.cmdStep_frame ..).time_eq (by decide)
@[simp] theorem State.cmdStep_mode (s : State) (id : Word) (k : Nat) : (s.cmdStep id k).mode = s.mode :=
  (State.cmdStep_frame ..).mode_eq (by decide)
@[simp] theorem State.cmdStep_linkCfg (s : State) (id : Word) (k : Nat) : (s.cmdStep id k).linkCfg = s.linkCfg :=
  (State.cmdStep_frame ..).linkCfg_eq (by decide)
@[simp] theorem State.cmdStep_link (s : State) (id : Word) (k : Nat) : (s.cmdStep id k).link = s.link :=
  (State.cmdStep_frame ..).link_eq (by decide)
@[simp] theorem State.cmdStep_cfeCfg (s : State) (id : Word) (k : Nat) : (s.cmdStep id k).cfeCfg = s.cfeCfg :=
  (State.cmdStep_frame ..).cfeCfg_eq (by decide)
@[simp] theorem State.cmdStep_cfgReplaced (s : State) (id : Word) (k : Nat) : (s.cmdStep id k).cfgReplaced = s.cfgReplaced :=
  (State.cmdStep_frame ..).cfgReplaced_eq (by decide)
@[simp] theorem State.cmdStep_cfe (s : State) (id : Word) (k : Nat) : (s.cmdStep id k).cfe = s.cfe :=
  (State.cmdStep_frame ..).cfe_eq (by decide)
@[simp] theorem State.cmdStep_fe (s : State) (id : Word) (k : Nat) : (s.cmdStep id k).fe = s.fe :=
  (State.cmdStep_frame ..).fe_eq (by decide)
@[simp] theorem State.cmdStep_meas (s : State) (id : Word) (k : Nat) : (s.cmdStep id k).meas = s.meas :=
  (State.cmdStep_frame ..).meas_eq (by decide)
@[simp] theorem State.cmdStep_cells (s : State) (id : Word) (k : Nat) : (s.cmdStep id k).cells = s.cells :=
  (State.cmdStep_frame ..).cells_eq (by decide)
@[simp] theorem State.cmdStep_aux (s : State) (id : Word) (k : Nat) : (s.cmdStep id k).aux = s.aux :=
  (State.cmdStep_frame ..).aux_eq (by decide)
@[simp] theorem State.cmdStep_th (s : State) (id : Word) (k : Nat) : (s.cmdStep id k).th = s.th :=
  (State.cmdStep_frame ..).th_eq (by decide)
@[simp] theorem State.cmdStep_herdTab (s : State) (id : Word) (k : Nat) : (s.cmdStep id k).herdTab = s.herdTab :=
  (State.cmdStep_frame ..).herdTab_eq (by decide)
@[simp] theorem State.cmdStep_mkCell (s : State) (id : Word) (k : Nat) : (s.cmdStep id k).mkCell = s.mkCell :=
  (State.cmdStep_frame ..).mkCell_eq (by decide)
@[simp] theorem State.cmdStep_mkTh (s : State) (id : Word) (k : Nat) : (s.cmdStep id k).mkTh = s.mkTh :=
  (State.cmdStep_frame ..).mkTh_eq (by decide)
@[simp] theorem State.cmdStep_est (s : State) (id : Word) (k : Nat) : (s.cmdStep id k).est = s.est :=
  (State.cmdStep_frame ..).est_eq (by decide)
@[simp] theorem State.cmdStep_thm (s : State) (id : Word) (k : Nat) : (s.cmdStep id k).thm = s.thm :=
  (State.cmdStep_frame ..).thm_eq (by decide)
@[simp] theorem State.cmdStep_herd (s : State) (id : Word) (k : Nat) : (s.cmdStep id k).herd = s.herd :=
  (State.cmdStep_frame ..).herd_eq (by decide)
@[simp] theorem State.cmdStep_power (s : State) (id : Word) (k : Nat) : (s.cmdStep id k).power = s.power :=
  (State.cmdStep_frame ..).power_eq (by decide)
@[simp] theorem State.cmdStep_prot (s : State) (id : Word) (k : Nat) : (s.cmdStep id k).prot = s.prot :=
  (State.cmdStep_frame ..).prot_eq (by decide)
@[simp] theorem State.cmdStep_dsp (s : State) (id : Word) (k : Nat) : (s.cmdStep id k).dsp = s.dsp :=
  (State.cmdStep_frame ..).dsp_eq (by decide)
@[simp] theorem State.cmdStep_grz (s : State) (id : Word) (k : Nat) : (s.cmdStep id k).grz = s.grz :=
  (State.cmdStep_frame ..).grz_eq (by decide)
@[simp] theorem State.cmdStep_ledgerOther (s : State) (id : Word) (k : Nat) : (s.cmdStep id k).ledgerOther = s.ledgerOther :=
  (State.cmdStep_frame ..).ledgerOther_eq (by decide)
@[simp] theorem State.cmdStep_bus (s : State) (id : Word) (k : Nat) : (s.cmdStep id k).bus = s.bus :=
  (State.cmdStep_frame ..).bus_eq (by decide)
@[simp] theorem State.cmdStep_tw (s : State) (id : Word) (k : Nat) : (s.cmdStep id k).tw = s.tw :=
  (State.cmdStep_frame ..).tw_eq (by decide)
@[simp] theorem State.cmdStep_cfg (s : State) (id : Word) (k : Nat) : (s.cmdStep id k).cfg = s.cfg :=
  (State.cmdStep_frame ..).cfg_eq (by decide)
@[simp] theorem State.cmdStep_upd (s : State) (id : Word) (k : Nat) : (s.cmdStep id k).upd = s.upd :=
  (State.cmdStep_frame ..).upd_eq (by decide)
@[simp] theorem State.cmdStep_mem (s : State) (id : Word) (k : Nat) : (s.cmdStep id k).mem = s.mem :=
  (State.cmdStep_frame ..).mem_eq (by decide)
@[simp] theorem State.cmdStep_acc (s : State) (id : Word) (k : Nat) : (s.cmdStep id k).acc = s.acc :=
  (State.cmdStep_frame ..).acc_eq (by decide)
@[simp] theorem State.cmdStep_psv (s : State) (id : Word) (k : Nat) : (s.cmdStep id k).psv = s.psv :=
  (State.cmdStep_frame ..).psv_eq (by decide)
@[simp] theorem State.cmdStep_pending (s : State) (id : Word) (k : Nat) : (s.cmdStep id k).pending = s.pending :=
  (State.cmdStep_frame ..).pending_eq (by decide)
@[simp] theorem State.cmdStep_free (s : State) (id : Word) (k : Nat) : (s.cmdStep id k).free = s.free :=
  (State.cmdStep_frame ..).free_eq (by decide)
@[simp] theorem State.cmdStep_get_now (s : State) (id : Word) (k : Nat) : (s.cmdStep id k).now = s.now := by
  simp [State.now]
@[simp] theorem State.cmdStep_get_str (s : State) (id : Word) (k : Nat) (i : Nat) : (s.cmdStep id k).str i = s.str i := by
  simp [State.str]
@[simp] theorem State.cmdStep_get_lnk (s : State) (id : Word) (k : Nat) (i : Nat) : (s.cmdStep id k).lnk i = s.lnk i := by
  simp [State.lnk]
@[simp] theorem State.cmdStep_get_fee (s : State) (id : Word) (k : Nat) (i : Nat) : (s.cmdStep id k).fee i = s.fee i := by
  simp [State.fee]
@[simp] theorem State.cmdStep_get_pp (s : State) (id : Word) (k : Nat) (i : Nat) : (s.cmdStep id k).pp i = s.pp i := by
  simp [State.pp]
@[simp] theorem State.cmdStep_get_pst (s : State) (id : Word) (k : Nat) (i : Nat) : (s.cmdStep id k).pst i = s.pst i := by
  simp [State.pst]
@[simp] theorem State.cmdAbort_sys (s : State) (id : Word) : (s.cmdAbort id).sys = s.sys :=
  (State.cmdAbort_frame ..).sys_eq (by decide)
@[simp] theorem State.cmdAbort_time (s : State) (id : Word) : (s.cmdAbort id).time = s.time :=
  (State.cmdAbort_frame ..).time_eq (by decide)
@[simp] theorem State.cmdAbort_mode (s : State) (id : Word) : (s.cmdAbort id).mode = s.mode :=
  (State.cmdAbort_frame ..).mode_eq (by decide)
@[simp] theorem State.cmdAbort_linkCfg (s : State) (id : Word) : (s.cmdAbort id).linkCfg = s.linkCfg :=
  (State.cmdAbort_frame ..).linkCfg_eq (by decide)
@[simp] theorem State.cmdAbort_link (s : State) (id : Word) : (s.cmdAbort id).link = s.link :=
  (State.cmdAbort_frame ..).link_eq (by decide)
@[simp] theorem State.cmdAbort_cfeCfg (s : State) (id : Word) : (s.cmdAbort id).cfeCfg = s.cfeCfg :=
  (State.cmdAbort_frame ..).cfeCfg_eq (by decide)
@[simp] theorem State.cmdAbort_cfgReplaced (s : State) (id : Word) : (s.cmdAbort id).cfgReplaced = s.cfgReplaced :=
  (State.cmdAbort_frame ..).cfgReplaced_eq (by decide)
@[simp] theorem State.cmdAbort_cfe (s : State) (id : Word) : (s.cmdAbort id).cfe = s.cfe :=
  (State.cmdAbort_frame ..).cfe_eq (by decide)
@[simp] theorem State.cmdAbort_fe (s : State) (id : Word) : (s.cmdAbort id).fe = s.fe :=
  (State.cmdAbort_frame ..).fe_eq (by decide)
@[simp] theorem State.cmdAbort_meas (s : State) (id : Word) : (s.cmdAbort id).meas = s.meas :=
  (State.cmdAbort_frame ..).meas_eq (by decide)
@[simp] theorem State.cmdAbort_cells (s : State) (id : Word) : (s.cmdAbort id).cells = s.cells :=
  (State.cmdAbort_frame ..).cells_eq (by decide)
@[simp] theorem State.cmdAbort_aux (s : State) (id : Word) : (s.cmdAbort id).aux = s.aux :=
  (State.cmdAbort_frame ..).aux_eq (by decide)
@[simp] theorem State.cmdAbort_th (s : State) (id : Word) : (s.cmdAbort id).th = s.th :=
  (State.cmdAbort_frame ..).th_eq (by decide)
@[simp] theorem State.cmdAbort_herdTab (s : State) (id : Word) : (s.cmdAbort id).herdTab = s.herdTab :=
  (State.cmdAbort_frame ..).herdTab_eq (by decide)
@[simp] theorem State.cmdAbort_mkCell (s : State) (id : Word) : (s.cmdAbort id).mkCell = s.mkCell :=
  (State.cmdAbort_frame ..).mkCell_eq (by decide)
@[simp] theorem State.cmdAbort_mkTh (s : State) (id : Word) : (s.cmdAbort id).mkTh = s.mkTh :=
  (State.cmdAbort_frame ..).mkTh_eq (by decide)
@[simp] theorem State.cmdAbort_est (s : State) (id : Word) : (s.cmdAbort id).est = s.est :=
  (State.cmdAbort_frame ..).est_eq (by decide)
@[simp] theorem State.cmdAbort_thm (s : State) (id : Word) : (s.cmdAbort id).thm = s.thm :=
  (State.cmdAbort_frame ..).thm_eq (by decide)
@[simp] theorem State.cmdAbort_herd (s : State) (id : Word) : (s.cmdAbort id).herd = s.herd :=
  (State.cmdAbort_frame ..).herd_eq (by decide)
@[simp] theorem State.cmdAbort_power (s : State) (id : Word) : (s.cmdAbort id).power = s.power :=
  (State.cmdAbort_frame ..).power_eq (by decide)
@[simp] theorem State.cmdAbort_prot (s : State) (id : Word) : (s.cmdAbort id).prot = s.prot :=
  (State.cmdAbort_frame ..).prot_eq (by decide)
@[simp] theorem State.cmdAbort_dsp (s : State) (id : Word) : (s.cmdAbort id).dsp = s.dsp :=
  (State.cmdAbort_frame ..).dsp_eq (by decide)
@[simp] theorem State.cmdAbort_grz (s : State) (id : Word) : (s.cmdAbort id).grz = s.grz :=
  (State.cmdAbort_frame ..).grz_eq (by decide)
@[simp] theorem State.cmdAbort_ledgerOther (s : State) (id : Word) : (s.cmdAbort id).ledgerOther = s.ledgerOther :=
  (State.cmdAbort_frame ..).ledgerOther_eq (by decide)
@[simp] theorem State.cmdAbort_bus (s : State) (id : Word) : (s.cmdAbort id).bus = s.bus :=
  (State.cmdAbort_frame ..).bus_eq (by decide)
@[simp] theorem State.cmdAbort_tw (s : State) (id : Word) : (s.cmdAbort id).tw = s.tw :=
  (State.cmdAbort_frame ..).tw_eq (by decide)
@[simp] theorem State.cmdAbort_cfg (s : State) (id : Word) : (s.cmdAbort id).cfg = s.cfg :=
  (State.cmdAbort_frame ..).cfg_eq (by decide)
@[simp] theorem State.cmdAbort_upd (s : State) (id : Word) : (s.cmdAbort id).upd = s.upd :=
  (State.cmdAbort_frame ..).upd_eq (by decide)
@[simp] theorem State.cmdAbort_mem (s : State) (id : Word) : (s.cmdAbort id).mem = s.mem :=
  (State.cmdAbort_frame ..).mem_eq (by decide)
@[simp] theorem State.cmdAbort_acc (s : State) (id : Word) : (s.cmdAbort id).acc = s.acc :=
  (State.cmdAbort_frame ..).acc_eq (by decide)
@[simp] theorem State.cmdAbort_psv (s : State) (id : Word) : (s.cmdAbort id).psv = s.psv :=
  (State.cmdAbort_frame ..).psv_eq (by decide)
@[simp] theorem State.cmdAbort_pending (s : State) (id : Word) : (s.cmdAbort id).pending = s.pending :=
  (State.cmdAbort_frame ..).pending_eq (by decide)
@[simp] theorem State.cmdAbort_free (s : State) (id : Word) : (s.cmdAbort id).free = s.free :=
  (State.cmdAbort_frame ..).free_eq (by decide)
@[simp] theorem State.cmdAbort_get_now (s : State) (id : Word) : (s.cmdAbort id).now = s.now := by
  simp [State.now]
@[simp] theorem State.cmdAbort_get_str (s : State) (id : Word) (i : Nat) : (s.cmdAbort id).str i = s.str i := by
  simp [State.str]
@[simp] theorem State.cmdAbort_get_lnk (s : State) (id : Word) (i : Nat) : (s.cmdAbort id).lnk i = s.lnk i := by
  simp [State.lnk]
@[simp] theorem State.cmdAbort_get_fee (s : State) (id : Word) (i : Nat) : (s.cmdAbort id).fee i = s.fee i := by
  simp [State.fee]
@[simp] theorem State.cmdAbort_get_pp (s : State) (id : Word) (i : Nat) : (s.cmdAbort id).pp i = s.pp i := by
  simp [State.pp]
@[simp] theorem State.cmdAbort_get_pst (s : State) (id : Word) (i : Nat) : (s.cmdAbort id).pst i = s.pst i := by
  simp [State.pst]
@[simp] theorem State.cmdEndStrings_sys (s : State) (id : Word) (m : Mask) (r : List (Nat × Status)) : (s.cmdEndStrings id m r).sys = s.sys :=
  (State.cmdEndStrings_frame ..).sys_eq (by decide)
@[simp] theorem State.cmdEndStrings_time (s : State) (id : Word) (m : Mask) (r : List (Nat × Status)) : (s.cmdEndStrings id m r).time = s.time :=
  (State.cmdEndStrings_frame ..).time_eq (by decide)
@[simp] theorem State.cmdEndStrings_mode (s : State) (id : Word) (m : Mask) (r : List (Nat × Status)) : (s.cmdEndStrings id m r).mode = s.mode :=
  (State.cmdEndStrings_frame ..).mode_eq (by decide)
@[simp] theorem State.cmdEndStrings_linkCfg (s : State) (id : Word) (m : Mask) (r : List (Nat × Status)) : (s.cmdEndStrings id m r).linkCfg = s.linkCfg :=
  (State.cmdEndStrings_frame ..).linkCfg_eq (by decide)
@[simp] theorem State.cmdEndStrings_link (s : State) (id : Word) (m : Mask) (r : List (Nat × Status)) : (s.cmdEndStrings id m r).link = s.link :=
  (State.cmdEndStrings_frame ..).link_eq (by decide)
@[simp] theorem State.cmdEndStrings_cfeCfg (s : State) (id : Word) (m : Mask) (r : List (Nat × Status)) : (s.cmdEndStrings id m r).cfeCfg = s.cfeCfg :=
  (State.cmdEndStrings_frame ..).cfeCfg_eq (by decide)
@[simp] theorem State.cmdEndStrings_cfgReplaced (s : State) (id : Word) (m : Mask) (r : List (Nat × Status)) : (s.cmdEndStrings id m r).cfgReplaced = s.cfgReplaced :=
  (State.cmdEndStrings_frame ..).cfgReplaced_eq (by decide)
@[simp] theorem State.cmdEndStrings_cfe (s : State) (id : Word) (m : Mask) (r : List (Nat × Status)) : (s.cmdEndStrings id m r).cfe = s.cfe :=
  (State.cmdEndStrings_frame ..).cfe_eq (by decide)
@[simp] theorem State.cmdEndStrings_fe (s : State) (id : Word) (m : Mask) (r : List (Nat × Status)) : (s.cmdEndStrings id m r).fe = s.fe :=
  (State.cmdEndStrings_frame ..).fe_eq (by decide)
@[simp] theorem State.cmdEndStrings_meas (s : State) (id : Word) (m : Mask) (r : List (Nat × Status)) : (s.cmdEndStrings id m r).meas = s.meas :=
  (State.cmdEndStrings_frame ..).meas_eq (by decide)
@[simp] theorem State.cmdEndStrings_cells (s : State) (id : Word) (m : Mask) (r : List (Nat × Status)) : (s.cmdEndStrings id m r).cells = s.cells :=
  (State.cmdEndStrings_frame ..).cells_eq (by decide)
@[simp] theorem State.cmdEndStrings_aux (s : State) (id : Word) (m : Mask) (r : List (Nat × Status)) : (s.cmdEndStrings id m r).aux = s.aux :=
  (State.cmdEndStrings_frame ..).aux_eq (by decide)
@[simp] theorem State.cmdEndStrings_th (s : State) (id : Word) (m : Mask) (r : List (Nat × Status)) : (s.cmdEndStrings id m r).th = s.th :=
  (State.cmdEndStrings_frame ..).th_eq (by decide)
@[simp] theorem State.cmdEndStrings_herdTab (s : State) (id : Word) (m : Mask) (r : List (Nat × Status)) : (s.cmdEndStrings id m r).herdTab = s.herdTab :=
  (State.cmdEndStrings_frame ..).herdTab_eq (by decide)
@[simp] theorem State.cmdEndStrings_mkCell (s : State) (id : Word) (m : Mask) (r : List (Nat × Status)) : (s.cmdEndStrings id m r).mkCell = s.mkCell :=
  (State.cmdEndStrings_frame ..).mkCell_eq (by decide)
@[simp] theorem State.cmdEndStrings_mkTh (s : State) (id : Word) (m : Mask) (r : List (Nat × Status)) : (s.cmdEndStrings id m r).mkTh = s.mkTh :=
  (State.cmdEndStrings_frame ..).mkTh_eq (by decide)
@[simp] theorem State.cmdEndStrings_est (s : State) (id : Word) (m : Mask) (r : List (Nat × Status)) : (s.cmdEndStrings id m r).est = s.est :=
  (State.cmdEndStrings_frame ..).est_eq (by decide)
@[simp] theorem State.cmdEndStrings_thm (s : State) (id : Word) (m : Mask) (r : List (Nat × Status)) : (s.cmdEndStrings id m r).thm = s.thm :=
  (State.cmdEndStrings_frame ..).thm_eq (by decide)
@[simp] theorem State.cmdEndStrings_herd (s : State) (id : Word) (m : Mask) (r : List (Nat × Status)) : (s.cmdEndStrings id m r).herd = s.herd :=
  (State.cmdEndStrings_frame ..).herd_eq (by decide)
@[simp] theorem State.cmdEndStrings_power (s : State) (id : Word) (m : Mask) (r : List (Nat × Status)) : (s.cmdEndStrings id m r).power = s.power :=
  (State.cmdEndStrings_frame ..).power_eq (by decide)
@[simp] theorem State.cmdEndStrings_prot (s : State) (id : Word) (m : Mask) (r : List (Nat × Status)) : (s.cmdEndStrings id m r).prot = s.prot :=
  (State.cmdEndStrings_frame ..).prot_eq (by decide)
@[simp] theorem State.cmdEndStrings_dsp (s : State) (id : Word) (m : Mask) (r : List (Nat × Status)) : (s.cmdEndStrings id m r).dsp = s.dsp :=
  (State.cmdEndStrings_frame ..).dsp_eq (by decide)
@[simp] theorem State.cmdEndStrings_grz (s : State) (id : Word) (m : Mask) (r : List (Nat × Status)) : (s.cmdEndStrings id m r).grz = s.grz :=
  (State.cmdEndStrings_frame ..).grz_eq (by decide)
@[simp] theorem State.cmdEndStrings_ledgerOther (s : State) (id : Word) (m : Mask) (r : List (Nat × Status)) : (s.cmdEndStrings id m r).ledgerOther = s.ledgerOther :=
  (State.cmdEndStrings_frame ..).ledgerOther_eq (by decide)
@[simp] theorem State.cmdEndStrings_bus (s : State) (id : Word) (m : Mask) (r : List (Nat × Status)) : (s.cmdEndStrings id m r).bus = s.bus :=
  (State.cmdEndStrings_frame ..).bus_eq (by decide)
@[simp] theorem State.cmdEndStrings_tw (s : State) (id : Word) (m : Mask) (r : List (Nat × Status)) : (s.cmdEndStrings id m r).tw = s.tw :=
  (State.cmdEndStrings_frame ..).tw_eq (by decide)
@[simp] theorem State.cmdEndStrings_cfg (s : State) (id : Word) (m : Mask) (r : List (Nat × Status)) : (s.cmdEndStrings id m r).cfg = s.cfg :=
  (State.cmdEndStrings_frame ..).cfg_eq (by decide)
@[simp] theorem State.cmdEndStrings_upd (s : State) (id : Word) (m : Mask) (r : List (Nat × Status)) : (s.cmdEndStrings id m r).upd = s.upd :=
  (State.cmdEndStrings_frame ..).upd_eq (by decide)
@[simp] theorem State.cmdEndStrings_mem (s : State) (id : Word) (m : Mask) (r : List (Nat × Status)) : (s.cmdEndStrings id m r).mem = s.mem :=
  (State.cmdEndStrings_frame ..).mem_eq (by decide)
@[simp] theorem State.cmdEndStrings_acc (s : State) (id : Word) (m : Mask) (r : List (Nat × Status)) : (s.cmdEndStrings id m r).acc = s.acc :=
  (State.cmdEndStrings_frame ..).acc_eq (by decide)
@[simp] theorem State.cmdEndStrings_psv (s : State) (id : Word) (m : Mask) (r : List (Nat × Status)) : (s.cmdEndStrings id m r).psv = s.psv :=
  (State.cmdEndStrings_frame ..).psv_eq (by decide)
@[simp] theorem State.cmdEndStrings_pending (s : State) (id : Word) (m : Mask) (r : List (Nat × Status)) : (s.cmdEndStrings id m r).pending = s.pending :=
  (State.cmdEndStrings_frame ..).pending_eq (by decide)
@[simp] theorem State.cmdEndStrings_free (s : State) (id : Word) (m : Mask) (r : List (Nat × Status)) : (s.cmdEndStrings id m r).free = s.free :=
  (State.cmdEndStrings_frame ..).free_eq (by decide)
@[simp] theorem State.cmdEndStrings_get_now (s : State) (id : Word) (m : Mask) (r : List (Nat × Status)) : (s.cmdEndStrings id m r).now = s.now := by
  simp [State.now]
@[simp] theorem State.cmdEndStrings_get_str (s : State) (id : Word) (m : Mask) (r : List (Nat × Status)) (i : Nat) : (s.cmdEndStrings id m r).str i = s.str i := by
  simp [State.str]
@[simp] theorem State.cmdEndStrings_get_lnk (s : State) (id : Word) (m : Mask) (r : List (Nat × Status)) (i : Nat) : (s.cmdEndStrings id m r).lnk i = s.lnk i := by
  simp [State.lnk]
@[simp] theorem State.cmdEndStrings_get_fee (s : State) (id : Word) (m : Mask) (r : List (Nat × Status)) (i : Nat) : (s.cmdEndStrings id m r).fee i = s.fee i := by
  simp [State.fee]
@[simp] theorem State.cmdEndStrings_get_pp (s : State) (id : Word) (m : Mask) (r : List (Nat × Status)) (i : Nat) : (s.cmdEndStrings id m r).pp i = s.pp i := by
  simp [State.pp]
@[simp] theorem State.cmdEndStrings_get_pst (s : State) (id : Word) (m : Mask) (r : List (Nat × Status)) (i : Nat) : (s.cmdEndStrings id m r).pst i = s.pst i := by
  simp [State.pst]
@[simp] theorem State.handoverMsg_sys (s : State) (op : Nat) (es : List (Nat × Nat)) : (s.handoverMsg op es).sys = s.sys :=
  (State.handoverMsg_frame ..).sys_eq (by decide)
@[simp] theorem State.handoverMsg_time (s : State) (op : Nat) (es : List (Nat × Nat)) : (s.handoverMsg op es).time = s.time :=
  (State.handoverMsg_frame ..).time_eq (by decide)
@[simp] theorem State.handoverMsg_mode (s : State) (op : Nat) (es : List (Nat × Nat)) : (s.handoverMsg op es).mode = s.mode :=
  (State.handoverMsg_frame ..).mode_eq (by decide)
@[simp] theorem State.handoverMsg_linkCfg (s : State) (op : Nat) (es : List (Nat × Nat)) : (s.handoverMsg op es).linkCfg = s.linkCfg :=
  (State.handoverMsg_frame ..).linkCfg_eq (by decide)
@[simp] theorem State.handoverMsg_link (s : State) (op : Nat) (es : List (Nat × Nat)) : (s.handoverMsg op es).link = s.link :=
  (State.handoverMsg_frame ..).link_eq (by decide)
@[simp] theorem State.handoverMsg_cfeCfg (s : State) (op : Nat) (es : List (Nat × Nat)) : (s.handoverMsg op es).cfeCfg = s.cfeCfg :=
  (State.handoverMsg_frame ..).cfeCfg_eq (by decide)
@[simp] theorem State.handoverMsg_cfgReplaced (s : State) (op : Nat) (es : List (Nat × Nat)) : (s.handoverMsg op es).cfgReplaced = s.cfgReplaced :=
  (State.handoverMsg_frame ..).cfgReplaced_eq (by decide)
@[simp] theorem State.handoverMsg_cfe (s : State) (op : Nat) (es : List (Nat × Nat)) : (s.handoverMsg op es).cfe = s.cfe :=
  (State.handoverMsg_frame ..).cfe_eq (by decide)
@[simp] theorem State.handoverMsg_fe (s : State) (op : Nat) (es : List (Nat × Nat)) : (s.handoverMsg op es).fe = s.fe :=
  (State.handoverMsg_frame ..).fe_eq (by decide)
@[simp] theorem State.handoverMsg_meas (s : State) (op : Nat) (es : List (Nat × Nat)) : (s.handoverMsg op es).meas = s.meas :=
  (State.handoverMsg_frame ..).meas_eq (by decide)
@[simp] theorem State.handoverMsg_cells (s : State) (op : Nat) (es : List (Nat × Nat)) : (s.handoverMsg op es).cells = s.cells :=
  (State.handoverMsg_frame ..).cells_eq (by decide)
@[simp] theorem State.handoverMsg_aux (s : State) (op : Nat) (es : List (Nat × Nat)) : (s.handoverMsg op es).aux = s.aux :=
  (State.handoverMsg_frame ..).aux_eq (by decide)
@[simp] theorem State.handoverMsg_th (s : State) (op : Nat) (es : List (Nat × Nat)) : (s.handoverMsg op es).th = s.th :=
  (State.handoverMsg_frame ..).th_eq (by decide)
@[simp] theorem State.handoverMsg_herdTab (s : State) (op : Nat) (es : List (Nat × Nat)) : (s.handoverMsg op es).herdTab = s.herdTab :=
  (State.handoverMsg_frame ..).herdTab_eq (by decide)
@[simp] theorem State.handoverMsg_mkCell (s : State) (op : Nat) (es : List (Nat × Nat)) : (s.handoverMsg op es).mkCell = s.mkCell :=
  (State.handoverMsg_frame ..).mkCell_eq (by decide)
@[simp] theorem State.handoverMsg_mkTh (s : State) (op : Nat) (es : List (Nat × Nat)) : (s.handoverMsg op es).mkTh = s.mkTh :=
  (State.handoverMsg_frame ..).mkTh_eq (by decide)
@[simp] theorem State.handoverMsg_est (s : State) (op : Nat) (es : List (Nat × Nat)) : (s.handoverMsg op es).est = s.est :=
  (State.handoverMsg_frame ..).est_eq (by decide)
@[simp] theorem State.handoverMsg_thm (s : State) (op : Nat) (es : List (Nat × Nat)) : (s.handoverMsg op es).thm = s.thm :=
  (State.handoverMsg_frame ..).thm_eq (by decide)
@[simp] theorem State.handoverMsg_herd (s : State) (op : Nat) (es : List (Nat × Nat)) : (s.handoverMsg op es).herd = s.herd :=
  (State.handoverMsg_frame ..).herd_eq (by decide)
@[simp] theorem State.handoverMsg_power (s : State) (op : Nat) (es : List (Nat × Nat)) : (s.handoverMsg op es).power = s.power :=
  (State.handoverMsg_frame ..).power_eq (by decide)
@[simp] theorem State.handoverMsg_prot (s : State) (op : Nat) (es : List (Nat × Nat)) : (s.handoverMsg op es).prot = s.prot :=
  (State.handoverMsg_frame ..).prot_eq (by decide)
@[simp] theorem State.handoverMsg_dsp (s : State) (op : Nat) (es : List (Nat × Nat)) : (s.handoverMsg op es).dsp = s.dsp :=
  (State.handoverMsg_frame ..).dsp_eq (by decide)
@[simp] theorem State.handoverMsg_grz (s : State) (op : Nat) (es : List (Nat × Nat)) : (s.handoverMsg op es).grz = s.grz :=
  (State.handoverMsg_frame ..).grz_eq (by decide)
@[simp] theorem State.handoverMsg_ledgerOther (s : State) (op : Nat) (es : List (Nat × Nat)) : (s.handoverMsg op es).ledgerOther = s.ledgerOther :=
  (State.handoverMsg_frame ..).ledgerOther_eq (by decide)
@[simp] theorem State.handoverMsg_bus (s : State) (op : Nat) (es : List (Nat × Nat)) : (s.handoverMsg op es).bus = s.bus :=
  (State.handoverMsg_frame ..).bus_eq (by decide)
@[simp] theorem State.handoverMsg_tw (s : State) (op : Nat) (es : List (Nat × Nat)) : (s.handoverMsg op es).tw = s.tw :=
  (State.handoverMsg_frame ..).tw_eq (by decide)
@[simp] theorem State.handoverMsg_cfg (s : State) (op : Nat) (es : List (Nat × Nat)) : (s.handoverMsg op es).cfg = s.cfg :=
  (State.handoverMsg_frame ..).cfg_eq (by decide)
@[simp] theorem State.handoverMsg_upd (s : State) (op : Nat) (es : List (Nat × Nat)) : (s.handoverMsg op es).upd = s.upd :=
  (State.handoverMsg_frame ..).upd_eq (by decide)
@[simp] theorem State.handoverMsg_mem (s : State) (op : Nat) (es : List (Nat × Nat)) : (s.handoverMsg op es).mem = s.mem :=
  (State.handoverMsg_frame ..).mem_eq (by decide)
@[simp] theorem State.handoverMsg_jnl (s : State) (op : Nat) (es : List (Nat × Nat)) : (s.handoverMsg op es).jnl = s.jnl :=
  (State.handoverMsg_frame ..).jnl_eq (by decide)
@[simp] theorem State.handoverMsg_acc (s : State) (op : Nat) (es : List (Nat × Nat)) : (s.handoverMsg op es).acc = s.acc :=
  (State.handoverMsg_frame ..).acc_eq (by decide)
@[simp] theorem State.handoverMsg_psv (s : State) (op : Nat) (es : List (Nat × Nat)) : (s.handoverMsg op es).psv = s.psv :=
  (State.handoverMsg_frame ..).psv_eq (by decide)
@[simp] theorem State.handoverMsg_pending (s : State) (op : Nat) (es : List (Nat × Nat)) : (s.handoverMsg op es).pending = s.pending :=
  (State.handoverMsg_frame ..).pending_eq (by decide)
@[simp] theorem State.handoverMsg_free (s : State) (op : Nat) (es : List (Nat × Nat)) : (s.handoverMsg op es).free = s.free :=
  (State.handoverMsg_frame ..).free_eq (by decide)
@[simp] theorem State.handoverMsg_get_now (s : State) (op : Nat) (es : List (Nat × Nat)) : (s.handoverMsg op es).now = s.now := by
  simp [State.now]
@[simp] theorem State.handoverMsg_get_str (s : State) (op : Nat) (es : List (Nat × Nat)) (i : Nat) : (s.handoverMsg op es).str i = s.str i := by
  simp [State.str]
@[simp] theorem State.handoverMsg_get_lnk (s : State) (op : Nat) (es : List (Nat × Nat)) (i : Nat) : (s.handoverMsg op es).lnk i = s.lnk i := by
  simp [State.lnk]
@[simp] theorem State.handoverMsg_get_fee (s : State) (op : Nat) (es : List (Nat × Nat)) (i : Nat) : (s.handoverMsg op es).fee i = s.fee i := by
  simp [State.fee]
@[simp] theorem State.handoverMsg_get_pp (s : State) (op : Nat) (es : List (Nat × Nat)) (i : Nat) : (s.handoverMsg op es).pp i = s.pp i := by
  simp [State.pp]
@[simp] theorem State.handoverMsg_get_pst (s : State) (op : Nat) (es : List (Nat × Nat)) (i : Nat) : (s.handoverMsg op es).pst i = s.pst i := by
  simp [State.pst]
@[simp] theorem State.handoverMsg_ledger (s : State) (op : Nat) (es : List (Nat × Nat)) : (s.handoverMsg op es).site.ledger = s.site.ledger :=
  ((State.handoverMsg_frame ..).same .ledger (by decide)).1.symm
@[simp] theorem State.handoverMsg_entry (s : State) (op : Nat) (es : List (Nat × Nat)) (i : Word) : (s.handoverMsg op es).entry i = s.entry i :=
  (State.handoverMsg_frame ..).entry (by decide) i

end Sys2Proof.Machine
end

