-- ==== Sys2Proof/Laws/Protect.lean ====
section
/-! SUPPORT. What the shared operations of protection do to a string's stages and latches. -/

namespace Sys2Proof.Machine

/-- The stages of a string: warnings, their conditions, trips, and the start of an absence. -/
def State.stagesOf (s : State) (j : Nat) : Mask × Mask × Mask × Tab Nat :=
  ((s.pst j).warn, (s.pst j).warnCond, (s.pst j).tripStage, (s.pst j).absentFrom)

/-- A latched string stays latched, with its first cause, and `TRIP` stays asserted. -/
structure LatchKept (x y : ProtStr) : Prop where
  latched : ∀ n, has x.latched n = true → has y.latched n = true
  first : x.firstOut ≠ 0 → y.firstOut ≠ 0
  trip : x.trip = true → y.trip = true

theorem LatchKept.refl (x : ProtStr) : LatchKept x x := ⟨fun _ h => h, id, id⟩

theorem LatchKept.trans {x y z : ProtStr} (h : LatchKept x y) (g : LatchKept y z) : LatchKept x z :=
  ⟨fun n w => g.latched n (h.latched n w), fun w => g.first (h.first w), fun w => g.trip (h.trip w)⟩

/-- Stages as they were, latches kept: what everything that follows a stage does. -/
structure Settled (s t : State) : Prop where
  stages : ∀ j, t.stagesOf j = s.stagesOf j
  latch : ∀ j, LatchKept (s.pst j) (t.pst j)

theorem Settled.refl (s : State) : Settled s s := ⟨fun _ => rfl, fun _ => LatchKept.refl _⟩

theorem Settled.trans {s u t : State} (h : Settled s u) (g : Settled u t) : Settled s t :=
  ⟨fun j => (g.stages j).trans (h.stages j), fun j => (h.latch j).trans (g.latch j)⟩

theorem Settled.of_prot {s t : State} (h : t.prot = s.prot) : Settled s t := by
  have k : ∀ j, t.pst j = s.pst j := fun j => by simp [State.pst, h]
  exact ⟨fun j => by simp [State.stagesOf, k], fun j => k j ▸ LatchKept.refl _⟩

theorem Settled.modPst {s : State} (k : Nat) (f : ProtStr → ProtStr)
    (hs : ∀ x : ProtStr, ((f x).warn, (f x).warnCond, (f x).tripStage, (f x).absentFrom) =
      (x.warn, x.warnCond, x.tripStage, x.absentFrom)) (hl : ∀ x, LatchKept x (f x)) : Settled s (s.modPst k f) := by
  constructor <;> intro j <;> by_cases h : j = k <;>
    simp [State.stagesOf, State.modPst, State.pst, tget_tmod, h, hl, LatchKept.refl]
  simpa using hs (tget s.prot.str k)

theorem Settled.foldl {α : Type} {f : State → α → State} (h : ∀ u a, Settled u (f u a)) (l : List α) (s : State) :
    Settled s (l.foldl f s) := by
  induction l generalizing s with
  | nil => exact .refl _
  | cons a l ih => exact (h s a).trans (ih _)

theorem has_withBit (m : Mask) (i j : Nat) : has (withBit m i) j = (has m j || (decide (j = i) && decide (j < 16))) := by
  simp only [has, withBit, BitVec.getLsbD_or, BitVec.getLsbD_shiftLeft]
  by_cases h : j = i
  · subst h; by_cases g : j < 16 <;> simp [g]
  · by_cases g : j < 16 <;> by_cases l : j < i <;> simp [g, l, h]
    omega

theorem State.startOpening_settled (s : State) (k : Nat) : Settled s (s.startOpening k) := by
  unfold State.startOpening
  extract_lets q opens
  exact .trans (u := s.modPst k fun x => { x with permit := x.permit && opens })
    (.modPst _ _ (fun _ => rfl) (fun _ => ⟨fun _ h => h, id, id⟩)) (.of_prot rfl)

theorem State.setStr_settled (s : State) (k : Nat) (new : SState) (c : Byte) (sf : Nat) (d : Bool) :
    Settled s (s.setStr k new c sf d) := .of_prot ((State.setStr_frame ..).prot_eq (by decide))

theorem State.endConnect_settled (s : State) (k c : Nat) (new : SState) (why : Byte) (sf : Nat) :
    Settled s (s.endConnect k c new why sf) := by
  unfold State.endConnect
  extract_lets o counted retry spent s1 s2 s3 s4
  have h1 : Settled s s1 := .of_prot (State.ev_prot s 0x0A01 _)
  have h2 : Settled s s2 := h1.trans ((State.startOpening_settled s1 k).trans (.of_prot rfl))
  have h3 : Settled s s3 := h2.trans (State.setStr_settled ..)
  have h : Settled s s4 := h3.trans (.of_prot rfl)
  split
  · exact h.trans (.of_prot rfl)
  · exact h

theorem State.recordProt_settled (s : State) (k : Nat) (i h : Bool) (sf : Nat) : Settled s (s.recordProt k i h sf) := by
  unfold State.recordProt
  split
  · split
    · exact State.endConnect_settled ..
    · exact .refl _
  · split
    · exact State.setStr_settled ..
    · exact .refl _
  · split
    · exact (State.startOpening_settled ..).trans (State.setStr_settled ..)
    · split
      · exact State.setStr_settled ..
      · exact .refl _
  · split
    · exact (State.startOpening_settled ..).trans (State.setStr_settled ..)
    · split
      · exact .refl _
      · exact State.setStr_settled ..
  · exact .refl _

theorem State.recordOwn_settled (s : State) (k : Nat) : Settled s (s.recordOwn k) := by
  unfold State.recordOwn
  split
  · exact .refl _
  · exact State.recordProt_settled ..

theorem State.raiseAlarm_settled (s : State) (k b : Nat) : Settled s (s.raiseAlarm k b) := by
  unfold State.raiseAlarm
  split
  · exact .refl _
  · exact .trans (.of_prot (State.ev_prot ..)) (.modPst _ _ (fun _ => rfl) (fun _ => ⟨fun _ h => h, id, id⟩))

theorem State.firstWith_ne (s : State) (k n : Nat) (hn : n ≠ 0) : s.firstWith k n ≠ 0 := by
  unfold State.firstWith
  extract_lets
  split
  · exact hn
  · next g => exact fun e => g (Or.inl e)

theorem State.latch_settled (s : State) (k n : Nat) (hn : n ≠ 0) : Settled s (s.latch k n) := by
  unfold State.latch
  extract_lets o s1 first s2
  have h1 : Settled s s1 := .of_prot (State.evIf_prot ..)
  have h2 : Settled s s2 := by
    refine h1.trans (.modPst _ _ (fun _ => rfl) (fun x => ⟨fun m h => ?_, fun h => ?_, fun _ => rfl⟩))
    · simp [has_withBit, h]
    · exact s.firstWith_ne k n hn
  exact h2.trans ((State.startOpening_settled s2 k).trans (.of_prot ((State.surveyStop_frame ..).prot_eq (by decide))))

theorem State.latch_sets (s : State) (k n : Nat) (h16 : n ≤ 16) :
    has ((s.latch k n).pst k).latched (n - 1) = true ∧ ((s.latch k n).pst k).trip = true := by
  unfold State.latch
  extract_lets o s1 first s2
  have h : has (s2.pst k).latched (n - 1) = true ∧ (s2.pst k).trip = true := by
    simp [s2, has_withBit]
    omega
  have g := ((State.startOpening_settled s2 k).trans
    (.of_prot ((State.surveyStop_frame (s2.startOpening k) k).prot_eq (by decide)))).latch k
  exact ⟨g.latched _ h.1, g.trip h.2⟩

theorem State.takeActions_settled (s : State) (k n : Nat) (a : Byte) (hn : n ≠ 0) :
    Settled s (s.takeActions k n a) := by
  unfold State.takeActions
  extract_lets s1 s2 opens s3
  have h1 : Settled s s1 := by
    show Settled s (if _ then _ else _)
    split
    · exact State.raiseAlarm_settled ..
    · exact .refl _
  have h2 : Settled s s2 := by
    show Settled s (if _ then _ else _)
    split
    · exact h1.trans (.modPst _ _ (fun _ => rfl) (fun _ => ⟨fun _ h => h, id, id⟩))
    · exact h1
  have h3 : Settled s s3 := h2.trans (.foldl (fun u j => State.latch_settled u j n hn) _ _)
  exact h3.trans (.foldl (fun u j => State.recordOwn_settled u j) _ _)

/-- A trip whose actions open the string latches it. -/
theorem State.takeActions_latches (s : State) (k n : Nat) (a : Byte) (h16 : n ≤ 16)
    (h4 : a.getLsbD 4 = true) (h5 : a.getLsbD 5 = false) :
    has ((s.takeActions k n a).pst k).latched (n - 1) = true ∧ ((s.takeActions k n a).pst k).trip = true := by
  unfold State.takeActions
  extract_lets s1 s2 opens s3
  have ho : opens = [k] := by simp only [opens, h4, h5, Bool.false_eq_true, if_false, if_true]
  have h := State.latch_sets s2 k n h16
  have h3 : s3 = s2.latch k n := by simp [s3, ho]
  have g := ((Settled.foldl (fun u j => State.recordOwn_settled u j) (if opens = [] then [k] else opens) s3).latch k)
  rw [h3] at g ⊢
  exact ⟨g.latched _ h.1, g.trip h.2⟩

theorem State.warnStart_stage (s : State) (k n idx : Nat) (v : Int) (hn : n ≠ 0) (h16 : n ≤ 16) :
    has ((s.warnStart k n idx v).pst k).warn (n - 1) = true := by
  unfold State.warnStart
  split
  · assumption
  · extract_lets acts s1 s2
    have h := (State.takeActions_settled s2 k n acts hn).stages k
    simp only [State.stagesOf, Prod.mk.injEq] at h
    rw [h.1]
    simp [s2, s1, has_withBit]
    omega

theorem State.tripStart_stage (s : State) (k n idx : Nat) (v : Int) (hn : n ≠ 0) (h16 : n ≤ 16) :
    has ((s.tripStart k n idx v).pst k).tripStage (n - 1) = true := by
  unfold State.tripStart
  split
  · assumption
  · extract_lets acts s1 s2
    have h := (State.takeActions_settled (s2.startCapture k n) k n acts hn).stages k
    simp only [State.stagesOf, Prod.mk.injEq] at h
    have hp : (s2.startCapture k n).prot = s2.prot := (State.startCapture_frame ..).prot_eq (by decide)
    rw [h.2.2.1]
    have h17 : n - 1 < 16 := by omega
    have hq : (s2.startCapture k n).pst k = s1.pst k := by
      simp only [State.pst, hp]
      exact congrArg (fun x => tget x.str k) (State.ev_prot s1 0x0B01 _)
    rw [hq]
    simp [s1, has_withBit, h17]

/-- A trip leaves the warnings as they were. -/
theorem State.tripStart_warn (s : State) (k n idx : Nat) (v : Int) (hn : n ≠ 0) (j : Nat) :
    ((s.tripStart k n idx v).pst j).warn = (s.pst j).warn ∧
      ((s.tripStart k n idx v).pst j).warnCond = (s.pst j).warnCond := by
  unfold State.tripStart
  split
  · exact ⟨rfl, rfl⟩
  · extract_lets acts s1 s2
    have h := (State.takeActions_settled (s2.startCapture k n) k n acts hn).stages j
    simp only [State.stagesOf, Prod.mk.injEq] at h
    have hp : (s2.startCapture k n).prot = s2.prot := (State.startCapture_frame ..).prot_eq (by decide)
    have hq : (s2.startCapture k n).pst j = s1.pst j := by
      simp only [State.pst, hp]
      exact congrArg (fun x => tget x.str j) (State.ev_prot s1 0x0B01 _)
    have h1 : (s1.pst j).warn = (s.pst j).warn ∧ (s1.pst j).warnCond = (s.pst j).warnCond := by
      by_cases hj : j = k <;> simp [s1, State.modPst, State.pst, tget_tmod, hj]
    rw [h.1, h.2.1, hq]
    exact h1

/-- A trip of one string leaves the trip stages of other strings, and every other stage of its own, as they were. -/
theorem State.tripStart_other (s : State) (k n idx : Nat) (v : Int) (hn : n ≠ 0) (j m : Nat) (h : j ≠ k ∨ m ≠ n - 1) :
    has ((s.tripStart k n idx v).pst j).tripStage m = has (s.pst j).tripStage m := by
  unfold State.tripStart
  split
  · rfl
  · extract_lets acts s1 s2
    have g := (State.takeActions_settled (s2.startCapture k n) k n acts hn).stages j
    simp only [State.stagesOf, Prod.mk.injEq] at g
    have hp : (s2.startCapture k n).prot = s2.prot := (State.startCapture_frame ..).prot_eq (by decide)
    have hq : (s2.startCapture k n).pst j = s1.pst j := by
      simp only [State.pst, hp]
      exact congrArg (fun x => tget x.str j) (State.ev_prot s1 0x0B01 _)
    rw [g.2.2.1, hq]
    by_cases hj : j = k
    · have hm : m ≠ n - 1 := h.resolve_left (fun f => f hj)
      simp [s1, hj, has_withBit, hm]
    · simp [s1, State.modPst, State.pst, tget_tmod, hj]

/-- A trip that begins latches the string where the action matrix opens it alone. -/
theorem State.tripStart_latches (s : State) (k n idx : Nat) (v : Int) (h16 : n ≤ 16)
    (h : has (s.pst k).tripStage (n - 1) = false) (h4 : (s.matrix n).trip.getLsbD 4 = true)
    (h5 : (s.matrix n).trip.getLsbD 5 = false) :
    has ((s.tripStart k n idx v).pst k).latched (n - 1) = true ∧ ((s.tripStart k n idx v).pst k).trip = true := by
  unfold State.tripStart
  rw [if_neg (by simp [h])]
  exact State.takeActions_latches _ k n _ h16 h4 h5

end Sys2Proof.Machine
end

