-- ==== Sys2Proof/Laws/Bits.lean ====
section
/-! SUPPORT. Bits of masks, counters of memory regions, and overruns. -/

namespace Sys2Proof.Machine

theorem has_withoutBit (m : Mask) (i j : Nat) : has (withoutBit m i) j = (has m j && !decide (j = i)) := by
  simp only [has, withoutBit, BitVec.getLsbD_and, BitVec.getLsbD_not, BitVec.getLsbD_shiftLeft]
  by_cases h : j = i
  · subst h; by_cases g : j < 16 <;> simp [g]
  · by_cases g : j < 16
    · by_cases l : j < i <;> simp [g, l, h]
      omega
    · simp [BitVec.getLsbD_of_ge m j (Nat.not_lt.mp g)]

/-- A bit written into a mask is read back, and the others stay. -/
theorem has_putBit (m : Mask) {i : Nat} (hi : i < 16) (b : Bool) (j : Nat) :
    has (putBit m i b) j = if j = i then b else has m j := by
  cases b <;> simp only [putBit, if_true, Bool.false_eq_true, if_false, has_withBit, has_withoutBit] <;>
    by_cases h : j = i <;> simp [h, hi]

/-- What is not a journal or the queue before them. -/
def JnlSt.rest (x : JnlSt) : JnlSt := { x with safety := {}, event := {}, audit := {}, queue := [] }

theorem State.modRing_rest (s : State) (j : JournalId) (f : Ring → Ring) : (s.modRing j f).jnl.rest = s.jnl.rest := by
  cases j <;> rfl

theorem State.enqueue_rest (s : State) (j : JournalId) (r : JRec) : (s.enqueue j r).jnl.rest = s.jnl.rest := by
  unfold State.enqueue
  extract_lets d room s1
  split
  · exact State.modRing_rest ..
  · split
    · exact State.modRing_rest s j fun r => { r with dropped := 0 }
    · rfl

/-- An event changes the journals and the queue before them only. -/
theorem State.ev_rest (s : State) (c : Nat) (b : Bytes) : (s.ev c b).jnl.rest = s.jnl.rest := by
  unfold State.ev
  split
  · rfl
  · exact State.enqueue_rest ..

@[simp] theorem State.ev_jnl_mirror0 (s : State) (c : Nat) (b : Bytes) : (s.ev c b).jnl.mirror0 = s.jnl.mirror0 :=
  by
  simpa only [JnlSt.rest] using congrArg (fun x : JnlSt => x.mirror0) (State.ev_rest s c b)

@[simp] theorem State.ev_jnl_mirror1 (s : State) (c : Nat) (b : Bytes) : (s.ev c b).jnl.mirror1 = s.jnl.mirror1 :=
  by
  simpa only [JnlSt.rest] using congrArg (fun x : JnlSt => x.mirror1) (State.ev_rest s c b)

@[simp] theorem State.ev_jnl_carrier0 (s : State) (c : Nat) (b : Bytes) : (s.ev c b).jnl.carrier0 = s.jnl.carrier0 :=
  by
  simpa only [JnlSt.rest] using congrArg (fun x : JnlSt => x.carrier0) (State.ev_rest s c b)

@[simp] theorem State.ev_jnl_carrier1 (s : State) (c : Nat) (b : Bytes) : (s.ev c b).jnl.carrier1 = s.jnl.carrier1 :=
  by
  simpa only [JnlSt.rest] using congrArg (fun x : JnlSt => x.carrier1) (State.ev_rest s c b)

@[simp] theorem State.ev_jnl_otherMirror (s : State) (c : Nat) (b : Bytes) : (s.ev c b).jnl.otherMirror = s.jnl.otherMirror :=
  by
  simpa only [JnlSt.rest] using congrArg (fun x : JnlSt => x.otherMirror) (State.ev_rest s c b)

@[simp] theorem State.ev_jnl_ident (s : State) (c : Nat) (b : Bytes) : (s.ev c b).jnl.ident = s.jnl.ident :=
  by
  simpa only [JnlSt.rest] using congrArg (fun x : JnlSt => x.ident) (State.ev_rest s c b)

@[simp] theorem State.ev_jnl_wearDue (s : State) (c : Nat) (b : Bytes) : (s.ev c b).jnl.wearDue = s.jnl.wearDue :=
  by
  simpa only [JnlSt.rest] using congrArg (fun x : JnlSt => x.wearDue) (State.ev_rest s c b)

@[simp] theorem State.ev_jnl_wearPostponed (s : State) (c : Nat) (b : Bytes) : (s.ev c b).jnl.wearPostponed = s.jnl.wearPostponed :=
  by
  simpa only [JnlSt.rest] using congrArg (fun x : JnlSt => x.wearPostponed) (State.ev_rest s c b)

@[simp] theorem State.ev_jnl_carrierRetry (s : State) (c : Nat) (b : Bytes) : (s.ev c b).jnl.carrierRetry = s.jnl.carrierRetry :=
  by
  simpa only [JnlSt.rest] using congrArg (fun x : JnlSt => x.carrierRetry) (State.ev_rest s c b)

@[simp] theorem State.ev_jnl_wSource (s : State) (c : Nat) (b : Bytes) : (s.ev c b).jnl.wSource = s.jnl.wSource :=
  by
  simpa only [JnlSt.rest] using congrArg (fun x : JnlSt => x.wSource) (State.ev_rest s c b)

@[simp] theorem State.ev_jnl_wSeq (s : State) (c : Nat) (b : Bytes) : (s.ev c b).jnl.wSeq = s.jnl.wSeq :=
  by
  simpa only [JnlSt.rest] using congrArg (fun x : JnlSt => x.wSeq) (State.ev_rest s c b)

@[simp] theorem State.ev_jnl_wFrame (s : State) (c : Nat) (b : Bytes) : (s.ev c b).jnl.wFrame = s.jnl.wFrame :=
  by
  simpa only [JnlSt.rest] using congrArg (fun x : JnlSt => x.wFrame) (State.ev_rest s c b)

@[simp] theorem State.ev_jnl_wearNone (s : State) (c : Nat) (b : Bytes) : (s.ev c b).jnl.wearNone = s.jnl.wearNone :=
  by
  simpa only [JnlSt.rest] using congrArg (fun x : JnlSt => x.wearNone) (State.ev_rest s c b)

@[simp] theorem State.ev_jnl_mkThru (s : State) (c : Nat) (b : Bytes) : (s.ev c b).jnl.mkThru = s.jnl.mkThru :=
  by
  simpa only [JnlSt.rest] using congrArg (fun x : JnlSt => x.mkThru) (State.ev_rest s c b)

@[simp] theorem State.ev_jnl_mkAt (s : State) (c : Nat) (b : Bytes) : (s.ev c b).jnl.mkAt = s.jnl.mkAt :=
  by
  simpa only [JnlSt.rest] using congrArg (fun x : JnlSt => x.mkAt) (State.ev_rest s c b)

@[simp] theorem State.ev_jnl_mkBase (s : State) (c : Nat) (b : Bytes) : (s.ev c b).jnl.mkBase = s.jnl.mkBase :=
  by
  simpa only [JnlSt.rest] using congrArg (fun x : JnlSt => x.mkBase) (State.ev_rest s c b)

@[simp] theorem State.ev_jnl_gasp0 (s : State) (c : Nat) (b : Bytes) : (s.ev c b).jnl.gasp0 = s.jnl.gasp0 :=
  by
  simpa only [JnlSt.rest] using congrArg (fun x : JnlSt => x.gasp0) (State.ev_rest s c b)

@[simp] theorem State.ev_jnl_gasp1 (s : State) (c : Nat) (b : Bytes) : (s.ev c b).jnl.gasp1 = s.jnl.gasp1 :=
  by
  simpa only [JnlSt.rest] using congrArg (fun x : JnlSt => x.gasp1) (State.ev_rest s c b)

@[simp] theorem State.ev_jnl_herd (s : State) (c : Nat) (b : Bytes) : (s.ev c b).jnl.herd = s.jnl.herd :=
  by
  simpa only [JnlSt.rest] using congrArg (fun x : JnlSt => x.herd) (State.ev_rest s c b)

@[simp] theorem State.ev_jnl_safeLatch (s : State) (c : Nat) (b : Bytes) : (s.ev c b).jnl.safeLatch = s.jnl.safeLatch :=
  by
  simpa only [JnlSt.rest] using congrArg (fun x : JnlSt => x.safeLatch) (State.ev_rest s c b)

@[simp] theorem State.ev_jnl_lastReadback (s : State) (c : Nat) (b : Bytes) : (s.ev c b).jnl.lastReadback = s.jnl.lastReadback :=
  by
  simpa only [JnlSt.rest] using congrArg (fun x : JnlSt => x.lastReadback) (State.ev_rest s c b)

@[simp] theorem State.ev_jnl_feCommits (s : State) (c : Nat) (b : Bytes) : (s.ev c b).jnl.feCommits = s.jnl.feCommits :=
  by
  simpa only [JnlSt.rest] using congrArg (fun x : JnlSt => x.feCommits) (State.ev_rest s c b)

@[simp] theorem State.evIf_jnl_mirror0 (s : State) (d : Bool) (c : Nat) (b : Bytes) :
    (s.evIf d c b).jnl.mirror0 = s.jnl.mirror0 := by unfold State.evIf; split <;> simp

@[simp] theorem State.evIf_jnl_mirror1 (s : State) (d : Bool) (c : Nat) (b : Bytes) :
    (s.evIf d c b).jnl.mirror1 = s.jnl.mirror1 := by unfold State.evIf; split <;> simp

@[simp] theorem State.evIf_jnl_carrier0 (s : State) (d : Bool) (c : Nat) (b : Bytes) :
    (s.evIf d c b).jnl.carrier0 = s.jnl.carrier0 := by unfold State.evIf; split <;> simp

@[simp] theorem State.evIf_jnl_carrier1 (s : State) (d : Bool) (c : Nat) (b : Bytes) :
    (s.evIf d c b).jnl.carrier1 = s.jnl.carrier1 := by unfold State.evIf; split <;> simp

@[simp] theorem State.evIf_jnl_otherMirror (s : State) (d : Bool) (c : Nat) (b : Bytes) :
    (s.evIf d c b).jnl.otherMirror = s.jnl.otherMirror := by unfold State.evIf; split <;> simp

@[simp] theorem State.evIf_jnl_ident (s : State) (d : Bool) (c : Nat) (b : Bytes) :
    (s.evIf d c b).jnl.ident = s.jnl.ident := by unfold State.evIf; split <;> simp

@[simp] theorem State.evIf_jnl_wearDue (s : State) (d : Bool) (c : Nat) (b : Bytes) :
    (s.evIf d c b).jnl.wearDue = s.jnl.wearDue := by unfold State.evIf; split <;> simp

@[simp] theorem State.evIf_jnl_wearPostponed (s : State) (d : Bool) (c : Nat) (b : Bytes) :
    (s.evIf d c b).jnl.wearPostponed = s.jnl.wearPostponed := by unfold State.evIf; split <;> simp

@[simp] theorem State.evIf_jnl_carrierRetry (s : State) (d : Bool) (c : Nat) (b : Bytes) :
    (s.evIf d c b).jnl.carrierRetry = s.jnl.carrierRetry := by unfold State.evIf; split <;> simp

@[simp] theorem State.evIf_jnl_wSource (s : State) (d : Bool) (c : Nat) (b : Bytes) :
    (s.evIf d c b).jnl.wSource = s.jnl.wSource := by unfold State.evIf; split <;> simp

@[simp] theorem State.evIf_jnl_wSeq (s : State) (d : Bool) (c : Nat) (b : Bytes) :
    (s.evIf d c b).jnl.wSeq = s.jnl.wSeq := by unfold State.evIf; split <;> simp

@[simp] theorem State.evIf_jnl_wFrame (s : State) (d : Bool) (c : Nat) (b : Bytes) :
    (s.evIf d c b).jnl.wFrame = s.jnl.wFrame := by unfold State.evIf; split <;> simp

@[simp] theorem State.evIf_jnl_wearNone (s : State) (d : Bool) (c : Nat) (b : Bytes) :
    (s.evIf d c b).jnl.wearNone = s.jnl.wearNone := by unfold State.evIf; split <;> simp

@[simp] theorem State.evIf_jnl_mkThru (s : State) (d : Bool) (c : Nat) (b : Bytes) :
    (s.evIf d c b).jnl.mkThru = s.jnl.mkThru := by unfold State.evIf; split <;> simp

@[simp] theorem State.evIf_jnl_mkAt (s : State) (d : Bool) (c : Nat) (b : Bytes) :
    (s.evIf d c b).jnl.mkAt = s.jnl.mkAt := by unfold State.evIf; split <;> simp

@[simp] theorem State.evIf_jnl_mkBase (s : State) (d : Bool) (c : Nat) (b : Bytes) :
    (s.evIf d c b).jnl.mkBase = s.jnl.mkBase := by unfold State.evIf; split <;> simp

@[simp] theorem State.evIf_jnl_gasp0 (s : State) (d : Bool) (c : Nat) (b : Bytes) :
    (s.evIf d c b).jnl.gasp0 = s.jnl.gasp0 := by unfold State.evIf; split <;> simp

@[simp] theorem State.evIf_jnl_gasp1 (s : State) (d : Bool) (c : Nat) (b : Bytes) :
    (s.evIf d c b).jnl.gasp1 = s.jnl.gasp1 := by unfold State.evIf; split <;> simp

@[simp] theorem State.evIf_jnl_herd (s : State) (d : Bool) (c : Nat) (b : Bytes) :
    (s.evIf d c b).jnl.herd = s.jnl.herd := by unfold State.evIf; split <;> simp

@[simp] theorem State.evIf_jnl_safeLatch (s : State) (d : Bool) (c : Nat) (b : Bytes) :
    (s.evIf d c b).jnl.safeLatch = s.jnl.safeLatch := by unfold State.evIf; split <;> simp

@[simp] theorem State.evIf_jnl_lastReadback (s : State) (d : Bool) (c : Nat) (b : Bytes) :
    (s.evIf d c b).jnl.lastReadback = s.jnl.lastReadback := by unfold State.evIf; split <;> simp

@[simp] theorem State.evIf_jnl_feCommits (s : State) (d : Bool) (c : Nat) (b : Bytes) :
    (s.evIf d c b).jnl.feCommits = s.jnl.feCommits := by unfold State.evIf; split <;> simp

/-- The first overrun of a kind in a frame is marked and counted (R35). -/
theorem State.overrun_time {s : State} {k : OverrunKind} (h : s.overran k = false) :
    (s.overrun k).overran k = true ∧ (s.overrun k).runOf k = sat32u (s.runOf k + 1) := by
  unfold State.overrun
  rw [if_neg (by simp [h])]
  cases k <;> simp [State.overran, State.setRun, State.runOf, OverrunKind.code]

@[simp] theorem State.modMem_memReg (s : State) (r : MemRegion) (f : MemReg → MemReg) :
    (s.modMem r f).memReg r = f (s.memReg r) := by cases r <;> rfl

@[simp] theorem State.hardFault_memReg (s : State) (r q : MemRegion) (a : Nat) :
    (s.hardFault r a).memReg q = s.memReg q := by
  unfold State.hardFault
  split
  · rfl
  · dsimp only
    generalize hu : State.ev s _ _ = u
    have h : u.memReg q = s.memReg q := by
      cases q <;> simp only [State.memReg] <;> rw [← hu, State.ev_mem]
    rw [← h]
    (repeat' split) <;> cases q <;> rfl

@[simp] theorem State.hardFault_corrected (s : State) (r : MemRegion) (a : Nat) :
    (s.hardFault r a).prot.corrected = s.prot.corrected := by
  unfold State.hardFault
  split
  · rfl
  · dsimp only
    generalize hu : State.ev s _ _ = u
    have h : u.prot = s.prot := by rw [← hu, State.ev_prot]
    (repeat' split) <;> simp [h]

end Sys2Proof.Machine
end

