-- ==== Sys2Proof/Laws/Bus.lean ====
section
/-! SUPPORT. What the operations of the container bus do to a controller and to the rest of the bus. -/

namespace Sys2Proof.Machine

/-- The bus without its two controllers. -/
def BusSt.rest (x : BusSt) : BusSt := { x with a := {}, b := {} }

@[simp] theorem State.modCtl_self (s : State) (c : Nat) (f : CanCtl → CanCtl) : (s.modCtl c f).ctl c = f (s.ctl c) := by
  unfold State.modCtl State.ctl
  split <;> rfl

@[simp] theorem State.modCtl_rest (s : State) (c : Nat) (f : CanCtl → CanCtl) : (s.modCtl c f).bus.rest = s.bus.rest := by
  unfold State.modCtl
  split <;> rfl

/-- `t` differs from `s` in no controller but `c`. -/
def OtherCtl (c : Nat) (s t : State) : Prop := ∀ d, (d = 0 ↔ c ≠ 0) → t.ctl d = s.ctl d

theorem OtherCtl.of_bus {c : Nat} {s t : State} (h : t.bus = s.bus) : OtherCtl c s t := fun d _ => by
  simp [State.ctl, h]

theorem OtherCtl.trans {c : Nat} {s u t : State} (h : OtherCtl c s u) (g : OtherCtl c u t) : OtherCtl c s t :=
  fun d hd => (g d hd).trans (h d hd)

theorem State.modCtl_other (s : State) (c : Nat) (f : CanCtl → CanCtl) : OtherCtl c s (s.modCtl c f) := by
  intro d hd
  unfold State.modCtl State.ctl
  by_cases h : c = 0
  · have : d ≠ 0 := fun e => (hd.mp e) h
    simp [h, this]
  · have : d = 0 := hd.mpr h
    simp [h, this]

theorem State.itemIn_bus (s : State) (it : PairItem) : (s.itemIn it).bus = s.bus :=
  (State.itemIn_frame s it).bus_eq (by decide)

theorem State.ctl_congr {s t : State} (h : t.bus = s.bus) (c : Nat) : t.ctl c = s.ctl c := by simp [State.ctl, h]

/-- Counting a content as undelivered changes the controller's objects and its count of drops. -/
theorem State.undeliver_ctl (s : State) (c o f : Nat) :
    (∃ ob n, (s.undeliver c o f).ctl c = { s.ctl c with obj := ob, nDrop := n }) ∧
      (s.undeliver c o f).bus.rest = s.bus.rest ∧ OtherCtl c s (s.undeliver c o f) := by
  unfold State.undeliver
  extract_lets x
  generalize hu : State.evIf s _ _ _ = u
  have h : u.bus = s.bus := by rw [← hu, State.evIf_bus]
  refine ⟨?_, by rw [State.modCtl_rest, h], (OtherCtl.of_bus h).trans (State.modCtl_other _ _ _)⟩
  rw [State.modCtl_self, State.ctl_congr h]
  exact ⟨_, _, rfl⟩

/-- Leaving RUN changes the controller's objects and its count of drops. -/
theorem State.dropObjects_ctl (s : State) (c : Nat) :
    (∃ ob n, (s.dropObjects c).ctl c = { s.ctl c with obj := ob, nDrop := n }) ∧
      (s.dropObjects c).bus.rest = s.bus.rest ∧ OtherCtl c s (s.dropObjects c) := by
  unfold State.dropObjects
  extract_lets x s1
  have h : ∀ (l : List CanContent) (u : State),
      (∃ ob n, (l.foldl (fun u (k : CanContent) => u.undeliver c 1 k.frame) u).ctl c =
        { u.ctl c with obj := ob, nDrop := n }) ∧
      (l.foldl (fun u (k : CanContent) => u.undeliver c 1 k.frame) u).bus.rest = u.bus.rest ∧
      OtherCtl c u (l.foldl (fun u (k : CanContent) => u.undeliver c 1 k.frame) u) := by
    intro l
    induction l with
    | nil => intro u; exact ⟨⟨_, _, rfl⟩, rfl, fun _ _ => rfl⟩
    | cons k l ih =>
      intro u
      obtain ⟨⟨o1, n1, h1⟩, h2, h3⟩ := State.undeliver_ctl u c 1 k.frame
      obtain ⟨⟨o2, n2, g1⟩, g2, g3⟩ := ih (u.undeliver c 1 k.frame)
      refine ⟨⟨o2, n2, ?_⟩, g2.trans h2, h3.trans g3⟩
      rw [List.foldl_cons, g1, h1]
  obtain ⟨⟨o, n, h1⟩, h2, h3⟩ := h (x.cur.toList ++ x.next.toList) s
  refine ⟨?_, by rw [State.modCtl_rest]; exact h2, h3.trans (State.modCtl_other _ _ _)⟩
  rw [State.modCtl_self, show s1.ctl c = _ from h1]
  exact ⟨_, n, rfl⟩

/-- A controller change (R463): the new state, and of the rest of the controller only its objects, its count of drops,
the trial of rates and the flag of the transmission at a time change. -/
theorem State.setCtl_ctl (s : State) (c : Nat) (new : CanState) (cause : Nat) :
    (∃ ob n td, (s.setCtl c new cause).ctl c =
      { s.ctl c with
        state := new, ackRun := 0, cand := 0, good := 0, brs := false, candFrom := s.now,
        detectFrom := if new = .detect then s.now else (s.ctl c).detectFrom, tatDue := td, obj := ob, nDrop := n }) ∧
      (s.setCtl c new cause).bus.rest = s.bus.rest ∧ OtherCtl c s (s.setCtl c new cause) := by
  unfold State.setCtl
  extract_lets old s0 s1 s2
  have h0 : (∃ ob n, s0.ctl c = { s.ctl c with obj := ob, nDrop := n }) ∧ s0.bus.rest = s.bus.rest ∧ OtherCtl c s s0 := by
    by_cases h : old.state = .run
    · simp only [s0, h, if_true]
      exact State.dropObjects_ctl s c
    · have e : s0 = s := if_neg h
      rw [e]
      exact ⟨⟨_, _, rfl⟩, rfl, fun _ _ => rfl⟩
  obtain ⟨⟨ob, n, h1⟩, h2, h3⟩ := h0
  have e2 : s2.bus = s1.bus := State.ev_bus ..
  refine ⟨?_, ?_, ?_⟩
  · rw [State.ctl_congr (State.itemIn_bus ..), State.ctl_congr e2, State.modCtl_self, h1]
    exact ⟨ob, n, _, rfl⟩
  · rw [State.itemIn_bus, e2, State.modCtl_rest, h2]
  · exact (h3.trans (State.modCtl_other _ _ _)).trans ((OtherCtl.of_bus e2).trans (.of_bus (State.itemIn_bus ..)))

/-- `t` differs from `s` on the bus in the objects of controller `c` only. -/
structure ObjOnly (c : Nat) (s t : State) : Prop where
  self : ∃ ob, t.ctl c = { s.ctl c with obj := ob }
  rest : t.bus.rest = s.bus.rest
  other : OtherCtl c s t

theorem ObjOnly.of_bus {c : Nat} {s t : State} (h : t.bus = s.bus) : ObjOnly c s t :=
  ⟨⟨(s.ctl c).obj, State.ctl_congr h c⟩, by rw [h], .of_bus h⟩

theorem ObjOnly.trans {c : Nat} {s u t : State} (h : ObjOnly c s u) (g : ObjOnly c u t) : ObjOnly c s t := by
  obtain ⟨o1, e1⟩ := h.self
  obtain ⟨o2, e2⟩ := g.self
  exact ⟨⟨o2, by rw [e2, e1]⟩, g.rest.trans h.rest, h.other.trans g.other⟩

theorem ObjOnly.modCtl (s : State) (c : Nat) (f : CanCtl → CanCtl) {ob : Tab CanObj}
    (h : f (s.ctl c) = { s.ctl c with obj := ob }) : ObjOnly c s (s.modCtl c f) :=
  ⟨⟨ob, by rw [State.modCtl_self, h]⟩, State.modCtl_rest _ _ _, State.modCtl_other _ _ _⟩

theorem State.disableObj_objOnly (s : State) (c o : Nat) : ObjOnly c s (s.disableObj c o) := by
  unfold State.disableObj
  extract_lets s1
  have h : ObjOnly c s s1 := .modCtl s c _ rfl
  split
  · exact h.trans (.of_bus (State.itemIn_bus _ _))
  · exact h

theorem State.clashRx_objOnly (s : State) (c : Nat) (f : CanFrame) : ObjOnly c s (s.clashRx c f) := by
  unfold State.clashRx
  extract_lets src hit s1
  have h : ∀ (l : List Nat) (u : State), ObjOnly c u (l.foldl (fun u o =>
      if (tget (u.ctl c).obj o).state = .disabled then u
      else (u.clashEvent c o f.ident.toNat 1 src).disableObj c o) u) := by
    intro l
    induction l with
    | nil => intro u; exact .of_bus rfl
    | cons a l ih =>
      intro u
      refine ObjOnly.trans ?_ (ih _)
      dsimp only
      split
      · exact .of_bus rfl
      · exact .trans (.of_bus (State.ev_bus ..)) (State.disableObj_objOnly _ _ _)
  have h1 : ObjOnly c s s1 := h hit s
  split
  · exact h1.trans (.of_bus (State.ev_bus ..))
  · exact h1

/-- A controller in RUN counts a good frame (R448). -/
theorem State.canHear_run {s : State} {c : Nat} {f : CanFrame} (h : (s.ctl c).state = .run) (h0 : f.ok = true) :
    OtherCtl c s (s.canHear c f) ∧ (∃ ob, (s.canHear c f).ctl c = { s.ctl c with
      nRx := sat32u ((s.ctl c).nRx + 1), rec_ := (s.ctl c).rec_ - 1, lastRx := some s.clockUs, obj := ob }) ∧
    (s.canHear c f).bus.rest = s.bus.rest := by
  unfold State.canHear
  rw [h]
  simp only [h0, Bool.not_true, Bool.false_eq_true, if_false, reduceCtorEq]
  generalize hu : State.modCtl s c _ = u
  have h1 : OtherCtl c s u ∧ u.ctl c = { s.ctl c with
      nRx := sat32u ((s.ctl c).nRx + 1), rec_ := (s.ctl c).rec_ - 1, lastRx := some s.clockUs } ∧
      u.bus.rest = s.bus.rest := by
    rw [← hu]
    exact ⟨State.modCtl_other _ _ _, by rw [State.modCtl_self], State.modCtl_rest _ _ _⟩
  split
  · have g := State.clashRx_objOnly u c f
    obtain ⟨ob, e⟩ := g.self
    exact ⟨h1.1.trans g.other, ⟨ob, by rw [e, h1.2.1]⟩, g.rest.trans h1.2.2⟩
  · exact ⟨h1.1, ⟨(s.ctl c).obj, h1.2.1⟩, h1.2.2⟩

/-- An input item waits for its assignment, or is assigned two frames ahead (R385). -/
theorem State.itemIn_item (s : State) (it : PairItem) :
    (s.assignsAlone = false → it ∈ (s.itemIn it).pair.items) ∧
      (s.assignsAlone = true → it ∈ tget (s.itemIn it).pair.assigned (s.now + 2)) := by
  unfold State.itemIn
  cases h : s.assignsAlone
  · exact ⟨fun _ => by simp, nofun⟩
  · refine ⟨nofun, fun _ => ?_⟩
    unfold State.assign
    simp

end Sys2Proof.Machine
end

