-- ==== Sys2Proof/Laws/Stands.lean ====
section
/-! SUPPORT. A command that is DONE with OK stays so through the shared operations that end other commands. -/

namespace Sys2Proof.Machine

/-- The command's DONE with OK, once reached, stands. -/
structure DoneKept (id : Word) (s t : State) : Prop where
  canonical : twf s.site.ledger = true → twf t.site.ledger = true
  done : twf s.site.ledger = true → s.cmdStands id .done .ok → t.cmdStands id .done .ok

theorem DoneKept.refl (id : Word) (s : State) : DoneKept id s s := ⟨fun h => h, fun _ h => h⟩

theorem DoneKept.trans {id : Word} {s u t : State} (h : DoneKept id s u) (g : DoneKept id u t) : DoneKept id s t :=
  ⟨fun w => g.canonical (h.canonical w), fun w d => g.done (h.canonical w) (h.done w d)⟩

theorem DoneKept.of_ledger {id : Word} {s t : State} (h : t.site.ledger = s.site.ledger) : DoneKept id s t :=
  ⟨fun w => h ▸ w, fun _ ⟨e, he, a, b⟩ => ⟨e, (State.entry_congr h id).trans he, a, b⟩⟩

theorem DoneKept.of_frame {id : Word} {W : List View} {s t : State} (h : Frame W s t) (hv : View.ledger ∉ W) :
    DoneKept id s t := .of_ledger (h.same .ledger hv).1.symm

theorem DoneKept.ite {id : Word} {s a b : State} {c : Prop} [Decidable c] (ha : DoneKept id s a) (hb : DoneKept id s b) :
    DoneKept id s (if c then a else b) := by
  split
  · exact ha
  · exact hb

theorem DoneKept.foldl {α : Type} {id : Word} {f : State → α → State} (h : ∀ u a, DoneKept id u (f u a)) (l : List α)
    (s : State) : DoneKept id s (l.foldl f s) := by
  induction l generalizing s with
  | nil => exact .refl _ _
  | cons a l ih => exact (h s a).trans (ih _)

/-- Moving another command leaves it. -/
theorem State.cmdTo_doneKept (s : State) {id id' : Word} (h : id' ≠ id) {st : LedgerState} (hs : st ≠ .empty)
    (status : Status) (step : Nat) (detail : Bytes) : DoneKept id s (s.cmdTo id' st status step detail) := by
  cases he : s.entry id' with
  | none =>
    have : s.cmdTo id' st status step detail = s := by
      unfold State.cmdTo
      split
      · rfl
      · next k hk => simp [State.entry, hk] at he
    rw [this]; exact .refl _ _
  | some e =>
    refine ⟨fun w => (State.cmdTo_entry w he hs status step detail).2.2, fun w ⟨x, hx, a, b⟩ => ⟨x, ?_, a, b⟩⟩
    rw [(State.cmdTo_entry w he hs status step detail).2.1 id (Ne.symm h)]; exact hx

/-- Ending a command with DONE and OK leaves every command that is so. -/
theorem State.cmdTo_done_doneKept (s : State) (id id' : Word) (step : Nat) (detail : Bytes) :
    DoneKept id s (s.cmdTo id' .done .ok step detail) := by
  by_cases h : id' = id
  · subst h
    refine ⟨fun w => ?_, fun w ⟨x, hx, a, b⟩ => State.cmdTo_cmdStands w hx (by decide) .ok step detail⟩
    cases he : s.entry id' with
    | none =>
      have : s.cmdTo id' .done .ok step detail = s := by
        unfold State.cmdTo
        split
        · rfl
        · next k hk => simp [State.entry, hk] at he
      rw [this]; exact w
    | some e => exact (State.cmdTo_entry w he (by decide) .ok step detail).2.2
  · exact State.cmdTo_doneKept s h (by decide) ..

/-- An abort ends only a command that is under way. -/
theorem State.cmdAbort_doneKept (s : State) (id id' : Word) : DoneKept id s (s.cmdAbort id') := by
  unfold State.cmdAbort
  split
  · next ho =>
    by_cases h : id' = id
    · subst h
      unfold State.cmdOpen at ho
      refine ⟨fun w => ?_, fun w ⟨x, hx, a, b⟩ => ?_⟩
      · split at ho
        · next e he => exact (State.cmdTo_entry w he (by decide) ..).2.2
        · cases ho
      · rw [hx] at ho; simp [a] at ho
    · exact State.cmdTo_doneKept s h (by decide) ..
  · exact .refl _ _

theorem State.cancelHandover_doneKept (s : State) (id : Word) : DoneKept id s s.cancelHandover := by
  unfold State.cancelHandover
  extract_lets kill s1
  have hk : ∀ (u : State) (h : Nat) (c : Word), DoneKept id u (kill u h c) := by
    intro u h c
    exact .ite (.of_frame (State.ev_frame ..) (by decide))
      (.trans (.of_frame (State.ev_frame ..) (by decide)) (State.cmdAbort_doneKept ..))
  have h1 : DoneKept id s s1 := by
    simp only [s1]
    split
    · exact hk ..
    · split
      · exact hk ..
      · exact .refl _ _
  exact h1.trans (.of_ledger rfl)

theorem State.setPair_doneKept (s : State) (id : Word) (n : PairState) (c : Nat) : DoneKept id s (s.setPair n c) := by
  unfold State.setPair
  extract_lets u old s1
  have h1 : DoneKept id s u := .ite (.refl _ _) (State.cancelHandover_doneKept ..)
  have h2 : DoneKept id s s1 := h1.trans (.of_frame (State.ev_frame ..) (by decide))
  exact h2.trans (.of_ledger rfl)

theorem State.cfeAbort_doneKept (s : State) (id : Word) (h : ∀ j, s.upd.cfe = some j → j.cmd ≠ id) :
    DoneKept id s s.cfeAbort := by
  unfold State.cfeAbort
  split
  · exact .refl _ _
  · next j hj =>
    extract_lets s1
    exact (DoneKept.of_ledger (s := s) (t := s1) rfl).trans
      ((State.cmdTo_doneKept s1 (h j hj) (by decide) ..).trans (.of_ledger rfl))

theorem State.safeAborts_doneKept (s : State) (id : Word) (h : ∀ j, s.upd.cfe = some j → j.cmd ≠ id) :
    DoneKept id s s.safeAborts := by
  unfold State.safeAborts
  extract_lets s1 s2
  have h1 : DoneKept id s s1 := .ite (.refl _ _) (State.cmdAbort_doneKept ..)
  have h2 : DoneKept id s s2 := h1.trans (.foldl (fun u (c : SurveyCmd) => State.cmdAbort_doneKept u id c.cmd) _ _)
  have hu : s2.upd = s.upd := by
    have a : s1.upd = s.upd := by
      simp only [s1]; split
      · rfl
      · exact State.cmdAbort_upd ..
    exact (foldl_view (v := fun u : State => u.upd) (fun u c => State.cmdAbort_upd ..) _ _).trans a
  refine h2.trans (DoneKept.trans
    (u := { s2 with mode.surveyCmds := [], mode.str := tmap s2.mode.str (fun _ x => { x with survey := none }) })
    (.of_ledger rfl) (State.cfeAbort_doneKept _ id ?_))
  intro j hj
  exact h j (hu ▸ hj)

/-- Entry to Safe leaves a command that is DONE with OK. -/
theorem State.enterSafe_doneKept (s : State) (id : Word) (h : ∀ j, s.upd.cfe = some j → j.cmd ≠ id) (c : Byte)
    (cmd : Word) : DoneKept id s (s.enterSafe c cmd) := by
  unfold State.enterSafe
  extract_lets _ _ s1 s2 s3 _ s4
  have f1 : Frame [.jnl, .safeLatch] { s with prot.safeA := true, prot.safeB := true, pair.chgOut := false } s1 :=
    State.safeLatchSet_frame ..
  have h1 : DoneKept id s s1 :=
    DoneKept.trans (u := { s with prot.safeA := true, prot.safeB := true, pair.chgOut := false }) (.of_ledger rfl)
      (.of_frame f1 (by decide))
  have hs : ∀ (l : List Nat) (u : State), DoneKept id u (l.foldl (fun u k => u.safeStr k) u) :=
    .foldl fun u k => .of_frame (State.safeStr_frame ..) (by decide)
  have h2 : DoneKept id s s2 := by
    refine h1.trans ((State.safeAborts_doneKept s1 id ?_).trans (hs _ _))
    intro j hj
    exact h j ((f1.upd_eq (by decide)) ▸ hj)
  have h4 : DoneKept id s s4 := (h2.trans (.of_frame (State.setMode_frame ..) (by decide))).trans (.of_ledger rfl)
  split
  · exact h1.trans (hs _ _)
  · exact h1.trans (hs _ _)
  · exact h1.trans (.of_frame (State.ev_frame ..) (by decide))
  · exact .ite (h4.trans (State.setPair_doneKept ..)) h4

/-- Entry to Idle leaves a command that is DONE with OK. -/
theorem State.idleEntry_doneKept (s : State) (id : Word) : DoneKept id s s.idleEntry := by
  unfold State.idleEntry
  have hm : ∀ (u : State) m c d, DoneKept id u (u.setMode m c d) := fun u m c d =>
    .of_frame (State.setMode_frame ..) (by decide)
  refine .ite (.ite ?_ (.ite (.refl _ _) (hm ..))) (.refl _ _)
  extract_lets i s1
  exact .ite (hm ..) ((hm ..).trans (State.cmdTo_done_doneKept ..))

end Sys2Proof.Machine
end

