-- ==== Sys2Proof/Laws/Modes.lean ====
section
/-! SUPPORT. What the shared operations of modes, strings and Surveys leave in the mode, the strings and the latches. -/

namespace Sys2Proof.Machine

theorem State.setMode_mode (s : State) (m : Mode) (c : Nat) (d : Word) :
    (s.setMode m c d).mode = { s.mode with
      mode := m, entryFrame := s.now, target := none, targetCmd := 0, targetHoldup := false, holdupLow := 0 } := by
  simp [State.setMode]
theorem bodyOf_due {s : State} {id : Word} {c : Nat} {e : LedgerEntry} (h : Due s id c e) :
    s.bodyOf id = e.body := by simp [State.bodyOf, h.entry]

theorem State.idleEntry_of_target (u : State) (id : Word) (h : u.mode.mode = .serve) (h1 : u.mode.target = some .idle) (h2 : u.mode.targetCmd = id) :
   u.idleEntry.mode.mode = .idle ∨ (u.idleEntry.mode.mode = .serve ∧ u.idleEntry.mode.target = some .idle ∧
       u.idleEntry.mode.targetCmd = id) := by
  unfold State.idleEntry
  split
  · left
    dsimp only
    split
    · rw [State.setMode_mode]
    · rw [State.cmdTo_mode, State.setMode_mode]
  · exact Or.inr ⟨h, h1, h2⟩

theorem State.targetIdle_mode (s : State) (c : Word) (b : Bool) : (s.targetIdle c b).mode.mode = s.mode.mode ∧
    (s.targetIdle c b).mode.target = some .idle ∧
  (s.targetIdle c b).mode.targetCmd = c ∧ (s.targetIdle c b).mode.targetHoldup = b := by
  unfold State.targetIdle
  extract_lets _ s1 s2
  let V : State → Mode × Option Mode × Word × Bool := fun u => (u.mode.mode, u.mode.target, u.mode.targetCmd,
      u.mode.targetHoldup)
  have e1 : ∀ (u : State) k, V (u.orderOpen k .command (s.now + 100 * s.mode.cfg.openWait)) = V u := by
    intro u k; unfold State.orderOpen; split <;> rfl
  have e2 : ∀ (u : State) k c n w sf, V (u.endConnect k c n w sf) = V u := by
    intro u k c n w sf
    unfold State.endConnect
    extract_lets _ _ _ _ s1 s2 s3 s4
    have : V s4 = V u := by
      simp [V, s4, s3, s2, s1, State.setStr, State.startOpening]
    split
    · exact this
    · exact this
  have e3 : ∀ (u : State) k, V (u.abortConnect k 6) = V u := by
    intro u k; unfold State.abortConnect; split
    · exact e2 ..
    · rfl
  have v := fun (l : List Nat) (u : State) => foldl_view (v := V) (f :=
      fun u k => u.orderOpen k .command (s.now + 100 * s.mode.cfg.openWait))
    (fun u k => e1 u k) l u
  have e4 : ∀ (u : State) k, V (u.undoTaken k) = V u := by
    intro u k; unfold State.undoTaken; split <;> rfl
  have v2 := fun (l : List Nat) (u : State) => foldl_view (v := V) (f := fun u k => (u.undoTaken k).abortConnect k 6)
    (fun u k => (e3 _ k).trans (e4 u k)) l u
  have := (v s2.strings s2).trans (v2 s1.strings s1)
  simp only [V, Prod.mk.injEq] at this
  exact this

theorem State.setPair_keeps (u : State) (n : PairState) (c : Nat) : (u.setPair n c).mode = u.mode ∧
    (u.setPair n c).prot = u.prot ∧ (u.setPair n c).jnl.safeLatch = u.jnl.safeLatch :=
  ⟨(State.setPair_frame ..).mode_eq (by decide), (State.setPair_frame ..).prot_eq (by decide),
      (State.setPair_frame ..).safeLatch_eq (by decide)⟩

theorem State.enterSafe_enters (s : State) (c : Byte) (cmd : Word) (h1 : s.mode.mode ≠ .fill) (h2 : s.mode.mode ≠ .load) :
   (s.enterSafe c cmd).mode.mode = .safe ∧ (s.enterSafe c cmd).prot.safeA = true ∧
       (s.enterSafe c cmd).prot.safeB = true ∧
   (s.enterSafe c cmd).jnl.safeLatch = (if s.jnl.safeLatch = 0 then c else s.jnl.safeLatch) := by
  unfold State.enterSafe
  extract_lets _ _ s1 s2 s3 _ s4
  have a1 : s1.prot.safeA = true ∧ s1.prot.safeB = true ∧
      s1.jnl.safeLatch = (if s.jnl.safeLatch = 0 then c else s.jnl.safeLatch) ∧ s1.mode = s.mode := by
    simp only [s1]
    unfold State.safeLatchSet
    split
    · next h => simp
    · next h => simp
  have fs : ∀ (l : List Nat) (u : State), Frame [.mode, .power, .prot, .jnl,
      .enabled] u (l.foldl (fun u k => u.safeStr k) u) := fun l u =>
    .foldl (.refl _ _) fun u k h => .after (State.safeStr_frame ..) h rfl
  have so : s2.prot.safeA = true ∧ s2.prot.safeB = true ∧ s2.jnl.safeLatch = s1.jnl.safeLatch := by
    have f1 := State.safeAborts_frame s1
    have f2 : Frame [.mode, .power, .prot, .jnl, .enabled] s1.safeAborts s2 := fs _ _
    obtain ⟨x1, x2⟩ := f1.same .safeOuts (by decide)
    obtain ⟨y1, y2⟩ := f2.same .safeOuts (by decide)
    exact ⟨by rw [← y1, ← x1]; exact a1.1, by rw [← y2, ← x2]; exact a1.2.1,
        (f2.safeLatch_eq (by decide)).trans (f1.safeLatch_eq (by decide))⟩
  have f3 : s3.prot = s2.prot := (State.setMode_frame ..).prot_eq (by decide)
  have f3' : s3.jnl.safeLatch = s2.jnl.safeLatch := (State.setMode_frame ..).safeLatch_eq (by decide)
  have key : s4.mode.mode = .safe ∧ s4.prot.safeA = true ∧ s4.prot.safeB = true ∧
      s4.jnl.safeLatch = (if s.jnl.safeLatch = 0 then c else s.jnl.safeLatch) := by
    refine ⟨?_, by show s3.prot.safeA = true; rw [f3]; exact so.1,
        by show s3.prot.safeB = true; rw [f3]; exact so.2.1, ?_⟩
    · show s3.mode.mode = .safe
      simp only [s3]; rw [State.setMode_mode]
    · exact f3'.trans (so.2.2.trans a1.2.2.1)
  split
  · next h => exact absurd h h1
  · next h => exact absurd h h2
  · next h =>
    refine ⟨?_, ?_, ?_, ?_⟩
    · rw [State.ev_mode, a1.2.2.2]; exact h
    · rw [State.ev_prot]; exact a1.1
    · rw [State.ev_prot]; exact a1.2.1
    · rw [State.ev_jnl_safeLatch]; exact a1.2.2.1
  · split
    · obtain ⟨b1, b2, b3⟩ := State.setPair_keeps s4 .detached 0x0B
      rw [b1, b2, b3]; exact key
    · exact key

theorem admits_running {s : State} {id : Word} {c : Nat} {e : LedgerEntry} (h : Due s id c e) (hc : (acceptRow c e.body).hold = .no) :
   s.mode.mode ≠ .fill ∧ s.mode.mode ≠ .load := by
  have := h.mode
  unfold State.admits AcceptRow.at at this
  rw [h.code] at this
  constructor <;> intro hm <;> rw [hm] at this
  · simp at this
  · simp only [hc] at this
    split at this <;> simp_all

theorem State.idleEntry_str (u : State) : u.idleEntry.mode.str = u.mode.str ∧
    u.idleEntry.mode.enabled = u.mode.enabled := by
  unfold State.idleEntry
  split
  · split
    · dsimp only
      split
      · rw [State.setMode_mode]; exact ⟨rfl, rfl⟩
      · rw [State.cmdTo_mode, State.setMode_mode]; exact ⟨rfl, rfl⟩
    · split
      · exact ⟨rfl, rfl⟩
      · rw [State.setMode_mode]; exact ⟨rfl, rfl⟩
  · exact ⟨rfl, rfl⟩

theorem State.setStr_str (s : State) (k : Nat) (n : SState) (c : Byte) (sf : Nat) (d : Bool) (j : Nat) :
   (s.setStr k n c sf d).str j = if j = k then { s.str k with
      state := n, cause := c, sf := sf, lastRow := some (s.now, lowestRow (s.str k).lastRow s.now (strRow (s.str k).state n c)),
      opening := if n ∈ [SState.closed, .held] ∧ (s.str k).state ∈ [SState.closed,
          .held] then (s.str k).opening else none,
      dwellFrom := if d then some s.now else (s.str k).dwellFrom } else s.str j := by
  have : (s.setStr k n c sf d).mode.str = tmod s.mode.str k (fun x =>
    { x with
      state := n, cause := c, sf := sf, lastRow := some (s.now, lowestRow x.lastRow s.now (strRow (s.str k).state n c)),
      opening := if n ∈ [SState.closed, .held] ∧ (s.str k).state ∈ [SState.closed, .held] then x.opening else none,
      dwellFrom := if d then some s.now else x.dwellFrom }) := by
    simp [State.setStr]
  unfold State.str
  rw [this, tget_tmod]
  rfl

theorem State.setStr_wearDue (s : State) (k : Nat) (n : SState) (c : Byte) (sf : Nat) (d : Bool) : 
   (s.jnl.wearDue = true ∨ n = .service → (s.setStr k n c sf d).jnl.wearDue = true) := by
  rintro (h | h) <;> simp [State.setStr, h]

theorem mem_namedIn (m : Mask) (k : Nat) : k ∈ namedIn m ↔ has m k = true := by
  unfold namedIn allStr
  rw [List.mem_filter, (upFrom_nodup 0 16).2]
  constructor
  · exact fun h => h.2
  · intro h
    refine ⟨⟨by omega, ?_⟩, h⟩
    have := BitVec.lt_of_getLsbD h
    omega
theorem namedIn_nodup (m : Mask) : (namedIn m).Nodup := (upFrom_nodup 0 16).1.filter _

theorem has_foldl_withBit (m : Mask) (b : Mask) (k : Nat) :
    has ((namedIn m).foldl withBit b) k = (has m k || has b k) := by
  have : ∀ (l : List Nat) (b : Mask), (∀ x ∈ l, x < 16) → has (l.foldl withBit b) k = (decide (k ∈ l) || has b k) := by
    intro l
    induction l with
    | nil => intro b _; simp
    | cons a l ih =>
      intro b h
      rw [List.foldl_cons, ih _ (fun x hx => h x (List.mem_cons_of_mem _ hx)), has_withBit]
      have := h a (List.mem_cons_self ..)
      by_cases e : k = a
      · subst e; simp [this]
      · simp [e]
  rw [this _ _ (fun x hx => BitVec.lt_of_getLsbD ((mem_namedIn m x).mp hx))]
  congr 1
  have := mem_namedIn m k
  cases h : has m k <;> simp_all

theorem has_foldl_withoutBit (m : Mask) (b : Mask) (k : Nat) :
    has ((namedIn m).foldl withoutBit b) k = (has b k && !has m k) := by
  have : ∀ (l : List Nat) (b : Mask), has (l.foldl withoutBit b) k = (has b k && !decide (k ∈ l)) := by
    intro l
    induction l with
    | nil => intro b; simp
    | cons a l ih =>
      intro b
      rw [List.foldl_cons, ih, has_withoutBit]
      by_cases e : k = a
      · subst e; simp
      · simp [e]
  rw [this]
  congr 2
  have := mem_namedIn m k
  cases h : has m k <;> simp_all

theorem State.abortConnect_six (u : State) (k : Nat) : (u.abortConnect k 6).mode.enabled = u.mode.enabled ∧
   (((u.str k).state = .closed ∨ (u.str k).state = .held) → (u.abortConnect k 6).str k = u.str k) ∧
   ∀ j, j ≠ k → (u.abortConnect k 6).str j = u.str j := by
  unfold State.abortConnect
  split
  · next hc =>
    have e : (u.endConnect k 6 .opened 0 0).mode.enabled = u.mode.enabled ∧
        ∀ j, j ≠ k → (u.endConnect k 6 .opened 0 0).str j = u.str j := by
      unfold State.endConnect
      extract_lets _ counted _ spent s1 s2 s3 s4
      have : spent = false := by simp [spent, counted]
      rw [this, if_neg (by decide)]
      refine ⟨by simp [s4, s3, s2, s1, State.setStr, State.startOpening], ?_⟩
      intro j hj
      simp only [s4, State.modStr_str, hj, if_false, s3, State.setStr_str]
      simp [s2, s1, State.startOpening]
    refine ⟨e.1, ?_, e.2⟩
    intro h
    simp [State.connecting] at hc
    rcases h with h | h <;> simp [h] at hc
  · exact ⟨rfl, fun _ => rfl, fun _ _ => rfl⟩

theorem State.clearAlarm_pst (s : State) (k bit : Nat) (b : Bool) (j : Nat) :
   ((s.clearAlarm k bit b).pst j).latched = (s.pst j).latched ∧
       ((s.clearAlarm k bit b).pst j).trip = (s.pst j).trip := by
  unfold State.clearAlarm
  split
  · simp [State.pst, State.modPst, tget_tmod]
    split <;> simp_all
  · exact ⟨rfl, rfl⟩

theorem State.clearLatches_pst (s : State) (k : Nat) (c : Word) (r : Role) (j : Nat) :
   ((s.clearLatches k c r).pst j).latched = (if j = k then 0 else (s.pst j).latched) ∧
   ((s.clearLatches k c r).pst j).trip = (if j = k then false else (s.pst j).trip) := by
  unfold State.clearLatches
  extract_lets s1 _ s2
  have e1 : s1.prot = s.prot := foldl_view (v := fun u : State => u.prot) (fun u n => by simp) _ _
  have e2 : (s2.pst j).latched = (if j = k then 0 else (s.pst j).latched) ∧
   (s2.pst j).trip = (if j = k then false else (s.pst j).trip) := by
    simp only [s2, State.pst, State.modPst, tget_tmod, e1]
    split <;> exact ⟨rfl, rfl⟩
  have e3 := foldl_view (v := fun u : State => ((u.pst j).latched,
      (u.pst j).trip)) (f := fun u n => State.clearAlarm u k (n - 1) (u.stands k n))
    (fun u n => by
      obtain ⟨a, b⟩ := State.clearAlarm_pst u k (n - 1) (u.stands k n) j
      exact Prod.ext a b) (upFrom 1 12) s2
  simp only [Prod.mk.injEq] at e3
  exact ⟨e3.1.trans e2.1, e3.2.trans e2.2⟩

theorem State.surveyStart_mode (s : State) (k : Nat) (c : Word) :
    (s.surveyStart k c).mode = (s.modStr k (fun x => { x with survey := some { from_ := s.now, cmd := c } })).mode := by
  unfold State.surveyStart
  extract_lets s0 s1
  refine foldl_view (v := fun u : State => u.mode) (fun u p => ?_) _ _
  exact ((State.secQueue_frame (u.wakePort p .off) p surveyReads).mode_eq (by decide)).trans
    ((State.wakePort_frame u p .off).mode_eq (by decide))

theorem State.surveysStart_starts (s : State) (e : LedgerEntry) (r : Bool) (ks : List Nat) (rf : List (Nat × Status)) (hn : ks.Nodup)
   (e' : LedgerEntry) (he : s.entry e.id = some e') (hw : twf s.site.ledger = true) :
   (∀ k ∈ ks, (((s.surveysStart e r ks rf).str k).survey.map (fun v => (v.from_, v.cmd)) = some (s.now, e.id)) ∧
     ((s.surveysStart e r ks rf).pst k).latched = 0 ∧ ((s.surveysStart e r ks rf).pst k).trip = false) ∧
   (∃ c ∈ (s.surveysStart e r ks rf).mode.surveyCmds, c.cmd = e.id ∧ c.renew = r) ∧
   (s.surveysStart e r ks rf).cmdStands e.id .started .ok := by
  unfold State.surveysStart
  extract_lets s1 s2 codes
  have n1 : s1.now = s.now := (State.cmdTo_frame ..).frame_eq (by decide)
  have key := foldl_once
    (v := fun (u : State) k => (u.now, (u.str k).survey, (u.pst k).latched, (u.pst k).trip))
    (f := fun u k => (u.clearLatches k e.id e.role).surveyStart k e.id)
    (R := fun a b => b.1 = a.1 ∧ b.2.1.map (fun v => (v.from_, v.cmd)) = some (a.1, e.id) ∧ b.2.2.1 = 0 ∧
        b.2.2.2 = false)
    (l := ks)
    (by
      intro u k
      have p : ((u.clearLatches k e.id e.role).surveyStart k e.id).prot = (u.clearLatches k e.id e.role).prot :=
          (State.surveyStart_frame ..).prot_eq (by decide)
      have n2 : (u.clearLatches k e.id e.role).now = u.now := (State.clearLatches_frame ..).frame_eq (by decide)
      have n3 : ((u.clearLatches k e.id e.role).surveyStart k e.id).now = u.now :=
          ((State.surveyStart_frame ..).frame_eq (by decide)).trans n2
      obtain ⟨q1, q2⟩ := State.clearLatches_pst u k e.id e.role k
      refine ⟨n3, ?_, ?_, ?_⟩
      · show Option.map _ (State.str _ k).survey = _
        unfold State.str
        rw [State.surveyStart_mode]
        simp [n2]
      · show (State.pst _ k).latched = _
        unfold State.pst at q1 ⊢; rw [p, q1]; simp
      · show (State.pst _ k).trip = _
        unfold State.pst at q2 ⊢; rw [p, q2]; simp)
    (by
      intro u k j hj
      have p : ((u.clearLatches k e.id e.role).surveyStart k e.id).prot = (u.clearLatches k e.id e.role).prot :=
          (State.surveyStart_frame ..).prot_eq (by decide)
      have n2 : (u.clearLatches k e.id e.role).now = u.now := (State.clearLatches_frame ..).frame_eq (by decide)
      have n3 : ((u.clearLatches k e.id e.role).surveyStart k e.id).now = u.now :=
          ((State.surveyStart_frame ..).frame_eq (by decide)).trans n2
      have m2 : (u.clearLatches k e.id e.role).mode = u.mode := (State.clearLatches_frame ..).mode_eq (by decide)
      obtain ⟨q1, q2⟩ := State.clearLatches_pst u k e.id e.role j
      simp only [Prod.mk.injEq]
      refine ⟨n3, ?_, ?_, ?_⟩
      · unfold State.str
        rw [State.surveyStart_mode]
        simp [State.modStr, tget_tmod, hj, m2]
      · unfold State.pst at q1 ⊢; rw [p, q1]; simp [hj]
      · unfold State.pst at q2 ⊢; rw [p, q2]; simp [hj])
    hn s1
  refine ⟨?_, ⟨_, List.mem_append.mpr (Or.inr (List.mem_singleton.mpr rfl)), rfl, rfl⟩, ?_⟩
  · intro k hk
    obtain ⟨a, b, c, d⟩ := key k hk
    dsimp only at a b c d
    rw [n1] at b
    exact ⟨b, c, d⟩
  · have : s1.cmdStands e.id .started .ok := State.cmdTo_cmdStands hw he (by decide) ..
    have f : Frame [.mode, .link, .cfe, .meas, .prot, .jnl] s1 s2 := .foldl (.refl _ _) fun u k h =>
      .after (State.surveyStart_frame ..) (.after (State.clearLatches_frame ..) h rfl) rfl
    exact State.cmdStands_of_frame (W := [.mode, .link, .cfe, .meas, .prot, .jnl]) (.upd f rfl) (by decide) this

theorem State.surveyCmdEnd_mode (s : State) (c : SurveyCmd) :
    (s.surveyCmdEnd c).mode = s.mode := (State.surveyCmdEnd_frame ..).mode_eq (by decide)
theorem State.surveyCode_str (s : State) (k : Nat) (c : Word) (n : Nat) :
    (s.surveyCode k c n).mode.str = s.mode.str := by
  unfold State.surveyCode
  split
  · rfl
  · dsimp only
    split
    · rfl
    · rw [State.surveyCmdEnd_mode]

theorem State.surveyTake_takes (u : State) (k : Nat) (v : SurveySt) (r : SState × Byte) (h1 : u.auxClosed k = false) (h2 : (u.pst k).latched = 0) :
   ((u.surveyTake k v r).str k).survey = none ∧ ((u.surveyTake k v r).str k).state = r.1 ∧
       ((u.surveyTake k v r).str k).cause = r.2 := by
  unfold State.surveyTake
  extract_lets s1 _ s2 s3
  have e2 : s2 = s1 := by
    simp only [s2]; rw [show s1.auxClosed k = false from h1]; rfl
  have e3 : (s3.str k).survey = none ∧ (s3.str k).state = r.1 ∧ (s3.str k).cause = r.2 := by
    simp only [s3, e2]
    rw [if_neg (by show ¬ ((u.pst k).latched ≠ 0); simp [h2])]
    split
    · next h => exact ⟨by simp [s1], h⟩
    · rw [State.setStr_str]; simp [s1]
  have : ∀ n, ((s3.surveyCode k v.cmd n).str k) = s3.str k := fun n => by unfold State.str; rw [State.surveyCode_str]
  rw [this]; exact e3

end Sys2Proof.Machine
end

