-- ==== Sys2Proof/Laws/Clock.lean ====
section
/-! SUPPORT. What the operations of the timebase leave in it. -/

namespace Sys2Proof.Machine

/-- Judging the alignment writes the error bound, the good flag of the holdover and the aligned flag alone. -/
theorem State.alignJudge_time (s : State) : ∃ b g a, s.alignJudge.time = { s.time with
    errorBound := b,
    holdoverGood := g, aligned := a } := by
  refine ⟨s.alignJudge.time.errorBound, s.alignJudge.time.holdoverGood, s.alignJudge.time.aligned, ?_⟩
  simp [State.alignJudge, State.boundTake]

/-- Taking an offset and a correction stores both, and slews when the offset is not 0. -/
theorem State.offsetTake_time (s : State) (o f : Int) : (s.offsetTake o f).time.offset = o ∧
    (s.offsetTake o f).time.freqCorr = f ∧
   (s.offsetTake o f).time.slewing = decide (o ≠ 0) ∧ (s.offsetTake o f).time.source = s.time.source ∧
       (s.offsetTake o f).time.ppsPresent = s.time.ppsPresent
   ∧ (s.offsetTake o f).time.ppsMissed = s.time.ppsMissed ∧ (s.offsetTake o f).time.todNext = s.time.todNext ∧
       (s.offsetTake o f).time.todKnown = s.time.todKnown := by
  unfold State.offsetTake
  extract_lets big _ s1 s2
  obtain ⟨b, g, a, e⟩ := State.alignJudge_time s2
  rw [e]
  have : s2.time = { s1.time with stepAt := s2.time.stepAt } := by
    simp only [s2, State.announceStep]
    split
    · split <;> rfl
    · rfl
  dsimp only
  rw [this]
  exact ⟨rfl, rfl, rfl, rfl, rfl, rfl, rfl, rfl⟩

/-- Choosing the source again leaves the announcements, the pulse-per-second record, the time of day and the
configuration. -/
theorem State.retime_time (s : State) (c : Nat) : ((s.retime c).time.ann0, (s.retime c).time.ann1,
    (s.retime c).time.ppsPresent, (s.retime c).time.ppsMissed, (s.retime c).time.todNext,
    (s.retime c).time.todKnown, (s.retime c).time.cfg) =
   (s.time.ann0, s.time.ann1, s.time.ppsPresent, s.time.ppsMissed, s.time.todNext, s.time.todKnown, s.time.cfg) := by
  unfold State.retime
  split
  · rfl
  · extract_lets old new s1 _ s2 _ s3
    obtain ⟨b, g, a, e⟩ := State.alignJudge_time s3
    rw [e]
    have e1 : s1.time = s.time := State.evIf_time ..
    have e2 : s2.time = { s.time with source := s2.time.source, freqSource := s2.time.freqSource } := by
      rw [← e1]
    have : ∃ st f am gd, s3.time = { s2.time with
        state := st, holdoverFrom := f, ambientAtLoss := am,
        holdoverGood := gd } := by
      refine ⟨s3.time.state, s3.time.holdoverFrom, s3.time.ambientAtLoss, s3.time.holdoverGood, ?_⟩
      simp only [s3, State.enterHoldover]
      split
      · split
        · simp
        · split
          · simp
          · rfl
        · rfl
      · split <;> rfl
    obtain ⟨_, _, _, _, e3⟩ := this
    rw [e3]; dsimp only; rw [e2]

/-- After a session has been ended there is none. -/
theorem State.endSession_none (s : State) (k : Byte) : (s.endSession k).site.sstate = .none := by
  unfold State.endSession
  split
  · next h => exact h
  · rfl

/-- A step sets the frame number, takes the announced step away, and moves the offset by the frames it skipped; a
step backwards ends the session. -/
theorem State.stepTo_time (s : State) (n : Nat) : (s.stepTo n).time.frame = n - 1 ∧
    (s.stepTo n).time.stepAt = none ∧ (s.stepTo n).time.stepPending = false ∧
   (s.stepTo n).time.offset = s.time.offset + 1000000 * ((n : Int) - (s.now + 1)) ∧
       (n < s.now + 1 → (s.stepTo n).site.sstate = .none) := by
  unfold State.stepTo
  extract_lets s1 back d left _ s2
  have e : s2.time.frame = n - 1 ∧ s2.time.stepAt = none ∧ s2.time.stepPending = false ∧
      s2.time.offset = s.time.offset + 1000000 * ((n : Int) - (s.now + 1)) :=
    ⟨rfl, rfl, rfl, by simp [s2, left, s1, d]⟩
  split
  · rw [(State.endSession_frame ..).time_eq (by decide)]
    exact ⟨e.1, e.2.1, e.2.2.1, e.2.2.2, fun _ => State.endSession_none ..⟩
  · next h => exact ⟨e.1, e.2.1, e.2.2.1, e.2.2.2, fun g => absurd g (by simpa [back] using h)⟩

end Sys2Proof.Machine
end

