-- ==== Sys2Proof/Laws/Freeze.lean ====
section
/-! SUPPORT. What a failed diagnostic, a freeze and the entry to Safe leave in the protection,
    taken as two parts: the sixteen strings, and the rest. -/

namespace Sys2Proof.Machine

/-- The protection state beside the strings. -/
def State.protRest (s : State) : ProtSt := { s.prot with str := [] }

/-- What that part is. -/
theorem State.protRest_eq (s : State) : State.protRest s = { s.prot with str := [] } := rfl

/-- The diagnostics belong to it. -/
theorem State.protRest_diag (s : State) : (State.protRest s).diag = s.prot.diag := rfl

/-- The time of the last failed diagnostic belongs to it. -/
theorem State.protRest_diagLast (s : State) : (State.protRest s).diagLast = s.prot.diagLast := rfl

/-- The first safe line belongs to it. -/
theorem State.protRest_safeA (s : State) : (State.protRest s).safeA = s.prot.safeA := rfl

/-- The second safe line belongs to it. -/
theorem State.protRest_safeB (s : State) : (State.protRest s).safeB = s.prot.safeB := rfl

/-- Asserting every trip line asserts each of them. -/
theorem tripAll_trip (t : Tab ProtStr) (k : Nat) (h : k < 16) :
    (tget (tmodAll t allStr (fun _ x => { x with trip := true })) k).trip = true := by
  have := tget_tmodAll_mem t allStr (fun _ x => { x with trip :=
      true }) (upFrom_nodup 0 16).1 (((upFrom_nodup 0 16).2 k).mpr (by omega))
  rw [this]

/-- An operation that leaves the protection alone keeps both parts. -/
theorem protRest_of_prot {s t : State} (h : t.prot = s.prot) : State.protRest t = State.protRest s ∧
    Settled s t := ⟨by unfold State.protRest; rw [h], .of_prot h⟩

/-- Two operations that keep both parts keep them one after the other. -/
theorem protRest_trans {s u t : State} (h : State.protRest u = State.protRest s ∧
    Settled s u) (g : State.protRest t = State.protRest u ∧ Settled u t) : State.protRest t = State.protRest s ∧
    Settled s t :=
  ⟨g.1.trans h.1, h.2.trans g.2⟩

/-- A list of operations that keep both parts keeps them. -/
theorem protRest_foldl {α : Type} {f : State → α → State} (h : ∀ u a, State.protRest (f u a) = State.protRest u ∧
    Settled u (f u a)) (l : List α) (s : State) :
   State.protRest (l.foldl f s) = State.protRest s ∧ Settled s (l.foldl f s) := by
  induction l generalizing s with
  | nil => exact ⟨rfl, .refl _⟩
  | cons a l ih => exact protRest_trans (h s a) (ih _)

/-- The end of a connection keeps both parts. -/
theorem State.endConnect_protRest (s : State) (k c : Nat) (n : SState) (w : Byte) (sf : Nat) :
    State.protRest (s.endConnect k c n w sf) = State.protRest s ∧ Settled s (s.endConnect k c n w sf) := by
  refine ⟨?_, State.endConnect_settled ..⟩
  unfold State.endConnect
  extract_lets _ _ _ _ s1 s2 s3 s4
  have : State.protRest s4 = State.protRest s := by
    simp [State.protRest, s4, s3, s2, s1, State.setStr, State.startOpening, State.modPst]
  split
  · exact this
  · exact this

/-- A string on its way to Safe keeps both parts. -/
theorem State.safeStr_protRest (s : State) (k : Nat) : State.protRest (s.safeStr k) = State.protRest s ∧
    Settled s (s.safeStr k) := by
  unfold State.safeStr
  have a : ∀ (u : State) n c sf b, State.protRest (u.setStr k n c sf b) = State.protRest u ∧
      Settled u (u.setStr k n c sf b) := fun u n c sf b =>
    protRest_of_prot ((State.setStr_frame ..).prot_eq (by decide))
  have b : ∀ (u : State), State.protRest (u.startOpening k) = State.protRest u ∧
      Settled u (u.startOpening k) := fun u => ⟨rfl, State.startOpening_settled ..⟩
  have m : State.protRest (s.modPst k (fun x => { x with trip := true })) = State.protRest s ∧
      Settled s (s.modPst k (fun x => { x with trip := true })) :=
    ⟨rfl, .modPst _ _ (fun _ => rfl) (fun _ => ⟨fun _ h => h, id, fun _ => rfl⟩)⟩
  dsimp only
  split
  · exact protRest_trans m (State.endConnect_protRest ..)
  · exact protRest_trans (protRest_trans m (b _)) (a ..)
  · exact protRest_trans (protRest_trans m (b _)) (a ..)
  · exact protRest_trans (protRest_trans m (b _)) (a ..)
  · exact protRest_trans m (b _)

/-- The entry to Safe asserts the two safe lines, keeps every stage and latch, and sets the safe latch unless it
stands. -/
theorem State.enterSafe_protRest (s : State) (c : Byte) (d : Word) :
    State.protRest (s.enterSafe c d) = { State.protRest s with safeA := true, safeB := true } ∧
    Settled s (s.enterSafe c d) ∧
   (s.enterSafe c d).jnl.safeLatch = (if s.jnl.safeLatch = 0 then c else s.jnl.safeLatch) := by
  unfold State.enterSafe
  extract_lets _ _ s1 s2 s3 _ s4
  have a0 : s1.prot = { s.prot with safeA := true, safeB := true } := (State.safeLatchSet_frame ..).prot_eq (by decide)
  have l1 : s1.jnl.safeLatch = (if s.jnl.safeLatch = 0 then c else s.jnl.safeLatch) := by
    simp only [s1]
    unfold State.safeLatchSet
    split
    · next h => simp
    · next h => simp
  have a1 : State.protRest s1 = { State.protRest s with safeA := true, safeB := true } ∧ Settled s s1 := by
    refine ⟨by unfold State.protRest; rw [a0], ?_⟩
    have : ∀ j, s1.pst j = s.pst j := fun j => by unfold State.pst; rw [a0]
    exact ⟨fun j => by unfold State.stagesOf; rw [this], fun j => by rw [this]; exact LatchKept.refl _⟩
  have fs : ∀ (l : List Nat) (u : State), State.protRest (l.foldl (fun u k => u.safeStr k) u) = State.protRest u ∧
      Settled u (l.foldl (fun u k => u.safeStr k) u) :=
    fun l u => protRest_foldl (fun u k => State.safeStr_protRest u k) l u
  have fl : ∀ (l : List Nat) (u : State), (l.foldl (fun u k => u.safeStr k) u).jnl.safeLatch = u.jnl.safeLatch :=
      fun l u =>
    foldl_view (v := fun u : State => u.jnl.safeLatch) (fun u k => (State.safeStr_frame ..).safeLatch_eq (by decide)) l u
  have a2 := protRest_trans (protRest_of_prot ((State.safeAborts_frame s1).prot_eq (by decide))) (fs s1.strings s1.safeAborts)
  have l2 : s2.jnl.safeLatch = s1.jnl.safeLatch := (fl ..).trans ((State.safeAborts_frame s1).safeLatch_eq (by decide))
  have a4 : State.protRest s4 = State.protRest s2 ∧ Settled s2 s4 :=
      protRest_of_prot (by show s3.prot = s2.prot; exact (State.setMode_frame ..).prot_eq (by decide))
  have l4 : s4.jnl.safeLatch = s2.jnl.safeLatch := (State.setMode_frame ..).safeLatch_eq (by decide)
  have t4 := protRest_trans a2 a4
  have m4 := l4.trans (l2.trans l1)
  have fin : ∀ t : State, State.protRest t = State.protRest s1 ∧
      Settled s1 t → State.protRest t = { State.protRest s with safeA := true, safeB := true } ∧
      Settled s t := fun t h =>
    ⟨h.1.trans a1.1, a1.2.trans h.2⟩
  split
  · obtain ⟨x, y⟩ := fin _ (fs s1.strings s1); exact ⟨x, y, (fl ..).trans l1⟩
  · obtain ⟨x, y⟩ := fin _ (fs s1.strings s1); exact ⟨x, y, (fl ..).trans l1⟩
  · obtain ⟨x, y⟩ := fin _ (protRest_of_prot (State.ev_prot ..)); exact ⟨x, y, by rw [State.ev_jnl_safeLatch]; exact l1⟩
  · split
    · obtain ⟨x, y⟩ := fin _ (protRest_trans t4 (protRest_of_prot ((State.setPair_frame s4 .detached 0x0B).prot_eq (by decide))))
      exact ⟨x, y, ((State.setPair_frame ..).safeLatch_eq (by decide)).trans m4⟩
    · obtain ⟨x, y⟩ := fin _ t4; exact ⟨x, y, m4⟩

/-- A failed diagnostic sets its bit and notes the time. -/
theorem State.diagFail_prot (s : State) (n d : Nat) : (s.diagFail n d).prot = { s.prot with
      diag := s.prot.diag ||| ((1 : BitVec 17) <<< (n - 1)), diagLast := some s.now } := by
  unfold State.diagFail
  dsimp only
  rw [State.ev_prot]

/-- The bit of diagnostic n is bit n - 1. -/
theorem diagnostic_bit (b : BitVec 17) (n : Nat) (h1 : 1 ≤ n) (h17 : n ≤ 17) :
    (b ||| ((1 : BitVec 17) <<< (n - 1))).getLsbD (n - 1) = true := by
  rw [BitVec.getLsbD_or, BitVec.getLsbD_shiftLeft]
  have : n - 1 < 17 := by omega
  simp [this]

/-- A diagnostic that fails under SF-12 trips every string and enters Safe. -/
theorem State.sf12_failedSafe (s : State) (n d : Nat) (i : Bool) (h1 : 1 ≤ n) (h17 : n ≤ 17) :
    FailedSafe s (s.sf12 n d i) n ∧
   State.protRest (s.sf12 n d i) = { State.protRest s with
       diag := s.prot.diag ||| ((1 : BitVec 17) <<< (n - 1)),
       diagLast := some s.now, islandFault := s.prot.islandFault || i, safeA := true, safeB := true } := by
  unfold State.sf12
  extract_lets s1 s2 _ s3
  have e1 := State.diagFail_prot s n d
  have e2 : s2.prot = s1.prot := State.ev_prot ..
  have e3 : s3.prot = { s1.prot with
      str := tmodAll s2.prot.str allStr (fun _ x => { x with trip := true }),
          islandFault := s1.prot.islandFault || i } := by
    rw [← e2]
  have m3 : s3.mode = s.mode := by
    show s2.mode = _
    rw [show s2.mode = s1.mode from State.ev_mode ..]
    unfold s1 State.diagFail; exact State.ev_mode ..
  have j3 : s3.jnl.safeLatch = s.jnl.safeLatch := by
    show s2.jnl.safeLatch = _
    rw [show s2.jnl.safeLatch = s1.jnl.safeLatch from State.ev_jnl_safeLatch ..]
    unfold s1 State.diagFail; exact State.ev_jnl_safeLatch ..
  clear_value s3
  obtain ⟨a, b, c⟩ := State.enterSafe_protRest s3 0x02 0
  have r : State.protRest (s3.enterSafe 0x02 0) = { State.protRest s with
      diag := s.prot.diag ||| ((1 : BitVec 17) <<< (n - 1)), diagLast := some s.now,
      islandFault := s.prot.islandFault || i, safeA := true, safeB := true } := by
    rw [a]; unfold State.protRest; rw [e3, e1]
  refine ⟨⟨?_, ?_, ?_, ?_, ?_, ?_, ?_⟩, r⟩
  · rw [← State.protRest_diag, r]; exact diagnostic_bit _ n h1 h17
  · rw [← State.protRest_diagLast, r]
  · rw [← State.protRest_safeA, r]
  · rw [← State.protRest_safeB, r]
  · rw [c, j3]
  · intro k hk
    refine (b.latch k).trip ?_
    have q : s3.prot.str = tmodAll s2.prot.str allStr (fun _ x => { x with trip := true }) := by rw [e3]
    unfold State.pst
    rw [q]
    exact tripAll_trip s2.prot.str k hk
  · intro g1 g2
    exact (State.enterSafe_enters s3 0x02 0 (by rw [m3]; exact g1) (by rw [m3]; exact g2)).1

/-- A freeze is marked with its diagnostic and its time, and leaves the missed tokens and the clocks. -/
theorem State.freeze_froze (s : State) (n : Nat) : Froze s (s.freeze n) n ∧
    (s.freeze n).prot.tokenMiss = s.prot.tokenMiss ∧ (s.freeze n).prot.clocks = s.prot.clocks := by
  unfold State.freeze
  extract_lets recent s1 s2 lone connecting s3 _ _ s4 s5
  have e1 := State.diagFail_prot s n 0
  have e2 : s2.prot = s1.prot := State.ev_prot ..
  have e3 : State.protRest s3 = State.protRest s2 := by
    have := foldl_view (v := State.protRest) (f := fun (u : State) k =>
    ((u.modPst k (fun x => { x with permit := false })).modPp k (fun p =>
      { p with kReq := false, hold := false })).endConnect k 6 .opened 0 0) (fun u k => (State.endConnect_protRest ..).1) connecting s2
    exact this
  have e4 : State.protRest s4 = { State.protRest s3 with
      frozen := true, freezeAt := s.now, freezeBy := n,
      freezes := recent } := rfl
  have q : (State.protRest s5).frozen = true ∧ (State.protRest s5).freezeBy = n ∧
      (State.protRest s5).freezeAt = s.now ∧ (State.protRest s5).tokenMiss = s.prot.tokenMiss ∧
      (State.protRest s5).clocks = s.prot.clocks := by
    have b : (State.protRest s3).tokenMiss = s.prot.tokenMiss ∧ (State.protRest s3).clocks = s.prot.clocks := by
      rw [e3, State.protRest_eq, e2, e1]; exact ⟨rfl, rfl⟩
    simp only [s5]
    split
    · rw [(State.sf12_failedSafe s4 17 0 false (by decide) (by decide)).2, e4]; exact ⟨rfl, rfl, rfl, b⟩
    · rw [e4]; exact ⟨rfl, rfl, rfl, b⟩
  clear_value s5
  exact ⟨⟨q.1, q.2.1, q.2.2.1, rfl, rfl⟩, q.2.2.2⟩

end Sys2Proof.Machine
end

