-- ==== Sys2Proof/Laws/FrontEnd.lean ====
section
/-! SUPPORT. What a front end does with a frame that it hears, and what hearing leaves of it. -/

namespace Sys2Proof.Machine

/-- A heard frame acts on the front end that has noted it. -/
theorem State.feReceive_heard {s : State} {port p : Nat} {x : Slot} {h : LinkHead} {type : Nat} {b : Bytes}
    (k : FeHears (s.fee port) h type b) (act : FeSt → FeSt) :
    (s.atP p).feReceive port x type h b act = (s.atP p).modFee port (fun _ => act (s.feHeard port p x h)) := by
  unfold State.feReceive State.modFee
  congr 1
  unfold tmod
  congr 1
  have e : (s.fee port).receive s.time.ticks (s.atP p).clockUs x type h b act = act (s.feHeard port p x h) := by
    unfold FeSt.receive
    simp [k.awake, k.intact, k.form, k.type_, State.feHeard]
  exact e

/-- What hearing a frame changes of the front end: its ports and the time heard. -/
theorem FeSt.hear_eq (f : FeSt) (t : Nat) (x : Slot) (h : LinkHead) :
    ∃ a b, f.hear t x h = { f with a := a, b := b, heardAt := t } := by
  cases x <;> exact ⟨_, _, rfl⟩

/-- What sending a reply changes of the front end: the port's last reply. -/
theorem FeSt.send_eq (f : FeSt) (t : Nat) (x : Slot) (type : Nat) (h : LinkHead) (b : Bytes) (r a : Nat) (d : List Word) :
    ∃ y : FeReply, f.send t x type h b r a d = f.modSide x (fun q => { q with reply := some y }) ∧
      y.rstat = r ∧ y.addr = a ∧ y.data = d ∧ y.head.type = type ∧ y.head.seq = h.seq ∧ y.head.frame = h.frame :=
  ⟨_, rfl, rfl, rfl, rfl, rfl, rfl, rfl⟩

@[simp] theorem FeSt.modSide_side (f : FeSt) (x : Slot) (g : FePort → FePort) : (f.modSide x g).side x = g (f.side x) := by
  cases x <;> rfl

@[simp] theorem FeSt.modSide_other (f : FeSt) (x : Slot) (g : FePort → FePort) :
    (f.modSide x g).side x.other = f.side x.other := by
  cases x <;> rfl

/-- What a change of one port leaves: everything but the two ports. -/
theorem FeSt.modSide_eq (f : FeSt) (x : Slot) (g : FePort → FePort) : ∃ a b, f.modSide x g = { f with a := a, b := b } := by
  cases x <;> exact ⟨_, _, rfl⟩

end Sys2Proof.Machine
end

