-- ==== Sys2Proof/Laws/Link.lean ====
section
/-! SUPPORT. What the shared operations of the cell link do to a link context. -/

namespace Sys2Proof.Machine

/-- A change of state of a link context changes its state and nothing else of it (R112). -/
theorem State.setLink_lnk (s : State) (p : Nat) (new : LinkState) (c q : Nat) :
    (s.setLink p new c).lnk q = if q = p then { s.lnk p with state := new } else s.lnk q := by
  unfold State.setLink
  dsimp only
  by_cases h : (s.lnk p).state = new
  · rw [if_pos h]
    by_cases e : q = p
    · subst e; rw [if_pos rfl, ← h]
    · rw [if_neg e]
  · simp [if_neg h]

/-- A woken port is in WAKE and has sent the pattern (R107). -/
theorem State.wakePort_lnk (s : State) (p q : Nat) (from_ : LinkState) :
    (s.wakePort p from_).lnk q =
      if q = p ∧ (s.lnk p).state = from_ then
        { s.lnk p with
          state := .wake, wakeFrame := some s.time.ticks, tone := false, alarmState := from_.code, missRun := 0,
          targets := 0, queued := [] }
      else s.lnk q := by
  unfold State.wakePort
  by_cases h : (s.lnk p).state = from_
  · rw [if_pos h]
    simp only [State.sendWake, State.modLnk_lnk, State.setLink_lnk]
    by_cases e : q = p <;> simp [e, h]
  · rw [if_neg h, if_neg (by simp [h])]

/-- `t` differs from `s` in the link contexts in the secondary transactions of port `p` only. -/
structure SecOnly (p : Nat) (s t : State) : Prop where
  self : ∃ a b c, t.lnk p = { s.lnk p with seq := a, secQueue := b, sec := c }
  other : ∀ q, q ≠ p → t.lnk q = s.lnk q

theorem SecOnly.of_eq {p : Nat} {s t : State} (h : t.link = s.link) : SecOnly p s t :=
  ⟨⟨(s.lnk p).seq, (s.lnk p).secQueue, (s.lnk p).sec, by simp [State.lnk, h]⟩, fun _ _ => by simp [State.lnk, h]⟩

theorem SecOnly.trans {p : Nat} {s u t : State} (h : SecOnly p s u) (g : SecOnly p u t) : SecOnly p s t := by
  obtain ⟨a, b, c, e⟩ := h.self
  obtain ⟨a', b', c', e'⟩ := g.self
  exact ⟨⟨a', b', c', by rw [e', e]⟩, fun q hq => (g.other q hq).trans (h.other q hq)⟩

theorem SecOnly.modLnk (s : State) (p : Nat) (f : LinkSt → LinkSt) {a : Nat} {b : List SecTx} {c : Option SecTx}
    (h : f (s.lnk p) = { s.lnk p with seq := a, secQueue := b, sec := c }) : SecOnly p s (s.modLnk p f) :=
  ⟨⟨a, b, c, by rw [State.modLnk_lnk, if_pos rfl, h]⟩, fun q hq => by rw [State.modLnk_lnk, if_neg hq]⟩

theorem SecOnly.ite {p : Nat} {s a b : State} {c : Prop} [Decidable c] (ha : SecOnly p s a) (hb : SecOnly p s b) :
    SecOnly p s (if c then a else b) := by
  split
  · exact ha
  · exact hb

theorem State.secStart_secOnly (s : State) (p : Nat) : SecOnly p s (s.secStart p) := by
  unfold State.secStart
  dsimp only
  split
  · exact .of_eq rfl
  · split
    · exact .of_eq rfl
    · split
      · exact .modLnk s p _ rfl
      · exact .of_eq rfl

theorem State.secQueue_secOnly (s : State) (p : Nat) (l : List SecTx) : SecOnly p s (s.secQueue p l) :=
  .modLnk s p _ (a := (s.lnk p).seq) (c := (s.lnk p).sec) rfl

theorem State.secClear_secOnly (s : State) (p : Nat) : SecOnly p s (s.secClear p) :=
  .modLnk s p _ (a := (s.lnk p).seq) (b := (s.lnk p).secQueue) rfl

theorem State.secAgain_secOnly (s : State) (p : Nat) (t : SecTx) : SecOnly p s (s.secAgain p t) :=
  .modLnk s p _ (a := (s.lnk p).seq) (c := (s.lnk p).sec) rfl

theorem State.policyWrite_secOnly (s : State) (p : Nat) : SecOnly p s (s.policyWrite p) := by
  unfold State.policyWrite
  split
  · exact State.secQueue_secOnly ..
  · exact .of_eq rfl

/-- A reply that answers the outstanding transaction is acted on. -/
theorem State.replyTake_answers {s : State} {p type : Nat} {h : LinkHead} {b : Bytes} {x : SecTx} (a : Answers s p type h b x)
    (act : SecTx → State) : s.replyTake p type h b act = act x := by
  unfold State.replyTake
  rw [if_neg (by simp [a.intact]), if_neg (by simp [a.form]), a.waits]
  exact if_pos ⟨a.type_, a.seq⟩

end Sys2Proof.Machine
end

