-- ==== Sys2Proof/Laws/Losses.lean ====
section
/-! SUPPORT. What a loss of the supply does to the strings and to the record of the loss. -/

namespace Sys2Proof.Machine

/-- One string of a loss of the supply: a conducting string is opened and its trip line is asserted, every other
string stands, and so does the record of the loss beside its list of opened strings. -/
theorem State.lossOpen_opens (s : State) (k : Nat) : 
   ((s.str k).state = .closed ∨ (s.str k).state = .held → ((s.lossOpen k).str k).state = .opened ∧
       ((s.lossOpen k).pst k).trip = true) ∧
   (∀ j, j ≠ k → (s.lossOpen k).str j = s.str j ∧ ((s.lossOpen k).pst j).trip = (s.pst j).trip) ∧
   (s.lossOpen k).psv.loss.map (fun l => (l.waitEnded, l.gasped, l.runs)) = s.psv.loss.map (fun l => (l.waitEnded,
       l.gasped, l.runs)) ∧
   ((s.pst k).trip = true → ((s.lossOpen k).pst k).trip = true) := by
  unfold State.lossOpen
  split
  · next h =>
    have e : ∀ u : State, ∀ j, (u.modLoss (fun l => { l with opened := withBit l.opened k })).str j = u.str j ∧
        (u.modLoss (fun l => { l with opened := withBit l.opened k })).pst j = u.pst j :=
      fun _ _ => ⟨rfl, rfl⟩
    have e2 : ∀ u : State, ∀ a b c d x j, (State.setStr u a b c d x).pst j = u.pst j := fun u a b c d x j => by
      unfold State.pst; rw [(State.setStr_frame ..).prot_eq (by decide)]
    have e3 : ∀ j, (((s.modPst k (fun x => { x with trip :=
        true })).startOpening k).pst j).trip = if j = k then true else (s.pst j).trip := by
      intro j
      simp only [State.startOpening, State.modPst, State.modPp, State.pst, tget_tmod]
      by_cases hj : j = k <;> simp [hj]
    refine ⟨fun _ => ⟨?_, ?_⟩, fun j hj => ⟨?_, ?_⟩, ?_, fun _ => ?_⟩
    · rw [(e _ _).1, State.setStr_str]; simp
    · rw [(e _ _).2, e2, e3]; simp
    · rw [(e _ _).1, State.setStr_str, if_neg hj]; rfl
    · rw [(e _ _).2, e2, e3]; simp [hj]
    · have : ((((s.modPst k (fun x => { x with trip :=
        true })).startOpening k).setStr k .opened 0 0 true).psv) = s.psv := (State.setStr_frame ..).psv_eq (by decide)
      show Option.map _ (Option.map _ (State.psv _).loss) = _
      rw [this]; cases s.psv.loss <;> rfl
    · rw [(e _ _).2, e2, e3]; simp
  · next h => exact ⟨fun g => absurd g h, fun _ _ => ⟨rfl, rfl⟩, rfl, fun h => h⟩

/-- All strings of a list, opened one after another: every one that was conducting is open and tripped at the end. -/
theorem State.lossOpens_open (l : List Nat) (hn : l.Nodup) (s : State) :
   (∀ k ∈ l, ((s.str k).state = .closed ∨ (s.str k).state = .held) →
       ((l.foldl (fun u k => u.lossOpen k) s).str k).state = .opened ∧
       ((l.foldl (fun u k => u.lossOpen k) s).pst k).trip = true) ∧
   (l.foldl (fun u k => u.lossOpen k) s).psv.loss.map (fun l => (l.waitEnded, l.gasped,
       l.runs)) = s.psv.loss.map (fun l => (l.waitEnded, l.gasped, l.runs)) := by
  refine ⟨?_, foldl_view (v := fun u : State => u.psv.loss.map (fun l => (l.waitEnded, l.gasped,
      l.runs))) (fun u k => (State.lossOpen_opens u k).2.2.1) l s⟩
  exact foldl_once (v := fun u k => ((u.str k).state, (u.pst k).trip)) (f := fun u k => State.lossOpen u k)
    (R := fun a b => (a.1 = .closed ∨ a.1 = .held) → b.1 = .opened ∧
        b.2 = true) (fun u k => (State.lossOpen_opens u k).1)
    (fun u k j hj => by obtain ⟨a, b⟩ := (State.lossOpen_opens u k).2.1 j hj; simp only [a, b]) hn s

/-- The gasp touches neither the mode nor the protection, and after it the record says that it was made. -/
theorem State.lossGasp_keeps (s : State) : s.lossGasp.mode = s.mode ∧ s.lossGasp.prot = s.prot ∧
   s.lossGasp.psv.loss.map (fun l => (l.waitEnded, l.runs, l.returned)) = s.psv.loss.map (fun l => (l.waitEnded,
       l.runs, l.returned)) ∧
   (s.psv.loss.isSome = true → s.lossGasp.psv.loss.map (·.gasped) = some true) := by
  unfold State.lossGasp
  split
  · next l h =>
    split
    · next g => exact ⟨rfl, rfl, rfl, fun _ => by rw [h]; simp [g]⟩
    · refine ⟨(State.gaspWrite_frame ..).mode_eq (by decide), (State.gaspWrite_frame ..).prot_eq (by decide), ?_, ?_⟩
      · show Option.map _ (Option.map _ (State.psv _).loss) = _
        rw [(State.gaspWrite_frame ..).psv_eq (by decide), h]; rfl
      · intro _
        show Option.map _ (Option.map _ (State.psv _).loss) = _
        rw [(State.gaspWrite_frame ..).psv_eq (by decide), h]; rfl
  · next h => exact ⟨rfl, rfl, rfl, fun g => by rw [h] at g; simp at g⟩

/-- The strings that a loss opens are those that are Closed or Held. -/
theorem State.closedStrings_conduct (s : State) (k : Nat) :
    k ∈ s.closedStrings → ((s.str k).state = .closed ∨ (s.str k).state = .held) := by
  unfold State.closedStrings; simp [List.mem_filter]

/-- No string is named twice. -/
theorem State.closedStrings_nodup (s : State) : s.closedStrings.Nodup := ((upFrom_nodup 0 16).1.filter _).filter _

end Sys2Proof.Machine
end

