-- ==== Sys2Proof/Laws/Outcome.lean ====
section
/-! SUPPORT. The outcome of a command as one relation: a next state that stands within a frame. A command is taken apart with
these three lemmas and the frames of the operations it is made of. -/

namespace Sys2Proof.Machine

/-- The outcome is a next state that differs from `s` in the views `W` alone. -/
structure NextWithin (W : List View) (s : State) (o : Host.Outcome State Fault Refusal) : Prop where
  out : ∃ t, o = .next t ∧ Frame W s t

/-- A command that goes on with a state within the frame. -/
theorem NextWithin.ok {W : List View} {s u : State} (h : Frame W s u) : NextWithin W s (ok u) := ⟨u, rfl, h⟩

/-- A command that depends on a condition. -/
theorem NextWithin.ite {W : List View} {s : State} {a b : Host.Outcome State Fault Refusal} {c : Prop} [Decidable c]
    (ha : NextWithin W s a) (hb : NextWithin W s b) : NextWithin W s (if c then a else b) := by split <;> assumption

/-- The state that the outcome names stands within the frame. -/
theorem NextWithin.frame {W : List View} {s t : State} {o : Host.Outcome State Fault Refusal} (h : NextWithin W s o)
    (e : o = .next t) : Frame W s t := by
  obtain ⟨u, hu, f⟩ := h.out
  rw [hu] at e
  cases e
  exact f

end Sys2Proof.Machine
end

