-- ==== Sys2Proof/Laws/Sessions.lean ====
section
/-! SUPPORT. What a valid site message does before its opcode acts, what sending does,
    and where a new ledger entry stands. -/

namespace Sys2Proof.Machine

/-- A valid message opens the session, notes port, address and sequence number, and counts itself; nothing else of
the site link changes. -/
theorem State.acceptMsg_site (s : State) (m : SiteIn) : ∃ st op pu po a0 a1 tp sn,
   (s.acceptMsg m).site = { s.site with
     sstate := st, opened := op, pushed := pu, port := po, addr0 := a0, addr1 := a1, seqTop := tp, seqSeen := sn,
     nRx := sat32u (s.site.nRx + 1), lastValid := s.now } ∧ (s.site.sstate ≠ .none → st = .opened) ∧
         po = some m.port.val ∧
     tp = (s.site.take m.seq).seqTop ∧ sn = (s.site.take m.seq).seqSeen := by
  have hh : ∀ (t : SiteSt) (p a : Nat), ∃ a0 a1, t.heard p a = { t with port := some p, addr0 := a0, addr1 := a1 } := by
    intro t p a; unfold SiteSt.heard; dsimp only; split <;> exact ⟨_, _, rfl⟩
  obtain ⟨a0, a1, e⟩ := hh (s.site.take m.seq) m.port.val m.addr
  unfold State.acceptMsg
  rw [e]
  dsimp only
  generalize hu : ({ s with site := _ } : State) = u
  have us : u.site.sstate = s.site.sstate := by rw [← hu]; rfl
  unfold State.sessionOpens
  split
  · rw [State.ev_site]
    rw [← hu]
    exact ⟨_, _, _, _, _, _, _, _, rfl, fun _ => rfl, rfl, rfl, rfl⟩
  · next h =>
    rw [← hu]
    refine ⟨_, _, _, _, _, _, _, _, rfl, ?_, rfl, rfl, rfl⟩
    intro hn
    show s.site.sstate = _
    rw [us] at h
    cases hq : s.site.sstate <;> simp_all

/-- A valid message does not advance time. -/
theorem State.acceptMsg_now (s : State) (m : SiteIn) :
    (s.acceptMsg m).now = s.now := (State.acceptMsg_frame s m).frame_eq (by decide)

/-- A message sent is on the link or waits for it. -/
theorem State.send_tells (s : State) (t : Nat) (b : Bytes) : (s.send t false b).tells t b := by
  unfold State.send
  dsimp only
  rw [if_neg (by decide)]
  split
  · exact ⟨_, Or.inl (List.mem_cons_self ..), rfl, rfl, rfl⟩
  · exact ⟨_, Or.inr (List.mem_append.mpr (Or.inr (List.mem_singleton.mpr rfl))), rfl, rfl, rfl⟩

/-- A message that passes every check of the receiver has the effect of its opcode, on the state that accepting it
leaves. -/
theorem State.onValid_of_hears {Q : State → Prop} {o : Host.Outcome State Fault Refusal} {s : State} {p : Pulse}
    {m : SiteIn} {ty : Nat} {b : Bytes} {go : State → State} (h : Hears s m ty b)
    (ho : o = Machine.ok ((s.atP p.val).onValid m ty b go)) (hq : Q (go ((s.atP p.val).acceptMsg m))) :
    ∃ t, o = .next t ∧ Q t := by
  refine ⟨_, ho, ?_⟩
  unfold State.onValid
  have h1 : (s.atP p.val).siteServed = true := h.served
  have h4 : decide ((s.atP p.val).site.sstate = .none) = false := decide_eq_false h.open_
  have h5 : decide (m.session ≠ (s.atP p.val).site.session) = false := by
    simp [show m.session = (s.atP p.val).site.session from h.session]
  have h7 : (s.atP p.val).tagOk m b = true := h.tag
  have h8 : (s.atP p.val).site.fresh m.seq = true := h.fresh
  have h9 : decide (m.type ≠ ty) = false := by simp [h.type_]
  rw [h1, h.form, h.digest, h4, h5, h7, h8, h9]
  exact hq

/-- Sending writes the messages sent, the messages waiting and the module's own counter alone. -/
theorem State.send_site (s : State) (t : Nat) (b : Bool) (x : Bytes) :
    ∃ a c d, (s.send t b x).site = { s.site with sent := a, nModOut := c, waiting := d } := by
  unfold State.send
  split
  · split
    · exact ⟨_, _, _, rfl⟩
    · exact ⟨_, _, _, rfl⟩
  · dsimp only
    split
    · exact ⟨_, _, _, rfl⟩
    · exact ⟨_, _, _, rfl⟩

/-- An entry for an identifier that the ledger does not hold is found where it has been put. -/
theorem slotOf_new {b : Nat} {t : Tab LedgerEntry} {id : Word} {k : Nat} {e : LedgerEntry} (hw : twfFrom b t = true)
    (h : slotOf t id = none) (hid : e.id = id) (he : e.state ≠ .empty) : slotOf (tput t k e) id = some k := by
  have hd : e ≠ default := fun x => he (by rw [x]; rfl)
  induction t generalizing b with
  | nil => simp [tput, hd, slotOf_cons, hid, he]
  | cons p t ih =>
    obtain ⟨j, v⟩ := p
    rw [slotOf_cons] at h
    simp only [twfFrom, Bool.and_eq_true, decide_eq_true_eq] at hw
    split at h
    · cases h
    · next hv =>
      simp only [tput]
      split
      · simp [slotOf_cons, hid, he]
      · split
        · rw [slotOf_cons, if_pos ⟨hid, he⟩]
        · rw [slotOf_cons, if_neg hv]; exact ih hw.2 h

/-- Answering a command leaves the ledger and the newest identifier. -/
theorem State.answer_keeps (z : State) (e : LedgerEntry) (f : Nat) : (z.answer e f).site.newest = z.site.newest ∧
    (z.answer e f).site.ledger = z.site.ledger := by
  unfold State.answer State.sendPairOpen
  split
  · split
    · obtain ⟨_, _, _, q⟩ := State.send_site z 0x11 false (e.bytes f); rw [q]; exact ⟨rfl, rfl⟩
    · obtain ⟨_, _, _, q⟩ := State.send_site z 0x11 true (e.bytes f); rw [q]; exact ⟨rfl, rfl⟩
  · exact ⟨rfl, rfl⟩

/-- The answer of a module that speaks alone carries the entry. -/
theorem State.answer_tells {z : State} (h : z.site.sstate = .opened) (ha : z.aloneOnly = true) (e : LedgerEntry) (f : Nat) : (z.answer e f).tells 0x11 (e.bytes f) := by
  unfold State.answer State.sendPairOpen
  rw [if_pos h, if_pos ha]
  exact State.send_tells ..

/-- A valid message does not change whether the module speaks alone. -/
theorem State.acceptMsg_alone (s : State) (m : SiteIn) : (s.acceptMsg m).aloneOnly = s.aloneOnly := by
  have f := (State.acceptMsg_frame s m).pair_eq (by decide)
  have g := (State.acceptMsg_frame s m).mode_eq (by decide)
  have j := (State.acceptMsg_frame s m).psv_eq (by decide)
  have k := (State.acceptMsg_frame s m).frame_eq (by decide)
  have l := (State.acceptMsg_frame s m).sys_eq (by decide)
  unfold State.aloneOnly State.sendsPair State.byAssignment
  rw [f, g, j]
  try rw [k]
  try rw [l]

/-- A valid message does not change which unit sends the pair's outputs. -/
theorem State.acceptMsg_sendsPair (s : State) (m : SiteIn) : (s.acceptMsg m).sendsPair = s.sendsPair := by
  have f := (State.acceptMsg_frame s m).pair_eq (by decide)
  have j := (State.acceptMsg_frame s m).psv_eq (by decide)
  unfold State.sendsPair State.byAssignment
  rw [f, j]

/-- In an open session the answer of a command reaches the partner, alone or among the pair's outputs. -/
theorem State.answer_answered {z : State} (h : z.site.sstate = .opened) (e : LedgerEntry) (f : Nat) :
    z.answered (z.answer e f) (e.bytes f) := by
  refine ⟨fun ha => State.answer_tells h ha e f, fun hp => ?_⟩
  have ha : z.aloneOnly = false := by unfold State.aloneOnly; rw [hp]; rfl
  unfold State.answer State.sendPairOpen
  rw [if_pos h, ha, if_neg (by decide)]
  unfold State.send
  rw [if_pos rfl, if_pos hp]
  exact ⟨_, List.mem_cons_self .., rfl, rfl, rfl⟩

/-- Whether a message is answered rests on the unit's pair state alone. -/
theorem State.answered_congr {s z t : State} {b : Bytes} (ha : z.aloneOnly = s.aloneOnly)
    (hp : z.sendsPair = s.sendsPair) (h : z.answered t b) : s.answered t b :=
  ⟨fun g => h.1 (ha.trans g), fun g => h.2 (hp.trans g)⟩

end Sys2Proof.Machine
end

