-- ==== Sys2Proof/Laws/PairUnit.lean ====
section
/-! SUPPORT. What the shared operations of the pair leave in the pair's own state. -/

namespace Sys2Proof.Machine

/-- Sending to the site touches nothing of the pair's state but the outputs of the frame. -/
theorem State.send_pair (s : State) (t : Nat) (b : Bool) (x : Bytes) :
    ∃ o, (s.send t b x).pair = { s.pair with outputs := o } := by
  unfold State.send
  split
  · split
    · exact ⟨_, rfl⟩
    · exact ⟨_, rfl⟩
  · dsimp only
    split
    · exact ⟨_, rfl⟩
    · exact ⟨_, rfl⟩

theorem State.sendPairOpen_pair (s : State) (t : Nat) (x : Bytes) :
    ∃ o, (s.sendPairOpen t x).pair = { s.pair with outputs := o } := by
  unfold State.sendPairOpen
  split
  · split
    · exact State.send_pair ..
    · exact State.send_pair ..
  · exact ⟨_, rfl⟩

/-- A command's change of state touches nothing of the pair's state but the outputs of the frame. -/
theorem State.cmdTo_pair (s : State) (id : Word) (st : LedgerState) (status : Status) (step : Nat) (d : Bytes) :
    ∃ o, (s.cmdTo id st status step d).pair = { s.pair with outputs := o } := by
  unfold State.cmdTo
  split
  · exact ⟨_, rfl⟩
  · next k _ =>
    extract_lets _ e _ s1 s2 s3
    obtain ⟨o, h2⟩ : ∃ o, s2.pair = { s.pair with outputs := o } := State.sendPairOpen_pair s1 0x11 (e.bytes 0)
    have h3 : s3.pair = s2.pair := by
      simp only [s3]
      split
      · exact (State.audit_frame ..).pair_eq (by decide)
      · rfl
    split
    · exact ⟨o, h3.trans h2⟩
    · exact ⟨o, h3.trans h2⟩

theorem State.cmdAbort_pair (s : State) (id : Word) : ∃ o, (s.cmdAbort id).pair = { s.pair with outputs := o } := by
  unfold State.cmdAbort
  split
  · exact State.cmdTo_pair ..
  · exact ⟨_, rfl⟩

theorem State.cmdDone_pair (s : State) (id : Word) : ∃ o, (s.cmdDone id).pair = { s.pair with outputs := o } :=
  State.cmdTo_pair ..

theorem State.cancelHandover_pair (s : State) :
    ∃ o, s.cancelHandover.pair = { s.pair with outputs := o, handover := none, handoverReq := none } := by
  unfold State.cancelHandover
  have key : ∀ (u : State) (h : Nat) (cmd : Word), ∃ o, (let u1 := u.ev 0x0E06 ([4] ++ le 6 h ++ le 4 cmd.toNat)
      if cmd = 0 then u1 else u1.cmdAbort cmd).pair = { u.pair with outputs := o } := by
    intro u h cmd
    dsimp only
    split
    · exact ⟨_, State.ev_pair ..⟩
    · obtain ⟨o, e⟩ := State.cmdAbort_pair (u.ev 0x0E06 ([4] ++ le 6 h ++ le 4 cmd.toNat)) cmd
      exact ⟨o, e.trans (by rw [State.ev_pair])⟩
  have fin : ∀ u : State, (∃ o, u.pair = { s.pair with outputs := o }) →
      ∃ o, ({ u with pair.handover := none, pair.handoverReq := none } : State).pair =
        { s.pair with outputs := o, handover := none, handoverReq := none } := by
    rintro u ⟨o, e⟩
    dsimp only
    rw [e]
    exact ⟨_, rfl⟩
  refine fin _ ?_
  split
  · exact key ..
  · split
    · exact key ..
    · exact ⟨_, rfl⟩

/-- Entering a pair state (R404): the state and its frame are set, the line follows it, and the join under way ends. -/
theorem State.setPair_pair (s : State) (new : PairState) (cause : Nat) :
    ∃ o, (s.setPair new cause).pair = { s.pair with
      outputs := o, handover := if cause = 9 then s.pair.handover else none,
      handoverReq := if cause = 9 then s.pair.handoverReq else none,
      state := some new, since := s.now,
      chgOut := (decide (new = .lone) || decide (new = .active)) && !s.psv.dropped,
      joining := false, copying := false, copyDone := false, caughtUp := false,
      live := none, pagesRx := [], leaveNext := false, sentPages := [],
      transition := s.pair.transition && (decide (new = .standby) || decide (new = .active)),
      transTold := s.pair.transTold && (decide (new = .standby) || decide (new = .active)),
      matched := if new = .standby ∨ new = .active then s.pair.matched else 0 } := by
  unfold State.setPair
  obtain ⟨u, hu⟩ : ∃ u, u = (if cause = 9 then s else s.cancelHandover) := ⟨_, rfl⟩
  obtain ⟨o, e⟩ : ∃ o, u.pair = { s.pair with
      outputs := o, handover := if cause = 9 then s.pair.handover else none,
      handoverReq := if cause = 9 then s.pair.handoverReq else none } := by
    subst hu
    split
    · exact ⟨_, rfl⟩
    · exact State.cancelHandover_pair s
  have fu : Frame [.pair, .site, .jnl, .ledger] s u := by
    subst hu
    exact .ite (.refl _ _) (State.cancelHandover_frame s)
  refine ⟨o, ?_⟩
  have n : u.now = s.now := fu.frame_eq (by decide)
  have d : u.psv = s.psv := fu.psv_eq (by decide)
  rw [← hu]
  simp only [State.ev_pair, n, d, e]

theorem State.adoptCommand_pair (s : State) (it : PairItem) (f : Nat) : (s.adoptCommand it f).pair = s.pair :=
  (State.adoptCommand_frame ..).pair_eq (by decide)

/-- An assignment (R422) stands for its frame, and the list keeps no item that it holds. -/
theorem State.assign_pair (s : State) (f : Nat) (its : List PairItem) : (s.assign f its).pair = { s.pair with
      assigned := tput s.pair.assigned f (tget s.pair.assigned f ++ its),
      items := s.pair.items.filter (fun a => !(its.any a.same)) } := by
  have : (its.foldl (fun u it => u.adoptCommand it f) s).pair = s.pair :=
    foldl_view (v := fun u : State => u.pair) (fun u it => State.adoptCommand_pair ..) its s
  unfold State.assign
  dsimp only
  rw [this]

theorem State.policyDeferred_pair (s : State) : s.policyDeferred.pair = s.pair :=
  (State.policyDeferred_frame ..).pair_eq (by decide)

/-- A unit that becomes LONE (R404) takes its own waiting items as assigned and drops the peer's. -/
theorem State.becomeLone_pair (s : State) (c : Nat) :
    (s.becomeLone c).pair.state = some .lone ∧ (s.becomeLone c).pair.chgOut = !s.psv.dropped ∧
    (s.becomeLone c).pair.hbValid = s.pair.hbValid ∧ (s.becomeLone c).pair.nLost = s.pair.nLost ∧
    (s.becomeLone c).pair.nTakeover = s.pair.nTakeover ∧ (s.becomeLone c).pair.since = s.now := by
  unfold State.becomeLone
  dsimp only
  rw [State.policyDeferred_pair]
  obtain ⟨o, e⟩ := State.setPair_pair s .lone c
  dsimp only
  rw [State.assign_pair, e]
  simp

end Sys2Proof.Machine
end

