-- ==== Sys2Proof/Laws/PerInstr.lean ====
section
/-! SUPPORT. One lemma per command: what `writes` lists for it names neither the queue nor the factory identity,
and a command that sets time lists the time. -/

open Sys2Proof.Machine

namespace Sys2Proof.Laws.Bounds

/-- The views a command may change leave the queue and the factory identity out, and the time base is listed where the
command sets it. -/
def ok (i : Instr) : Bool :=
  !(writes i).contains .pending && !(writes i).contains .factory && (!setsTime i || (writes i).contains .time)

/-- The bounds of a command's effect. -/
def Statement (i : Instr) : Prop := ok i = true

theorem powerOn (vin : Int) (idA idB : Bool) (twa : BitVec 2) : Statement (.powerOn vin idA idB twa) := rfl
theorem resetIn (p : Pulse) (heldMs : Nat) : Statement (.resetIn p heldMs) := rfl
theorem fillComplete (p : Pulse) (bad : List (MemRegion × Nat)) (f : BootFind) :
    Statement (.fillComplete p bad f) := rfl
theorem fillTimeout (p : Pulse) : Statement (.fillTimeout p) := rfl
theorem loadComplete (x : LoadIn) : Statement (.loadComplete x) := rfl
theorem loadOverrun (p : Pulse) : Statement (.loadOverrun p) := rfl
theorem freezeTrigger (p : Pulse) (diag : Fin 17) : Statement (.freezeTrigger p diag) := rfl
theorem freezeMaxExpiry (p : Pulse) : Statement (.freezeMaxExpiry p) := rfl
theorem inputLossDeclared (p : Pulse) : Statement (.inputLossDeclared p) := rfl
theorem inputLossWaitEnd (p : Pulse) : Statement (.inputLossWaitEnd p) := rfl
theorem inputLossFullPhaseEnd (p : Pulse) : Statement (.inputLossFullPhaseEnd p) := rfl
theorem inputReturned (p : Pulse) (vin : Int) : Statement (.inputReturned p vin) := rfl
theorem holdupExhausted (p : Pulse) : Statement (.holdupExhausted p) := rfl
theorem holdupLowTimeout (p : Pulse) : Statement (.holdupLowTimeout p) := rfl
theorem holdupCapacityMeasure (p : Pulse) (cap : Nat) (full : Int) :
    Statement (.holdupCapacityMeasure p cap full) := rfl
theorem psvSupply (p : Pulse) (vin : Int) : Statement (.psvSupply p vin) := rfl
theorem grzSensor (p : Pulse) (sensor : SensorId) (failed : Bool) : Statement (.grzSensor p sensor failed) := rfl
theorem uploadReceived (p : Pulse) (port : PortIx) (u : UpFrame) (old : List MemErr) :
    Statement (.uploadReceived p port u old) := rfl
theorem repeatSend (port : PortIx) : Statement (.repeatSend port) := rfl
theorem linkLost (port : PortIx) : Statement (.linkLost port) := rfl
theorem linkRecovered (port : PortIx) : Statement (.linkRecovered port) := rfl
theorem linkWakeRetry (port : PortIx) : Statement (.linkWakeRetry port) := rfl
theorem linkLostWake (port : PortIx) : Statement (.linkLostWake port) := rfl
theorem linkAlignRetry (port : PortIx) : Statement (.linkAlignRetry port) := rfl
theorem linkEchoInterval (port : PortIx) : Statement (.linkEchoInterval port) := rfl
theorem echoReply (p : Pulse) (port : PortIx) (h : LinkHead) (ticks : Nat) :
    Statement (.echoReply p port h ticks) := rfl
theorem regData (p : Pulse) (port : PortIx) (h : LinkHead) (rstat addr count : Nat) (data : List Word) :
    Statement (.regData p port h rstat addr count data) := rfl
theorem fwAck (p : Pulse) (port : PortIx) (h : LinkHead) (rstat blockNo : Nat) :
    Statement (.fwAck p port h rstat blockNo) := rfl
theorem secondaryTimeout (p : Pulse) (port : PortIx) : Statement (.secondaryTimeout p port) := rfl
theorem linkAlarmTone (p : Pulse) (port : PortIx) : Statement (.linkAlarmTone p port) := rfl
theorem estimationPass (late : Nat) : Statement (.estimationPass late) := rfl
theorem outputQueueOverrun (out : OutKind) : Statement (.outputQueueOverrun out) := rfl
theorem frameClosure (x : Sensors) (more : Nat) : Statement (.frameClosure x more) := rfl
theorem elasticRecovery (p : Pulse) : Statement (.elasticRecovery p) := rfl
theorem derateCurrentExcess (p : Pulse) : Statement (.derateCurrentExcess p) := rfl
theorem derateRelease (p : Pulse) : Statement (.derateRelease p) := rfl
theorem rosterCompute (p : Pulse) : Statement (.rosterCompute p) := rfl
theorem ptpSync (p : Pulse) (port : Fin 2) (m : PtpSync) : Statement (.ptpSync p port m) := rfl
theorem ptpAnnounce (p : Pulse) (port : Fin 2) (domain : Nat) (t : PtpTransport) (ann : Announce) :
    Statement (.ptpAnnounce p port domain t ann) := rfl
theorem ptpPdelayReq (p : Pulse) (port : Fin 2) : Statement (.ptpPdelayReq p port) := rfl
theorem ptpAnnounceTimeout (p : Pulse) (port : Fin 2) : Statement (.ptpAnnounceTimeout p port) := rfl
theorem ppsEdge (p : Pulse) (sub : Fin 1000) (falling : Bool) (late filter freq : Int) :
    Statement (.ppsEdge p sub falling late filter freq) := rfl
theorem ppsMissing (p : Pulse) : Statement (.ppsMissing p) := rfl
theorem timeLocked (p : Pulse) : Statement (.timeLocked p) := rfl
theorem timeOffsetExcursion (p : Pulse) : Statement (.timeOffsetExcursion p) := rfl
theorem timeAlignLost (p : Pulse) : Statement (.timeAlignLost p) := rfl
theorem timeOscWarm (p : Pulse) : Statement (.timeOscWarm p) := rfl
theorem timeSetTod (id : Word) : Statement (.timeSetTod id) := rfl
theorem modeRequestIdle (id : Word) : Statement (.modeRequestIdle id) := rfl
theorem modeRequestServe (id : Word) : Statement (.modeRequestServe id) := rfl
theorem modeRequestRest (id : Word) : Statement (.modeRequestRest id) := rfl
theorem modeRequestMaintain (id : Word) : Statement (.modeRequestMaintain id) := rfl
theorem openWaitExpiry (str : StrIx) : Statement (.openWaitExpiry str) := rfl
theorem modeSafeRequest (id : Word) : Statement (.modeSafeRequest id) := rfl
theorem modeSafeReset (id : Word) : Statement (.modeSafeReset id) := rfl
theorem modeRestart (id : Word) : Statement (.modeRestart id) := rfl
theorem modeStringEnableOn (id : Word) : Statement (.modeStringEnableOn id) := rfl
theorem modeStringEnableOff (id : Word) : Statement (.modeStringEnableOff id) := rfl
theorem modeStringService (id : Word) : Statement (.modeStringService id) := rfl
theorem modeStringReadmit (id : Word) : Statement (.modeStringReadmit id) := rfl
theorem modeStringReset (id : Word) : Statement (.modeStringReset id) := rfl
theorem stringSurveyEnd (p : Pulse) (str : StrIx) : Statement (.stringSurveyEnd p str) := rfl
theorem owTestStart (port : PortIx) : Statement (.owTestStart port) := rfl
theorem owTestEvaluate (port : PortIx) : Statement (.owTestEvaluate port) := rfl
theorem owTestRetry (port : PortIx) : Statement (.owTestRetry port) := rfl
theorem blockTriggeredTest (port : PortIx) : Statement (.blockTriggeredTest port) := rfl
theorem measBlockFault (p : Pulse) (port : PortIx) : Statement (.measBlockFault p port) := rfl
theorem blkClear (p : Pulse) (port : PortIx) : Statement (.blkClear p port) := rfl
theorem stringSumFault (str : StrIx) : Statement (.stringSumFault str) := rfl
theorem wireOpenDeadline (p : Pulse) (str : StrIx) : Statement (.wireOpenDeadline p str) := rfl
theorem thermistorOpenFault (p : Pulse) (port : PortIx) (t : Fin 16) :
    Statement (.thermistorOpenFault p port t) := rfl
theorem thermistorDisagree (p : Pulse) (port : PortIx) (t : Fin 16) : Statement (.thermistorDisagree p port t) := rfl
theorem thermistorRestored (p : Pulse) (port : PortIx) (t : Fin 16) : Statement (.thermistorRestored p port t) := rfl
theorem markhorThRestore (p : Pulse) (port : PortIx) (t : Fin 16) : Statement (.markhorThRestore p port t) := rfl
theorem estRestStart (p : Pulse) (str : StrIx) : Statement (.estRestStart p str) := rfl
theorem estRequestRepeat (p : Pulse) (str : StrIx) : Statement (.estRequestRepeat p str) := rfl
theorem estReferenceGrant (id : Word) : Statement (.estReferenceGrant id) := rfl
theorem excursionDurationEnd (p : Pulse) (str : StrIx) : Statement (.excursionDurationEnd p str) := rfl
theorem plateSourceInvalid (p : Pulse) (str : StrIx) : Statement (.plateSourceInvalid p str) := rfl
theorem herdSweepDone (p : Pulse) : Statement (.herdSweepDone p) := rfl
theorem commandWord (str : StrIx) (icur vstr vbus : BitVec 20) (peer : BitVec 42) (cur : Int) :
    Statement (.commandWord str icur vstr vbus peer cur) := rfl
theorem statusWord (str : StrIx) (line : BitVec 42) : Statement (.statusWord str line) := rfl
theorem bitstreamStuck (p : Pulse) (str : StrIx) (chan : Fin 3) : Statement (.bitstreamStuck p str chan) := rfl
theorem bitstreamRecover (p : Pulse) (str : StrIx) (chan : Fin 3) : Statement (.bitstreamRecover p str chan) := rfl
theorem statusStreamInvalid (p : Pulse) (str : StrIx) : Statement (.statusStreamInvalid p str) := rfl
theorem statusStreamValid (p : Pulse) (str : StrIx) : Statement (.statusStreamValid p str) := rfl
theorem ppEchoFault (p : Pulse) (str : StrIx) : Statement (.ppEchoFault p str) := rfl
theorem echoFaultClear (p : Pulse) (str : StrIx) : Statement (.echoFaultClear p str) := rfl
theorem ppImplausible (p : Pulse) (str : StrIx) : Statement (.ppImplausible p str) := rfl
theorem contactorCloseTimeout (p : Pulse) (str : StrIx) : Statement (.contactorCloseTimeout p str) := rfl
theorem loopPhaseStart (p : Pulse) (str : StrIx) : Statement (.loopPhaseStart p str) := rfl
theorem handoverWindowOpen (p : Pulse) (str : StrIx) : Statement (.handoverWindowOpen p str) := rfl
theorem handoverWindowExpire (p : Pulse) (str : StrIx) : Statement (.handoverWindowExpire p str) := rfl
theorem connTimeExpire (p : Pulse) (str : StrIx) : Statement (.connTimeExpire p str) := rfl
theorem openCurrentLow (p : Pulse) (str : StrIx) : Statement (.openCurrentLow p str) := rfl
theorem loopOutputFault (p : Pulse) (out : Fin 16) (faults : BitVec 3) :
    Statement (.loopOutputFault p out faults) := rfl
theorem thermalOutputRetry (p : Pulse) (out : Fin 16) : Statement (.thermalOutputRetry p out) := rfl
theorem sf04Trip (p : Pulse) (str : StrIx) : Statement (.sf04Trip p str) := rfl
theorem sf05Check (str : StrIx) : Statement (.sf05Check str) := rfl
theorem sf06Warning (port : PortIx) : Statement (.sf06Warning port) := rfl
theorem sf06Trip (port : PortIx) : Statement (.sf06Trip port) := rfl
theorem sf06Release (str : StrIx) : Statement (.sf06Release str) := rfl
theorem ilkInputChange (p : Pulse) (ilk : Fin 4) (loop contact : Bool) :
    Statement (.ilkInputChange p ilk loop contact) := rfl
theorem ilkFault (p : Pulse) (ilk : Fin 4) : Statement (.ilkFault p ilk) := rfl
theorem sf09AuxTimeout (p : Pulse) (str : StrIx) : Statement (.sf09AuxTimeout p str) := rfl
theorem sf12Fault (p : Pulse) (diag : Fin 17) (detail : Word) : Statement (.sf12Fault p diag detail) := rfl
theorem protWarningRelease (p : Pulse) (str : StrIx) (fn : Fin 12) : Statement (.protWarningRelease p str fn) := rfl
theorem inhibitEnforce (p : Pulse) (str : StrIx) : Statement (.inhibitEnforce p str) := rfl
theorem modelInputStale (p : Pulse) (str : StrIx) : Statement (.modelInputStale p str) := rfl
theorem clockMonitorFault (p : Pulse) (domain : ClockDomain) : Statement (.clockMonitorFault p domain) := rfl
theorem frameStrobeFault (p : Pulse) (interval : Option Nat) : Statement (.frameStrobeFault p interval) := rfl
theorem safeOutReadback (p : Pulse) (a b : Bool) : Statement (.safeOutReadback p a b) := rfl
theorem limitCheckerSelftest (p : Pulse) (v : Verdict) : Statement (.limitCheckerSelftest p v) := rfl
theorem frameTokenMissing (p : Pulse) : Statement (.frameTokenMissing p) := rfl
theorem imageCrcCheck (p : Pulse) (v : Verdict) : Statement (.imageCrcCheck p v) := rfl
theorem protAlarmAck (id : Word) : Statement (.protAlarmAck id) := rfl
theorem dspSocWindow (id : Word) : Statement (.dspSocWindow id) := rfl
theorem loneNodeOpenTimeout (p : Pulse) (str : StrIx) : Statement (.loneNodeOpenTimeout p str) := rfl
theorem pairHeartbeatSend (n : Fin 10) : Statement (.pairHeartbeatSend n) := rfl
theorem pairHeartbeatRx (p : Pulse) (h : PairHb) : Statement (.pairHeartbeatRx p h) := rfl
theorem pairMirrorRx (p : Pulse) (port : PortIx) (d : UpData) : Statement (.pairMirrorRx p port d) := rfl
theorem pairSummaryRx (p : Pulse) (x : Summary) : Statement (.pairSummaryRx p x) := rfl
theorem pairAssignRx (p : Pulse) (frame : Nat) (items : List PairItem) (ai : List Int) :
    Statement (.pairAssignRx p frame items ai) := rfl
theorem pairListRx (p : Pulse) (frame : Nat) (items : List PairItem) (tj power : Int) (holdup : Nat) :
    Statement (.pairListRx p frame items tj power holdup) := rfl
theorem pairDigestRx (p : Pulse) (frame : Nat) (crcs : List Word) : Statement (.pairDigestRx p frame crcs) := rfl
theorem pairStepRx (p : Pulse) (boundary number : Nat) : Statement (.pairStepRx p boundary number) := rfl
theorem pairHandoverRx (p : Pulse) (frame kind : Nat) (cmd : Word) :
    Statement (.pairHandoverRx p frame kind cmd) := rfl
theorem pairTimeSetRx (p : Pulse) (e : EpochIn) : Statement (.pairTimeSetRx p e) := rfl
theorem copyPageRx (p : Pulse) (page : Fin 708) (epoch : Nat) (crcOk : Bool) :
    Statement (.copyPageRx p page epoch crcOk) := rfl
theorem copyAckRx (p : Pulse) (pages : List Nat) : Statement (.copyAckRx p pages) := rfl
theorem copyPageResend (p : Pulse) (page : Fin 708) : Statement (.copyPageResend p page) := rfl
theorem loopLiveRx (p : Pulse) (frame : Nat) (loops : List LoopSt) (sums : List Sums) :
    Statement (.loopLiveRx p frame loops sums) := rfl
theorem replayCaughtUp (c : CopyIn) : Statement (.replayCaughtUp c) := rfl
theorem chgInChange (p : Pulse) (up : Bool) : Statement (.chgInChange p up) := rfl
theorem pairTakeover (p : Pulse) (silent : Bool) : Statement (.pairTakeover p silent) := rfl
theorem pairPeerLost (p : Pulse) : Statement (.pairPeerLost p) := rfl
theorem pairListenTimeout (p : Pulse) : Statement (.pairListenTimeout p) := rfl
theorem pairJoinTimeout (p : Pulse) : Statement (.pairJoinTimeout p) := rfl
theorem pairDetachWaitEnd (p : Pulse) : Statement (.pairDetachWaitEnd p) := rfl
theorem pairAssignMissing (p : Pulse) : Statement (.pairAssignMissing p) := rfl
theorem pairHomeHoldExpiry (p : Pulse) : Statement (.pairHomeHoldExpiry p) := rfl
theorem pairHandoverFrame (late : Bool) : Statement (.pairHandoverFrame late) := rfl
theorem pairHandover (id : Word) : Statement (.pairHandover id) := rfl
theorem sessionOpen (p : Pulse) (m : SiteIn) (o : OpenIn) : Statement (.sessionOpen p m o) := rfl
theorem sessionClose (p : Pulse) (m : SiteIn) (code : BitVec 16) : Statement (.sessionClose p m code) := rfl
theorem siteHeartbeatRx (p : Pulse) (m : SiteIn) : Statement (.siteHeartbeatRx p m) := rfl
theorem sessionOpeningTimeout (p : Pulse) : Statement (.sessionOpeningTimeout p) := rfl
theorem sessionLapse (p : Pulse) : Statement (.sessionLapse p) := rfl
theorem command (p : Pulse) (m : SiteIn) (id : Word) (code : BitVec 16) (body : Bytes) :
    Statement (.command p m id code body) := rfl
theorem commandStatus (p : Pulse) (m : SiteIn) (id : Word) : Statement (.commandStatus p m id) := rfl
theorem statusRead (p : Pulse) (m : SiteIn) (index : BitVec 16) : Statement (.statusRead p m index) := rfl
theorem windowRead (p : Pulse) (m : SiteIn) (page : Fin 16384) (gen : BitVec 16) (chunk : Fin 4) :
    Statement (.windowRead p m page gen chunk) := rfl
theorem windowWrite (p : Pulse) (m : SiteIn) (page : Fin 16384) (gen : BitVec 16) (chunk : Fin 4) (data : Bytes) :
    Statement (.windowWrite p m page gen chunk data) := rfl
theorem pageRelease (p : Pulse) (m : SiteIn) (entries : List (Nat × Nat)) :
    Statement (.pageRelease p m entries) := rfl
theorem pageClaim (p : Pulse) (m : SiteIn) (count : Nat) : Statement (.pageClaim p m count) := rfl
theorem pageReturn (p : Pulse) (m : SiteIn) (entries : List (Nat × Nat × Nat × Word)) :
    Statement (.pageReturn p m entries) := rfl
theorem inboundPageExpire (p : Pulse) (page : Fin 16384) : Statement (.inboundPageExpire p page) := rfl
theorem tripCapture (p : Pulse) (str : StrIx) (samples : Bytes) : Statement (.tripCapture p str samples) := rfl
theorem pcsStateRx (p : Pulse) (ctl : Fin 2) (f : CanFrame) (full : Bool) :
    Statement (.pcsStateRx p ctl f full) := rfl
theorem hvacBudgetRx (p : Pulse) (ctl : Fin 2) (f : CanFrame) (full : Bool) :
    Statement (.hvacBudgetRx p ctl f full) := rfl
theorem fireStatusRx (p : Pulse) (ctl : Fin 2) (f : CanFrame) (full : Bool) :
    Statement (.fireStatusRx p ctl f full) := rfl
theorem imdStatusRx (p : Pulse) (ctl : Fin 2) (f : CanFrame) (full : Bool) :
    Statement (.imdStatusRx p ctl f full) := rfl
theorem pcsStateTimeout (p : Pulse) : Statement (.pcsStateTimeout p) := rfl
theorem canTxDone (p : Pulse) (ctl : Fin 2) (obj : Fin 7) (sof : Nat) (early : Bool) :
    Statement (.canTxDone p ctl obj sof early) := rfl
theorem canTxFail (p : Pulse) (ctl : Fin 2) (obj : Fin 7) (err : TxError) (early : Bool) :
    Statement (.canTxFail p ctl obj err early) := rfl
theorem canBusOff (p : Pulse) (ctl : Fin 2) : Statement (.canBusOff p ctl) := rfl
theorem canBusoffRecovered (p : Pulse) (ctl : Fin 2) : Statement (.canBusoffRecovered p ctl) := rfl
theorem canDetectDwell (p : Pulse) (ctl : Fin 2) : Statement (.canDetectDwell p ctl) := rfl
theorem canDetectAccept (p : Pulse) (ctl : Fin 2) : Statement (.canDetectAccept p ctl) := rfl
theorem canDetectTimeout (p : Pulse) (ctl : Fin 2) : Statement (.canDetectTimeout p ctl) := rfl
theorem canLone (p : Pulse) (ctl : Fin 2) : Statement (.canLone p ctl) := rfl
theorem canProbe (ctl : Fin 2) : Statement (.canProbe ctl) := rfl
theorem canStandbyTimeRef (ctl : Fin 2) : Statement (.canStandbyTimeRef ctl) := rfl
theorem canClash (p : Pulse) (ctl : Fin 2) (obj : Fin 7) : Statement (.canClash p ctl obj) := rfl
theorem transmitAtTime (ctl : Fin 2) : Statement (.transmitAtTime ctl) := rfl
theorem twAddress (p : Pulse) (address : BitVec 7) (read : Bool) (sent : Nat) :
    Statement (.twAddress p address read sent) := rfl
theorem twRegisterAddress (p : Pulse) (reg : Byte) : Statement (.twRegisterAddress p reg) := rfl
theorem twStop (p : Pulse) (sent : Nat) (data : Bytes) : Statement (.twStop p sent data) := rfl
theorem twSafeReqArm (p : Pulse) : Statement (.twSafeReqArm p) := rfl
theorem twSafeReqComplete (p : Pulse) : Statement (.twSafeReqComplete p) := rfl
theorem twSafeReqDisarm (p : Pulse) (value : Byte) : Statement (.twSafeReqDisarm p value) := rfl
theorem twArmTimeout (p : Pulse) : Statement (.twArmTimeout p) := rfl
theorem twWriteDiscard (p : Pulse) : Statement (.twWriteDiscard p) := rfl
theorem twBadCondition (p : Pulse) (start : Bool) : Statement (.twBadCondition p start) := rfl
theorem twSPortReadClear (p : Pulse) : Statement (.twSPortReadClear p) := rfl
theorem twStretchTimeout (p : Pulse) : Statement (.twStretchTimeout p) := rfl
theorem twStuckBus (p : Pulse) (sda : Bool) : Statement (.twStuckBus p sda) := rfl
theorem twSleep (p : Pulse) : Statement (.twSleep p) := rfl
theorem cfgPatch (id : Word) : Statement (.cfgPatch id) := rfl
theorem cfgPatchApply (id : Word) : Statement (.cfgPatchApply id) := rfl
theorem cfgPatchPersisted (id : Word) (flash : Verdict) : Statement (.cfgPatchPersisted id flash) := rfl
theorem cfgImageStage (id : Word) : Statement (.cfgImageStage id) := rfl
theorem cfgStageStepDone (id : Word) (step : Nat) (st : Status) (chain cred : Verdict) :
    Statement (.cfgStageStepDone id step st chain cred) := rfl
theorem cfgFactoryCal (id : Word) (flash : Verdict) : Statement (.cfgFactoryCal id flash) := rfl
theorem updStageManifest (id : Word) : Statement (.updStageManifest id) := rfl
theorem updStageBlocks (id : Word) : Statement (.updStageBlocks id) := rfl
theorem updStageAbandon (id : Word) : Statement (.updStageAbandon id) := rfl
theorem updStepDone (id : Word) (step code block : Nat) : Statement (.updStepDone id step code block) := rfl
theorem updVerify (code block : Nat) : Statement (.updVerify code block) := rfl
theorem updActivate (id : Word) : Statement (.updActivate id) := rfl
theorem updConfirm (id : Word) : Statement (.updConfirm id) := rfl
theorem updCleanRunReached (otp : Verdict) : Statement (.updCleanRunReached otp) := rfl
theorem cfeFwUpdate (id : Word) : Statement (.cfeFwUpdate id) := rfl
theorem cfeFwReturnTimeout (port : PortIx) : Statement (.cfeFwReturnTimeout port) := rfl
theorem sysOtpProvision (id : Word) : Statement (.sysOtpProvision id) := rfl
theorem accKeyRotateRetire (id : Word) : Statement (.accKeyRotateRetire id) := rfl
theorem accKeyRotateDeny (id : Word) : Statement (.accKeyRotateDeny id) := rfl
theorem accDebugUnlock (id : Word) : Statement (.accDebugUnlock id) := rfl
theorem debugSessionClosed (p : Pulse) : Statement (.debugSessionClosed p) := rfl
theorem scrubBurst (dram : Bool) (pos : Fin 1001) (errs : List MemErr) : Statement (.scrubBurst dram pos errs) := rfl
theorem markhorScrub (p : Pulse) (errs : List MemErr) : Statement (.markhorScrub p errs) := rfl
theorem memScrub (p : Pulse) (dram : Bool) : Statement (.memScrub p dram) := rfl
theorem healthRecordWrite (p : Pulse) : Statement (.healthRecordWrite p) := rfl
theorem wearWrite (carrier : Verdict) : Statement (.wearWrite carrier) := rfl
theorem wearCarrierRetry (carrier : Verdict) : Statement (.wearCarrierRetry carrier) := rfl
theorem cfeWearCommitCheck (p : Pulse) (port : PortIx) : Statement (.cfeWearCommitCheck p port) := rfl
theorem feSample (port : PortIx) (side : Slot) (h : LinkHead) (delay : Nat) (conv : Bool) (inp : FeIn) (owBad : BitVec 65) :
    Statement (.feSample port side h delay conv inp owBad) := rfl
theorem feControl (port : PortIx) (side : Slot) (h : LinkHead) (mask : BitVec 64) (pat : Fin 3) (sleep : Bool) (writes : List (Nat × Word)) (fw : Verdict) (ver : Word) :
    Statement (.feControl port side h mask pat sleep writes fw ver) := rfl
theorem feControlMissing (port : PortIx) : Statement (.feControlMissing port) := rfl
theorem feUpload (port : PortIx) : Statement (.feUpload port) := rfl
theorem feRepeat (p : Pulse) (port : PortIx) (side : Slot) (h : LinkHead) : Statement (.feRepeat p port side h) := rfl
theorem feRegRead (p : Pulse) (port : PortIx) (side : Slot) (h : LinkHead) (addr : Nat) (count : Fin 33) :
    Statement (.feRegRead p port side h addr count) := rfl
theorem feRegWrite (p : Pulse) (port : PortIx) (side : Slot) (h : LinkHead) (addr : Nat) (data : List Word) (fw : Verdict) (ver : Word) :
    Statement (.feRegWrite p port side h addr data fw ver) := rfl
theorem feWearCommit (p : Pulse) (port : PortIx) (side : Slot) (h : LinkHead) (crc : Word) :
    Statement (.feWearCommit p port side h crc) := rfl
theorem feFwRestart (p : Pulse) (port : PortIx) (side : Slot) (h : LinkHead) (sel : Fin 2) (fw : Verdict) (ver : Word) :
    Statement (.feFwRestart p port side h sel fw ver) := rfl
theorem feAlarmClear (p : Pulse) (port : PortIx) (side : Slot) (h : LinkHead) (v : Word) :
    Statement (.feAlarmClear p port side h v) := rfl
theorem feFwBlock (p : Pulse) (port : PortIx) (side : Slot) (h : LinkHead) (bank blockNo : Nat) (data : Bytes) :
    Statement (.feFwBlock p port side h bank blockNo data) := rfl
theorem feEcho (p : Pulse) (port : PortIx) (side : Slot) (h : LinkHead) : Statement (.feEcho p port side h) := rfl
theorem feSleepEntry (port : PortIx) : Statement (.feSleepEntry port) := rfl
theorem feSleepTimeout (p : Pulse) (port : PortIx) : Statement (.feSleepTimeout p port) := rfl
theorem feSleepConversion (p : Pulse) (port : PortIx) (inp : FeIn) : Statement (.feSleepConversion p port inp) := rfl
theorem feAlarmToneSend (p : Pulse) (port : PortIx) (waking : Bool) :
    Statement (.feAlarmToneSend p port waking) := rfl
theorem feWake (p : Pulse) (port : PortIx) : Statement (.feWake p port) := rfl
theorem ref10InChange (p : Pulse) (good : Bool) (freq : Int) : Statement (.ref10InChange p good freq) := rfl
theorem feAuthorityExpiry (p : Pulse) (port : PortIx) (side : Slot) :
    Statement (.feAuthorityExpiry p port side) := rfl
theorem feWearCommitDone (p : Pulse) (port : PortIx) : Statement (.feWearCommitDone p port) := rfl
theorem feFwBlockProgrammed (p : Pulse) (port : PortIx) : Statement (.feFwBlockProgrammed p port) := rfl
theorem fePowerOn (p : Pulse) (port : PortIx) (cause : FeCause) (fellBack : Bool) (newer older : Verdict) :
    Statement (.fePowerOn p port cause fellBack newer older) := rfl
theorem stageLossOfBothInputs (p : Pulse) (str : StrIx) (low : Bool) :
    Statement (.stageLossOfBothInputs p str low) := rfl
theorem canFrameRx (p : Pulse) (ctl : Fin 2) (f : CanFrame) : Statement (.canFrameRx p ctl f) := rfl
theorem pairLaneChange (p : Pulse) (lane : Fin 2) (up : Bool) : Statement (.pairLaneChange p lane up) := rfl
theorem sitePortLinkChange (p : Pulse) (port : Fin 2) (up : Bool) : Statement (.sitePortLinkChange p port up) := rfl
theorem analogInputConversion (vals : List Int) : Statement (.analogInputConversion vals) := rfl
theorem surveyEnd : Statement .surveyEnd := rfl
theorem restartAtPulse999 : Statement .restartAtPulse999 := rfl
theorem frameStrobe : Statement .frameStrobe := rfl
theorem secondBoundary : Statement .secondBoundary := rfl
theorem portResult : Statement .portResult := rfl
theorem restWakeBurst : Statement .restWakeBurst := rfl
theorem markhorSummary : Statement .markhorSummary := rfl
theorem elandOverrun : Statement .elandOverrun := rfl
theorem envelope : Statement .envelope := rfl
theorem windowHandoverSlot : Statement .windowHandoverSlot := rfl
theorem envelopeOverrun : Statement .envelopeOverrun := rfl
theorem envelopeOverrunZero : Statement .envelopeOverrunZero := rfl
theorem journalCommitOverrun : Statement .journalCommitOverrun := rfl
theorem tierPermit : Statement .tierPermit := rfl
theorem timeStep : Statement .timeStep := rfl
theorem herdSweepSkip : Statement .herdSweepSkip := rfl
theorem assignSend : Statement .assignSend := rfl
theorem digestSend : Statement .digestSend := rfl
theorem digestCompare : Statement .digestCompare := rfl
theorem historyMinute : Statement .historyMinute := rfl
theorem updActivateRestart : Statement .updActivateRestart := rfl

end Sys2Proof.Laws.Bounds
end

