-- ==== Sys2Proof/WellFormed.lean ====
section
/-! DEFINITION. When a command is well formed: every value lies in the range its field has in the spec. The meanings are
defined on every command all the same. -/

namespace Sys2Proof

open Sys2Proof.Machine

/-- An unsigned 8-bit field. -/
def u8 (n : Nat) : Bool := decide (n < 2 ^ 8)

/-- An unsigned 16-bit field. -/
def u16 (n : Nat) : Bool := decide (n < 2 ^ 16)

/-- An unsigned 32-bit field. -/
def u32 (n : Nat) : Bool := decide (n < 2 ^ 32)

/-- A frame number, 48 bits (R33). -/
def u48 (n : Nat) : Bool := decide (n < 2 ^ 48)

/-- A signed 16-bit field. -/
def i16 (x : Int) : Bool := decide (-2 ^ 15 ≤ x) && decide (x < 2 ^ 15)

/-- A signed 24-bit field (Table 4-7). -/
def i24 (x : Int) : Bool := decide (-2 ^ 23 ≤ x) && decide (x < 2 ^ 23)

/-- A signed 32-bit field. -/
def i32 (x : Int) : Bool := decide (-2 ^ 31 ≤ x) && decide (x < 2 ^ 31)

/-- Table 4-7: block 24 bits, 16 temperatures, 64 cells; an upload without conversions carries neither. -/
def Machine.UpData.wf (d : UpData) : Bool :=
  decide (d.block < 2 ^ 24) && decide (d.temp.length ≤ 16) && d.temp.all i16 && decide (d.cell.length ≤ 64) && d.cell.all i24

/-- Table 4-2: the header's fields. -/
def Machine.LinkHead.wf (h : LinkHead) : Bool :=
  u8 h.type && decide (h.role < 4) && u48 h.frame && u16 h.seq && u16 h.len

/-- Tables 4-2 and 4-7. -/
def Machine.UpFrame.wf (u : UpFrame) : Bool := u.head.wf && u.data.wf

/-- A front end has at most 64 cells and 16 thermistor inputs. -/
def Machine.FeIn.wf (i : FeIn) : Bool :=
  decide (i.cells.length ≤ 64) && i.cells.all i32 && u32 i.block && decide (i.ths.length ≤ 16) && i.ths.all u32 && i32 i.die

/-- Table 14-1: the header's fields and the tag. -/
def Machine.SiteIn.wf (m : SiteIn) : Bool :=
  u8 m.ver && u8 m.type && u48 m.seq && u16 m.len && u48 m.frame && u48 m.rest && decide (m.tag.length = 16)

/-- Table 20-3, and the 32 bytes of Z (R572). -/
def Machine.OpenIn.wf (o : OpenIn) : Bool :=
  u8 o.ver && decide (o.nonce.length = 16) && decide (o.eph.length = 65) && decide (o.sig.length = 64) &&
    decide (o.root < 4) && decide (o.ourNonce.length = 16) && decide (o.ourEph.length = 65) &&
    decide (o.ourSig.length = 64) && decide (o.z.length = 32)

/-- An FD frame carries at most 64 bytes (R445). -/
def Machine.CanFrame.wf (f : CanFrame) : Bool := decide (f.payload.length ≤ 64)

/-- Ten rails and four diodes (Table 21-14). -/
def Machine.Sensors.wf (x : Sensors) : Bool :=
  decide (x.rails.length ≤ 10) && decide (x.diodes.length ≤ 4) && i32 x.base && i32 x.vin && i32 x.iin && i32 x.huV && i32 x.huE &&
    i32 x.oscTemp

/-- A domain of IEEE 1588; the corrections are 32-bit fields (Table 2-9). -/
def Machine.PtpSync.wf (m : PtpSync) : Bool := u8 m.domain && i32 m.filter && i32 m.freq

/-- Steps removed is a 16-bit field, the UTC offset an int16. -/
def Machine.Announce.wf (a : Announce) : Bool := u16 a.stepsRemoved && i16 a.utcOffset

/-- The bound of Table 2-9 is 32 bits. -/
def Machine.PairHb.wf (h : PairHb) : Bool := u32 h.bound

/-- Sixteen pulse counters of 8 bits (R271). -/
def Machine.EpochIn.wf (e : EpochIn) : Bool :=
  u48 e.epoch && u48 e.frame && decide (e.pseqs.length ≤ 16) && e.pseqs.all u8

/-- The regions of Table 13-7 have their entry counts. -/
def Machine.CopyIn.wf (c : CopyIn) : Bool :=
  c.cells.all (decide <| ·.1 < 8192) && c.aux.all (decide <| ·.1 < 8192) && c.th.all (decide <| ·.1 < 2048) &&
    c.herdTab.all (decide <| ·.1 < 8192) && c.str.all (decide <| ·.1 < 16) && c.loops.all (decide <| ·.1 < 64) &&
    c.ledger.all (decide <| ·.1 < 1024)

/-- A summary names strings 0 to 15 of one frame. -/
def Machine.Summary.wf (x : Summary) : Bool := u48 x.frame && x.str.all (decide <| ·.1 < 16)

/-- An item's sequence and frame are 48 bits. -/
def Machine.PairItem.wf (x : PairItem) : Bool := u48 x.seq && u48 x.frame

/-- A block number is 32 bits. -/
def Machine.MemErr.wf (e : MemErr) : Bool := u32 e.block && e.wrong.all (decide <| · < 4352)

/-- The Velvet block named, if any, is a 16-bit number. -/
def Machine.BootFind.wf (f : BootFind) : Bool := f.badBlock.all u16

/-- A command whose every operand lies in its field's range. -/
def Instr.wf : Instr → Bool
  | .sysOtpProvision _ => true
  | .accKeyRotateRetire _ => true
  | .accKeyRotateDeny _ => true
  | .debugSessionClosed _ => true
  | .updStageManifest _ => true
  | .updStageBlocks _ => true
  | .updStageAbandon _ => true
  | .updActivate _ => true
  | .updConfirm _ => true
  | .updStepDone _ step code block => u8 step && u16 code && u16 block
  | .updVerify code block => u16 code && u16 block
  | .updCleanRunReached _ => true
  | .cfeFwUpdate _ => true
  | .cfeFwReturnTimeout _ => true
  | .cfgPatch _ => true
  | .cfgPatchApply _ => true
  | .cfgPatchPersisted _ _ => true
  | .cfgImageStage _ => true
  | .cfgFactoryCal _ _ => true
  | .modeSafeRequest _ => true
  | .accDebugUnlock _ => true
  | .modelInputStale _ _ => true
  | .sf04Trip _ _ => true
  | .sf05Check _ => true
  | .sf06Warning _ => true
  | .sf06Trip _ => true
  | .sf06Release _ => true
  | .ilkInputChange _ _ _ _ => true
  | .ilkFault _ _ => true
  | .sf09AuxTimeout _ _ => true
  | .protWarningRelease _ _ _ => true
  | .inhibitEnforce _ _ => true
  | .sf12Fault _ _ _ => true
  | .clockMonitorFault _ _ => true
  | .frameStrobeFault _ interval => interval.all u32
  | .safeOutReadback _ _ _ => true
  | .limitCheckerSelftest _ _ => true
  | .frameTokenMissing _ => true
  | .imageCrcCheck _ _ => true
  | .freezeTrigger _ _ => true
  | .freezeMaxExpiry _ => true
  | .protAlarmAck _ => true
  | .scrubBurst _ _ errs => errs.all MemErr.wf
  | .markhorScrub _ errs => errs.all MemErr.wf
  | .memScrub _ _ => true
  | .healthRecordWrite _ => true
  | .wearWrite _ => true
  | .wearCarrierRetry _ => true
  | .cfeWearCommitCheck _ _ => true
  | .stringSurveyEnd _ _ => true
  | .modeRequestIdle _ => true
  | .modeRequestServe _ => true
  | .modeRequestRest _ => true
  | .modeRequestMaintain _ => true
  | .openWaitExpiry _ => true
  | .modeSafeReset _ => true
  | .modeRestart _ => true
  | .restartAtPulse999 => true
  | .modeStringEnableOn _ => true
  | .modeStringEnableOff _ => true
  | .modeStringService _ => true
  | .modeStringReadmit _ => true
  | .modeStringReset _ => true
  | .holdupLowTimeout _ => true
  | .inputLossDeclared _ => true
  | .inputLossWaitEnd _ => true
  | .inputLossFullPhaseEnd _ => true
  | .inputReturned _ vin => i32 vin
  | .holdupExhausted _ => true
  | .powerOn vin _ _ _ => i32 vin
  | .resetIn _ heldMs => u32 heldMs
  | .holdupCapacityMeasure _ cap full => u32 cap && i32 full
  | .psvSupply _ vin => i32 vin
  | .analogInputConversion vals => (vals.length == 8 && vals.all i32)
  | .commandWord _ _ _ _ _ cur => i32 cur
  | .statusWord _ _ => true
  | .bitstreamStuck _ _ _ => true
  | .bitstreamRecover _ _ _ => true
  | .statusStreamInvalid _ _ => true
  | .statusStreamValid _ _ => true
  | .ppEchoFault _ _ => true
  | .echoFaultClear _ _ => true
  | .ppImplausible _ _ => true
  | .contactorCloseTimeout _ _ => true
  | .loopPhaseStart _ _ => true
  | .handoverWindowOpen _ _ => true
  | .handoverWindowExpire _ _ => true
  | .connTimeExpire _ _ => true
  | .openCurrentLow _ _ => true
  | .loopOutputFault _ _ _ => true
  | .thermalOutputRetry _ _ => true
  | .stageLossOfBothInputs _ _ _ => true
  | .uploadReceived _ _ u old => u.wf && old.all MemErr.wf
  | .repeatSend _ => true
  | .portResult => true
  | .linkLost _ => true
  | .linkRecovered _ => true
  | .linkWakeRetry _ => true
  | .linkLostWake _ => true
  | .linkAlignRetry _ => true
  | .linkEchoInterval _ => true
  | .echoReply _ _ h ticks => h.wf && u32 ticks
  | .regData _ _ h rstat addr count data => h.wf && u16 rstat && u16 addr && u8 count && data.length ≤ 32
  | .fwAck _ _ h rstat blockNo => h.wf && u16 rstat && u16 blockNo
  | .secondaryTimeout _ _ => true
  | .linkAlarmTone _ _ => true
  | .restWakeBurst => true
  | .feSample _ _ h delay _ inp _ => h.wf && u16 delay && inp.wf
  | .feControl _ _ h _ _ _ writes _ _ => h.wf && (writes.length ≤ 5 && writes.all fun x => u16 x.1)
  | .feControlMissing _ => true
  | .feUpload _ => true
  | .feRepeat _ _ _ h => h.wf
  | .feRegRead _ _ _ h addr _ => h.wf && u16 addr
  | .feRegWrite _ _ _ h addr data _ _ => h.wf && u16 addr && data.length ≤ 32
  | .feWearCommit _ _ _ h _ => h.wf
  | .feFwRestart _ _ _ h _ _ _ => h.wf
  | .feAlarmClear _ _ _ h _ => h.wf
  | .feFwBlock _ _ _ h bank blockNo data => h.wf && u8 bank && u16 blockNo && data.length == 256
  | .feEcho _ _ _ h => h.wf
  | .feSleepEntry _ => true
  | .feSleepTimeout _ _ => true
  | .feSleepConversion _ _ inp => inp.wf
  | .feAlarmToneSend _ _ _ => true
  | .feWake _ _ => true
  | .feAuthorityExpiry _ _ _ => true
  | .feWearCommitDone _ _ => true
  | .feFwBlockProgrammed _ _ => true
  | .fePowerOn _ _ _ _ _ _ => true
  | .tierPermit => true
  | .owTestStart _ => true
  | .owTestEvaluate _ => true
  | .owTestRetry _ => true
  | .blockTriggeredTest _ => true
  | .measBlockFault _ _ => true
  | .blkClear _ _ => true
  | .stringSumFault _ => true
  | .wireOpenDeadline _ _ => true
  | .thermistorOpenFault _ _ _ => true
  | .thermistorDisagree _ _ _ => true
  | .thermistorRestored _ _ _ => true
  | .markhorThRestore _ _ _ => true
  | .plateSourceInvalid _ _ => true
  | .estRestStart _ _ => true
  | .estRequestRepeat _ _ => true
  | .estReferenceGrant _ => true
  | .excursionDurationEnd _ _ => true
  | .windowHandoverSlot => true
  | .herdSweepDone _ => true
  | .herdSweepSkip => true
  | .historyMinute => true
  | .estimationPass late => u16 late
  | .grzSensor _ _ _ => true
  | .elandOverrun => true
  | .journalCommitOverrun => true
  | .elasticRecovery _ => true
  | .derateCurrentExcess _ => true
  | .derateRelease _ => true
  | .rosterCompute _ => true
  | .dspSocWindow _ => true
  | .pcsStateRx _ _ f _ => f.wf
  | .hvacBudgetRx _ _ f _ => f.wf
  | .fireStatusRx _ _ f _ => f.wf
  | .imdStatusRx _ _ f _ => f.wf
  | .pcsStateTimeout _ => true
  | .loneNodeOpenTimeout _ _ => true
  | .canTxDone _ _ _ sof _ => u32 sof
  | .canTxFail _ _ _ _ _ => true
  | .canBusOff _ _ => true
  | .canBusoffRecovered _ _ => true
  | .canDetectDwell _ _ => true
  | .canDetectAccept _ _ => true
  | .canDetectTimeout _ _ => true
  | .canLone _ _ => true
  | .canProbe _ => true
  | .canStandbyTimeRef _ => true
  | .canClash _ _ _ => true
  | .transmitAtTime _ => true
  | .canFrameRx _ _ f => f.wf
  | .twAddress _ _ _ sent => u16 sent
  | .twRegisterAddress _ _ => true
  | .twStop _ sent data => u16 sent && data.length ≤ 256
  | .twSafeReqArm _ => true
  | .twSafeReqComplete _ => true
  | .twSafeReqDisarm _ _ => true
  | .twArmTimeout _ => true
  | .twWriteDiscard _ => true
  | .twBadCondition _ _ => true
  | .twSPortReadClear _ => true
  | .twStretchTimeout _ => true
  | .twStuckBus _ _ => true
  | .twSleep _ => true
  | .ptpSync _ _ m => m.wf
  | .ptpAnnounce _ _ domain _ ann => u8 domain && ann.wf
  | .ptpPdelayReq _ _ => true
  | .ptpAnnounceTimeout _ _ => true
  | .ppsEdge _ _ _ late filter freq => i32 late && i32 filter && i32 freq
  | .ppsMissing _ => true
  | .timeLocked _ => true
  | .timeOffsetExcursion _ => true
  | .timeStep => true
  | .timeAlignLost _ => true
  | .timeOscWarm _ => true
  | .timeSetTod _ => true
  | .ref10InChange _ _ freq => i32 freq
  | .sessionOpen _ m o => m.wf && o.wf
  | .sessionClose _ m _ => m.wf
  | .siteHeartbeatRx _ m => m.wf
  | .sessionOpeningTimeout _ => true
  | .sessionLapse _ => true
  | .command _ m _ _ body => m.wf && body.length ≤ 1400
  | .commandStatus _ m _ => m.wf
  | .statusRead _ m _ => m.wf
  | .windowRead _ m _ _ _ => m.wf
  | .windowWrite _ m _ _ _ data => m.wf && data.length == 1024
  | .pageRelease _ m entries => m.wf && (entries.length ≤ 100 && entries.all fun x => u16 x.1 && u16 x.2)
  | .pageClaim _ m count => m.wf && count ≤ 100
  | .pageReturn _ m entries => m.wf && (entries.length ≤ 100 && entries.all fun x => u16 x.1 && u16 x.2.1 && u16 x.2.2.1)
  | .inboundPageExpire _ _ => true
  | .tripCapture _ _ samples => samples.length % 4 == 0
  | .sitePortLinkChange _ _ _ => true
  | .surveyEnd => true
  | .chgInChange _ _ => true
  | .pairLaneChange _ _ _ => true
  | .pairTimeSetRx _ e => e.wf
  | .pairHeartbeatSend _ => true
  | .pairHeartbeatRx _ h => h.wf
  | .pairPeerLost _ => true
  | .pairListenTimeout _ => true
  | .pairTakeover _ _ => true
  | .pairJoinTimeout _ => true
  | .pairDetachWaitEnd _ => true
  | .copyPageRx _ _ epoch _ => u48 epoch
  | .copyAckRx _ pages => pages.all (decide <| · < 708)
  | .copyPageResend _ _ => true
  | .loopLiveRx _ frame loops sums => u48 frame && loops.length ≤ 64 && sums.length ≤ 16
  | .replayCaughtUp c => c.wf
  | .pairMirrorRx _ _ d => d.wf
  | .assignSend => true
  | .pairAssignRx _ frame items ai => u48 frame && items.all PairItem.wf && (ai.length ≤ 8 && ai.all i32)
  | .pairListRx _ frame items tj power holdup => u48 frame && items.all PairItem.wf && i32 tj && i32 power && u32 holdup
  | .pairAssignMissing _ => true
  | .markhorSummary => true
  | .pairSummaryRx _ x => x.wf
  | .digestSend => true
  | .pairDigestRx _ frame crcs => u48 frame && crcs.length == 8
  | .digestCompare => true
  | .pairHandover _ => true
  | .pairHomeHoldExpiry _ => true
  | .pairHandoverRx _ frame kind _ => u48 frame && u8 kind
  | .pairHandoverFrame _ => true
  | .pairStepRx _ boundary number => u48 boundary && u48 number
  | .envelope => true
  | .envelopeOverrun => true
  | .envelopeOverrunZero => true
  | .outputQueueOverrun _ => true
  | .fillComplete _ bad f => (bad.all fun x => u32 x.2) && f.wf
  | .fillTimeout _ => true
  | .loadComplete _ => true
  | .loadOverrun _ => true
  | .updActivateRestart => true
  | .cfgStageStepDone _ step _ _ _ => u8 step
  | .frameStrobe => true
  | .secondBoundary => true
  | .frameClosure x more => x.wf && u16 more

end Sys2Proof
end

