-- ==== Sys2Proof/Tests/Slice0.lean ====
section
/-! SUPPORT. Tests: what the well-formedness check refuses, single steps whose results the spec states, and for every
statement a state and operands that meet its hypotheses. -/

open Sys2Proof Sys2Proof.Machine

namespace Sys2Proof.Tests

/-- Zero bytes. -/
def zeros_ (n : Nat) : Bytes := List.replicate n 0

/-- A command of the partner that waits for its frame. -/
def cmd (code : Nat) (body : Bytes) (role : Role) : LedgerEntry :=
  { id := 1, code := code, state := .pending, role := role, body := body }

/-- A mode in which one command is due. -/
def dueIn (m : Mode) (e : LedgerEntry) : State := { State.reset with mode.mode := m, site.ledger := [(0, e)] }

/-- A message of the container bus from a node, with its body all zeros. -/
def canIn (msg node n : Nat) : CanFrame :=
  { ident := BitVec.ofNat 29 (msg + 1024 * node),
    payload := le 1 node ++ zeros_ 5 ++ le 4 (crc32c (zeros_ n)).toNat ++ zeros_ n }

/-- A calibration block with its CRC. -/
def calBlock : Bytes := zeros_ 508 ++ le 4 (crc32c (zeros_ 508)).toNat

/-- A manifest of one block for formats 1 to 3. -/
def manifest : Bytes :=
  le 4 0x5348ED01 ++ le 2 1 ++ le 2 128 ++ le 4 0 ++ le 4 0 ++ le 4 1 ++ le 2 1 ++ [3, 1] ++ le 4 0 ++ [1] ++ zeros_ 243

/-- The records of a small image: no string installed, one plant CA certificate. -/
def imageBody : Bytes :=
  le 2 0x0101 ++ le 4 516 ++ le 2 1 ++ zeros_ 516 ++ (le 2 0x1501 ++ le 4 8 ++ le 2 1 ++ [1, 0, 0, 0, 2, 0, 0x30, 0])

/-- The header of that image but for its own CRC. -/
def imageHead : Bytes :=
  le 4 0x9E0C1F17 ++ le 2 3 ++ le 2 64 ++ le 4 1 ++ le 4 540 ++ zeros_ 12 ++ le 4 (crc32c imageBody).toNat ++ zeros_ 28

/-- A small image. -/
def image : Bytes := imageHead ++ le 4 (crc32c imageHead).toNat ++ imageBody ++ zeros_ 96

/-- The generator of the curve, compressed (its x-coordinate, y odd). -/
def p384Gen : Bytes :=
  [0x03, 0xaa, 0x87, 0xca, 0x22, 0xbe, 0x8b, 0x05, 0x37, 0x8e, 0xb1, 0xc7, 0x1e, 0xf3, 0x20, 0xad,
   0x74, 0x6e, 0x1d, 0x3b, 0x62, 0x8b, 0xa7, 0x9b, 0x98, 0x59, 0xf7, 0x41, 0xe0, 0x82, 0x54, 0x2a,
   0x38, 0x55, 0x02, 0xf2, 0x5d, 0xbf, 0x55, 0x29, 0x6c, 0x3a, 0x54, 0x5e, 0x38, 0x72, 0x76, 0x0a,
   0xb7]

/-- The SHA-384 hash of the bytes of "abc" (FIPS 180-4). -/
def abc384 : Bytes :=
  [0xcb, 0x00, 0x75, 0x3f, 0x45, 0xa3, 0x5e, 0x8b, 0xb5, 0xa0, 0x3d, 0x69, 0x9a, 0xc6, 0x50, 0x07,
   0x27, 0x2c, 0x32, 0xab, 0x0e, 0xde, 0xd1, 0x63, 0x1a, 0x8b, 0x60, 0x5a, 0x43, 0xff, 0x5b, 0xed,
   0x80, 0x86, 0x07, 0x2b, 0xa1, 0xe7, 0xcc, 0x23, 0x58, 0xba, 0xec, 0xa1, 0x34, 0xc8, 0x25, 0xa7]

theorem shadow_congr {f g : FeSt} (h : f.wearShadow = g.wearShadow) : crc32c f.shadowBytes = crc32c g.shadowBytes := by
  unfold FeSt.shadowBytes; rw [h]

theorem rdU_le (b : Bytes) (off : Nat) (w : Word) (h : slice b off 4 = le 4 w.toNat) : rdU b off 4 = w.toNat := by
  have : w.toNat < 2 ^ 32 := w.isLt
  simp only [rdU, h, le, ofLe, BitVec.toNat_ofNat]
  omega

theorem le_length (n x : Nat) : (le n x).length = n := by
  induction n generalizing x with
  | zero => rfl
  | succ n ih => simp [le, ih]

theorem drop_take {α : Type} (a b c : List α) (n m : Nat) (ha : a.length = n) (hb : b.length = m) :
    ((a ++ (b ++ c)).drop n).take m = b := by
  subst ha hb; simp

theorem imageHead_length : imageHead.length = 60 := by
  simp only [imageHead, List.length_append, zeros_, List.length_replicate, le, List.length_cons, List.length_nil]

theorem imageBody_length : imageBody.length = 540 := by
  simp only [imageBody, List.length_append, zeros_, List.length_replicate, le, List.length_cons, List.length_nil]

theorem image_eq : image = [] ++ (imageHead ++ (le 4 (crc32c imageHead).toNat ++ (imageBody ++ zeros_ 96))) := by
  unfold image; rw [List.nil_append, List.append_assoc, List.append_assoc]

theorem image_head : slice image 0 60 = imageHead := by
  unfold slice; rw [image_eq]; exact drop_take [] _ _ 0 _ List.length_nil imageHead_length

theorem image_headCrc : slice image 60 4 = le 4 (crc32c imageHead).toNat := by
  unfold slice
  rw [show image = imageHead ++ (le 4 (crc32c imageHead).toNat ++ (imageBody ++ zeros_ 96)) by unfold image; rw [List.append_assoc, List.append_assoc]]
  exact drop_take _ _ _ _ _ imageHead_length (le_length ..)

theorem image_headCrc_read : rdU image 60 4 = (crc32c imageHead).toNat := rdU_le _ _ _ image_headCrc

theorem image_headOk : rdU image 60 4 = (crc32c (slice image 0 60)).toNat := by
  rw [image_head]; exact image_headCrc_read

theorem image_recLength : rdU image 12 4 = 540 := by
  rfl

theorem image_recs : slice image 64 540 = imageBody := by
  rw [show image = (imageHead ++ le 4 (crc32c imageHead).toNat) ++ (imageBody ++ zeros_ 96) by unfold image; rw [List.append_assoc _ imageBody]]
  exact drop_take _ _ _ _ _ (by simp only [List.length_append, imageHead_length, le, List.length_cons, List.length_nil]) imageBody_length

theorem image_recsOk : rdU image 28 4 = (crc32c (slice image 64 (rdU image 12 4))).toNat := by
  rw [image_recLength, image_recs]
  refine rdU_le _ _ _ ?_
  rfl

theorem image_parse : imageRecs image = some [{ type := 0x0101, body := zeros_ 516 }, { type := 0x1501, body := [1, 0, 0, 0, 2, 0, 0x30, 0] }] := by
  unfold imageRecs
  simp only [image_recLength, image_recs]
  decide +kernel

theorem image_length : image.length = 700 := by
  unfold image
  rw [List.length_append, List.length_append, List.length_append, imageHead_length, le_length, imageBody_length, zeros_, List.length_replicate]

theorem image_good : judgeImage image .pass (requiredOk .pass) = 0 := by
  unfold judgeImage
  rw [if_neg, if_neg, if_neg (by decide +kernel), if_neg (by decide +kernel), image_parse]
  · decide +kernel
  · simp only [ne_eq, image_headOk, image_recsOk, not_true_eq_false, or_false, false_or, image_length]
    decide +kernel
  · rintro (h | h)
    · exact absurd (h ▸ image_length) (by decide)
    · exact absurd h (by decide +kernel)

theorem calBlock_head : slice calBlock 0 508 = zeros_ 508 := by
  unfold slice calBlock; rw [List.drop_zero]; exact List.take_left' List.length_replicate

theorem calBlock_length : calBlock.length = 512 := by
  unfold calBlock zeros_; rw [List.length_append, List.length_replicate, le_length]

theorem calBlock_crc : rdU calBlock 508 4 = (crc32c (slice calBlock 0 508)).toNat := by
  rw [calBlock_head]
  refine rdU_le _ _ _ ?_
  unfold slice
  rw [show calBlock = zeros_ 508 ++ (le 4 (crc32c (zeros_ 508)).toNat ++ []) by unfold calBlock; rw [List.append_nil]]
  exact drop_take _ _ _ _ _ List.length_replicate (le_length ..)

theorem image_paged (s : State) (h : s.site.pages = [(12288, { owner := .module, payload := image })]) :
    s.stageImage { cmd := 1, pages := [12288], length := image.length, own := 0 } = image := by
  show (s.pageBytes [12288]).take image.length = image
  have e : s.pageBytes [12288] = padTo 4096 image := by
    simp only [State.pageBytes, State.page, h, List.flatMap_cons, List.flatMap_nil, List.append_nil]
    rfl
  rw [e, padTo, List.take_take, image_length]
  exact List.take_left' image_length

theorem image_staged (s : State) (h : s.site.pages = [(12288, { owner := .module, payload := image })])
    (h0 : passes234 s.cfg.res0 = false) (h1 : passes234 s.cfg.res1 = false) :
    s.stageCheck { cmd := 1, pages := [12288], length := image.length, own := 0 } .pass (requiredOk .pass) = 0 := by
  simp only [State.stageCheck, image_paged s h, image_good, h0, h1]
  rfl

/-- A ledger whose every slot holds a waiting command. -/
def fullLedger : Tab LedgerEntry := (upFrom 0 1024).map (fun k => (k, { id := BitVec.ofNat 32 (k + 1), state := .pending }))

theorem tget_upFrom {α : Type} [Inhabited α] (f : Nat → α) (n m k : Nat) (h : m ≤ k) (g : k < m + n) :
    tget ((upFrom m n).map (fun i => (i, f i))) k = f k := by
  induction n generalizing m with
  | zero => omega
  | succ n ih =>
    simp only [upFrom, List.map_cons, tget]
    split
    · next e => rw [e]
    · next e => exact ih (m + 1) (by omega) (by omega)

theorem full_slot (s : State) (h : s.site.ledger = fullLedger) : s.newSlot = none := by
  have a : (upFrom 0 1024).find? (fun k => decide ((tget s.site.ledger k).state = .empty)) = none := by
    simp only [List.find?_eq_none, decide_eq_true_eq]
    intro k hk e
    have hk := ((upFrom_nodup 0 1024).2 k).1 hk
    rw [h, fullLedger, tget_upFrom _ _ _ _ (Nat.zero_le k) (by omega)] at e
    cases e
  have b : s.site.ledger.filter (fun e => e.2.ended) = [] := by
    simp only [List.filter_eq_nil_iff, h, fullLedger, List.mem_map]
    rintro _ ⟨k, _, rfl⟩; simp [LedgerEntry.ended]
  unfold State.newSlot; rw [a]; simp only [b]

theorem and5 {a b c d e f : Prop} (h : a ∧ b ∧ c ∧ d ∧ e) (g : f) : a ∧ b ∧ c ∧ d ∧ e ∧ f :=
  ⟨h.1, h.2.1, h.2.2.1, h.2.2.2.1, h.2.2.2.2, g⟩

theorem due_of {s : State} {id : Word} {code : Nat} {e : LedgerEntry}
    (h : twf s.site.ledger = true ∧ s.entry id = some e ∧ e.state = .pending ∧ e.code = code ∧ e.effective = s.now ∧
      s.inOrder e = true ∧ roleAtLeast e.role (acceptRow e.code e.body).role = true ∧ s.admits e = true) :
    Due s id code e :=
  ⟨h.1, h.2.1, h.2.2.1, h.2.2.2.1, h.2.2.2.2.1, h.2.2.2.2.2.1, h.2.2.2.2.2.2.1, h.2.2.2.2.2.2.2⟩

/-- A datagram of a type with a payload and a sequence number, with its length, digest and tag, in session 0. -/
def said (type : Nat) (payload : Bytes) (seq : Nat := 0) : SiteIn :=
  let m : SiteIn := { type := type, seq := seq, len := payload.length, digest := crc32c payload }
  { m with tag := siteTag (tagKey [] 0 m.roleBits 0) (m.head ++ payload) }

theorem said_tag (s : State) (type : Nat) (payload : Bytes) (seq : Nat) (h : s.site.session = 0) (g : s.site.prk = []) :
    s.tagOk (said type payload seq) payload = true := by
  unfold State.tagOk
  rw [h, g]
  cases s.site.certRole <;> simp only [Bool.and_eq_true, decide_eq_true_eq] <;> exact ⟨⟨rfl, rfl⟩, rfl⟩

theorem said_digest (type : Nat) (payload : Bytes) (seq : Nat) : (said type payload seq).digestOk payload = true := by
  simp [SiteIn.digestOk, said]

theorem hears_of {s : State} {type seq : Nat} {payload : Bytes}
    (h : s.siteServed = true ∧ payload.length ≤ 1400 ∧ s.site.sstate ≠ .none ∧ s.site.session = 0 ∧ s.site.prk = [] ∧
      s.site.fresh seq = true) : Hears s (said type payload seq) type payload :=
  ⟨h.1, by simp [SiteIn.formOk, said, h.2.1], rfl, said_digest .., h.2.2.1, h.2.2.2.1.symm,
    said_tag s _ _ _ h.2.2.2.1 h.2.2.2.2.1, h.2.2.2.2.2⟩

/-- A `SESSION_OPEN` datagram: its tag is zeros. -/
def saidOpen (o : OpenIn) : SiteIn := { said 1 o.bytes with tag := List.replicate 16 0 }

theorem saidOpen_digest (o : OpenIn) : (saidOpen o).digestOk o.bytes = true := by
  simp [SiteIn.digestOk, saidOpen, said]

theorem open_of {s : State} {o : OpenIn} {q : Prop} (h : s.siteServed = true ∧ o.bytes.length ≤ 1400 ∧ o.ver = 1) (g : q) :
    s.siteServed = true ∧ (saidOpen o).formOk o.bytes = true ∧ (saidOpen o).type = 1 ∧
      (saidOpen o).digestOk o.bytes = true ∧ o.ver = 1 ∧ (saidOpen o).tag = List.replicate 16 0 ∧ q :=
  ⟨h.1, by simp [SiteIn.formOk, saidOpen, said, h.2.1], rfl, saidOpen_digest o, h.2.2, rfl, g⟩

/-- A frame of the cell link, complete and with its CRC; `g` gives the fields that are not zero. -/
def onLink (type : Nat) (payload : Bytes) (g : LinkHead := {}) : LinkHead := ({ g with type := type }).seal payload

theorem onLink_intact {type : Nat} {payload : Bytes} {g : LinkHead} (h : g.broken = false) :
    (onLink type payload g).intact payload = true := by
  simp [LinkHead.intact, onLink, LinkHead.seal, h]; rfl

theorem fe_of {f : FeSt} {type : Nat} {payload : Bytes} {g : LinkHead}
    (h : f.awake = true ∧ g.broken = false ∧ (onLink type payload g).formOk false = true) :
    FeHears f (onLink type payload g) type payload := ⟨h.1, onLink_intact h.2.1, h.2.2, rfl⟩

theorem answers_of {s : State} {p type : Nat} {payload : Bytes} {g : LinkHead} {x : SecTx}
    (h : (s.lnk p).sec = some x ∧ g.broken = false ∧ (onLink type payload g).formOk true = true ∧
      x.seq = some g.seq) : Answers s p type (onLink type payload g) payload x :=
  ⟨h.1, onLink_intact h.2.1, h.2.2.1, rfl, h.2.2.2⟩

theorem may_of {s : State} {c : Nat} {f : CanFrame} {msg node n : Nat}
    (h : (s.ctl c).state = .run ∧ f.ok = true ∧ f.fd29 = true ∧ f.msg = msg ∧ f.container = s.sys.container ∧
      node ≠ 0 ∧ s.canAccepts node n f = true ∧
      ∀ x ∈ s.bus.seen, s.clockUs < x.1 + 100000 → x.2 ≠ (node, msg, rdU f.payload 2 2)) : CanMayTake s c f msg node n :=
  ⟨h.1, h.2.1, h.2.2.1, h.2.2.2.1, h.2.2.2.2.1, h.2.2.2.2.2.1, h.2.2.2.2.2.2.1, h.2.2.2.2.2.2.2⟩

theorem test_needs_StepRunsTheFrontCommand :
    (∃ (c : Instr) (rest : List Instr) (s : State), s.pending = c :: rest) ∧
    (∃ (s : State), s.pending = []) :=
  ⟨⟨.frameStrobe, [], { State.reset with pending := [.frameStrobe] }, by decide⟩,
   ⟨State.reset, by decide⟩⟩

theorem test_needs_CellCommandsKeepTheRest :
    ∃ (i : Instr) (s t : State), familyOf i = .cells ∧ exec i s = .next t :=
  ⟨(.feUpload 0), State.reset, _, rfl, rfl⟩

theorem test_needs_ModelCommandsKeepTheRest :
    ∃ (i : Instr) (s t : State), familyOf i = .models ∧ exec i s = .next t :=
  ⟨(.envelope), State.reset, _, rfl, rfl⟩

theorem test_needs_StringCommandsKeepTheRest :
    ∃ (i : Instr) (s t : State), familyOf i = .strings ∧ exec i s = .next t :=
  ⟨(.bitstreamStuck 0 0 0), State.reset, _, rfl, rfl⟩

theorem test_needs_RunningCommandsKeepTheRest :
    ∃ (i : Instr) (s t : State), familyOf i = .running ∧ exec i s = .next t :=
  ⟨(.frameStrobe), State.reset, _, rfl, rfl⟩

theorem test_needs_PairCommandsKeepTheRest :
    ∃ (i : Instr) (s t : State), familyOf i = .pairing ∧ exec i s = .next t :=
  ⟨(.assignSend), State.reset, _, rfl, rfl⟩

theorem test_needs_OutsideCommandsKeepTheRest :
    ∃ (i : Instr) (s t : State), familyOf i = .outside ∧ exec i s = .next t :=
  ⟨(.windowHandoverSlot), State.reset, _, rfl, rfl⟩

theorem test_needs_StoreCommandsKeepTheRest :
    ∃ (i : Instr) (s t : State), familyOf i = .store ∧ exec i s = .next t :=
  ⟨(.healthRecordWrite 0), State.reset, _, rfl, rfl⟩

theorem test_needs_TablesAndJournalsStayWellFormed :
    ∃ (s t : State), step s = .next t :=
  ⟨{ State.reset with pending := [.frameStrobe] }, _, rfl⟩

theorem test_needs_WhatIsWrittenOnceStands :
    ∃ (s t : State), step s = .next t :=
  ⟨{ State.reset with pending := [.frameStrobe] }, _, rfl⟩

theorem test_needs_SafeLatchStandsUntilReset :
    ∃ (s t : State), step s = .next t ∧ s.jnl.safeLatch ≠ 0 ∧ (∀ id rest,
      s.pending ≠ .modeSafeReset id :: rest) :=
  ⟨{ State.reset with pending := [.frameStrobe], jnl.safeLatch := 2 }, _, rfl, by decide, by intros; simp⟩

theorem test_needs_SafeIsLeftOnlyByAStart :
    ∃ (s t : State), step s = .next t :=
  ⟨{ State.reset with pending := [.restartAtPulse999], mode.mode := .safe }, _, rfl⟩

theorem test_needs_SafeLatchGoverns :
    ∃ (x : LoadIn) (s : State), s.mode.mode = .load ∧ s.runtimeRuns = true ∧ s.mode.configHold = false ∧
      s.stateUnfit x = false ∧ s.jnl.safeLatch ≠ 0 ∧
      (judgeImage s.cfg.slot0 x.chain0 (requiredOk x.cred0) = 0 ∨ judgeImage s.cfg.slot1 x.chain1 (requiredOk x.cred1) = 0) :=
  ⟨{}, { State.reset with mode.mode := .load, cfg.slot0 := image, jnl.safeLatch := 2 },
      and5 (by decide) (.inl image_good)⟩

theorem test_needs_ReplayWindow :
    (∃ (u : SiteSt), u.seqTop = none ∧ u.seqSeen = []) ∧
    (∃ (m : SiteIn) (id : Word) (c : BitVec 16) (b : Bytes) (s : State), s.siteServed = true ∧
      m.formOk (commandBytes id c.toNat b) = true ∧ m.type = 0x10 ∧
      m.digestOk (commandBytes id c.toNat b) = true ∧ s.site.sstate ≠ .none ∧ m.session = s.site.session ∧
      s.tagOk m (commandBytes id c.toNat b) = true ∧ s.site.fresh m.seq = false) :=
  ⟨⟨{}, by decide, by decide⟩,
   ⟨(said 0x10 (commandBytes 7 0 []) 4), 7, 0, [],
      { State.reset with mode.mode := .idle, site.sstate := .opened, site.seqTop := some 68 }, by decide,
      by decide, rfl, said_digest .., by decide, rfl, said_tag _ _ _ _ rfl rfl, by decide⟩⟩

theorem test_needs_LedgerAtTheEndOfLoad :
    ∃ (s : State), (s.prot.loaded = true ∨ ∀ i, (tget s.prot.ilk i).bad = false) :=
  ⟨State.reset, .inr (fun _ => rfl)⟩

theorem test_needs_StandbyLeavesWithoutItsInputs :
    (∃ (s : State), s.pair.state = some .standby ∧ s.pair.assignedTo.getD 0 < s.now) ∧
    (∃ (p : Pulse) (s : State), s.pair.state = some .standby ∧ 815 ≤ p.val ∧ (∀ x, s.pair.peer = some x →
      x.frame ≠ s.now)) ∧
    (∃ (s : State), s.pair.state = some .active) :=
  ⟨⟨{ State.reset with pair.state := some .standby, time.frame := 1 }, by decide⟩,
   ⟨815, { State.reset with pair.state := some .standby, pair.peer := some { frame := 1 } }, by decide, by decide,
      fun _ h => by cases h; decide⟩,
   ⟨{ State.reset with pair.state := some .active }, by decide⟩⟩

theorem test_needs_StatusStreamValidity :
    (∃ (l : LineWord), readStat l = none) ∧
    (∃ (k : StrIx) (l : LineWord) (x : StatWord) (s : State), readStat l = some x ∧
      4 < ((s.pp k.val).word.pseq + 256 - x.eseq) % 256) ∧
    (∃ (k : StrIx) (l : LineWord) (x : StatWord) (s : State), readStat l = some x ∧
      ((s.pp k.val).word.pseq + 256 - x.eseq) % 256 ≤ 4) ∧
    (∃ (k : StrIx) (s : State), (s.pp k.val).statInvalid = false) ∧
    (∃ (k : StrIx) (s : State), (s.pp k.val).statInvalid = true) :=
  ⟨⟨0, by decide +kernel⟩,
   ⟨15, (StatWord.line { eseq := 251 }), { eseq := 251 }, State.reset, by decide +kernel⟩,
   ⟨15, (StatWord.line { eseq := 252 }), { eseq := 252 }, State.reset, by decide +kernel⟩,
   ⟨15, State.reset, by decide⟩,
   ⟨15, { State.reset with power.port := [(15, { statInvalid := true })] }, by decide⟩⟩

theorem test_needs_MemoryCodes :
    (∃ (i j : Fin 72), i ≠ j) ∧
    (∃ (p : CodedPage) (n : Nat), p.data.length = 4096 ∧ n < 4096 ∧ p.check = pageCheck p.data) :=
  ⟨⟨0, 71, by decide⟩,
   ⟨{ data := List.replicate 4096 0, check := pageCheck (List.replicate 4096 0), written := true }, 4095,
      List.length_replicate, by decide, rfl⟩⟩

theorem test_needs_FrontEndSamplingCompletes :
    (∃ (port : PortIx) (x : Slot) (h : LinkHead) (delay : Nat) (conv : Bool) (s : State),
      FeHears (s.fee port.val) h 1 (sampleBytes delay conv) ∧ (s.feHeard port.val 10 x h).sampled = none) ∧
    (∃ (port : PortIx) (x : Slot) (h : LinkHead) (mask : BitVec 64) (pat : Fin 3) (sleep : Bool) (s : State),
      FeHears (s.fee port.val) h 2 (controlBytes mask pat.val sleep []) ∧
      (s.feHeard port.val 20 x h).ofFrame h = true ∧
      (s.feHeard port.val 20 x h).auth (s.atP 20).clockUs = some x) ∧
    (∃ (port : PortIx) (s : State), (s.fee port.val).awake = true ∧
      ((s.fee port.val).roll s.time.ticks).ctrlSeen = false) ∧
    (∃ (port : PortIx) (n : Nat) (s : State), (s.fee port.val).awake = true ∧
      ((s.fee port.val).roll s.time.ticks).sampled = some n) ∧
    (∃ (p : Pulse) (port : PortIx) (x : Slot) (h : LinkHead) (s : State), FeHears (s.fee port.val) h 3 [] ∧
      p.val ≤ 218 ∧ (s.feHeard port.val p.val x h).sampled = some h.frame ∧
      ((s.feHeard port.val p.val x h).side x).repeated = false) ∧
    (∃ (p : Pulse) (port : PortIx) (x : Slot) (c : Nat) (s : State), ((s.fee port.val).side x).claimAt = some c ∧
      c + 10000 ≤ (s.atP p.val).clockUs) :=
  ⟨⟨127, .b, (onLink 0x01 (sampleBytes 65535 true)), 65535, true, State.reset, fe_of (by decide), by decide⟩,
   ⟨127, .a, (onLink 0x02 (controlBytes 1 0 true []) { role := 1 }), 1, 0, true, State.reset, fe_of (by decide),
      by decide⟩,
   ⟨127, State.reset, by decide⟩,
   ⟨127, 0, { State.reset with fe := [(127, { sampled := some 0 })] }, by decide⟩,
   ⟨218, 127, .b, (onLink 0x03 []), { State.reset with fe := [(127, { sampled := some 0 })] }, fe_of (by decide),
      by decide⟩,
   ⟨0, 127, .b, 0, { State.reset with fe := [(127, { b := { claimAt := some 0 } })], time.ticks := 10 },
      by decide⟩⟩

theorem test_needs_FrontEndRegistersComplete :
    (∃ (port : PortIx) (h : LinkHead) (addr : Nat) (count : Fin 33) (s : State),
      FeHears (s.fee port.val) h 0x20 (regBytes addr count.val) ∧
      (upFrom addr count.val).all feImplemented = true) ∧
      (∃ (p : Pulse) (port : PortIx) (x : Slot) (h : LinkHead) (addr : Nat) (d : List Word) (fw : Verdict) (f : FeSt) (s : State),
      FeHears (s.fee port.val) h 0x21 (regWriteBytes addr d) ∧ s.feHeard port.val p.val x h = f ∧
      f.auth (s.atP p.val).clockUs = some x ∧ (∀ w ∈ fromAddr addr d, feImplemented w.1 = true ∧
      feReadOnly w.1 = false ∧ f.badValue fw w.1 w.2 = false ∧ (f.wearBusy = true → w.1 ≠ 0x200 ∧ w.1 < 0x400))) ∧
    (∃ (p : Pulse) (port : PortIx) (x : Slot) (h : LinkHead) (crc : Word) (f : FeSt) (s : State),
      FeHears (s.fee port.val) h 0x21 (regWriteBytes 0x200 [crc]) ∧ s.feHeard port.val p.val x h = f ∧
      f.auth (s.atP p.val).clockUs = some x ∧ f.wearBusy = false ∧ crc = crc32c f.shadowBytes) ∧
    (∃ (port : PortIx) (s : State), (s.fee port.val).wearBusy = true ∧
      (s.fee port.val).sleepAfterCommit = false) ∧
    (∃ (p : Pulse) (port : PortIx) (x : Slot) (h : LinkHead) (v : Word) (f : FeSt) (s : State),
      FeHears (s.fee port.val) h 0x21 (regWriteBytes 0x11 [v]) ∧ s.feHeard port.val p.val x h = f ∧
      f.auth (s.atP p.val).clockUs = some x ∧ v.toNat < 64) ∧
    (∃ (p : Pulse) (port : PortIx) (x : Slot) (h : LinkHead) (sel : Fin 2) (s : State),
      FeHears (s.fee port.val) h 0x21 (regWriteBytes 0x0B [BitVec.ofNat 32 (0x5EED0002 + sel.val)]) ∧
      (s.feHeard port.val p.val x h).auth (s.atP p.val).clockUs = some x) :=
  ⟨⟨127, (onLink 0x20 (regBytes 0 1)), 0, 1, State.reset, fe_of (by decide), by decide⟩,
   ⟨0, 127, .a, (onLink 0x21 (regWriteBytes 0x20 [0xFFFFFF]) { role := 1 }), 0x20, [0xFFFFFF], .pass, _,
      State.reset, fe_of (by decide), rfl, by decide⟩,
   ⟨0, 127, .a, (onLink 0x21 (regWriteBytes 0x200 [crc32c (FeSt.shadowBytes {})]) { role := 1 }),
      (crc32c (FeSt.shadowBytes {})), _, State.reset, fe_of (by decide), rfl, by decide, by decide,
      shadow_congr rfl⟩,
   ⟨127, { State.reset with fe := [(127, { wearBusy := true })] }, by decide⟩,
   ⟨0, 127, .a, (onLink 0x21 (regWriteBytes 0x11 [63]) { role := 1 }), 63, _, State.reset, fe_of (by decide), rfl,
      by decide⟩,
   ⟨0, 127, .a, (onLink 0x21 (regWriteBytes 0x0B [BitVec.ofNat 32 (0x5EED0002 + (1 : Fin 2).val)]) { role := 1 }),
      1, State.reset, fe_of (by decide), by decide⟩⟩

theorem test_needs_FrontEndSleepAndFirmwareComplete :
      (∃ (p : Pulse) (port : PortIx) (x : Slot) (h : LinkHead) (bank blockNo : Nat) (data : Bytes) (f : FeSt) (s : State),
      FeHears (s.fee port.val) h 0x30 (fwBlockBytes bank blockNo data) ∧ s.feHeard port.val p.val x h = f ∧
      f.auth (s.atP p.val).clockUs = some x ∧ f.fwBuf.length < 4 ∧ bank ≤ 1 ∧ bank ≠ f.runBank ∧
      blockNo < f.fwSize) ∧
    (∃ (port : PortIx) (k b : Nat) (d : Bytes) (l : List (Nat × Nat × Bytes)) (s : State),
      (s.fee port.val).fwBuf = (k, b, d) :: l ∧ (s.fee port.val).awake = true) ∧
    (∃ (port : PortIx) (h : LinkHead) (s : State), FeHears (s.fee port.val) h 0x40 []) ∧
    (∃ (port : PortIx) (s : State), (s.fee port.val).awake = true ∧ (s.fee port.val).sleepDue = true ∧
      (s.fee port.val).frameT = s.time.ticks ∧ (s.fee port.val).restartDue = none ∧
      (s.fee port.val).wearBusy = false) ∧
    (∃ (p : Pulse) (port : PortIx) (s : State), (s.fee port.val).awake = true ∧
      (s.fee port.val).heardAt + 200000 ≤ (s.atP p.val).clockUs ∧ (s.fee port.val).wearBusy = false) ∧
    (∃ (p : Pulse) (port : PortIx) (e : Nat) (s : State), (s.fee port.val).on = true ∧
      (s.fee port.val).asleep = true ∧ (s.fee port.val).sleepFor (s.atP p.val).clockUs = e ∧ sleepSlot e = true) ∧
    (∃ (port : PortIx) (s : State), (s.fee port.val).on = true ∧ (s.fee port.val).asleep = true ∧
      (s.fee port.val).toneDue = true) ∧
    (∃ (port : PortIx) (s : State), (s.fee port.val).on = true ∧ (s.fee port.val).asleep = true) :=
  ⟨⟨0, 127, .a, (onLink 0x30 (fwBlockBytes 1 2047 []) { role := 1 }), 1, 2047, [], _,
      { State.reset with fe := [(127, { fwBuf := [(1, 0, []), (1, 1, []), (1, 2, [])] })] },
      fe_of (by decide +kernel), rfl, by decide⟩,
   ⟨127, 0, 3, [1], [], { State.reset with fe := [(127, { fwBuf := [(0, 3, [1])] })] }, by decide⟩,
   ⟨127, (onLink 0x40 []), State.reset, fe_of (by decide)⟩,
   ⟨127, { State.reset with fe := [(127, { sleepDue := true })] }, by decide⟩,
   ⟨0, 127, { State.reset with time.ticks := 200 }, by decide⟩,
   ⟨0, 127, 90000, { State.reset with fe := [(127, { asleep := true })], time.ticks := 90 }, by decide⟩,
   ⟨127, { State.reset with fe := [(127, { asleep := true, toneDue := true })] }, by decide⟩,
   ⟨127, { State.reset with fe := [(127, { asleep := true })] }, by decide⟩⟩

theorem test_needs_LinkContextCommandsComplete :
    (∃ (p : PortIx) (s : State), (s.lnk p.val).state = .run ∧ 5 ≤ (s.lnk p.val).missRun) ∧
    (∃ (p : PortIx) (s : State), (s.lnk p.val).state = .lost ∧ s.linkCfg.recoverFrames ≤ (s.lnk p.val).validRun) ∧
    (∃ (p : PortIx) (w : Nat) (s : State), (s.lnk p.val).wakeFrame = some w ∧ (s.lnk p.val).state = .wake ∧
      (s.lnk p.val).validNow = false ∧ w + 100 ≤ s.time.ticks) ∧
    (∃ (p : PortIx) (s : State), (s.lnk p.val).state = .lost ∧ 200 ≤ (s.lnk p.val).missRun ∧
      ((s.lnk p.val).missRun - 200) % 1000 = 0) ∧
    (∃ (p : PortIx) (s : State), (s.lnk p.val).state = .align ∧ (s.lnk p.val).echoRun = true ∧
      8 ≤ (s.lnk p.val).echoTried) ∧
    (∃ (p : PortIx) (s : State), (s.lnk p.val).state = .run ∧ (s.lnk p.val).echoRun = false ∧
      (s.lnk p.val).echoFrame + 1000 * s.linkCfg.echoInterval ≤ s.time.ticks) ∧
    (∃ s : State, s.mode.mode = .rest ∧ (s.now + 2) % 60000 = 0 ∧ s.mode.leavingRest = false) ∧
    (∃ s : State, s.mode.mode ≠ .rest) :=
  ⟨⟨127, { State.reset with link := [(127, { state := .run, missRun := 5 })] }, by decide⟩,
   ⟨127, { State.reset with link := [(127, { state := .lost, validRun := 10 })] }, by decide⟩,
   ⟨127, 0, { State.reset with link := [(127, { state := .wake, wakeFrame := some 0 })], time.ticks := 100 },
      by decide⟩,
   ⟨127, { State.reset with link := [(127, { state := .lost, missRun := 200 })] }, by decide⟩,
   ⟨127, { State.reset with link := [(127, { state := .align, echoRun := true, echoTried := 8 })] }, by decide⟩,
   ⟨127, { State.reset with link := [(127, { state := .run })], time.ticks := 10000 }, by decide⟩,
   ⟨{ State.reset with mode.mode := .rest, time.frame := 59998 }, by decide⟩,
   ⟨{ State.reset with mode.mode := .idle }, by decide⟩⟩

theorem test_needs_LinkTransferCommandsComplete :
    (∃ (n : Pulse) (p : PortIx) (u : UpFrame) (s : State), (s.lnk p.val).state = .run ∧
      (s.lnk p.val).validNow = false ∧ s.fitted p.val = true ∧
      upCheck s.now n.val s.sys.slot (s.lnk p.val).convertSent u = 0) ∧
    (∃ (p : PortIx) (u : UpFrame) (s : State), (s.lnk p.val).state = .run ∧ s.fitted p.val = true ∧
      u.head.intact u.data.bytes = false) ∧
    (∃ (p : PortIx) (s : State), s.linkCfg.repeatEn = true ∧ (s.lnk p.val).state = .run ∧
      (s.lnk p.val).sampled = true ∧ (s.lnk p.val).validNow = false ∧ (s.lnk p.val).repeated = false) ∧
    (∃ (p : PortIx) (h : LinkHead) (x : SecTx) (s : State), Answers s p.val 0x41 h [] x ∧ x.req = .echo ∧
      (s.lnk p.val).echoTried + 1 < 8) ∧
    (∃ (p : PortIx) (h : LinkHead) (x : SecTx) (ticks lat : Nat) (s : State), Answers s p.val 0x41 h [] x ∧
      x.req = .echo ∧ 8 ≤ (s.lnk p.val).echoTried + 1 ∧ (s.lnk p.val).state = .align ∧
      latencyOf ((s.lnk p.val).echoes ++ [5 * (ticks : Int) - 10400]) = some lat) ∧
    (∃ (p : PortIx) (h : LinkHead) (x : SecTx) (a b c : Word) (s : State),
      Answers s p.val 0x22 h (regDataBytes 0 0x0010 3 [a, b, c]) x ∧ x.req = .regRead 0x0010 3 ∧
      x.by_ = .refresh) ∧
    (∃ (p : PortIx) (h : LinkHead) (x : SecTx) (bank blockNo : Nat) (d : Bytes) (j : CfeFwJob) (s : State),
      Answers s p.val 0x31 h (fwAckBytes 0 blockNo) x ∧ x.req = .fwBlock bank blockNo d ∧ s.upd.cfe = some j ∧
      (s.lnk p.val).secQueue.any (fun y => decide (y.by_ = .fwBlock)) = true) ∧
    (∃ (p : PortIx) (x : SecTx) (s : State), (s.lnk p.val).sec = some x ∧ x.tries < 4) :=
  ⟨⟨400, 127, { head := onLink 0x10 (UpData.bytes {}) { up := true } },
      { State.reset with
        link := [(127, { state := .run, sampled := true, convert := false })], sys.stringMask := 0x8000,
        sys.ports := [(127, { cells := 1 })] }, by decide +kernel⟩,
   ⟨127, {},
      { State.reset with
        link := [(127, { state := .run })], sys.stringMask := 0x8000, sys.ports := [(127, { cells := 1 })] },
      by decide +kernel⟩,
   ⟨127, { State.reset with link := [(127, { state := .run, sampled := true })] }, by decide⟩,
   ⟨127, (onLink 0x41 [] { up := true, seq := 7 }), { seq := some 7 },
      { State.reset with link := [(127, { sec := some { seq := some 7 }, echoTried := 6 })] },
      answers_of (by decide), by decide⟩,
   ⟨127, (onLink 0x41 [] { up := true, seq := 7 }), { seq := some 7 }, 2080, 0,
      { State.reset with

        link := [(127, { state := .align, sec := some { seq := some 7 }, echoTried := 7, echoes := List.replicate 7 0 })] },
        answers_of (by decide), by decide⟩,
   ⟨127, (onLink 0x22 (regDataBytes 0 0x0010 3 [1, 2, 3]) { up := true, seq := 7 }),
      { req := .regRead 0x0010 3, by_ := .refresh, seq := some 7 }, 1, 2, 3,
      { State.reset with
        link := [(127, { sec := some { req := .regRead 0x0010 3, by_ := .refresh, seq := some 7 } })] },
      answers_of (by decide), by decide⟩,
   ⟨127, (onLink 0x31 (fwAckBytes 0 2) { up := true, seq := 7 }),
      { req := .fwBlock 1 2 [], by_ := .fwBlock, seq := some 7 }, 1, 2, [], {},
      { State.reset with

        link := [(127, { sec := some { req := .fwBlock 1 2 [], by_ := .fwBlock, seq := some 7 }, secQueue := [{ by_ := .fwBlock }] })],
        upd.cfe := some {} }, answers_of (by decide), by decide⟩,
   ⟨127, { tries := 3 }, { State.reset with link := [(127, { sec := some { tries := 3 } })] }, by decide⟩⟩

theorem test_needs_OpenWireTestCommandsComplete :
    (∃ (p : PortIx) (s : State), s.fitted p.val = true ∧ (s.lnk p.val).state = .run ∧
      s.testRuns (strOfPort p.val) = false ∧ s.slotNow p.val = true ∧ s.rotationMay (strOfPort p.val) = true) ∧
    (∃ (p : PortIx) (f n : Nat) (w : TestWhy) (s : State), (tget s.meas.fe p.val).retryAt = some (f, n, w) ∧
      f ≤ s.now ∧ s.testRuns (strOfPort p.val) = false ∧ (s.lnk p.val).state = .run ∧ (w = .rotation →
      s.rotationMay (strOfPort p.val) = true)) ∧
    (∃ (p : PortIx) (s : State), (tget s.meas.fe p.val).blkTestDue = true ∧ (s.lnk p.val).state = .run ∧
      s.testRuns (strOfPort p.val) = false) ∧
    (∃ (p : PortIx) (w : OwTest) (s : State), (tget s.meas.fe p.val).test = some w ∧ w.start + 2 ≤ s.now ∧
      w.got ≠ 7 ∧ w.attempt < 3) ∧
    (∃ (p : PortIx) (w : OwTest) (s : State), (tget s.meas.fe p.val).test = some w ∧ w.start + 2 ≤ s.now ∧
      s.voidCause w = 0 ∧ w.why ≠ .survey) :=
  ⟨⟨127,
      { State.reset with
        sys.stringMask := 0x8000, sys.ports := [(127, { cells := 1 })], link := [(127, { state := .run })],
        mode.str := [(15, { state := .closed })], mode.mode := .idle, time.frame := 8990 }, by decide⟩,
   ⟨127, 0, 2, .survey,
      { State.reset with
        meas.fe := [(127, { retryAt := some (0, 2, .survey) })], link := [(127, { state := .run })] }, by decide⟩,
   ⟨127, { State.reset with meas.fe := [(127, { blkTestDue := true })], link := [(127, { state := .run })] },
      by decide⟩,
   ⟨127, { attempt := 2 },
      { State.reset with meas.fe := [(127, { test := some { attempt := 2 } })], time.frame := 2 }, by decide⟩,
   ⟨127, { why := .block, got := 7, active := 6 },
      { State.reset with
        meas.fe := [(127, { test := some { why := .block, got := 7, active := 6 } })], time.frame := 2 },
      by decide⟩⟩

theorem test_needs_MeasurementFaultCommandsComplete :
    (∃ (q : PortIx) (s : State), 10 ≤ (tget s.meas.fe q.val).blkFail ∧ (tget s.meas.fe q.val).blk = false) ∧
    (∃ (q : PortIx) (s : State), 10 ≤ (tget s.meas.fe q.val).blkPass ∧ (tget s.meas.fe q.val).blk = true) ∧
    (∃ (k : StrIx) (s : State), 100 ≤ (tget s.meas.str k.val).sumFail ∧
      (tget s.meas.str k.val).sumFault = false) ∧
    (∃ (k : StrIx) (f : Nat) (s : State), (tget s.meas.str k.val).wireDeadline = some f ∧ f ≤ s.now) ∧
    (∃ (q : PortIx) (i : Fin 16) (s : State),
      2 ≤ (tget s.th (thIx q.val i.val)).badRun ∨ 2 ≤ (tget s.mkTh (thIx q.val i.val)).badRun ∧
      (tget s.th (thIx q.val i.val)).broken = false ∧ has (s.thOn q.val) i.val = true) ∧
    (∃ (q : PortIx) (i : Fin 16) (f : Nat) (s : State), (tget s.th (thIx q.val i.val)).disagreeFrom = some f ∧
      (tget s.th (thIx q.val i.val)).broken = false ∧ f + 1000 * s.meas.cfg.thPersist ≤ s.now) ∧
    (∃ (q : PortIx) (i : Fin 16) (f : Nat) (s : State), (tget s.th (thIx q.val i.val)).goodFrom = some f ∧
      (tget s.th (thIx q.val i.val)).broken = true ∧ f + 60000 ≤ s.now) ∧
    (∃ (q : PortIx) (i : Fin 16) (s : State), (tget s.mkTh (thIx q.val i.val)).restoreAsked = true ∧
      (tget s.mkTh (thIx q.val i.val)).badRun = 0 ∧ (tget s.mkTh (thIx q.val i.val)).lastBad + 60000 ≤ s.now) :=
  ⟨⟨127, { State.reset with meas.fe := [(127, { blkFail := 10 })] }, by decide⟩,
   ⟨127, { State.reset with meas.fe := [(127, { blkPass := 10, blk := true })] }, by decide⟩,
   ⟨15, { State.reset with meas.str := [(15, { sumFail := 100 })] }, by decide⟩,
   ⟨15, 5, { State.reset with meas.str := [(15, { wireDeadline := some 5 })], time.frame := 5 }, by decide⟩,
   ⟨127, 15,
      { State.reset with
        sys.stringMask := 0x8000, sys.ports := [(127, { thMask := 0x8000 })], th := [(2047, { badRun := 2 })] },
      by decide⟩,
   ⟨127, 15, 0, { State.reset with th := [(2047, { disagreeFrom := some 0 })], time.frame := 10000 }, by decide⟩,
   ⟨127, 15, 0, { State.reset with th := [(2047, { goodFrom := some 0, broken := true })], time.frame := 60000 },
      by decide⟩,
   ⟨127, 15, { State.reset with mkTh := [(2047, { restoreAsked := true })], time.frame := 60000 }, by decide⟩⟩

theorem test_needs_EstimationCommandsComplete :
    (∃ s : State, s.now % 60000 = 0 ∧ s.site.history.length < 10080) ∧
    (∃ s : State, s.now % 60000 = 0 ∧ 10080 ≤ s.site.history.length) ∧
    (∃ (s : State), s.est.passDone = false ∧ s.runtimeRuns = true ∧ s.mode.mode ≠ .load) ∧
    (∃ (k : StrIx) (c : Nat) (s : State), (tget s.est.str k.val).request = some c ∧ s.requestCause k.val ≠ 0 ∧
      (tget s.est.str k.val).requestAt + 3600000 * s.est.cfg.reqRepeat ≤ s.now) ∧
    (∃ (k : StrIx) (q : Excursion) (s : State), (tget s.est.str k.val).excursion = some q ∧ q.end_ ≤ s.now) ∧
    (∃ (id : Word) (e : LedgerEntry) (s : State), Due s id 0x0701 e ∧ e.body.length = 6 ∧ rdU e.body 3 1 = 0 ∧
      (rdU e.body 2 1 = 1 ∨ rdU e.body 2 1 = 2) ∧ 10 ≤ rdU e.body 4 2 ∧ rdU e.body 4 2 ≤ 1440 ∧
      namedIn e.mask ≠ [] ∧ (∀ k ∈ namedIn e.mask, s.installed k = true ∧ (s.str k).state = .closed)) ∧
    (∃ (k : StrIx) (s : State), 60000 * s.est.cfg.restMin ≤ (tget s.est.str k.val).quiet ∧
      s.installed k.val = true) :=
  ⟨⟨{ State.reset with time.frame := 60000 }, by decide⟩,
   ⟨{ State.reset with time.frame := 60000, site.history := List.replicate 10080 (0, [], []) }, by decide,
      Nat.le_of_eq List.length_replicate.symm⟩,
   ⟨{ State.reset with mode.mode := .idle }, by decide⟩,
   ⟨15, 3,
      { State.reset with
        sys.stringMask := 0x8000, sys.ports := [(127, { cells := 1 })], mode.str := [(15, { state := .opened })],
        est.chem := some {}, aux := [(8128, { init := true })], est.str := [(15, { request := some 3 })],
        time.frame := 86400000 }, by decide⟩,
   ⟨15, { end_ := 5 },
      { State.reset with est.str := [(15, { excursion := some { end_ := 5 } })], time.frame := 5 }, by decide⟩,
   ⟨1, (cmd 0x0701 [0, 0x80, 2, 0, 10, 0] .maker),
      { dueIn .serve (cmd 0x0701 [0, 0x80, 2, 0, 10, 0] .maker) with
        sys.stringMask := 0x8000, mode.str := [(15, { state := .closed })] }, due_of (by decide), by decide⟩,
   ⟨15, { State.reset with sys.stringMask := 0x8000, est.str := [(15, { quiet := 1800000 })] }, by decide⟩⟩

theorem test_needs_ThermalAndHerdCommandsComplete :
    (∃ (p : Pulse) (k : StrIx) (s : State), (s.atP p.val).plateSource k.val = none ∧ s.installed k.val = true) ∧
    (∃ (p : Pulse) (n : Nat) (s : State), s.herd.sweep = some n ∧ p.val < 900 ∧ s.grz.admitted = true ∧
      s.sys.selfTestFail.getLsbD 7 = false) ∧
    (∃ (n : Nat) (s : State), s.herd.sweep = some n ∧ 1000 * (n + 1) + 999 ≤ s.now) :=
  ⟨⟨0, 15, { State.reset with sys.stringMask := 0x8000 }, by decide⟩,
   ⟨0, 0, { State.reset with herd.sweep := some 0, grz.admitted := true }, by decide⟩,
   ⟨0, { State.reset with herd.sweep := some 0, time.frame := 1999 }, by decide⟩⟩

theorem test_needs_EnvelopeCommandsComplete :
    (∃ s : State, s.runtimeRuns = true ∧ s.dsp.done = false) ∧
    (∃ s : State, s.runtimeRuns = true ∧ s.dsp.done = false) ∧
    (∃ s : State, s.runtimeRuns = true ∧ s.dsp.done = false ∧ 10 ≤ s.time.runEnvelope ∧
      s.time.overrunNow.getLsbD 1 = false) ∧
    (∃ (s : State), 200 ≤ s.dsp.excess ∧ s.dsp.reqCurrent = false) ∧
    (∃ (f : Nat) (s : State), s.dsp.clearFrom = some f ∧ f + 1000 ≤ s.now ∧
      (s.dsp.reqCurrent = true ∨ s.dsp.reqZero = true)) ∧
    (∃ (id : Word) (e : LedgerEntry) (s : State), Due s id 0x0C01 e ∧ e.body.length = 8 ∧
      2 ^ 32 ≤ 10 * (rdU e.body 4 4 - rdU e.body 0 4) ∧ rdU e.body 0 4 ≤ 2 ^ 31 ∧ 2 ^ 31 ≤ rdU e.body 4 4) :=
  ⟨⟨{ State.reset with mode.mode := .idle }, by decide⟩,
   ⟨{ State.reset with mode.mode := .idle }, by decide⟩,
   ⟨{ State.reset with mode.mode := .serve, time.runEnvelope := 10 }, by decide⟩,
   ⟨{ State.reset with dsp.excess := 200 }, by decide⟩,
   ⟨0, { State.reset with dsp.clearFrom := some 0, dsp.reqZero := true, time.frame := 1000 }, by decide⟩,
   ⟨1, (cmd 0x0C01 (le 4 0x80000000 ++ le 4 0x9999999A) .maker),
      (dueIn .idle (cmd 0x0C01 (le 4 0x80000000 ++ le 4 0x9999999A) .maker)), due_of (by decide), by decide⟩⟩

theorem test_needs_GrazeCommandsComplete :
    (∃ s : State, s.overran .eland = false) ∧
    (∃ s : State, s.jnl.queue ≠ [] ∧ s.overran .journal = false) ∧
    (∃ (r : Fin 10) (f : Bool) (s : State), has s.grz.railFail r.val ≠ f) ∧
    (∃ (d : Fin 4) (f : Bool) (s : State), s.grz.diodeFail.getLsbD d.val ≠ f) ∧
    (∃ (f : Bool) (s : State), s.grz.baseFail ≠ f) ∧
    (∃ (s : State), 10000 ≤ s.grz.elasticClean ∧ (if 4 ≤ s.grz.rung then 2 else 0) < s.grz.elastic) ∧
    (∃ (p : Pulse) (s : State), s.now % 1000 = 999 ∧ 820 ≤ p.val ∧ p.val ≤ 950 ∧ s.rosterRuns = true) :=
  ⟨⟨State.reset, by decide⟩,
   ⟨{ State.reset with jnl.queue := [(.event, {})] }, by decide⟩,
   ⟨9, true, State.reset, by decide⟩,
   ⟨3, true, State.reset, by decide⟩,
   ⟨true, State.reset, by decide⟩,
   ⟨{ State.reset with grz.elasticClean := 10000, grz.elastic := 1 }, by decide⟩,
   ⟨820, { State.reset with mode.mode := .serve, time.frame := 999 }, by decide⟩⟩

theorem test_needs_PowerPortCommandsComplete :
    (∃ (k : StrIx) (s u : State), u = (s.atP (s.pp k.val).pulse).wordWork k.val ∧ u.psv.powered = true) ∧
    (∃ (s : State), s.psv.powered = false) ∧
    (∃ (l : LineWord) (x : StatWord), readStat l = some x) ∧
    (∃ (l : LineWord), readStat l = none) ∧
    (∃ (k : StrIx) (c : Fin 3) (s : State), ((s.pp k.val).chan c.val).stuck = true ∧
      ((s.pp k.val).chan c.val).invalid = false) ∧
    (∃ (k : StrIx) (c : Fin 3) (s : State), ((s.pp k.val).chan c.val).invalid = true ∧
      1000 ≤ ((s.pp k.val).chan c.val).clean) ∧
    (∃ (k : StrIx) (s : State), 4 ≤ (s.pp k.val).badRun ∧ (s.pp k.val).statInvalid = false) ∧
    (∃ (k : StrIx) (s : State), (s.pp k.val).statInvalid = true ∧ 1000 ≤ (s.pp k.val).goodRun) ∧
    (∃ (k : StrIx) (s : State), 3 ≤ (s.pp k.val).echoBad ∧ (s.pp k.val).echoFault = false) ∧
    (∃ (k : StrIx) (s : State), (s.pp k.val).echoFault = true ∧ 1000 ≤ (s.pp k.val).echoGood) ∧
    (∃ (k : StrIx) (s : State), (s.pp k.val).phase.looping = true ∧ 8 ≤ (s.pp k.val).loop.run ∧
      (s.pp k.val).loop.implausible = false) :=
  ⟨⟨15, State.reset, _, rfl, by decide⟩,
   ⟨{ State.reset with psv.powered := false }, by decide⟩,
   ⟨(StatWord.line { eseq := 9 }), { eseq := 9 }, by decide +kernel⟩,
   ⟨0, by decide +kernel⟩,
   ⟨15, 0, { State.reset with power.port := [(15, { icur := { stuck := true } })] }, by decide⟩,
   ⟨15, 2, { State.reset with power.port := [(15, { vbus := { invalid := true, clean := 1000 } })] }, by decide⟩,
   ⟨15, { State.reset with power.port := [(15, { badRun := 4 })] }, by decide⟩,
   ⟨15, { State.reset with power.port := [(15, { statInvalid := true, goodRun := 1000 })] }, by decide⟩,
   ⟨15, { State.reset with power.port := [(15, { echoBad := 3 })] }, by decide⟩,
   ⟨15, { State.reset with power.port := [(15, { echoFault := true, echoGood := 1000 })] }, by decide⟩,
   ⟨15, { State.reset with power.port := [(15, { phase := .loop, loop := { run := 8 } })] }, by decide⟩⟩

theorem test_needs_ConnectCommandsComplete :
    (∃ (k : StrIx) (s : State), s.connecting k.val = true ∧ (s.pp k.val).phase = .contactors ∧
      10000 * s.power.cfg.kClose ≤ (s.pp k.val).phasePulses) ∧
    (∃ (k : StrIx) (s : State), s.connecting k.val = true ∧ (s.pp k.val).phase = .settle ∧
      20000 ≤ (s.pp k.val).phasePulses) ∧
    (∃ (k : StrIx) (s : State), (s.pp k.val).phase = .loop ∧ s.power.cfg.convPulses ≤ (s.pp k.val).loop.conv ∧
      (s.pp k.val).loop.out = false) ∧
    (∃ (k : StrIx) (s : State), s.connecting k.val = true ∧ (s.pp k.val).phase = .loop ∧
      s.power.cfg.convPulses ≤ (s.pp k.val).loop.conv ∧ (s.pp k.val).loop.out = true ∧ (s.pst k.val).latched = 0 ∧
      s.inhChg k.val = false ∧ s.inhDis k.val = false) ∧
    (∃ (k : StrIx) (s : State), s.connecting k.val = true ∧ (s.pp k.val).phase = .window ∧
      2000 ≤ (s.pp k.val).loop.windowAge ∧ (s.pp k.val).loop.out = false) ∧
    (∃ (k : StrIx) (s : State), s.connecting k.val = true ∧ (s.pp k.val).phase = .loop ∧
      10000 * s.power.cfg.connTime ≤ (s.pp k.val).phasePulses) ∧
    (∃ (k : StrIx) (s : State), (s.pp k.val).opening = true ∧ 100 ≤ (s.pp k.val).lowRun) ∧
    (∃ (o : Fin 16) (s : State), (tget s.power.out o.val).cut = true) :=
  ⟨⟨15,
      { State.reset with
        power.port := [(15, { phase := .contactors, phasePulses := 100000 })],
        mode.str := [(15, { state := .connecting })] }, by decide⟩,
   ⟨15,
      { State.reset with
        power.port := [(15, { phase := .settle, phasePulses := 20000 })],
        mode.str := [(15, { state := .connecting })] }, by decide⟩,
   ⟨15, { State.reset with power.port := [(15, { phase := .loop, loop := { conv := 100 } })] }, by decide⟩,
   ⟨15,
      { State.reset with
        power.port := [(15, { phase := .loop, loop := { conv := 100, out := true } })],
        mode.str := [(15, { state := .connecting })] }, by decide⟩,
   ⟨15,
      { State.reset with
        power.port := [(15, { phase := .window, loop := { windowAge := 2000 } })],
        mode.str := [(15, { state := .connecting })] }, by decide⟩,
   ⟨15,
      { State.reset with
        power.port := [(15, { phase := .loop, phasePulses := 5000000 })],
        mode.str := [(15, { state := .connecting })] }, by decide⟩,
   ⟨15, { State.reset with power.port := [(15, { opening := true, lowRun := 100 })] }, by decide⟩,
   ⟨15, { State.reset with power.out := [(15, { cut := true })] }, by decide⟩⟩

theorem test_needs_ProtectionStageCommandsComplete :
    (∃ (k : StrIx) (s : State), ((s.pp k.val).coarseHit = true ∨ (s.pp k.val).stat.desat = true)) ∧
    (∃ (k : StrIx) (e : Nat) (s : State), s.prot.loaded = true ∧ s.installed k.val = true ∧
      e = (s.pst k.val).i2t + (s.pp k.val).last.sq - (s.portCfg k.val).rating ^ 2 * 1000) ∧
    (∃ (q : PortIx) (s : State), s.sf06Counts (strOfPort q.val) = true ∧ s.fitted q.val = true ∧
      5 ≤ (tget s.prot.port q.val).missRun) ∧
    (∃ (q : PortIx) (s : State), s.sf06Counts (strOfPort q.val) = true ∧ s.fitted q.val = true ∧
      100 ≤ (tget s.prot.port q.val).missRun) ∧
    (∃ (k : StrIx) (s : State), s.portsValid k.val = true) ∧
    (∃ (k : StrIx) (f : Nat) (s : State), (s.pst k.val).auxWrong = some f ∧ f + 200 ≤ s.now ∧
      s.auxBad k.val = true) ∧
    (∃ (k : StrIx) (n : Fin 12) (s : State), n.val ≠ 5 ∧ n.val ≠ 6 ∧ s.released k.val (n.val + 1) = true ∧
      (n.val = 9 → s.sf10Paused = false)) ∧
    (∃ (k : StrIx) (s : State), s.inhPulses ≤ (s.pst k.val).inhChgRun) ∧
    (∃ (k : StrIx) (s : State), (s.pst k.val).modelFrame + 2000 < s.now) ∧
    (∃ (i : Fin 4) (f : Nat) (s : State), (tget s.prot.ilk i.val).from_ = some f ∧
      (tget s.prot.ilk i.val).bad = true ∧ (tget s.prot.ilk i.val).faulted = false ∧ s.ilkOn i.val = true ∧
      f + s.ilkDebounce ≤ s.now) ∧
    (∃ (id : Word) (e : LedgerEntry) (s : State), Due s id 0x0B01 e ∧ e.body.length = 4) :=
  ⟨⟨15, { State.reset with power.port := [(15, { coarseHit := true })] }, by decide⟩,
   ⟨15, 0, { State.reset with sys.stringMask := 0x8000, prot.loaded := true }, by decide⟩,
   ⟨127,
      { State.reset with
        sys.stringMask := 0x8000, sys.ports := [(127, { cells := 1 })], mode.str := [(15, { state := .closed })],
        prot.port := [(127, { missRun := 5 })] }, by decide⟩,
   ⟨127,
      { State.reset with
        sys.stringMask := 0x8000, sys.ports := [(127, { cells := 1 })], mode.str := [(15, { state := .closed })],
        prot.port := [(127, { missRun := 100 })] }, by decide⟩,
   ⟨15, State.reset, by decide⟩,
   ⟨15, 0,
      { State.reset with
        prot.str := [(15, { auxWrong := some 0 })], power.port := [(15, { stat := { kposAux := true } })],
        time.frame := 200 }, by decide⟩,
   ⟨15, 11, { State.reset with prot.str := [(15, { absentFrom := [(12, 1)] })], time.frame := 5000 }, by decide⟩,
   ⟨15, { State.reset with prot.str := [(15, { inhChgRun := 2000000 })] }, by decide⟩,
   ⟨15, { State.reset with time.frame := 2001 }, by decide⟩,
   ⟨3, 0, { State.reset with prot.ilk := [(3, { contact := false, from_ := some 0 })], time.frame := 5 },
      by decide⟩,
   ⟨1, (cmd 0x0B01 [1, 0, 1, 0] .maker), (dueIn .safe (cmd 0x0B01 [1, 0, 1, 0] .maker)), due_of (by decide),
      by decide⟩⟩

theorem test_needs_DiagnosticCommandsComplete :
    (∃ (d : Fin 17), sf12Diag (d.val + 1) = true) ∧
    (∃ (n : Nat), 999500 ≤ n ∧ n ≤ 1000500) ∧
    (∃ (s : State), s.prot.readbackA = 2) ∧
    (∃ (s : State), s.prot.tokenMiss + 1 < 10) ∧
    (∃ (s : State), 9 ≤ s.prot.tokenMiss) ∧
    (∃ (d : Fin 17) (s : State), s.mode.mode ≠ .fill ∧ d.val + 1 ∈ [2, 3, 12]) ∧
    (∃ (s : State), s.prot.frozen = true ∧ s.prot.freezeAt + 1000 * s.prot.cfg.freezeMax ≤ s.now) :=
  ⟨⟨16, by decide⟩,
   ⟨999500, by decide⟩,
   ⟨{ State.reset with prot.readbackA := 2 }, by decide⟩,
   ⟨{ State.reset with prot.tokenMiss := 8 }, by decide⟩,
   ⟨{ State.reset with prot.tokenMiss := 9 }, by decide⟩,
   ⟨11, { State.reset with mode.mode := .idle }, by decide⟩,
   ⟨{ State.reset with prot.frozen := true, time.frame := 15000 }, by decide⟩⟩

theorem test_needs_FrameRowsComplete :
    (∃ s : State, s.psv.powered = true) ∧
    (∃ s : State, s.psv.powered = false) ∧
    (∃ s : State, s.psv.powered = true ∧ s.now % 1000 = 0) ∧
    (∃ (s : State), s.psv.powered = true) ∧
    (∃ s : State, s.mode.mode = .survey ∧ s.mode.surveyWait = false ∧ s.surveyMayEnd = true ∧
      s.pair.state ≠ some .joining) ∧
    (∃ s : State, s.mode.mode = .survey ∧ s.mode.surveyWait = false ∧ s.surveyMayEnd = true ∧
      s.pair.state = some .joining) :=
  ⟨⟨State.reset, by decide⟩,
   ⟨{ State.reset with psv.powered := false }, by decide⟩,
   ⟨{ State.reset with time.frame := 1000 }, by decide⟩,
   ⟨State.reset, by decide⟩,
   ⟨{ State.reset with mode.mode := .survey, time.frame := 6000 }, by decide⟩,
   ⟨{ State.reset with mode.mode := .survey, time.frame := 6000, pair.state := some .joining }, by decide⟩⟩

theorem test_needs_TimeSourceCommandsComplete :
    (∃ (i : Fin 2) (m : PtpSync) (s : State), s.ptpMine i.val m.domain m.transport = true ∧
      s.time.state ≠ .following ∧ s.time.source = ptpSource i.val) ∧
    (∃ (i : Fin 2) (m : PtpSync) (s : State), s.ptpMine i.val m.domain m.transport = true ∧
      s.time.state = .following ∧ s.bestPort = some i.val) ∧
    (∃ (i : Fin 2) (m : PtpSync) (s : State), s.ptpMine i.val m.domain m.transport = false) ∧
    (∃ (i : Fin 2) (x : PtpTransport) (s : State), s.ptpMine i.val s.time.cfg.domain x = true) ∧
    (∃ (i : Fin 2) (s : State), s.ptpOn i.val = true ∧ s.time.cfg.profile = 0) ∧
    (∃ (late : Int) (s : State), s.time.cfg.ppsEn = true ∧ (s.time.ppsPresent = false ∨ late.natAbs ≤ 10000)) ∧
    (∃ (late : Int) (s : State), s.time.cfg.ppsEn = true ∧ s.time.ppsPresent = true ∧ 10000 < late.natAbs) ∧
    (∃ (s : State), s.time.state ≠ .following) ∧
    (∃ (id : Word) (e : LedgerEntry) (s : State), Due s id 0x0201 e ∧ e.body.length = 8) :=
  ⟨⟨0, {}, { State.reset with time.source := .ptp0 }, by decide⟩,
   ⟨0, {}, { State.reset with time.state := .following, time.ann0 := { present := true } }, by decide⟩,
   ⟨0, { domain := 1 }, State.reset, by decide⟩,
   ⟨1, .ethernet, State.reset, by decide⟩,
   ⟨1, State.reset, by decide⟩,
   ⟨10000, { State.reset with time.cfg.ppsEn := true, time.ppsPresent := true }, by decide⟩,
   ⟨10001, { State.reset with time.cfg.ppsEn := true, time.ppsPresent := true }, by decide⟩,
   ⟨State.reset, by decide⟩,
   ⟨1, (cmd 0x0201 (le 8 7) .maker), (dueIn .idle (cmd 0x0201 (le 8 7) .maker)), due_of (by decide), by decide⟩⟩

theorem test_needs_TimebaseCommandsComplete :
    (∃ (s : State), s.time.state = .acquiring ∧ s.time.offset.natAbs ≤ 250) ∧
    (∃ (s : State), s.time.state = .locked ∧ 1000 < s.time.offset.natAbs) ∧
    (∃ (s : State), s.time.unsynced = false ∧ s.time.state = .acquiring ∧
      s.time.cfg.alignLimit < sat32u (s.time.offset.natAbs + 1000)) ∧
    (∃ (s : State), s.time.unsynced = false ∧ s.time.state = .holdover ∧ s.time.holdoverGood = true ∧
      (s.time.oscTemp - s.time.ambientAtLoss).natAbs ≤ 1000 ∧
      s.time.cfg.alignLimit < sat32u (holdoverBound (s.now - s.time.holdoverFrom))) ∧
    (∃ (s : State), 900000 ≤ s.time.sincePower) ∧
    (∃ (n : Nat) (s : State), s.time.stepAt = some (s.now + 1, n) ∧ s.mode.mode ∈ [Mode.idle, .maintain, .rest]) ∧
    (∃ (n : Nat) (s : State), s.time.stepAt = some (s.now + 1, n) ∧ s.mode.mode ∉ [Mode.idle, .maintain, .rest]) ∧
    (∃ (s : State), s.time.stepAt = none ∧ s.mode.mode ∈ [Mode.idle, .maintain, .rest] ∧
      1000000 < s.time.offset.natAbs ∧ s.time.source ≠ .none ∧ s.time.state ≠ .following ∧
      s.pair.state ≠ some .active) :=
  ⟨⟨{ State.reset with time.state := .acquiring, time.offset := -250 }, by decide⟩,
   ⟨{ State.reset with time.state := .locked, time.offset := 1001 }, by decide⟩,
   ⟨{ State.reset with time.state := .acquiring, time.unsynced := false, time.offset := 1000001 }, by decide⟩,
      ⟨{ State.reset with
        time.state := .holdover, time.unsynced := false, time.holdoverGood := true, time.cfg.alignLimit := 0 },
      by decide⟩,
   ⟨{ State.reset with time.sincePower := 900000 }, by decide⟩,
   ⟨0, { State.reset with mode.mode := .rest, time.stepAt := some (1, 0) }, by decide⟩,
   ⟨0, { State.reset with mode.mode := .serve, time.stepAt := some (1, 0) }, by decide⟩,
   ⟨{ State.reset with mode.mode := .idle, time.offset := 1000001, time.source := .pps }, by decide⟩⟩

theorem test_needs_ModeCommandsComplete :
    (∃ (id : Word) (e : LedgerEntry) (s : State), Due s id 0x0301 e ∧ e.body.length = 4 ∧ rdU e.body 0 1 = 3 ∧
      rdU e.body 1 3 = 0 ∧ s.mode.target = none) ∧
    (∃ (id : Word) (e : LedgerEntry) (s : State), Due s id 0x0301 e ∧ e.body.length = 4 ∧ rdU e.body 0 1 = 4 ∧
      rdU e.body 1 3 = 0 ∧ s.mode.target = none ∧ s.serveReady = true ∧
      s.strings.any (fun k => decide ((s.str k).state = .opened)) = true) ∧
    (∃ (id : Word) (e : LedgerEntry) (s : State), Due s id 0x0301 e ∧ e.body.length = 4 ∧ rdU e.body 0 1 = 5 ∧
      rdU e.body 1 3 = 0 ∧ s.mode.target = none) ∧
    (∃ (id : Word) (e : LedgerEntry) (s : State), Due s id 0x0301 e ∧ e.body.length = 4 ∧ rdU e.body 0 1 = 6 ∧
      rdU e.body 1 3 = 0 ∧ s.mode.target = none ∧ s.inPair = false) ∧
    (∃ (id : Word) (e : LedgerEntry) (s : State), Due s id 0x0302 e ∧ e.body = [] ∧ (∀ j, s.upd.cfe = some j →
      j.cmd ≠ id)) ∧
    (∃ (id : Word) (e : LedgerEntry) (s : State), Due s id 0x0303 e ∧ e.body = [] ∧
      roleAtLeast e.role (safeRole s.mode.safeCause) = true ∧ s.safeCleared = true) ∧
    (∃ (id : Word) (e : LedgerEntry) (s : State), Due s id 0x0304 e ∧ e.body = []) ∧
    (∃ (c : Byte) (s : State), s.mode.restart = some c) ∧
    (∃ (s : State), s.mode.mode = .serve ∧ s.mode.target = none ∧ s.psv.loss = none ∧
      s.mode.holdupIgnore ≤ s.now ∧ s.inPair = false ∧ 10000 ≤ s.mode.holdupLow) ∧
    (∃ (id : Word) (e : LedgerEntry) (s : State), Due s id 0x1502 e ∧ e.body = [] ∧ (∀ j, s.upd.cfe = some j →
      j.cmd ≠ id)) :=
  ⟨⟨1, (cmd 0x0301 [3, 0, 0, 0] .maker), (dueIn .serve (cmd 0x0301 [3, 0, 0, 0] .maker)), due_of (by decide),
      by decide⟩,
   ⟨1, (cmd 0x0301 [4, 0, 0, 0] .maker),
      { dueIn .idle (cmd 0x0301 [4, 0, 0, 0] .maker) with
        sys.stringMask := 0x8000, psv.huE := 48, mode.str := [(15, { state := .opened })] }, due_of (by decide),
      by decide⟩,
   ⟨1, (cmd 0x0301 [5, 0, 0, 0] .maker), (dueIn .idle (cmd 0x0301 [5, 0, 0, 0] .maker)), due_of (by decide),
      by decide⟩,
   ⟨1, (cmd 0x0301 [6, 0, 0, 0] .maker), (dueIn .idle (cmd 0x0301 [6, 0, 0, 0] .maker)), due_of (by decide),
      by decide⟩,
   ⟨1, (cmd 0x0302 [] .maker), (dueIn .idle (cmd 0x0302 [] .maker)), due_of (by decide), by decide,
      fun _ h => nomatch h⟩,
   ⟨1, (cmd 0x0303 [] .maker), (dueIn .safe (cmd 0x0303 [] .maker)), due_of (by decide), by decide⟩,
   ⟨1, (cmd 0x0304 [] .maker), (dueIn .maintain (cmd 0x0304 [] .maker)), due_of (by decide), by decide⟩,
   ⟨8, { State.reset with mode.restart := some 8 }, by decide⟩,
   ⟨{ State.reset with mode.mode := .serve, mode.holdupLow := 10000 }, by decide⟩,
   ⟨1, (cmd 0x1502 [] .maker), (dueIn .safe (cmd 0x1502 [] .maker)), due_of (by decide), by decide,
      fun _ h => nomatch h⟩⟩

theorem test_needs_StringCommandsComplete :
    (∃ (k : StrIx) (w : OpenWhy) (d : Nat) (s : State), (s.str k.val).opening = some (w, d) ∧ d ≤ s.now ∧
      ((s.str k.val).state = .closed ∨ (s.str k.val).state = .held) ∧ s.voided k.val 8 = false) ∧
    (∃ (id : Word) (e : LedgerEntry) (s : State), Due s id 0x0305 e ∧ e.body.length = 4 ∧ rdU e.body 2 1 = 1 ∧
      rdU e.body 3 1 = 0 ∧ namedIn e.mask ≠ [] ∧ (∀ k ∈ namedIn e.mask, s.installed k = true ∧
      (s.str k).state ≠ .service)) ∧
    (∃ (id : Word) (e : LedgerEntry) (s : State), Due s id 0x0305 e ∧ e.body.length = 4 ∧ rdU e.body 2 1 = 0 ∧
      rdU e.body 3 1 = 0 ∧ namedIn e.mask ≠ [] ∧ (∀ k ∈ namedIn e.mask, s.installed k = true ∧
      (s.str k).state ≠ .service)) ∧
    (∃ (id : Word) (e : LedgerEntry) (s : State), Due s id 0x0306 e ∧ e.body.length = 4 ∧ rdU e.body 2 2 = 0 ∧
      namedIn e.mask ≠ [] ∧ (∀ k ∈ namedIn e.mask, s.installed k = true ∧ (s.str k).state ∈ [SState.opened,
      .unsurveyed, .isolated])) ∧
    (∃ (id : Word) (e : LedgerEntry) (s : State), Due s id 0x0307 e ∧ e.body.length = 4 ∧ rdU e.body 2 2 = 0 ∧
      namedIn e.mask ≠ [] ∧ (∀ k ∈ namedIn e.mask, s.installed k = true ∧ (s.str k).state ∈ [SState.service,
      .unsurveyed] ∧ s.latchJudge e k = none)) ∧
    (∃ (id : Word) (e : LedgerEntry) (s : State), Due s id 0x0308 e ∧ e.body.length = 4 ∧ rdU e.body 2 2 = 0 ∧
      namedIn e.mask ≠ [] ∧ (∀ k ∈ namedIn e.mask, s.installed k = true ∧ (s.str k).state = .isolated ∧
      s.latchJudge e k = none)) ∧
    (∃ (k : StrIx) (v : SurveySt) (s : State), (s.str k.val).survey = some v ∧ s.mode.mode ≠ .survey ∧
      v.from_ + 6000 ≤ s.now ∧ (s.pst k.val).latched = 0 ∧ s.auxClosed k.val = false ∧
      (s.surveyResult k.val v true).1 ≠ .opened) ∧
    (∃ (k : StrIx) (v : SurveySt) (s : State), (s.str k.val).survey = some v ∧ s.mode.mode ≠ .survey ∧
      s.surveyDone k.val v true = true ∧ (s.pst k.val).latched = 0 ∧ (s.surveyResult k.val v true).1 = .opened ∧
      s.mode.surveyCmds.any (fun c => decide (c.cmd = v.cmd) && c.renew) = false ∧
      has (s.pst k.val).warn 6 = false) :=
  ⟨⟨15, .command, 5,
      { State.reset with mode.str := [(15, { state := .held, opening := some (.command, 5) })], time.frame := 5 },
      by decide⟩,
   ⟨1, (cmd 0x0305 [0, 0x80, 1, 0] .maker),
      { dueIn .idle (cmd 0x0305 [0, 0x80, 1, 0] .maker) with sys.stringMask := 0x8000 }, due_of (by decide),
      by decide⟩,
   ⟨1, (cmd 0x0305 [0, 0x80, 0, 0] .maker),
      { dueIn .rest (cmd 0x0305 [0, 0x80, 0, 0] .maker) with sys.stringMask := 0x8000 }, due_of (by decide),
      by decide⟩,
   ⟨1, (cmd 0x0306 [0, 0x80, 0, 0] .maker),
      { dueIn .maintain (cmd 0x0306 [0, 0x80, 0, 0] .maker) with
        sys.stringMask := 0x8000, mode.str := [(15, { state := .isolated })] }, due_of (by decide), by decide⟩,
   ⟨1, (cmd 0x0307 [0, 0x80, 0, 0] .maker),
      { dueIn .maintain (cmd 0x0307 [0, 0x80, 0, 0] .maker) with
        sys.stringMask := 0x8000, mode.str := [(15, { state := .service })] }, due_of (by decide), by decide⟩,
   ⟨1, (cmd 0x0308 [0, 0x80, 0, 0] .maker),
      { dueIn .maintain (cmd 0x0308 [0, 0x80, 0, 0] .maker) with
        sys.stringMask := 0x8000, mode.str := [(15, { state := .isolated })] }, due_of (by decide), by decide⟩,
   ⟨15, {},
      { State.reset with mode.mode := .idle, mode.str := [(15, { survey := some {} })], time.frame := 6000 },
      by decide⟩,
   ⟨15, { step6Frames := 100 },
      { State.reset with
        mode.mode := .idle, mode.str := [(15, { survey := some { step6Frames := 100 } })],
        power.port := [(15, { statSeen := true })] }, by decide⟩⟩

theorem test_needs_PairStateCommandsComplete :
    (∃ (s : State), s.pair.state ≠ none ∧ s.pair.lane0 = true) ∧
    (∃ (s : State), s.pair.state = some .listen ∧ s.psv.loss = none) ∧
    (∃ (s : State), s.pair.state = some .listen) ∧
    (∃ (s : State), s.sys.slot = .b) ∧
    (∃ (s : State), s.pair.state = some .active ∧ s.psv.loss = none) ∧
    (∃ (s : State), s.pair.state = some .standby ∧ s.pair.chgIn = true ∧ s.psv.loss = none) ∧
    (∃ (s : State), s.pair.state = some .listen ∧ s.pair.since + (if s.sys.slot = .a then 500 else 2000) ≤ s.now ∧
      s.pair.chgIn = false ∧ s.pair.peerActive = false) ∧
    (∃ (s : State), s.pair.state = some .standby ∧ s.mode.mode ≠ .safe ∧ s.pair.chgIn = false ∧
      s.psv.loss = none) ∧
    (∃ (s : State), s.pair.state = some .joining ∧ s.pair.joining = true ∧
      s.pair.epoch + 1000 * s.pair.cfg.joinMax ≤ s.now ∧ s.pair.cfg.joinLimit ≤ 1) ∧
    (∃ (s : State), s.pair.state = some .joining ∧ s.pair.joining = true ∧
      s.pair.epoch + 1000 * s.pair.cfg.joinMax ≤ s.now ∧ s.pair.fails.length + 1 < s.pair.cfg.joinLimit) ∧
    (∃ (s : State), s.pair.state = some .detached ∧ s.mode.mode ≠ .safe ∧ s.mode.mode ≠ .maintain ∧
      s.pair.since + 1000 * s.pair.cfg.detachWait ≤ s.now) ∧
    (∃ (s : State), (s.pair.state = some .standby ∨ (s.pair.state = some .joining ∧ s.pair.joining = true))) ∧
    (∃ (e : EpochIn) (s : State), s.pair.state = some .joining ∧ e.sameTopology = true) :=
  ⟨⟨{ State.reset with pair.state := some .lone }, by decide⟩,
   ⟨{ State.reset with pair.state := some .listen }, by decide⟩,
   ⟨{ State.reset with pair.state := some .listen }, by decide⟩,
   ⟨{ State.reset with sys.slot := .b }, by decide⟩,
   ⟨{ State.reset with pair.state := some .active }, by decide⟩,
   ⟨{ State.reset with pair.state := some .standby, pair.chgIn := true }, by decide⟩,
   ⟨{ State.reset with pair.state := some .listen, time.frame := 500 }, by decide⟩,
   ⟨{ State.reset with pair.state := some .standby }, by decide⟩,
      ⟨{ State.reset with
        pair.state := some .joining, pair.joining := true, time.frame := 10000, pair.cfg.joinLimit := 1 },
      by decide⟩,
   ⟨{ State.reset with pair.state := some .joining, pair.joining := true, time.frame := 10000 }, by decide⟩,
   ⟨{ State.reset with pair.state := some .detached, time.frame := 600000 }, by decide⟩,
   ⟨{ State.reset with pair.state := some .joining, pair.joining := true }, by decide⟩,
   ⟨{}, { State.reset with pair.state := some .joining }, by decide⟩⟩

theorem test_needs_PairCopyCommandsComplete :
    (∃ (page : Fin 708) (s : State), s.pair.state = some .joining ∧ s.pair.joining = true ∧
      page.val ∉ s.pair.pagesRx) ∧
    (∃ (s : State), s.pair.copying = true) ∧
    (∃ (page : Fin 708) (f : Nat) (s : State), s.pair.copying = true ∧ s.pair.lane0 = true ∧ (page.val,
      f) ∈ s.pair.sentPages ∧ f + 2 ≤ s.now) ∧
    (∃ (s : State), s.pair.state = some .joining) ∧
    (∃ (c : CopyIn) (s : State), s.pair.state = some .joining ∧ s.pair.copyDone = true ∧ s.pair.caughtUp = false ∧
      c.readable = true) ∧
    (∃ (p : Pulse) (port : PortIx) (s : State), p.val ≤ 410 ∧ s.fitted port.val = true ∧
      s.pair.mirrored.getLsbD port.val = false ∧ (s.lnk port.val).own = none ∧ (s.lnk port.val).usable = true) ∧
    (∃ (p : Pulse) (port : PortIx) (d own : UpData) (s : State), p.val ≤ 410 ∧ s.fitted port.val = true ∧
      s.pair.mirrored.getLsbD port.val = false ∧ (s.lnk port.val).own = some own ∧ own ≠ d.heeded ∧
      (s.lnk port.val).usable = true) ∧
    (∃ (s : State), s.pair.state = some .active ∧ s.runtimeRuns = true ∧ s.pair.lane0 = true) ∧
    (∃ (s : State), s.pair.state = some .standby) :=
  ⟨⟨707, { State.reset with pair.state := some .joining, pair.joining := true }, by decide⟩,
   ⟨{ State.reset with pair.copying := true }, by decide⟩,
   ⟨707, 0, { State.reset with pair.copying := true, pair.sentPages := [(707, 0)], time.frame := 2 }, by decide⟩,
   ⟨{ State.reset with pair.state := some .joining }, by decide⟩,
   ⟨{}, { State.reset with pair.state := some .joining, pair.copyDone := true }, by decide⟩,
   ⟨410, 127,
      { State.reset with
        sys.stringMask := 0x8000, sys.ports := [(127, { cells := 1 })], link := [(127, { state := .lost })] },
      by decide⟩,
   ⟨410, 127, { ust := 0x8000 }, {},
      { State.reset with
        sys.stringMask := 0x8000, sys.ports := [(127, { cells := 1 })],
        link := [(127, { state := .run, own := some {} })] }, by decide⟩,
   ⟨{ State.reset with pair.state := some .active, mode.mode := .idle }, by decide⟩,
   ⟨{ State.reset with pair.state := some .standby }, by decide⟩⟩

theorem test_needs_PairAgreementCommandsComplete :
    (∃ (s : State), s.pair.lane0 = true) ∧
    (∃ (s : State), s.digests = true ∧ s.pair.lane0 = true) ∧
    (∃ (a : List Word) (s : State), s.pair.digest = some (s.now, a) ∧ s.pair.peerDigest = some (s.now, a) ∧
      s.pair.state = some .joining ∧ s.pair.caughtUp = true ∧ 99 ≤ s.pair.matched) ∧
    (∃ (a b : List Word) (s : State), s.pair.digest = some (s.now, a) ∧ s.pair.peerDigest = some (s.now, b) ∧
      s.pair.state = some .standby ∧ s.pair.transition = false ∧ sectionMask a b ≠ 0) ∧
    (∃ (id : Word) (e : LedgerEntry) (s : State), Due s id 0x0E01 e ∧ e.body = [] ∧ s.inPair = true ∧
      s.pair.handoverReq = none ∧ s.pair.handover = none) ∧
    (∃ (s : State), s.pair.cfg.homeEn = true ∧ s.pair.homeOff = false ∧ s.sys.slot = .a ∧
      s.pair.state = some .standby ∧ s.pair.since + 1000 * s.pair.cfg.homeHold ≤ s.now ∧ s.pair.lane0 = true) ∧
    (∃ (s : State), s.pair.cfg.homeEn = true ∧ s.pair.homeOff = false ∧ s.sys.slot = .b ∧
      s.pair.state = some .active ∧ s.pair.peerState = some .standby ∧
      s.pair.syncFrame + 1000 * s.pair.cfg.homeHold ≤ s.now ∧ s.pair.handoverReq = none ∧
      s.pair.handover = none) ∧
    (∃ (f : Nat) (s : State), s.pair.state = some .standby ∧ s.now < f) ∧
    (∃ (kind : Nat) (cmd : Word) (s : State), s.pair.handover = some (s.now, kind, cmd) ∧
      s.strings.any s.connecting = false ∧ s.pair.state = some .standby) ∧
    (∃ (kind : Nat) (cmd : Word) (s : State), s.pair.handover = some (s.now, kind, cmd) ∧
      s.pair.state = some .active ∧ s.pair.since ≠ s.now) ∧
    (∃ (kind : Nat) (cmd : Word) (s : State), s.pair.handover = some (s.now, kind, cmd) ∧
      s.strings.any s.connecting = true) :=
  ⟨⟨State.reset, by decide⟩,
   ⟨{ State.reset with pair.state := some .joining, pair.caughtUp := true }, by decide⟩,
   ⟨[1],
      { State.reset with
        pair.state := some .joining, pair.caughtUp := true, pair.matched := 99, pair.digest := some (0, [1]),
        pair.peerDigest := some (0, [1]) }, by decide⟩,
   ⟨[1], [2],
      { State.reset with
        pair.state := some .standby, pair.digest := some (0, [1]), pair.peerDigest := some (0, [2]) }, by decide⟩,
   ⟨1, (cmd 0x0E01 [] .maker), { dueIn .idle (cmd 0x0E01 [] .maker) with pair.state := some .standby },
      due_of (by decide), by decide⟩,
   ⟨{ State.reset with pair.state := some .standby, time.frame := 60000 }, by decide⟩,
      ⟨{ State.reset with
        pair.state := some .active, sys.slot := .b, pair.peerState := some .standby, time.frame := 60000 },
      by decide⟩,
   ⟨1, { State.reset with pair.state := some .standby }, by decide⟩,
   ⟨1, 7, { State.reset with pair.state := some .standby, pair.handover := some (0, 1, 7) }, by decide⟩,
   ⟨1, 7, { State.reset with pair.state := some .active, time.frame := 1000, pair.handover := some (1000, 1, 7) },
      by decide⟩,
   ⟨1, 7,
      { State.reset with
        sys.stringMask := 0x8000, mode.str := [(15, { state := .connecting })], pair.handover := some (0, 1, 7) },
      by decide⟩⟩

theorem test_needs_SessionCommandsComplete :
    (∃ (m : SiteIn) (o : OpenIn) (s : State), s.siteServed = true ∧ m.formOk o.bytes = true ∧ m.type = 1 ∧
      m.digestOk o.bytes = true ∧ o.ver = 1 ∧ m.tag = List.replicate 16 0 ∧ s.site.sstate = .none ∧
      s.openFault o = none) ∧
    (∃ (m : SiteIn) (o : OpenIn) (c : Nat) (s : State), s.siteServed = true ∧ m.formOk o.bytes = true ∧
      m.type = 1 ∧ m.digestOk o.bytes = true ∧ o.ver = 1 ∧ m.tag = List.replicate 16 0 ∧ s.site.sstate = .none ∧
      s.openFault o = some c) ∧
    (∃ (m : SiteIn) (o : OpenIn) (s : State), s.siteServed = true ∧ m.formOk o.bytes = true ∧ m.type = 1 ∧
      m.digestOk o.bytes = true ∧ o.ver = 1 ∧ m.tag = List.replicate 16 0 ∧ s.site.sstate ≠ .none) ∧
    (∃ (m : SiteIn) (c : BitVec 16) (s : State), Hears s m 0x02 (le 2 c.toNat ++ [0, 0])) ∧
    (∃ (m : SiteIn) (s : State), Hears s m 0x03 []) ∧
    (∃ (s : State), s.site.sstate = .opening ∧ s.site.openingAt + 1000 ≤ s.now) ∧
    (∃ (s : State), s.site.sstate = .opened ∧ s.site.lastValid + 3000 ≤ s.now) :=
  ⟨⟨(saidOpen { role := .maker, certs := [[0]] }), { role := .maker, certs := [[0]] },
      { State.reset with mode.mode := .idle }, open_of (by decide +kernel) (by decide)⟩,
   ⟨(saidOpen {}), {}, 5, { State.reset with mode.mode := .idle }, open_of (by decide +kernel) (by decide)⟩,
   ⟨(saidOpen {}), {}, { State.reset with mode.mode := .idle, site.sstate := .opened },
      open_of (by decide +kernel) (by decide)⟩,
   ⟨(said 0x02 (le 2 (0 : BitVec 16).toNat ++ [0, 0])), 0,
      { State.reset with mode.mode := .idle, site.sstate := .opened }, hears_of (by decide)⟩,
   ⟨(said 0x03 []), { State.reset with mode.mode := .idle, site.sstate := .opened }, hears_of (by decide)⟩,
   ⟨{ State.reset with site.sstate := .opening, time.frame := 1000 }, by decide⟩,
   ⟨{ State.reset with site.sstate := .opened, time.frame := 3000 }, by decide⟩⟩

theorem test_needs_CommandMessagesComplete :
    (∃ (m : SiteIn) (id : Word) (c : BitVec 16) (b : Bytes) (k : Nat) (s : State),
      Hears s m 0x10 (commandBytes id c.toNat b) ∧ id ≠ 0 ∧ twf s.site.ledger = true ∧ s.entry id = none ∧
      s.newSlot = some k) ∧
    (∃ (m : SiteIn) (c : BitVec 16) (b : Bytes) (s : State), Hears s m 0x10 (commandBytes 0 c.toNat b)) ∧
    (∃ (m : SiteIn) (id : Word) (c : BitVec 16) (b : Bytes) (e : LedgerEntry) (s : State),
      Hears s m 0x10 (commandBytes id c.toNat b) ∧ id ≠ 0 ∧ s.entry id = some e) ∧
    (∃ (m : SiteIn) (id : Word) (c : BitVec 16) (b : Bytes) (s : State),
      Hears s m 0x10 (commandBytes id c.toNat b) ∧ id ≠ 0 ∧ s.entry id = none ∧ s.newSlot = none) ∧
    (∃ (m : SiteIn) (id : Word) (e : LedgerEntry) (s : State), Hears s m 0x12 (le 4 id.toNat) ∧
      s.entry id = some e) ∧
    (∃ (m : SiteIn) (id : Word) (s : State), Hears s m 0x12 (le 4 id.toNat) ∧ s.entry id = none) :=
  ⟨⟨(said 0x10 (commandBytes 7 (0 : BitVec 16).toNat [])), 7, 0, [], 0,
      { State.reset with mode.mode := .idle, site.sstate := .opened }, hears_of (by decide), by decide⟩,
   ⟨(said 0x10 (commandBytes 0 (0 : BitVec 16).toNat [])), 0, [],
      { State.reset with mode.mode := .idle, site.sstate := .opened }, hears_of (by decide)⟩,
   ⟨(said 0x10 (commandBytes 1 (0 : BitVec 16).toNat [])), 1, 0, [], (cmd 0x0302 [] .maker),
      { State.reset with mode.mode := .idle, site.sstate := .opened, site.ledger := [(0, cmd 0x0302 [] .maker)] },
      hears_of (by decide), by decide⟩,
   ⟨(said 0x10 (commandBytes 0xFFFF (0 : BitVec 16).toNat [])), 0xFFFF, 0, [],
      { State.reset with mode.mode := .idle, site.sstate := .opened, site.ledger := fullLedger },
      hears_of (by decide), by decide, by decide +kernel, full_slot _ rfl⟩,
   ⟨(said 0x12 (le 4 (1 : Word).toNat)), 1, (cmd 0x0302 [] .maker),
      { State.reset with mode.mode := .idle, site.sstate := .opened, site.ledger := [(0, cmd 0x0302 [] .maker)] },
      hears_of (by decide), by decide⟩,
   ⟨(said 0x12 (le 4 (1 : Word).toNat)), 1, { State.reset with mode.mode := .idle, site.sstate := .opened },
      hears_of (by decide), by decide⟩⟩

theorem test_needs_WindowMessagesComplete :
    (∃ (p : Pulse) (m : SiteIn) (i : BitVec 16) (b : Bytes) (s : State),
      Hears s m 0x20 (statusReadBytes i.toNat) ∧ ((s.atP p.val).acceptMsg m).object i.toNat = some b) ∧
    (∃ (m : SiteIn) (g : Fin 16384) (n : BitVec 16) (c : Fin 4) (s : State),
      Hears s m 0x30 (windowBytes g.val n.toNat c.val) ∧ (s.page g.val).owner = .partner ∧
      (n = 0xFFFF ∨ n.toNat = (s.page g.val).gen)) ∧
    (∃ (m : SiteIn) (g : Fin 16384) (n : BitVec 16) (c : Fin 4) (d : Bytes) (s : State),
      Hears s m 0x31 (windowBytes g.val n.toNat c.val ++ d) ∧ 12288 ≤ g.val ∧ (s.page g.val).owner = .partner ∧
      n.toNat = (s.page g.val).gen) ∧
    (∃ (m : SiteIn) (es : List (Nat × Nat)) (s : State),
      Hears s m 0x32 (handoverBytes 0x02 es.length (es.map (fun e => handoverItem e.1 e.2 0 0)))) ∧
    (∃ (m : SiteIn) (n : Nat) (s : State), Hears s m 0x32 (handoverBytes 0x03 n [])) ∧
    (∃ (m : SiteIn) (es : List (Nat × Nat × Nat × Word)) (s : State),
      Hears s m 0x32 (handoverBytes 0x04 es.length (es.map (fun e => handoverItem e.1 e.2.1 e.2.2.1 e.2.2.2)))) ∧
    (∃ (g : Fin 16384) (s : State), s.ownsInbound g.val = true ∧ s.pageNamed g.val = false ∧
      (s.page g.val).returned + 60000 ≤ s.now) ∧
    (∃ (p : Pulse) (k : StrIx) (c : Capture) (s : State), c ∈ s.site.captures ∧ c.s = k.val ∧ c.recording = true ∧
      c.frame * 1000 + c.pulse + 19999 ≤ s.now * 1000 + p.val) :=
  ⟨⟨0, (said 0x20 (statusReadBytes (0x0D01 : BitVec 16).toNat)), 0x0D01, _,
      { State.reset with mode.mode := .idle, site.sstate := .opened }, hears_of (by decide), rfl⟩,
   ⟨(said 0x30 (windowBytes (16383 : Fin 16384).val (0xFFFF : BitVec 16).toNat (3 : Fin 4).val)), 16383, 0xFFFF,
      3,
      { State.reset with
        mode.mode := .idle, site.sstate := .opened, site.pages := [(16383, { owner := .partner })] },
      hears_of (by decide), by decide⟩,
   ⟨(said 0x31 (windowBytes (12288 : Fin 16384).val (0 : BitVec 16).toNat (3 : Fin 4).val ++ [])), 12288, 0, 3,
      [],
      { State.reset with
        mode.mode := .idle, site.sstate := .opened, site.pages := [(12288, { owner := .partner })] },
      hears_of (by decide), by decide⟩,
   ⟨(said 0x32 (handoverBytes 0x02 0 [])), [], { State.reset with mode.mode := .idle, site.sstate := .opened },
      hears_of (by decide)⟩,
   ⟨(said 0x32 (handoverBytes 0x03 0 [])), 0, { State.reset with mode.mode := .idle, site.sstate := .opened },
      hears_of (by decide)⟩,
   ⟨(said 0x32 (handoverBytes 0x04 0 [])), [], { State.reset with mode.mode := .idle, site.sstate := .opened },
      hears_of (by decide)⟩,
   ⟨16383, { State.reset with site.pages := [(16383, { owner := .module })], time.frame := 60000 }, by decide⟩,
   ⟨999, 15, { s := 15 }, { State.reset with site.captures := [{ s := 15 }], time.frame := 19 }, by decide⟩⟩

theorem test_needs_CanStateCommandsComplete :
    (∃ (c : Fin 2) (s : State), (s.ctl c.val).state = .detect ∧
      (s.ctl c.val).candFrom + 100 * s.bus.cfg.dwell ≤ s.now) ∧
    (∃ (c : Fin 2) (s : State) (nom data : Nat), (s.ctl c.val).state = .detect ∧ 3 ≤ (s.ctl c.val).good ∧
      s.bus.cfg.pairs[(s.ctl c.val).cand]? = some (nom, data) ∧ (data = 0 ∨ (s.ctl c.val).brs = true)) ∧
    (∃ (c : Fin 2) (s : State), (s.ctl c.val).state = .detect ∧
      (s.ctl c.val).detectFrom + 1000 * s.bus.cfg.detectTo ≤ s.now) ∧
    (∃ (c : Fin 2) (s : State), ((s.ctl c.val).state = .run ∨ (s.ctl c.val).state = .lone)) ∧
    (∃ (c : Fin 2) (s : State), (s.ctl c.val).state = .busoff) ∧
    (∃ (p : Pulse) (c : Fin 2) (s : State), (s.ctl c.val).state = .run ∧ 16 ≤ (s.ctl c.val).ackRun ∧ (∀ u,
      (s.ctl c.val).lastRx = some u → u + 100000 ≤ (s.atP p.val).clockUs)) ∧
    (∃ (c : Fin 2) (o : Fin 7) (s : State), 3 ≤ (tget (s.ctl c.val).obj o.val).bitErrs ∧
      (tget (s.ctl c.val).obj o.val).state ≠ .disabled) ∧
    (∃ (s : State), s.mode.mode ≠ .fill ∧ s.mode.mode ≠ .load ∧ s.pcsValid = false ∧ s.bus.unreachable = false) ∧
    (∃ (k : StrIx) (d : Nat) (s : State), (s.str k.val).opening = some (.lone, d) ∧ d ≤ s.now ∧
      s.bus.unreachable = true ∧ ((s.str k.val).state = .closed ∨ (s.str k.val).state = .held) ∧
      s.voided k.val 8 = false) :=
  ⟨⟨0, { State.reset with bus.a := { state := .detect }, time.frame := 200 }, by decide⟩,
   ⟨1, { State.reset with bus.b := { state := .detect, good := 3, brs := true } }, 2, 2, by decide⟩,
   ⟨0, { State.reset with bus.a := { state := .detect }, time.frame := 5000 }, by decide⟩,
   ⟨0, { State.reset with bus.a := { state := .lone } }, by decide⟩,
   ⟨0, { State.reset with bus.a := { state := .busoff } }, by decide⟩,
   ⟨0, 0, { State.reset with bus.a := { state := .run, ackRun := 16, lastRx := some 0 }, time.ticks := 100 },
      by decide, by decide, fun _ h => by cases h; decide⟩,
   ⟨0, 6, { State.reset with bus.a := { obj := [(6, { bitErrs := 3 })] } }, by decide⟩,
   ⟨{ State.reset with mode.mode := .idle }, by decide⟩,
   ⟨15, 5,
      { State.reset with
        mode.str := [(15, { state := .held, opening := some (.lone, 5) })], time.frame := 5,
        bus.unreachable := true }, by decide⟩⟩

theorem test_needs_CanTransferCommandsComplete :
    (∃ (c : Fin 2) (s : State), (s.ctl c.val).state = .lone ∧ s.now % 100 = 0 ∧
      (tget (s.ctl c.val).obj 6).state = .idle) ∧
    (∃ (c : Fin 2) (s : State), s.pair.state = some .standby ∧ s.now % 10 = 0 ∧ (∀ u,
      (s.ctl c.val).peerTime = some u → u + 30000 ≤ (s.atP 0).clockUs) ∧ (s.ctl c.val).state = .run ∧
      (tget (s.ctl c.val).obj 0).state = .idle) ∧
    (∃ (c : Fin 2) (s : State), (s.ctl c.val).tatDue = true ∧ (s.ctl c.val).state = .run ∧ s.now % 100 = 0 ∧
      s.sendsPair = true ∧ (tget (s.ctl c.val).obj 2).state = .idle) ∧
    (∃ (c : Fin 2) (o : Fin 7) (early : Bool) (k : CanContent) (s : State), s.canBusy c.val o.val = true ∧
      (s.ctl c.val).state = .run ∧
      (tget (s.ctl c.val).obj o.val).sent (early && (tget (s.ctl c.val).obj o.val).older.isSome) = some k) ∧
    (∃ (c : Fin 2) (s : State), s.canBusy c.val 6 = true ∧ (s.ctl c.val).state = .lone) ∧
    (∃ (c : Fin 2) (o : Fin 7) (k : CanContent) (s : State), s.canBusy c.val o.val = true ∧
      (tget (s.ctl c.val).obj o.val).cur = some k) ∧
    (∃ (c : Fin 2) (f : CanFrame) (s : State), (s.ctl c.val).state = .run ∧ f.ok = false) ∧
    (∃ (c : Fin 2) (f : CanFrame) (s : State), (s.ctl c.val).state = .run ∧ f.ok = true) ∧
    (∃ (p : Pulse) (c : Fin 2) (f : CanFrame) (s : State),
      CanMayTake (s.atP p.val) c.val f 0x100 s.bus.cfg.pcsNode 16) ∧
    (∃ (p : Pulse) (c : Fin 2) (f : CanFrame) (s : State),
      CanMayTake (s.atP p.val) c.val f 0x101 s.bus.cfg.hvacNode 12) ∧
    (∃ (p : Pulse) (c : Fin 2) (f : CanFrame) (s : State),
      CanMayTake (s.atP p.val) c.val f 0x102 s.bus.cfg.fireNode 8) ∧
    (∃ (p : Pulse) (c : Fin 2) (f : CanFrame) (s : State),
      CanMayTake (s.atP p.val) c.val f 0x103 s.bus.cfg.imdNode 8) :=
  ⟨⟨0, { State.reset with bus.a := { state := .lone }, time.frame := 100 }, by decide⟩,
   ⟨0,
      { State.reset with
        bus.a := { state := .run, peerTime := some 0 }, time.frame := 30, time.ticks := 30,
        pair.state := some .standby }, by decide, by decide, fun _ h => by cases h; decide, by decide, by decide⟩,
   ⟨1,
      { State.reset with
        bus.b := { state := .run, tatDue := true }, time.frame := 100, pair.state := some .lone }, by decide⟩,
   ⟨1, 0, true, { frame := 1 },
      { State.reset with

        bus.b := { state := .run, obj := [(0, { state := .waiting, cur := some {}, older := some { frame := 1 } })] } },
        by decide⟩,
   ⟨0, { State.reset with bus.a := { state := .lone, obj := [(6, { state := .waiting, cur := some {} })] } },
      by decide⟩,
   ⟨0, 6, {},
      { State.reset with bus.a := { state := .lone, obj := [(6, { state := .waiting, cur := some {} })] } },
      by decide⟩,
   ⟨0, { ok := false }, { State.reset with bus.a := { state := .run } }, by decide⟩,
   ⟨0, {}, { State.reset with bus.a := { state := .run } }, by decide⟩,
   ⟨0, 0, (canIn 0x100 16 16),
      { State.reset with
        bus.a := { state := .run }, time.frame := 100, time.ticks := 100, bus.seen := [(0, 16, 0x100, 0)] },
      may_of (by decide +kernel)⟩,
   ⟨0, 0, (canIn 0x101 17 12),
      { State.reset with
        bus.a := { state := .run }, time.frame := 100, time.ticks := 100, bus.seen := [(0, 17, 0x101, 0)] },
      may_of (by decide +kernel)⟩,
   ⟨0, 0, (canIn 0x102 18 8),
      { State.reset with
        bus.a := { state := .run }, time.frame := 100, time.ticks := 100, bus.seen := [(0, 18, 0x102, 0)] },
      may_of (by decide +kernel)⟩,
   ⟨0, 0, (canIn 0x103 19 8),
      { State.reset with
        bus.a := { state := .run }, time.frame := 100, time.ticks := 100, bus.seen := [(0, 19, 0x103, 0)] },
      may_of (by decide +kernel)⟩⟩

theorem test_needs_TwoWireTransactionsComplete :
    (∃ (a : BitVec 7) (s : State), a.toNat ≠ s.tw.primary ∧ a.toNat ≠ s.tw.secondary) ∧
    (∃ (a : BitVec 7) (s : State), (a.toNat = s.tw.primary ∨ a.toNat = s.tw.secondary) ∧ s.tw.asleep = true) ∧
    (∃ (a : BitVec 7) (s : State), (a.toNat = s.tw.primary ∨ a.toNat = s.tw.secondary) ∧ s.tw.asleep = false) ∧
    (∃ (a : BitVec 7) (s : State), (a.toNat = s.tw.primary ∨ a.toNat = s.tw.secondary) ∧ s.tw.asleep = false) ∧
    (∃ (sec : Bool) (s : State), s.tw.tx = .write sec none) ∧
    (∃ (sec : Bool) (r : Nat) (s : State), s.tw.tx = .write sec (some r) ∧ s.tw.atSafeReq = false) ∧
    (∃ (s : State), s.tw.atSafeReq = false) ∧
    (∃ (s : State), s.tw.tx = .read true) ∧
    (∃ (p : Pulse) (s : State), s.mode.mode = .rest ∧ s.tw.lastStart + 2000000 ≤ (s.atP p.val).clockUs) :=
  ⟨⟨0x5B, State.reset, by decide⟩,
   ⟨0x58, { State.reset with tw.asleep := true }, by decide⟩,
   ⟨0x5C, State.reset, by decide⟩,
   ⟨0x58, State.reset, by decide⟩,
   ⟨true, { State.reset with tw.tx := .write true none }, by decide⟩,
   ⟨false, 255, { State.reset with tw.tx := .write false (some 255) }, by decide⟩,
   ⟨{ State.reset with tw.tx := .read false }, by decide⟩,
   ⟨{ State.reset with tw.tx := .read true }, by decide⟩,
   ⟨0, { State.reset with mode.mode := .rest, time.ticks := 2000 }, by decide⟩⟩

theorem test_needs_TwoWireRequestsComplete :
    (∃ (p : Pulse) (a : Nat) (s : State), s.tw.armed = some a ∧ (s.atP p.val).clockUs ≤ a + 100000 ∧
      s.mode.mode ∉ [Mode.fill, .load, .safe]) ∧
    (∃ (p : Pulse) (a : Nat) (s : State), s.tw.armed = some a ∧ (s.atP p.val).clockUs ≤ a + 100000 ∧
      s.mode.mode = .safe) ∧
    (∃ (s : State), s.tw.armed = none) ∧
    (∃ (v : Byte) (a : Nat) (s : State), v ≠ 0xA5 ∧ v ≠ 0x5A ∧ s.tw.armed = some a) ∧
    (∃ (p : Pulse) (a : Nat) (s : State), s.tw.armed = some a ∧ a + 100000 ≤ (s.atP p.val).clockUs) :=
  ⟨⟨0, 0, { State.reset with mode.mode := .idle, tw.armed := some 0, time.ticks := 100 }, by decide⟩,
   ⟨0, 0, { State.reset with mode.mode := .safe, tw.armed := some 0, time.ticks := 100 }, by decide⟩,
   ⟨State.reset, by decide⟩,
   ⟨0, 0, { State.reset with tw.armed := some 0 }, by decide⟩,
   ⟨0, 0, { State.reset with tw.armed := some 0, time.ticks := 100 }, by decide⟩⟩

theorem test_needs_SupplyLossCommandsComplete :
    (∃ (s : State), s.psv.loss = none ∧ s.psv.powered = true) ∧
    (∃ (p : Pulse) (l : LossSeq) (s : State), s.psv.loss = some l ∧ l.runs = true ∧ l.waitEnded = false ∧
      s.psv.lossWait ≤ (s.atP p.val).lossMs l) ∧
    (∃ (p : Pulse) (l : LossSeq) (s : State), s.psv.loss = some l ∧ l.runs = true ∧ l.returned = false ∧
      s.psv.state = .fullFunction ∧ 150 ≤ (s.atP p.val).lossMs l) ∧
    (∃ (p : Pulse) (l : LossSeq) (s : State), s.psv.loss = some l ∧ l.waitEnded = false ∧ l.opened = 0 ∧
      s.psv.dropped = false ∧ (s.atP p.val).lossMs l < s.psv.lossWait) ∧
    (∃ (l : LossSeq) (s : State), s.psv.loss = some l ∧ l.opened ≠ 0 ∧ s.psv.state ≠ .lastGasp) ∧
    (∃ (l : LossSeq) (s : State), s.psv.loss = some l ∧ l.opened ≠ 0 ∧ s.psv.state = .lastGasp) :=
  ⟨⟨State.reset, by decide⟩,
   ⟨0, { runs := true }, { State.reset with psv.loss := some { runs := true }, time.ticks := 100 }, by decide⟩,
   ⟨0, { runs := true },
      { State.reset with psv.loss := some { runs := true }, psv.state := .fullFunction, time.ticks := 150 },
      by decide⟩,
   ⟨999, {}, { State.reset with psv.loss := some {}, time.ticks := 99 }, by decide⟩,
   ⟨{ opened := 1 }, { State.reset with psv.loss := some { opened := 1 } }, by decide⟩,
   ⟨{ opened := 1 }, { State.reset with psv.loss := some { opened := 1 }, psv.state := .lastGasp }, by decide⟩⟩

theorem test_needs_SupplyAndResetCommandsComplete :
    (∃ (ms : Nat) (s : State), 10 ≤ ms ∧ s.psv.powered = true) ∧
    (∃ (ms : Nat), ms < 10) ∧
    (∃ (v : Int) (s : State), s.psv.state = .normal ∧ (v < 18000 ∨ 32000 < v)) ∧
    (∃ (v : Int) (s : State), s.psv.state = .outOfRange ∧ 18000 ≤ v ∧ v ≤ 32000) :=
  ⟨⟨10, State.reset, by decide⟩,
   ⟨9, by decide⟩,
   ⟨17999, State.reset, by decide⟩,
   ⟨18000, { State.reset with psv.state := .outOfRange }, by decide⟩⟩

theorem test_needs_StartCommandsComplete :
    (∃ (s : State), s.mode.mode = .fill) ∧
    (∃ (s : State), s.mode.mode = .fill) ∧
    (∃ (x : LoadIn) (s : State), s.mode.mode = .load ∧ s.runtimeRuns = true ∧ s.mode.configHold = false ∧
      s.upd.trial = false ∧ judgeImage s.cfg.slot0 x.chain0 (requiredOk x.cred0) ≠ 0 ∧
      judgeImage s.cfg.slot1 x.chain1 (requiredOk x.cred1) ≠ 0) ∧
    (∃ (x : LoadIn) (s : State), s.mode.mode = .load ∧ s.runtimeRuns = true ∧ s.mode.configHold = false ∧
      s.upd.trial = false ∧ s.jnl.safeLatch = 0 ∧
      (judgeImage s.cfg.slot0 x.chain0 (requiredOk x.cred0) = 0 ∨ judgeImage s.cfg.slot1 x.chain1 (requiredOk x.cred1) = 0)) ∧
    (∃ (x : LoadIn) (s : State), s.mode.mode = .load ∧ s.runtimeRuns = true ∧ s.mode.configHold = false ∧
      s.upd.trial = false ∧ s.jnl.safeLatch ≠ 0 ∧
      (judgeImage s.cfg.slot0 x.chain0 (requiredOk x.cred0) = 0 ∨ judgeImage s.cfg.slot1 x.chain1 (requiredOk x.cred1) = 0)) ∧
    (∃ (s : State), s.mode.mode = .load ∧ s.runtimeRuns = true ∧ s.mode.configHold = false ∧
      s.mode.entryFrame + 2400 ≤ s.now) ∧
    (∃ (s : State), s.upd.activateAt = some s.now) :=
  ⟨⟨State.reset, by decide⟩,
   ⟨State.reset, by decide⟩,
   ⟨{}, { State.reset with mode.mode := .load }, by decide⟩,
   ⟨{}, { State.reset with mode.mode := .load, cfg.slot0 := image }, and5 (by decide) (.inl image_good)⟩,
   ⟨{}, { State.reset with mode.mode := .load, cfg.slot0 := image, jnl.safeLatch := 2 },
      and5 (by decide) (.inl image_good)⟩,
   ⟨{ State.reset with mode.mode := .load, time.frame := 2400 }, by decide⟩,
   ⟨{ State.reset with upd.activateAt := some 0 }, by decide⟩⟩

theorem test_needs_ImageCommandsComplete :
    (∃ (id : Word) (e : LedgerEntry) (s : State), Due s id 0x1201 e ∧ (patchChecks (s.atP 0) e).pass = true) ∧
    (∃ (id : Word) (j : PatchJob) (e : LedgerEntry) (s : State),
      s.cfg.jobs.find? (fun x => decide (x.cmd = id)) = some j ∧ s.entry id = some e ∧ twf s.site.ledger = true ∧
      j.at_ = s.now ∧ j.applied = false) ∧
    (∃ (id : Word) (j : PatchJob) (k : Nat) (flash : Verdict) (s : State),
      s.cfg.jobs.find? (fun x => decide (x.cmd = id)) = some j ∧ j.applied = true ∧ j.own = false ∧
      flash ≠ .fail ∧ s.liveHalf = some k ∧ (s.half k).imageSeq = s.cfg.seqLoaded ∧
      (s.half k).entries.length + j.items.length ≤ halfCapacity) ∧
    (∃ (id : Word) (j : PatchJob) (s : State), s.cfg.jobs.find? (fun x => decide (x.cmd = id)) = some j ∧
      j.applied = true ∧ j.own = false) ∧
    (∃ (id : Word) (j : PatchJob) (e : LedgerEntry) (s : State), s.entry id = some e ∧ twf s.site.ledger = true ∧
      j.cmd = id) ∧
    (∃ (id : Word) (e : LedgerEntry) (s : State), Due s id 0x1202 e ∧ (stageChecks (s.atP 0) e).pass = true) ∧
    (∃ (id : Word) (e : LedgerEntry) (s : State), Due s id 0x1203 e ∧ e.body.length = 512 ∧
      rdU e.body 508 4 = (crc32c (slice e.body 0 508)).toNat) ∧
    (∃ (id : Word) (e : LedgerEntry) (s : State), Due s id 0x1203 e ∧ e.body.length = 512 ∧
      rdU e.body 508 4 = (crc32c (slice e.body 0 508)).toNat) ∧
    (∃ (i : PatchItem), i.permitted = true) :=
  ⟨⟨1, (cmd 0x1201 ([1, 0, 0, 0, 3, 8, 2, 0] ++ zeros_ 8) .maker), (dueIn .maintain (cmd 0x1201 ([1, 0, 0, 0, 3,
      8, 2, 0] ++ zeros_ 8) .maker)), due_of (by decide), by decide⟩,
   ⟨1, { cmd := 1, items := [{ type := 0x0803, word := 2 }] }, (cmd 0x1201 [] .maker),
      { State.reset with
        site.ledger := [(0, cmd 0x1201 [] .maker)],
        cfg.jobs := [{ cmd := 1, items := [{ type := 0x0803, word := 2 }] }] }, by decide⟩,
   ⟨1, { cmd := 1, applied := true }, 0, .pass,
      { State.reset with cfg.jobs := [{ cmd := 1, applied := true }], cfg.half0 := { valid := true } },
      by decide⟩,
   ⟨1, { cmd := 1, applied := true }, { State.reset with cfg.jobs := [{ cmd := 1, applied := true }] },
      by decide⟩,
   ⟨1, { cmd := 1, applied := true }, (cmd 0x1201 [] .maker),
      { State.reset with site.ledger := [(0, cmd 0x1201 [] .maker)] }, by decide⟩,
   ⟨1, (cmd 0x1202 (le 4 4096 ++ [1, 0, 0, 0, 0, 0x30]) .maker),
      { dueIn .idle (cmd 0x1202 (le 4 4096 ++ [1, 0, 0, 0, 0, 0x30]) .maker) with
        site.pages := [(12288, { owner := .module })] }, due_of (by decide), by decide⟩,
   ⟨1, (cmd 0x1203 calBlock .maker), (dueIn .maintain (cmd 0x1203 calBlock .maker)), ⟨rfl, rfl, rfl, rfl, rfl,
      rfl, rfl, rfl⟩, calBlock_length, calBlock_crc⟩,
   ⟨1, (cmd 0x1203 calBlock .maker), (dueIn .maintain (cmd 0x1203 calBlock .maker)), ⟨rfl, rfl, rfl, rfl, rfl,
      rfl, rfl, rfl⟩, calBlock_length, calBlock_crc⟩,
   ⟨{ type := 0x0803, word := 2, mask := 0xFF }, by decide⟩⟩

theorem test_needs_StagingStepsComplete :
    (∃ (id : Word) (j : StageJob) (k : Nat) (chain cred : Verdict) (s : State), s.cfg.stage = some j ∧
      j.cmd = id ∧ j.failed = false ∧ j.own + 1 = k ∧ k ≤ 4 ∧ (k = 1 →
      s.stageCheck j chain (requiredOk cred) = 0)) ∧
    (∃ (id : Word) (j : StageJob) (chain cred : Verdict) (s : State), s.cfg.stage = some j ∧ j.cmd = id ∧
      j.failed = false ∧ j.own = 0 ∧ s.stageCheck j chain (requiredOk cred) ≠ 0) ∧
    (∃ (id : Word) (j : StageJob) (k : Nat) (st : Status) (s : State), s.cfg.stage = some j ∧ j.cmd = id ∧
      j.failed = false ∧ j.own + 1 = k ∧ k ≤ 4 ∧ k ≠ 1 ∧ st ≠ .ok) ∧
    (∃ (id : Word) (j : StageJob) (e : LedgerEntry) (code : Nat) (s : State), s.entry id = some e ∧
      twf s.site.ledger = true ∧ j.cmd = id ∧ code ≠ 0) ∧
    (∃ (id : Word) (j : StageJob) (e : LedgerEntry) (s : State), s.entry id = some e ∧ twf s.site.ledger = true ∧
      j.cmd = id ∧ s.inPair = false ∧ s.pairDone j.doneA j.doneB < 4) :=
  ⟨⟨1, { cmd := 1, pages := [12288], length := image.length, own := 0 }, 1, .pass, .pass,
      { State.reset with
        cfg.stage := some { cmd := 1, pages := [12288], length := image.length, own := 0 },
        site.pages := [(12288, { owner := .module, payload := image })] }, rfl, by decide, by decide, by decide,
      by decide, fun _ => image_staged _ rfl rfl rfl⟩,
   ⟨1, { cmd := 1, pages := [12288], length := 64, own := 0 }, .pass, .pass,
      { State.reset with cfg.stage := some { cmd := 1, pages := [12288], length := 64, own := 0 } }, by decide⟩,
   ⟨1, { cmd := 1, pages := [12288], length := 64, own := 2 }, 3, .failedTimeout,
      { State.reset with cfg.stage := some { cmd := 1, pages := [12288], length := 64, own := 2 } }, by decide⟩,
   ⟨1, { cmd := 1, pages := [12288], length := 64, own := 3 }, (cmd 0x1202 [] .maker), 2,
      { State.reset with site.ledger := [(0, cmd 0x1202 [] .maker)] }, by decide⟩,
   ⟨1, { cmd := 1, pages := [12288], length := 64, own := 3 }, (cmd 0x1202 [] .maker),
      { State.reset with site.ledger := [(0, cmd 0x1202 [] .maker)] }, by decide⟩⟩

theorem test_needs_UpdateCommandsComplete :
    (∃ (id : Word) (e : LedgerEntry) (s : State), Due s id 0x1301 e ∧ rdU e.body 1 1 = 1 ∧
      (updStageChecks (s.atP 0) e).pass = true) ∧
    (∃ (id : Word) (e : LedgerEntry) (s : State), Due s id 0x1301 e ∧ rdU e.body 1 1 = 2 ∧
      (updStageChecks (s.atP 0) e).pass = true) ∧
    (∃ (id : Word) (e : LedgerEntry) (s : State), Due s id 0x1301 e ∧ rdU e.body 1 1 = 3 ∧
      (updStageChecks (s.atP 0) e).pass = true) ∧
    (∃ (id : Word) (e : LedgerEntry) (s : State), Due s id 0x1302 e ∧ (activateChecks (s.atP 0) e).pass = true) ∧
    (∃ (id : Word) (e : LedgerEntry) (s : State), Due s id 0x1303 e ∧ (confirmChecks (s.atP 0) e).pass = true) ∧
    (∃ (s : State), s.upd.verifyDue = true ∧ s.grz.admitted = true ∧ s.upd.vstate = .downloading ∧
      s.upd.complete = true) ∧
    (∃ (id : Word) (e : LedgerEntry) (s : State), Due s id 0x0501 e ∧ (cfeFwChecks (s.atP 0) e).pass = true) ∧
    (∃ (port : PortIx) (j : CfeFwJob) (s : State), s.upd.cfe = some j ∧ j.port = port.val ∧ j.step = 3 ∧
      j.done = 2 ∧ j.failed = none ∧ j.from_ + 1000 ≤ s.now) :=
  ⟨⟨1, (cmd 0x1301 [1, 1, 0, 0, 1, 0, 0, 0, 0, 0x30] .maker), (dueIn .idle (cmd 0x1301 [1, 1, 0, 0, 1, 0, 0, 0, 0,
      0x30] .maker)), due_of (by decide), by decide⟩,
   ⟨1, (cmd 0x1301 ([1, 2, 0xFF, 1, 1, 0, 0, 0] ++ zeros_ 32) .maker), (dueIn .idle (cmd 0x1301 ([1, 2, 0xFF, 1,
      1, 0, 0, 0] ++ zeros_ 32) .maker)), due_of (by decide), by decide⟩,
   ⟨1, (cmd 0x1301 [1, 3, 0, 0, 0, 0, 0, 0] .maker), (dueIn .idle (cmd 0x1301 [1, 3, 0, 0, 0, 0, 0, 0] .maker)),
      due_of (by decide), by decide⟩,
   ⟨1, (cmd 0x1302 [1, 0, 0, 0] .maker), (dueIn .maintain (cmd 0x1302 [1, 0, 0, 0] .maker)), due_of (by decide),
      by decide⟩,
   ⟨1, (cmd 0x1303 [1, 0, 0, 0] .maker), (dueIn .idle (cmd 0x1303 [1, 0, 0, 0] .maker)), due_of (by decide),
      by decide⟩,
   ⟨{ State.reset with upd.verifyDue := true, grz.admitted := true, upd.vstate := .downloading, upd.bitmap := 1 },
      by decide +kernel⟩,
   ⟨1, (cmd 0x0501 ([127, 1, 0, 0] ++ le 4 256 ++ le 4 0 ++ [1, 0, 0, 0, 0, 0x30]) .maker),
      { dueIn .idle (cmd 0x0501 ([127, 1, 0, 0] ++ le 4 256 ++ le 4 0 ++ [1, 0, 0, 0, 0, 0x30]) .maker) with
        sys.stringMask := 0x8000, sys.ports := [(127, { cells := 1 })], mode.str := [(15, { state := .service })],
        site.pages := [(12288, { owner := .module })] }, due_of (by decide), by decide⟩,
   ⟨127, { port := 127, step := 3, done := 2 },
      { State.reset with upd.cfe := some { port := 127, step := 3, done := 2 }, time.frame := 1000 }, by decide⟩⟩

theorem test_needs_UpdateStepsComplete :
    (∃ (id : Word) (j : UpdJob) (m : Manifest) (s : State),
      s.upd.jobs.find? (fun x => decide (x.cmd = id)) = some j ∧ s.maskNames j.mask s.sys.slot = true ∧ j.op = 1 ∧
      j.failed = false ∧ j.own = 0 ∧ j.pages.all s.ownsInbound = true ∧ s.upd.trial = false ∧
      parseManifest (s.pageBytes j.pages) = some m ∧ s.upd.rollback ≤ m.secv ∧
      m.bootRom.toNat ≤ s.sys.bootRom.toNat ∧ m.preong ≤ s.cfg.format) ∧
    (∃ (id : Word) (j : UpdJob) (k : Nat) (s : State), s.upd.jobs.find? (fun x => decide (x.cmd = id)) = some j ∧
      s.maskNames j.mask s.sys.slot = true ∧ j.op = 2 ∧ j.failed = false ∧ j.own + 1 = k ∧ k ≤ j.count ∧ (k = 1 →
      j.pages.all s.ownsInbound = true) ∧ s.upd.vstate = .downloading ∧
      j.first + k - 1 ≤ s.upd.velvet.imageBlocks ∧ s.upd.bitmap.getLsbD (j.first + k - 1) = false ∧
      sha384 (s.blockBytes j (j.first + k - 1)) = (((s.upd.velvet.manifest.map (·.hashes)).getD [])[j.first + k - 1 - 1]?).getD []) ∧
    (∃ (id : Word) (j : UpdJob) (s : State), s.upd.jobs.find? (fun x => decide (x.cmd = id)) = some j ∧
      s.maskNames j.mask s.sys.slot = true ∧ j.op = 1 ∧ j.failed = false ∧ j.own = 0 ∧
      j.pages.all s.ownsInbound = false) ∧
    (∃ (id : Word) (j : UpdJob) (e : LedgerEntry) (slot : Slot) (code : Nat) (s : State),
      s.upd.jobs.find? (fun x => decide (x.cmd = id)) = some j ∧ s.maskNames j.mask slot = true ∧ code ≠ 0 ∧
      s.entry id = some e ∧ twf s.site.ledger = true) ∧
    (∃ (s : State), s.upd.trial = true ∧ s.upd.confirmTime * 60000 ≤ s.upd.cleanRun ∧ s.upd.autoConfirm = true) :=
  ⟨⟨1, { cmd := 1, mask := 1, op := 1, first := 0, count := 1, pages := [12288] },
      { runtime := 0, secv := 0, len := 1, blocks := 1, fmt := 3, fmtFrom := 1, hashes := [zeros_ 48] },
      { State.reset with
        upd.jobs := [{ cmd := 1, mask := 1, op := 1, first := 0, count := 1, pages := [12288] }], cfg.format := 1,
        site.pages := [(12288, { owner := .module, payload := manifest })] }, by decide +kernel⟩,
   ⟨1, { cmd := 1, mask := 1, op := 2, first := 1, count := 1, pages := [12288] }, 1,
      { State.reset with
        upd.jobs := [{ cmd := 1, mask := 1, op := 2, first := 1, count := 1, pages := [12288] }],
        upd.vstate := .downloading, upd.bitmap := 1,
        upd.velvet.manifest := some { len := 3, blocks := 1, hashes := [abc384] },
        site.pages := [(12288, { owner := .module, payload := [0x61, 0x62, 0x63] })] }, by decide +kernel⟩,
   ⟨1, { cmd := 1, mask := 1, op := 1, first := 0, count := 1, pages := [12288] },
      { State.reset with
        upd.jobs := [{ cmd := 1, mask := 1, op := 1, first := 0, count := 1, pages := [12288] }] }, by decide⟩,
   ⟨1, { cmd := 1, mask := 3, op := 1, first := 0, count := 1, pages := [12288] }, (cmd 0x1301 [] .maker), .b, 1,
      { State.reset with
        upd.jobs := [{ cmd := 1, mask := 3, op := 1, first := 0, count := 1, pages := [12288] }],
        pair.state := some .standby, site.ledger := [(0, cmd 0x1301 [] .maker)] }, by decide⟩,
   ⟨{ State.reset with upd.trial := true, upd.cleanRun := 600000, upd.autoConfirm := true }, by decide⟩⟩

theorem test_needs_MemoryCommandsComplete :
    (∃ (dram : Bool) (s : State), s.grz.admitted = true ∧ s.now % (if dram then 1000 else 100) = 0) ∧
    (∃ (e : MemErr), e.kind .markhor = some .word ∨ e.kind .markhor = some .page) ∧
    (∃ (e : MemErr), e.kind .markhor = some .uncorrectable) ∧
    (∃ (dram : Bool) (s : State), (s.memReg (if dram then .dram else .table)).late = false ∧
      (s.memReg (if dram then .dram else .table)).passFrom + 2 * s.scrubInterval (if dram then .dram else .table) ≤ s.now) ∧
    (∃ (s : State), s.mem.dirty ≠ none) ∧
    (∃ (s : State), s.now % 1000 = 0 ∧ (s.jnl.wearDue = true ∨ s.now % 3600000 = 0) ∧ s.wearMay = true) ∧
    (∃ (s : State), s.now % 1000 = 0 ∧ (s.jnl.wearDue = true ∨ s.now % 3600000 = 0) ∧ s.wearMay = false) ∧
    (∃ (w : WearRec) (s : State), s.now % 1000 = 0 ∧ s.jnl.carrierRetry = true ∧ s.wearNewest = some w) ∧
    (∃ (q : PortIx) (n at_ : Nat) (s : State),
      s.jnl.feCommits.find? (fun c => decide (c.1 = q.val)) = some (q.val, n, at_) ∧ 0 < at_ ∧
      at_ - 1 + 200 ≤ s.now) :=
  ⟨⟨true, { State.reset with grz.admitted := true, time.frame := 1000 }, by decide⟩,
   ⟨{ block := 0, word := storeWord 5 ^^^ 1, wrong := [], hit := .plain }, by decide +kernel⟩,
   ⟨{ block := 0, word := 0, wrong := [], hit := .plain }, by decide +kernel⟩,
   ⟨true, { State.reset with time.frame := 172800000 }, by decide⟩,
   ⟨{ State.reset with mem.dirty := some 0 }, by decide⟩,
   ⟨{ State.reset with psv.huE := 30, time.frame := 3600000 }, by decide⟩,
   ⟨{ State.reset with jnl.wearDue := true, time.frame := 1000 }, by decide⟩,
   ⟨{}, { State.reset with jnl.carrierRetry := true, jnl.mirror0 := some {} }, by decide⟩,
   ⟨127, 1, 1, { State.reset with jnl.feCommits := [(127, 1, 1)], time.frame := 200 }, by decide⟩⟩

theorem test_needs_AccessCommandsComplete :
    (∃ (id : Word) (e : LedgerEntry) (k : Nat) (s : State), Due s id 0x0101 e ∧ e.body.length = 60 ∧
      zeros e.body 1 3 = true ∧ zeros e.body 5 3 = true ∧ zeros e.body 57 3 = true ∧ rdU e.body 0 1 = 1 ∧
      rdU e.body 4 1 = k ∧ k < 4 ∧ s.acc.written.getLsbD k = false ∧ isPoint (slice e.body 8 49) = true) ∧
    (∃ (id : Word) (e : LedgerEntry) (k : Nat) (s : State), Due s id 0x1501 e ∧ e.body.length = 12 ∧
      zeros e.body 1 3 = true ∧ rdU e.body 0 1 = 1 ∧ s.currentRoot = some k ∧ s.higherRoot = true) ∧
    (∃ (id : Word) (e : LedgerEntry) (s : State), Due s id 0x1501 e ∧ e.body.length = 12 ∧
      zeros e.body 1 3 = true ∧ rdU e.body 0 1 = 2 ∧ s.acc.denyOtp.length < 32) ∧
    (∃ (s : State), s.acc.debugOpen = true) :=
  ⟨⟨1, (cmd 0x0101 ([1, 0, 0, 0, 3, 0, 0, 0] ++ p384Gen ++ [0, 0, 0]) .maker), 3,
      (dueIn .maintain (cmd 0x0101 ([1, 0, 0, 0, 3, 0, 0, 0] ++ p384Gen ++ [0, 0, 0]) .maker)),
      due_of (by decide), by decide, by decide, by decide, by decide, by decide, by decide, by decide, by decide,
      by decide +kernel⟩,
   ⟨1, (cmd 0x1501 ([1, 0, 0, 0] ++ zeros_ 8) .maker), 0,
      { dueIn .maintain (cmd 0x1501 ([1, 0, 0, 0] ++ zeros_ 8) .maker) with acc.written := 9 },
      due_of (by decide), by decide⟩,
   ⟨1, (cmd 0x1501 ([2, 0, 0, 0] ++ zeros_ 8) .maker),
      { dueIn .maintain (cmd 0x1501 ([2, 0, 0, 0] ++ zeros_ 8) .maker) with acc.denyOtp := List.replicate 31 0 },
      due_of (by decide), by decide⟩,
   ⟨{ State.reset with acc.debugOpen := true }, by decide⟩⟩
/-! ### Ill-formed commands -/

/-- The check of every simple field refuses the first value outside its range. -/
theorem test_wf_refuses_fields :
    ([.updStepDone 1 256 0 0, .updStepDone 1 1 65536 0, .updStepDone 1 1 0 65536, .updVerify 65536 0,
      .estimationPass 65536, .resetIn 0 (2 ^ 32), .frameStrobeFault 0 (some (2 ^ 32)), .psvSupply 0 (2 ^ 31),
      .powerOn (-2 ^ 31 - 1) false true 0, .copyPageRx 0 0 (2 ^ 48) true, .pairStepRx 0 (2 ^ 48) 0,
      .pairHandoverRx 0 0 256 0, .ppsEdge 0 0 false (2 ^ 31) 0 0, .cfgStageStepDone 1 256 .ok .pass .pass,
      .canTxDone 0 0 0 (2 ^ 32) false, .twAddress 0 0 true 65536, .echoReply 0 0 {} (2 ^ 32), .fwAck 0 0 {} 0 65536,
      .ptpAnnounce 0 0 256 .ethernet {}, .analogInputConversion [2 ^ 31, 0, 0, 0, 0, 0, 0, 0]] : List Instr).all
      (fun i => !i.wf) = true := by decide

/-- The check of every length refuses the first length outside its range. -/
theorem test_wf_refuses_lengths :
    ([.analogInputConversion [0], .regData 0 0 {} 0 0 33 (List.replicate 33 0),
      .feControl 0 .a {} 0 0 false (List.replicate 6 (0, 0)) .pass 0, .feRegWrite 0 0 .a {} 0 (List.replicate 33 0) .pass 0,
      .feFwBlock 0 0 .a {} 0 0 [], .twStop 0 0 (zeros_ 257), .windowWrite 0 (said 0 []) 0 0 0 [],
      .pageRelease 0 (said 0 []) (List.replicate 101 (0, 0)), .pageClaim 0 (said 0 []) 101,
      .pageReturn 0 (said 0 []) (List.replicate 101 (0, 0, 0, 0)), .tripCapture 0 0 [0], .copyAckRx 0 [708],
      .loopLiveRx 0 0 (List.replicate 65 {}) [], .pairAssignRx 0 0 [] (List.replicate 9 0),
      .pairDigestRx 0 0 []] : List Instr).all (fun i => !i.wf) = true := by decide +kernel

/-- The check of every structured operand refuses a field outside its range. -/
theorem test_wf_refuses_parts :
    ([.uploadReceived 0 0 { data := { cell := [2 ^ 23] } } [], .uploadReceived 0 0 { head := { role := 4 } } [],
      .feRepeat 0 0 .a { seq := 65536 }, .feSample 0 .a {} 0 true { cells := List.replicate 65 0 } 0,
      .siteHeartbeatRx 0 { tag := zeros_ 15 }, .sessionOpen 0 (said 0 []) { nonce := zeros_ 15 },
      .canFrameRx 0 0 { payload := zeros_ 65 }, .frameClosure { rails := List.replicate 11 0 } 0,
      .frameClosure {} 65536, .ptpSync 0 0 { domain := 256 }, .ptpAnnounce 0 0 0 .udp4 { stepsRemoved := 65536 },
      .pairHeartbeatRx 0 { bound := 2 ^ 32 }, .pairTimeSetRx 0 { pseqs := [256] },
      .replayCaughtUp { ledger := [(1024, {})] }, .pairSummaryRx 0 { str := [(16, {})] },
      .pairAssignRx 0 0 [{ seq := 2 ^ 48 }] [],
      .markhorScrub 0 [{ block := 2 ^ 32, word := 0, wrong := [], hit := .plain }],
      .scrubBurst true 0 [{ block := 0, word := 0, wrong := [4352], hit := .plain }],
      .fillComplete 0 [] { badBlock := some 65536 }] : List Instr).all (fun i => !i.wf) = true := by decide +kernel

/-- No word spells a command: the table gives no row bits. -/
theorem test_no_word : decodeTableWord 16 0xFFFF = none ∧ State.reset.withFetchWord 16 0xFFFF = State.reset :=
  ⟨rfl, rfl⟩

/-! ### Single operations and steps, with results from the spec -/

/-- The next state of a command, or the state after reset. -/
def after (i : Instr) (s : State) : State :=
  match exec i s with
  | .next t => t
  | _ => State.reset

/-- The SHA-256 hash of "abc" (FIPS 180-4). -/
theorem test_sha256 : sha256 [0x61, 0x62, 0x63] =
  [0xba, 0x78, 0x16, 0xbf, 0x8f, 0x01, 0xcf, 0xea, 0x41, 0x41, 0x40, 0xde, 0x5d, 0xae, 0x22, 0x23,
   0xb0, 0x03, 0x61, 0xa3, 0x96, 0x17, 0x7a, 0x9c, 0xb4, 0x10, 0xff, 0x61, 0xf2, 0x00, 0x15, 0xad] := by
  decide +kernel

/-- The SHA-384 hash of "abc" (FIPS 180-4). -/
theorem test_sha384 : sha384 [0x61, 0x62, 0x63] = abc384 := by decide +kernel

/-- HMAC-SHA256 of "what do ya want for nothing?" under "Jefe" (RFC 4231). -/
theorem test_hmac : hmac [0x4A, 0x65, 0x66, 0x65]
  [0x77, 0x68, 0x61, 0x74, 0x20, 0x64, 0x6f, 0x20, 0x79, 0x61, 0x20, 0x77, 0x61, 0x6e, 0x74, 0x20,
   0x66, 0x6f, 0x72, 0x20, 0x6e, 0x6f, 0x74, 0x68, 0x69, 0x6e, 0x67, 0x3f] =
  [0x5b, 0xdc, 0xc1, 0x46, 0xbf, 0x60, 0x75, 0x4e, 0x6a, 0x04, 0x24, 0x26, 0x08, 0x95, 0x75, 0xc7,
   0x5a, 0x00, 0x3f, 0x08, 0x9d, 0x27, 0x39, 0x83, 0x9d, 0xec, 0x58, 0xb9, 0x64, 0xec, 0x38, 0x43] := by
  decide +kernel

/-- R90: the CRC-32C of "123456789" by its parameters. -/
theorem test_crc : crc32c [0x31, 0x32, 0x33, 0x34, 0x35, 0x36, 0x37, 0x38, 0x39] = 0xE3069283 := by
  decide +kernel

/-- The balancing example of chapter 5: the request 0x4000010000301C00 of 60 cells, in an odd and in an even frame. -/
theorem test_balance_parity :
    let r := maskOf ((upFrom 0 60).filter (fun c => (0x4000010000301C00 : BitVec 64).getLsbD c))
    maskOf ((upFrom 0 64).filter (parityKeep r 1)) = 0x0000010000200800 ∧
      maskOf ((upFrom 0 64).filter (parityKeep r 0)) = 0x0000010000101400 := by decide

/-- The example of chapter 4: a latency of 180 ns gives `DELAY` 62. -/
theorem test_delay : ({ latency := some 180 } : LinkSt).delayOf = 62 := by decide

/-- The example of chapter 10: a choke of 200,000 nH and two steps give `LOOP_C1` 167,772. -/
theorem test_loop_c1 : loopC1 2 200000 = 167772 := by decide

/-- R387's instant: at pulse 814 a standby still waits for the active's summary. -/
theorem test_summary_before_815 :
    (after (.pairAssignMissing 814) { State.reset with pair.state := some .standby }).pair.state = some .standby := by
  decide

/-- R276's threshold: three bad pulses leave the stream valid. -/
theorem test_status_three : ((after (.statusStreamInvalid 0 0) { State.reset with
    power.port := [(0, { badRun := 3 })] }).pp 0).statInvalid = false := by decide

/-- R597: a reset pulse of less than 10 ms does nothing, one of 10 ms starts the module with cause 0x03. -/
theorem test_reset_pulse :
    (after (.resetIn 0 9) { State.reset with mode.mode := .idle }).mode.mode = .idle ∧
      (after (.resetIn 0 10) { State.reset with mode.mode := .idle }).sys.resetCause = 0x03 := by decide

/-- R480: a request completed after 100 ms and a pulse does not enter Safe. -/
theorem test_safe_request_late :
    (after (.twSafeReqComplete 1) { State.reset with
      mode.mode := .idle, tw.armed := some 0, time.ticks := 100 }).mode.mode = .idle := by decide

/-- R413: of the sequences 5 and 68, 4 is a replay and 6 is not. -/
theorem test_replay_edge :
    let u := ([5, 68] : List Nat).foldl SiteSt.take {}
    u.fresh 4 = false ∧ u.fresh 5 = false ∧ u.fresh 6 = true ∧ u.fresh 69 = true := by decide

/-- R503: nothing of a patch is in force before its frame. -/
theorem test_patch_waits : (after (.cfgPatchApply 1) { State.reset with
    site.ledger := [(0, cmd 0x1201 [] .maker)],
    cfg.jobs := [{ cmd := 1, at_ := 1, items := [{ type := 0x0803, word := 2, mask := 0xFF, value := 1 }] }] }).cfgWord
      0x0803 2 = State.reset.cfgWord 0x0803 2 := by decide

/-- R583: a loss declared twice starts one sequence. -/
theorem test_loss_once :
    (after (.inputLossDeclared 5) { State.reset with psv.loss := some { at_ := 2 } }).psv.loss.map (·.at_) =
      some 2 := by decide

/-- R538: a stored word reads back, with one inverted bit it is corrected, with two it is not. -/
theorem test_word_code :
    readWord (storeWord 0x0123456789ABCDEF) = .good 0x0123456789ABCDEF ∧
      readWord (storeWord 0x0123456789ABCDEF ^^^ 0x10) = .corrected 0x0123456789ABCDEF ∧
      readWord (storeWord 0x0123456789ABCDEF ^^^ 0x11) = .bad := by decide +kernel

/-- R269, R270: a command word comes back from its line, and not from a line with a bit inverted. -/
theorem test_word_line :
    readCmd ({ pseq := 200, gate := true, kneg := true } : CmdWord).line = some { pseq := 200, gate := true, kneg := true } ∧
      readCmd (({ pseq := 200 } : CmdWord).line ^^^ 0x100) = none := by decide +kernel

end Sys2Proof.Tests
end

section
namespace Sys2Proof.Machine

/-! ### The record of the pulse-per-second source -/

/-- What the timebase holds of the edges of `PPS_IN` (R44). -/
def TimeSt.ppsRecord (t : TimeSt) : Bool × Nat × Bool × Option Nat × Option (Nat × Nat) :=
  (t.ppsPresent, t.ppsMissed, t.todKnown, t.todNext, t.ppsAt)

@[simp] theorem State.alignJudge_ppsRecord (s : State) : s.alignJudge.time.ppsRecord = s.time.ppsRecord := by
  obtain ⟨b, g, a, e⟩ := State.alignJudge_time s
  rw [e]; rfl

@[simp] theorem State.enterHoldover_ppsRecord (s : State) (last : TimeSource) :
    (s.enterHoldover last).time.ppsRecord = s.time.ppsRecord := by
  simp [State.enterHoldover, TimeSt.ppsRecord]

/-- Taking the sources anew (R46) leaves the record of the edges. -/
@[simp] theorem State.retime_ppsRecord (s : State) (c : Nat) : (s.retime c).time.ppsRecord = s.time.ppsRecord := by
  unfold State.retime
  split
  · rfl
  · extract_lets old new s1 _ s2 _ s3
    have e2 : s2.time.ppsRecord = s.time.ppsRecord := by
      have e1 : s1.time = s.time := State.evIf_time ..
      exact (congrArg TimeSt.ppsRecord e1 :)
    rw [State.alignJudge_ppsRecord, ← e2]
    simp only [s3]
    split
    · split
      · exact State.enterHoldover_ppsRecord ..
      · split
        · exact State.enterHoldover_ppsRecord ..
        · rfl
      · rfl
    · split <;> rfl

/-- Taking an offset (R51, R52) leaves the record of the edges. -/
@[simp] theorem State.offsetTake_ppsRecord (s : State) (o f : Int) :
    (s.offsetTake o f).time.ppsRecord = s.time.ppsRecord := by
  unfold State.offsetTake
  extract_lets big _ s1 s2
  rw [State.alignJudge_ppsRecord]
  simp only [s2, State.announceStep]
  split
  · split <;> rfl
  · rfl

@[simp] theorem State.freqTake_ppsRecord (s : State) (f : FreqSource) (n : Int) :
    (s.freqTake f n).time.ppsRecord = s.time.ppsRecord := by
  unfold State.freqTake
  split <;> rfl

end Sys2Proof.Machine
end

section
namespace Sys2Proof.Machine

/-! ### PTP (R40 to R43) -/

@[simp] theorem State.ptpMine_atP (s : State) (p port d : Nat) (t : PtpTransport) :
    (s.atP p).ptpMine port d t = s.ptpMine port d t := rfl

@[simp] theorem State.ppsSecond_atP (s : State) (p : Nat) (x : Int) : (s.atP p).ppsSecond x = s.ppsSecond x := rfl

/-- A Sync of another domain or transport is none of the profile (R40). -/
theorem ptpSync_ignored (p : Pulse) (i : Fin 2) (m : PtpSync) (s : State)
    (hm : s.ptpMine i.val m.domain m.transport = false) :
    exec (.ptpSync p i m) s = .next (s.atP p.val) := by
  show ok (if _ then _ else _) = _
  rw [if_pos (by simp [hm])]
  rfl

/-- A Sync of the profile on the port in use disciplines the time (R51). -/
theorem ptpSync_disciplines (p : Pulse) (i : Fin 2) (m : PtpSync) (s : State)
    (hm : s.ptpMine i.val m.domain m.transport = true) (hf : s.time.state ≠ .following)
    (hs : s.time.source = ptpSource i.val) :
    ∃ t, exec (.ptpSync p i m) s = .next t ∧ t.time.offset = m.offset s.time.cfg.profile ∧ t.time.freqCorr = m.freq ∧
      t.time.slewing = decide (m.offset s.time.cfg.profile ≠ 0) ∧ t.time.source = s.time.source := by
  refine next_neg rfl (by simp [hm]) (next_neg rfl hf (next_pos rfl hs ⟨_, rfl, ?_⟩))
  obtain ⟨ho, hf, hl, hr, -⟩ := State.offsetTake_time
    { s.atP p.val with time.ptpOffset := some (m.offset s.time.cfg.profile) } (m.offset s.time.cfg.profile) m.freq
  exact ⟨ho, hf, hl, hr⟩

/-- A Sync of the profile on the best port of a standby is measured, and the time is not steered by it (R55). -/
theorem ptpSync_measures (p : Pulse) (i : Fin 2) (m : PtpSync) (s : State)
    (hm : s.ptpMine i.val m.domain m.transport = true) (hf : s.time.state = .following)
    (hb : s.bestPort = some i.val) :
    ∃ t, exec (.ptpSync p i m) s = .next t ∧ t.time.offset = m.offset s.time.cfg.profile ∧
      t.time.freqCorr = s.time.freqCorr ∧ t.time.slewing = s.time.slewing ∧ t.time.state = .following := 
  next_neg rfl (by simp [hm]) (next_pos rfl hf (next_pos rfl hb ⟨_, rfl, rfl, rfl, rfl, hf⟩))

@[simp] theorem State.retime_ann0 (s : State) (c : Nat) : (s.retime c).time.ann0 = s.time.ann0 :=
  congrArg (·.1) (State.retime_time s c)

@[simp] theorem State.retime_ann1 (s : State) (c : Nat) : (s.retime c).time.ann1 = s.time.ann1 :=
  congrArg (·.2.1) (State.retime_time s c)

/-- The Announce data a row gives a port stands there, and the other port keeps its own. -/
theorem ann_of_setAnn {s t : State} {i : Fin 2} {a : Announce} (h0 : t.time.ann0 = (s.setAnn i.val a).time.ann0)
    (h1 : t.time.ann1 = (s.setAnn i.val a).time.ann1) :
    (i.val = 0 → t.time.ann0 = a ∧ t.time.ann1 = s.time.ann1) ∧
      (i.val = 1 → t.time.ann1 = a ∧ t.time.ann0 = s.time.ann0) := by
  rw [h0, h1]
  constructor <;> intro hi <;> simp [State.setAnn, hi]

/-! ### 1PPS and 10 MHz (R44, R45) -/

/-- An edge of the chosen slope that is in its window, or the first one, begins the record of its second anew (R44). -/
theorem ppsEdge_recorded (p : Pulse) (b : Fin 1000) (late x f : Int) (s : State) (he : s.time.cfg.ppsEn = true)
    (hw : s.time.ppsPresent = false ∨ late.natAbs ≤ 10000) :
    ∃ t, exec (.ppsEdge p b s.time.cfg.ppsFalling late x f) s = .next t ∧
      t.time.ppsRecord =
        (true, 0, (s.ppsSecond ((s.atP p.val).ppsLocal b.val)).isSome, none,
          (s.ppsSecond ((s.atP p.val).ppsLocal b.val)).map (fun n => (n, s.time.ticks))) := by
  refine next_neg rfl (by simp [he]) (next_neg rfl ?_ ⟨_, rfl, ?_⟩)
  · rcases hw with h | h
    · simp [h]
    · simp; omega
  · rw [State.ppsSecond_atP]
    generalize s.ppsSecond ((s.atP p.val).ppsLocal b.val) = sec
    cases sec with
    | none => exact (State.freqTake_ppsRecord ..).trans (State.retime_ppsRecord ..)
    | some n =>
      dsimp only
      split
      · exact (State.offsetTake_ppsRecord ..).trans (State.retime_ppsRecord ..)
      · exact (State.freqTake_ppsRecord ..).trans (State.retime_ppsRecord ..)

/-- A frequency reference that comes or goes leaves the source of time; with no source it steers the oscillator (R45). -/
theorem ref10InChange_steers (p : Pulse) (g : Bool) (f : Int) (s : State) (h : s.time.state ≠ .following) :
    ∃ t, exec (.ref10InChange p g f) s = .next t ∧ t.time.ref10Ok = g ∧ t.time.source = s.time.source ∧
      (s.time.source = .none → s.time.cfg.ref10En = true → g = true →
        t.time.freqSource = .ref10 ∧ t.time.freqCorr = f) := by
  refine next_neg rfl h ⟨_, rfl, ?_⟩
  unfold State.freqTake
  split
  · exact ⟨rfl, rfl, fun hs he hg => ⟨by simp [State.freqSource, hs, he, hg], rfl⟩⟩
  · next hn =>
    refine ⟨rfl, rfl, fun hs he hg => absurd ⟨h, ?_⟩ hn⟩
    simp [State.freqSource, hs, he, hg]

/-- TIME_SET_TOD names the second of the next edge (R44). -/
theorem timeSetTod_done (id : Word) (e : LedgerEntry) (s : State) (h : Due s id 0x0201 e) (hl : e.body.length = 8) :
    ∃ t, exec (.timeSetTod id) s = .next t ∧ t.time.todNext = some (rdU e.body 0 8) ∧ t.cmdStands id .done .ok := by
  refine State.evaluate_next rfl h (by simp [Checks.pass, hl]) fun x w hf he hw hid => ?_
  refine ⟨by simp, ?_⟩
  rw [hid]
  exact State.cmdDone_after he hw rfl

/-- Settles O38: one lemma per row. What a Sync, an Announce or an edge brings into the timebase is read off the
operation that takes it, and what taking the sources anew leaves of the rest. -/
theorem timeSourceCommandsComplete : Obligations.TimeSourceCommandsComplete := by
  refine ⟨ptpSync_disciplines, ptpSync_measures, ptpSync_ignored, ?_, ?_, ?_, ?_, ?_, ?_, ref10InChange_steers,
    timeSetTod_done⟩
  · exact fun p i x a s hm => next_neg rfl (by simp [hm])
      ⟨_, rfl, ann_of_setAnn (s := s.atP p.val) (State.retime_ann0 ..) (State.retime_ann1 ..)⟩
  · intro p i s
    refine ⟨_, rfl, ann_of_setAnn (s := s.atP p.val) ((State.retime_ann0 ..).trans ?_)
      ((State.retime_ann1 ..).trans ?_)⟩ <;> split <;> rfl
  · exact fun p i s ho hp => next_pos rfl ⟨ho, hp⟩ ⟨_, rfl, rfl⟩
  · intro p b late x f s he hw
    obtain ⟨t, ht, hr⟩ := ppsEdge_recorded p b late x f s he hw
    simp only [TimeSt.ppsRecord, Prod.mk.injEq] at hr
    obtain ⟨hp, hm, hk, hn, ha⟩ := hr
    exact ⟨t, ht, hp, hm, hn, ha, by rw [hk, ha, Option.isSome_map]⟩
  · intro p b late x f s he hp hl
    exact next_neg rfl (by simp [he]) (next_pos rfl (by simp [hp, hl]) ⟨_, rfl, rfl⟩)
  · intro p s
    refine ⟨_, rfl, ?_⟩
    have h := State.retime_ppsRecord
      { s.atP p.val with time.ppsPresent := false, time.todKnown := false, time.ppsAt := none, time.ppsMissed := 3 } 1
    simp only [TimeSt.ppsRecord, Prod.mk.injEq] at h
    obtain ⟨hp, -, hk, -⟩ := h
    exact ⟨hp, hk⟩

end Sys2Proof.Machine
end

section
namespace Sys2Proof.Machine

/-! ### The error bound (R48, R49, R54) -/

/-- Judging the alignment reports a bound, and aligns the module that is synchronised within its limit (R48). -/
theorem State.alignJudge_of_bound {s : State} {n : Nat} (h : s.boundTake.time.errorBound = n) :
    s.alignJudge.time = { s.time with
      holdoverGood := s.boundTake.time.holdoverGood, errorBound := n,
      aligned := !s.time.unsynced && decide (n ≤ s.time.cfg.alignLimit) } := by
  subst h
  simp only [State.alignJudge, State.evIf_time]
  rfl

theorem State.boundTake_of_locked {s : State} (hu : s.time.unsynced = false) (h : s.time.state = .locked) :
    s.boundTake.time.errorBound = 1000 := by
  simp [State.boundTake, State.boundNow, hu, h, sat32u, satN]

theorem State.boundTake_of_acquiring {s : State} (h : s.time.state = .acquiring) :
    s.boundTake.time.errorBound =
      if s.time.unsynced then 0xFFFFFFFF else sat32u (s.time.offset.natAbs + 1000) := by
  cases hu : s.time.unsynced <;> simp [State.boundTake, State.boundNow, hu, h, sat32u, satN]

/-- In Holdover, while R54's conditions hold, the bound is that of Table 2-5. -/
theorem State.boundTake_of_holdover {s : State} (hu : s.time.unsynced = false) (h : s.time.state = .holdover)
    (hg : s.time.holdoverGood = true) (ht : (s.time.oscTemp - s.time.ambientAtLoss).natAbs ≤ 1000) :
    s.boundTake.time.errorBound = sat32u (holdoverBound (s.now - s.time.holdoverFrom)) := by
  simp [State.boundTake, State.boundNow, State.now, hu, h, hg, ht]

/-! ### Lock, excursion and alignment (Table 2-4) -/

theorem timeLocked_locks (p : Pulse) (s : State) (ha : s.time.state = .acquiring) (ho : s.time.offset.natAbs ≤ 250) :
    ∃ t, exec (.timeLocked p) s = .next t ∧ t.time.state = .locked ∧ t.time.everLocked = true ∧
      t.time.unsynced = false ∧ t.time.lockedFrom = s.now ∧ t.time.errorBound = 1000 ∧
      t.time.aligned = decide (1000 ≤ s.time.cfg.alignLimit) ∧ t.time.offset = s.time.offset ∧
      t.time.frame = s.time.frame ∧ t.time.source = s.time.source := by
  refine next_pos rfl ⟨ha, ho⟩ ⟨_, rfl, ?_⟩
  rw [State.alignJudge_of_bound (State.boundTake_of_locked rfl rfl)]
  simp

theorem timeOffsetExcursion_reacquires (p : Pulse) (s : State) (hl : s.time.state = .locked)
    (ho : 1000 < s.time.offset.natAbs) :
    ∃ t, exec (.timeOffsetExcursion p) s = .next t ∧ t.time.state = .acquiring ∧ t.time.offset = s.time.offset ∧
      t.time.source = s.time.source ∧ t.time.frame = s.time.frame ∧
      t.time.errorBound = (if s.time.unsynced then 0xFFFFFFFF else sat32u (s.time.offset.natAbs + 1000)) := by
  refine next_pos rfl ⟨hl, ho⟩ ⟨_, rfl, ?_⟩
  rw [State.alignJudge_of_bound (State.boundTake_of_acquiring rfl)]
  exact ⟨rfl, rfl, rfl, rfl, rfl⟩

/-- A bound beyond `TIME_ALIGN_LIMIT` ends the alignment and is reported; the state and the frame stay (R48). -/
theorem timeAlignLost_of_bound {p : Pulse} {s : State} {n : Nat} (h : (s.atP p.val).boundTake.time.errorBound = n)
    (hn : s.time.cfg.alignLimit < n) :
    ∃ t, exec (.timeAlignLost p) s = .next t ∧ t.time.aligned = false ∧ t.time.errorBound = n ∧
      t.time.state = s.time.state ∧ t.time.offset = s.time.offset ∧ t.time.frame = s.time.frame := by
  refine ⟨_, rfl, ?_⟩
  rw [State.alignJudge_of_bound h]
  exact ⟨by simp [Nat.not_le.mpr hn], rfl, rfl, rfl, rfl⟩

/-! ### Step (R52) -/

/-- An announced step that is due is made in the modes of R52. -/
theorem timeStep_makes (n : Nat) (s : State) (ha : s.time.stepAt = some (s.now + 1, n))
    (hm : s.mode.mode ∈ [Mode.idle, .maintain, .rest]) : exec .timeStep s = .next ((s.atP 999).stepTo n) := by
  have hs : (s.atP 999).mayStep = true := decide_eq_true hm
  show execTimeStep s = _
  simp [execTimeStep, ha, hs, ok]

/-- In another mode it is given up (log 16). -/
theorem timeStep_givesUp (n : Nat) (s : State) (ha : s.time.stepAt = some (s.now + 1, n))
    (hm : s.mode.mode ∉ [Mode.idle, .maintain, .rest]) : exec .timeStep s = .next (s.atP 999).stepPut := by
  have hs : (s.atP 999).mayStep = false := decide_eq_false hm
  show execTimeStep s = _
  simp [execTimeStep, ha, hs, ok]

/-- A module that is no active steps with nothing announced where a step is due (log 16). -/
theorem timeStep_alone (s : State) (ha : s.time.stepAt = none) (hm : s.mode.mode ∈ [Mode.idle, .maintain, .rest])
    (ho : 1000000 < s.time.offset.natAbs) (hs : s.time.source ≠ .none) (hf : s.time.state ≠ .following)
    (hp : s.pair.state ≠ some .active) : exec .timeStep s = .next ((s.atP 999).stepTo s.stepNumber) := by
  have hs0 : (s.atP 999).mayStep = true := decide_eq_true hm
  show execTimeStep s = _
  simp [execTimeStep, ha, hs0, ho, hs, hf, hp, ok, State.stepNumber]

/-- Settles O39: the rows of Table 2-4 by the bound that each state reports, the rows of the step by the operation that
makes it. -/
theorem timebaseCommandsComplete : Obligations.TimebaseCommandsComplete := by
  refine ⟨timeLocked_locks, timeOffsetExcursion_reacquires, ?_, ?_, ?_, ?_, ?_, ?_⟩
  · intro p s hu hs hl
    have hb := State.boundTake_of_acquiring (s := s.atP p.val) hs
    obtain ⟨t, ht, ha, he, hst, ho, hf⟩ := timeAlignLost_of_bound (n := sat32u (s.time.offset.natAbs + 1000))
      (hb.trans (by simp [hu])) hl
    exact ⟨t, ht, ha, he, hst.trans hs, ho, hf⟩
  · intro p s hu hs hg hT hl
    obtain ⟨t, ht, ha, he, hst, -, hf⟩ := timeAlignLost_of_bound
      (State.boundTake_of_holdover (s := s.atP p.val) hu hs hg hT) hl
    exact ⟨t, ht, ha, he, hst.trans hs, hf⟩
  · exact fun p s h => next_pos rfl h ⟨_, rfl, rfl⟩
  · intro n s ha hm
    obtain ⟨hf, hn, hp, ho, hb⟩ := State.stepTo_time (s.atP 999) n
    exact ⟨_, timeStep_makes n s ha hm, hf, hn, hp, ho, hb⟩
  · exact fun n s ha hm => ⟨_, timeStep_givesUp n s ha hm, rfl, rfl, rfl, rfl⟩
  · intro s ha hm ho hs hf hp
    obtain ⟨hn, -, hsp, -⟩ := State.stepTo_time (s.atP 999) s.stepNumber
    exact ⟨_, timeStep_alone s ha hm ho hs hf hp, hn, hsp⟩

end Sys2Proof.Machine
end

section
namespace Sys2Proof.Machine

/-! ### Overruns (R36, R39) -/

/-- An overrun journals and counts in the frame, and does not move it. -/
@[simp] theorem State.overrun_now (s : State) (k : OverrunKind) : (s.overrun k).now = s.now :=
  (State.overrun_frame ..).frame_eq (by decide)

/-- After an overrun its kind has overrun in the frame, whether for the first time or not. -/
@[simp] theorem State.overrun_overran (s : State) (k : OverrunKind) : (s.overrun k).overran k = true := by
  cases h : s.overran k
  · exact (State.overrun_time h).1
  · rw [State.overrun, if_pos h, h]

theorem elandOverrun_counts (s : State) (h : s.overran .eland = false) :
    ∃ t, exec .elandOverrun s = .next t ∧ t.overran .eland = true ∧ t.time.runEland = sat32u (s.time.runEland + 1) ∧
      t.est.lastOverrun = some s.now ∧ t.grz.elasticUp = true := by
  obtain ⟨ho, hr⟩ := State.overrun_time (s := s.atP 900) h
  exact ⟨_, rfl, ho, hr, congrArg some (State.overrun_now ..), rfl⟩

theorem journalCommitOverrun_counts (s : State) (hq : s.jnl.queue ≠ []) (h : s.overran .journal = false) :
    ∃ t, exec .journalCommitOverrun s = .next t ∧ t.overran .journal = true ∧
      t.time.runJournal = sat32u (s.time.runJournal + 1) :=
  next_neg rfl hq ⟨_, rfl, State.overrun_time (s := s.atP 999) h⟩

/-! ### Sensors and the elastic level (R364, R367) -/

/-- A failed rail is marked by its own bit (R364). -/
theorem grzSensor_rail (p : Pulse) (r : Fin 10) (f : Bool) (s : State) (h : has s.grz.railFail r.val ≠ f) :
    ∃ t, exec (.grzSensor p (.rail r) f) s = .next t ∧ has t.grz.railFail r.val = f ∧
      (∀ j, j ≠ r.val → has t.grz.railFail j = has s.grz.railFail j) ∧ t.grz.diodeFail = s.grz.diodeFail ∧
      t.grz.baseFail = s.grz.baseFail := by
  have hr : r.val < 16 := by omega
  refine next_neg rfl h ⟨_, rfl, ?_⟩
  simp only [State.ev_grz, State.atP_grz, has_putBit _ hr]
  exact ⟨if_pos trivial, fun j hj => if_neg hj, trivial, trivial⟩

/-- One bit of the diodes set or cleared: it reads as asked, and every other bit as before. -/
theorem diodeBit_getLsbD (m : BitVec 4) (d : Fin 4) (f : Bool) (j : Nat) :
    (if f then m ||| ((1 : BitVec 4) <<< d.val) else m &&& ~~~((1 : BitVec 4) <<< d.val)).getLsbD j =
      if j = d.val then f else m.getLsbD j := by
  have one : ((1 : BitVec 4) <<< d.val).getLsbD j = decide (d.val = j) := by
    rw [show (1 : BitVec 4) <<< d.val = BitVec.twoPow 4 d.val from (BitVec.twoPow_eq ..).symm,
      BitVec.getLsbD_twoPow]
    simp [d.isLt]
  have off : j = d.val → j < 4 := fun e => e ▸ d.isLt
  have out : m.getLsbD j = true → j < 4 := BitVec.lt_of_getLsbD
  cases f
  · simp only [Bool.false_eq_true, if_false, BitVec.getLsbD_and, BitVec.getLsbD_not, one]
    grind
  · simp only [if_true, BitVec.getLsbD_or, one]
    grind

/-- A failed diode is marked by its own bit (R364). -/
theorem grzSensor_diode (p : Pulse) (d : Fin 4) (f : Bool) (s : State) (h : s.grz.diodeFail.getLsbD d.val ≠ f) :
    ∃ t, exec (.grzSensor p (.diode d) f) s = .next t ∧ t.grz.diodeFail.getLsbD d.val = f ∧
      (∀ j, j ≠ d.val → t.grz.diodeFail.getLsbD j = s.grz.diodeFail.getLsbD j) ∧
      t.grz.railFail = s.grz.railFail ∧ t.grz.baseFail = s.grz.baseFail := by
  refine next_neg rfl h ⟨_, rfl, ?_⟩
  simp only [State.ev_grz, State.atP_grz, diodeBit_getLsbD]
  exact ⟨if_pos trivial, fun j hj => if_neg hj, trivial, trivial⟩

theorem grzSensor_base (p : Pulse) (f : Bool) (s : State) (h : s.grz.baseFail ≠ f) :
    ∃ t, exec (.grzSensor p .base f) s = .next t ∧ t.grz = { s.grz with baseFail := f } :=
  next_neg rfl h ⟨_, rfl, by simp only [State.ev_grz, State.atP_grz]⟩

/-- A change of the elastic level journals, and writes the level alone. -/
@[simp] theorem State.setElastic_grz (s : State) (r cause : Nat) :
    (s.setElastic r cause).grz = { s.grz with elastic := r } := by
  unfold State.setElastic
  split
  · next h => rw [h]
  · simp only [State.ev_grz]

theorem elasticRecovery_lowers (p : Pulse) (s : State) (hc : 10000 ≤ s.grz.elasticClean)
    (hl : (if 4 ≤ s.grz.rung then 2 else 0) < s.grz.elastic) :
    ∃ t, exec (.elasticRecovery p) s = .next t ∧
      t.grz = { s.grz with elastic := s.grz.elastic - 1, elasticClean := 0 } :=
  next_pos rfl ⟨hc, hl⟩ ⟨_, rfl, by simp only [State.setElastic_grz, State.atP_grz]⟩

/-! ### The roster (R370, R371) -/

/-- The roster of the second keeps the present one at a demand below R370's threshold (log 94), and orders the changes to
the computed one otherwise. -/
theorem rosterCompute_computes (p : Pulse) (s : State) (hs : s.now % 1000 = 999) (h1 : 820 ≤ p.val) (h2 : p.val ≤ 950)
    (hr : s.rosterRuns = true) :
    ∃ t, exec (.rosterCompute p) s = .next t ∧ t.grz.demand = s.demandNow ∧
      (360000 * s.demandNow.natAbs < s.qDesign * s.strings.length →
        t.grz.changes = [] ∧ t.grz.rosterDue = none ∧ t.grz.serve = s.grz.serve) ∧
      (s.qDesign * s.strings.length ≤ 360000 * s.demandNow.natAbs →
        t.grz.rosterDue = some (s.now + 1) ∧ t.grz.hPred = (s.rosterOf s.demandNow).heat ∧
        t.grz.serve = (s.rosterOf s.demandNow).want.foldl withBit 0 ∧
        t.grz.changes = s.rosterChanges s.demandNow (s.rosterOf s.demandNow) ∧
        t.grz.changes.length ≤ s.grz.cfg.maxChanges) := by
  refine next_pos rfl ⟨hs, h1, h2, hr⟩ ?_
  by_cases hd : 360000 * s.demandNow.natAbs < s.qDesign * s.strings.length
  · exact next_pos rfl hd ⟨_, rfl, rfl, fun _ => ⟨rfl, rfl, rfl⟩, fun h => absurd hd (Nat.not_lt.mpr h)⟩
  · exact next_neg rfl hd ⟨_, rfl, rfl, fun h => absurd h hd,
      fun _ => ⟨rfl, rfl, rfl, rfl, List.length_take_le ..⟩⟩

/-- Settles O32: one lemma per row. -/
theorem grazeCommandsComplete : Obligations.GrazeCommandsComplete :=
  ⟨elandOverrun_counts, journalCommitOverrun_counts, grzSensor_rail, grzSensor_diode, grzSensor_base,
    elasticRecovery_lowers, rosterCompute_computes⟩

end Sys2Proof.Machine
end

section
namespace Sys2Proof.Machine

/-! ### What the operations of the envelope leave in its state -/

theorem State.canPairOut_dsp (s : State) (o : Nat) (b : Bytes) : (s.canPairOut o b).dsp = s.dsp :=
  (State.canPairOut_frame ..).dsp_eq (by decide)

/-- Queueing the outputs marks `LIMITS` queued, and writes nothing else of the envelope. -/
theorem State.outputsQueue_dsp (s : State) : ∃ q, s.outputsQueue.dsp = { s.dsp with queued := q } := by
  have e : s.outputsQueue.dsp = s.queueLimits.dsp :=
    ((State.statusPush_frame ..).dsp_eq (by decide)).trans ((State.queueState_frame ..).dsp_eq (by decide))
  rw [e, State.queueLimits]
  split
  · exact ⟨true, by simp only [State.canPairOut_dsp]⟩
  · exact ⟨s.dsp.queued, rfl⟩

/-- A request of R358 stands, and the clear second begins anew. -/
theorem State.derateAsk_dsp (s : State) (z : Bool) : (s.derateAsk z).dsp =
    if z then { s.dsp with reqZero := true, clearFrom := none }
    else { s.dsp with reqCurrent := true, clearFrom := none } := by
  cases z <;> simp [State.derateAsk]

/-- Zeroing the limits sent (Table 2-2) writes nothing else of the envelope but the request and the strings. -/
theorem State.zeroLimits_dsp (s : State) : ∃ r c l, s.zeroLimits.dsp = { s.dsp with
    chg := [0, 0, 0, 0], dis := [0, 0, 0, 0], zeroed := true, stale := true, reqZero := r, clearFrom := c, str := l } := by
  unfold State.zeroLimits
  extract_lets z s1 _
  have e : s1.dsp = { s.dsp with reqZero := s1.dsp.reqZero, clearFrom := s1.dsp.clearFrom } := by
    simp only [s1]
    split
    · rfl
    · rw [State.derateAsk_dsp]; rfl
  have written (l : Tab StrDsp) : ({ s1.dsp with chg := z, dis := z, zeroed := true, stale := true, str := l } : DspSt) =
      { s.dsp with
        chg := z, dis := z, zeroed := true, stale := true, reqZero := s1.dsp.reqZero,
        clearFrom := s1.dsp.clearFrom, str := l } := by
    rw [e]
  exact ⟨_, _, _, written _⟩

/-! ### An envelope that is late (R36) -/

theorem sat32u_succ_ge {n k : Nat} (h : k ≤ n) (hk : k < 0xFFFFFFFF) : k + 1 ≤ sat32u (n + 1) := by
  simp only [sat32u, satN]
  split <;> omega

/-- Recording the union of the summaries leaves the time. -/
theorem State.recordUnion_time (s : State) : s.recordUnion.time = s.time :=
  (State.recordUnion_frame ..).time_eq (by decide)

/-- A late envelope is done and stale, and raises the elastic level. -/
theorem State.envelopeLate_marks (s : State) :
    s.envelopeLate.dsp.done = true ∧ s.envelopeLate.dsp.stale = true ∧
      s.envelopeLate.dsp.lastOverrun = some s.now ∧ s.envelopeLate.grz.elasticUp = true := by
  unfold State.envelopeLate
  extract_lets s1 _ _ s2 s3
  have hn : s1.now = s.now :=
    (State.overrun_now ..).trans ((State.recordUnion_frame ..).frame_eq (by decide))
  have hg : s3.grz = s2.grz := by
    simp only [s3]
    split
    · exact (State.zeroLimits_frame ..).grz_eq (by decide)
    · rfl
  have hd : s3.dsp.done = true ∧ s3.dsp.stale = true ∧ s3.dsp.lastOverrun = some s.now := by
    simp only [s3]
    split
    · obtain ⟨r, c, l, e⟩ := State.zeroLimits_dsp s2
      rw [e]
      exact ⟨rfl, rfl, congrArg some hn⟩
    · exact ⟨rfl, rfl, congrArg some hn⟩
  obtain ⟨q, e⟩ := State.outputsQueue_dsp s3
  rw [e, (State.outputsQueue_frame ..).grz_eq (by decide), hg]
  exact ⟨hd.1, hd.2.1, hd.2.2, rfl⟩

/-- A late envelope after ten late ones zeroes every limit sent. -/
theorem State.envelopeLate_zeroes (s : State) (hr : 10 ≤ s.time.runEnvelope)
    (ho : s.overran .envelope = false) :
    s.envelopeLate.dsp.zeroed = true ∧ s.envelopeLate.dsp.chg = [0, 0, 0, 0] ∧
      s.envelopeLate.dsp.dis = [0, 0, 0, 0] := by
  unfold State.envelopeLate
  extract_lets s1 _ _ s2 s3
  have hov : s.recordUnion.overran .envelope = false := by
    rw [State.overran, State.recordUnion_time]; exact ho
  have hrun : s2.time.runEnvelope = sat32u (s.time.runEnvelope + 1) := by
    have h := (State.overrun_time hov).2
    rwa [State.runOf, State.runOf, State.recordUnion_time] at h
  have h3 : s3 = s2.zeroLimits := if_pos (hrun ▸ sat32u_succ_ge hr (by decide))
  obtain ⟨r, c, l, ez⟩ := State.zeroLimits_dsp s2
  obtain ⟨q, e⟩ := State.outputsQueue_dsp s3
  rw [e, h3, ez]
  exact ⟨rfl, rfl, rfl⟩

/-! ### The rows of the envelope -/

theorem envelope_computes (s : State) (hr : s.runtimeRuns = true) (hd : s.dsp.done = false) :
    ∃ t, exec .envelope s = .next t ∧ t.dsp.done = true ∧ t.dsp.stale = false ∧ t.dsp.zeroed = false ∧
      t.mode.mode = s.mode.mode := by
  refine next_pos rfl ⟨hr, by simp [hd]⟩ ⟨_, rfl, ?_⟩
  generalize hu : (s.atP 820).recordUnion = u
  have hm : u.mode.mode = s.mode.mode := by
    rw [← hu, (State.recordUnion_frame ..).modeNow_eq (by decide), State.atP_mode]
  obtain ⟨q, e⟩ := State.outputsQueue_dsp u.envelope.balancePlan
  rw [e, (State.balancePlan_frame ..).dsp_eq (by decide), (State.outputsQueue_frame ..).modeNow_eq (by decide),
    (State.balancePlan_frame ..).modeNow_eq (by decide), (State.envelope_frame ..).modeNow_eq (by decide)]
  exact ⟨rfl, rfl, rfl, hm⟩

/-- An output not queued in time is marked overrun, and the frame's own outputs of the kind go (R36). -/
theorem outputQueueOverrun_drops (o : OutKind) (s : State) :
    ∃ t, exec (.outputQueueOverrun o) s = .next t ∧ t.time.overrunNow.getLsbD 2 = true ∧
      (o = .dispatch → ∀ m ∈ t.site.sent, ¬(m.type = 0x21 ∧ m.frame = s.now ∧ m.pairOut = true)) ∧
      (o = .sitePush → ∀ m ∈ t.site.sent, ¬(m.type = 0x21 ∧ m.frame = s.now ∧ m.pairOut = false)) := by
  have ho : ((s.atP 950).overrun .output).time.overrunNow.getLsbD 2 = true := State.overrun_overran ..
  have hn : ((s.atP 950).overrun .output).now = s.now := State.overrun_now ..
  have keep : ∀ n b, (((s.atP 950).overrun .output).canUnqueue n b).time.overrunNow.getLsbD 2 = true := fun n b => by
    rw [(State.canUnqueue_frame ..).time_eq (by decide)]; exact ho
  cases o with
  | limits => exact ⟨_, rfl, keep .., nofun, nofun⟩
  | moduleState => exact ⟨_, rfl, keep .., nofun, nofun⟩
  | thermalSet i => exact ⟨_, rfl, keep .., nofun, nofun⟩
  | dispatch =>
    refine ⟨_, rfl, ho, fun _ m hm ⟨ht, hf, hp⟩ => ?_, nofun⟩
    have h := (List.mem_filter.mp hm).2
    simp [hn, ht, hf, hp] at h
  | sitePush =>
    refine ⟨_, rfl, ho, nofun, fun _ m hm ⟨ht, hf, hp⟩ => ?_⟩
    have h := (List.mem_filter.mp hm).2
    simp [hn, ht, hf, hp] at h

theorem derateCurrentExcess_asks (p : Pulse) (s : State) (he : 200 ≤ s.dsp.excess) (hr : s.dsp.reqCurrent = false) :
    ∃ t, exec (.derateCurrentExcess p) s = .next t ∧ t.dsp.reqCurrent = true ∧ t.dsp.clearFrom = none ∧
      t.dsp.reqZero = s.dsp.reqZero := by
  refine next_pos rfl ⟨he, by simp [hr]⟩ ⟨_, rfl, ?_⟩
  rw [State.derateAsk_dsp]
  exact ⟨rfl, rfl, rfl⟩

theorem derateRelease_releases (p : Pulse) (f : Nat) (s : State) (hc : s.dsp.clearFrom = some f)
    (hf : f + 1000 ≤ s.now) (hr : s.dsp.reqCurrent = true ∨ s.dsp.reqZero = true) :
    ∃ t, exec (.derateRelease p) s = .next t ∧ t.dsp.reqCurrent = false ∧ t.dsp.reqZero = false := by
  show ∃ t, execDerateRelease p s = .next t ∧ _
  simp only [execDerateRelease, State.atP_dsp, hc]
  exact next_pos rfl ⟨hf, hr⟩ ⟨_, rfl, rfl, rfl⟩

/-- A window of at least a tenth that holds the middle is set (R360). -/
theorem dspSocWindow_done (id : Word) (e : LedgerEntry) (s : State) (h : Due s id 0x0C01 e) (hl : e.body.length = 8)
    (hw : 2 ^ 32 ≤ 10 * (rdU e.body 4 4 - rdU e.body 0 4)) (h1 : rdU e.body 0 4 ≤ 2 ^ 31)
    (h2 : 2 ^ 31 ≤ rdU e.body 4 4) :
    ∃ t, exec (.dspSocWindow id) s = .next t ∧ t.dsp.socMin = rdU e.body 0 4 ∧ t.dsp.socMax = rdU e.body 4 4 ∧
      t.cmdStands id .done .ok := by
  have hok : socWindowOk (rdU e.body 0 4) (rdU e.body 4 4) = true := by
    simp only [socWindowOk, hw, h1, h2, decide_true, Bool.and_self]
  refine State.evaluate_next rfl h (by simp [Checks.pass, hl, hok]) fun x w hf he ht hid => ?_
  rw [hid]
  refine ⟨by simp, by simp, State.cmdDone_after he ht ?_⟩
  exact congrArg SiteSt.ledger (State.ev_site ..)

/-- Settles O31: one lemma per row; the two overruns of the envelope share what a late envelope does. -/
theorem envelopeCommandsComplete : Obligations.EnvelopeCommandsComplete :=
  ⟨envelope_computes,
    fun s hr hd => next_pos rfl ⟨hr, by simp [hd]⟩ ⟨_, rfl, State.envelopeLate_marks (s.atP 950)⟩,
    fun s hr hd h10 ho =>
      next_pos rfl ⟨hr, by simp [hd], h10⟩ ⟨_, rfl, State.envelopeLate_zeroes (s.atP 950) h10 ho⟩,
    outputQueueOverrun_drops, derateCurrentExcess_asks, derateRelease_releases, dspSocWindow_done⟩

end Sys2Proof.Machine
end

section
namespace Sys2Proof.Machine

/-! ### What the operations of the pair leave in its state -/

/-- Judging the charge line writes its fault alone (R398). -/
@[simp] theorem State.lineJudge_pair (s : State) (bad : Bool) :
    (s.lineJudge bad).pair = { s.pair with lineFault := bad } := by
  unfold State.lineJudge
  split
  · next h => rw [h]
  · simp only [State.ev_pair]

theorem State.pairSend_pair {s : State} (h : s.pair.lane0 = true) (m : PairMsg) :
    (s.pairSend m).pair = { s.pair with sent := m :: s.pair.sent } := by
  rw [State.pairSend, if_pos (by simp [h])]

@[simp] theorem State.copyEvent_pair (s : State) (kind : Nat) : (s.copyEvent kind).pair = s.pair := State.ev_pair ..

theorem State.abortConnects_pair (s : State) (ks : List Nat) : (s.abortConnects ks).pair = s.pair :=
  (State.abortConnects_frame ..).pair_eq (by decide)

theorem State.alignJudge_pair (s : State) : s.alignJudge.pair = s.pair :=
  (State.alignJudge_frame ..).pair_eq (by decide)

theorem State.timeUnfollow_pair (s : State) : s.timeUnfollow.pair = s.pair :=
  (State.timeUnfollow_frame ..).pair_eq (by decide)

/-- A module that no longer follows is in another state of Table 2-4 (R58). -/
theorem State.timeUnfollow_state (s : State) : s.timeUnfollow.time.state ≠ .following := by
  unfold State.timeUnfollow
  split
  · extract_lets src _ s1
    obtain ⟨b, g, a, e⟩ := State.alignJudge_time (if src ≠ .none then { s1 with time.state := .acquiring }
      else if s1.time.activeEverLocked then s1.enterHoldover .pair else { s1 with time.state := .freerun })
    rw [e]
    split
    · exact nofun
    · split
      · exact nofun
      · exact nofun
  · assumption

/-- Without an input loss a heartbeat judges none (R585). -/
theorem State.lossJudge_none {s : State} (h : s.psv.loss = none) (hb : PairHb) : s.lossJudge hb = s := by
  simp [State.lossJudge, h]

/-- A pair state entered keeps what the module knows of its peer and of the line. -/
theorem State.setPair_peer (s : State) (new : PairState) (c : Nat) :
    (s.setPair new c).pair.state = some new ∧ (s.setPair new c).pair.since = s.now ∧
      (s.setPair new c).pair.hbValid = s.pair.hbValid ∧ (s.setPair new c).pair.peerState = s.pair.peerState ∧
      (s.setPair new c).pair.peerActive = s.pair.peerActive ∧ (s.setPair new c).pair.chgIn = s.pair.chgIn ∧
      (s.setPair new c).pair.lineFault = s.pair.lineFault ∧ (s.setPair new c).pair.joining = false := by
  obtain ⟨o, e⟩ := State.setPair_pair s new c
  rw [e]
  exact ⟨rfl, rfl, rfl, rfl, rfl, rfl, rfl, rfl⟩

/-! ### Heartbeats, line and lanes (R378, R381) -/

theorem pairHeartbeatSend_sends (n : Fin 10) (s : State) (hp : s.pair.state ≠ none) (hl : s.pair.lane0 = true) :
    ∃ t, exec (.pairHeartbeatSend n) s = .next t ∧ t.pair.nHeartbeat = sat32u (s.pair.nHeartbeat + 1) ∧
      t.pair.sent = .heartbeat s.pair.state s.pair.chgOut s.psv.loss.isSome
        (decide (s.pair.state = some .joining) && !s.pair.joining) s.mode.mode.code s.now
        (s.atP (100 * n.val)).nowNs :: s.pair.sent := by
  refine next_pos rfl (.inl (Option.isSome_iff_ne_none.mpr hp)) ⟨_, rfl, rfl, ?_⟩
  dsimp only
  rw [State.pairSend_pair (s := s.atP (100 * n.val)) hl]
  rfl

theorem pairHeartbeatRx_listens (p : Pulse) (h : PairHb) (s : State) (hs : s.pair.state = some .listen)
    (hl : s.psv.loss = none) :
    ∃ t, exec (.pairHeartbeatRx p h) s = .next t ∧ t.pair.hbValid = true ∧ t.pair.peerState = h.state ∧
      t.pair.peerActive = h.active ∧ t.pair.state = some (if h.active then .joining else .listen) := by
  show ∃ t, execPairHeartbeatRx p h s = .next t ∧ _
  unfold execPairHeartbeatRx
  extract_lets s0 was s1 s2 s3
  have h2 : s2.pair = s1.pair := by
    simp only [s2]
    split
    · exact State.alignJudge_pair s1
    · rfl
  have f2 : s2.psv.loss = none := by
    have f1 : s1.psv = s.psv :=
      ((State.lineJudge_frame ..).psv_eq (by decide)).trans ((State.peerTake_frame ..).psv_eq (by decide))
    have f : s2.psv = s1.psv := by
      simp only [s2]
      split
      · exact (State.alignJudge_frame ..).psv_eq (by decide)
      · rfl
    rw [f, f1, hl]
  have h3 : s3 = s2 := State.lossJudge_none f2 h
  have e : s3.pair = { (s0.peerTake h).pair with lineFault := !s0.pair.chgIn && h.active } := by
    rw [h3, h2, State.lineJudge_pair]
  have hst : s3.pair.state = some .listen := by rw [e]; exact hs
  rw [hst]
  cases ha : h.active
  · refine ⟨_, rfl, ?_⟩
    simp only [Bool.false_eq_true, if_false, e]
    exact ⟨rfl, rfl, ha, hs⟩
  · refine ⟨_, rfl, ?_⟩
    simp only [if_true]
    obtain ⟨q1, -, q3, q4, q5, -⟩ := State.setPair_peer s3 .joining 2
    rw [q1, q3, q4, q5, e]
    exact ⟨rfl, rfl, ha, rfl⟩

theorem chgInChange_asserted (p : Pulse) (s : State) (hs : s.pair.state = some .listen) :
    ∃ t, exec (.chgInChange p true) s = .next t ∧ t.pair.chgIn = true ∧ t.pair.lineFault = false ∧
      t.pair.state = some .joining := by
  let s1 : State := { s.atP p.val with pair.chgIn := true }
  have e : (s1.lineJudge false).pair = { s1.pair with lineFault := false } := State.lineJudge_pair ..
  refine next_pos rfl rfl (next_pos rfl (show (s1.lineJudge false).pair.state = _ by rw [e]; exact hs) ⟨_, rfl, ?_⟩)
  obtain ⟨q1, -, -, -, -, q6, q7, -⟩ := State.setPair_peer (s1.lineJudge false) .joining 2
  rw [e] at q6 q7
  exact ⟨q6, q7, q1⟩

theorem chgInChange_released (p : Pulse) (s : State) (hs : s.sys.slot = .b) :
    ∃ t, exec (.chgInChange p false) s = .next t ∧ t.pair = { s.pair with chgIn := false } :=
  next_neg rfl nofun (next_neg rfl (show ¬ s.sys.slot = .a by rw [hs]; exact nofun) ⟨_, rfl, rfl⟩)

theorem pairLaneChange_writes (p : Pulse) (lane : Fin 2) (up : Bool) (s : State) :
    ∃ t, exec (.pairLaneChange p lane up) s = .next t ∧
      t.pair = (if lane.val = 0 then { s.pair with lane0 := up } else { s.pair with lane1 := up }) := by
  by_cases hw : (if lane.val = 0 then s.pair.lane0 else s.pair.lane1) = up
  · refine next_pos rfl hw ⟨_, rfl, ?_⟩
    subst hw
    split <;> rfl
  · by_cases h0 : lane.val = 0
    · refine next_neg rfl hw (next_pos rfl h0 ⟨_, rfl, ?_⟩)
      simp only [State.ev_pair, h0, if_true, State.atP_pair]
    · refine next_neg rfl hw (next_neg rfl h0 ⟨_, rfl, ?_⟩)
      simp only [State.ev_pair, h0, if_false, State.atP_pair]

/-! ### The loss of the peer and the takeover (R378, R397) -/

/-- The heartbeats have stopped: the peer's are valid no more, and a loss of valid ones is counted. -/
def State.peerSilent (s : State) : State :=
  if s.pair.hbValid then { s with pair.hbValid := false, pair.nLost := sat32u (s.pair.nLost + 1) } else s

theorem State.peerSilent_pair (s : State) : s.peerSilent.pair = { s.pair with
    hbValid := false, nLost := if s.pair.hbValid then sat32u (s.pair.nLost + 1) else s.pair.nLost } := by
  unfold State.peerSilent
  split
  · rfl
  · next h =>
    rw [← Bool.eq_false_iff.mpr h]

/-- Without an input loss PAIR_PEER_LOST is the change of the pair state alone. -/
theorem pairPeerLost_eq (p : Pulse) (s : State) (hl : s.psv.loss = none) :
    exec (.pairPeerLost p) s = ok (match s.pair.state with
      | some .active => (s.atP p.val).peerSilent.becomeLone 6
      | some .standby => if s.pair.chgIn then (s.atP p.val).peerSilent.setPair .joining 6 else (s.atP p.val).peerSilent
      | _ => (s.atP p.val).peerSilent) := by
  have hp := State.peerSilent_pair (s.atP p.val)
  have hv : (s.atP p.val).peerSilent.psv.loss = none := by
    unfold State.peerSilent
    split <;> exact hl
  show execPairPeerLost p s = _
  unfold execPairPeerLost
  extract_lets s0 _ s1 s2
  have e1 : s1 = (s.atP p.val).peerSilent := rfl
  have e2 : s2 = s1 := by
    have hn : s1.psv.loss = none := hv
    simp only [s2, hn]
  rw [e2, e1, hp]
  rfl

theorem pairPeerLost_active (p : Pulse) (s : State) (hs : s.pair.state = some .active) (hl : s.psv.loss = none) :
    ∃ t, exec (.pairPeerLost p) s = .next t ∧ t.pair.state = some .lone ∧ t.pair.hbValid = false ∧
      t.pair.nLost = (if s.pair.hbValid then sat32u (s.pair.nLost + 1) else s.pair.nLost) := by
  rw [pairPeerLost_eq p s hl, hs]
  refine ⟨_, rfl, ?_⟩
  obtain ⟨q1, -, q3, q4, -⟩ := State.becomeLone_pair (s.atP p.val).peerSilent 6
  rw [q1, q3, q4, State.peerSilent_pair]
  exact ⟨rfl, rfl, rfl⟩

theorem pairPeerLost_standby (p : Pulse) (s : State) (hs : s.pair.state = some .standby) (hc : s.pair.chgIn = true)
    (hl : s.psv.loss = none) :
    ∃ t, exec (.pairPeerLost p) s = .next t ∧ t.pair.state = some .joining ∧ t.pair.hbValid = false := by
  rw [pairPeerLost_eq p s hl, hs]
  refine next_pos rfl hc ⟨_, rfl, ?_⟩
  obtain ⟨q1, -, q3, -⟩ := State.setPair_peer (s.atP p.val).peerSilent .joining 6
  rw [q1, q3, State.peerSilent_pair]
  exact ⟨rfl, rfl⟩

theorem pairListenTimeout_lone (p : Pulse) (s : State) (hs : s.pair.state = some .listen)
    (ht : s.pair.since + (if s.sys.slot = .a then 500 else 2000) ≤ s.now) (hc : s.pair.chgIn = false)
    (ha : s.pair.peerActive = false) :
    ∃ t, exec (.pairListenTimeout p) s = .next t ∧ t.pair.state = some .lone ∧ t.pair.chgOut = !s.psv.dropped := by
  refine next_pos rfl ⟨hs, ht, by simp [hc], by simp [ha]⟩ ⟨_, rfl, ?_⟩
  obtain ⟨q1, q2, -⟩ := State.becomeLone_pair (s.atP p.val) 1
  exact ⟨q1, q2⟩

/-- A standby that hears nothing of its active takes the role over (R397), and steers its own time again (R58). -/
theorem pairTakeover_lone (p : Pulse) (s : State) (hs : s.pair.state = some .standby) (hm : s.mode.mode ≠ .safe)
    (hc : s.pair.chgIn = false) (hl : s.psv.loss = none) :
    ∃ t, exec (.pairTakeover p true) s = .next t ∧ t.pair.state = some .lone ∧
      t.pair.nTakeover = sat32u (s.pair.nTakeover + 1) ∧ t.time.state ≠ .following := by
  show ∃ t, execPairTakeover p true s = .next t ∧ _
  unfold execPairTakeover
  extract_lets s0 may warm _ _ s1 s2 _ s3 s4 s5
  have hmay : may = true := by simp [may, s0, hs, hm, hc]
  have hwarm : warm = true := by simp [warm, s0, hs]
  have e1 : s1.pair.nTakeover = s.pair.nTakeover ∧ s1.psv = s.psv :=
    ⟨(congrArg PairSt.nTakeover (State.abortConnects_pair s0 s0.strings) :), (State.abortConnects_frame ..).psv_eq (by decide)⟩
  obtain ⟨q1, -, -, -, q5, -⟩ := State.becomeLone_pair s1 7
  have e2 : s2.pair = (s1.becomeLone 7).pair := State.ev_pair ..
  have e4 : s4 = s3 := if_pos hwarm
  have e5 : s5.pair = s3.pair := by rw [← e4]; exact State.timeUnfollow_pair s4
  have v5 : s5.psv.loss.isSome = false := by
    have v : s5.psv = s.psv := by
      rw [(State.timeUnfollow_frame ..).psv_eq (by decide), e4, ← e1.2,
        ← (State.becomeLone_frame s1 7).psv_eq (by decide)]
      exact State.ev_psv ..
    rw [v, hl]
    rfl
  refine next_neg rfl (by simp [hmay]) (next_neg rfl (by simp [v5]) ⟨_, rfl, ?_, ?_, State.timeUnfollow_state _⟩)
  · rw [e5, ← q1, ← e2]
  · rw [e5, ← e1.1, ← q5, ← e2]

/-! ### Joining and detachment (R391, R395) -/

/-- The failures of the last hour, the present one among them (R395). -/
def State.failsNow (s : State) : List Nat := s.now :: s.pair.fails.filter (fun f => decide (s.now < f + 3600000))

theorem State.failsNow_length (s : State) : s.failsNow.length ≤ s.pair.fails.length + 1 :=
  Nat.succ_le_succ (List.length_filter_le ..)

/-- At the limit of failures the module is detached. -/
theorem State.joinFail_detaches {s : State} (h : s.pair.cfg.joinLimit ≤ s.failsNow.length) :
    s.joinFail.pair.state = some .detached ∧ s.joinFail.pair.joining = false := by
  unfold State.joinFail
  extract_lets fs _ s1
  have e : s1.pair = { s.pair with fails := fs } := State.copyEvent_pair ..
  rw [if_pos (by rw [e]; exact h)]
  obtain ⟨q1, -, -, -, -, -, -, q8⟩ := State.setPair_peer s1 .detached 0x0A
  exact ⟨q1, q8⟩

/-- Below the limit the module discards its copy and joins anew. -/
theorem State.joinFail_again {s : State} (h : s.failsNow.length < s.pair.cfg.joinLimit) :
    s.joinFail.pair.state = s.pair.state ∧ s.joinFail.pair.joining = false ∧ s.joinFail.pair.fails = s.failsNow := by
  unfold State.joinFail
  extract_lets fs _ s1
  have e : s1.pair = { s.pair with fails := fs } := State.copyEvent_pair ..
  rw [if_neg (by rw [e]; exact Nat.not_le.mpr h)]
  simp only [State.joinReset, e]
  exact ⟨trivial, trivial, rfl⟩

theorem pairDetachWaitEnd_joins (p : Pulse) (s : State) (hs : s.pair.state = some .detached) (h1 : s.mode.mode ≠ .safe)
    (h2 : s.mode.mode ≠ .maintain) (ht : s.pair.since + 1000 * s.pair.cfg.detachWait ≤ s.now) :
    ∃ t, exec (.pairDetachWaitEnd p) s = .next t ∧ t.pair.state = some .joining ∧ t.pair.since = s.now := by
  refine next_pos rfl ⟨hs, h1, h2, ht⟩ ⟨_, rfl, ?_⟩
  obtain ⟨q1, q2, -⟩ := State.setPair_peer (s.atP p.val).freeByte.2 .joining (s.atP p.val).freeByte.1.toNat
  exact ⟨q1, q2⟩

/-- A joiner takes the active's frame number and pulse counters (R56, R271), its copy begun anew. -/
theorem pairTimeSetRx_takes (p : Pulse) (e : EpochIn) (s : State) (hs : s.pair.state = some .joining)
    (he : e.sameTopology = true) :
    ∃ t, exec (.pairTimeSetRx p e) s = .next t ∧ t.time.frame = e.frame ∧ t.pair.joining = true ∧
      t.pair.epoch = e.epoch ∧ t.pair.pages = 708 ∧ t.pair.state = some .joining ∧
      ∀ k v, k < 16 → e.pseqs[k]? = some v → (t.pp k).pseq = v % 256 := by
  refine next_pos rfl hs (next_neg rfl (by simp [he]) ⟨_, rfl, rfl, rfl, rfl, rfl, hs, fun k v hk hv => ?_⟩)
  have hm : k ∈ allStr := ((upFrom_nodup 0 16).2 k).mpr ⟨Nat.zero_le k, by omega⟩
  simp only [State.pp]
  rw [tget_tmodAll_mem _ allStr _ (upFrom_nodup 0 16).1 hm]
  simp [hv]

/-- Settles O42: one lemma per row of Table 13-2 and of the rows beside it. -/
theorem pairStateCommandsComplete : Obligations.PairStateCommandsComplete := by
  refine ⟨pairHeartbeatSend_sends, pairHeartbeatRx_listens, chgInChange_asserted, chgInChange_released,
    pairLaneChange_writes, pairPeerLost_active, pairPeerLost_standby, pairListenTimeout_lone, pairTakeover_lone,
    ?_, ?_, pairDetachWaitEnd_joins, fun p b n s h => next_pos rfl h ⟨_, rfl, rfl⟩, pairTimeSetRx_takes⟩
  · intro p s hs hj ht hl
    refine next_pos rfl ⟨hs, hj, ht⟩ ⟨_, rfl, State.joinFail_detaches (s := s.atP p.val) ?_⟩
    exact Nat.le_trans hl (Nat.succ_le_succ (Nat.zero_le _))
  · intro p s hs hj ht hl
    obtain ⟨q1, q2, q3⟩ := State.joinFail_again (s := s.atP p.val)
      (Nat.lt_of_le_of_lt (State.failsNow_length _) hl)
    exact next_pos rfl ⟨hs, hj, ht⟩ ⟨_, rfl, q1.trans hs, q2, by rw [q3]; exact List.mem_cons_self ..⟩

end Sys2Proof.Machine
end


section

namespace Sys2Proof.Machine

/-! ### The strobe's clocks -/

/-- The clocks that a strobe moves on or begins anew: frame, pulse, uptime, the overruns of the frame, Markhor's frame,
the ticks of the links. -/
def TimeSt.clocks (t : TimeSt) : Nat × Nat × Nat × BitVec 4 × Nat × Nat :=
  (t.frame, t.pulse, t.uptime, t.overrunNow, t.markhorFrame, t.ticks)

@[simp] theorem State.boundTake_clocks (s : State) : s.boundTake.time.clocks = s.time.clocks := rfl

@[simp] theorem State.slewFrame_clocks (s : State) : s.slewFrame.time.clocks = s.time.clocks := by
  unfold State.slewFrame
  split <;> rfl

@[simp] theorem State.announceStep_clocks (s : State) : s.announceStep.time.clocks = s.time.clocks := by
  unfold State.announceStep
  extract_lets b n _ s1
  split <;> rfl

@[simp] theorem State.stepAnnounce_clocks (s : State) : s.stepAnnounce.time.clocks = s.time.clocks := by
  unfold State.stepAnnounce
  split
  · exact s.announceStep_clocks
  · rfl

theorem State.tick_clocks (s : State) : s.tick.time.clocks =
    (s.time.frame + 1, 0, s.time.uptime + 1, 0, s.time.markhorFrame + 1, s.time.ticks) := by
  unfold State.tick
  rw [State.boundTake_clocks, State.slewFrame_clocks]
  rfl

theorem State.strobePair_clocks (s : State) : s.strobePair.time.clocks = s.time.clocks := by
  unfold State.strobePair
  rw [(State.reachJudge_frame ..).time_eq (by decide), (State.inputsTake_frame ..).time_eq (by decide),
    (State.handoverChoose_frame ..).time_eq (by decide), (State.surveyWaitEnd_frame ..).time_eq (by decide),
    State.stepAnnounce_clocks, (State.pairFrame_frame ..).time_eq (by decide), (State.siteFrame_frame ..).time_eq (by decide)]

/-- Of the runtime's part of the strobe only the pair's touches the time. -/
theorem State.strobeRuntime_clocks (s : State) :
    s.strobePair.strobeGraze.strobeLink.strobeStrings.canTimeRef.time.clocks = s.time.clocks := by
  rw [(State.canTimeRef_frame ..).time_eq (by decide), (State.strobeStrings_frame ..).time_eq (by decide),
    (State.strobeLink_frame ..).time_eq (by decide), (State.strobeGraze_frame ..).time_eq (by decide),
    State.strobePair_clocks]

/-- The marks of the strobe that follow the tick leave the time. -/
theorem State.strobeMarks_time (s : State) :
    s.portsFrame.derateRelease.twAge.twMarkhor.diagsPass.sf10Frame.time = s.time := by
  rw [(State.sf10Frame_frame ..).time_eq (by decide), (State.diagsPass_frame ..).time_eq (by decide),
    (State.twMarkhor_frame ..).time_eq (by decide), (State.twAge_frame ..).time_eq (by decide),
    (State.derateRelease_frame ..).time_eq (by decide), (State.portsFrame_frame ..).time_eq (by decide)]

theorem State.linkClock_time (s : State) : s.linkClock.time = { s.time with ticks := s.time.ticks + 1 } := by
  simp only [State.linkClock, (State.feRestarts_frame s).time_eq (by decide)]

theorem frameStrobe_powered (s : State) (h : s.psv.powered = true) :
    ∃ t, exec .frameStrobe s = .next t ∧ t.time.clocks =
      (s.time.frame + 1, 0, s.time.uptime + 1, 0, s.time.markhorFrame + 1, s.time.ticks + 1) := by
  refine next_neg rfl (by simp [(State.linkClock_frame s).psv_eq (by decide), h]) ⟨_, rfl, ?_⟩
  have hm := congrArg TimeSt.clocks (State.strobeMarks_time s.linkClock.tick)
  rw [State.tick_clocks, State.linkClock_time] at hm
  rw [(State.thermalLoops_frame ..).time_eq (by decide)]
  split
  · rw [State.strobeRuntime_clocks, hm]
  · exact hm

theorem frameStrobe_unpowered (s : State) (h : s.psv.powered = false) :
    exec .frameStrobe s = .next s.linkClock :=
  congrArg ok (if_pos (by simp [(State.linkClock_frame s).psv_eq (by decide), h]))

/-! ### The second -/

theorem secondBoundary_powered (s : State) (h : s.psv.powered = true) (hn : s.now % 1000 = 0) :
    ∃ t, exec .secondBoundary s = .next t ∧ t.time.ppsOut = s.time.ppsOut + 1 ∧ t.acc.failsSec = 0 ∧
      t.mem.table.secWord = 0 ∧ t.mem.dram.secPage = 0 ∧ t.bus.overSec = [] := by
  refine next_pos rfl ⟨hn, h⟩ ⟨_, rfl, ?_⟩
  extract_lets _ _ s1
  have h1 : Frame [.jnl] { (s.atP 0).secondCounts with time.ppsOut := s.time.ppsOut + 1 } s1 := State.gaspBase_frame _
  have h2 : Frame [.aux, .thm, .herd, .dsp, .grz, .site, .jnl, .pages] s1
      (if s1.runtimeRuns ∧ s1.mode.mode ≠ .load then s1.secondWork else s1) :=
    .ite (State.secondWork_frame _) (.refl _ _)
  rw [h2.time_eq (by decide), h2.acc_eq (by decide), h2.mem_eq (by decide), h2.bus_eq (by decide),
    h1.time_eq (by decide), h1.acc_eq (by decide), h1.mem_eq (by decide), h1.bus_eq (by decide)]
  exact ⟨rfl, rfl, rfl, rfl, rfl⟩

/-! ### The closure -/

/-- After the strings' work the closure leaves the protections and the supervisor alone. -/
theorem State.closure_tokenMiss (s : State) (x : Sensors) (more : Nat) : (s.closure x more).prot.tokenMiss = 0 := by
  unfold State.closure
  extract_lets x1 _ x3 x4 x5
  let u : State := { x1 with prot.tokenMiss := 0 }
  have h0 : Frame [.sys, .time, .link, .aux, .herd, .dsp, .grz, .pair, .site, .tw, .upd, .jnl] u u := Frame.refl _ _
  have h3 : Frame _ _ x3 := .after (State.copySend_frame ..) (.after (State.listSend_frame ..) h0 rfl) rfl
  have h4 : Frame _ _ x4 := .after (State.overrunsEnd_frame ..) (.after (State.excessWatch_frame ..)
    (.after (State.grazeAdmit_frame ..) (.after (State.throttle_frame ..) (.after (State.junction_frame ..) h3 rfl)
      rfl) rfl) rfl) rfl
  have h5 : Frame _ _ x5 := .after (State.cleanTake_frame ..) (.after (State.health_frame ..)
    (.after (State.herdClose_frame ..) (.foldl h4 fun _ _ h => .after (State.sleepTake_frame ..) h rfl) rfl) rfl) rfl
  rw [(State.twRefresh_frame ..).prot_eq (by decide), (State.journalCommit_frame ..).prot_eq (by decide),
    (State.eventPush_frame ..).prot_eq (by decide), (State.siteHeartbeat_frame ..).prot_eq (by decide),
    h5.prot_eq (by decide)]

theorem frameClosure_powered (x : Sensors) (more : Nat) (s : State) (h : s.psv.powered = true) :
    ∃ t, exec (.frameClosure x more) s = .next t ∧ t.psv.vin = x.vin ∧ t.psv.iin = x.iin ∧ t.psv.huE = x.huE ∧
      t.psv.pin = divRound (x.vin * x.iin) 1000000 ∧ t.psv.charging = x.charging ∧
      (s.runtimeRuns = true → t.prot.tokenMiss = 0) := by
  refine next_pos rfl h ⟨_, rfl, ?_⟩
  extract_lets s1
  have hr : s1.runtimeRuns = s.runtimeRuns := rfl
  have hp (y : Sensors) : (if s1.runtimeRuns then s1.closure y more else s1).psv = s1.psv :=
    (Frame.ite (State.closure_frame ..) (.refl _ _)).psv_eq (by decide)
  rw [hp]
  refine ⟨rfl, rfl, rfl, rfl, rfl, fun h => ?_⟩
  rw [if_pos (hr.trans h)]
  exact State.closure_tokenMiss ..

end Sys2Proof.Machine

end


section

namespace Sys2Proof.Machine

/-! ### The end of the start-up Survey -/

theorem State.freezeEnd_frozen (s : State) : s.freezeEnd.prot.frozen = false := by
  unfold State.freezeEnd
  split
  · rfl
  · next h => exact Bool.eq_false_iff.mpr h

theorem State.freezeEnd_safeOuts (s : State) :
    s.freezeEnd.prot.safeA = s.prot.safeA ∧ s.freezeEnd.prot.safeB = s.prot.safeB := by
  unfold State.freezeEnd
  split
  · simp only [State.ev_prot, and_self]
  · exact ⟨rfl, rfl⟩

theorem State.freezeEnd_peerMode (s : State) : s.freezeEnd.pair.peerMode = s.pair.peerMode := by
  unfold State.freezeEnd
  split
  · simp only [State.ev_pair]
  · rfl

theorem State.safeOutRelease_safeOuts {s : State} (h : s.jnl.safeLatch = 0) :
    s.safeOutRelease.prot.safeA = false ∧ s.safeOutRelease.prot.safeB = false := by
  rw [State.safeOutRelease, if_pos h]
  exact ⟨rfl, rfl⟩

theorem State.aloneMode_or (s : State) : s.aloneMode = .idle ∨ s.aloneMode = .serve := by
  unfold State.aloneMode
  split
  · exact .inr rfl
  · exact .inl rfl

/-- The mode in which a module leaves Survey (R67): that of its active on a standby, else that of items 3 and 4. -/
def State.surveyMode (s : State) : Mode :=
  if s.pair.state = some .standby then s.pair.peerMode.getD s.aloneMode else s.aloneMode

/-- A module leaves Survey by the safe outputs, the freeze and the mode, once its strings have taken their states. -/
theorem State.surveyLeave_eq (s : State) : ∃ u, Frame [.mode, .jnl, .enabled] s u ∧
    s.surveyLeave = { u.safeOutRelease.freezeEnd.setMode u.safeOutRelease.freezeEnd.surveyMode 0x02 0 with
      mode.surveyWait := false } := by
  unfold State.surveyLeave
  extract_lets joined under s1 _ s2 s3 s4 m _ _
  have h0 : Frame [.mode, .jnl, .enabled] s s := .refl _ _
  have h1 : Frame _ s s1 := .ite h0 (.foldl h0 fun _ _ h =>
    .after (State.startTake_frame ..) (.after (State.recordIdentities_frame ..) h rfl) rfl)
  have h2 : Frame _ s s2 := .ite h1 (.upd h1 rfl)
  have h3 : Frame _ s s3 := .after (State.ev_frame ..) h2 rfl
  have hs : s4.pair.state = s.pair.state := by
    rw [(State.freezeEnd_frame ..).pairState_eq (by decide), (State.safeOutRelease_frame ..).pairState_eq (by decide),
      h3.pairState_eq (by decide)]
  have hm : m = s4.surveyMode := by simp [m, State.surveyMode, hs, joined]
  exact ⟨s3, h3, by rw [← hm]⟩

theorem State.surveyLeave_wait (s : State) : s.surveyLeave.mode.surveyWait = false ∧ s.surveyLeave.mode.target = none := by
  obtain ⟨u, -, e⟩ := s.surveyLeave_eq
  simp only [e, State.setMode_mode, and_self]

theorem State.surveyLeave_frozen (s : State) : s.surveyLeave.prot.frozen = false := by
  obtain ⟨u, -, e⟩ := s.surveyLeave_eq
  simp only [e, (State.setMode_frame ..).prot_eq (by decide), State.freezeEnd_frozen]

theorem State.surveyLeave_safeOuts {s : State} (h : s.jnl.safeLatch = 0) :
    s.surveyLeave.prot.safeA = false ∧ s.surveyLeave.prot.safeB = false := by
  obtain ⟨u, hu, e⟩ := s.surveyLeave_eq
  have ho := State.safeOutRelease_safeOuts ((hu.safeLatch_eq (by decide)).trans h)
  simp only [e, (State.setMode_frame ..).prot_eq (by decide), State.freezeEnd_safeOuts, ho, and_self]

theorem State.surveyLeave_alone {s : State} (h : s.pair.state ≠ some .standby) :
    s.surveyLeave.mode.mode = .idle ∨ s.surveyLeave.mode.mode = .serve := by
  obtain ⟨u, hu, e⟩ := s.surveyLeave_eq
  have hs : u.safeOutRelease.freezeEnd.pair.state ≠ some .standby := by
    rwa [(State.freezeEnd_frame ..).pairState_eq (by decide), (State.safeOutRelease_frame ..).pairState_eq (by decide),
      hu.pairState_eq (by decide)]
  simp only [e, State.setMode_mode, State.surveyMode, if_neg hs]
  exact State.aloneMode_or _

theorem State.surveyLeave_joined {s : State} {m : Mode} (h : s.pair.state = some .standby)
    (hm : s.pair.peerMode = some m) : s.surveyLeave.mode.mode = m := by
  obtain ⟨u, hu, e⟩ := s.surveyLeave_eq
  have hp : u.safeOutRelease.pair = s.pair := by
    rw [(State.safeOutRelease_frame ..).pair_eq (by decide), hu.pair_eq (by decide)]
  have hs : u.safeOutRelease.freezeEnd.pair.state = some .standby := by
    rw [(State.freezeEnd_frame ..).pairState_eq (by decide), hp, h]
  simp only [e, State.setMode_mode, State.surveyMode, if_pos hs, State.freezeEnd_peerMode, hp, hm, Option.getD_some]

theorem surveyEnd_leaves {s : State} (hm : s.mode.mode = .survey) (hw : s.mode.surveyWait = false)
    (he : s.surveyMayEnd = true) (hj : s.pair.state ≠ some .joining) :
    ∃ t, exec .surveyEnd s = .next t ∧ t.mode.surveyWait = false ∧ t.mode.target = none ∧ t.prot.frozen = false ∧
      (s.jnl.safeLatch = 0 → t.prot.safeA = false ∧ t.prot.safeB = false) ∧
      (s.pair.state ≠ some .standby → t.mode.mode = .idle ∨ t.mode.mode = .serve) ∧
      (∀ m, s.pair.state = some .standby → s.pair.peerMode = some m → t.mode.mode = m) := by
  have hr := State.surveyReconcile_frame (s.atP 0)
  have hp : (s.atP 0).surveyReconcile.pair = s.pair := hr.pair_eq (by decide)
  refine next_pos rfl ⟨hm, by simp [hw], he⟩ (next_neg rfl (hp ▸ hj) ⟨_, rfl, ?_⟩)
  refine ⟨(State.surveyLeave_wait _).1, (State.surveyLeave_wait _).2, State.surveyLeave_frozen _, fun h => ?_, fun h => ?_,
    fun m h h' => ?_⟩
  · exact State.surveyLeave_safeOuts ((hr.safeLatch_eq (by decide)).trans h)
  · exact State.surveyLeave_alone (hp ▸ h)
  · exact State.surveyLeave_joined (hp ▸ h) (hp ▸ h')

theorem surveyEnd_joining {s : State} (hm : s.mode.mode = .survey) (hw : s.mode.surveyWait = false)
    (he : s.surveyMayEnd = true) (hj : s.pair.state = some .joining) :
    ∃ t, exec .surveyEnd s = .next t ∧ t.mode.mode = .survey ∧ t.mode.surveyWait = true := by
  have hr := State.surveyReconcile_frame (s.atP 0)
  refine next_pos rfl ⟨hm, by simp [hw], he⟩ (next_pos rfl ((hr.pairState_eq (by decide)).trans hj) ⟨_, rfl, ?_, rfl⟩)
  exact (hr.modeNow_eq (by decide)).trans hm

end Sys2Proof.Machine

end


section

namespace Sys2Proof.Machine

/-! ### The window's hand-over slot: the requests that wait -/

@[simp] theorem State.handoverMsg_winReqs (s : State) (op : Nat) (es : List (Nat × Nat)) :
    (s.handoverMsg op es).site.winReqs = s.site.winReqs := by
  unfold State.handoverMsg
  split
  · obtain ⟨_, _, _, e⟩ := State.send_site s 0x32 false (le 1 op ++ le 1 es.length ++ le 2 0 ++
      es.flatMap (fun e => handoverEntry e.1 (s.page e.1).gen e.2))
    rw [e]
  · rfl

@[simp] theorem State.handoverMsgs_winReqs (s : State) (op : Nat) (es : List (Nat × Nat)) :
    (s.handoverMsgs op es).site.winReqs = s.site.winReqs :=
  foldl_view (v := fun u : State => u.site.winReqs) (fun u _ => u.handoverMsg_winReqs ..) _ _

/-- Changing pages one after another leaves the requests. -/
theorem State.modPages_winReqs {α : Type} (k : α → Nat) (f : α → Page → Page) (l : List α) (s : State) :
    (l.foldl (fun u e => u.modPage (k e) (f e)) s).site.winReqs = s.site.winReqs :=
  foldl_view (v := fun u : State => u.site.winReqs) (f := fun u e => u.modPage (k e) (f e)) (fun _ _ => rfl) l s

/-- What no round changes of the state, a fold that also gathers a list does not change. -/
theorem foldl_fst_view {α β γ : Type} {v : State → α} {f : State × β → γ → State × β}
    (h : ∀ x a, v (f x a).1 = v x.1) (l : List γ) (x : State × β) : v (l.foldl f x).1 = v x.1 := by
  induction l generalizing x with
  | nil => rfl
  | cons a l ih => exact (ih _).trans (h x a)

theorem State.doRelease_winReqs (s : State) (es : List (Nat × Nat)) :
    (s.doRelease es).site.winReqs = s.site.winReqs := by
  unfold State.doRelease
  extract_lets one r
  rw [State.handoverMsgs_winReqs]
  refine foldl_fst_view (v := fun u : State => u.site.winReqs) (fun x e => ?_) es (s, [])
  unfold one
  extract_lets g
  split <;> rfl

theorem State.doClaim_winReqs (s : State) (n : Nat) : (s.doClaim n).site.winReqs = s.site.winReqs := by
  unfold State.doClaim
  extract_lets held ps s1
  rw [State.handoverMsg_winReqs]
  exact State.modPages_winReqs ..

theorem State.doReturn_winReqs (s : State) (es : List (Nat × Nat × Nat × Word)) :
    (s.doReturn es).site.winReqs = s.site.winReqs := by
  unfold State.doReturn
  extract_lets one r
  rw [State.handoverMsgs_winReqs]
  refine foldl_fst_view (v := fun u : State => u.site.winReqs) (fun x e => ?_) es (s, [])
  unfold one
  extract_lets u g q
  split
  · rfl
  split
  · rfl
  split <;> rfl

theorem State.doFreed_winReqs (s : State) (ps : List Nat) (st : Status) :
    (s.doFreed ps st).site.winReqs = s.site.winReqs := by
  unfold State.doFreed
  extract_lets own s1
  split
  · rfl
  · rw [State.handoverMsgs_winReqs]
    exact State.modPages_winReqs ..

theorem State.winApply_winReqs (s : State) (r : WinReq) : (s.winApply r).site.winReqs = s.site.winReqs := by
  cases r with
  | release es => exact s.doRelease_winReqs es
  | claim n => exact s.doClaim_winReqs n
  | return_ es => exact s.doReturn_winReqs es
  | freed ps st => exact s.doFreed_winReqs ps st

theorem State.writePages_winReqs (s : State) (st sub rec_ : Nat) (complete : Bool) (ps : List Nat) (data : List Bytes) :
    (s.writePages st sub rec_ complete ps data).site.winReqs = s.site.winReqs := by
  unfold State.writePages
  extract_lets n one
  split
  · rfl
  · exact foldl_view (v := fun u : State => u.site.winReqs) (f := one) (fun _ _ => rfl) _ s

theorem State.streamPut_winReqs {s u : State} {st sub rec_ : Nat} {b : Bytes} (h : s.streamPut st sub rec_ b = some u) :
    u.site.winReqs = s.site.winReqs := by
  simp only [State.streamPut, Option.map_eq_some_iff] at h
  obtain ⟨ps, -, rfl⟩ := h
  exact State.writePages_winReqs ..

theorem State.placeCaptures_winReqs (s : State) (l : List Capture) :
    (s.placeCaptures l).site.winReqs = s.site.winReqs := by
  induction l generalizing s with
  | nil => rfl
  | cons c t ih =>
    unfold State.placeCaptures
    split
    · rfl
    · next h =>
      have hu := State.streamPut_winReqs h
      exact (ih _).trans hu

theorem State.stallCheck_winReqs (s : State) : s.stallCheck.site.winReqs = s.site.winReqs := by
  unfold State.stallCheck
  extract_lets w _
  split
  · rfl
  · rw [State.ev_site]

theorem State.giveAll_winReqs (s : State) : s.giveAll.site.winReqs = s.site.winReqs := by
  unfold State.giveAll
  split
  · rw [State.handoverMsgs_winReqs]
    exact State.modPages_winReqs ..
  · rfl

/-! ### The complete pages -/

theorem mem_of_tget_ne {α : Type} [Inhabited α] {t : Tab α} {n : Nat} (h : tget t n ≠ default) : (n, tget t n) ∈ t := by
  induction t with
  | nil => exact absurd rfl h
  | cons p t ih =>
    obtain ⟨k, v⟩ := p
    rw [tget] at h ⊢
    split at h
    · next e => simp [e]
    · next e => rw [if_neg e]; exact List.mem_cons_of_mem _ (ih h)

theorem mem_insertPage {x e : Nat × Page} {l : List (Nat × Page)} : x ∈ insertPage e l ↔ x = e ∨ x ∈ l := by
  induction l with
  | nil => simp [insertPage]
  | cons a t ih =>
    unfold insertPage
    split
    · exact List.mem_cons
    · rw [List.mem_cons, ih, List.mem_cons]
      exact or_left_comm

theorem mem_foldl_insertPage {x : Nat × Page} (l acc : List (Nat × Page)) :
    x ∈ l.foldl (fun l e => insertPage e l) acc ↔ x ∈ l ∨ x ∈ acc := by
  induction l generalizing acc with
  | nil => simp
  | cons a t ih =>
    rw [List.foldl_cons, ih, mem_insertPage, List.mem_cons]
    exact or_left_comm.trans or_assoc.symm

theorem State.mem_filledPages {s : State} {e : Nat × Page} : e ∈ s.filledPages ↔
    e ∈ s.site.pages ∧ e.1 < 12288 ∧ e.2.owner = .module ∧ e.2.complete = true := by
  simp [State.filledPages, mem_foldl_insertPage, isOutbound, and_assoc]

/-- A page with its ownership handed to the partner (R436). -/
def Page.given (g : Page) : Page := { g with owner := .partner }

theorem State.tget_givePages (l : List (Nat × Page)) (s : State) (n : Nat) :
    tget (l.foldl (fun u e => u.modPage e.1 Page.given) s).site.pages n =
      if n ∈ l.map Prod.fst then (tget s.site.pages n).given else tget s.site.pages n := by
  induction l generalizing s with
  | nil => rfl
  | cons e t ih =>
    rw [List.foldl_cons, ih, State.modPage_site, tget_tmod]
    by_cases h : n = e.1 <;> by_cases h' : n ∈ t.map Prod.fst <;> simp_all [Page.given]

/-- Of the complete outbound pages, the module owns none once it has given them. -/
theorem State.giveAll_owner {s : State} (h : s.site.sstate = .opened) {n : Nat} (hn : n < 12288)
    (hc : (tget s.giveAll.site.pages n).complete = true) : (tget s.giveAll.site.pages n).owner ≠ .module := by
  have hp : s.giveAll.site.pages =
      (s.filledPages.foldl (fun u e => u.modPage e.1 Page.given) s).site.pages := by
    rw [State.giveAll, if_pos h]
    exact (State.handoverMsgs_frame ..).pages_eq (by decide)
  rw [hp, State.tget_givePages] at hc ⊢
  split at hc
  · next hm => rw [if_pos hm]; simp [Page.given]
  · next hm =>
    rw [if_neg hm]
    intro ho
    have hd : tget s.site.pages n ≠ default := fun e => by rw [e] at hc; cases hc
    have he : (n, tget s.site.pages n) ∈ s.filledPages := State.mem_filledPages.mpr ⟨mem_of_tget_ne hd, hn, ho, hc⟩
    exact hm (List.mem_map_of_mem he)

theorem windowHandoverSlot_gives (s : State) : ∃ t, exec .windowHandoverSlot s = .next t ∧ t.site.winReqs = [] ∧
    t.site.session = s.site.session ∧ (∀ id, t.entry id = s.entry id) ∧
    (s.site.sstate = .opened → ∀ n, n < 12288 → (tget t.site.pages n).complete = true →
      (tget t.site.pages n).owner ≠ .module) := by
  let s0 := (s.atP 820).deferrable
  let s1 := s0.site.winReqs.foldl State.winApply { s0 with site.winReqs := [] }
  let s2 := (s1.placeCaptures s1.site.captures.reverse.reverse).stallCheck
  have h0 : Frame [.time, .pair, .site, .jnl, .pages] s s0 :=
    .after (State.deferrable_frame ..) (.after (State.atP_frame ..) (.refl _ _) rfl) rfl
  have h1 : Frame _ s s1 := .foldl (.upd h0 rfl) fun _ _ h => .after (State.winApply_frame ..) h rfl
  have h2 : Frame _ s s2 := .after (State.stallCheck_frame ..) (.after (State.placeCaptures_frame ..) h1 rfl) rfl
  have h3 : Frame _ s s2.giveAll := .after (State.giveAll_frame ..) h2 rfl
  have hw : s1.site.winReqs = [] :=
    foldl_view (v := fun u : State => u.site.winReqs) (fun u r => u.winApply_winReqs r) _ _
  refine ⟨s2.giveAll, rfl, ?_, (h3.same .session (by decide)).2.1.symm, h3.entry (by decide), fun ho n hn hc => ?_⟩
  · rw [State.giveAll_winReqs, State.stallCheck_winReqs, State.placeCaptures_winReqs, hw]
  · exact State.giveAll_owner ((h2.same .session (by decide)).1.symm.trans ho) hn hc

/-- Settles O37: each row of a frame by the step or steps of it that write what the row names; a Survey is left by
`surveyLeave`, and the slot gives every complete page that the module owns. -/
theorem frameRowsComplete : Obligations.FrameRowsComplete := by
  refine ⟨fun s h => ?_, fun s h => ⟨_, frameStrobe_unpowered s h, s.linkClock_time, ?_⟩, secondBoundary_powered,
    frameClosure_powered, fun s => surveyEnd_leaves, fun s => surveyEnd_joining, windowHandoverSlot_gives⟩
  · obtain ⟨t, ht, hc⟩ := frameStrobe_powered s h
    simp only [TimeSt.clocks, Prod.mk.injEq] at hc
    exact ⟨t, ht, hc⟩
  · have hf := s.linkClock_frame
    exact ⟨hf.mode_eq (by decide), hf.prot_eq (by decide), hf.power_eq (by decide)⟩

end Sys2Proof.Machine

end

section

namespace Sys2Proof.Machine

/-! ### The outcome of a row of one front end -/

/-- A row that changes one front end goes on with the change, and every other front end stands. -/
theorem modFee_next {o : Host.Outcome State Fault Refusal} {s : State} {p port : Nat} {g : FeSt → FeSt}
    (h : o = ok ((s.atP p).modFee port g)) :
    ∃ t, o = .next t ∧ t.fee port = g (s.fee port) ∧ ∀ q, q ≠ port → t.fee q = s.fee q :=
  ⟨_, h, by simp, fun q hq => by simp [hq]⟩

/-- A row whose frame is heard goes on with its action on the front end that has noted the frame. -/
theorem feReceive_next {o : Host.Outcome State Fault Refusal} {s : State} {port p : Nat} {x : Slot} {h : LinkHead}
    {type : Nat} {b : Bytes} {act : FeSt → FeSt} (k : FeHears (s.fee port) h type b)
    (ho : o = ok ((s.atP p).feReceive port x type h b act)) :
    ∃ t, o = .next t ∧ t.fee port = act (s.feHeard port p x h) ∧ ∀ q, q ≠ port → t.fee q = s.fee q :=
  modFee_next (ho.trans (congrArg ok (State.feReceive_heard k act)))

/-! ### What the operations of a front end leave of it -/

/-- A frame that begins leaves a front end awake or asleep. -/
@[simp] theorem FeSt.roll_awake (f : FeSt) (n : Nat) : (f.roll n).awake = f.awake := by
  unfold FeSt.roll
  split <;> rfl

/-- What a frame that begins leaves of a port: the uploads sent on it (R96, R101). -/
theorem FeSt.roll_side (f : FeSt) (n : Nat) (x : Slot) :
    ((f.roll n).side x).sent = (f.side x).sent ∧ ((f.roll n).side x).up = (f.side x).up := by
  unfold FeSt.roll
  split
  · exact ⟨rfl, rfl⟩
  · cases x <;> exact ⟨rfl, rfl⟩

/-- A heard frame leaves the uploads sent on a port. -/
theorem State.feHeard_side (s : State) (port p : Nat) (x y : Slot) (h : LinkHead) :
    ((s.feHeard port p x h).side y).sent = ((s.fee port).side y).sent ∧
      ((s.feHeard port p x h).side y).up = ((s.fee port).side y).up := by
  obtain ⟨hs, hu⟩ := FeSt.roll_side (s.fee port) s.time.ticks y
  rw [← hs, ← hu]
  cases x <;> cases y <;> exact ⟨rfl, rfl⟩

/-! ### Sampling (R120) -/

theorem feSample_first (port : PortIx) (x : Slot) (h : LinkHead) (delay : Nat) (conv : Bool) (inp : FeIn)
    (bad : BitVec 65) (s : State) (k : FeHears (s.fee port.val) h 1 (sampleBytes delay conv))
    (hn : (s.feHeard port.val 10 x h).sampled = none) :
    ∃ t, exec (.feSample port x h delay conv inp bad) s = .next t ∧
      (t.fee port.val).sampled = some h.frame ∧ (t.fee port.val).convert = conv ∧ (t.fee port.val).delay = delay ∧
      ((t.fee port.val).side x).sampleHere = true ∧ ((t.fee port.val).side x).sampleSeq = h.seq ∧
      ∀ q, q ≠ port.val → t.fee q = s.fee q := by
  obtain ⟨t, ht, hf, ho⟩ := feReceive_next (o := exec (.feSample port x h delay conv inp bad) s) k rfl
  refine ⟨t, ht, ?_⟩
  simp only [hn] at hf
  rw [hf]
  cases conv with
  | false => cases x <;> exact ⟨rfl, rfl, rfl, rfl, rfl, ho⟩
  | true => cases x <;> exact ⟨rfl, rfl, rfl, rfl, rfl, ho⟩

/-! ### Balancing (R95, R128, R130) -/

/-- A port with authority is the only one that claims it (R136). -/
theorem FeSt.conflict_of_auth {f : FeSt} {t : Nat} {x : Slot} (h : f.auth t = some x) : f.conflict t = false := by
  unfold FeSt.auth at h
  unfold FeSt.conflict
  cases ha : f.a.claims t <;> cases hb : f.b.claims t <;> simp_all

/-- A pattern of Table 4-6 is none exactly where its code is 0. -/
theorem pattern_ne_zero_iff (pat : Fin 3) : BitVec.ofNat 2 pat.val ≠ 0 ↔ pat.val ≠ 0 := by
  revert pat; decide

/-- The mask of a front end without a conflict that has had a `CONTROL` (R128, R130). -/
theorem FeSt.applyMask_free {f : FeSt} {t : Nat} (hc : f.conflict t = false) (hw : f.wakeHold = false)
    (req : BitVec 64) (frame : Nat) :
    (f.applyMask t req frame).appliedMask =
      if f.pattern ≠ 0 ∨ f.dieHot = true then 0 else f.limitMask req (frame % 2) := by
  simp [FeSt.applyMask, hc, hw]

/-- A `CONTROL` without queued writes on the port with authority (R95, R133). -/
theorem FeSt.control_auth {f : FeSt} {t : Nat} {x : Slot} (h : f.auth t = some x) (frame : Nat) (mask : BitVec 64)
    (pat : Nat) (sleep : Bool) (fw : Verdict) (ver : Word) :
    ∃ o, f.control t x frame mask pat sleep [] fw ver =
      { f with
        ctrlSeen := true, wakeHold := false, pattern := BitVec.ofNat 2 pat, sleepDue := sleep,
        owFlag := o }.applyMask t mask frame :=
  ⟨_, by rw [FeSt.control, if_neg (not_not_intro h)]; rfl⟩

theorem feControl_acts (port : PortIx) (x : Slot) (h : LinkHead) (mask : BitVec 64) (pat : Fin 3) (sleep : Bool)
    (fw : Verdict) (ver : Word) (s : State) (k : FeHears (s.fee port.val) h 2 (controlBytes mask pat.val sleep []))
    (hf : (s.feHeard port.val 20 x h).ofFrame h = true)
    (ha : (s.feHeard port.val 20 x h).auth (s.atP 20).clockUs = some x) :
    ∃ t, exec (.feControl port x h mask pat sleep [] fw ver) s = .next t ∧
      (t.fee port.val).ctrlSeen = true ∧ (t.fee port.val).reqMask = mask ∧
      (t.fee port.val).pattern = BitVec.ofNat 2 pat.val ∧ (t.fee port.val).sleepDue = sleep ∧
      (t.fee port.val).appliedMask = (if pat.val ≠ 0 ∨ (s.feHeard port.val 20 x h).dieHot = true then 0
        else (s.feHeard port.val 20 x h).limitMask mask (h.frame % 2)) ∧
      ∀ q, q ≠ port.val → t.fee q = s.fee q := by
  obtain ⟨t, ht, hr, ho⟩ := feReceive_next (o := exec (.feControl port x h mask pat sleep [] fw ver) s) k rfl
  refine ⟨t, ht, ?_⟩
  obtain ⟨o, hc⟩ := FeSt.control_auth ha h.frame mask pat.val sleep fw ver
  rw [hr, if_pos hf, hc]
  have hm := FeSt.applyMask_free (f := { s.feHeard port.val 20 x h with
    ctrlSeen := true, wakeHold := false, pattern := BitVec.ofNat 2 pat.val, sleepDue := sleep, owFlag := o })
    (FeSt.conflict_of_auth ha) rfl mask h.frame
  simp only [pattern_ne_zero_iff] at hm
  exact ⟨rfl, rfl, rfl, rfl, hm, ho⟩

theorem feControlMissing_stops (port : PortIx) (s : State) (hw : (s.fee port.val).awake = true)
    (hc : ((s.fee port.val).roll s.time.ticks).ctrlSeen = false) :
    ∃ t, exec (.feControlMissing port) s = .next t ∧ (t.fee port.val).ctrlMissing = true ∧
      (t.fee port.val).appliedMask = 0 ∧ (t.fee port.val).pattern = 0 ∧ ∀ q, q ≠ port.val → t.fee q = s.fee q := by
  obtain ⟨t, ht, hf, ho⟩ := modFee_next (o := exec (.feControlMissing port) s) rfl
  refine ⟨t, ht, ?_⟩
  rw [hf]
  have hg : (((s.fee port.val).roll s.time.ticks).awake && !((s.fee port.val).roll s.time.ticks).ctrlSeen) = true := by
    rw [FeSt.roll_awake, hw, hc]; rfl
  rw [State.atP_time]
  dsimp only
  rw [if_pos hg]
  exact ⟨rfl, rfl, rfl, ho⟩

/-! ### Uploads (R96, R101) -/

theorem feUpload_sends (port : PortIx) (n : Nat) (s : State) (hw : (s.fee port.val).awake = true)
    (hn : ((s.fee port.val).roll s.time.ticks).sampled = some n) :
    ∃ t, exec (.feUpload port) s = .next t ∧
      (∀ x, ((t.fee port.val).side x).sent = ((s.fee port.val).side x).sent + 1 ∧
        ((t.fee port.val).side x).up =
          some (((s.fee port.val).roll s.time.ticks).upload (s.atP 100).clockUs x n)) ∧
      ∀ q, q ≠ port.val → t.fee q = s.fee q := by
  obtain ⟨t, ht, hf, ho⟩ := modFee_next (o := exec (.feUpload port) s) rfl
  refine ⟨t, ht, fun x => ?_, ho⟩
  have hg : ((s.fee port.val).roll s.time.ticks).awake = true := (FeSt.roll_awake ..).trans hw
  rw [hf, State.atP_time, ← (FeSt.roll_side (s.fee port.val) s.time.ticks x).1]
  simp only [hn, hg, Bool.not_true, Bool.false_eq_true, if_false]
  cases x <;> exact ⟨rfl, rfl⟩

theorem feRepeat_repeats (p : Pulse) (port : PortIx) (x : Slot) (h : LinkHead) (s : State)
    (k : FeHears (s.fee port.val) h 3 []) (hp : p.val ≤ 218)
    (hn : (s.feHeard port.val p.val x h).sampled = some h.frame)
    (hr : ((s.feHeard port.val p.val x h).side x).repeated = false) :
    ∃ t, exec (.feRepeat p port x h) s = .next t ∧ ((t.fee port.val).side x).repeated = true ∧
      ((t.fee port.val).side x).sent = ((s.fee port.val).side x).sent + 1 ∧
      ((t.fee port.val).side x).rep = ((s.fee port.val).side x).up.map UpFrame.again ∧
      ∀ q, q ≠ port.val → t.fee q = s.fee q := by
  obtain ⟨t, ht, hf, ho⟩ := feReceive_next (o := exec (.feRepeat p port x h) s) k rfl
  refine ⟨t, ht, ?_⟩
  obtain ⟨hs, hu⟩ := State.feHeard_side s port.val p.val x x h
  rw [hf, if_pos ⟨hp, hn, by rw [hr]; rfl⟩, FeSt.modSide_side, ← hs, ← hu]
  exact ⟨rfl, rfl, rfl, ho⟩

/-! ### The end of a claim (R136) -/

theorem feAuthorityExpiry_ends (p : Pulse) (port : PortIx) (x : Slot) (c : Nat) (s : State)
    (hc : ((s.fee port.val).side x).claimAt = some c) (ht : c + 10000 ≤ (s.atP p.val).clockUs) :
    ∃ t, exec (.feAuthorityExpiry p port x) s = .next t ∧ ((t.fee port.val).side x).claimAt = none ∧
      (t.fee port.val).side x.other = (s.fee port.val).side x.other ∧ ∀ q, q ≠ port.val → t.fee q = s.fee q := by
  obtain ⟨t, hn, hf, ho⟩ := modFee_next (o := exec (.feAuthorityExpiry p port x) s) rfl
  refine ⟨t, hn, ?_, ?_, ho⟩
  · rw [hf, FeSt.modSide_side]
    simp only [hc, if_pos ht]
  · rw [hf, FeSt.modSide_other]

/-- Settles O22: one lemma per row; a frame heard acts on the front end that has noted it (`feReceive_next`). -/
theorem frontEndSamplingCompletes : Obligations.FrontEndSamplingCompletes :=
  ⟨feSample_first, feControl_acts, feControlMissing_stops, feUpload_sends, feRepeat_repeats, feAuthorityExpiry_ends⟩

end Sys2Proof.Machine

end

section

namespace Sys2Proof.Machine

/-! ### Firmware blocks and echo (R104, R147) -/

/-- A block that is taken waits in the buffer, and the version of its bank is emptied (R147). -/
theorem FeSt.takeBlock_taken {f : FeSt} {t : Nat} {x : Slot} {bank blockNo : Nat} (ha : f.auth t = some x)
    (hl : f.fwBuf.length < 4) (hb : bank ≤ 1) (hr : bank ≠ f.runBank) (hs : blockNo < f.fwSize) (data : Bytes) :
    (f.takeBlock t x bank blockNo data).1 = 0 ∧
      (f.takeBlock t x bank blockNo data).2.fwBuf = f.fwBuf ++ [(bank, blockNo, padTo 256 data)] ∧
      (if bank = 0 then (f.takeBlock t x bank blockNo data).2.bank0 else (f.takeBlock t x bank blockNo data).2.bank1) =
        0xFFFFFFFF := by
  have hg : ¬(1 < bank ∨ bank = f.runBank ∨ f.fwSize ≤ blockNo) := by omega
  rw [FeSt.takeBlock, if_neg (not_not_intro ha), if_neg (Nat.not_le.mpr hl), if_neg hg]
  dsimp only
  by_cases h0 : bank = 0
  · rw [if_pos h0, if_pos h0]; exact ⟨rfl, rfl, rfl⟩
  · rw [if_neg h0, if_neg h0]; exact ⟨rfl, rfl, rfl⟩

theorem feFwBlock_buffers (p : Pulse) (port : PortIx) (x : Slot) (h : LinkHead) (bank blockNo : Nat) (data : Bytes)
    (f : FeSt) (s : State) (k : FeHears (s.fee port.val) h 0x30 (fwBlockBytes bank blockNo data))
    (hf : s.feHeard port.val p.val x h = f) (ha : f.auth (s.atP p.val).clockUs = some x) (hl : f.fwBuf.length < 4)
    (hb : bank ≤ 1) (hr : bank ≠ f.runBank) (hs : blockNo < f.fwSize) :
    ∃ t r, exec (.feFwBlock p port x h bank blockNo data) s = .next t ∧
      (t.fee port.val).fwBuf = f.fwBuf ++ [(bank, blockNo, padTo 256 data)] ∧
      (if bank = 0 then (t.fee port.val).bank0 else (t.fee port.val).bank1) = 0xFFFFFFFF ∧
      ((t.fee port.val).side x).reply = some r ∧ r.rstat = 0 ∧ r.addr = blockNo ∧ r.head.type = 0x31 ∧
      r.head.seq = h.seq ∧ ∀ q, q ≠ port.val → t.fee q = s.fee q := by
  obtain ⟨t, ht, hg, ho⟩ := feReceive_next (o := exec (.feFwBlock p port x h bank blockNo data) s) k rfl
  obtain ⟨h1, h2, h3⟩ := FeSt.takeBlock_taken ha hl hb hr hs data
  rw [hf] at hg
  obtain ⟨y, hy, y1, y2, -, y4, y5, -⟩ := FeSt.send_eq (f.takeBlock (s.atP p.val).clockUs x bank blockNo data).2
    (s.atP p.val).clockUs x 0x31 h (fwAckBytes (f.takeBlock (s.atP p.val).clockUs x bank blockNo data).1 blockNo)
    (f.takeBlock (s.atP p.val).clockUs x bank blockNo data).1 blockNo []
  have hg' := hg.trans hy
  obtain ⟨a, b, hm⟩ := FeSt.modSide_eq (f.takeBlock (s.atP p.val).clockUs x bank blockNo data).2 x
    (fun q => { q with reply := some y })
  refine ⟨t, y, ht, ?_, ?_, ?_, y1.trans h1, y2, y4, y5, ho⟩
  · rw [hg', hm]; exact h2
  · rw [hg', hm]; exact h3
  · rw [hg', FeSt.modSide_side]

theorem feFwBlockProgrammed_programs (p : Pulse) (port : PortIx) (k b : Nat) (d : Bytes) (l : List (Nat × Nat × Bytes))
    (s : State) (hl : (s.fee port.val).fwBuf = (k, b, d) :: l) (hw : (s.fee port.val).awake = true) :
    ∃ t, exec (.feFwBlockProgrammed p port) s = .next t ∧ (t.fee port.val).fwBuf = l ∧
      (t.fee port.val).image0 = (if k = 0 then tput (s.fee port.val).image0 b d else (s.fee port.val).image0) ∧
      (t.fee port.val).image1 = (if k = 0 then (s.fee port.val).image1 else tput (s.fee port.val).image1 b d) ∧
      ∀ q, q ≠ port.val → t.fee q = s.fee q := by
  obtain ⟨t, ht, hf, ho⟩ := modFee_next (o := exec (.feFwBlockProgrammed p port) s) rfl
  refine ⟨t, ht, ?_⟩
  simp only [hl, hw, Bool.not_true, Bool.false_eq_true, if_false] at hf
  rw [hf]
  by_cases hk : k = 0
  · simp only [if_pos hk]; exact ⟨trivial, trivial, trivial, ho⟩
  · simp only [if_neg hk]; exact ⟨trivial, trivial, trivial, ho⟩

theorem feEcho_answers (p : Pulse) (port : PortIx) (x : Slot) (h : LinkHead) (s : State)
    (k : FeHears (s.fee port.val) h 0x40 []) :
    ∃ t r, exec (.feEcho p port x h) s = .next t ∧
      t.fee port.val = (s.feHeard port.val p.val x h).modSide x (fun q => { q with reply := some r }) ∧
      r.head.type = 0x41 ∧ r.head.seq = h.seq ∧ ∀ q, q ≠ port.val → t.fee q = s.fee q := by
  obtain ⟨t, ht, hf, ho⟩ := feReceive_next (o := exec (.feEcho p port x h) s) k rfl
  obtain ⟨y, hy, -, -, -, y4, y5, -⟩ :=
    FeSt.send_eq (s.feHeard port.val p.val x h) (s.atP p.val).clockUs x 0x41 h [] 0 0 []
  exact ⟨t, y, ht, hf.trans hy, y4, y5, ho⟩

/-! ### Sleep (R138) -/

/-- A front end that enters sleep with no wear commit in progress drives nothing, and of its alarm bits the tone's own
stays. -/
theorem FeSt.sleep_enters {f : FeSt} (h : f.wearBusy = false) (t : Nat) :
    (f.sleep t).asleep = true ∧ (f.sleep t).sleepAt = t ∧ (f.sleep t).appliedMask = 0 ∧ (f.sleep t).pattern = 0 ∧
      (f.sleep t).alarm = f.alarm &&& 0x01 := by
  rw [FeSt.sleep, if_neg (by simp [h])]
  exact ⟨rfl, rfl, rfl, rfl, rfl⟩

theorem feSleepEntry_enters (port : PortIx) (s : State) (hw : (s.fee port.val).awake = true)
    (hd : (s.fee port.val).sleepDue = true) (ht : (s.fee port.val).frameT = s.time.ticks)
    (hr : (s.fee port.val).restartDue = none) (hb : (s.fee port.val).wearBusy = false) :
    ∃ t, exec (.feSleepEntry port) s = .next t ∧ (t.fee port.val).asleep = true ∧
      (t.fee port.val).sleepAt = (s.atP 900).clockUs ∧ (t.fee port.val).appliedMask = 0 ∧
      (t.fee port.val).pattern = 0 ∧ (t.fee port.val).alarm = (s.fee port.val).alarm &&& 0x01 ∧
      ∀ q, q ≠ port.val → t.fee q = s.fee q := by
  obtain ⟨t, hn, hf, ho⟩ := modFee_next (o := exec (.feSleepEntry port) s) rfl
  have hs : t.fee port.val = (s.fee port.val).sleep (s.atP 900).clockUs := by
    rw [hf]
    unfold FeSt.pulse900
    rw [hr]
    exact if_pos (by simp [hw, hd, ht])
  obtain ⟨h1, h2, h3, h4, h5⟩ := FeSt.sleep_enters hb (s.atP 900).clockUs
  rw [← hs] at h1 h2 h3 h4 h5
  exact ⟨t, hn, h1, h2, h3, h4, h5, ho⟩

theorem feSleepTimeout_enters (p : Pulse) (port : PortIx) (s : State) (hw : (s.fee port.val).awake = true)
    (ht : (s.fee port.val).heardAt + 200000 ≤ (s.atP p.val).clockUs) (hb : (s.fee port.val).wearBusy = false) :
    ∃ t, exec (.feSleepTimeout p port) s = .next t ∧ (t.fee port.val).asleep = true ∧
      (t.fee port.val).sleepAt = (s.atP p.val).clockUs ∧ (t.fee port.val).appliedMask = 0 ∧
      ∀ q, q ≠ port.val → t.fee q = s.fee q := by
  obtain ⟨t, hn, hf, ho⟩ := modFee_next (o := exec (.feSleepTimeout p port) s) rfl
  have hs : t.fee port.val = (s.fee port.val).sleep (s.atP p.val).clockUs :=
    hf.trans (if_pos (by simp [hw, ht]))
  obtain ⟨h1, h2, h3, -, -⟩ := FeSt.sleep_enters hb (s.atP p.val).clockUs
  rw [← hs] at h1 h2 h3
  exact ⟨t, hn, h1, h2, h3, ho⟩

/-! ### Asleep: conversions, tones and the wake (R139 to R142) -/

/-- The check for crossings leaves the readings and the enable of sleep balancing (R141). -/
theorem FeSt.sleepCheck_keeps (f : FeSt) :
    f.sleepCheck.cellV = f.cellV ∧ f.sleepCheck.temp = f.temp ∧ f.sleepCheck.balEn = f.balEn := by
  unfold FeSt.sleepCheck
  exact ⟨rfl, rfl, rfl⟩

theorem FeSt.convertAll_balEn (f : FeSt) (i : FeIn) : (f.convertAll i).balEn = f.balEn := by
  unfold FeSt.convertAll
  rfl

/-- A sleep mask leaves the readings. -/
theorem FeSt.sleepMask_readings (f : FeSt) (e : Nat) :
    (f.sleepMask e).cellV = f.cellV ∧ (f.sleepMask e).temp = f.temp := by
  unfold FeSt.sleepMask
  dsimp only
  split
  · exact ⟨rfl, rfl⟩
  · split <;> exact ⟨rfl, rfl⟩

/-- The conversion in the first second of a period decides its mask, an empty one without sleep balancing (R140). -/
theorem FeSt.sleepMask_first (f : FeSt) {e : Nat} (h : e % 10000000 < 1000000) :
    (f.sleepMask e).period = some (e / 10000000) ∧ (f.balEn = false → (f.sleepMask e).appliedMask = 0) := by
  unfold FeSt.sleepMask
  dsimp only
  rw [if_pos h]
  exact ⟨rfl, fun hb => if_neg (by simp [hb])⟩

theorem feSleepConversion_converts (p : Pulse) (port : PortIx) (inp : FeIn) (e : Nat) (s : State)
    (hn : (s.fee port.val).on = true) (ha : (s.fee port.val).asleep = true)
    (he : (s.fee port.val).sleepFor (s.atP p.val).clockUs = e) (hs : sleepSlot e = true) :
    ∃ t, exec (.feSleepConversion p port inp) s = .next t ∧
      (t.fee port.val).cellV = ((s.fee port.val).convertAll inp).cellV ∧
      (t.fee port.val).temp = ((s.fee port.val).convertAll inp).temp ∧
      (e % 10000000 < 1000000 → (t.fee port.val).period = some (e / 10000000) ∧
        ((s.fee port.val).balEn = false → (t.fee port.val).appliedMask = 0)) ∧
      ∀ q, q ≠ port.val → t.fee q = s.fee q := by
  obtain ⟨t, ht, hf, ho⟩ := modFee_next (o := exec (.feSleepConversion p port inp) s) rfl
  have hc : t.fee port.val = ((s.fee port.val).convertAll inp).sleepCheck.sleepMask e := by
    rw [hf]
    simp only [he, hn, ha, hs, Bool.and_self, if_true]
  obtain ⟨kv, ku, kb⟩ := ((s.fee port.val).convertAll inp).sleepCheck_keeps
  obtain ⟨hv, hu⟩ := ((s.fee port.val).convertAll inp).sleepCheck.sleepMask_readings e
  rw [FeSt.convertAll_balEn] at kb
  refine ⟨t, ht, ?_⟩
  rw [hc, ← kb]
  exact ⟨hv.trans kv, hu.trans ku, fun h => FeSt.sleepMask_first _ h, ho⟩

theorem feAlarmToneSend_sends (p : Pulse) (port : PortIx) (s : State) (hn : (s.fee port.val).on = true)
    (ha : (s.fee port.val).asleep = true) (hd : (s.fee port.val).toneDue = true) :
    ∃ t, exec (.feAlarmToneSend p port false) s = .next t ∧
      (t.fee port.val).tones = (s.fee port.val).tones + 1 ∧ (t.fee port.val).toneDue = false ∧
      (t.fee port.val).alarm = (s.fee port.val).alarm ||| 0x01 ∧ ∀ q, q ≠ port.val → t.fee q = s.fee q := by
  obtain ⟨t, ht, hf, ho⟩ := modFee_next (o := exec (.feAlarmToneSend p port false) s) rfl
  refine ⟨t, ht, ?_⟩
  rw [hf, if_pos (by rw [hn, ha, hd]; rfl)]
  exact ⟨rfl, rfl, rfl, ho⟩

theorem feWake_wakes (p : Pulse) (port : PortIx) (s : State) (hn : (s.fee port.val).on = true)
    (ha : (s.fee port.val).asleep = true) :
    ∃ t, exec (.feWake p port) s = .next t ∧ (t.fee port.val).asleep = false ∧
      (t.fee port.val).appliedMask = 0 ∧ (t.fee port.val).wakeHold = true ∧
      ∀ q, q ≠ port.val → t.fee q = s.fee q := by
  obtain ⟨t, ht, hf, ho⟩ := modFee_next (o := exec (.feWake p port) s) rfl
  refine ⟨t, ht, ?_⟩
  rw [hf, if_pos (by rw [hn, ha]; rfl)]
  exact ⟨rfl, rfl, rfl, ho⟩

/-! ### Starts (R145, R146) -/

/-- The check of the wear copies changes nothing where the newer one passes (R146). -/
theorem FeSt.wearCheck_pass (f : FeSt) (older : Verdict) : f.wearCheck .pass older = f := if_pos (by simp)

theorem fePowerOn_starts (p : Pulse) (port : PortIx) (cause : FeCause) (older : Verdict) (s : State) :
    ∃ t, exec (.fePowerOn p port cause false .pass older) s = .next t ∧
      (t.fee port.val).runBank = (s.fee port.val).fwSel ∧ (t.fee port.val).resetCause = cause.code ∧
      (t.fee port.val).asleep = false ∧ (t.fee port.val).appliedMask = 0 ∧
      (t.fee port.val).serial = (s.fee port.val).serial ∧ (t.fee port.val).wearCopy = (s.fee port.val).wearCopy ∧
      ∀ q, q ≠ port.val → t.fee q = s.fee q := by
  obtain ⟨t, ht, hf, ho⟩ := modFee_next (o := exec (.fePowerOn p port cause false .pass older) s) rfl
  refine ⟨t, ht, ?_⟩
  rw [hf, FeSt.wearCheck_pass]
  exact ⟨rfl, rfl, rfl, rfl, rfl, rfl, ho⟩

/-- Settles O24: one lemma per row. -/
theorem frontEndSleepAndFirmwareComplete : Obligations.FrontEndSleepAndFirmwareComplete :=
  ⟨feFwBlock_buffers, feFwBlockProgrammed_programs, feEcho_answers, feSleepEntry_enters, feSleepTimeout_enters,
    feSleepConversion_converts, feAlarmToneSend_sends, feWake_wakes, fePowerOn_starts⟩

end Sys2Proof.Machine

end

section

namespace Sys2Proof.Machine

/-! ### The states of a link context (Table 4-13) -/

theorem linkLost_loses (p : PortIx) (s : State) (hr : (s.lnk p.val).state = .run) (hm : 5 ≤ (s.lnk p.val).missRun) :
    ∃ t, exec (.linkLost p) s = .next t ∧ t.lnk p.val = { s.lnk p.val with
        state := .lost, targets := if (s.lnk p.val).targets = 1 then 0 else (s.lnk p.val).targets } ∧
      ∀ q, q ≠ p.val → t.lnk q = s.lnk q :=
  next_pos rfl ⟨hr, hm⟩ ⟨_, rfl, by simp [State.setLink_lnk], fun q hq => by simp [State.setLink_lnk, hq]⟩

theorem linkRecovered_runs (p : PortIx) (s : State) (hl : (s.lnk p.val).state = .lost)
    (hv : s.linkCfg.recoverFrames ≤ (s.lnk p.val).validRun) :
    ∃ t, exec (.linkRecovered p) s = .next t ∧ t.lnk p.val = { s.lnk p.val with state := .run } ∧
      ∀ q, q ≠ p.val → t.lnk q = s.lnk q :=
  next_pos rfl ⟨hl, hv⟩ ⟨_, rfl, by simp [State.setLink_lnk], fun q hq => by simp [State.setLink_lnk, hq]⟩

/-- A wake pattern sent is noted on its own port (R107). -/
theorem State.sendWake_lnk (s : State) (p q : Nat) :
    (s.sendWake p).lnk q = if q = p then
      { s.lnk p with wakeFrame := some s.time.ticks, tone := false, alarmState := (s.lnk p).state.code } else s.lnk q :=
  State.modLnk_lnk ..

/-- A row that sends the wake pattern on a port under a condition, where the condition holds. -/
theorem sendWake_next {o : Host.Outcome State Fault Refusal} {c : Prop} {d : Decidable c} (p : PortIx) {s : State}
    (ho : o = ok (@ite _ c d ((s.atP 400).sendWake p.val) (s.atP 400))) (hc : c) :
    ∃ t, o = .next t ∧
      t.lnk p.val = { s.lnk p.val with
        wakeFrame := some s.time.ticks, tone := false, alarmState := (s.lnk p.val).state.code } ∧
      ∀ q, q ≠ p.val → t.lnk q = s.lnk q :=
  next_pos ho hc ⟨_, rfl, (State.sendWake_lnk ..).trans (if_pos rfl),
    fun _ hq => (State.sendWake_lnk ..).trans (if_neg hq)⟩

theorem linkWakeRetry_sends (p : PortIx) (w : Nat) (s : State) (hf : (s.lnk p.val).wakeFrame = some w)
    (hw : (s.lnk p.val).state = .wake) (hv : (s.lnk p.val).validNow = false) (ht : w + 100 ≤ s.time.ticks) :
    ∃ t, exec (.linkWakeRetry p) s = .next t ∧
      t.lnk p.val = { s.lnk p.val with
        wakeFrame := some s.time.ticks, tone := false, alarmState := (s.lnk p.val).state.code } ∧
      ∀ q, q ≠ p.val → t.lnk q = s.lnk q := by
  have ho : exec (.linkWakeRetry p) s = ok (if (s.lnk p.val).state = .wake ∧ (!(s.lnk p.val).validNow) = true ∧
      w + 100 ≤ s.time.ticks then (s.atP 400).sendWake p.val else s.atP 400) := by
    show execLinkWakeRetry p s = _
    simp only [execLinkWakeRetry, State.atP_lnk, hf]
    rfl
  exact sendWake_next p ho ⟨hw, by rw [hv]; rfl, ht⟩

theorem linkLostWake_sends (p : PortIx) (s : State) (hl : (s.lnk p.val).state = .lost)
    (hm : 200 ≤ (s.lnk p.val).missRun) (hk : ((s.lnk p.val).missRun - 200) % 1000 = 0) :
    ∃ t, exec (.linkLostWake p) s = .next t ∧
      t.lnk p.val = { s.lnk p.val with
        wakeFrame := some s.time.ticks, tone := false, alarmState := (s.lnk p.val).state.code } ∧
      ∀ q, q ≠ p.val → t.lnk q = s.lnk q :=
  sendWake_next p rfl ⟨hl, hm, hk⟩

theorem linkAlignRetry_starts (p : PortIx) (s : State) (ha : (s.lnk p.val).state = .align)
    (hr : (s.lnk p.val).echoRun = true) (ht : 8 ≤ (s.lnk p.val).echoTried) :
    ∃ t, exec (.linkAlignRetry p) s = .next t ∧
      t.lnk p.val = { s.lnk p.val with
        alignFails := (s.lnk p.val).alignFails + 1,
        latFault := (s.lnk p.val).latFault || decide (2 ≤ (s.lnk p.val).alignFails + 1), echoes := [],
        echoTried := 0, echoRun := true } ∧ ∀ q, q ≠ p.val → t.lnk q = s.lnk q :=
  next_pos rfl ⟨ha, hr, ht⟩ ⟨_, rfl, by
      rw [State.measureFailed, State.modLnk_lnk, if_pos rfl]
      exact if_pos ha,
    fun _ hq => (State.modLnk_lnk ..).trans (if_neg hq)⟩

theorem linkEchoInterval_starts (p : PortIx) (s : State) (hr : (s.lnk p.val).state = .run)
    (he : (s.lnk p.val).echoRun = false)
    (ht : (s.lnk p.val).echoFrame + 1000 * s.linkCfg.echoInterval ≤ s.time.ticks) :
    ∃ t, exec (.linkEchoInterval p) s = .next t ∧
      t.lnk p.val = { s.lnk p.val with echoRun := true, echoes := [], echoTried := 0 } ∧
      ∀ q, q ≠ p.val → t.lnk q = s.lnk q :=
  next_pos rfl ⟨hr, by rw [State.atP_lnk, he]; rfl, ht⟩ ⟨_, rfl, by simp, fun q hq => by simp [hq]⟩

/-! ### Alarm tones and the wake burst of Rest (R108, R113) -/

/-- The state in which an alarm tone has been journaled and counted, before its effect on Rest (R108). -/
def State.toneNoted (s : State) (n : Pulse) (p : PortIx) : State :=
  ((s.atP n.val).ev 0x0403 (le 1 p.val ++ le 1 (s.lnk p.val).state.code)).modLnk p.val (fun x =>
    { x with tone := true, alarmState := x.state.code, nTones := sat32u (x.nTones + 1) })

theorem State.toneNoted_mode (s : State) (n : Pulse) (p : PortIx) : (s.toneNoted n p).mode = s.mode :=
  State.ev_mode ..

theorem linkAlarmTone_counts (n : Pulse) (p : PortIx) (s : State) :
    ∃ t, exec (.linkAlarmTone n p) s = .next t ∧
      t.lnk p.val = { s.lnk p.val with
        tone := true, alarmState := (s.lnk p.val).state.code, nTones := sat32u ((s.lnk p.val).nTones + 1) } ∧
      (∀ q, q ≠ p.val → t.lnk q = s.lnk q) ∧
      ((s.lnk p.val).state = .sleep → s.mode.mode = .rest → t.mode.leavingRest = true) ∧
      t.mode.mode = s.mode.mode := by
  have hm := s.toneNoted_mode n p
  have hp : (s.toneNoted n p).lnk p.val = { s.lnk p.val with
      tone := true, alarmState := (s.lnk p.val).state.code, nTones := sat32u ((s.lnk p.val).nTones + 1) } := by
    simp [State.toneNoted]
  have ho : ∀ q, q ≠ p.val → (s.toneNoted n p).lnk q = s.lnk q := fun q hq => by simp [State.toneNoted, hq]
  by_cases hc : (s.lnk p.val).state = .sleep ∧ (s.toneNoted n p).mode.mode = .rest
  · exact next_pos rfl hc ⟨_, rfl, hp, ho, fun _ _ => rfl, (congrArg ModeSt.mode hm :)⟩
  · exact next_neg rfl hc ⟨_, rfl, hp, ho, fun h1 h2 => absurd ⟨h1, hm ▸ h2⟩ hc, (congrArg ModeSt.mode hm :)⟩

theorem State.fittedPorts_nodup (s : State) : s.fittedPorts.Nodup := (upFrom_nodup 0 128).1.filter _

/-- Waking ports one after another wakes each that sleeps, in the present frame (R107). -/
theorem State.wakePorts_wake (s : State) {l : List Nat} (hn : l.Nodup) :
    ∀ q ∈ l, (s.lnk q).state = .sleep →
      ((l.foldl (fun u p => u.wakePort p .sleep) s).lnk q).state = .wake ∧
        ((l.foldl (fun u p => u.wakePort p .sleep) s).lnk q).wakeFrame = some s.time.ticks := by
  have ht (u : State) (k : Nat) : (u.wakePort k .sleep).time = u.time := (State.wakePort_frame ..).time_eq (by decide)
  refine foldl_once (v := fun u k => (u.lnk k, u.time.ticks))
    (R := fun x y => x.1.state = .sleep → y.1.state = .wake ∧ y.1.wakeFrame = some x.2)
    (fun u k h => ?_) (fun u k j hj => ?_) hn s
  · dsimp only at h ⊢
    rw [State.wakePort_lnk, if_pos ⟨rfl, h⟩]
    exact ⟨rfl, rfl⟩
  · rw [ht, State.wakePort_lnk, if_neg (fun h => hj h.1)]

theorem restWakeBurst_wakes (s : State) (hm : s.mode.mode = .rest) (hn : (s.now + 2) % 60000 = 0)
    (hl : s.mode.leavingRest = false) :
    ∃ t, exec .restWakeBurst s = .next t ∧ t.mode.wakeBurst = 12 ∧ t.mode.mode = .rest ∧
      ∀ q ∈ s.fittedPorts, (s.lnk q).state = .sleep →
        (t.lnk q).state = .wake ∧ (t.lnk q).wakeFrame = some s.time.ticks := by
  have hk : Frame [.link, .jnl] (s.atP 400) (s.fittedPorts.foldl (fun u p => u.wakePort p .sleep) (s.atP 400)) :=
    .foldl (.refl _ _) fun _ _ h => .after (State.wakePort_frame ..) h rfl
  exact next_pos rfl ⟨hm, hn, by rw [State.atP_mode, hl]; rfl⟩
    ⟨_, rfl, rfl, (congrArg ModeSt.mode (hk.mode_eq (by decide))).trans hm,
      (s.atP 400).wakePorts_wake s.fittedPorts_nodup⟩

/-! ### The result of pulse 400 (R102, R114) -/

/-- The part of a link context that the result of a frame is read from and counted in (R102). -/
def LinkSt.tally (l : LinkSt) : LinkSt :=
  { sampled := l.sampled, validNow := l.validNow, missRun := l.missRun, validRun := l.validRun, nMissed := l.nMissed }

theorem LinkSt.count_tally (l : LinkSt) : l.count.tally = l.tally.count := by
  unfold LinkSt.count
  show (if !l.sampled then l else if l.validNow then _ else _ : LinkSt).tally =
    if !l.sampled then l.tally else if l.validNow then _ else _
  split
  · rfl
  · split <;> rfl

theorem State.modLnk_tally {s : State} {p : Nat} {f : LinkSt → LinkSt} (h : (f (s.lnk p)).tally = (s.lnk p).tally)
    (q : Nat) : ((s.modLnk p f).lnk q).tally = (s.lnk q).tally := by
  rw [State.modLnk_lnk]
  split
  · next e => rw [e, h]
  · rfl

/-- Secondary transactions are no part of the result. -/
theorem SecOnly.tally {p : Nat} {s t : State} (h : SecOnly p s t) (q : Nat) : (t.lnk q).tally = (s.lnk q).tally := by
  by_cases e : q = p
  · obtain ⟨a, b, c, g⟩ := h.self
    rw [e, g]; rfl
  · rw [h.other q e]

theorem State.setLink_tally (s : State) (p : Nat) (new : LinkState) (c q : Nat) :
    ((s.setLink p new c).lnk q).tally = (s.lnk q).tally := by
  rw [State.setLink_lnk]
  split
  · next e => rw [e]; rfl
  · rfl

theorem State.portWoken_tally (s : State) (p q : Nat) : ((s.portWoken p).lnk q).tally = (s.lnk q).tally := by
  unfold State.portWoken
  extract_lets l s1
  have h1 : (s1.lnk q).tally = (s.lnk q).tally := by
    unfold s1
    split
    · rfl
    · exact (State.secQueue_secOnly ..).tally q
  split
  · split
    · rw [State.setLink_tally, h1]
    · rw [State.modLnk_tally rfl, State.setLink_tally, h1]
  · split
    · exact State.setLink_tally ..
    · rfl

theorem State.portAsk_tally (s : State) (p q : Nat) : ((s.portAsk p).lnk q).tally = (s.lnk q).tally := by
  unfold State.portAsk
  extract_lets l s1 u s2
  have h1 : (s1.lnk q).tally = (s.lnk q).tally := by
    unfold s1
    split
    · exact State.modLnk_tally rfl q
    · rfl
  have h2 : (s2.lnk q).tally = (s.lnk q).tally := by
    rw [← h1]
    unfold s2
    split
    · exact ((State.secQueue_secOnly s1 p refreshReads).tally q :)
    · rfl
  rw [← h2]
  split
  · split
    · exact (State.secQueue_secOnly ..).tally q
    · rfl
  · rfl

/-- A port's part of the result, as PORT_RESULT takes it for one port after another. -/
def State.portRound (s : State) (p : Nat) : State := (((s.portCount p).portWoken p).flagCells p).portAsk p

/-- A port's round counts the port's own result, and no other (R102). -/
theorem State.portRound_tally (s : State) (p q : Nat) :
    ((s.portRound p).lnk q).tally = if q = p then (s.lnk p).tally.count else (s.lnk q).tally := by
  have hf : (((s.portCount p).portWoken p).flagCells p).lnk q = ((s.portCount p).portWoken p).lnk q :=
    congrArg (tget · q) ((State.flagCells_frame ..).link_eq (by decide))
  rw [State.portRound, State.portAsk_tally, hf, State.portWoken_tally, State.portCount]
  show ((s.modLnk p LinkSt.count).lnk q).tally = _
  rw [State.modLnk_lnk]
  split
  · exact LinkSt.count_tally _
  · rfl

/-- The rounds of all ports count each port once. -/
theorem State.portRounds_tally (s : State) {l : List Nat} (hn : l.Nodup) :
    ∀ q ∈ l, ((l.foldl State.portRound s).lnk q).tally = (s.lnk q).tally.count :=
  foldl_once (v := fun u k => (u.lnk k).tally) (R := fun x y => y = x.count)
    (fun u k => (u.portRound_tally k k).trans (if_pos rfl))
    (fun u k j hj => (u.portRound_tally k j).trans (if_neg hj)) hn s

/-- The comparison of the strings and the transactions started leave the counts. -/
theorem State.portEnds_tally (s : State) (ks ps : List Nat) (q : Nat) :
    ((ps.foldl State.secStart (ks.foldl State.sumCompare s)).lnk q).tally = (s.lnk q).tally := by
  have hs : (ks.foldl State.sumCompare s).link = s.link :=
    foldl_view (v := State.link) (fun _ _ => (State.sumCompare_frame ..).link_eq (by decide)) ks s
  have hp := foldl_view (v := fun u : State => (u.lnk q).tally) (f := State.secStart)
    (fun _ _ => (State.secStart_secOnly ..).tally q) ps (ks.foldl State.sumCompare s)
  exact hp.trans (congrArg (fun t => (tget t q).tally) hs)

/-- Outside Rest nothing is woken. -/
theorem State.restWakeAll_of_ne {s : State} (h : s.mode.mode ≠ .rest) : s.restWakeAll = s :=
  if_neg fun k => h k.1

theorem portResult_tally (s : State) (h : s.mode.mode ≠ .rest) :
    ∃ t, exec .portResult s = .next t ∧ ∀ q ∈ s.fittedPorts, (t.lnk q).tally = (s.lnk q).tally.count := by
  refine ⟨_, rfl, fun q hq => ?_⟩
  rw [State.restWakeAll_of_ne (s := s.atP 400) h]
  exact (State.portEnds_tally ..).trans ((s.atP 400).portRounds_tally s.fittedPorts_nodup q hq)

theorem portResult_counts (s : State) (h : s.mode.mode ≠ .rest) :
    ∃ t, exec .portResult s = .next t ∧
      ∀ q ∈ s.fittedPorts,
        ((s.lnk q).sampled = false → (t.lnk q).missRun = (s.lnk q).missRun ∧
          (t.lnk q).validRun = (s.lnk q).validRun ∧ (t.lnk q).nMissed = (s.lnk q).nMissed) ∧
        ((s.lnk q).sampled = true → (s.lnk q).validNow = true → (t.lnk q).missRun = 0 ∧
          (t.lnk q).validRun = (s.lnk q).validRun + 1 ∧
          (t.lnk q).nMissed = (s.lnk q).nMissed) ∧
        ((s.lnk q).sampled = true → (s.lnk q).validNow = false → (t.lnk q).missRun = (s.lnk q).missRun + 1 ∧
          (t.lnk q).validRun = 0 ∧
          (t.lnk q).nMissed = sat32u ((s.lnk q).nMissed + 1)) := by
  obtain ⟨t, ht, hc⟩ := portResult_tally s h
  refine ⟨t, ht, fun q hq => ?_⟩
  have hm := congrArg (fun l => (l.missRun, l.validRun, l.nMissed)) (hc q hq)
  simp only [LinkSt.tally, LinkSt.count, Prod.mk.injEq] at hm
  refine ⟨fun hs => ?_, fun hs hv => ?_, fun hs hv => ?_⟩
  · simpa [hs] using hm
  · simpa [hs, hv] using hm
  · simpa [hs, hv] using hm

/-- Settles O25: one lemma per row; the result of pulse 400 counts each port once, in the port's own round. -/
theorem linkContextCommandsComplete : Obligations.LinkContextCommandsComplete :=
  ⟨linkLost_loses, linkRecovered_runs, linkWakeRetry_sends, linkLostWake_sends, linkAlignRetry_starts,
    linkEchoInterval_starts, linkAlarmTone_counts, restWakeBurst_wakes, portResult_counts⟩

end Sys2Proof.Machine

end

section

namespace Sys2Proof.Machine

/-! ### Uploads (R98, R99) -/

/-- What a valid upload leaves in the link context of its port (R98, R101), the use of its payload aside. -/
structure UploadNoted (u : UpFrame) (l m : LinkSt) : Prop where
  validNow : m.validNow = true
  viaRepeat : m.viaRepeat = u.head.rpt
  own : m.own = some u.data.heeded
  ust : m.ust = u.data.heeded.ust
  applied : m.applied = u.data.applied
  nValid : m.nValid = sat32u (l.nValid + 1)

/-- The payload used is no part of what is noted. -/
theorem UploadNoted.withUsed {u : UpFrame} {l m : LinkSt} (h : UploadNoted u l m) (x : Option UpData) :
    UploadNoted u l { m with used := x } := ⟨h.validNow, h.viaRepeat, h.own, h.ust, h.applied, h.nValid⟩

/-- The header and status of a valid upload are noted on its port; its state, the mirrored and the used payload stay. -/
theorem State.upGood_self (s : State) (p : Nat) (u : UpFrame) :
    UploadNoted u (s.lnk p) ((s.upGood p u u.data.heeded).lnk p) ∧
      ((s.upGood p u u.data.heeded).lnk p).state = (s.lnk p).state ∧
      ((s.upGood p u u.data.heeded).lnk p).mirror = (s.lnk p).mirror ∧
      ((s.upGood p u u.data.heeded).lnk p).used = (s.lnk p).used := by
  unfold State.upGood
  extract_lets l c s1
  rw [State.modLnk_lnk, if_pos rfl, State.evIf_get_lnk]
  exact ⟨⟨rfl, rfl, rfl, rfl, rfl, rfl⟩, rfl, rfl, rfl⟩

theorem State.upGood_other (s : State) (p : Nat) (u : UpFrame) (d : UpData) (q : Nat) (hq : q ≠ p) :
    (s.upGood p u d).lnk q = s.lnk q := by
  unfold State.upGood
  extract_lets l c s1
  rw [State.modLnk_lnk, if_neg hq, State.evIf_get_lnk]

/-- A payload that reaches table memory is the one used where the port's uploads are used (Table 4-12). -/
theorem State.tableTake_lnk (s : State) (p : Nat) (d : UpData) (q : Nat) :
    (s.tableTake p d).lnk q =
      if q = p ∧ (s.lnk p).usable = true then { s.lnk p with used := some d } else s.lnk q := by
  have hw (j : Nat) : (s.tableWrite p d).lnk j = s.lnk j :=
    congrArg (tget · j) ((State.tableWrite_frame ..).link_eq (by decide))
  unfold State.tableTake
  by_cases hu : (s.lnk p).usable = true
  · rw [if_pos hu]
    simp only [State.modLnk_lnk, hw, hu, and_true]
  · rw [if_neg hu, hw, if_neg fun h => hu h.2]

/-- `t` differs from `s` in the link contexts in the used payload of port `p` only. -/
structure UsedOnly (p : Nat) (s t : State) : Prop where
  self : ∃ x, t.lnk p = { s.lnk p with used := x }
  other : ∀ q, q ≠ p → t.lnk q = s.lnk q

theorem UsedOnly.of_eq {p : Nat} {s t : State} (h : t.link = s.link) : UsedOnly p s t :=
  ⟨⟨(s.lnk p).used, by simp [State.lnk, h]⟩, fun _ _ => by simp [State.lnk, h]⟩

theorem State.tableTake_usedOnly (s : State) (p : Nat) (d : UpData) : UsedOnly p s (s.tableTake p d) := by
  refine ⟨?_, fun q hq => by rw [State.tableTake_lnk, if_neg (fun h => hq h.1)]⟩
  rw [State.tableTake_lnk]
  split
  · exact ⟨_, rfl⟩
  · exact ⟨(s.lnk p).used, rfl⟩

theorem State.uploadDiffers_link (s : State) (own peer : UpData) : (s.uploadDiffers own peer).link = s.link :=
  (State.uploadDiffers_frame ..).link_eq (by decide)

/-- The runtime's use of an upload changes no more of the link contexts than the used payload (R384). -/
theorem State.ownUse_usedOnly (s : State) (p : Nat) (d : UpData) : UsedOnly p s (s.ownUse p d) := by
  unfold State.ownUse
  split
  · next m _ =>
    have hl (j : Nat) : (s.uploadDiffers d m).lnk j = s.lnk j := congrArg (tget · j) (s.uploadDiffers_link d m)
    obtain ⟨⟨x, hx⟩, ho⟩ := (s.uploadDiffers d m).tableTake_usedOnly p d
    rw [hl] at hx
    split
    · exact .of_eq rfl
    · split
      · exact ⟨⟨x, hx⟩, fun q hq => (ho q hq).trans (hl q)⟩
      · exact .of_eq (s.uploadDiffers_link d m)
  · exact s.tableTake_usedOnly p d

/-- Without a mirrored upload, a port whose uploads are used has its own used. -/
theorem State.ownUse_used {s : State} {p : Nat} (hm : (s.lnk p).mirror = none) (hu : (s.lnk p).usable = true)
    (d : UpData) : ((s.ownUse p d).lnk p).used = some d := by
  unfold State.ownUse
  simp only [hm, State.tableTake_lnk, hu, and_self, if_true]

/-- What follows the noting of a valid upload changes of the link contexts the used payload alone, and that only where
the write to table memory does not fail (R540). -/
theorem uploadReceived_takes {n : Pulse} {p : PortIx} {u : UpFrame} {old : List MemErr} {s : State}
    (hr : (s.lnk p.val).state = .run) (hv : (s.lnk p.val).validNow = false) (hf : s.fitted p.val = true)
    (hc : upCheck s.now n.val s.sys.slot (s.lnk p.val).convertSent u = 0) :
    ∃ t v : State, exec (.uploadReceived n p u old) s = .next t ∧
      v.link = ((s.atP n.val).upGood p.val u u.data.heeded).link ∧
      t.link = (if writeFails old then v else v.ownUse p.val u.data.heeded).link := by
  have ho : ¬((s.lnk p.val).state = .off ∨ (s.lnk p.val).state = .sleep ∨ (!s.fitted p.val) = true) := by
    simp [hr, hf]
  let s1 := (((s.atP n.val).upGood p.val u u.data.heeded).surveySeen p.val).pairSend
    (.mirror p.val u.data.heeded.bytes)
  let v := s1.oldWords old
  have h1 : Frame [.mode, .pair, .cells, .prot, .mem, .jnl, .remap] ((s.atP n.val).upGood p.val u u.data.heeded) v :=
    .after (State.oldWords_frame ..)
      (.after (State.pairSend_frame ..) (.after (State.surveySeen_frame ..) (.refl _ _) rfl) rfl) rfl
  have hj (w : State) : (if u.data.heeded.converted then w.markhorJudge p.val u.data.heeded
      else w.testTake p.val u.data.heeded).link = w.link := by
    split
    · exact (State.markhorJudge_frame ..).link_eq (by decide)
    · exact (State.testTake_frame ..).link_eq (by decide)
  obtain ⟨t, ht, hl⟩ : ∃ t, exec (.uploadReceived n p u old) s = .next t ∧
      t.link = (if writeFails old then v else v.ownUse p.val u.data.heeded).link :=
    next_neg rfl ho (next_neg rfl (not_not_intro hc) (next_neg rfl (by simp [hv]) ⟨_, rfl, hj _⟩))
  exact ⟨t, v, ht, h1.link_eq (by decide), hl⟩

theorem uploadReceived_valid (n : Pulse) (p : PortIx) (u : UpFrame) (old : List MemErr) (s : State)
    (hr : (s.lnk p.val).state = .run) (hv : (s.lnk p.val).validNow = false) (hf : s.fitted p.val = true)
    (hc : upCheck s.now n.val s.sys.slot (s.lnk p.val).convertSent u = 0) :
    ∃ t, exec (.uploadReceived n p u old) s = .next t ∧ (t.lnk p.val).validNow = true ∧
      (t.lnk p.val).viaRepeat = u.head.rpt ∧ (t.lnk p.val).own = some u.data.heeded ∧
      (t.lnk p.val).ust = u.data.heeded.ust ∧ (t.lnk p.val).applied = u.data.applied ∧
      (t.lnk p.val).nValid = sat32u ((s.lnk p.val).nValid + 1) ∧
      ((s.lnk p.val).mirror = none → writeFails old = false → (t.lnk p.val).used = some u.data.heeded) ∧
      (writeFails old = true → (t.lnk p.val).used = (s.lnk p.val).used) ∧ ∀ q, q ≠ p.val → t.lnk q = s.lnk q := by
  obtain ⟨t, v, ht, hvl, htl⟩ := uploadReceived_takes (old := old) hr hv hf hc
  obtain ⟨k, ks, km, ku⟩ := (s.atP n.val).upGood_self p.val u
  have hself : v.lnk p.val = ((s.atP n.val).upGood p.val u u.data.heeded).lnk p.val := congrArg (tget · p.val) hvl
  have hother (q : Nat) (hq : q ≠ p.val) : v.lnk q = s.lnk q :=
    (congrArg (tget · q) hvl).trans (State.upGood_other _ _ _ _ q hq)
  rw [← hself] at k ks km ku
  cases hw : writeFails old with
  | true =>
    rw [hw, if_pos rfl] at htl
    have hl (q : Nat) : t.lnk q = v.lnk q := congrArg (tget · q) htl
    rw [← hl] at k ku
    exact ⟨t, ht, k.validNow, k.viaRepeat, k.own, k.ust, k.applied, k.nValid, fun _ h => Bool.noConfusion h,
      fun _ => ku, fun q hq => (hl q).trans (hother q hq)⟩
  | false =>
    rw [hw, if_neg Bool.false_ne_true] at htl
    have hl (q : Nat) : t.lnk q = (v.ownUse p.val u.data.heeded).lnk q := congrArg (tget · q) htl
    obtain ⟨⟨x, hx⟩, ho⟩ := v.ownUse_usedOnly p.val u.data.heeded
    have kt := k.withUsed x
    rw [← hx, ← hl] at kt
    have hu (hm : (s.lnk p.val).mirror = none) : (t.lnk p.val).used = some u.data.heeded := by
      rw [hl]
      exact State.ownUse_used (km.trans hm) (by simp [LinkSt.usable, ks, hr]) _
    exact ⟨t, ht, kt.validNow, kt.viaRepeat, kt.own, kt.ust, kt.applied, kt.nValid, fun hm _ => hu hm,
      fun h => Bool.noConfusion h, fun q hq => (hl q).trans ((ho q hq).trans (hother q hq))⟩

theorem uploadReceived_damaged (n : Pulse) (p : PortIx) (u : UpFrame) (old : List MemErr) (s : State)
    (hr : (s.lnk p.val).state = .run) (hf : s.fitted p.val = true) (hi : u.head.intact u.data.bytes = false) :
    ∃ t, exec (.uploadReceived n p u old) s = .next t ∧
      t.lnk p.val = { s.lnk p.val with nCrc := sat32u ((s.lnk p.val).nCrc + 1) } ∧ t.cells = s.cells ∧ t.th = s.th ∧
      ∀ q, q ≠ p.val → t.lnk q = s.lnk q := by
  have ho : ¬((s.lnk p.val).state = .off ∨ (s.lnk p.val).state = .sleep ∨ (!s.fitted p.val) = true) := by
    simp [hr, hf]
  have hc : upCheck s.now n.val s.sys.slot (s.lnk p.val).convertSent u = 1 := if_pos (by rw [hi]; rfl)
  obtain ⟨t, ht, he⟩ : ∃ t, exec (.uploadReceived n p u old) s = .next t ∧
      t = (s.atP n.val).upBad p.val (upCheck s.now n.val s.sys.slot (s.lnk p.val).convertSent u) u :=
    next_neg rfl ho (next_pos rfl (fun h0 => absurd (hc.symm.trans h0) (by decide)) ⟨_, rfl, rfl⟩)
  rw [hc] at he
  refine ⟨t, ht, ?_⟩
  rw [he]
  exact ⟨(State.modLnk_lnk ..).trans (if_pos rfl), rfl, rfl, fun q hq => (State.modLnk_lnk ..).trans (if_neg hq)⟩

/-! ### Repeats (R100) -/

theorem repeatSend_sends (p : PortIx) (s : State) (he : s.linkCfg.repeatEn = true) (hr : (s.lnk p.val).state = .run)
    (hs : (s.lnk p.val).sampled = true) (hv : (s.lnk p.val).validNow = false) (hn : (s.lnk p.val).repeated = false) :
    ∃ t, exec (.repeatSend p) s = .next t ∧
      t.lnk p.val = { s.lnk p.val with
        repeated := true, seq := ((s.lnk p.val).seq + 1) % 65536, nRepeats := sat32u ((s.lnk p.val).nRepeats + 1) } ∧
      ∀ q, q ≠ p.val → t.lnk q = s.lnk q :=
  next_pos rfl ⟨he, hr, hs, by rw [State.atP_lnk, hv]; rfl, by rw [State.atP_lnk, hn]; rfl⟩
    ⟨_, rfl, (State.modLnk_lnk ..).trans (if_pos rfl), fun q hq => (State.modLnk_lnk ..).trans (if_neg hq)⟩

/-! ### Replies (R105) -/

/-- A row that brings the reply to the outstanding transaction goes on with what the transaction's requester does, and
then starts the next transaction of the port. -/
theorem reply_next {o : Host.Outcome State Fault Refusal} {s : State} {n p type : Nat} {h : LinkHead} {b : Bytes}
    {x : SecTx} {act : SecTx → State} (a : Answers s p type h b x)
    (ho : o = ok (((s.atP n).replyTake p type h b act).secStart p)) :
    ∃ t, o = .next t ∧ SecOnly p (act x) t ∧ Frame [.link] (act x) t := by
  have a0 : Answers (s.atP n) p type h b x := ⟨a.waits, a.intact, a.form, a.type_, a.seq⟩
  rw [ho, State.replyTake_answers a0]
  exact ⟨_, rfl, State.secStart_secOnly .., State.secStart_frame ..⟩

/-! ### Latency (R104) -/

/-- A measurement of fewer than 8 exchanges goes on. -/
theorem State.measureEnd_of_lt {s : State} {p : Nat} (h : (s.lnk p).echoTried < 8) : s.measureEnd p = s := if_pos h

/-- 8 exchanges in ALIGN that are accepted fix the latency. -/
theorem State.measureEnd_accepts {s : State} {p lat : Nat} (h : 8 ≤ (s.lnk p).echoTried)
    (ha : (s.lnk p).state = .align) (hl : latencyOf (s.lnk p).echoes = some lat) :
    (s.measureEnd p).lnk p =
      { s.lnk p with
        latency := some lat, measured := true, echoRun := false, echoes := [], echoTried := 0,
        echoFrame := s.time.ticks, latFault := false, alignFails := 0 } := by
  unfold State.measureEnd
  rw [if_neg (Nat.not_lt.mpr h)]
  simp only [hl, State.modLnk_lnk, State.evIf_get_lnk, ha, decide_true, Bool.or_true, Bool.true_or, if_true]

/-- The state in which an exchange's value has been added to the port's measurement (R104). -/
def State.echoAdded (s : State) (p : Nat) (v : Int) : State :=
  (s.secClear p).modLnk p (fun l => { l with echoes := l.echoes ++ [v], echoTried := l.echoTried + 1 })

theorem State.echoAdded_lnk (s : State) (p : Nat) (v : Int) :
    (s.echoAdded p v).lnk p =
      { s.lnk p with sec := none, echoes := (s.lnk p).echoes ++ [v], echoTried := (s.lnk p).echoTried + 1 } := by
  simp [State.echoAdded, State.secClear]

/-- A reply to an `ECHO` adds its value, and ends the measurement where it was the last. -/
theorem echoReply_next {n : Pulse} {p : PortIx} {h : LinkHead} {x : SecTx} {ticks : Nat} {s : State}
    (a : Answers s p.val 0x41 h [] x) (hx : x.req = .echo) :
    ∃ t, exec (.echoReply n p h ticks) s = .next t ∧
      SecOnly p.val (((s.atP n.val).echoAdded p.val (5 * (ticks : Int) - 10400)).measureEnd p.val) t := by
  obtain ⟨t, ht, hs, -⟩ := reply_next (o := exec (.echoReply n p h ticks) s) a rfl
  rw [if_neg (not_not_intro hx)] at hs
  exact ⟨t, ht, hs⟩

theorem echoReply_early (n : Pulse) (p : PortIx) (h : LinkHead) (x : SecTx) (ticks : Nat) (s : State)
    (a : Answers s p.val 0x41 h [] x) (hx : x.req = .echo) (he : (s.lnk p.val).echoTried + 1 < 8) :
    ∃ t, exec (.echoReply n p h ticks) s = .next t ∧
      (t.lnk p.val).echoes = (s.lnk p.val).echoes ++ [5 * (ticks : Int) - 10400] ∧
      (t.lnk p.val).echoTried = (s.lnk p.val).echoTried + 1 ∧ (t.lnk p.val).latency = (s.lnk p.val).latency := by
  obtain ⟨t, ht, hs⟩ := echoReply_next (n := n) (ticks := ticks) a hx
  have hl := (s.atP n.val).echoAdded_lnk p.val (5 * (ticks : Int) - 10400)
  rw [State.measureEnd_of_lt (by rw [hl]; exact he)] at hs
  obtain ⟨i, j, k, hk⟩ := hs.self
  rw [hl] at hk
  refine ⟨t, ht, ?_⟩
  rw [hk]
  exact ⟨rfl, rfl, rfl⟩

theorem echoReply_last (n : Pulse) (p : PortIx) (h : LinkHead) (x : SecTx) (ticks lat : Nat) (s : State)
    (a : Answers s p.val 0x41 h [] x) (hx : x.req = .echo) (he : 8 ≤ (s.lnk p.val).echoTried + 1)
    (ha : (s.lnk p.val).state = .align)
    (hv : latencyOf ((s.lnk p.val).echoes ++ [5 * (ticks : Int) - 10400]) = some lat) :
    ∃ t, exec (.echoReply n p h ticks) s = .next t ∧ (t.lnk p.val).state = .align ∧
      (t.lnk p.val).latency = some lat ∧ (t.lnk p.val).measured = true ∧ (t.lnk p.val).echoRun = false ∧
      (t.lnk p.val).latFault = false := by
  obtain ⟨t, ht, hs⟩ := echoReply_next (n := n) (ticks := ticks) a hx
  have hl := (s.atP n.val).echoAdded_lnk p.val (5 * (ticks : Int) - 10400)
  obtain ⟨i, j, k, hk⟩ := hs.self
  rw [State.measureEnd_accepts (by rw [hl]; exact he) (by rw [hl]; exact ha) (by rw [hl]; exact hv)] at hk
  refine ⟨t, ht, ?_⟩
  rw [hk, hl]
  exact ⟨ha, rfl, rfl, rfl, rfl⟩

/-! ### The refresh read (R151) -/

theorem State.statusSeen_cfe (s : State) (p : Nat) (w : Word) :
    (s.statusSeen p w).cfe = tmod s.cfe p (fun c => { c with status := w }) := by
  unfold State.statusSeen
  extract_lets s1
  split
  · exact (State.policyWrite_frame ..).cfe_eq (by decide)
  · rfl

theorem State.statusSeen_secOnly (s : State) (p : Nat) (w : Word) : SecOnly p s (s.statusSeen p w) := by
  unfold State.statusSeen
  extract_lets s1
  have h1 : SecOnly p s s1 := .of_eq rfl
  exact .ite (h1.trans (State.policyWrite_secOnly ..)) h1

/-- What the refresh read of `STATUS`, `ALARM` and `DIE_TEMP` writes of the port's front end. -/
theorem State.gotStatus_cfe (s : State) (p : Nat) (a b c : Word) :
    (s.gotStatus p [a, b, c]).cfe =
      tmod (tmod s.cfe p (fun x => { x with alarm := b, dieTemp := BitVec.ofNat 16 c.toNat, refreshed := s.now })) p
        (fun x => { x with status := a }) := by
  unfold State.gotStatus
  extract_lets w fresh s1 e s2
  have h2 : s2.cfe = s1.cfe := by
    unfold s2
    split
    · rfl
    · split
      · exact State.ev_cfe ..
      · exact State.ev_cfe ..
  rw [State.statusSeen_cfe, h2]
  rfl

theorem State.gotStatus_secOnly (s : State) (p : Nat) (d : List Word) : SecOnly p s (s.gotStatus p d) := by
  unfold State.gotStatus
  extract_lets w fresh s1 e s2
  have h1 : SecOnly p s s1 := .of_eq rfl
  have h2 : SecOnly p s e := .of_eq (State.ev_link ..)
  have h3 : SecOnly p s s2 := .ite h1 (.ite (h2.trans (State.secQueue_secOnly ..)) h2)
  exact h3.trans (State.statusSeen_secOnly ..)

theorem regData_refreshes (n : Pulse) (p : PortIx) (h : LinkHead) (x : SecTx) (a b c : Word) (s : State)
    (ha : Answers s p.val 0x22 h (regDataBytes 0 0x0010 3 [a, b, c]) x) (hx : x.req = .regRead 0x0010 3)
    (hb : x.by_ = .refresh) :
    ∃ t, exec (.regData n p h 0 0x0010 3 [a, b, c]) s = .next t ∧ (tget t.cfe p.val).status = a ∧
      (tget t.cfe p.val).alarm = b ∧ (tget t.cfe p.val).dieTemp = BitVec.ofNat 16 c.toNat ∧
      (tget t.cfe p.val).refreshed = s.now ∧ ∀ q, q ≠ p.val → t.lnk q = s.lnk q ∧ tget t.cfe q = tget s.cfe q := by
  obtain ⟨t, ht, hs, hf⟩ := reply_next (o := exec (.regData n p h 0 0x0010 3 [a, b, c]) s) ha rfl
  have hm : regMatches x 0 0x0010 3 [a, b, c] = true := by unfold regMatches; rw [hx]; rfl
  have hd : ((s.atP n.val).secClear p.val).secDone p.val x 0 0x0010 [a, b, c] =
      ((s.atP n.val).secClear p.val).gotStatus p.val [a, b, c] := by unfold State.secDone; rw [hb]; rfl
  rw [if_pos hm, hd] at hs hf
  have hc := (hf.cfe_eq (by decide)).trans (State.gotStatus_cfe ..)
  have hl := (State.secClear_secOnly (s.atP n.val) p.val).trans ((State.gotStatus_secOnly ..).trans hs)
  refine ⟨t, ht, ?_⟩
  rw [hc]
  simp only [tget_tmod_self]
  exact ⟨trivial, trivial, trivial, rfl,
    fun q hq => ⟨hl.other q hq, by rw [tget_tmod_ne _ _ hq, tget_tmod_ne _ _ hq]; rfl⟩⟩

/-! ### Firmware blocks (R147, R530) -/

/-- The acknowledge of a block that others follow counts it (R530). -/
theorem State.gotFwAck_more {s : State} {p : Nat} (h : ((s.secClear p).lnk p).hasSec .fwBlock = true) (bank : Nat) :
    s.gotFwAck p bank 0 =
      { s.secClear p with upd.cfe := s.upd.cfe.map (fun (j : CfeFwJob) => { j with sent := j.sent + 1 }) } := by
  unfold State.gotFwAck
  rw [if_neg (by simp)]
  exact if_pos h

theorem fwAck_counts (n : Pulse) (p : PortIx) (h : LinkHead) (x : SecTx) (bank blockNo : Nat) (d : Bytes)
    (j : CfeFwJob) (s : State) (a : Answers s p.val 0x31 h (fwAckBytes 0 blockNo) x)
    (hx : x.req = .fwBlock bank blockNo d) (hj : s.upd.cfe = some j)
    (hq : (s.lnk p.val).secQueue.any (fun y => decide (y.by_ = .fwBlock)) = true) :
    ∃ t, exec (.fwAck n p h 0 blockNo) s = .next t ∧ t.upd.cfe = some { j with sent := j.sent + 1 } ∧
      ∀ q, q ≠ p.val → t.lnk q = s.lnk q := by
  obtain ⟨t, ht, hs, hf⟩ := reply_next (o := exec (.fwAck n p h 0 blockNo) s) a rfl
  have hm : (((s.atP n.val).secClear p.val).lnk p.val).hasSec .fwBlock = true := by
    simp [State.secClear, LinkSt.hasSec, hq]
  simp only [hx, if_true, State.gotFwAck_more hm] at hs hf
  refine ⟨t, ht, ?_, fun q hq => (hs.other q hq).trans ((State.secClear_secOnly (s.atP n.val) p.val).other q hq)⟩
  rw [hf.upd_eq (by decide), State.atP_upd, hj]
  rfl

/-! ### Timeouts (R105) -/

/-- A transaction that fails before its fourth try is counted and waits at the head of the queue. -/
theorem State.secFail_lnk {s : State} {p : Nat} {x : SecTx} (h : (s.lnk p).sec = some x) (ht : x.tries < 4) (q : Nat) :
    (s.secFail p).lnk q = if q = p then
      { s.lnk p with
        sec := none, nSecFail := sat32u ((s.lnk p).nSecFail + 1),
        secQueue := { x with seq := none } :: (s.lnk p).secQueue }
      else s.lnk q := by
  unfold State.secFail
  simp only [h, if_pos ht, State.secAgain, State.secClear, State.modLnk_lnk]
  split <;> rfl

/-- Where no waiting transaction may be sent, none is started. -/
theorem State.secStart_of_none {s : State} {p : Nat} (h : takeFirst (s.secMay (s.lnk p)) (s.lnk p).secQueue = none) :
    s.secStart p = s := by
  unfold State.secStart
  simp only [h]
  exact ite_self _

/-- A transaction is not sent again in the frame of its last try (R105). -/
theorem State.secMay_same_frame {s : State} {x : SecTx} (h : x.sentIn = some s.time.ticks) (l : LinkSt) :
    s.secMay l x = false := by
  simp [State.secMay, h]

theorem State.secFail_time (s : State) (p : Nat) : (s.secFail p).time = s.time :=
  (State.secFail_frame ..).time_eq (by decide)

theorem secondaryTimeout_fails (n : Pulse) (p : PortIx) (x : SecTx) (s : State) (hx : (s.lnk p.val).sec = some x)
    (ht : x.tries < 4) :
    ∃ t, exec (.secondaryTimeout n p) s = .next t ∧ (t.lnk p.val).nSecFail = sat32u ((s.lnk p.val).nSecFail + 1) ∧
      (x.sentIn = some s.time.ticks → (s.lnk p.val).secQueue = [] →
        (t.lnk p.val).sec = none ∧ (t.lnk p.val).secQueue = [{ x with seq := none }]) ∧
      ∀ q, q ≠ p.val → t.lnk q = s.lnk q := by
  let v := (s.atP n.val).secFail p.val
  have hv (q : Nat) := State.secFail_lnk (s := s.atP n.val) hx ht q
  have hs : SecOnly p.val v (v.secStart p.val) := State.secStart_secOnly ..
  refine ⟨v.secStart p.val, rfl, ?_, fun hn hq => ?_, fun q hq => (hs.other q hq).trans ((hv q).trans (if_neg hq))⟩
  · obtain ⟨i, j, k, hk⟩ := hs.self
    rw [hk]
    show (v.lnk p.val).nSecFail = _
    rw [hv, if_pos rfl]; rfl
  · have hp : v.lnk p.val = _ := (hv p.val).trans (if_pos rfl)
    rw [State.atP_lnk, hq] at hp
    have hm : v.secMay (v.lnk p.val) { x with seq := none } = false :=
      State.secMay_same_frame (by rw [State.secFail_time]; exact hn) _
    rw [State.secStart_of_none (by rw [hp] at hm ⊢; simp [takeFirst, hm]), hp]
    exact ⟨rfl, rfl⟩

/-- Settles O26: one lemma per row; a reply acts through its requester before the next transaction starts
(`reply_next`). -/
theorem linkTransferCommandsComplete : Obligations.LinkTransferCommandsComplete :=
  ⟨uploadReceived_valid, uploadReceived_damaged, repeatSend_sends, echoReply_early, echoReply_last, regData_refreshes,
    fwAck_counts, secondaryTimeout_fails⟩

end Sys2Proof.Machine

end

section

namespace Sys2Proof.Machine

/-! ### Register reads and writes (R143, R144) -/

theorem feRegRead_answers (p : Pulse) (port : PortIx) (x : Slot) (h : LinkHead) (addr : Nat) (count : Fin 33) (s : State)
    (k : FeHears (s.fee port.val) h 0x20 (regBytes addr count.val))
    (hi : (upFrom addr count.val).all feImplemented = true) :
    ∃ t r, exec (.feRegRead p port x h addr count) s = .next t ∧
      t.fee port.val = (s.feHeard port.val p.val x h).modSide x (fun q => { q with reply := some r }) ∧
      r.rstat = 0 ∧ r.addr = addr ∧ r.head.type = 0x22 ∧ r.head.seq = h.seq ∧
      r.data = (upFrom addr count.val).map ((s.feHeard port.val p.val x h).reg (s.atP p.val).clockUs) ∧
      ∀ q, q ≠ port.val → t.fee q = s.fee q := by
  obtain ⟨t, ht, hf, ho⟩ := feReceive_next (o := exec (.feRegRead p port x h addr count) s) k rfl
  have hr : (s.feHeard port.val p.val x h).readAll (s.atP p.val).clockUs addr count.val =
      (0, (upFrom addr count.val).map ((s.feHeard port.val p.val x h).reg (s.atP p.val).clockUs)) := if_pos hi
  rw [hr] at hf
  obtain ⟨y, hy, y1, y2, y3, y4, y5, -⟩ := FeSt.send_eq (s.feHeard port.val p.val x h) (s.atP p.val).clockUs x 0x22 h
    (regDataBytes 0 addr ((upFrom addr count.val).map _).length ((upFrom addr count.val).map _)) 0 addr
    ((upFrom addr count.val).map ((s.feHeard port.val p.val x h).reg (s.atP p.val).clockUs))
  exact ⟨t, y, ht, hf.trans hy, y1, y2, y4, y5, y3, ho⟩

/-- A write that a front end takes: its register is implemented and writable, its value good, and no wear commit is in
its way (R143, R146). -/
def FeSt.takes (f : FeSt) (fw : Verdict) (a : Nat) (v : Word) : Prop :=
  feImplemented a = true ∧ feReadOnly a = false ∧ f.badValue fw a v = false ∧
    (f.wearBusy = true → a ≠ 0x200 ∧ a < 0x400)

/-- Writes on the port with authority that are all taken are made one after the other, without a refusal (R144). -/
theorem FeSt.writeAll_taken {f : FeSt} {t : Nat} {x : Slot} {fw : Verdict} {ws : List (Nat × Word)}
    (ha : f.auth t = some x) (hw : ∀ w ∈ ws, f.takes fw w.1 w.2) (ver : Word) :
    f.writeAll t x fw ver ws = (0, ws.foldl (fun g w => g.write1 ver w.1 w.2) f) := by
  have himpl : ¬ ws.any (fun w => !feImplemented w.1) = true := by
    simpa using fun a v hm => (hw (a, v) hm).1
  have hro : ¬ ws.any (fun w => feReadOnly w.1) = true := by
    simpa using fun a v hm => (hw (a, v) hm).2.1
  have hbusy : ¬ (f.wearBusy && ws.any (fun w => decide (w.1 = 0x200) || decide (0x400 ≤ w.1))) = true := by
    simpa using fun hb a v hm => (hw (a, v) hm).2.2.2 hb
  have hbad : ¬ ws.any (fun w => f.badValue fw w.1 w.2) = true := by
    simpa using fun a v hm => (hw (a, v) hm).2.2.1
  rw [FeSt.writeAll, if_neg (not_not_intro ha), if_neg himpl, if_neg hro, if_neg hbusy, if_neg hbad]

/-- A row that writes registers which its front end takes goes on with them written and answered. -/
theorem feWrite_next {o : Host.Outcome State Fault Refusal} {s : State} {port p : Nat} {x : Slot} {h : LinkHead}
    {addr : Nat} {d : List Word} {fw : Verdict} {ver : Word}
    (k : FeHears (s.fee port) h 0x21 (regWriteBytes addr d))
    (ha : (s.feHeard port p x h).auth (s.atP p).clockUs = some x)
    (hw : ∀ w ∈ fromAddr addr d, (s.feHeard port p x h).takes fw w.1 w.2)
    (ho : o = ok ((s.atP p).feWrite port x h addr d fw ver)) :
    ∃ t r, o = .next t ∧
      t.fee port = ((fromAddr addr d).foldl (fun g w => g.write1 ver w.1 w.2) (s.feHeard port p x h)).modSide x
        (fun q => { q with reply := some r }) ∧
      r.rstat = 0 ∧ r.addr = addr ∧ r.head.type = 0x22 ∧ r.head.seq = h.seq ∧ ∀ q, q ≠ port → t.fee q = s.fee q := by
  obtain ⟨t, ht, hf, hs⟩ := feReceive_next k ho
  rw [FeSt.writeAll_taken ha hw ver] at hf
  obtain ⟨y, hy, y1, y2, -, y4, y5, -⟩ :=
    FeSt.send_eq ((fromAddr addr d).foldl (fun g w => g.write1 ver w.1 w.2) (s.feHeard port p x h)) (s.atP p).clockUs x
      0x22 h (regDataBytes 0 addr 0 []) 0 addr []
  exact ⟨t, y, ht, hf.trans hy, y1, y2, y4, y5, hs⟩

theorem feRegWrite_writes (p : Pulse) (port : PortIx) (x : Slot) (h : LinkHead) (addr : Nat) (d : List Word)
    (fw : Verdict) (ver : Word) (f : FeSt) (s : State) (k : FeHears (s.fee port.val) h 0x21 (regWriteBytes addr d))
    (hf : s.feHeard port.val p.val x h = f) (ha : f.auth (s.atP p.val).clockUs = some x)
    (hw : ∀ w ∈ fromAddr addr d, feImplemented w.1 = true ∧ feReadOnly w.1 = false ∧ f.badValue fw w.1 w.2 = false ∧
      (f.wearBusy = true → w.1 ≠ 0x200 ∧ w.1 < 0x400)) :
    ∃ t r, exec (.feRegWrite p port x h addr d fw ver) s = .next t ∧
      t.fee port.val = ((fromAddr addr d).foldl (fun g w => g.write1 ver w.1 w.2) f).modSide x
        (fun q => { q with reply := some r }) ∧
      r.rstat = 0 ∧ r.addr = addr ∧ r.head.type = 0x22 ∧ r.head.seq = h.seq ∧
      ∀ q, q ≠ port.val → t.fee q = s.fee q := by
  subst hf
  exact feWrite_next k ha hw rfl

/-- A row that writes one register which its front end takes goes on with that register written, up to the answer on a
port. -/
theorem feWriteOne_next {o : Host.Outcome State Fault Refusal} {s : State} {port p : Nat} {x : Slot} {h : LinkHead}
    {addr : Nat} {v : Word} {fw : Verdict} {ver : Word}
    (k : FeHears (s.fee port) h 0x21 (regWriteBytes addr [v]))
    (ha : (s.feHeard port p x h).auth (s.atP p).clockUs = some x) (hw : (s.feHeard port p x h).takes fw addr v)
    (ho : o = ok ((s.atP p).feWrite port x h addr [v] fw ver)) :
    ∃ t a b, o = .next t ∧ t.fee port = { (s.feHeard port p x h).write1 ver addr v with a := a, b := b } ∧
      ∀ q, q ≠ port → t.fee q = s.fee q := by
  obtain ⟨t, r, ht, hf, -, -, -, -, hs⟩ := feWrite_next k ha (List.forall_mem_singleton.mpr hw) ho
  obtain ⟨a, b, hm⟩ := FeSt.modSide_eq ((s.feHeard port p x h).write1 ver addr v) x (fun q => { q with reply := some r })
  exact ⟨t, a, b, ht, hf.trans hm, hs⟩

/-! ### The wear memory (R146) -/

/-- A frame that begins leaves the wear memory. -/
theorem FeSt.roll_wear (f : FeSt) (n : Nat) :
    (f.roll n).wearShadow = f.wearShadow ∧ (f.roll n).wearCopy = f.wearCopy := by
  unfold FeSt.roll
  split <;> exact ⟨rfl, rfl⟩

/-- A heard frame leaves the wear memory. -/
theorem State.feHeard_wear (s : State) (port p : Nat) (x : Slot) (h : LinkHead) :
    (s.feHeard port p x h).wearShadow = (s.fee port).wearShadow ∧
      (s.feHeard port p x h).wearCopy = (s.fee port).wearCopy := by
  obtain ⟨a, b, hm⟩ := FeSt.hear_eq ((s.fee port).roll s.time.ticks) (s.atP p).clockUs x h
  rw [State.feHeard, hm]
  exact FeSt.roll_wear ..

/-- The CRC of the shadow is a good value of `WEAR_COMMIT`. -/
theorem FeSt.badValue_wearCommit {f : FeSt} {crc : Word} (hc : crc = crc32c f.shadowBytes) (fw : Verdict) :
    f.badValue fw 0x200 crc = false := by
  simp [FeSt.badValue, hc]

theorem feWearCommit_starts (p : Pulse) (port : PortIx) (x : Slot) (h : LinkHead) (crc : Word) (f : FeSt) (s : State)
    (k : FeHears (s.fee port.val) h 0x21 (regWriteBytes 0x200 [crc])) (hf : s.feHeard port.val p.val x h = f)
    (ha : f.auth (s.atP p.val).clockUs = some x) (hb : f.wearBusy = false) (hc : crc = crc32c f.shadowBytes) :
    ∃ t, exec (.feWearCommit p port x h crc) s = .next t ∧ (t.fee port.val).wearBusy = true ∧
      (t.fee port.val).wearShadow = (s.fee port.val).wearShadow ∧
      (t.fee port.val).wearCopy = (s.fee port.val).wearCopy ∧ ∀ q, q ≠ port.val → t.fee q = s.fee q := by
  subst hf
  obtain ⟨t, a, b, ht, he, ho⟩ := feWriteOne_next (o := exec (.feWearCommit p port x h crc) s) k ha
    ⟨by decide, by decide, FeSt.badValue_wearCommit hc _, fun h1 => absurd (hb.symm.trans h1) Bool.false_ne_true⟩ rfl
  obtain ⟨hsh, hcp⟩ := State.feHeard_wear s port.val p.val x h
  refine ⟨t, ht, ?_⟩
  rw [he]
  exact ⟨rfl, hsh, hcp, ho⟩

theorem feWearCommitDone_commits (p : Pulse) (port : PortIx) (s : State) (hb : (s.fee port.val).wearBusy = true)
    (hs : (s.fee port.val).sleepAfterCommit = false) :
    ∃ t, exec (.feWearCommitDone p port) s = .next t ∧ (t.fee port.val).wearBusy = false ∧
      (t.fee port.val).wearValid = true ∧ (t.fee port.val).wearCopy = (s.fee port.val).wearShadow ∧
      (t.fee port.val).wearOld = (s.fee port.val).wearCopy ∧
      (t.fee port.val).wearSeq = ((s.fee port.val).wearSeq + 1) % 65536 ∧
      ∀ q, q ≠ port.val → t.fee q = s.fee q := by
  obtain ⟨t, ht, hf, ho⟩ := modFee_next (o := exec (.feWearCommitDone p port) s) rfl
  refine ⟨t, ht, ?_⟩
  simp only [hb, hs, Bool.not_true, Bool.false_eq_true, if_false] at hf
  rw [hf]
  exact ⟨rfl, rfl, rfl, rfl, rfl, ho⟩

/-! ### Alarms (Table 5-7) -/

/-- A value of `ALARM` within its six bits has no reserved bit set. -/
theorem FeSt.badValue_alarm (f : FeSt) (fw : Verdict) {v : Word} (hv : v.toNat < 64) : f.badValue fw 0x11 v = false := by
  have h1 : bitsOf v.toNat 16 16 = 0 := by unfold bitsOf; omega
  have h2 : bitsOf v.toNat 6 2 = 0 := by unfold bitsOf; omega
  simp [FeSt.badValue, h1, h2]

theorem feAlarmClear_clears (p : Pulse) (port : PortIx) (x : Slot) (h : LinkHead) (v : Word) (f : FeSt) (s : State)
    (k : FeHears (s.fee port.val) h 0x21 (regWriteBytes 0x11 [v])) (hf : s.feHeard port.val p.val x h = f)
    (ha : f.auth (s.atP p.val).clockUs = some x) (hv : v.toNat < 64) :
    ∃ t, exec (.feAlarmClear p port x h v) s = .next t ∧
      (t.fee port.val).alarm = f.alarm &&& ~~~(BitVec.ofNat 6 v.toNat &&& if f.dieHot then 0x1F else 0x3F) ∧
      ∀ q, q ≠ port.val → t.fee q = s.fee q := by
  subst hf
  obtain ⟨t, a, b, ht, he, ho⟩ := feWriteOne_next (o := exec (.feAlarmClear p port x h v) s) k ha
    ⟨by decide, by decide, FeSt.badValue_alarm _ _ hv, fun _ => by decide⟩ rfl
  refine ⟨t, ht, ?_⟩
  rw [he]
  exact ⟨rfl, ho⟩

/-! ### Firmware restart (R148) -/

/-- The fields of the word that restarts a bank (Table 5-6): the key, no reserved bit, the restart, and the bank. -/
theorem fwRestartWord_fields (sel : Fin 2) :
    bitsOf (BitVec.ofNat 32 (0x5EED0002 + sel.val)).toNat 16 16 = 0x5EED ∧
      bitsOf (BitVec.ofNat 32 (0x5EED0002 + sel.val)).toNat 2 14 = 0 ∧
      bitOf (BitVec.ofNat 32 (0x5EED0002 + sel.val)).toNat 1 = true ∧
      bitsOf (BitVec.ofNat 32 (0x5EED0002 + sel.val)).toNat 0 1 = sel.val := by
  revert sel; decide

/-- A restart of a bank that the maker's means pass is not refused. -/
theorem FeSt.badValue_fwRestart (f : FeSt) (sel : Fin 2) :
    f.badValue .pass 0x0B (BitVec.ofNat 32 (0x5EED0002 + sel.val)) = false := by
  obtain ⟨hkey, hres, -, -⟩ := fwRestartWord_fields sel
  simp only [FeSt.badValue, hkey, hres, if_true]
  simp

/-- The word that restarts a bank selects the bank and schedules its restart. -/
theorem FeSt.write1_fwRestart (f : FeSt) (ver : Word) (sel : Fin 2) :
    (f.write1 ver 0x0B (BitVec.ofNat 32 (0x5EED0002 + sel.val))).fwSel = sel.val ∧
      (f.write1 ver 0x0B (BitVec.ofNat 32 (0x5EED0002 + sel.val))).restartDue = some sel.val := by
  obtain ⟨-, -, hgo, hsel⟩ := fwRestartWord_fields sel
  simp only [FeSt.write1, hgo, hsel, if_true, and_true]
  split <;> rfl

theorem feFwRestart_schedules (p : Pulse) (port : PortIx) (x : Slot) (h : LinkHead) (sel : Fin 2) (ver : Word)
    (s : State)
    (k : FeHears (s.fee port.val) h 0x21 (regWriteBytes 0x0B [BitVec.ofNat 32 (0x5EED0002 + sel.val)]))
    (ha : (s.feHeard port.val p.val x h).auth (s.atP p.val).clockUs = some x) :
    ∃ t, exec (.feFwRestart p port x h sel .pass ver) s = .next t ∧
      (t.fee port.val).fwSel = sel.val ∧ (t.fee port.val).restartDue = some sel.val ∧
      ∀ q, q ≠ port.val → t.fee q = s.fee q := by
  obtain ⟨t, a, b, ht, he, ho⟩ := feWriteOne_next (o := exec (.feFwRestart p port x h sel .pass ver) s) k ha
    ⟨by decide, by decide, FeSt.badValue_fwRestart _ sel, fun _ => by decide⟩ rfl
  obtain ⟨hsel, hdue⟩ := FeSt.write1_fwRestart (s.feHeard port.val p.val x h) ver sel
  refine ⟨t, ht, ?_⟩
  rw [he]
  exact ⟨hsel, hdue, ho⟩

/-- Settles O23: one lemma per row; the four rows that write registers share what a taken write does
(`feWrite_next`). -/
theorem frontEndRegistersComplete : Obligations.FrontEndRegistersComplete :=
  ⟨feRegRead_answers, feRegWrite_writes, feWearCommit_starts, feWearCommitDone_commits, feAlarmClear_clears,
    feFwRestart_schedules⟩

end Sys2Proof.Machine

end

section
namespace Sys2Proof.Machine

/-! ### What measurement keeps through the operations of protection -/

/-- An event changes the journal alone, as an equation of states. -/
theorem State.ev_eq (s : State) (code : Nat) (pl : Bytes) : s.ev code pl = { s with jnl := (s.ev code pl).jnl } := by
  unfold State.ev State.enqueue
  split
  · rfl
  · extract_lets d room s1
    split
    · cases journalOf code <;> rfl
    · split
      · simp only [s1]
        cases journalOf code <;> rfl
      · rfl

theorem State.evIf_eq (s : State) (c : Bool) (code : Nat) (pl : Bytes) :
    s.evIf c code pl = { s with jnl := (s.evIf c code pl).jnl } := by
  unfold State.evIf
  split
  · exact State.ev_eq ..
  · rfl

@[simp] theorem State.wireFlags_meas (s : State) (p : Nat) : (s.wireFlags p).meas = s.meas := rfl

@[simp] theorem State.blockEvent_meas (s : State) (p k : Nat) (r : Int) (b : Byte) :
    (s.blockEvent p k r b).meas = s.meas := State.ev_meas ..

@[simp] theorem State.wireEvent_meas (s : State) (p w n : Nat) (r : OwFound) : (s.wireEvent p w n r).meas = s.meas :=
  (State.wireEvent_frame ..).meas_eq (by decide)

@[simp] theorem State.warnStart_meas (s : State) (k n i : Nat) (v : Int) : (s.warnStart k n i v).meas = s.meas :=
  (State.warnStart_frame ..).meas_eq (by decide)

/-- Taking the opening of a wire fault ends its deadline; measurement is otherwise as before (R165). -/
@[simp] theorem State.wireOpen_meas (s : State) (k : Nat) :
    (s.wireOpen k).meas = { s.meas with str := tmod s.meas.str k (fun m => { m with wireDeadline := none }) } :=
  (State.tripStart_frame ..).meas_eq (by decide)

/-- Taking the opening for thermistors ends its deadline; measurement is otherwise as before (R170). -/
@[simp] theorem State.thOpen_meas (s : State) (k : Nat) :
    (s.thOpen k).meas = { s.meas with str := tmod s.meas.str k (fun m => { m with thDeadline := none }) } :=
  (State.tripStart_frame ..).meas_eq (by decide)

/-- Declaring a wire fault leaves the front ends' entries and the sum check's fault (R165). -/
theorem State.wireDeclared_meas (s : State) (k v : Nat) (a : Bool) : (s.wireDeclared k v a).meas.fe = s.meas.fe ∧
    (tget (s.wireDeclared k v a).meas.str k).sumFault = (tget s.meas.str k).sumFault := by
  unfold State.wireDeclared
  extract_lets s1 d u m
  have h1 : s1.meas = s.meas := State.warnStart_meas ..
  split
  · simp [h1]
  · split <;> simp [m, u, h1]

/-! ### The permit of the measurement tier (R155) -/

/-- The entry of a string once its permit is formed under its conditions of R155. -/
def StrMeas.withPermit (m : StrMeas) (cell other : Bool) : StrMeas :=
  let q1 := if m.loud1 then 0 else m.quiet1 + 1
  let q2 := if m.loud2 then 0 else m.quiet2 + 1
  { m with
    permit := if cell || other then 0 else tierOf q1 q2, condCell := cell, condOther := other, quiet1 := q1,
    quiet2 := q2, loud1 := false, loud2 := false }

/-- The conditions of R155 on a string, the loss of the permit path among them. -/
def State.tierConds (s : State) (k : Nat) : Bool × Bool := (s.tierCell k, s.tierOther k || s.meas.permitLost)

theorem State.tierPermit_str (s : State) (k j : Nat) : tget (s.tierPermit k).meas.str j =
    if j = k then (tget s.meas.str k).withPermit (s.tierConds k).1 (s.tierConds k).2 else tget s.meas.str j := by
  simp [State.tierPermit, StrMeas.withPermit, State.tierConds, tget_tmod]

theorem State.tierPermit_fe (s : State) (k : Nat) : (s.tierPermit k).meas.fe = s.meas.fe := by
  simp [State.tierPermit]

/-- Forming a permit leaves the conditions of every string. -/
theorem State.tierPermit_conds (s : State) (k j : Nat) : (s.tierPermit k).tierConds j = s.tierConds j := by
  unfold State.tierPermit
  extract_lets m q1 q2 cell other permit cause s1
  have h1 : s1 = { s with jnl := s1.jnl } := State.evIf_eq ..
  rw [h1]
  rfl

theorem tierPermit_forms (s : State) : ∃ t, exec .tierPermit s = .next t ∧
    (∀ k, s.installed k = true → (tget t.meas.str k).permit =
        (if s.tierCell k || s.tierOther k || s.meas.permitLost then 0
          else tierOf (if (tget s.meas.str k).loud1 then 0 else (tget s.meas.str k).quiet1 + 1)
            (if (tget s.meas.str k).loud2 then 0 else (tget s.meas.str k).quiet2 + 1)) ∧
      (tget t.meas.str k).tier = (tget s.meas.str k).tier ∧ (tget t.meas.str k).loud1 = false ∧
        (tget t.meas.str k).loud2 = false) ∧ t.meas.fe = s.meas.fe := by
  have hn : s.strings.Nodup := (upFrom_nodup 0 16).1.filter _
  have hk := foldl_once (v := fun u k => (tget u.meas.str k, u.tierConds k)) (f := fun u k => u.tierPermit k)
    (R := fun x y => y.1 = x.1.withPermit x.2.1 x.2.2) (fun u k => by simp [State.tierPermit_str])
    (fun u k j hj => by simp [State.tierPermit_str, State.tierPermit_conds, hj]) hn (s.atP 990)
  refine ⟨s.strings.foldl (fun u k => u.tierPermit k) (s.atP 990), rfl, fun k hi => ?_,
    foldl_view (v := fun u : State => u.meas.fe) State.tierPermit_fe _ _⟩
  obtain ⟨-, h16⟩ : has s.sys.stringMask k = true ∧ k < 16 := by simpa [State.installed] using hi
  have e : tget (s.strings.foldl (fun u k => u.tierPermit k) (s.atP 990)).meas.str k =
      (tget s.meas.str k).withPermit (s.tierCell k) (s.tierOther k || s.meas.permitLost) := 
    hk k ((mem_strings s k).mpr ⟨hi, h16⟩)
  rw [e, Bool.or_assoc]
  exact ⟨rfl, rfl, rfl, rfl⟩

/-! ### Open-wire tests that start (R160, R161, R172) -/

/-- A test has started on a port, and no other port is touched (R161, Table 6-3). -/
structure TestStarted (p : Nat) (why : TestWhy) (attempt : Nat) (s t : State) : Prop where
  test : (tget t.meas.fe p).test = some { why := why, start := s.now, attempt := attempt }
  retry : (tget t.meas.fe p).retryAt = none
  convert : (t.lnk p).convert = true
  pattern : (t.lnk p).owCtrl = 1
  other : ∀ q, q ≠ p → t.lnk q = s.lnk q ∧ tget t.meas.fe q = tget s.meas.fe q

theorem State.testStart_started (s : State) (n p : Nat) (why : TestWhy) (attempt : Nat) :
    TestStarted p why attempt s ((s.atP n).testStart p why attempt) := by
  have hm (q : Nat) : tget ((s.atP n).testStart p why attempt).meas.fe q = if q = p then
      { tget s.meas.fe p with test := some { why := why, start := s.now, attempt := attempt }, retryAt := none }
      else tget s.meas.fe q := by simp [State.testStart, tget_tmod]
  have hl (q : Nat) : ((s.atP n).testStart p why attempt).lnk q = if q = p then
      { s.lnk p with convert := true, owCtrl := 1 } else s.lnk q := State.modLnk_lnk ..
  exact ⟨by simp [hm], by simp [hm], by simp [hl], by simp [hl], fun q hq => ⟨by simp [hl, hq], by simp [hm, hq]⟩⟩

theorem owTestStart_rotation (p : PortIx) (s : State) (hf : s.fitted p.val = true) (hr : (s.lnk p.val).state = .run)
    (ht : s.testRuns (strOfPort p.val) = false) (hs : s.slotNow p.val = true)
    (hm : s.rotationMay (strOfPort p.val) = true) :
    ∃ t, exec (.owTestStart p) s = .next t ∧ TestStarted p.val .rotation 1 s t := by
  have hc : (s.fitted p.val && decide ((s.lnk p.val).state = .run) && !s.testRuns (strOfPort p.val) &&
      s.slotNow p.val && s.rotationMay (strOfPort p.val)) = true := by simp [hf, hr, ht, hs, hm]
  exact next_pos rfl hc ⟨_, rfl, State.testStart_started ..⟩

theorem owTestRetry_restarts (p : PortIx) (f n : Nat) (w : TestWhy) (s : State)
    (ha : (tget s.meas.fe p.val).retryAt = some (f, n, w)) (hf : f ≤ s.now)
    (ht : s.testRuns (strOfPort p.val) = false) (hr : (s.lnk p.val).state = .run)
    (hm : w = .rotation → s.rotationMay (strOfPort p.val) = true) :
    ∃ t, exec (.owTestRetry p) s = .next t ∧ TestStarted p.val w n s t := by
  have hfree : ¬ (s.now < f ∨ s.testRuns (strOfPort p.val) = true) := by simp [ht, hf]
  have hmay : ¬ (w = .rotation ∧ (!s.rotationMay (strOfPort p.val)) = true) := by simpa using hm
  show ∃ t, execOwTestRetry p s = .next t ∧ _
  simp only [execOwTestRetry, State.atP_meas, ha]
  exact next_neg rfl hfree (next_neg rfl (not_not_intro hr) (next_neg rfl hmay ⟨_, rfl, State.testStart_started ..⟩))

theorem blockTriggeredTest_starts (p : PortIx) (s : State) (hd : (tget s.meas.fe p.val).blkTestDue = true)
    (hr : (s.lnk p.val).state = .run) (ht : s.testRuns (strOfPort p.val) = false) :
    ∃ t, exec (.blockTriggeredTest p) s = .next t ∧
      TestStarted p.val .block ((tget s.meas.fe p.val).blkAttempts + 1) s t := by
  have hc : ((tget s.meas.fe p.val).blkTestDue && decide ((s.lnk p.val).state = .run) &&
      !s.testRuns (strOfPort p.val)) = true := by simp [hd, hr, ht]
  exact next_pos rfl hc ⟨_, rfl, State.testStart_started ..⟩

/-! ### Open-wire tests that end (R161, R163) -/

/-- From the third conversion on a test ends: decided where nothing voids it, void otherwise. -/
theorem owTestEvaluate_eq {p : PortIx} {w : OwTest} {s : State} (ht : (tget s.meas.fe p.val).test = some w)
    (he : w.start + 2 ≤ s.now) : exec (.owTestEvaluate p) s = ok (if s.voidCause w = 0
      then (s.atP 450).testGood p.val w else (s.atP 450).testVoid p.val w (s.voidCause w)) := by
  show execOwTestEvaluate p s = _
  simp only [execOwTestEvaluate, State.atP_meas, ht]
  exact congrArg ok (if_neg (Nat.not_lt.mpr he))

/-- A void test with attempts left ends, is counted, and one of the rotation is retried five frames after its start. -/
theorem State.testVoid_retries (s : State) (p : Nat) (t : OwTest) (c : Nat) (h : t.attempt < 3) :
    (tget (s.testVoid p t c).meas.fe p).test = none ∧
    (tget (s.testVoid p t c).meas.fe p).wires = (tget s.meas.fe p).wires ∧
    (tget (s.testVoid p t c).meas.str (strOfPort p)).voids = sat32u ((tget s.meas.str (strOfPort p)).voids + 1) ∧
    (t.why = .rotation →
      (tget (s.testVoid p t c).meas.fe p).retryAt = some (t.start + 5, t.attempt + 1, .rotation)) := by
  unfold State.testVoid
  rw [if_pos h]
  exact ⟨by simp, by simp, by simp, fun hw => by simp [hw]⟩

theorem owTestEvaluate_void (p : PortIx) (w : OwTest) (s : State) (ht : (tget s.meas.fe p.val).test = some w)
    (he : w.start + 2 ≤ s.now) (hg : w.got ≠ 7) (ha : w.attempt < 3) :
    ∃ t, exec (.owTestEvaluate p) s = .next t ∧ (tget t.meas.fe p.val).test = none ∧
      (tget t.meas.fe p.val).wires = (tget s.meas.fe p.val).wires ∧
      (tget t.meas.str (strOfPort p.val)).voids = sat32u ((tget s.meas.str (strOfPort p.val)).voids + 1) ∧
      (w.why = .rotation → (tget t.meas.fe p.val).retryAt = some (w.start + 5, w.attempt + 1, .rotation)) := by
  have hv : s.voidCause w = 1 := if_pos hg
  exact next_neg (owTestEvaluate_eq ht he) (by rw [hv]; decide) ⟨_, rfl, State.testVoid_retries (s.atP 450) _ _ _ ha⟩

/-- The declared wires of a front end with those of a list added (R164). -/
def markWires (b : BitVec 65) (l : List Nat) : BitVec 65 := l.foldl (fun b w => b ||| ((1 : BitVec 65) <<< w)) b

theorem markWires_getLsbD (l : List Nat) (b : BitVec 65) {i : Nat} (hi : i < 65) :
    (markWires b l).getLsbD i = (b.getLsbD i || decide (i ∈ l)) := by
  unfold markWires
  induction l generalizing b with
  | nil => simp
  | cons w l ih =>
    have h1 : ((1 : BitVec 65) <<< w).getLsbD i = decide (i = w) := by
      rcases Nat.lt_trichotomy i w with h | h | h
      · simp [h, Nat.ne_of_lt h]
      · simp [h, h ▸ hi]
      · simp [hi, Nat.not_lt.mpr (Nat.le_of_lt h), Nat.ne_of_gt h]
        omega
    rw [List.foldl_cons, ih, BitVec.getLsbD_or, h1]
    simp [Bool.or_assoc]

/-- A declaration adds the wires found to those of the port, and leaves the rest of what measurement holds of it but the
unlocated fault (R164). -/
theorem State.wireDeclare_fe (s : State) (p : Nat) (r : OwFound) (a : Bool) :
    tget (s.wireDeclare p r a).meas.fe p = { tget s.meas.fe p with
      wires := markWires (tget s.meas.fe p).wires r.wires,
      unlocated := (tget s.meas.fe p).unlocated || r.unlocated } := by
  unfold State.wireDeclare
  extract_lets m n k fresh freshUn s1 s2 first s3 s4
  have h1 : s1.meas = s.meas := foldl_view (v := State.meas) (fun u w => State.wireEvent_meas ..) _ _
  have h2 : s2.meas = s.meas := by
    unfold s2
    split
    · exact (State.wireEvent_meas ..).trans h1
    · exact h1
  have h4 : tget s4.meas.fe p = { tget s.meas.fe p with
      wires := markWires (tget s.meas.fe p).wires r.wires,
      unlocated := (tget s.meas.fe p).unlocated || r.unlocated } := by
    simp [s4, s3, h2, markWires]
  split
  · exact h4
  · rw [(State.wireDeclared_meas ..).1]
    exact h4

/-- A test that is not void and not a survey's ends, and adds the wires it finds open to those of its port (R163). -/
theorem State.testGood_fe (s : State) (p : Nat) (t : OwTest) (hw : t.why ≠ .survey) :
    (tget (s.testGood p t).meas.fe p).test = none ∧
    (tget (s.testGood p t).meas.fe p).wires =
      markWires (tget s.meas.fe p).wires (t.decide_ s.meas.cfg (s.cellsOn p)).wires := by
  unfold State.testGood
  extract_lets k r none_ block s1 s2
  have h2 : s2 = s1 := if_neg hw
  have h1 : (tget s1.meas.fe p).test = none ∧ (tget s1.meas.fe p).wires = (tget s.meas.fe p).wires := by simp [s1]
  rw [h2]
  split
  · next hn =>
    have hr : r.wires = [] := by
      simp only [none_, Bool.and_eq_true, decide_eq_true_eq] at hn
      exact hn.1
    rw [hr]
    exact h1
  · rw [State.wireDeclare_fe, h1.2]
    exact ⟨h1.1, rfl⟩

theorem owTestEvaluate_good (p : PortIx) (w : OwTest) (s : State) (ht : (tget s.meas.fe p.val).test = some w)
    (he : w.start + 2 ≤ s.now) (hv : s.voidCause w = 0) (hw : w.why ≠ .survey) :
    ∃ t, exec (.owTestEvaluate p) s = .next t ∧ (tget t.meas.fe p.val).test = none ∧
      (∀ i ∈ (w.decide_ s.meas.cfg (s.cellsOn p.val)).wires, i < 65 →
        (tget t.meas.fe p.val).wires.getLsbD i = true) ∧
      ((w.decide_ s.meas.cfg (s.cellsOn p.val)).wires = [] →
        (tget t.meas.fe p.val).wires = (tget s.meas.fe p.val).wires) := by
  obtain ⟨h1, h2⟩ := (s.atP 450).testGood_fe p.val w hw
  refine next_pos (owTestEvaluate_eq ht he) hv ⟨_, rfl, h1, fun i hi h65 => ?_, fun hn => ?_⟩
  · rw [h2, markWires_getLsbD _ _ h65, Bool.or_eq_true]
    exact .inr (decide_eq_true hi)
  · exact h2.trans (congrArg (markWires _) hn)

/-- Settles O27: the three rows that start a test share what a start does (`TestStarted`), the two ways a test ends
share where it ends (`owTestEvaluate_eq`). -/
theorem openWireTestCommandsComplete : Obligations.OpenWireTestCommandsComplete := by
  refine ⟨tierPermit_forms, fun p s hf hr ht hs hm => ?_, fun p f n w s ha hf ht hr hm => ?_, fun p s hd hr ht => ?_,
    owTestEvaluate_void, owTestEvaluate_good⟩
  · obtain ⟨t, he, h⟩ := owTestStart_rotation p s hf hr ht hs hm
    exact ⟨t, he, h.test, h.convert, h.pattern, h.other⟩
  · obtain ⟨t, he, h⟩ := owTestRetry_restarts p f n w s ha hf ht hr hm
    exact ⟨t, he, h.test, h.retry, h.pattern, h.other⟩
  · obtain ⟨t, he, h⟩ := blockTriggeredTest_starts p s hd hr ht
    exact ⟨t, he, h.test, h.other⟩

end Sys2Proof.Machine
end

section
namespace Sys2Proof.Machine

/-! ### The block and sum checks (R172, R173) -/

@[simp] theorem State.blkFlags_meas (s : State) (p : Nat) (b : Bool) : (s.blkFlags p b).meas = s.meas := rfl

theorem measBlockFault_sets (p : Pulse) (q : PortIx) (s : State) (hf : 10 ≤ (tget s.meas.fe q.val).blkFail)
    (hb : (tget s.meas.fe q.val).blk = false) :
    ∃ t, exec (.measBlockFault p q) s = .next t ∧ (tget t.meas.fe q.val).blk = true ∧
      (tget t.meas.fe q.val).blkTestDue = true ∧ ∀ r, r ≠ q.val → tget t.meas.fe r = tget s.meas.fe r :=
  next_pos rfl ⟨hf, by rw [State.atP_meas, hb]; rfl⟩
    ⟨_, rfl, by simp, by simp, fun r hr => by simp [tget_tmod_ne _ _ hr]⟩

theorem blkClear_clears (p : Pulse) (q : PortIx) (s : State) (hp : 10 ≤ (tget s.meas.fe q.val).blkPass)
    (hb : (tget s.meas.fe q.val).blk = true) :
    ∃ t, exec (.blkClear p q) s = .next t ∧ (tget t.meas.fe q.val).blk = false ∧
      (tget t.meas.fe q.val).sf06Invalid = false ∧ ∀ r, r ≠ q.val → tget t.meas.fe r = tget s.meas.fe r :=
  next_pos rfl ⟨hp, hb⟩ ⟨_, rfl, by simp, by simp, fun r hr => by simp [tget_tmod_ne _ _ hr]⟩

/-- The opening of a declared wire fault is the trip stage of SF-07 (R165, R307). -/
theorem State.wireOpen_trips (s : State) (k : Nat) : has ((s.wireOpen k).pst k).tripStage 6 = true :=
  State.tripStart_stage _ k 7 k 0 (by decide) (by decide)

/-- The opening for thermistors is the trip stage of SF-03; that of SF-07 stands as before (R170). -/
theorem State.thOpen_sf07 (s : State) (k : Nat) :
    has ((s.thOpen k).pst k).tripStage 6 = has (s.pst k).tripStage 6 :=
  State.tripStart_other _ k 3 0xFFFF 0 (by decide) k 6 (.inr (by decide))

/-- A declared wire fault warns: the SF-07 hold (R165, R166). -/
theorem State.wireDeclared_warns (s : State) (k v : Nat) (a : Bool) :
    has ((s.wireDeclared k v a).pst k).warn 6 = true := by
  unfold State.wireDeclared
  extract_lets s1 d
  have h1 : has (s1.pst k).warn 6 = true := State.warnStart_stage _ k 7 k v (by decide) (by decide)
  split
  · have h : ((s1.wireOpen k).pst k).warn = (s1.pst k).warn := (State.tripStart_warn _ k 7 k 0 (by decide) k).1
    rw [h, h1]
  · split
    · exact h1
    · exact (congrArg (fun x : ProtStr => has x.warn 6) (State.ev_get_pst ..)).trans h1

theorem stringSumFault_warns (k : StrIx) (s : State) (hf : 100 ≤ (tget s.meas.str k.val).sumFail)
    (hn : (tget s.meas.str k.val).sumFault = false) :
    ∃ t, exec (.stringSumFault k) s = .next t ∧ (tget t.meas.str k.val).sumFault = true ∧
      has (t.pst k.val).warn 6 = true := by
  refine next_pos rfl ⟨hf, by rw [State.atP_meas, hn]; rfl⟩ ⟨_, rfl, ?_, State.wireDeclared_warns ..⟩
  extract_lets sum s1 s2
  have hm : ((portsOf k.val).foldl (fun u p => u.wireFlags p) s2).meas = s2.meas :=
    foldl_view (v := State.meas) State.wireFlags_meas _ _
  rw [(State.wireDeclared_meas ..).2, hm]
  simp [s2]

theorem wireOpenDeadline_trips (p : Pulse) (k : StrIx) (f : Nat) (s : State)
    (hd : (tget s.meas.str k.val).wireDeadline = some f) (hf : f ≤ s.now) :
    ∃ t, exec (.wireOpenDeadline p k) s = .next t ∧ (tget t.meas.str k.val).wireDeadline = none ∧
      has (t.pst k.val).tripStage 6 = true := by
  show ∃ t, execWireOpenDeadline p k s = .next t ∧ _
  unfold execWireOpenDeadline
  extract_lets s0 n due s1
  have h1 : s1 = s0.wireOpen k.val := if_pos (by
    show due (tget s.meas.str k.val).wireDeadline = true
    rw [hd]
    exact decide_eq_true hf)
  have hw : (tget s1.meas.str k.val).wireDeadline = none := by rw [h1]; simp
  have ht : has (s1.pst k.val).tripStage 6 = true := h1 ▸ s0.wireOpen_trips k.val
  by_cases hc : due (tget s1.meas.str k.val).thDeadline = true
  · exact next_pos rfl hc ⟨_, rfl, by simpa [n] using hw, (s1.thOpen_sf07 k.val).trans ht⟩
  · exact next_neg rfl hc ⟨_, rfl, hw, ht⟩

/-! ### Thermistors (R167, R168, R304) -/

@[simp] theorem State.thEvent_th (s : State) (p t kind : Nat) (r : Int) : (s.thEvent p t kind r).th = s.th :=
  State.ev_th ..

@[simp] theorem State.thEvent_mkTh (s : State) (p t kind : Nat) (r : Int) : (s.thEvent p t kind r).mkTh = s.mkTh :=
  State.ev_mkTh ..

@[simp] theorem State.outOfService_th (s : State) (k : Nat) : (s.outOfService k).th = s.th :=
  (State.outOfService_frame ..).th_eq (by decide)

@[simp] theorem State.outOfService_mkTh (s : State) (k : Nat) : (s.outOfService k).mkTh = s.mkTh :=
  (State.outOfService_frame ..).mkTh_eq (by decide)

theorem thermistorOpenFault_breaks (p : Pulse) (q : PortIx) (i : Fin 16) (s : State)
    (hr : 2 ≤ (tget s.th (thIx q.val i.val)).badRun ∨ 2 ≤ (tget s.mkTh (thIx q.val i.val)).badRun)
    (hb : (tget s.th (thIx q.val i.val)).broken = false) (hf : has (s.thOn q.val) i.val = true) :
    ∃ t, exec (.thermistorOpenFault p q i) s = .next t ∧ (tget t.th (thIx q.val i.val)).broken = true ∧
      (2 ≤ (tget s.mkTh (thIx q.val i.val)).badRun → (tget t.mkTh (thIx q.val i.val)).broken = true) ∧
      ∀ j, j ≠ thIx q.val i.val → tget t.th j = tget s.th j := by
  show ∃ t, execThermistorOpenFault p q i s = .next t ∧ _
  unfold execThermistorOpenFault
  extract_lets s0 n x y s1 v s2
  have h1 : s1.th = s.th ∧ (2 ≤ y.badRun → (tget s1.mkTh n).broken = true) := by
    unfold s1
    split
    · exact ⟨rfl, fun _ => by simp⟩
    · next hc => exact ⟨rfl, fun h2 => by simpa [h2] using hc⟩
  have h2 : s2.th = s1.th ∧ s2.mkTh = s1.mkTh := by
    unfold s2
    split <;> simp
  refine next_pos rfl ⟨hr, by simpa [x, n, s0] using hb, hf⟩ ⟨_, rfl, ?_, fun hy => ?_, fun j hj => ?_⟩
  · simp [n]
  · rw [State.outOfService_mkTh]
    exact h2.2 ▸ h1.2 hy
  · rw [State.outOfService_th]
    exact (tget_tput_ne _ _ hj).trans (by rw [h2.1, h1.1])

theorem thermistorDisagree_breaks (p : Pulse) (q : PortIx) (i : Fin 16) (f : Nat) (s : State)
    (hd : (tget s.th (thIx q.val i.val)).disagreeFrom = some f)
    (hb : (tget s.th (thIx q.val i.val)).broken = false) (hf : f + 1000 * s.meas.cfg.thPersist ≤ s.now) :
    ∃ t, exec (.thermistorDisagree p q i) s = .next t ∧ (tget t.th (thIx q.val i.val)).broken = true ∧
      (tget t.mkTh (thIx q.val i.val)).disagree = true ∧
      ∀ j, j ≠ thIx q.val i.val → tget t.th j = tget s.th j := by
  show ∃ t, execThermistorDisagree p q i s = .next t ∧ _
  simp only [execThermistorDisagree, State.atP_th, hd]
  exact next_pos rfl ⟨by rw [hb]; rfl, hf⟩
    ⟨_, rfl, by simp, by simp, fun j hj => by simp [tget_tput_ne _ _ hj]⟩

theorem thermistorRestored_restores (p : Pulse) (q : PortIx) (i : Fin 16) (f : Nat) (s : State)
    (hg : (tget s.th (thIx q.val i.val)).goodFrom = some f)
    (hb : (tget s.th (thIx q.val i.val)).broken = true) (hf : f + 60000 ≤ s.now) :
    ∃ t, exec (.thermistorRestored p q i) s = .next t ∧ (tget t.th (thIx q.val i.val)).broken = false ∧
      ∀ j, j ≠ thIx q.val i.val → tget t.th j = tget s.th j := by
  show ∃ t, execThermistorRestored p q i s = .next t ∧ _
  simp only [execThermistorRestored, State.atP_th, hg]
  exact next_pos rfl ⟨hb, hf⟩ ⟨_, rfl, by simp, fun j hj => by simp [tget_tput_ne _ _ hj]⟩

theorem markhorThRestore_restores (p : Pulse) (q : PortIx) (i : Fin 16) (s : State)
    (ha : (tget s.mkTh (thIx q.val i.val)).restoreAsked = true) (hr : (tget s.mkTh (thIx q.val i.val)).badRun = 0)
    (hl : (tget s.mkTh (thIx q.val i.val)).lastBad + 60000 ≤ s.now) :
    ∃ t, exec (.markhorThRestore p q i) s = .next t ∧ (tget t.mkTh (thIx q.val i.val)).broken = false ∧
      (tget t.mkTh (thIx q.val i.val)).restoreAsked = false ∧
      ∀ j, j ≠ thIx q.val i.val → tget t.mkTh j = tget s.mkTh j :=
  next_pos rfl ⟨ha, hr, hl⟩ ⟨_, rfl, by simp, by simp, fun j hj => by simp [tget_tput_ne _ _ hj]⟩

/-- Settles O28: one lemma per row. -/
theorem measurementFaultCommandsComplete : Obligations.MeasurementFaultCommandsComplete :=
  ⟨measBlockFault_sets, blkClear_clears, stringSumFault_warns, wireOpenDeadline_trips, thermistorOpenFault_breaks,
    thermistorDisagree_breaks, thermistorRestored_restores, markhorThRestore_restores⟩

end Sys2Proof.Machine
end

section
namespace Sys2Proof.Machine

/-! ### The history ring (R440) -/

/-- A counted loss leaves the history and notes its frame (R443). -/
theorem State.winLoss_history (s : State) (stream kind : Nat) :
    (s.winLoss stream kind).site.history = s.site.history ∧ (s.winLoss stream kind).site.lastLoss = some s.now := by
  simp [State.winLoss]

theorem historyMinute_appends (s : State) (hm : s.now % 60000 = 0) (hl : s.site.history.length < 10080) :
    ∃ t, exec .historyMinute s = .next t ∧ (∃ c r, t.site.history = s.site.history ++ [(s.now, c, r)]) ∧
      t.site.sent = s.site.sent := by
  refine next_neg rfl (not_not_intro hm) ⟨_, rfl, ?_⟩
  simp [Nat.not_le.mpr hl]

theorem historyMinute_replaces (s : State) (hm : s.now % 60000 = 0) (hl : 10080 ≤ s.site.history.length) :
    ∃ t, exec .historyMinute s = .next t ∧ (∃ c r, t.site.history = s.site.history.drop 1 ++ [(s.now, c, r)]) ∧
      t.site.lastLoss = some s.now := by
  refine next_neg rfl (not_not_intro hm) ⟨_, rfl, ?_⟩
  have hn : ((s.atP 0).winLoss 4 4).now = s.now := (State.winLoss_frame ..).frame_eq (by decide)
  simp [hl, hn, State.winLoss_history]

/-! ### The pass (R19, R195) -/

/-- The estimation pass of a frame is done and stays within what estimation, the thermal model and Herd write. -/
theorem estimationPass_done (late : Nat) (s : State) (hd : s.est.passDone = false) (hr : s.runtimeRuns = true)
    (hm : s.mode.mode ≠ .load) :
    ∃ t, exec (.estimationPass late) s = .next t ∧ t.est.passDone = true ∧ t.link = s.link ∧ t.dsp = s.dsp ∧
      t.meas = s.meas := by
  have hc : ¬((s.atP 420).est.passDone ∨ !(s.atP 420).runtimeRuns ∨ (s.atP 420).mode.mode = .load) := by
    have hr' : (s.atP 420).runtimeRuns = true := hr
    simp [hd, hr', hm]
  refine next_neg rfl hc ⟨_, rfl, rfl, ?_⟩
  extract_lets nEst failed thStr due hStr lateH lateP lateT lateE s2 s3 reached s4 s5 pred s6 acts s7 s8 s9
  have f2 : Frame (writes (.estimationPass late)) (s.atP 420) s2 := .mono (State.estPass_frame ..) rfl
  have f3 : Frame _ _ s3 := .ite f2 (.foldl f2 fun _ _ h => .after (State.thUpdate_frame ..) h rfl)
  have f4 : Frame _ _ s4 := .foldl f3 fun _ _ h => .after (State.thPass_frame ..) h rfl
  have f5 : Frame _ _ s5 := .ite f4 (.foldl f4 fun _ _ h => .after (State.thInit_frame ..) h rfl)
  have f6 : Frame _ _ s6 := .foldl f5 fun _ _ h => .ite (.after (State.predSet_frame ..) h rfl) (.upd h rfl)
  have f7 : Frame _ _ s7 := .foldl f6 fun _ _ h => .after (State.herdIncr_frame ..) h rfl
  have f8 : Frame _ _ s8 := .foldl f7 fun _ _ h =>
    .after (State.excComplete_frame ..) (.after (State.requests_frame ..) h rfl) rfl
  have f9 : Frame _ _ s9 := .foldl f8 fun _ _ h => .after (State.balCount_frame ..) h rfl
  have ft : Frame _ _ s9.histFrame := .after (State.histFrame_frame ..) f9 rfl
  exact ⟨ft.link_eq (by simp [writes]), ft.dsp_eq (by simp [writes]), ft.meas_eq (by simp [writes])⟩

/-! ### Requests, excursions and rests (R201, R203 to R205) -/

@[simp] theorem State.requestEvent_est (s : State) (k c : Nat) : (s.requestEvent k c).est = s.est := State.ev_est ..

@[simp] theorem State.excEvent_est (s : State) (k c : Nat) (q : Excursion) : (s.excEvent k c q).est = s.est :=
  State.ev_est ..

theorem estRequestRepeat_repeats (p : Pulse) (k : StrIx) (c : Nat) (s : State)
    (hq : (tget s.est.str k.val).request = some c) (hc : s.requestCause k.val ≠ 0)
    (hf : (tget s.est.str k.val).requestAt + 3600000 * s.est.cfg.reqRepeat ≤ s.now) :
    ∃ t, exec (.estRequestRepeat p k) s = .next t ∧ (tget t.est.str k.val).requestAt = s.now ∧
      t.jnl = ((s.atP p.val).requestEvent k.val c).jnl ∧
      ∀ j, j ≠ k.val → tget t.est.str j = tget s.est.str j := by
  show ∃ t, execEstRequestRepeat p k s = .next t ∧ _
  simp only [execEstRequestRepeat, State.atP_est, hq]
  exact next_pos rfl ⟨hf, hc⟩ ⟨_, rfl, by simp, rfl, fun j hj => by simp [tget_tmod_ne _ _ hj]⟩

/-- The end of a string's excursion takes its excursion and leaves the other strings' estimation (R205). -/
theorem State.excEnd_str (s : State) (k cause j : Nat) : tget (s.excEnd k cause).est.str j =
    if j = k then { tget s.est.str k with excursion := none } else tget s.est.str j := by
  unfold State.excEnd
  split
  · next h =>
    split
    · next hj => rw [hj, ← h]
    · rfl
  · simp [tget_tmod]

/-- The event that an excursion's end leaves: a string out of CLOSED and HELD ends it as left (R205). -/
theorem State.excEnd_jnl {s : State} {k : Nat} {q : Excursion} (h : (tget s.est.str k).excursion = some q)
    (cause : Nat) : (s.excEnd k cause).jnl =
      (s.excEvent k (if (s.str k).state = .closed ∨ (s.str k).state = .held then cause else 3) q).jnl := by
  unfold State.excEnd
  simp only [h]
  by_cases hc : (s.str k).state = .closed <;> by_cases hh : (s.str k).state = .held <;> simp [hc, hh]

theorem excursionDurationEnd_ends (p : Pulse) (k : StrIx) (q : Excursion) (s : State)
    (hq : (tget s.est.str k.val).excursion = some q) (he : q.end_ ≤ s.now) :
    ∃ t, exec (.excursionDurationEnd p k) s = .next t ∧ (tget t.est.str k.val).excursion = none ∧
      t.jnl = ((s.atP p.val).excEvent k.val
        (if (s.str k.val).state = .closed ∨ (s.str k.val).state = .held then 2 else 3) q).jnl ∧
      ∀ j, j ≠ k.val → tget t.est.str j = tget s.est.str j := by
  show ∃ t, execExcursionDurationEnd p k s = .next t ∧ _
  simp only [execExcursionDurationEnd, State.atP_est, hq]
  exact next_pos rfl he ⟨_, rfl, by simp [State.excEnd_str], State.excEnd_jnl (s := s.atP p.val) hq 2,
    fun j hj => by simp [State.excEnd_str, hj]⟩

/-- EST_REFERENCE_GRANT opens the granted excursion on each named string and on no other (R204). -/
theorem estReferenceGrant_grants (id : Word) (e : LedgerEntry) (s : State) (h : Due s id 0x0701 e)
    (hl : e.body.length = 6) (hz : rdU e.body 3 1 = 0) (hd : rdU e.body 2 1 = 1 ∨ rdU e.body 2 1 = 2)
    (h1 : 10 ≤ rdU e.body 4 2) (h2 : rdU e.body 4 2 ≤ 1440) (hn : namedIn e.mask ≠ [])
    (hk : ∀ k ∈ namedIn e.mask, s.installed k = true ∧ (s.str k).state = .closed) :
    ∃ t, exec (.estReferenceGrant id) s = .next t ∧
      (∀ k ∈ namedIn e.mask, (tget t.est.str k).excursion =
        some { charge := decide (rdU e.body 2 1 = 1), from_ := s.now, end_ := s.now + 60000 * rdU e.body 4 2,
               cmd := id }) ∧
      (∀ j, j ∉ namedIn e.mask → tget t.est.str j = tget s.est.str j) ∧ t.cmdStands id .done .ok := by
  refine State.evaluateStrings_next rfl h (by simp [Checks.pass, grantBody, hl, hz, hd, h1, h2]) hn
    (fun k hm => ⟨(hk k hm).1, if_pos (hk k hm).2⟩) fun x w hf he hw hid => ?_
  extract_lets q open_
  have hest : x.est = s.est := hf.est_eq (by decide)
  have hnow : x.now = s.now := hf.frame_eq (by decide)
  have hself (u : State) (k : Nat) : (tget (open_ u k).est.str k).excursion = some q := by simp [open_]
  have hother (u : State) (k j : Nat) (hj : j ≠ k) : tget (open_ u k).est.str j = tget u.est.str j := by
    simp [open_, tget_tmod_ne _ _ hj, State.excEnd_str, hj]
  have hledger : ((namedIn e.mask).foldl open_ x).site.ledger = x.site.ledger := by
    have hframe : Frame [.est, .jnl] x ((namedIn e.mask).foldl open_ x) := .foldl (.refl _ _) fun _ _ h =>
      .upd (.after (State.excEvent_frame ..) (.after (State.excEnd_frame ..) h rfl) rfl) rfl
    exact hframe.ledger_eq (by decide)
  rw [hid, State.cmdEndStrings_est, ← hnow, ← hest]
  refine ⟨fun k hm => ?_, foldl_other (v := fun u j => tget u.est.str j) hother _ x,
    State.cmdEndStrings_after he hw hledger _⟩
  refine (foldl_once (v := fun u k => tget u.est.str k) (R := fun _ b => b.excursion = some q) hself hother
    (namedIn_nodup _) x k hm).trans ?_
  simp [q, hid]

theorem estRestStart_rests (p : Pulse) (k : StrIx) (s : State)
    (hq : 60000 * s.est.cfg.restMin ≤ (tget s.est.str k.val).quiet) (hi : s.installed k.val = true) :
    ∃ t, exec (.estRestStart p k) s = .next t ∧ (tget t.est.str k.val).atRest = true ∧
      ∀ j, j ≠ k.val → tget t.est.str j = tget s.est.str j :=
  next_pos rfl ⟨hq, hi⟩ ⟨_, rfl, by simp, fun j hj => by simp [tget_tmod_ne _ _ hj]⟩

/-- Settles O29: one lemma per row, the minute of the history in two; the pass by the frame of its operations. -/
theorem estimationCommandsComplete : Obligations.EstimationCommandsComplete :=
  ⟨historyMinute_appends, historyMinute_replaces, estimationPass_done, estRequestRepeat_repeats,
    excursionDurationEnd_ends, estReferenceGrant_grants, estRestStart_rests⟩

end Sys2Proof.Machine
end

section
namespace Sys2Proof.Machine

/-! ### The plate (R224) -/

/-- A taken plate temperature marks its string by whether its source is invalid, and leaves the other strings' plates. -/
theorem State.plateTake_str (s : State) (k : Nat) :
    (tget (s.plateTake k).thm.str k).plateInvalid = (s.plateSource k).isNone ∧
    ∀ j, j ≠ k → tget (s.plateTake k).thm.str j = tget s.thm.str j := by
  unfold State.plateTake
  exact ⟨by simp, fun j hj => by simp [tget_tmod_ne _ _ hj]⟩

theorem plateSourceInvalid_marks (p : Pulse) (k : StrIx) (s : State)
    (hsrc : (s.atP p.val).plateSource k.val = none) (hk : s.installed k.val = true) :
    ∃ t, exec (.plateSourceInvalid p k) s = .next t ∧ (tget t.thm.str k.val).plateInvalid = true ∧
      ∀ j, j ≠ k.val → tget t.thm.str j = tget s.thm.str j := by
  obtain ⟨hmark, hother⟩ := (s.atP p.val).plateTake_str k.val
  exact next_pos rfl ⟨Option.isNone_iff_eq_none.mpr hsrc, hk⟩
    ⟨_, rfl, hmark.trans (Option.isNone_iff_eq_none.mpr hsrc), hother⟩

/-! ### The Herd sweep (R237) -/

theorem herdSweepDone_ends (p : Pulse) (n : Nat) (s : State) (hw : s.herd.sweep = some n) (hp : p.val < 900)
    (ha : s.grz.admitted = true) (hf : s.sys.selfTestFail.getLsbD 7 = false) :
    ∃ t, exec (.herdSweepDone p) s = .next t ∧ t.herd.sweep = none ∧ t.herd.skipRun = 0 ∧ t.herd.swept = true := by
  show ∃ t, execHerdSweepDone p s = .next t ∧ _
  simp only [execHerdSweepDone, State.atP_herd, hw]
  refine next_neg rfl ?_ ⟨_, rfl, rfl, rfl, rfl⟩
  rintro (hlate | hbusy | hfault)
  · exact absurd hlate (Nat.not_le.mpr hp)
  · simp [ha] at hbusy
  · exact Bool.false_ne_true (hf.symm.trans hfault)

theorem State.strings_nodup (s : State) : s.strings.Nodup := (upFrom_nodup 0 16).1.filter _

theorem herdSweepSkip_counts (n : Nat) (s : State) (hw : s.herd.sweep = some n) (he : 1000 * (n + 1) + 999 ≤ s.now) :
    ∃ t, exec .herdSweepSkip s = .next t ∧ t.herd.sweep = none ∧ t.herd.skipRun = s.herd.skipRun + 1 ∧
      t.herd.lastSkip = some s.now ∧ t.herdTab = s.herdTab ∧
      ∀ k, s.installed k = true → (tget s.herd.str k).eligPrev = true →
        (tget t.herd.str k).skipped = sat32u ((tget s.herd.str k).skipped + 1) := by
  show ∃ t, execHerdSweepSkip s = .next t ∧ _
  simp only [execHerdSweepSkip, State.atP_herd, hw]
  refine next_neg rfl (Nat.not_lt.mpr he) ⟨_, rfl, rfl, by simp, by simp [State.now], by simp, fun k hk hp => ?_⟩
  have h16 : k < 16 := by
    rw [State.installed, Bool.and_eq_true] at hk
    exact of_decide_eq_true hk.2
  have hm : k ∈ (s.atP 900).strings.filter fun j => (tget s.herd.str j).eligPrev :=
    List.mem_filter.mpr ⟨(mem_strings s k).mpr ⟨hk, h16⟩, hp⟩
  simp [tget_tmodAll_mem _ _ _ ((s.atP 900).strings_nodup.filter _) hm]

/-- Settles O30: one lemma per row. -/
theorem thermalAndHerdCommandsComplete : Obligations.ThermalAndHerdCommandsComplete :=
  ⟨plateSourceInvalid_marks, herdSweepDone_ends, herdSweepSkip_counts⟩

end Sys2Proof.Machine
end

section
namespace Sys2Proof.Machine

/-! ### What an opening leaves of a power port -/

/-- What a port holds beside its connect sequence and the past means: what the sequence, the hand-over, the opening and
the interval's end write is blanked. -/
def PpSt.linePart (q : PpSt) : PpSt :=
  { q with
    hold := false, phase := .none, phasePulses := 0, opening := false, lowRun := 0, means := [], takenAt := none,
    nConnects := 0, nAborts := 0, lastAbort := 0, loop := { q.loop with out := false, window := false, count := 0 } }

/-- Every port's line part is as it was, and every stage: what each operation does that ends, opens, trips or hands over
a string. -/
structure LinesKept (s t : State) : Prop where
  port : ∀ j, (t.pp j).linePart = (s.pp j).linePart
  stage : t.power.stage = s.power.stage

theorem LinesKept.refl (s : State) : LinesKept s s := ⟨fun _ => rfl, rfl⟩

theorem LinesKept.trans {s u t : State} (h : LinesKept s u) (g : LinesKept u t) : LinesKept s t :=
  ⟨fun j => (g.port j).trans (h.port j), g.stage.trans h.stage⟩

/-- What is read off the line part of a port reads as before. -/
theorem LinesKept.read {α : Type} {s t : State} (h : LinesKept s t) (g : PpSt → α)
    (hg : ∀ q : PpSt, g q.linePart = g q) (j : Nat) : g (t.pp j) = g (s.pp j) := by rw [← hg, h.port, hg]

theorem LinesKept.of_power {s t : State} (h : t.power = s.power) : LinesKept s t :=
  ⟨fun j => by simp only [State.pp, h], congrArg PowerSt.stage h⟩

theorem LinesKept.modPp {s : State} (k : Nat) {f : PpSt → PpSt} (hf : ∀ q : PpSt, (f q).linePart = q.linePart) :
    LinesKept s (s.modPp k f) :=
  ⟨fun j => by rw [State.modPp_pp]; split <;> simp [*], rfl⟩

theorem LinesKept.foldl {α : Type} {f : State → α → State} (h : ∀ u a, LinesKept u (f u a)) (l : List α) (s : State) :
    LinesKept s (l.foldl f s) := by
  induction l generalizing s with
  | nil => exact .refl _
  | cons a l ih => exact (h s a).trans (ih _)

theorem LinesKept.ite {s a b : State} {c : Prop} [Decidable c] (ha : LinesKept s a) (hb : LinesKept s b) :
    LinesKept s (if c then a else b) := by split <;> assumption

/-! ### The operations on a string -/

theorem State.startOpening_lines (s : State) (k : Nat) : LinesKept s (s.startOpening k) := by
  unfold State.startOpening
  extract_lets q opens
  have permit : LinesKept s (s.modPst k fun x => { x with permit := x.permit && opens }) := .of_power rfl
  exact permit.trans (.modPp _ fun _ => rfl)

theorem State.setStr_lines (s : State) (k : Nat) (new : SState) (c : Byte) (sf : Nat) (d : Bool) :
    LinesKept s (s.setStr k new c sf d) := .of_power ((State.setStr_frame ..).power_eq (by decide))

theorem State.endConnect_lines (s : State) (k c : Nat) (new : SState) (why : Byte) (sf : Nat) :
    LinesKept s (s.endConnect k c new why sf) := by
  unfold State.endConnect
  extract_lets o counted retry spent s1 s2 s3 s4
  have h1 : LinesKept s s1 := .of_power (State.ev_power ..)
  have h2 : LinesKept s s2 := (h1.trans (State.startOpening_lines s1 k)).trans (.modPp _ fun _ => rfl)
  have h3 : LinesKept s s3 := h2.trans (State.setStr_lines ..)
  exact .ite (h3.trans (.of_power rfl)) (h3.trans (.of_power rfl))

theorem State.recordProt_lines (s : State) (k : Nat) (i h : Bool) (sf : Nat) : LinesKept s (s.recordProt k i h sf) := by
  have isolates : LinesKept s ((s.startOpening k).setStr k .isolated 0x08 sf true) :=
    (State.startOpening_lines ..).trans (State.setStr_lines ..)
  unfold State.recordProt
  split
  · exact .ite (State.endConnect_lines ..) (.refl _)
  · exact .ite (State.setStr_lines ..) (.refl _)
  · exact .ite isolates (.ite (State.setStr_lines ..) (.refl _))
  · exact .ite isolates (.ite (.refl _) (State.setStr_lines ..))
  · exact .refl _

theorem State.recordOwn_lines (s : State) (k : Nat) : LinesKept s (s.recordOwn k) :=
  .ite (.refl _) (State.recordProt_lines ..)

theorem State.latch_lines (s : State) (k n : Nat) : LinesKept s (s.latch k n) := by
  unfold State.latch
  extract_lets o s1 first s2
  have h2 : LinesKept s s2 := .of_power (State.evIf_power ..)
  exact (h2.trans (State.startOpening_lines s2 k)).trans
    (.of_power ((State.surveyStop_frame ..).power_eq (by decide)))

theorem State.takeActions_lines (s : State) (k n : Nat) (a : Byte) : LinesKept s (s.takeActions k n a) := by
  unfold State.takeActions
  extract_lets s1 s2 opens s3
  have h1 : LinesKept s s1 := .ite (.of_power ((State.raiseAlarm_frame ..).power_eq (by decide))) (.refl _)
  have h2 : LinesKept s s2 := .ite (h1.trans (.of_power rfl)) h1
  exact (h2.trans (.foldl (fun u j => State.latch_lines u j n) _ _)).trans
    (.foldl (fun u j => State.recordOwn_lines u j) _ _)

theorem State.tripStart_lines (s : State) (k n idx : Nat) (v : Int) : LinesKept s (s.tripStart k n idx v) := by
  unfold State.tripStart
  refine .ite (.refl _) ?_
  extract_lets acts s1 s2
  have h2 : LinesKept s s2 := .of_power (State.ev_power ..)
  exact (h2.trans (.of_power ((State.startCapture_frame ..).power_eq (by decide)))).trans
    (State.takeActions_lines ..)

theorem State.sf09_lines (s : State) (k : Nat) (v : Int) : LinesKept s (s.sf09 k v) :=
  .ite (State.tripStart_lines ..) (.refl _)

theorem State.sf10_lines (s : State) (k : Nat) (v : Int) : LinesKept s (s.sf10 k v) :=
  .ite (State.tripStart_lines ..) (.refl _)

theorem State.sf09Stands_lines (s : State) (k : Nat) : LinesKept s (s.sf09Stands k) :=
  .ite (State.sf09_lines ..) (.ite (State.sf09_lines ..) (.ite (State.sf09_lines ..) (.refl _)))

theorem State.handoverTake_lines (s : State) (k : Nat) : LinesKept s (s.handoverTake k) := by
  unfold State.handoverTake
  extract_lets q s1 s2
  have h1 : LinesKept s s1 := .of_power (State.ev_power ..)
  have h2 : LinesKept s s2 := h1.trans (.modPp _ fun _ => rfl)
  have h3 : LinesKept s (s2.setStr k .closed 0 0 true) := h2.trans (State.setStr_lines ..)
  exact .ite ((h3.trans (.of_power (State.modStr_power ..))).trans (State.recordOwn_lines ..)) (.refl _)

/-! ### The loss of the supply -/

theorem State.lossOpen_lines (s : State) (k : Nat) : LinesKept s (s.lossOpen k) := by
  unfold State.lossOpen
  extract_lets s1
  have h1 : LinesKept s s1 := .trans (.of_power (State.modPst_power ..)) (State.startOpening_lines ..)
  exact .ite ((h1.trans (State.setStr_lines ..)).trans (.of_power ((State.modLoss_frame ..).power_eq (by decide))))
    (.refl _)

theorem State.lossStep_lines (s : State) (ks : List Nat) (b : Bool) : LinesKept s (s.lossStep ks b) :=
  .ite (.refl _) ((LinesKept.foldl (fun u k => State.lossOpen_lines u k) ks s).trans (.of_power (State.ev_power ..)))

theorem State.lossOpenLow_lines (s : State) : LinesKept s s.lossOpenLow := by
  unfold State.lossOpenLow
  extract_lets low s1
  have h1 : LinesKept s s1 := State.lossStep_lines ..
  exact .ite (h1.trans (.of_power ((State.lossGasp_frame ..).power_eq (by decide)))) h1

/-! ### SF-09 and SF-10 -/

theorem State.sf09_trips {s : State} {k : Nat} (h : (s.str k).state ∈ [SState.connecting, .closed, .held]) (v : Int) :
    has ((s.sf09 k v).pst k).tripStage 8 = true := by
  rw [State.sf09, if_pos h]
  exact State.tripStart_stage s k 9 k v (by decide) (by decide)

theorem State.sf10_trips {s : State} {k : Nat} (h : (s.str k).state ∈ [SState.connecting, .closed, .held]) (v : Int) :
    has ((s.sf10 k v).pst k).tripStage 9 = true := by
  rw [State.sf10, if_pos h]
  exact State.tripStart_stage s k 10 k v (by decide) (by decide)

end Sys2Proof.Machine
end

section
namespace Sys2Proof.Machine

/-! ### The status word (R275, R276) -/

/-- An intact word is taken; its `ESEQ` decides which run it lengthens and which it ends. -/
theorem statusWord_read (k : StrIx) (l : LineWord) (x : StatWord) (s : State) (h : readStat l = some x) :
    ∃ t, exec (.statusWord k l) s = .next t ∧ (t.pp k.val).stat = x ∧
      (t.pp k.val).badRun =
        (if ((s.pp k.val).word.pseq + 256 - x.eseq) % 256 ≤ 4 then 0 else (s.pp k.val).badRun + 1) ∧
      (t.pp k.val).goodRun =
        (if (s.pp k.val).statInvalid && decide (((s.pp k.val).word.pseq + 256 - x.eseq) % 256 ≤ 4) then
          (s.pp k.val).goodRun + 1 else 0) := by
  show ∃ t, execStatusWord k l s = .next t ∧ _
  simp only [execStatusWord, h]
  refine ⟨_, rfl, ?_, ?_, ?_⟩
  · rw [(State.sf09Stands_lines ..).read PpSt.stat fun _ => rfl]
    simp [State.auxWatch]
  · rw [(State.sf09Stands_lines ..).read PpSt.badRun fun _ => rfl]
    simp [State.auxWatch]
  · rw [(State.sf09Stands_lines ..).read PpSt.goodRun fun _ => rfl]
    simp [State.auxWatch]

/-- A word that fails its framing or `CRC8` is counted, and the last one taken stays. -/
theorem statusWord_unread (k : StrIx) (l : LineWord) (s : State) (h : readStat l = none) :
    ∃ t, exec (.statusWord k l) s = .next t ∧ (t.pp k.val).stat = (s.pp k.val).stat ∧
      (t.pp k.val).badRun = (s.pp k.val).badRun + 1 ∧ (t.pp k.val).goodRun = 0 ∧
      (t.pp k.val).nStatErr = sat32u ((s.pp k.val).nStatErr + 1) := by
  show ∃ t, execStatusWord k l s = .next t ∧ _
  simp only [execStatusWord, h]
  refine ⟨_, rfl, ?_, ?_, ?_, ?_⟩
  · rw [(State.sf09Stands_lines ..).read PpSt.stat fun _ => rfl]
    simp
  · rw [(State.sf09Stands_lines ..).read PpSt.badRun fun _ => rfl]
    simp
  · rw [(State.sf09Stands_lines ..).read PpSt.goodRun fun _ => rfl]
    simp
  · rw [(State.sf09Stands_lines ..).read PpSt.nStatErr fun _ => rfl]
    simp

/-! ### Streams, echo and plausibility (R267, R276, R277, R283) -/

@[simp] theorem PpSt.modChan_chan (q : PpSt) (c : Nat) (f : ChanSt → ChanSt) : (q.modChan c f).chan c = f (q.chan c) := by
  unfold PpSt.modChan PpSt.chan
  split
  · rfl
  · split <;> rfl

@[simp] theorem State.streamEvent_pp (s : State) (k c : Nat) (v : Bool) (j : Nat) : (s.streamEvent k c v).pp j = s.pp j :=
  State.ev_get_pp ..

@[simp] theorem State.streamEvent_str (s : State) (k c : Nat) (v : Bool) (j : Nat) :
    (s.streamEvent k c v).str j = s.str j := State.ev_get_str ..

/-- Four bad words in a row make the stream invalid, which is SF-09 on a string that may conduct. -/
theorem statusStreamInvalid_sets (p : Pulse) (k : StrIx) (s : State) (hb : 4 ≤ (s.pp k.val).badRun)
    (hv : (s.pp k.val).statInvalid = false) :
    ∃ t, exec (.statusStreamInvalid p k) s = .next t ∧ (t.pp k.val).statInvalid = true ∧
      ((s.str k.val).state ∈ [SState.connecting, .closed, .held] → has (t.pst k.val).tripStage 8 = true) := by
  refine next_pos rfl ⟨hb, by simp [hv]⟩ ⟨_, rfl, ?_, fun hs => State.sf09_trips (by simpa using hs) _⟩
  rw [(State.sf09_lines ..).read PpSt.statInvalid fun _ => rfl]
  simp

theorem statusStreamInvalid_waits (p : Pulse) (k : StrIx) (s : State) (hb : (s.pp k.val).badRun < 4) :
    exec (.statusStreamInvalid p k) s = .next (s.atP p.val) := by
  show ok (if _ then _ else _) = _
  rw [if_neg fun h => absurd h.1 (Nat.not_le.mpr hb)]
  rfl

theorem statusStreamValid_clears (p : Pulse) (k : StrIx) (s : State) (hv : (s.pp k.val).statInvalid = true)
    (hg : 1000 ≤ (s.pp k.val).goodRun) :
    ∃ t, exec (.statusStreamValid p k) s = .next t ∧ (t.pp k.val).statInvalid = false :=
  next_pos rfl ⟨hv, hg⟩ ⟨_, rfl, by simp⟩

theorem statusStreamValid_waits (p : Pulse) (k : StrIx) (s : State) (hg : (s.pp k.val).goodRun < 1000) :
    exec (.statusStreamValid p k) s = .next (s.atP p.val) := by
  show ok (if _ then _ else _) = _
  rw [if_neg fun h => absurd h.2 (Nat.not_le.mpr hg)]
  rfl

/-- A stuck channel becomes invalid and is counted; the trip of an invalid `ICUR` leaves both. -/
theorem bitstreamStuck_marks (p : Pulse) (k : StrIx) (c : Fin 3) (s : State)
    (hs : ((s.pp k.val).chan c.val).stuck = true) (hv : ((s.pp k.val).chan c.val).invalid = false) :
    ∃ t, exec (.bitstreamStuck p k c) s = .next t ∧ ((t.pp k.val).chan c.val).invalid = true ∧
      (t.pp k.val).nStuck = sat32u ((s.pp k.val).nStuck + 1) := by
  refine next_pos rfl ⟨hs, by simp [hv]⟩ ⟨_, rfl, ?_, ?_⟩
  · rw [(LinesKept.ite (State.sf10_lines ..) (.refl _)).read (fun q => (q.chan c.val).invalid) fun _ => rfl]
    simp only [State.modPp_pp, if_true]
    exact congrArg ChanSt.invalid (PpSt.modChan_chan _ _ fun x => { x with invalid := true, clean := 0 })
  · rw [(LinesKept.ite (State.sf10_lines ..) (.refl _)).read PpSt.nStuck fun _ => rfl]
    simp

theorem bitstreamRecover_clears (p : Pulse) (k : StrIx) (c : Fin 3) (s : State)
    (hv : ((s.pp k.val).chan c.val).invalid = true) (hc : 1000 ≤ ((s.pp k.val).chan c.val).clean) :
    ∃ t, exec (.bitstreamRecover p k c) s = .next t ∧ ((t.pp k.val).chan c.val).invalid = false :=
  next_pos rfl ⟨hv, hc⟩ ⟨_, rfl, by simp⟩

theorem ppEchoFault_sets (p : Pulse) (k : StrIx) (s : State) (hb : 3 ≤ (s.pp k.val).echoBad)
    (hf : (s.pp k.val).echoFault = false) :
    ∃ t, exec (.ppEchoFault p k) s = .next t ∧ (t.pp k.val).echoFault = true ∧
      (t.pp k.val).nEcho = sat32u ((s.pp k.val).nEcho + 1) ∧
      ((s.str k.val).state ∈ [SState.connecting, .closed, .held] → has (t.pst k.val).tripStage 8 = true) := by
  refine next_pos rfl ⟨hb, by simp [hf]⟩ ⟨_, rfl, ?_, ?_, fun hs => State.sf09_trips (by simpa using hs) _⟩
  · rw [(State.sf09_lines ..).read PpSt.echoFault fun _ => rfl]
    simp
  · rw [(State.sf09_lines ..).read PpSt.nEcho fun _ => rfl]
    simp

theorem echoFaultClear_clears (p : Pulse) (k : StrIx) (s : State) (hf : (s.pp k.val).echoFault = true)
    (hg : 1000 ≤ (s.pp k.val).echoGood) :
    ∃ t, exec (.echoFaultClear p k) s = .next t ∧ (t.pp k.val).echoFault = false ∧ (t.pp k.val).echoBad = 0 :=
  next_pos rfl ⟨hf, hg⟩ ⟨_, rfl, by simp, by simp⟩

theorem ppImplausible_marks (p : Pulse) (k : StrIx) (s : State) (hl : (s.pp k.val).phase.looping = true)
    (hr : 8 ≤ (s.pp k.val).loop.run) (hm : (s.pp k.val).loop.implausible = false) :
    ∃ t, exec (.ppImplausible p k) s = .next t ∧ (t.pp k.val).loop.implausible = true ∧
      ((s.str k.val).state ∈ [SState.connecting, .closed, .held] → has (t.pst k.val).tripStage 9 = true) := by
  refine next_pos rfl ⟨hl, hr, by simp [hm]⟩ ⟨_, rfl, ?_, fun hs => State.sf10_trips (by simpa using hs) _⟩
  rw [(State.sf10_lines ..).read (fun q => q.loop.implausible) fun _ => rfl]
  simp

/-- Settles O19: the runs are those of the two readings of a word, the thresholds those of the two rows. -/
theorem statusStreamValidity : Obligations.StatusStreamValidity := by
  refine ⟨?_, ?_, ?_, ?_, ?_⟩
  · intro k l s h
    obtain ⟨t, ht, -, hb, hg, -⟩ := statusWord_unread k l s h
    exact ⟨t, ht, hb, hg⟩
  · intro k l x s h hd
    obtain ⟨t, ht, -, hb, hg⟩ := statusWord_read k l x s h
    have hd' := Nat.not_le.mpr hd
    exact ⟨t, ht, hb.trans (if_neg hd'), hg.trans (if_neg (by simp [hd']))⟩
  · intro k l x s h hd
    obtain ⟨t, ht, -, hb, hg⟩ := statusWord_read k l x s h
    exact ⟨t, ht, hb.trans (if_pos hd), fun hv => hg.trans (if_pos (by simp [hv, hd]))⟩
  · intro p k s hv
    rcases Nat.lt_or_ge (s.pp k.val).badRun 4 with hb | hb
    · refine ⟨_, statusStreamInvalid_waits p k s hb, ?_⟩
      simp [hv, hb]
    · obtain ⟨t, ht, hi, -⟩ := statusStreamInvalid_sets p k s hb hv
      exact ⟨t, ht, iff_of_true hi hb⟩
  · intro p k s hv
    rcases Nat.lt_or_ge (s.pp k.val).goodRun 1000 with hg | hg
    · refine ⟨_, statusStreamValid_waits p k s hg, ?_⟩
      simp [hv, hg]
    · obtain ⟨t, ht, hi⟩ := statusStreamValid_clears p k s hv hg
      exact ⟨t, ht, iff_of_true hi hg⟩

end Sys2Proof.Machine
end

section
namespace Sys2Proof.Machine

/-! ### The command word (R267, R269) -/

/-- The end of an interval (R268, R306, R350) adds its mean to a port, and leaves its line part and the stages. -/
theorem State.takeInterval_lines (s : State) (k : Nat) : LinesKept s (s.takeInterval k) := by
  unfold State.takeInterval
  extract_lets q l closed quiet est u
  have h : LinesKept s u := .modPp _ fun _ => rfl
  exact h.trans (.of_power rfl)

theorem State.intervalEnd_lines (s : State) (k : Nat) : LinesKept s (((s.takeInterval k).powerAbsence k).keepHeld k) :=
  ((State.takeInterval_lines s k).trans (.of_power ((State.powerAbsence_frame ..).power_eq (by decide)))).trans
    (.of_power ((State.keepHeld_frame ..).power_eq (by decide)))

/-- Without power a port sends an idle word: the ports stand, and the stage takes one pulse of it. -/
theorem commandWord_unpowered (k : StrIx) (i v b : BitVec 20) (w : LineWord) (c : Int) (s : State)
    (h : s.psv.powered = false) :
    ∃ t, exec (.commandWord k i v b w c) s = .next t ∧ t.power.port = s.power.port ∧
      ∃ pick, tget t.power.stage k.val = (match s.sys.slot with
        | .a => (tget s.power.stage k.val).pulse idleLine w c pick
        | .b => (tget s.power.stage k.val).pulse w idleLine c pick) := by
  have hw : (s.atP (s.pp k.val).pulse).wordWork k.val = s.atP (s.pp k.val).pulse :=
    if_neg fun g => Bool.false_ne_true (h.symm.trans g.1)
  show ∃ t, execCommandWord k i v b w c s = .next t ∧ _
  simp only [execCommandWord, hw]
  rw [if_pos (by simp [h])]
  refine ⟨_, rfl, rfl, Config.freeBool s.free, ?_⟩
  dsimp only [State.atP_power]
  exact tget_tmod_self ..

/-- What holds of every next state of a kind holds of a next state of that kind. -/
theorem next_mono {Q R : State → Prop} {o : Host.Outcome State Fault Refusal} (h : ∃ t, o = .next t ∧ R t)
    (hq : ∀ t, R t → Q t) : ∃ t, o = .next t ∧ Q t :=
  let ⟨t, ht, hr⟩ := h
  ⟨t, ht, hq t hr⟩

/-- With power it sends its word and takes the sample, and the stage takes one pulse of that word. -/
theorem commandWord_powered (k : StrIx) (i v b : BitVec 20) (w : LineWord) (c : Int) (s u : State)
    (hu : u = (s.atP (s.pp k.val).pulse).wordWork k.val) (h : u.psv.powered = true) :
    ∃ t, exec (.commandWord k i v b w c) s = .next t ∧ (t.pp k.val).word = u.wordOf k.val ∧
      (t.pp k.val).pulse = ((s.pp k.val).pulse + 1) % 1000 ∧ (t.pp k.val).pseq = ((u.pp k.val).pseq + 1) % 256 ∧
      (t.pp k.val).icur.sample =
        ((u.pp k.val).icur.take i (u.portCfg k.val).icurFs (u.portCfg k.val).icurOfs).sample ∧
      ∃ pick, tget t.power.stage k.val = (match u.sys.slot with
        | .a => (tget u.power.stage k.val).pulse (u.wordOf k.val).line w c pick
        | .b => (tget u.power.stage k.val).pulse w (u.wordOf k.val).line c pick) := by
  show ∃ t, execCommandWord k i v b w c s = .next t ∧ _
  unfold execCommandWord
  extract_lets j p s0 q cf pick toStage wd ic vs vb out at12 mark q1 q2 s1 s2 m3 s3 s4 s5
  obtain rfl : u = s0 := hu
  rw [if_neg (by simp [h])]
  have l2 : LinesKept s1 s2 := .ite (State.intervalEnd_lines ..) (.refl _)
  have l4 : LinesKept (toStage s3 wd.line) s4 := .of_power ((State.inhWatch_frame ..).power_eq (by decide))
  have l5 : LinesKept (toStage s3 wd.line) s5 := l4.trans (.ite (State.handoverTake_lines ..) (.refl _))
  refine next_mono (R := LinesKept s5) ?_ fun t l6 => ?_
  · split
    · exact ⟨_, rfl, .ite (State.lossOpenLow_lines _) (.refl _)⟩
    · exact ⟨_, rfl, .refl _⟩
  have l : LinesKept (toStage s3 wd.line) t := l5.trans l6
  have hq : (t.pp j).linePart = PpSt.linePart { q2 with gates := (wd.gate :: q2.gates).take 6 } :=
    (l.port j).trans ((l2.port j).trans (congrArg PpSt.linePart ((State.modPp_pp ..).trans (if_pos rfl))))
  have hm : (mark ic).sample = ic.sample := by
    simp only [mark]
    split <;> rfl
  have h2 : (q2.word, q2.pulse, q2.pseq, q2.icur) = (wd, (p + 1) % 1000, (q.pseq + 1) % 256, mark ic) := by
    simp only [q2]
    split <;> rfl
  simp only [Prod.mk.injEq] at h2
  obtain ⟨hword, hpulse, hpseq, hicur⟩ := h2
  refine ⟨(congrArg PpSt.word hq :).trans hword, (congrArg PpSt.pulse hq :).trans hpulse,
    (congrArg PpSt.pseq hq :).trans hpseq,
    (congrArg (fun y : PpSt => y.icur.sample) hq :).trans ((congrArg ChanSt.sample hicur).trans hm), pick, ?_⟩
  rw [l.stage]
  simp only [toStage]
  rw [show s3.power.stage = s0.power.stage from l2.stage]
  exact tget_tmod_self ..

/-- Settles O33: one lemma per row, with the two readings of a status word and the two words of a port. -/
theorem powerPortCommandsComplete : Obligations.PowerPortCommandsComplete := by
  refine ⟨commandWord_powered, commandWord_unpowered, ?_, ?_, bitstreamStuck_marks, bitstreamRecover_clears,
    statusStreamInvalid_sets, statusStreamValid_clears, ppEchoFault_sets, echoFaultClear_clears, ppImplausible_marks⟩
  · intro k l x s h
    obtain ⟨t, ht, hx, hb, -⟩ := statusWord_read k l x s h
    exact ⟨t, ht, hx, hb⟩
  · intro k l s h
    obtain ⟨t, ht, hx, hb, -, hn⟩ := statusWord_unread k l s h
    exact ⟨t, ht, hx, hb, hn⟩

end Sys2Proof.Machine
end

section
namespace Sys2Proof.Machine

/-! ### The end of a connect (R285, R286) -/

@[simp] theorem State.atP_connecting (s : State) (p k : Nat) : (s.atP p).connecting k = s.connecting k := rfl

/-- The port after a string's state is set. -/
@[simp] theorem State.setStr_pp (s : State) (k : Nat) (n : SState) (c : Byte) (sf : Nat) (d : Bool) (j : Nat) :
    (s.setStr k n c sf d).pp j = s.pp j := by
  rw [State.pp, (State.setStr_frame ..).power_eq (by decide)]
  rfl

/-- A connect that ends leaves its string in the state named, and its port with the cause and out of every phase. -/
theorem State.endConnect_ends (s : State) (k c : Nat) (new : SState) (why : Byte) (sf : Nat) :
    ((s.endConnect k c new why sf).str k).state = new ∧ ((s.endConnect k c new why sf).pp k).lastAbort = c ∧
      ((s.endConnect k c new why sf).pp k).phase = .none := by
  unfold State.endConnect
  extract_lets o counted retry spent s1 s2 s3 s4
  have hstr : (s4.str k).state = new := by simp [s4, s3, State.setStr_str]
  have hpp : (s4.pp k).lastAbort = c ∧ (s4.pp k).phase = .none := by
    simp [s4, s3, s2, State.startOpening]
  split
  · exact ⟨hstr, hpp⟩
  · exact ⟨hstr, hpp⟩

theorem State.abortConnect_ends {s : State} {k : Nat} (h : s.connecting k = true) (c : Nat) :
    ((s.abortConnect k c).str k).state = .opened ∧ ((s.abortConnect k c).pp k).lastAbort = c ∧
      ((s.abortConnect k c).pp k).phase = .none := by
  rw [State.abortConnect, if_pos h]
  exact s.endConnect_ends k c .opened 0 0

/-! ### The hand-over (R284) -/

/-- The inhibits of a string are read off the protection state. -/
theorem State.inhibits_congr {s t : State} (h : t.prot = s.prot) (k : Nat) :
    t.inhChg k = s.inhChg k ∧ t.inhDis k = s.inhDis k := by
  simp only [State.inhChg, State.inhDis, State.actions, State.matrix, State.pst, h, and_self]

/-- A closed string that is not latched and not inhibited stays as its own record has it. -/
theorem State.recordOwn_closed {s : State} {k : Nat} (hs : (s.str k).state = .closed) (hl : (s.pst k).latched = 0)
    (hc : s.inhChg k = false) (hd : s.inhDis k = false) : s.recordOwn k = s := by
  simp [State.recordOwn, State.recordProt, hs, hl, hc, hd]

/-- A hand-over taken closes its string, holds the gate on and ends the connect. -/
theorem State.handoverTake_closes {s : State} {k : Nat} (hp : (s.pp k).phase = .window) (ho : (s.pp k).loop.out = true)
    (hk : s.connecting k = true) (hl : (s.pst k).latched = 0) (hc : s.inhChg k = false) (hd : s.inhDis k = false) :
    ((s.handoverTake k).str k).state = .closed ∧ ((s.handoverTake k).str k).retry = 0 ∧
      ((s.handoverTake k).pp k).hold = true ∧ ((s.handoverTake k).pp k).phase = .none := by
  unfold State.handoverTake
  extract_lets q s1 s2
  rw [if_pos ⟨hp, ho, hk⟩]
  generalize hu : ((s2.setStr k .closed 0 0 true).modStr k fun x => { x with retryWas := x.retry, retry := 0 }) = u
  have hprot : u.prot = s.prot := by
    rw [← hu, State.modStr_prot, (State.setStr_frame ..).prot_eq (by decide)]
    exact State.ev_prot ..
  have hstr : (u.str k).state = .closed ∧ (u.str k).retry = 0 := by simp [← hu, State.setStr_str]
  have hpp : (u.pp k).hold = true ∧ (u.pp k).phase = .none := by simp [← hu, s2]
  obtain ⟨ic, id⟩ := State.inhibits_congr hprot k
  rw [State.recordOwn_closed hstr.1 (by rw [State.pst, hprot]; exact hl) (ic.trans hc) (id.trans hd)]
  exact ⟨hstr.1, hstr.2, hpp.1, hpp.2⟩

/-! ### The phases of a connect -/

theorem contactorCloseTimeout_aborts (p : Pulse) (k : StrIx) (s : State) (hk : s.connecting k.val = true)
    (hp : (s.pp k.val).phase = .contactors) (ht : 10000 * s.power.cfg.kClose ≤ (s.pp k.val).phasePulses) :
    ∃ t, exec (.contactorCloseTimeout p k) s = .next t ∧ (t.str k.val).state = .opened ∧
      (t.pp k.val).lastAbort = 3 ∧ (t.pp k.val).phase = .none :=
  next_pos rfl ⟨hp, ht⟩ ⟨_, rfl, State.abortConnect_ends (s := s.atP p.val) hk 3⟩

theorem connTimeExpire_aborts (p : Pulse) (k : StrIx) (s : State) (hk : s.connecting k.val = true)
    (hp : (s.pp k.val).phase = .loop) (ht : 10000 * s.power.cfg.connTime ≤ (s.pp k.val).phasePulses) :
    ∃ t, exec (.connTimeExpire p k) s = .next t ∧ (t.str k.val).state = .opened ∧
      (t.pp k.val).lastAbort = 4 ∧ (t.pp k.val).phase = .none :=
  next_pos rfl ⟨hp, ht⟩ ⟨_, rfl, State.abortConnect_ends (s := s.atP p.val) hk 4⟩

theorem handoverWindowExpire_aborts (p : Pulse) (k : StrIx) (s : State) (hk : s.connecting k.val = true)
    (hp : (s.pp k.val).phase = .window) (ha : 2000 ≤ (s.pp k.val).loop.windowAge) (ho : (s.pp k.val).loop.out = false) :
    ∃ t, exec (.handoverWindowExpire p k) s = .next t ∧ (t.str k.val).state = .opened ∧
      (t.pp k.val).lastAbort = 5 ∧ (t.pp k.val).phase = .none :=
  next_pos rfl ⟨hp, ha⟩ (next_neg rfl (by simp [ho]) ⟨_, rfl, State.abortConnect_ends (s := s.atP p.val) hk 5⟩)

theorem loopPhaseStart_starts (p : Pulse) (k : StrIx) (s : State) (hk : s.connecting k.val = true)
    (hp : (s.pp k.val).phase = .settle) (ht : 20000 ≤ (s.pp k.val).phasePulses) :
    ∃ t, exec (.loopPhaseStart p k) s = .next t ∧ (t.pp k.val).phase = .loop ∧ (t.pp k.val).loop.out = false ∧
      (t.pp k.val).loop.entry = s.now ∧ (t.pp k.val).loop.count = 0 ∧ (t.pp k.val).loop.sp = (s.pp k.val).loop.sp :=
  next_pos rfl ⟨hp, ht, hk⟩ ⟨_, rfl, by simp⟩

theorem handoverWindowOpen_opens (p : Pulse) (k : StrIx) (s : State) (hp : (s.pp k.val).phase = .loop)
    (hc : s.power.cfg.convPulses ≤ (s.pp k.val).loop.conv) (ho : (s.pp k.val).loop.out = false) :
    ∃ t, exec (.handoverWindowOpen p k) s = .next t ∧ (t.pp k.val).phase = .window ∧
      (t.pp k.val).loop.window = true ∧ (t.pp k.val).loop.windowAge = 0 ∧ t.str k.val = s.str k.val := by
  refine next_pos rfl ⟨hp, hc⟩ ⟨_, rfl, ?_⟩
  rw [State.handoverTake, if_neg (by simp [ho])]
  simp

theorem handoverWindowOpen_hands (p : Pulse) (k : StrIx) (s : State) (hk : s.connecting k.val = true)
    (hp : (s.pp k.val).phase = .loop) (hv : s.power.cfg.convPulses ≤ (s.pp k.val).loop.conv)
    (ho : (s.pp k.val).loop.out = true) (hl : (s.pst k.val).latched = 0) (hc : s.inhChg k.val = false)
    (hd : s.inhDis k.val = false) :
    ∃ t, exec (.handoverWindowOpen p k) s = .next t ∧ (t.str k.val).state = .closed ∧ (t.str k.val).retry = 0 ∧
      (t.pp k.val).hold = true ∧ (t.pp k.val).phase = .none :=
  next_pos rfl ⟨hp, hv⟩ ⟨_, rfl, State.handoverTake_closes (by simp) (by simpa using ho) hk hl hc hd⟩

/-! ### The opening, the outputs and the stage (R274, R288, R291) -/

theorem openCurrentLow_opens (p : Pulse) (k : StrIx) (s : State) (ho : (s.pp k.val).opening = true)
    (hr : 100 ≤ (s.pp k.val).lowRun) :
    ∃ t, exec (.openCurrentLow p k) s = .next t ∧ (t.pst k.val).permit = false ∧ (t.pp k.val).kReq = false ∧
      (t.pp k.val).opening = ((s.pp k.val).stat.kposAux || (s.pp k.val).stat.knegAux) :=
  next_pos rfl ⟨ho, hr⟩ ⟨_, rfl, by simp⟩

theorem loopOutputFault_takes (p : Pulse) (o : Fin 16) (f : BitVec 3) (s : State) :
    ∃ t, exec (.loopOutputFault p o f) s = .next t ∧ (tget t.power.out o.val).faults = f ∧
      (f.getLsbD 0 = true → (tget t.power.out o.val).cut = true ∧ (tget t.power.out o.val).on = false) ∧
      (f.getLsbD 0 = false → (tget t.power.out o.val).on = (tget s.power.out o.val).on) ∧
      ∀ q, q ≠ o.val → tget t.power.out q = tget s.power.out q := by
  refine ⟨_, rfl, ?_⟩
  simp only [State.evIf_power, State.atP_power, tget_tput_self]
  exact ⟨trivial, fun h => by simp [h], fun h => by rw [h, Bool.not_false, Bool.and_true],
    fun _ hq => tget_tput_ne _ _ hq⟩

theorem thermalOutputRetry_drives (p : Pulse) (o : Fin 16) (s : State) (h : (tget s.power.out o.val).cut = true) :
    ∃ t, exec (.thermalOutputRetry p o) s = .next t ∧
      tget t.power.out o.val = { tget s.power.out o.val with cut := false, on := s.driven o.val } ∧
      ∀ q, q ≠ o.val → tget t.power.out q = tget s.power.out q :=
  ⟨_, rfl, (tget_tmod_self ..).trans (if_pos h), fun _ hq => tget_tmod_ne _ _ hq⟩

/-- A stage without inputs follows none and switches off; its contactors open where the current is low, and otherwise
opening is ordered. -/
theorem stageLossOfBothInputs_stops (p : Pulse) (k : StrIx) (low : Bool) (s : State) :
    ∃ t, exec (.stageLossOfBothInputs p k low) s = .next t ∧ tget t.power.stage k.val =
      { tget s.power.stage k.val with
        follow := .none, sw := false, lossOpen := !low, kpos := (tget s.power.stage k.val).kpos && !low,
        kneg := (tget s.power.stage k.val).kneg && !low } :=
  ⟨_, rfl, by simp⟩

/-- Settles O34: one lemma per row; the aborts share what the end of a connect does. -/
theorem connectCommandsComplete : Obligations.ConnectCommandsComplete := by
  refine ⟨contactorCloseTimeout_aborts, loopPhaseStart_starts, handoverWindowOpen_opens, handoverWindowOpen_hands,
    handoverWindowExpire_aborts, connTimeExpire_aborts, openCurrentLow_opens, loopOutputFault_takes,
    thermalOutputRetry_drives, ?_, ?_⟩
  · intro p k s
    obtain ⟨t, ht, e⟩ := stageLossOfBothInputs_stops p k true s
    exact ⟨t, ht, by simp [e]⟩
  · intro p k s
    obtain ⟨t, ht, e⟩ := stageLossOfBothInputs_stops p k false s
    exact ⟨t, ht, by simp [e]⟩

end Sys2Proof.Machine
end

section
namespace Sys2Proof.Machine

/-! ### Diagnostics that pass, fail safe or freeze (R323, R327) -/

/-- A diagnostic other than 9 that passes changes its own bit alone. -/
theorem State.diagPass_prot (s : State) {n : Nat} (hn : n ≠ 9) :
    (s.diagPass n).prot = { s.prot with diag := s.prot.diag &&& ~~~((1 : BitVec 17) <<< (n - 1)) } := by
  unfold State.diagPass
  split
  · simp
  · next h =>
    have e : s.prot.diag = s.prot.diag &&& ~~~((1 : BitVec 17) <<< (n - 1)) := by
      ext i hi
      by_cases g : i = n - 1
      · subst g
        simpa [BitVec.getLsbD_eq_getElem, hi] using h
      · by_cases l : i < n - 1 <;> simp [l]
        omega
    rw [← e]

/-- A diagnostic other than 9 that passes is shown as passed, and the mode stands. -/
theorem State.diagPass_passes (s : State) {n : Nat} (hn : n ≠ 9) :
    (s.diagPass n).prot.diag.getLsbD (n - 1) = false ∧ (s.diagPass n).mode = s.mode := by
  refine ⟨?_, (State.diagPass_frame ..).mode_eq (by decide)⟩
  rw [State.diagPass_prot s hn]
  by_cases h : n - 1 < 17 <;> simp [h]

theorem State.diagFail_mode (s : State) (n d : Nat) : (s.diagFail n d).mode = s.mode :=
  (State.diagFail_frame ..).mode_eq (by decide)

/-- A row that runs SF-12 from a state at the same frame, with the same mode and the same Safe latch, fails safe; the
lost clocks and Markhor's count of frames stay. -/
theorem sf12_next {s u : State} {n d : Nat} {i : Bool} {o : Host.Outcome State Fault Refusal}
    (ho : o = ok (u.sf12 n d i)) (hn : u.now = s.now) (hm : u.mode.mode = s.mode.mode)
    (hl : u.jnl.safeLatch = s.jnl.safeLatch) (h1 : 1 ≤ n) (h17 : n ≤ 17) :
    ∃ t, o = .next t ∧ FailedSafe s t n ∧ t.prot.clocks = u.prot.clocks ∧ t.prot.ownCount = u.prot.ownCount := by
  obtain ⟨⟨diag, last, outA, outB, latch, trips, mode⟩, rest⟩ := u.sf12_failedSafe n d i h1 h17
  exact ⟨_, ho, ⟨diag, hn ▸ last, outA, outB, hl ▸ latch, trips, hm ▸ mode⟩, (congrArg ProtSt.clocks rest :),
    (congrArg ProtSt.ownCount rest :)⟩

/-- A row that runs SF-12 fails safe. -/
theorem sf12_fails {s u : State} {n d : Nat} {i : Bool} {o : Host.Outcome State Fault Refusal}
    (ho : o = ok (u.sf12 n d i)) (hn : u.now = s.now) (hm : u.mode.mode = s.mode.mode)
    (hl : u.jnl.safeLatch = s.jnl.safeLatch) (h1 : 1 ≤ n) (h17 : n ≤ 17) : ∃ t, o = .next t ∧ FailedSafe s t n :=
  next_mono (sf12_next ho hn hm hl h1 h17) fun _ h => h.1

/-- A row that freezes from a state at the same frame freezes; the missed tokens and the lost clocks stay. -/
theorem freeze_next {s u : State} {n : Nat} {o : Host.Outcome State Fault Refusal} (ho : o = ok (u.freeze n))
    (hn : u.now = s.now) : ∃ t, o = .next t ∧ Froze s t n ∧ t.prot.tokenMiss = u.prot.tokenMiss ∧
      t.prot.clocks = u.prot.clocks := by
  obtain ⟨⟨frozen, by_, at_, mode, cause⟩, rest⟩ := u.freeze_froze n
  exact ⟨_, ho, ⟨frozen, by_, hn ▸ at_, mode, cause⟩, rest⟩

/-! ### Diagnostic 9 (R324, R548) -/

theorem State.raiseAlarm_protRest (s : State) (k b : Nat) : State.protRest (s.raiseAlarm k b) = State.protRest s := by
  unfold State.raiseAlarm
  split
  · rfl
  · simp [State.protRest]

theorem State.raiseAlarm_lastReadback (s : State) (k b : Nat) :
    (s.raiseAlarm k b).jnl.lastReadback = s.jnl.lastReadback := by
  unfold State.raiseAlarm
  split <;> simp

@[simp] theorem State.ev_pst (s : State) (c : Nat) (pl : Bytes) (j : Nat) : (s.ev c pl).pst j = s.pst j := by
  simp [State.pst]

/-- An alarm raised stands, and so does each that stood. -/
theorem State.raiseAlarm_alarm (s : State) (k : Nat) {b : Nat} (hb : b < 16) (j m : Nat) :
    has ((s.raiseAlarm k b).pst j).alarm m = (has (s.pst j).alarm m || (decide (j = k) && decide (m = b))) := by
  unfold State.raiseAlarm
  split
  · next h =>
    by_cases hj : j = k <;> by_cases hm : m = b <;> simp [hj, hm, h]
  · simp only [State.modPst_pst, State.ev_pst]
    split
    · next hj =>
      rw [has_withBit, hj]
      by_cases hm : m = b <;> simp [hm, hb]
    · next hj => simp [hj]

/-- Each string of a list has the alarm raised for them. -/
theorem raiseAlarms_alarm {b : Nat} (hb : b < 16) (l : List Nat) (s : State) :
    ∀ k ∈ l, has ((l.foldl (fun u k => u.raiseAlarm k b) s).pst k).alarm b = true :=
  foldl_each (P := fun u k => has (u.pst k).alarm b = true) (fun u k => by simp [State.raiseAlarm_alarm u k hb])
    (fun u k j h => by simp [State.raiseAlarm_alarm u k hb, h]) l s

theorem State.strings_congr {s t : State} (h : t.sys = s.sys) : t.strings = s.strings := by
  unfold State.strings State.installed
  rw [h]

theorem State.rewriteSafety_lastReadback (s : State) : s.rewriteSafety.jnl.lastReadback = s.jnl.lastReadback := by
  unfold State.rewriteSafety State.writeSafety
  split <;> rfl

theorem State.diagFail_lastReadback (s : State) (n d : Nat) :
    (s.diagFail n d).jnl.lastReadback = s.jnl.lastReadback := State.ev_jnl_lastReadback ..

/-- The read-back of a safety record is dated. -/
def State.readBack (s : State) : State := { s with jnl.lastReadback := some s.now }

/-- A write of a safety record that fails its verify for the second time in a row, before the alarms. -/
def State.verifyTwice (s : State) (d : Nat) : State :=
  { s.readBack.diagFail 9 d with prot.islandDegraded := true, prot.verifyFail := none }

theorem State.verifyFault_again_eq {s : State} (h : s.prot.verifyFail = some s.jnl.safety.next) (d : Nat) :
    s.verifyFault d = (s.verifyTwice d).strings.foldl (fun u k => u.raiseAlarm k 11) (s.verifyTwice d) :=
  if_pos (decide_eq_true h)

theorem State.verifyTwice_protRest (s : State) (d : Nat) :
    State.protRest (s.verifyTwice d) = { State.protRest s with
      diag := s.prot.diag ||| ((1 : BitVec 17) <<< 8), diagLast := some s.now, islandDegraded := true,
      verifyFail := none } := by
  unfold State.verifyTwice
  rw [State.protRest_eq]
  dsimp only
  rw [State.diagFail_prot]
  rfl

/-- The second failure of a write verify in a row degrades subsystem 2 and raises the alarm of SF-12. -/
theorem State.verifyFault_again {s : State} (h : s.prot.verifyFail = some s.jnl.safety.next) (d : Nat) :
    State.protRest (s.verifyFault d) = { State.protRest s with
      diag := s.prot.diag ||| ((1 : BitVec 17) <<< 8), diagLast := some s.now, islandDegraded := true,
      verifyFail := none } ∧
    (s.verifyFault d).jnl.lastReadback = some s.now ∧
    ∀ k ∈ s.strings, has ((s.verifyFault d).pst k).alarm 11 = true := by
  have e : (s.verifyTwice d).strings = s.strings := 
    State.strings_congr ((State.diagFail_frame s.readBack 9 d).sys_eq (by decide))
  rw [State.verifyFault_again_eq h, e]
  refine ⟨?_, ?_, raiseAlarms_alarm (by decide) _ _⟩
  · rw [foldl_view (v := State.protRest) (fun u k => State.raiseAlarm_protRest u k 11)]
    exact State.verifyTwice_protRest s d
  · rw [foldl_view (v := fun u : State => u.jnl.lastReadback) (fun u k => State.raiseAlarm_lastReadback u k 11)]
    exact State.diagFail_lastReadback ..

/-- The record written again after its verify failed for the first time. -/
def State.verifyOnce (s : State) (d : Nat) : State :=
  s.readBack.rewriteSafety.diagFail 9 d

theorem State.verifyFault_first_eq {s : State} (h : s.prot.verifyFail ≠ some s.jnl.safety.next) (d : Nat) :
    s.verifyFault d = { s.verifyOnce d with prot.verifyFail := some (s.verifyOnce d).jnl.safety.next } :=
  if_neg (by simpa using h)

theorem State.verifyOnce_prot (s : State) (d : Nat) :
    (s.verifyOnce d).prot =
      { s.prot with diag := s.prot.diag ||| ((1 : BitVec 17) <<< 8), diagLast := some s.now } := by
  have hp : s.readBack.rewriteSafety.prot = s.prot := (State.rewriteSafety_frame ..).prot_eq (by decide)
  have hn : s.readBack.rewriteSafety.now = s.now := (State.rewriteSafety_frame ..).frame_eq (by decide)
  rw [State.verifyOnce, State.diagFail_prot, hp, hn]

/-- Any other failure of it has the record written again, as the one that a further failure must name. -/
theorem State.verifyFault_first {s : State} (h : s.prot.verifyFail ≠ some s.jnl.safety.next) (d : Nat) :
    (s.verifyFault d).prot = { s.prot with
      diag := s.prot.diag ||| ((1 : BitVec 17) <<< 8), diagLast := some s.now,
      verifyFail := some (s.verifyFault d).jnl.safety.next } ∧
    (s.verifyFault d).jnl.lastReadback = some s.now := by
  rw [State.verifyFault_first_eq h]
  refine ⟨?_, (State.diagFail_lastReadback ..).trans (State.rewriteSafety_lastReadback _)⟩
  dsimp only
  rw [State.verifyOnce_prot]

/-- Diagnostic 9 that fails is shown and dated, its record is written again once, and the mode stands. -/
theorem sf12Fault_verifies (p : Pulse) (w : Word) (s : State) :
    ∃ t, exec (.sf12Fault p 8 w) s = .next t ∧ t.prot.diag.getLsbD 8 = true ∧ t.prot.diagLast = some s.now ∧
      t.jnl.lastReadback = some s.now ∧ t.mode = s.mode ∧
      (s.prot.verifyFail = some s.jnl.safety.next → t.prot.islandDegraded = true ∧ t.prot.verifyFail = none ∧
        ∀ k ∈ s.strings, has (t.pst k).alarm 11 = true) ∧
      (s.prot.verifyFail ≠ some s.jnl.safety.next → t.prot.verifyFail = some t.jnl.safety.next) := by
  refine ⟨(s.atP p.val).verifyFault w.toNat, rfl, ?_⟩
  have hm : ((s.atP p.val).verifyFault w.toNat).mode = s.mode := (State.verifyFault_frame ..).mode_eq (by decide)
  have bit := diagnostic_bit s.prot.diag 9 (by decide) (by decide)
  by_cases h : s.prot.verifyFail = some s.jnl.safety.next
  · obtain ⟨e, hr, ha⟩ := State.verifyFault_again (s := s.atP p.val) h w.toNat
    exact ⟨(congrArg (fun x : ProtSt => x.diag.getLsbD 8) e :).trans bit, (congrArg ProtSt.diagLast e :), hr, hm,
      fun _ => ⟨(congrArg ProtSt.islandDegraded e :), (congrArg ProtSt.verifyFail e :), ha⟩, fun g => absurd h g⟩
  · obtain ⟨e, hr⟩ := State.verifyFault_first (s := s.atP p.val) h w.toNat
    exact ⟨(congrArg (fun x : ProtSt => x.diag.getLsbD 8) e :).trans bit, (congrArg ProtSt.diagLast e :), hr, hm,
      fun g => absurd g h, fun _ => (congrArg ProtSt.verifyFail e :)⟩

/-! ### The rows of the other diagnostics (R323, R325, R327) -/

theorem sf12Fault_fails (p : Pulse) (d : Fin 17) (w : Word) (s : State) (h : sf12Diag (d.val + 1) = true) :
    ∃ t, exec (.sf12Fault p d w) s = .next t ∧ FailedSafe s t (d.val + 1) :=
  next_pos rfl h (sf12_fails rfl rfl rfl rfl (by omega) (by omega))

/-- The bit of a domain is within the mask of the lost clocks. -/
theorem clockMask_sets (m : BitVec 15) (d : ClockDomain) :
    (m ||| ((1 : BitVec 15) <<< d.code)).getLsbD d.code = true := by
  have h : d.code < 15 := by cases d <;> decide
  simp [h]

/-- The clock of a domain is marked as lost. -/
def State.clockLost (s : State) (p : Pulse) (d : ClockDomain) : State :=
  { s.atP p.val with prot.clocks := s.prot.clocks ||| ((1 : BitVec 15) <<< d.code) }

/-- A lost clock whose reaction is SF-12 is marked. -/
theorem clockMonitorFault_fails (p : Pulse) (d : ClockDomain) (s : State)
    (hd : d ∈ [ClockDomain.markhor, .time, .pwr]) :
    ∃ t, exec (.clockMonitorFault p d) s = .next t ∧ t.prot.clocks.getLsbD d.code = true ∧ FailedSafe s t 3 := by
  have h : ∃ (u : State) (i : Bool), exec (.clockMonitorFault p d) s = ok (u.sf12 3 d.code i) ∧
      u.prot = (s.clockLost p d).prot ∧ u.now = s.now ∧ u.mode.mode = s.mode.mode ∧
      u.jnl.safeLatch = s.jnl.safeLatch := by
    simp only [List.mem_cons, List.not_mem_nil, or_false] at hd
    rcases hd with rfl | rfl | rfl
    · exact ⟨s.clockLost p .markhor, true, rfl, rfl, rfl, rfl, rfl⟩
    · exact ⟨{ s.clockLost p .time with time.oscFault := true }, false, rfl, rfl, rfl, rfl, rfl⟩
    · exact ⟨s.clockLost p .pwr, false, rfl, rfl, rfl, rfl, rfl⟩
  obtain ⟨u, i, ho, hu, hn, hm, hl⟩ := h
  obtain ⟨t, ht, hf, hc, -⟩ := sf12_next ho hn hm hl (by decide) (by decide)
  exact ⟨t, ht, by rw [hc, hu]; exact clockMask_sets .., hf⟩

/-- A lost clock whose reaction is a freeze is marked. -/
theorem clockMonitorFault_freezes (p : Pulse) (d : ClockDomain) (s : State)
    (hd : d ∈ [ClockDomain.core, .eland, .fabric, .dram]) :
    ∃ t, exec (.clockMonitorFault p d) s = .next t ∧ t.prot.clocks.getLsbD d.code = true ∧ Froze s t 3 := by
  have ho : exec (.clockMonitorFault p d) s = ok ((s.clockLost p d).freeze 3) := by
    simp only [List.mem_cons, List.not_mem_nil, or_false] at hd
    rcases hd with rfl | rfl | rfl | rfl <;> rfl
  obtain ⟨t, ht, hf, -, hc⟩ := freeze_next (s := s) ho rfl
  exact ⟨t, ht, by rw [hc]; exact clockMask_sets .., hf⟩

/-- Any other lost clock is marked, and its diagnostic is shown. -/
theorem clockMonitorFault_shows (p : Pulse) (d : ClockDomain) (s : State)
    (hd : d ∉ [ClockDomain.markhor, .time, .pwr, .core, .eland, .fabric, .dram]) :
    ∃ t, exec (.clockMonitorFault p d) s = .next t ∧ t.prot.clocks.getLsbD d.code = true ∧
      t.prot.diag.getLsbD 2 = true ∧ t.mode = s.mode := by
  have ho : exec (.clockMonitorFault p d) s = ok ((s.clockLost p d).diagFail 3 d.code) := by
    cases d with
    | markhor | time | pwr | core | eland | fabric | dram => exact absurd (by decide) hd
    | _ => rfl
  refine ⟨_, ho, ?_, ?_, State.diagFail_mode ..⟩
  · rw [State.diagFail_prot]
    exact clockMask_sets ..
  · rw [State.diagFail_prot]
    exact diagnostic_bit _ 3 (by decide) (by decide)

theorem clock_fails_not_freezes (d : ClockDomain) (hd : d ∈ [ClockDomain.markhor, .time, .pwr]) :
    d ∉ [ClockDomain.core, .eland, .fabric, .dram] := by
  revert hd
  cases d <;> decide

/-- The domain of a lost clock decides between SF-12, a freeze and a diagnostic that is only shown. -/
theorem clockMonitorFault_reacts (p : Pulse) (d : ClockDomain) (s : State) :
    ∃ t, exec (.clockMonitorFault p d) s = .next t ∧ t.prot.clocks.getLsbD d.code = true ∧
      (d ∈ [ClockDomain.markhor, .time, .pwr] → FailedSafe s t 3) ∧
      (d ∈ [ClockDomain.core, .eland, .fabric, .dram] → Froze s t 3) ∧
      (d ∉ [ClockDomain.markhor, .time, .pwr, .core, .eland, .fabric, .dram] →
        t.prot.diag.getLsbD 2 = true ∧ t.mode = s.mode) := by
  by_cases hs : d ∈ [ClockDomain.markhor, .time, .pwr]
  · obtain ⟨t, ht, hc, hf⟩ := clockMonitorFault_fails p d s hs
    exact ⟨t, ht, hc, fun _ => hf, fun h => absurd h (clock_fails_not_freezes d hs),
      fun h => absurd (List.mem_append_left _ hs) h⟩
  by_cases hz : d ∈ [ClockDomain.core, .eland, .fabric, .dram]
  · obtain ⟨t, ht, hc, hf⟩ := clockMonitorFault_freezes p d s hz
    exact ⟨t, ht, hc, fun h => absurd h hs, fun _ => hf,
      fun h => absurd (List.mem_append_right [ClockDomain.markhor, .time, .pwr] hz) h⟩
  · obtain ⟨t, ht, hc, hd⟩ := clockMonitorFault_shows p d s fun h =>
      (List.mem_append (s := [ClockDomain.markhor, .time, .pwr]).mp h).elim hs hz
    exact ⟨t, ht, hc, fun h => absurd h hs, fun h => absurd h hz, fun _ => hd⟩

theorem frameStrobeFault_missing (p : Pulse) (s : State) :
    ∃ t, exec (.frameStrobeFault p none) s = .next t ∧ t.prot.ownCount = true ∧ FailedSafe s t 10 := by
  obtain ⟨t, ht, hf, -, ho⟩ := sf12_next (s := s) (o := exec (.frameStrobeFault p none) s)
    (u := { s.atP p.val with prot.strobeBad := 3, prot.ownCount := true }) (d := 0) (i := true) (n := 10) rfl rfl rfl rfl
    (by decide) (by decide)
  exact ⟨t, ht, ho, hf⟩

theorem frameStrobeFault_inTolerance (p : Pulse) (n : Nat) (s : State) (hl : 999500 ≤ n) (hh : n ≤ 1000500) :
    ∃ t, exec (.frameStrobeFault p (some n)) s = .next t ∧ t.prot.strobeBad = 0 ∧ t.mode = s.mode := by
  have h : ((n : Int) - 1000000).natAbs ≤ 500 := by omega
  show ∃ t, execFrameStrobeFault p (some n) s = .next t ∧ _
  simp only [execFrameStrobeFault, if_pos h]
  exact ⟨_, rfl, rfl, rfl⟩

/-- Both contacts read back as they are driven: the counts begin again and diagnostic 8 passes. -/
theorem safeOutReadback_agrees (p : Pulse) (s : State) :
    ∃ t, exec (.safeOutReadback p s.prot.safeA s.prot.safeB) s = .next t ∧ t.prot.readbackA = 0 ∧
      t.prot.readbackB = 0 ∧ t.prot.diag.getLsbD 7 = false ∧ t.mode = s.mode := by
  refine ⟨State.diagPass { s.atP p.val with prot.readbackA := 0, prot.readbackB := 0 } 8, ?_, ?_, ?_,
    State.diagPass_passes _ (by decide)⟩
  · show execSafeOutReadback p s.prot.safeA s.prot.safeB s = _
    simp [execSafeOutReadback, Machine.ok]
  · rw [State.diagPass_prot _ (by decide)]
  · rw [State.diagPass_prot _ (by decide)]

/-- The third mismatch in a row is SF-12. -/
theorem safeOutReadback_fails (p : Pulse) (s : State) (h : s.prot.readbackA = 2) :
    ∃ t, exec (.safeOutReadback p (!s.prot.safeA) s.prot.safeB) s = .next t ∧ FailedSafe s t 8 :=
  next_pos rfl (by simp [h]) (sf12_fails rfl rfl rfl rfl (by decide) (by decide))

/-- A test with a verdict: its failure is SF-12 under its diagnostic, which passes otherwise. -/
theorem tested_next {s u : State} {v : Verdict} {n d : Nat} {i : Bool} {o : Host.Outcome State Fault Refusal}
    (ho : o = ok (if v = .fail then u.sf12 n d i else u.diagPass n)) (hn : u.now = s.now) (hm : u.mode = s.mode)
    (hl : u.jnl.safeLatch = s.jnl.safeLatch) (h1 : 1 ≤ n) (h17 : n ≤ 17) (h9 : n ≠ 9) :
    ∃ t, o = .next t ∧ (v = .fail → FailedSafe s t n) ∧
      (v ≠ .fail → t.prot.diag.getLsbD (n - 1) = false ∧ t.mode = s.mode) := by
  by_cases h : v = .fail
  · rw [if_pos h] at ho
    obtain ⟨t, ht, hf⟩ := sf12_fails ho hn (congrArg ModeSt.mode hm) hl h1 h17
    exact ⟨t, ht, fun _ => hf, fun g => absurd h g⟩
  · rw [if_neg h] at ho
    obtain ⟨hp, he⟩ := u.diagPass_passes h9
    exact ⟨_, ho, fun g => absurd g h, fun _ => ⟨hp, he.trans hm⟩⟩

theorem limitCheckerSelftest_tests (p : Pulse) (v : Verdict) (s : State) :
    ∃ t, exec (.limitCheckerSelftest p v) s = .next t ∧ (v = .fail → FailedSafe s t 11) ∧
      (v ≠ .fail → t.prot.diag.getLsbD 10 = false ∧ t.mode = s.mode) :=
  tested_next (u := s.atP p.val) rfl rfl rfl rfl (by decide) (by decide) (by decide)

theorem imageCrcCheck_tests (p : Pulse) (v : Verdict) (s : State) :
    ∃ t, exec (.imageCrcCheck p v) s = .next t ∧ (v = .fail → FailedSafe s t 13) ∧
      (v ≠ .fail → t.prot.diag.getLsbD 12 = false ∧ t.mode = s.mode) :=
  tested_next (u := s.atP p.val) rfl rfl rfl rfl (by decide) (by decide) (by decide)

theorem frameTokenMissing_counts (p : Pulse) (s : State) (h : s.prot.tokenMiss + 1 < 10) :
    ∃ t, exec (.frameTokenMissing p) s = .next t ∧ t.prot = { s.prot with tokenMiss := s.prot.tokenMiss + 1 } ∧
      t.mode = s.mode :=
  next_neg rfl (Nat.not_le.mpr h) ⟨_, rfl, rfl, rfl⟩

theorem frameTokenMissing_freezes (p : Pulse) (s : State) (h : 9 ≤ s.prot.tokenMiss) :
    ∃ t, exec (.frameTokenMissing p) s = .next t ∧ Froze s t 12 ∧ t.prot.tokenMiss = 0 :=
  next_pos rfl (Nat.succ_le_succ h) (next_mono (freeze_next (s := s) rfl rfl) fun _ ⟨hf, hm, _⟩ => ⟨hf, hm⟩)

theorem freezeTrigger_freezes (p : Pulse) (d : Fin 17) (s : State) (hf : s.mode.mode ≠ .fill)
    (hd : d.val + 1 ∈ [2, 3, 12]) : ∃ t, exec (.freezeTrigger p d) s = .next t ∧ Froze s t (d.val + 1) :=
  next_neg rfl (not_or.mpr ⟨hf, fun h => h hd⟩) (next_mono (freeze_next (s := s) rfl rfl) fun _ h => h.1)

theorem freezeMaxExpiry_fails (p : Pulse) (s : State) (hf : s.prot.frozen = true)
    (ht : s.prot.freezeAt + 1000 * s.prot.cfg.freezeMax ≤ s.now) :
    ∃ t, exec (.freezeMaxExpiry p) s = .next t ∧ FailedSafe s t 17 :=
  next_pos rfl ⟨hf, ht⟩ (sf12_fails rfl (by simp [State.now]) (by simp) (by simp) (by decide) (by decide))

/-- Settles O36: one lemma per row; the reactions share what SF-12, a freeze and a passed diagnostic do. -/
theorem diagnosticCommandsComplete : Obligations.DiagnosticCommandsComplete :=
  ⟨sf12Fault_fails, sf12Fault_verifies, clockMonitorFault_reacts, frameStrobeFault_missing,
    frameStrobeFault_inTolerance, safeOutReadback_agrees, safeOutReadback_fails, limitCheckerSelftest_tests,
    frameTokenMissing_counts, frameTokenMissing_freezes, imageCrcCheck_tests, freezeTrigger_freezes,
    freezeMaxExpiry_fails⟩

end Sys2Proof.Machine
end

section
namespace Sys2Proof.Machine

/-! ### The times of an absence (R306) -/

/-- What Markhor holds of a string beside the times at which conditions went absent. -/
def ProtStr.timeless (x : ProtStr) : ProtStr := { x with absentFrom := [] }

/-- In the protection only times at which conditions went absent have changed. -/
structure OnlyAbsences (s t : State) : Prop where
  str : ∀ j, (t.pst j).timeless = (s.pst j).timeless
  rest : State.protRest t = State.protRest s

theorem OnlyAbsences.refl (s : State) : OnlyAbsences s s := ⟨fun _ => rfl, rfl⟩

theorem OnlyAbsences.trans {s u t : State} (h : OnlyAbsences s u) (g : OnlyAbsences u t) : OnlyAbsences s t :=
  ⟨fun j => (g.str j).trans (h.str j), g.rest.trans h.rest⟩

theorem OnlyAbsences.foldl {α : Type} {f : State → α → State} (h : ∀ u a, OnlyAbsences u (f u a)) (l : List α)
    (s : State) : OnlyAbsences s (l.foldl f s) := by
  induction l generalizing s with
  | nil => exact .refl _
  | cons a l ih => exact (h s a).trans (ih _)

/-- What does not tell those times reads as before. -/
theorem OnlyAbsences.read {α : Type} {s t : State} (h : OnlyAbsences s t) (g : ProtStr → α)
    (hg : ∀ x : ProtStr, g x.timeless = g x) (j : Nat) : g (t.pst j) = g (s.pst j) := by rw [← hg, h.str, hg]

theorem State.setAbsent_only (s : State) (k key : Nat) (a : Bool) : OnlyAbsences s (s.setAbsent k key a) := by
  refine ⟨fun j => ?_, rfl⟩
  rw [State.setAbsent, State.modPst_pst]
  split
  · next h => rw [h]; rfl
  · rfl

theorem State.ilkAbsence_only (s : State) : OnlyAbsences s s.ilkAbsence :=
  .foldl (fun u k => (State.setAbsent_only u k 24 _).trans (State.setAbsent_only _ k 27 _)) _ s

/-! ### Stages that start, stay and end (R305, R306) -/

theorem Settled.warn {s t : State} (h : Settled s t) (j : Nat) : (t.pst j).warn = (s.pst j).warn :=
  congrArg Prod.fst (h.stages j)

theorem Settled.tripStage {s t : State} (h : Settled s t) (j : Nat) : (t.pst j).tripStage = (s.pst j).tripStage :=
  congrArg (fun x : Mask × Mask × Mask × Tab Nat => x.2.2.1) (h.stages j)

theorem State.clearAlarm_settled (s : State) (k b : Nat) (c : Bool) : Settled s (s.clearAlarm k b c) := by
  unfold State.clearAlarm
  split
  · exact .trans (.of_prot (State.ev_prot ..)) (.modPst _ _ (fun _ => rfl) (fun _ => ⟨fun _ h => h, id, id⟩))
  · exact .refl _

/-- A warning that ends stands no longer. -/
theorem State.warnEnd_warn (s : State) (k n : Nat) : has ((s.warnEnd k n).pst k).warn (n - 1) = false := by
  unfold State.warnEnd
  split
  · extract_lets s1 s2
    have h1 : has (s1.pst k).warn (n - 1) = false := by simp [s1, has_withoutBit]
    have h2 : Settled s1 s2 := .of_prot (State.ev_prot ..)
    rw [((h2.trans (State.clearAlarm_settled ..)).trans (State.recordOwn_settled ..)).warn k]
    exact h1
  · next h => exact Bool.eq_false_iff.mpr h

/-- A trip stage that ends stands no longer, and the warnings are as they were. -/
theorem State.tripEnd_ends (s : State) (k n : Nat) :
    has ((s.tripEnd k n).pst k).tripStage (n - 1) = false ∧ ((s.tripEnd k n).pst k).warn = (s.pst k).warn := by
  unfold State.tripEnd
  split
  · extract_lets s1
    have h1 : has (s1.pst k).tripStage (n - 1) = false ∧ (s1.pst k).warn = (s.pst k).warn := by
      simp [s1, has_withoutBit]
    have h : Settled s1 ((s1.clearAlarm k (n - 1) (s1.stands k n)).recordOwn k) :=
      (State.clearAlarm_settled ..).trans (State.recordOwn_settled ..)
    rw [h.tripStage k, h.warn k]
    exact h1
  · next h => exact ⟨Bool.eq_false_iff.mpr h, rfl⟩

/-- A trip stage that stands on a string stays through a trip of the string. -/
theorem State.tripStart_keeps {s : State} {k m : Nat} (h : has (s.pst k).tripStage m = true) {n : Nat} (idx : Nat)
    (v : Int) (hn : n ≠ 0) (h16 : n ≤ 16) : has ((s.tripStart k n idx v).pst k).tripStage m = true := by
  by_cases e : m = n - 1
  · rw [e]
    exact State.tripStart_stage s k n idx v hn h16
  · rw [State.tripStart_other s k n idx v hn k m (.inr e)]
    exact h

/-- Trips of one string in turn keep the trip stages that stand and start each of theirs. -/
theorem tripStarts_stage (k idx : Nat) (v : Int) (l : List Nat) (hl : ∀ n ∈ l, n ≠ 0 ∧ n ≤ 16) (s : State) :
    (∀ m, has (s.pst k).tripStage m = true →
      has ((l.foldl (fun u n => u.tripStart k n idx v) s).pst k).tripStage m = true) ∧
    ∀ n ∈ l, has ((l.foldl (fun u n => u.tripStart k n idx v) s).pst k).tripStage (n - 1) = true := by
  induction l generalizing s with
  | nil => exact ⟨fun _ h => h, fun n hn => absurd hn List.not_mem_nil⟩
  | cons a l ih =>
    obtain ⟨ha, ha16⟩ := hl a List.mem_cons_self
    obtain ⟨kept, starts⟩ := ih (fun n hn => hl n (List.mem_cons_of_mem _ hn)) (s.tripStart k a idx v)
    refine ⟨fun m h => kept m (State.tripStart_keeps h idx v ha ha16), fun n hn => ?_⟩
    rcases List.mem_cons.mp hn with rfl | hn
    · exact kept _ (State.tripStart_stage s _ _ idx v ha ha16)
    · exact starts n hn

/-- The functions that hold an inhibit are among the twelve. -/
theorem State.holding_range {s : State} {k b n : Nat} (h : n ∈ s.holding k b) : n ≠ 0 ∧ n ≤ 16 := by
  have hn := ((upFrom_nodup 1 12).2 n).mp (List.mem_filter.mp h).1
  omega

end Sys2Proof.Machine
end

section
namespace Sys2Proof.Machine

/-! ### SF-04, SF-05 and SF-06 (R317, R318, R319) -/

theorem sf04Trip_trips (p : Pulse) (k : StrIx) (s : State)
    (h : (s.pp k.val).coarseHit = true ∨ (s.pp k.val).stat.desat = true) :
    ∃ t, exec (.sf04Trip p k) s = .next t ∧ has (t.pst k.val).tripStage 3 = true ∧
      (has (s.pst k.val).tripStage 3 = false → (s.matrix 4).trip.getLsbD 4 = true →
        (s.matrix 4).trip.getLsbD 5 = false → has (t.pst k.val).latched 3 = true ∧ (t.pst k.val).trip = true) :=
  next_pos rfl (by simpa using h) ⟨_, rfl, State.tripStart_stage _ _ 4 _ _ (by decide) (by decide),
    fun hs h4 h5 => State.tripStart_latches (s.atP p.val) _ 4 _ _ (by decide) hs h4 h5⟩

/-- The accumulator takes the frame; a warning starts at 80 % of `K` and a trip at `K`. -/
theorem sf05Check_decides (k : StrIx) (e : Nat) (s : State) (hl : s.prot.loaded = true)
    (hi : s.installed k.val = true)
    (he : e = (s.pst k.val).i2t + (s.pp k.val).last.sq - (s.portCfg k.val).rating ^ 2 * 1000) :
    ∃ t, exec (.sf05Check k) s = .next t ∧
      (10 * e < 8 * s.i2tK k.val → e < s.i2tK k.val → (t.pst k.val).i2t = e) ∧
      (8 * s.i2tK k.val ≤ 10 * e → has (t.pst k.val).warn 4 = true) ∧
      (s.i2tK k.val ≤ e → has (t.pst k.val).tripStage 4 = true) := by
  show ∃ t, execSf05Check k s = .next t ∧ _
  unfold execSf05Check
  extract_lets j s0 e' s1 kk hot pct s2 s3
  have hi0 : s0.installed j = true := hi
  rw [if_neg (by simp [hi0, s0, hl])]
  obtain rfl : e = e' := he
  refine ⟨_, rfl, ?_⟩
  have o := (State.setAbsent_only s3 j 5 (has (s3.pst j).warn 4 && !hot)).trans
    (State.setAbsent_only _ j 21 (has (s3.pst j).tripStage 4 && decide (e' < kk)))
  rw [o.read ProtStr.i2t fun _ => rfl, o.read ProtStr.warn fun _ => rfl, o.read ProtStr.tripStage fun _ => rfl]
  refine ⟨fun hw ht => ?_, fun hw => ?_, fun ht => ?_⟩
  · have h2 : s2 = s1 := if_neg fun h => Nat.not_le.mpr hw (of_decide_eq_true h)
    have h3 : s3 = s2 := if_neg (Nat.not_le.mpr ht)
    rw [h3, h2, show s1.pst j = _ from State.modPst_pst s0 j _ j, if_pos rfl]
  · have h2 : has (s2.pst j).warn 4 = true := by
      rw [show s2 = s1.warnStart j 5 j pct from if_pos (decide_eq_true hw)]
      exact State.warnStart_stage s1 j 5 j pct (by decide) (by decide)
    simp only [s3]
    split
    · rw [(State.tripStart_warn s2 j 5 j pct (by decide) j).1]
      exact h2
    · exact h2
  · rw [show s3 = s2.tripStart j 5 j pct from if_pos ht]
    exact State.tripStart_stage s2 j 5 j pct (by decide) (by decide)

theorem sf06Warning_warns (q : PortIx) (s : State) (hc : s.sf06Counts (strOfPort q.val) = true)
    (hf : s.fitted q.val = true) (hr : 5 ≤ (tget s.prot.port q.val).missRun) :
    ∃ t, exec (.sf06Warning q) s = .next t ∧ has (t.pst (strOfPort q.val)).warn 5 = true :=
  next_pos rfl ⟨hc, hf, hr⟩ ⟨_, rfl, State.warnStart_stage _ _ 6 _ _ (by decide) (by decide)⟩

theorem sf06Trip_trips (q : PortIx) (s : State) (hc : s.sf06Counts (strOfPort q.val) = true)
    (hf : s.fitted q.val = true) (hr : 100 ≤ (tget s.prot.port q.val).missRun) :
    ∃ t, exec (.sf06Trip q) s = .next t ∧ has (t.pst (strOfPort q.val)).tripStage 5 = true :=
  next_pos rfl ⟨hc, hf, hr⟩ ⟨_, rfl, State.tripStart_stage _ _ 6 _ _ (by decide) (by decide)⟩

theorem sf06Release_ends (k : StrIx) (s : State) (h : s.portsValid k.val = true) :
    ∃ t, exec (.sf06Release k) s = .next t ∧ has (t.pst k.val).warn 5 = false ∧
      has (t.pst k.val).tripStage 5 = false := by
  refine next_pos rfl h ⟨_, rfl, ?_⟩
  obtain ⟨trip, warn⟩ := State.tripEnd_ends ((s.atP 400).warnEnd k.val 6) k.val 6
  exact ⟨warn ▸ State.warnEnd_warn (s.atP 400) k.val 6, trip⟩

/-! ### SF-09, the release of a warning, the inhibits and the model input (R321, R306, R308, R304) -/

theorem sf09AuxTimeout_trips (p : Pulse) (k : StrIx) (f : Nat) (s : State) (hf : (s.pst k.val).auxWrong = some f)
    (ht : f + 200 ≤ s.now) (hb : s.auxBad k.val = true) :
    ∃ t, exec (.sf09AuxTimeout p k) s = .next t ∧ has (t.pst k.val).tripStage 8 = true := by
  show ∃ t, execSf09AuxTimeout p k s = .next t ∧ _
  simp only [execSf09AuxTimeout, State.atP_pst, hf]
  exact next_pos rfl ⟨ht, hb⟩ ⟨_, rfl, State.tripStart_stage _ _ 9 _ _ (by decide) (by decide)⟩

theorem protWarningRelease_ends (p : Pulse) (k : StrIx) (n : Fin 12) (s : State) (h6 : n.val ≠ 5) (h7 : n.val ≠ 6)
    (hr : s.released k.val (n.val + 1) = true) (hp : n.val = 9 → s.sf10Paused = false) :
    ∃ t, exec (.protWarningRelease p k n) s = .next t ∧ has (t.pst k.val).warn n.val = false := by
  show ∃ t, execProtWarningRelease p k n s = .next t ∧ _
  unfold execProtWarningRelease
  extract_lets s0 j m s1
  have h1 : s1 = s0.warnEnd j m := by
    refine if_pos ⟨fun h => h6 (by omega), fun h => h7 (by omega), ?_, hr⟩
    by_cases h10 : m = 10
    · have hs : s0.sf10Paused = false := hp (by omega)
      simp [hs]
    · simp [h10]
  have hw : has (s1.pst j).warn n.val = false := h1 ▸ State.warnEnd_warn s0 j m
  refine ⟨_, rfl, ?_⟩
  split
  · rw [(State.tripEnd_ends s1 j m).2]
    exact hw
  · exact hw

theorem inhibitEnforce_trips (p : Pulse) (k : StrIx) (s : State) (h : s.inhPulses ≤ (s.pst k.val).inhChgRun) :
    ∃ t, exec (.inhibitEnforce p k) s = .next t ∧
      ∀ n ∈ s.holding k.val 2, has (t.pst k.val).tripStage (n - 1) = true := by
  show ∃ t, execInhibitEnforce p k s = .next t ∧ _
  unfold execInhibitEnforce
  extract_lets s0 j i trip c d s1
  refine ⟨_, rfl, fun n hn => ?_⟩
  have h1 : has (s1.pst j).tripStage (n - 1) = true := by
    rw [show s1 = trip s0 2 from if_pos (decide_eq_true h)]
    exact (tripStarts_stage j j i _ (fun m hm => State.holding_range hm) s0).2 n hn
  split
  · exact (tripStarts_stage j j i _ (fun m hm => State.holding_range hm) s1).1 _ h1
  · exact h1

theorem modelInputStale_marks (p : Pulse) (k : StrIx) (s : State) (h : (s.pst k.val).modelFrame + 2000 < s.now) :
    ∃ t, exec (.modelInputStale p k) s = .next t ∧ t.pst k.val = { s.pst k.val with modelStale := true } ∧
      ∀ j, j ≠ k.val → t.pst j = s.pst j :=
  next_pos rfl h ⟨_, rfl, by simp, fun j hj => by simp [hj]⟩

end Sys2Proof.Machine
end

section
namespace Sys2Proof.Machine

/-! ### What the actions of a stage leave of the protection beside the strings -/

theorem State.setStr_protRest (s : State) (k : Nat) (new : SState) (c : Byte) (sf : Nat) (d : Bool) :
    State.protRest (s.setStr k new c sf d) = State.protRest s := by
  rw [State.protRest, (State.setStr_frame ..).prot_eq (by decide), State.protRest]

theorem State.recordProt_protRest (s : State) (k : Nat) (i h : Bool) (sf : Nat) :
    State.protRest (s.recordProt k i h sf) = State.protRest s := by
  have isolates : State.protRest ((s.startOpening k).setStr k .isolated 0x08 sf true) = State.protRest s :=
    State.setStr_protRest ..
  unfold State.recordProt
  split
  · split
    · exact (State.endConnect_protRest ..).1
    · rfl
  · split
    · exact State.setStr_protRest ..
    · rfl
  · split
    · exact isolates
    · split
      · exact State.setStr_protRest ..
      · rfl
  · split
    · exact isolates
    · split
      · rfl
      · exact State.setStr_protRest ..
  · rfl

theorem State.recordOwn_protRest (s : State) (k : Nat) : State.protRest (s.recordOwn k) = State.protRest s := by
  unfold State.recordOwn
  split
  · rfl
  · exact State.recordProt_protRest ..

theorem State.latch_protRest (s : State) (k n : Nat) : State.protRest (s.latch k n) = State.protRest s := by
  unfold State.latch
  extract_lets o s1 first s2
  have h1 : s1.prot = s.prot := State.evIf_prot ..
  have h2 : ((s2.startOpening k).surveyStop k).prot = (s2.startOpening k).prot :=
    (State.surveyStop_frame ..).prot_eq (by decide)
  show { ((s2.startOpening k).surveyStop k).prot with str := [] } = _
  rw [h2]
  show { s1.prot with str := [] } = _
  rw [h1, State.protRest]

theorem State.takeActions_protRest (s : State) (k n : Nat) (a : Byte) :
    State.protRest (s.takeActions k n a) = State.protRest s := by
  unfold State.takeActions
  extract_lets s1 s2 opens s3
  have h1 : State.protRest s1 = State.protRest s := by
    simp only [s1]
    split
    · exact State.raiseAlarm_protRest ..
    · rfl
  have h2 : State.protRest s2 = State.protRest s1 := by
    simp only [s2]
    split <;> rfl
  have h3 : State.protRest s3 = State.protRest s2 :=
    foldl_view (v := State.protRest) (fun u j => State.latch_protRest u j n) _ _
  have h4 := foldl_view (v := State.protRest) (fun u j => State.recordOwn_protRest u j)
    (if opens = [] then [k] else opens) s3
  exact h4.trans (h3.trans (h2.trans h1))

/-! ### The trip of a whole module (R305) -/

theorem State.startCapture_prot (s : State) (k n : Nat) : (s.startCapture k n).prot = s.prot :=
  (State.startCapture_frame ..).prot_eq (by decide)

theorem State.tripModule_protRest (s : State) (n idx : Nat) (v : Int) :
    State.protRest (s.tripModule n idx v) = State.protRest s := by
  unfold State.tripModule
  extract_lets acts s1 live s2
  have h1 : State.protRest s1 = State.protRest s := by simp [s1, State.protRest]
  have h2 : State.protRest s2 = State.protRest s1 :=
    foldl_view (v := State.protRest) (fun u k => by rw [State.protRest, State.startCapture_prot, State.protRest]) _ _
  have h3 := foldl_view (v := State.protRest) (f := fun (u : State) k =>
      (u.modPst k (fun x => { x with tripStage := withBit x.tripStage (n - 1) })).takeActions k n acts)
    (fun u k => State.takeActions_protRest ..) s2.strings s2
  exact h3.trans (h2.trans h1)

/-- The trip stage of a function of the whole module starts on every installed string. -/
theorem State.tripModule_stage (s : State) (n idx : Nat) (v : Int) (hn : n ≠ 0) (h16 : n ≤ 16) :
    ∀ k ∈ s.strings, has ((s.tripModule n idx v).pst k).tripStage (n - 1) = true := by
  unfold State.tripModule
  extract_lets acts s1 live s2
  have hsys : s2.sys = s.sys :=
    (foldl_view (v := State.sys) (fun u k => (State.startCapture_frame u k n).sys_eq (by decide)) _ _).trans
      (State.ev_sys ..)
  rw [← State.strings_congr hsys]
  have round : ∀ (u : State) (k j : Nat),
      (((u.modPst k (fun x => { x with tripStage := withBit x.tripStage (n - 1) })).takeActions k n acts).pst
        j).tripStage = if j = k then withBit (u.pst k).tripStage (n - 1) else (u.pst j).tripStage := fun u k j => by
    rw [(State.takeActions_settled _ k n acts hn).tripStage j, State.modPst_pst]
    split <;> rfl
  refine foldl_each (P := fun u k => has (u.pst k).tripStage (n - 1) = true) (fun u k => ?_) (fun u k j h => ?_) _ s2
  · rw [round, if_pos rfl, has_withBit]
    simp
    omega
  · rw [round]
    split
    · next e => simp [has_withBit, ← e, h]
    · exact h

/-! ### The interlock inputs (R320, R314) -/

/-- What an input holds after its two channels read `l` and `c` at a frame. -/
def IlkSt.reading (x : IlkSt) (l c : Bool) (now : Nat) : IlkSt :=
  let y : IlkSt := { x with loop := l, contact := c }
  if y.bad then { y with from_ := if x.from_.isSome then x.from_ else some now }
  else { y with from_ := none, faulted := false }

theorem IlkSt.reading_channels (x : IlkSt) (l c : Bool) (now : Nat) :
    (x.reading l c now).loop = l ∧ (x.reading l c now).contact = c := by
  unfold IlkSt.reading
  extract_lets y
  split <;> exact ⟨rfl, rfl⟩

/-- Two closed channels are healthy: the input's fault ends. -/
theorem IlkSt.reading_healthy (x : IlkSt) (now : Nat) :
    (x.reading true true now).faulted = false ∧ (x.reading true true now).from_ = none := ⟨rfl, rfl⟩

/-- An open channel is a fault condition from this frame on, where none stood. -/
theorem IlkSt.reading_bad {x : IlkSt} {l c : Bool} (h : l = false ∨ c = false) (hf : x.from_ = none) (now : Nat) :
    (x.reading l c now).from_ = some now := by
  have hb : IlkSt.bad { x with loop := l, contact := c } = true := by
    cases l
    · rfl
    · simpa [IlkSt.bad] using h
  unfold IlkSt.reading
  extract_lets y
  rw [if_pos hb]
  simp [hf]

theorem ilkInputChange_takes (p : Pulse) (i : Fin 4) (l c : Bool) (s : State) :
    ∃ t, exec (.ilkInputChange p i l c) s = .next t ∧
      t.prot.ilk = tmod s.prot.ilk i.val (fun x => x.reading l c s.now) :=
  ⟨_, rfl, (congrArg ProtSt.ilk (State.ilkAbsence_only _).rest :)⟩

/-- A change of an input is taken, and starts or ends its fault condition. -/
theorem ilkInputChange_reads (p : Pulse) (i : Fin 4) (l c : Bool) (s : State) :
    ∃ t, exec (.ilkInputChange p i l c) s = .next t ∧ (tget t.prot.ilk i.val).loop = l ∧
      (tget t.prot.ilk i.val).contact = c ∧
      (l = true → c = true → (tget t.prot.ilk i.val).faulted = false ∧ (tget t.prot.ilk i.val).from_ = none) ∧
      ((l = false ∨ c = false) → (tget s.prot.ilk i.val).from_ = none → (tget t.prot.ilk i.val).from_ = some s.now) ∧
      ∀ j, j ≠ i.val → tget t.prot.ilk j = tget s.prot.ilk j := by
  refine next_mono (ilkInputChange_takes p i l c s) fun t ht => ?_
  rw [ht, tget_tmod_self]
  obtain ⟨hl, hc⟩ := IlkSt.reading_channels (tget s.prot.ilk i.val) l c s.now
  refine ⟨hl, hc, ?_, fun h hf => IlkSt.reading_bad h hf s.now, fun j hj => tget_tmod_ne _ _ hj⟩
  rintro rfl rfl
  exact IlkSt.reading_healthy _ _

/-- An input is marked as faulted. -/
def State.ilkMark (s : State) (i : Nat) : State :=
  { s with prot.ilk := tput s.prot.ilk i { tget s.prot.ilk i with faulted := true } }

theorem State.startOpening_flags (s : State) (k j : Nat) :
    ((s.startOpening k).pst j).trip = (s.pst j).trip ∧
      ((s.startOpening k).pst j).preLoadTrip = (s.pst j).preLoadTrip := by
  unfold State.startOpening
  extract_lets q opens
  rw [State.modPp_pst, State.modPst_pst]
  split
  · next h => rw [h]; exact ⟨rfl, rfl⟩
  · exact ⟨rfl, rfl⟩

/-- Before the end of Load a faulted input asserts `TRIP` on every port. -/
theorem State.ilkTrip_before {s : State} (h : s.prot.loaded = false) (i : Nat) :
    State.protRest (s.ilkTrip i) = State.protRest s ∧
    ∀ k, k < 16 → ((s.ilkTrip i).pst k).trip = true ∧ ((s.ilkTrip i).pst k).preLoadTrip = true := by
  unfold State.ilkTrip
  rw [if_neg (by simp [h])]
  extract_lets s1
  refine ⟨?_, fun k hk => ?_⟩
  · refine Eq.trans (foldl_view (v := State.protRest) (fun u k => ?_) allStr s1) ?_
    · rfl
    · simp [s1, State.protRest]
  · refine foldl_each (P := fun u k => (u.pst k).trip = true ∧ (u.pst k).preLoadTrip = true) (fun u k => ?_)
      (fun u k j hj => ?_) allStr s1 k (((upFrom_nodup 0 16).2 k).mpr (by omega))
    · rw [(State.startOpening_flags ..).1, (State.startOpening_flags ..).2]
      simp
    · rw [(State.startOpening_flags ..).1, (State.startOpening_flags ..).2, State.modPst_pst]
      split
      · exact ⟨rfl, rfl⟩
      · exact hj

/-- After it the trip stage of the input's function starts on every installed string. -/
theorem State.ilkTrip_after {s : State} (h : s.prot.loaded = true) (i : Nat) :
    State.protRest (s.ilkTrip i) = State.protRest s ∧
    ∀ k ∈ s.strings, has ((s.ilkTrip i).pst k).tripStage (if i = 3 then 7 else 10) = true := by
  rw [State.ilkTrip, if_pos h]
  refine ⟨State.tripModule_protRest .., fun k hk => ?_⟩
  have hf : ilkFn i ≠ 0 ∧ ilkFn i ≤ 16 ∧ ilkFn i - 1 = if i = 3 then 7 else 10 := by
    unfold ilkFn
    split <;> decide
  obtain ⟨h0, h16, hm⟩ := hf
  rw [← hm]
  exact State.tripModule_stage s (ilkFn i) i 0 h0 h16 k hk

/-- A fault condition that has lasted the debounce marks its input and trips. -/
theorem ilkFault_trips (p : Pulse) (i : Fin 4) (f : Nat) (s : State) (hf : (tget s.prot.ilk i.val).from_ = some f)
    (hb : (tget s.prot.ilk i.val).bad = true) (hn : (tget s.prot.ilk i.val).faulted = false)
    (ho : s.ilkOn i.val = true) (hd : f + s.ilkDebounce ≤ s.now) :
    ∃ t, exec (.ilkFault p i) s = .next t ∧ (tget t.prot.ilk i.val).faulted = true ∧
      (s.prot.loaded = false → ∀ k, k < 16 → (t.pst k).trip = true ∧ (t.pst k).preLoadTrip = true) ∧
      (s.prot.loaded = true → ∀ k ∈ s.strings, has (t.pst k).tripStage (if i.val = 3 then 7 else 10) = true) := by
  have he : exec (.ilkFault p i) s = .next ((((s.atP p.val).ilkMark i.val).ilkTrip i.val).ilkAbsence) := by
    show execIlkFault p i s = _
    unfold execIlkFault
    extract_lets s0 x
    have hx : x.from_ = some f := hf
    have hc : x.bad = true ∧ (!x.faulted) = true ∧ s0.ilkOn i.val = true ∧ f + s0.ilkDebounce ≤ s0.now :=
      ⟨hb, congrArg (!·) hn, ho, hd⟩
    split
    · next g hg =>
      obtain rfl : f = g := Option.some.inj (hx.symm.trans hg)
      rw [if_pos hc]
      rfl
    · next hg => exact absurd (hx.symm.trans hg) (Option.some_ne_none f)
  have o := State.ilkAbsence_only (((s.atP p.val).ilkMark i.val).ilkTrip i.val)
  have mark : (tget ((s.atP p.val).ilkMark i.val).prot.ilk i.val).faulted = true := by simp [State.ilkMark]
  refine ⟨_, he, ?_⟩
  by_cases hl : s.prot.loaded = true
  · obtain ⟨rest, stages⟩ := State.ilkTrip_after (s := (s.atP p.val).ilkMark i.val) hl i.val
    refine ⟨?_, fun g => absurd (hl.symm.trans g) (by decide), fun _ k hk => ?_⟩
    · exact (congrArg (fun x : ProtSt => (tget x.ilk i.val).faulted) (o.rest.trans rest) :).trans mark
    · rw [o.read ProtStr.tripStage fun _ => rfl]
      exact stages k hk
  · have hl' : s.prot.loaded = false := Bool.eq_false_iff.mpr hl
    obtain ⟨rest, trips⟩ := State.ilkTrip_before (s := (s.atP p.val).ilkMark i.val) hl' i.val
    refine ⟨?_, fun _ k hk => ?_, fun g => absurd g hl⟩
    · exact (congrArg (fun x : ProtSt => (tget x.ilk i.val).faulted) (o.rest.trans rest) :).trans mark
    · rw [o.read ProtStr.trip fun _ => rfl, o.read ProtStr.preLoadTrip fun _ => rfl]
      exact trips k hk

end Sys2Proof.Machine
end

section
namespace Sys2Proof.Machine

/-! ### The acknowledgement of alarms (R312) -/

theorem State.clearAlarm_unack (s : State) (k b : Nat) (c : Bool) (j : Nat) :
    ((s.clearAlarm k b c).pst j).unack = (s.pst j).unack := by
  unfold State.clearAlarm
  split
  · simp only [State.modPst_pst, State.ev_pst]
    split
    · next h => rw [h]
    · rfl
  · rfl

/-- One round of an acknowledgement: the alarm of a bit. -/
def State.ackBit (s : State) (fm : Mask) (k b : Nat) : State :=
  if has fm b && has (s.pst k).unack b then
    let s1 := (s.ev 0x0B03 (le 1 (if b = 15 then 0x80 else b + 1) ++ le 1 k ++ [2])).modPst k
      (fun x => { x with unack := withoutBit x.unack b })
    s1.clearAlarm k b (if b = 15 then s1.herdStands k else s1.stands k (b + 1))
  else s

theorem State.ackString_eq (s : State) (fm : Mask) (k : Nat) :
    s.ackString fm k = (upFrom 0 16).foldl (fun u b => u.ackBit fm k b) s := rfl

/-- A round acknowledges the alarm of its bit, where the mask names it, and no other. -/
theorem State.ackBit_unack (s : State) (fm : Mask) (k b j m : Nat) :
    has ((s.ackBit fm k b).pst j).unack m =
      (has (s.pst j).unack m && !(has fm b && decide (j = k) && decide (m = b))) := by
  unfold State.ackBit
  split
  · next h =>
    simp only [Bool.and_eq_true] at h
    rw [State.clearAlarm_unack]
    simp only [State.modPst_pst, State.ev_pst]
    split
    · next e => simp [has_withoutBit, e, h.1]
    · next e => simp [e]
  · next h =>
    by_cases e : j = k ∧ m = b
    · obtain ⟨rfl, rfl⟩ := e
      cases hf : has fm m <;> simp_all
    · have named : (decide (j = k) && decide (m = b)) = false := by rw [← Bool.decide_and, decide_eq_false e]
      rw [Bool.and_assoc, named, Bool.and_false, Bool.not_false, Bool.and_true]

/-- An acknowledgement leaves no alarm of its string unacknowledged that its mask names. -/
theorem State.ackString_clears (s : State) (fm : Mask) (k b : Nat) (hb : b < 16) (hf : has fm b = true) :
    has ((s.ackString fm k).pst k).unack b = false := by
  rw [State.ackString_eq]
  exact foldl_each (P := fun u b => has fm b = true → has (u.pst k).unack b = false)
    (fun u m hm => by simp [State.ackBit_unack, hm]) (fun u m j h hj => by simp [State.ackBit_unack, h hj])
    _ s b (((upFrom_nodup 0 16).2 b).mpr (by omega)) hf

/-- It makes none unacknowledged. -/
theorem State.ackString_keeps {s : State} {j m : Nat} (h : has (s.pst j).unack m = false) (fm : Mask) (k : Nat) :
    has ((s.ackString fm k).pst j).unack m = false := by
  rw [State.ackString_eq]
  exact List.foldlRecOn (motive := fun u : State => has (u.pst j).unack m = false) _ _ h
    fun u hu b _ => by simp [State.ackBit_unack, hu]

/-- Acknowledging the alarms of a list of strings acknowledges those of each. -/
theorem ackStrings_clear (fm : Mask) (l : List Nat) (s : State) : ∀ k ∈ l, ∀ b, b < 16 → has fm b = true →
    has ((l.foldl (fun u k => u.ackString fm k) s).pst k).unack b = false :=
  foldl_each (P := fun u k => ∀ b, b < 16 → has fm b = true → has (u.pst k).unack b = false)
    (fun u k b hb hf => State.ackString_clears u fm k b hb hf)
    (fun _ k _ h b hb hf => State.ackString_keeps (h b hb hf) fm k) l s

theorem has_ofNat (n : Nat) {b : Nat} (hb : b < 16) : has (BitVec.ofNat 16 n) b = n.testBit b := by
  rw [has, BitVec.getLsbD_ofNat]
  simp [hb]

theorem protAlarmAck_acknowledges (id : Word) (e : LedgerEntry) (s : State) (hd : Due s id 0x0B01 e)
    (hb : e.body.length = 4) :
    ∃ t, exec (.protAlarmAck id) s = .next t ∧ t.cmdStands id .done .ok ∧
      (∀ k b, k < 16 → b < 16 → s.installed k = true → (rdU e.body 2 2).testBit k = true →
        (rdU e.body 0 2).testBit b = true → has (t.pst k).unack b = false) := by
  refine State.evaluate_next rfl hd (by simp [Checks.pass, hb]) fun x w hf he hw hid => ?_
  extract_lets fm sm
  have ledger := Frame.foldl (f := fun u k => State.ackString u fm k) (l := (namedIn sm).filter x.installed)
    (.refl [.prot, .jnl] x) fun u k h => .after (State.ackString_frame u fm k) h rfl
  refine ⟨by rw [hid]; exact State.cmdDone_after he hw (ledger.ledger_eq (by decide)), ?_⟩
  intro k b hk hb16 hi hs hfn
  have hix : x.installed k = true := by
    rw [State.installed, hf.sys_eq (by decide)]
    exact hi
  have hm : k ∈ (namedIn sm).filter x.installed :=
    List.mem_filter.mpr ⟨(mem_namedIn sm k).mpr ((has_ofNat _ hk).trans hs), hix⟩
  rw [State.pst, State.cmdDone_prot]
  exact ackStrings_clear fm _ x k hm b hb16 ((has_ofNat _ hb16).trans hfn)

/-- Settles O35: one lemma per row, over what a stage that starts or ends leaves of the other stages. -/
theorem protectionStageCommandsComplete : Obligations.ProtectionStageCommandsComplete :=
  ⟨sf04Trip_trips, sf05Check_decides, sf06Warning_warns, sf06Trip_trips, sf06Release_ends, sf09AuxTimeout_trips,
    protWarningRelease_ends, inhibitEnforce_trips, modelInputStale_marks, ilkInputChange_reads, ilkFault_trips,
    protAlarmAck_acknowledges⟩

end Sys2Proof.Machine
end

section
namespace Sys2Proof.Machine

/-! ### What sending, copying and mirroring leave in the state -/

/-- A message changes the list of what the module has sent, whether a lane is up or not (R381). -/
theorem State.pairSend_pair_sent (s : State) (m : PairMsg) :
    (s.pairSend m).pair = { s.pair with sent := (s.pairSend m).pair.sent } := by
  unfold State.pairSend
  split <;> rfl

@[simp] theorem State.flagCells_lnk (s : State) (p q : Nat) : (s.flagCells p).lnk q = s.lnk q := rfl

@[simp] theorem State.flagCells_pair (s : State) (p : Nat) : (s.flagCells p).pair = s.pair := rfl

@[simp] theorem State.tableTake_pair (s : State) (p : Nat) (d : UpData) : (s.tableTake p d).pair = s.pair :=
  (State.tableTake_frame ..).pair_eq (by decide)

@[simp] theorem State.uploadDiffers_lnk (s : State) (own peer : UpData) (q : Nat) :
    (s.uploadDiffers own peer).lnk q = s.lnk q :=
  congrArg (tget · q) (s.uploadDiffers_link own peer)

@[simp] theorem State.uploadDiffers_pair (s : State) (own peer : UpData) : (s.uploadDiffers own peer).pair =
    { s.pair with nDivergence := sat32u (s.pair.nDivergence + 1) } := by
  simp only [State.uploadDiffers, State.ev_pair]

/-- A payload put to use on a usable port is the one used there, before pulse 400 or with the flags of pulse 420 formed
anew after it (R384). -/
theorem State.tableTake_uses {s : State} {q : Nat} (hu : (s.lnk q).usable = true) (late : Prop) [Decidable late]
    (d : UpData) :
    let t := if late then (s.tableTake q d).flagCells q else s.tableTake q d
    t.lnk q = { s.lnk q with used := some d } ∧ t.pair = s.pair := by
  have hl : (s.tableTake q d).lnk q = { s.lnk q with used := some d } := by
    rw [State.tableTake_lnk, if_pos ⟨rfl, hu⟩]
  intro t
  by_cases h : late
  · rw [show t = (s.tableTake q d).flagCells q from if_pos h]
    exact ⟨hl, State.tableTake_pair ..⟩
  · rw [show t = s.tableTake q d from if_neg h]
    exact ⟨hl, State.tableTake_pair ..⟩

/-- A mirrored payload is noted on its port, and the port is marked as mirrored in this frame. -/
def State.mirrorNoted (s : State) (q : Nat) (m : UpData) : State :=
  { s with pair.mirrored := s.pair.mirrored ||| ((1 : BitVec 128) <<< q) }.modLnk q (fun x => { x with mirror := some m })

theorem State.mirrorNoted_lnk (s : State) (q : Nat) (m : UpData) :
    (s.mirrorNoted q m).lnk q = { s.lnk q with mirror := some m } :=
  (State.modLnk_lnk ..).trans (if_pos rfl)

/-! ### The copy of the state (R393, R394) -/

theorem copyPageRx_keeps (p : Pulse) (page : Fin 708) (s : State) (hs : s.pair.state = some .joining)
    (hj : s.pair.joining = true) (hp : page.val ∉ s.pair.pagesRx) :
    ∃ t, exec (.copyPageRx p page s.pair.epoch true) s = .next t ∧ t.pair.pagesRx = page.val :: s.pair.pagesRx ∧
      (t.pair.copyDone = true ↔ s.pair.copyDone = true ∨ s.pair.pagesRx.length = 707) := by
  refine next_pos rfl ⟨hs, hj, rfl, rfl⟩ (next_neg rfl hp ?_)
  extract_lets _ s1 n due s2
  have h2 : s2.pair = { s1.pair with sent := s2.pair.sent } := by
    simp only [s2]
    split
    · rfl
    · exact State.pairSend_pair_sent ..
  have hr : s2.pair.pagesRx = page.val :: s.pair.pagesRx := (congrArg PairSt.pagesRx h2 :)
  have hd : s2.pair.copyDone = s.pair.copyDone := (congrArg PairSt.copyDone h2 :)
  have hn : n = copyPages ↔ s.pair.pagesRx.length = 707 := Nat.succ_inj
  by_cases h : n = copyPages
  · refine next_pos rfl h ⟨_, rfl, ?_, iff_of_true rfl (.inr (hn.mp h))⟩
    exact (congrArg PairSt.pagesRx (State.copyEvent_pair s2 2) :).trans hr
  · refine next_neg rfl h ⟨s2, rfl, hr, ?_⟩
    rw [hd, ← hn]
    exact ⟨.inl, fun g => g.resolve_right h⟩

theorem copyPageResend_resends (p : Pulse) (page : Fin 708) (f : Nat) (s : State) (hc : s.pair.copying = true)
    (hl : s.pair.lane0 = true) (hm : (page.val, f) ∈ s.pair.sentPages) (hf : f + 2 ≤ s.now) :
    ∃ t, exec (.copyPageResend p page) s = .next t ∧ t.pair.sent = .copyPage page.val :: s.pair.sent ∧
      (page.val, s.now) ∈ t.pair.sentPages := by
  have hdue : s.pair.sentPages.any (fun e => decide (e.1 = page.val) && decide (e.2 + 2 ≤ s.now)) = true :=
    List.any_eq_true.mpr ⟨_, hm, by simp [hf]⟩
  refine next_pos rfl ⟨hc, hdue⟩ ⟨_, rfl, ?_, List.mem_map.mpr ⟨_, hm, if_pos rfl⟩⟩
  exact congrArg PairSt.sent (State.pairSend_pair (s := s.atP p.val) hl _)

/-- A joiner that is caught up holds the replayed regions and records (R394); its ports change afterwards. -/
theorem replayCaughtUp_takes (c : CopyIn) (s : State) (hs : s.pair.state = some .joining)
    (hd : s.pair.copyDone = true) (hu : s.pair.caughtUp = false) (hr : c.readable = true) :
    ∃ t, exec (.replayCaughtUp c) s = .next t ∧ t.pair.caughtUp = true ∧ t.pair.matched = 0 ∧ t.cells = c.cells ∧
      t.th = c.th ∧ t.herdTab = c.herdTab ∧ t.est.str = c.est ∧ t.mode.enabled = c.enabled ∧ t.mode.str = c.str ∧
      t.grz.tm = s.grz.tm ∧ t.power.therm = c.therm := by
  refine next_pos rfl ⟨hs, hd, by simp [hu]⟩ ?_
  rw [if_pos hr]
  extract_lets s1 s2
  have f : Frame [.power, .prot] s1 s2 :=
    .foldl (.refl _ _) fun _ _ h => .after (State.portTake_frame ..) h rfl
  refine ⟨_, rfl, rfl, rfl, f.cells_eq (by decide), f.th_eq (by decide), f.herdTab_eq (by decide), ?_,
    f.enabled_eq (by decide), ?_, ?_, rfl⟩
  · exact congrArg EstSt.str (f.est_eq (by decide))
  · exact congrArg ModeSt.str (f.mode_eq (by decide))
  · exact (congrArg GrzSt.tm (f.grz_eq (by decide)) :)

/-! ### Mirrored uploads (R384) -/

/-- Without an upload of its own the module uses the mirrored one. -/
theorem pairMirrorRx_alone (p : Pulse) (port : PortIx) (d : UpData) (s : State) (hp : p.val ≤ 410)
    (hf : s.fitted port.val = true) (hm : s.pair.mirrored.getLsbD port.val = false)
    (ho : (s.lnk port.val).own = none) (hu : (s.lnk port.val).usable = true) :
    ∃ t, exec (.pairMirrorRx p port d) s = .next t ∧ (t.lnk port.val).mirror = some d.heeded ∧
      (t.lnk port.val).used = some d.heeded ∧ t.pair.nDivergence = s.pair.nDivergence := by
  have e := (s.atP p.val).mirrorNoted_lnk port.val d.heeded
  obtain ⟨h1, h2⟩ := State.tableTake_uses (q := port.val) (by rw [e]; exact hu) (400 ≤ p.val) d.heeded
  refine next_pos rfl ⟨hp, hf, by rw [State.atP_pair, hm]; rfl⟩ ?_
  rw [State.atP_lnk, ho]
  refine ⟨_, rfl, ?_, ?_, (congrArg PairSt.nDivergence h2 :)⟩
  · exact (congrArg LinkSt.mirror (h1.trans (by rw [e])) :)
  · exact (congrArg LinkSt.used h1 :)

/-- Of two uploads that differ slot A keeps its own, slot B uses the mirrored one, and both count the divergence. -/
theorem pairMirrorRx_differs (p : Pulse) (port : PortIx) (d own : UpData) (s : State) (hp : p.val ≤ 410)
    (hf : s.fitted port.val = true) (hm : s.pair.mirrored.getLsbD port.val = false)
    (ho : (s.lnk port.val).own = some own) (hd : own ≠ d.heeded) (hu : (s.lnk port.val).usable = true) :
    ∃ t, exec (.pairMirrorRx p port d) s = .next t ∧ (t.lnk port.val).mirror = some d.heeded ∧
      (t.lnk port.val).used = (if s.sys.slot = .a then (s.lnk port.val).used else some d.heeded) ∧
      t.pair.nDivergence = sat32u (s.pair.nDivergence + 1) := by
  let u := ((s.atP p.val).mirrorNoted port.val d.heeded).uploadDiffers own d.heeded
  have e : u.lnk port.val = { s.lnk port.val with mirror := some d.heeded } :=
    (State.uploadDiffers_lnk ..).trans (State.mirrorNoted_lnk ..)
  have n : u.pair.nDivergence = sat32u (s.pair.nDivergence + 1) :=
    congrArg PairSt.nDivergence (State.uploadDiffers_pair ..)
  refine next_pos rfl ⟨hp, hf, by rw [State.atP_pair, hm]; rfl⟩ ?_
  rw [State.atP_lnk, ho]
  refine next_neg rfl hd ?_
  by_cases ha : s.sys.slot = .a
  · refine next_pos rfl ha ⟨u, rfl, congrArg LinkSt.mirror e, ?_, n⟩
    rw [if_pos ha, e]
  · obtain ⟨h1, h2⟩ := State.tableTake_uses (s := u) (q := port.val) (by rw [e]; exact hu) (400 ≤ p.val) d.heeded
    refine next_neg rfl ha ⟨_, rfl, ?_, ?_, (congrArg PairSt.nDivergence h2).trans n⟩
    · exact (congrArg LinkSt.mirror (h1.trans (by rw [e])) :)
    · rw [if_neg ha]
      exact (congrArg LinkSt.used h1 :)

/-! ### The assignment of inputs (R385) -/

theorem assignSend_assigns (s : State) (hs : s.pair.state = some .active) (hr : s.runtimeRuns = true)
    (hl : s.pair.lane0 = true) :
    ∃ t, exec .assignSend s = .next t ∧ t.pair.assignedTo = some (s.now + 1) ∧ t.pair.peerItems = [] ∧
      ∃ its, t.pair.sent.head? = some (.assign (s.now + 1) its (s.atP 100).aiSamples) ∧
        (∀ x, x ∈ its ↔ (x ∈ s.pair.items ∧ x.frame < s.now) ∨
          (x ∈ s.pair.peerItems ∧ s.pair.items.any x.same = false)) ∧
        tget t.pair.assigned (s.now + 1) = tget s.pair.assigned (s.now + 1) ++ its := by
  refine next_pos rfl ⟨hs, hr⟩ ?_
  extract_lets g own theirs its ai s1 _ s2
  have e1 : s1.pair = _ := State.assign_pair (s.atP 100) g its
  have hl2 : s2.pair.lane0 = true := (congrArg PairSt.lane0 e1 :).trans hl
  have e := State.pairSend_pair hl2 (.assign g its ai)
  refine ⟨_, rfl, ?_⟩
  rw [e]
  refine ⟨rfl, rfl, its, rfl, fun x => ?_, ?_⟩
  · rw [List.mem_append, List.mem_filter, List.mem_filter, decide_eq_true_iff, Bool.not_eq_true']
    rfl
  · exact (congrArg (fun q : PairSt => tget q.assigned g) e1 :).trans (tget_tput_self ..)

theorem pairAssignRx_takes (p : Pulse) (f : Nat) (items : List PairItem) (ai : List Int) (s : State)
    (hs : s.pair.state = some .standby) :
    ∃ t, exec (.pairAssignRx p f items ai) s = .next t ∧
      tget t.pair.assigned f = tget s.pair.assigned f ++ items ∧ tget t.pair.assignedAi f = ai ∧
      t.pair.assignedTo = some (max f (s.pair.assignedTo.getD 0)) ∧
      ∀ x ∈ t.pair.items, items.any x.same = false := by
  refine next_pos rfl (.inl hs) ⟨_, rfl, ?_⟩
  dsimp only
  rw [State.assign_pair]
  refine ⟨tget_tput_self .., tget_tput_self .., rfl, fun x hx => ?_⟩
  simpa using (List.mem_filter.mp hx).2

theorem pairListRx_takes (p : Pulse) (f : Nat) (items : List PairItem) (tj power : Int) (h : Nat) (s : State) :
    ∃ t, exec (.pairListRx p f items tj power h) s = .next t ∧ t.pair.peerHoldup = h ∧
      (f, tj, power) ∈ t.grz.peer ∧ (s.pair.state ≠ some .active → t.pair.peerItems = s.pair.peerItems) ∧
      (s.pair.state = some .active → ∀ x, x ∈ t.pair.peerItems ↔
        x ∈ items ∧ s.pair.assigned.any (fun e => e.2.any x.same) = false) := by
  refine ⟨_, rfl, rfl, List.mem_cons_self .., fun hs => if_neg hs, fun hs x => ?_⟩
  dsimp only
  rw [State.atP_pair, if_pos hs, List.mem_filter, Bool.not_eq_true']

/-- Settles O43: one lemma per row; the rows of the acknowledgement and of LOOP_LIVE write what they name. -/
theorem pairCopyCommandsComplete : Obligations.PairCopyCommandsComplete :=
  ⟨copyPageRx_keeps, fun _ _ _ hc => next_pos rfl hc ⟨_, rfl, rfl, rfl⟩, copyPageResend_resends,
    fun _ _ _ _ _ hs => next_pos rfl hs ⟨_, rfl, rfl⟩, replayCaughtUp_takes, pairMirrorRx_alone, pairMirrorRx_differs,
    assignSend_assigns, pairAssignRx_takes, pairListRx_takes⟩

end Sys2Proof.Machine
end

section
namespace Sys2Proof.Machine

/-! ### Summaries and digests (R386, R390) -/

theorem markhorSummary_sends (s : State) (hl : s.pair.lane0 = true) :
    ∃ t, exec .markhorSummary s = .next t ∧ t.pair.own = some (s.atP 800).summaryNow ∧
      t.pair.sent = .summary (s.atP 800).summaryNow :: s.pair.sent := by
  have e := State.pairSend_pair (s := { s.atP 800 with pair.own := some (s.atP 800).summaryNow }) hl
    (.summary (s.atP 800).summaryNow)
  exact ⟨_, rfl, congrArg PairSt.own e, congrArg PairSt.sent e⟩

theorem digestSend_sends (s : State) (hd : s.digests = true) (hl : s.pair.lane0 = true) :
    ∃ t, exec .digestSend s = .next t ∧ t.pair.digest = some (s.now, (s.atP 960).sectionCrcs) ∧
      t.pair.sent = .digest s.now (s.atP 960).sectionCrcs :: s.pair.sent := by
  refine next_pos rfl hd ⟨_, rfl, ?_⟩
  rw [State.pairSend_pair]
  · exact ⟨rfl, rfl⟩
  · exact hl

/-! ### The comparison of digests (R390, R394) -/

theorem packBits_eq_zero {l : List Bool} (h : ∀ b ∈ l, b = false) : packBits l = 0 := by
  induction l with
  | nil => rfl
  | cons b l ih =>
    rw [packBits, h b (List.mem_cons_self ..), ih fun x hx => h x (List.mem_cons_of_mem _ hx)]
    rfl

/-- Equal lists differ in no section. -/
@[simp] theorem sectionMask_self (a : List Word) : sectionMask a a = 0 :=
  packBits_eq_zero (by simp)

@[simp] theorem State.divergence_pair (s : State) (mask : Nat) (peer : List Word) :
    (s.divergence mask peer).pair = s.pair := State.ev_pair ..

theorem State.timeFollow_state (s : State) : s.timeFollow.time.state = .following := by
  obtain ⟨b, g, a, e⟩ := State.alignJudge_time
    { s with time.state := .following, time.source := .pair, time.freqSource := .pair }
  exact congrArg TimeSt.state e

theorem State.timeFollow_pair (s : State) : s.timeFollow.pair = s.pair :=
  (State.timeFollow_frame ..).pair_eq (by decide)

/-- The joiner in step becomes STANDBY in this frame, and follows the active's time. -/
theorem State.becomeStandby_inStep (s : State) : s.becomeStandby.pair.state = some .standby ∧
    s.becomeStandby.pair.syncFrame = s.now ∧ s.becomeStandby.time.state = .following := by
  unfold State.becomeStandby
  extract_lets s1
  have h1 : s1.pair = (s.setPair .standby 3).pair := State.copyEvent_pair ..
  have hn : s1.now = s.now := (State.ev_get_now ..).trans ((State.setPair_frame ..).frame_eq (by decide))
  rw [State.timeFollow_pair]
  refine ⟨?_, hn, State.timeFollow_state _⟩
  exact (congrArg PairSt.state h1 :).trans (State.setPair_peer s .standby 3).1

/-- At the hundredth equal digest in a row the joiner is in step (R394). -/
theorem State.digestEqual_inStep {s : State} (hs : s.pair.state = some .joining) (hm : 99 ≤ s.pair.matched) :
    s.digestEqual.pair.state = some .standby ∧ s.digestEqual.pair.syncFrame = s.now ∧
      s.digestEqual.time.state = .following := by
  have h100 : 100 ≤ satN 65535 (s.pair.matched + 1) := by
    simp only [satN]
    split <;> omega
  rw [State.digestEqual, if_pos ⟨hs, h100⟩]
  exact State.becomeStandby_inStep _

/-- A standby whose digest differs counts the divergence and leaves at the next frame (R390). -/
theorem State.digestUnequal_leaves {s : State} (hs : s.pair.state = some .standby) (mask : Nat) (peer : List Word) :
    (s.digestUnequal mask peer).pair = { s.pair with
      nDivergence := sat32u (s.pair.nDivergence + 1), matched := 0, leaveNext := true } := by
  unfold State.digestUnequal
  extract_lets _ s1 s2 p
  have h1 : s1.inPair = true := by simp [State.inPair, show s1.pair.state = some .standby from hs]
  have h2 : s2.pair = s1.pair := State.divergence_pair ..
  rw [if_pos h1, if_pos (by rw [h2]; exact hs)]
  simp only [p, h2, s1]

theorem digestCompare_inStep (a : List Word) (s : State) (hd : s.pair.digest = some (s.now, a))
    (hp : s.pair.peerDigest = some (s.now, a)) (hs : s.pair.state = some .joining) (hc : s.pair.caughtUp = true)
    (hm : 99 ≤ s.pair.matched) :
    ∃ t, exec .digestCompare s = .next t ∧ t.pair.state = some .standby ∧ t.pair.syncFrame = s.now ∧
      t.time.state = .following := by
  have hds : (s.atP 990).digests = true := by simp [State.digests, hs, hc]
  have he := State.digestEqual_inStep (s := s.atP 990) hs hm
  show ∃ t, execDigestCompare s = .next t ∧ _
  simp only [execDigestCompare, State.atP_pair, hd, hp]
  refine next_pos rfl ⟨rfl, rfl, hds⟩ ?_
  simp only [sectionMask_self]
  split
  · exact ⟨_, rfl, he⟩
  · exact ⟨_, rfl, he⟩

theorem digestCompare_leaves (a b : List Word) (s : State) (hd : s.pair.digest = some (s.now, a))
    (hp : s.pair.peerDigest = some (s.now, b)) (hs : s.pair.state = some .standby) (ht : s.pair.transition = false)
    (hm : sectionMask a b ≠ 0) :
    ∃ t, exec .digestCompare s = .next t ∧ t.pair.leaveNext = true ∧ t.pair.matched = 0 ∧
      t.pair.nDivergence = sat32u (s.pair.nDivergence + 1) ∧ t.pair.state = some .standby := by
  have hds : (s.atP 990).digests = true := by simp [State.digests, State.byAssignment, hs]
  show ∃ t, execDigestCompare s = .next t ∧ _
  simp only [execDigestCompare, State.atP_pair, hd, hp]
  refine next_pos rfl ⟨rfl, rfl, hds⟩ (next_neg rfl (by simp [ht]) (next_neg rfl hm ⟨_, rfl, ?_⟩))
  rw [State.digestUnequal_leaves (s := s.atP 990) hs]
  exact ⟨rfl, rfl, rfl, hs⟩

/-! ### The planned hand-over (R403 to R405) -/

theorem pairHandover_accepted (id : Word) (e : LedgerEntry) (s : State) (h : Due s id 0x0E01 e) (hb : e.body = [])
    (hp : s.inPair = true) (hr : s.pair.handoverReq = none) (hh : s.pair.handover = none) :
    ∃ t, exec (.pairHandover id) s = .next t ∧ t.cmdStands id .accepted .ok ∧
      t.pair.handoverReq = some (1, id) := by
  have hp0 : (s.atP 0).inPair = true := hp
  refine State.evaluate_next rfl h (by simp [Checks.pass, hb, hr, hh, hp0]) fun x w _ he hw hid => ?_
  rw [hid]
  exact ⟨State.cmdTo_after he hw rfl (by decide) .ok 0 [], rfl⟩

/-- Slot A of a synchronised pair asks for its role back after its hold (R404). -/
theorem pairHomeHoldExpiry_asks (p : Pulse) (s : State) (he : s.pair.cfg.homeEn = true) (ho : s.pair.homeOff = false)
    (ha : s.sys.slot = .a) (hs : s.pair.state = some .standby)
    (ht : s.pair.since + 1000 * s.pair.cfg.homeHold ≤ s.now) (hl : s.pair.lane0 = true) :
    ∃ t, exec (.pairHomeHoldExpiry p) s = .next t ∧ t.pair.sent = .homeAsk :: s.pair.sent := by
  refine next_pos rfl ⟨by simp [he, ho, State.inPair, hs], ha, hs, ht⟩ ⟨_, rfl, ?_⟩
  exact congrArg PairSt.sent (State.pairSend_pair (s := s.atP p.val) hl _)

/-- The active in slot B takes the return home up itself after its peer's hold (R404). -/
theorem pairHomeHoldExpiry_requests (p : Pulse) (s : State) (he : s.pair.cfg.homeEn = true)
    (ho : s.pair.homeOff = false) (hb : s.sys.slot = .b) (hs : s.pair.state = some .active)
    (hp : s.pair.peerState = some .standby) (ht : s.pair.syncFrame + 1000 * s.pair.cfg.homeHold ≤ s.now)
    (hr : s.pair.handoverReq = none) (hh : s.pair.handover = none) :
    ∃ t, exec (.pairHomeHoldExpiry p) s = .next t ∧ t.pair = { s.pair with handoverReq := some (2, 0) } :=
  next_neg rfl (fun h => nomatch hb.symm.trans h.2.1)
    (next_pos rfl ⟨by simp [he, ho, State.inPair, hs, hp], hb, hs, ht, by simp [hr], by simp [hh]⟩ ⟨_, rfl, rfl⟩)

/-- The end of a hand-over leaves both modules in their states, with none announced or asked for. -/
theorem State.handoverEnd_pair (s : State) (h kind : Nat) (cmd : Word) :
    (s.handoverEnd h kind cmd).pair = { s.pair with
      outputs := (s.handoverEnd h kind cmd).pair.outputs, homeOff := (s.handoverEnd h kind cmd).pair.homeOff,
      handover := none, handoverReq := none } := by
  unfold State.handoverEnd
  extract_lets f k s1 s2 _ p q
  have h1 : s1.pair = s.pair := by
    refine (State.ev_pair ..).trans ?_
    simp only [k]
    split <;> rfl
  have h2 : ∃ o, s2.pair = { s.pair with outputs := o } := by
    rw [← h1]
    simp only [s2]
    split
    · exact ⟨_, rfl⟩
    · exact State.cmdDone_pair ..
  obtain ⟨o, e⟩ := h2
  simp only [p, q, e]

theorem State.handoverEnd_time (s : State) (h kind : Nat) (cmd : Word) : (s.handoverEnd h kind cmd).time = s.time :=
  (State.handoverEnd_frame ..).time_eq (by decide)

/-- The new active takes the role at pulse 0 of H, and steers its own time. -/
theorem pairHandoverFrame_takes (kind : Nat) (cmd : Word) (s : State)
    (hh : s.pair.handover = some (s.now, kind, cmd)) (hc : s.strings.any s.connecting = false)
    (hs : s.pair.state = some .standby) :
    ∃ t, exec (.pairHandoverFrame false) s = .next t ∧ t.pair.state = some .active ∧
      t.pair.peerState = some .standby ∧ t.time.state ≠ .following := by
  have hc0 : ¬ (s.atP 0).strings.any (s.atP 0).connecting = true := Bool.eq_false_iff.mp hc
  show ∃ t, execPairHandoverFrame false s = .next t ∧ _
  simp only [execPairHandoverFrame, Bool.false_eq_true, if_false, State.atP_pair, hh]
  refine next_neg rfl (fun g => g rfl) (next_pos rfl rfl (next_neg rfl hc0 (next_pos rfl hs ⟨_, rfl, ?_⟩)))
  rw [State.policyDeferred_pair, (State.policyDeferred_frame _).time_eq (by decide)]
  refine ⟨?_, rfl, State.timeUnfollow_state _⟩
  dsimp only
  rw [State.timeUnfollow_pair]
  exact (State.setPair_peer (s.atP 0) .active 9).1

/-- The old active leaves the role at pulse 8 of H, and follows the new one's time. -/
theorem pairHandoverFrame_leaves (kind : Nat) (cmd : Word) (s : State)
    (hh : s.pair.handover = some (s.now, kind, cmd)) (hs : s.pair.state = some .active)
    (hn : s.pair.since ≠ s.now) :
    ∃ t, exec (.pairHandoverFrame true) s = .next t ∧ t.pair.state = some .standby ∧
      t.pair.peerState = some .active ∧ t.pair.handover = none ∧ t.pair.handoverReq = none ∧
      t.time.state = .following := by
  show ∃ t, execPairHandoverFrame true s = .next t ∧ _
  simp only [execPairHandoverFrame, if_true, State.atP_pair, hh]
  refine next_neg rfl (fun g => g rfl) (next_neg rfl nofun ⟨_, rfl, ?_⟩)
  rw [if_pos ⟨hs, hn⟩, State.handoverEnd_pair, State.handoverEnd_time]
  refine ⟨?_, rfl, rfl, rfl, State.timeFollow_state _⟩
  dsimp only
  rw [State.timeFollow_pair]
  exact (State.setPair_peer (s.atP 8) .standby 9).1

/-- A string that is still connecting puts H off to the next frame but a second's first. -/
theorem pairHandoverFrame_waits (kind : Nat) (cmd : Word) (s : State)
    (hh : s.pair.handover = some (s.now, kind, cmd)) (hc : s.strings.any s.connecting = true) :
    ∃ t, exec (.pairHandoverFrame false) s = .next t ∧
      t.pair = { s.pair with handover := some (offSecond (s.now + 1), kind, cmd) } := by
  show ∃ t, execPairHandoverFrame false s = .next t ∧ _
  simp only [execPairHandoverFrame, Bool.false_eq_true, if_false, State.atP_pair, hh]
  exact next_neg rfl (fun g => g rfl) (next_pos rfl rfl (next_pos rfl hc ⟨_, rfl, rfl⟩))

/-- Settles O44: one lemma per row, the two outcomes of a comparison and the three of a hand-over frame apart; the rows
of the peer's summary, digest and announcement write what they name. -/
theorem pairAgreementCommandsComplete : Obligations.PairAgreementCommandsComplete :=
  ⟨markhorSummary_sends, fun _ _ _ => ⟨_, rfl, rfl⟩, digestSend_sends, fun _ _ _ _ => ⟨_, rfl, rfl⟩,
    digestCompare_inStep, digestCompare_leaves, pairHandover_accepted, pairHomeHoldExpiry_asks,
    pairHomeHoldExpiry_requests, fun _ _ _ _ _ hs hf => next_pos rfl ⟨hs, hf⟩ ⟨_, rfl, rfl⟩,
    pairHandoverFrame_takes, pairHandoverFrame_leaves, pairHandoverFrame_waits⟩

end Sys2Proof.Machine
end

section
namespace Sys2Proof.Machine

/-! ### The replay window (R413) -/

/-- The window of a session that has accepted the numbers `qs`: the highest of them, and those at most 63 below it. -/
def SiteSt.took (u : SiteSt) (qs : List Nat) : Prop :=
  match u.seqTop with
  | none => qs = [] ∧ u.seqSeen = []
  | some top => top ∈ qs ∧ (∀ x ∈ qs, x ≤ top) ∧ ∀ x, x ∈ u.seqSeen ↔ x ∈ qs ∧ top ≤ x + 63

theorem SiteSt.take_took {u : SiteSt} {qs : List Nat} (h : u.took qs) (q : Nat) : (u.take q).took (q :: qs) := by
  unfold SiteSt.took at h
  cases hu : u.seqTop with
  | none =>
    obtain ⟨rfl, hs⟩ : qs = [] ∧ u.seqSeen = [] := by simpa [hu] using h
    simp [SiteSt.took, SiteSt.take, hu, hs]
  | some top =>
    obtain ⟨ht, hm, hs⟩ : top ∈ qs ∧ (∀ x ∈ qs, x ≤ top) ∧ ∀ x, x ∈ u.seqSeen ↔ x ∈ qs ∧ top ≤ x + 63 := by
      simpa [hu] using h
    simp only [SiteSt.took, SiteSt.take, hu]
    refine ⟨?_, fun x hx => ?_, fun x => ?_⟩
    · rcases Nat.le_total top q with g | g
      · simp [Nat.max_eq_right g]
      · simp [Nat.max_eq_left g, ht]
    · rcases List.mem_cons.mp hx with rfl | hx
      · exact Nat.le_max_right ..
      · exact Nat.le_trans (hm x hx) (Nat.le_max_left ..)
    · simp only [List.mem_filter, List.mem_cons, hs, decide_eq_true_eq]
      refine ⟨fun ⟨g, l⟩ => ⟨g.imp_right And.left, l⟩, fun ⟨g, l⟩ => ⟨g.imp_right fun hx => ⟨hx, ?_⟩, l⟩⟩
      exact Nat.le_trans (Nat.le_max_left top q) l

theorem SiteSt.foldl_take_took (l : List Nat) {u : SiteSt} {qs : List Nat} (h : u.took qs) :
    (l.foldl SiteSt.take u).took (l.reverse ++ qs) := by
  induction l generalizing u qs with
  | nil => exact h
  | cons q l ih => simpa using ih (SiteSt.take_took h q)

/-- A number is fresh above the window, and within it where it has not been accepted. -/
theorem SiteSt.fresh_iff {u : SiteSt} {qs : List Nat} (h : u.took qs) (q : Nat) :
    u.fresh q = true ↔ (∀ x ∈ qs, x < q) ∨ (q ∉ qs ∧ ∀ x ∈ qs, x ≤ q + 63) := by
  unfold SiteSt.took at h
  cases hu : u.seqTop with
  | none =>
    obtain ⟨rfl, -⟩ : qs = [] ∧ u.seqSeen = [] := by simpa [hu] using h
    simp [SiteSt.fresh, hu]
  | some top =>
    obtain ⟨ht, hm, hs⟩ : top ∈ qs ∧ (∀ x ∈ qs, x ≤ top) ∧ ∀ x, x ∈ u.seqSeen ↔ x ∈ qs ∧ top ≤ x + 63 := by
      simpa [hu] using h
    have above : top < q ↔ ∀ x ∈ qs, x < q :=
      ⟨fun g x hx => Nat.lt_of_le_of_lt (hm x hx) g, fun g => g top ht⟩
    have within : top ≤ q + 63 ↔ ∀ x ∈ qs, x ≤ q + 63 :=
      ⟨fun g x hx => Nat.le_trans (hm x hx) g, fun g => g top ht⟩
    have hne : q ∉ qs → q ≠ top := fun g e => g (e ▸ ht)
    simp only [SiteSt.fresh, hu, Bool.or_eq_true, Bool.and_eq_true, decide_eq_true_eq, Bool.not_eq_true',
      List.contains_eq_mem, decide_eq_false_iff_not, hs, ← above, ← within]
    constructor
    · rintro (g | ⟨⟨g, -⟩, hq⟩)
      · exact .inl g
      · exact .inr ⟨fun hx => hq ⟨hx, by omega⟩, g⟩
    · rintro (g | ⟨hq, g⟩)
      · exact .inl g
      · exact .inr ⟨⟨g, hne hq⟩, fun hx => hq hx.1⟩

/-- The number just accepted is no longer fresh. -/
theorem SiteSt.fresh_take (u : SiteSt) (q : Nat) : (u.take q).fresh q = false := by
  cases hu : u.seqTop with
  | none => simp [SiteSt.fresh, SiteSt.take, hu]
  | some top =>
    have hq : ¬ max top q < q := Nat.not_lt.mpr (Nat.le_max_right ..)
    simp only [SiteSt.fresh, SiteSt.take, hu, List.contains_eq_mem, List.mem_filter, List.mem_cons, true_or, true_and,
      hq, decide_false, Bool.false_or]
    by_cases g : max top q ≤ q + 63 <;> simp only [g] <;> simp

/-- A message that passes every other check of R412 and is not fresh is counted as a replay and discarded. -/
theorem State.onValid_replayed {s : State} {m : SiteIn} {b : Bytes} (hv : s.siteServed = true)
    (hf : m.formOk b = true) (hd : m.digestOk b = true) (hn : s.site.sstate ≠ .none)
    (hs : m.session = s.site.session) (ht : s.tagOk m b = true) (hr : s.site.fresh m.seq = false)
    (go : State → State) :
    s.onValid m m.type b go = { s with site.nReplay := sat32u (s.site.nReplay + 1) } := by
  simp [State.onValid, hv, hf, hd, hn, hs, ht, hr]

/-- Settles O16: the fold of `take` keeps the window of the numbers accepted, and the window decides freshness. -/
theorem replayWindow : Obligations.ReplayWindow := by
  refine ⟨fun u qs q ht hs => ?_, fun p m id c b s hv hf hy hd hn hses htag hr => ?_⟩
  · have h0 : u.took [] := by simp [SiteSt.took, ht, hs]
    simpa using SiteSt.fresh_iff (SiteSt.foldl_take_took qs h0) q
  · have e := State.onValid_replayed (s := s.atP p.val) hv hf hd hn hses htag hr
    rw [hy] at e
    exact ⟨_, congrArg ok (e _), rfl⟩

end Sys2Proof.Machine
end

section
namespace Sys2Proof.Machine

/-! ### The ledger at the end of Load (R424) -/

/-- Entries rewritten each in its slot, the absent one left as it is, read as the rewriting of what was read. -/
theorem tget_map {α : Type} [Inhabited α] {g : Nat × α → Nat × α} (hk : ∀ e, (g e).1 = e.1)
    (h0 : ∀ k, (g (k, default)).2 = default) (t : Tab α) (k : Nat) : tget (t.map g) k = (g (k, tget t k)).2 := by
  induction t with
  | nil => exact (h0 k).symm
  | cons e t ih =>
    obtain ⟨j, v⟩ := e
    have hj : (g (j, v)).1 = j := hk (j, v)
    by_cases h : k = j
    · subst h; simp [tget, hj]
    · simp [tget, hj, h, ih]

/-- What the end of Load makes of an entry: a PENDING one fails at step 0, one under way fails at its step unless its
command resumes, and any other stands. -/
theorem State.ledgerAtLoad_entry (s : State) (resumes : LedgerEntry → Bool) (k : Nat) :
    let e := tget s.site.ledger k
    let f := tget (s.ledgerAtLoad resumes).site.ledger k
    (e.state = .pending → f = { e with state := .failed, status := .failedAborted, step := 0, changed := s.now }) ∧
    (e.state = .accepted ∨ e.state = .started → resumes e = false →
      f = { e with state := .failed, status := .failedAborted, changed := s.now }) ∧
    (e.state = .accepted ∨ e.state = .started → resumes e = true → f = e) ∧
    (e.state ∉ [LedgerState.pending, .accepted, .started] → f = e) := by
  intro e f
  have hf : f = _ := tget_map (fun e => by
    dsimp only
    split
    · rfl
    · split <;> rfl) (fun _ => rfl) s.site.ledger k
  have hp : e.state = .accepted ∨ e.state = .started → e.state ≠ .pending := by
    rintro (g | g) <;> simp [g]
  dsimp only at hf
  refine ⟨fun g => ?_, fun g r => ?_, fun g r => ?_, fun g => ?_⟩
  · rw [hf, if_pos g]
  · rw [hf, if_neg (hp g), if_pos ⟨g, by simp [e, r]⟩]
  · rw [hf, if_neg (hp g), if_neg (by simp [e, r])]
  · simp only [List.mem_cons, List.not_mem_nil, or_false, not_or] at g
    rw [hf, if_neg g.1, if_neg fun u => u.1.elim g.2.1 g.2.2]

/-- An interlock that is not bad trips nothing at the end of Load, and stays so. -/
theorem State.ilkAtLoad_healthy {s : State} (h : ∀ i, (tget s.prot.ilk i).bad = false) (i : Nat) :
    (s.ilkAtLoad i).site = s.site ∧ ∀ j, (tget (s.ilkAtLoad i).prot.ilk j).bad = false := by
  unfold State.ilkAtLoad
  dsimp only
  split
  · rw [if_neg (by simp [h i])]
    refine ⟨rfl, fun j => ?_⟩
    simp only [tget_tput]
    split
    · exact h i
    · exact h j
  · exact ⟨rfl, h⟩

/-- Markhor's hand-off leaves the site part alone where it judges no interlock, or none is bad. -/
theorem State.handoff_site {s : State} (h : s.prot.loaded = true ∨ ∀ i, (tget s.prot.ilk i).bad = false) :
    s.handoff.site = s.site := by
  unfold State.handoff
  extract_lets first _ _ s1 s2
  show s2.site = s.site
  unfold s2
  split
  · next hf =>
    have h1 : s1.site = s.site ∧ ∀ i, (tget s1.prot.ilk i).bad = false :=
      ⟨rfl, h.resolve_left (by simpa [first] using hf)⟩
    refine (List.foldlRecOn (motive := fun u => u.site = s.site ∧ ∀ i, (tget u.prot.ilk i).bad = false)
      (upFrom 0 4) State.ilkAtLoad h1 fun u hu i _ => ?_).1
    obtain ⟨a, b⟩ := State.ilkAtLoad_healthy hu.2 i
    exact ⟨a.trans hu.1, b⟩
  · rfl

/-- An input of a controller's state is no command: it leaves the site part alone (R385). -/
theorem State.itemIn_ctl_site (s : State) (it : PairItem) (slot : Slot) (c : Nat) (x : CanState) (b : Bool)
    (h : it.body = .ctl slot c x b) : (s.itemIn it).site = s.site := by
  have ha : ∀ f, s.adoptCommand it f = s := fun f => by simp [State.adoptCommand, h]
  unfold State.itemIn
  split
  · simp [State.assign, ha]
  · rfl

theorem State.setCtl_site (s : State) (c : Nat) (new : CanState) (cause : Nat) : (s.setCtl c new cause).site = s.site := by
  unfold State.setCtl
  extract_lets old s0 s1 s2
  have h0 : Frame [.bus, .jnl] s s0 := .ite (State.dropObjects_frame ..) (.refl _ _)
  have h2 : Frame [.bus, .jnl] s s2 := .after (State.ev_frame ..) (.after (State.modCtl_frame ..) h0 rfl) rfl
  exact (State.itemIn_ctl_site _ _ _ _ _ _ rfl).trans (h2.site_eq (by decide))

theorem State.canStart_site (s : State) (c : Nat) : (s.canStart c).site = s.site := by
  unfold State.canStart
  split
  · rfl
  · dsimp only
    split <;> rw [State.setCtl_site] <;> exact (State.modCtl_frame ..).site_eq (by decide)

/-- Of the end of Load, only its first operation touches the site part where no interlock trips. -/
theorem State.loadEnd_site {s : State} (h : s.prot.loaded = true ∨ ∀ i, (tget s.prot.ilk i).bad = false) :
    s.loadEnd.site = (s.ledgerAtLoad (fun _ => false)).site := by
  have hand : (s.ledgerAtLoad (fun _ => false)).loopsBuild.handoff.site = (s.ledgerAtLoad (fun _ => false)).site :=
    State.handoff_site h
  unfold State.loadEnd
  extract_lets s1 _ _ _ _ s2 s3 s4 s5
  have h1 : s1.site = _ := ((State.herdRestore_frame _).site_eq (by decide)).trans hand
  have h5 : Frame [.jnl] s2 s5 := by
    have h4 : Frame [.jnl] s2 s4 := .after (State.evIf_frame ..) (State.ev_frame ..) rfl
    exact .ite (.after (State.lossEvent_frame ..) h4 rfl) h4
  have he : Frame [.upd, .jnl, .banks, .rollback] s2 s5.updEvents := .after (State.updEvents_frame ..) (h5.mono rfl) rfl
  rw [State.canStart_site, State.canStart_site, he.site_eq (by decide)]
  exact h1

/-- Settles O17: the end of Load fails what was under way by its first operation, and the rest of it leaves the ledger. -/
theorem ledgerAtTheEndOfLoad : Obligations.LedgerAtTheEndOfLoad := by
  refine ⟨fun s k h => ?_, State.ledgerAtLoad_entry⟩
  obtain ⟨pending, underway, -, other⟩ := State.ledgerAtLoad_entry s (fun _ => false) k
  intro e f
  have hf : f = tget (s.ledgerAtLoad (fun _ => false)).site.ledger k := by rw [← State.loadEnd_site h]
  exact ⟨fun g => hf.trans (pending g), fun g => hf.trans (underway g rfl), fun g => hf.trans (other g)⟩

end Sys2Proof.Machine
end

section
namespace Sys2Proof.Machine

/-! ### A valid message in its session (R412, R413, R415, R416) -/

/-- What a valid message leaves: the session open and kept, the message counted and its number taken, the ledger and the
window as they were. -/
structure Accepted (s z : State) (m : SiteIn) : Prop where
  opened : z.site.sstate = .opened
  session : z.site.session = s.site.session
  stale : z.site.fresh m.seq = false
  count : z.site.nRx = sat32u (s.site.nRx + 1)
  heard : z.site.lastValid = s.now
  port : z.site.port = some m.port.val
  ledger : z.site.ledger = s.site.ledger
  newest : z.site.newest = s.site.newest
  pages : z.site.pages = s.site.pages
  winReqs : z.site.winReqs = s.site.winReqs
  now : z.now = s.now
  alone : z.aloneOnly = s.aloneOnly
  sends : z.sendsPair = s.sendsPair
  assigns : z.assignsAlone = s.assignsAlone

theorem SiteSt.fresh_congr {u v : SiteSt} (h : u.seqTop = v.seqTop) (g : u.seqSeen = v.seqSeen) (q : Nat) :
    u.fresh q = v.fresh q := by
  simp [SiteSt.fresh, h, g]

theorem State.acceptMsg_accepted {s : State} (h : s.site.sstate ≠ .none) (p : Nat) (m : SiteIn) :
    Accepted s ((s.atP p).acceptMsg m) m := by
  obtain ⟨st, op, pu, po, a0, a1, tp, sn, e, hst, hpo, htp, hsn⟩ := State.acceptMsg_site (s.atP p) m
  have hnew : ((s.atP p).acceptMsg m).site.fresh m.seq = ((s.atP p).site.take m.seq).fresh m.seq := by
    rw [e]; exact SiteSt.fresh_congr htp hsn _
  exact {
    opened := by rw [e]; exact hst h
    stale := hnew.trans (SiteSt.fresh_take ..)
    port := by rw [e]; exact hpo
    session := by rw [e]; rfl
    count := by rw [e]; rfl
    heard := by rw [e]; rfl
    ledger := by rw [e]; rfl
    newest := by rw [e]; rfl
    pages := by rw [e]; rfl
    winReqs := by rw [e]; rfl
    now := State.acceptMsg_now ..
    alone := State.acceptMsg_alone ..
    sends := State.acceptMsg_sendsPair ..
    assigns := by
      have hp := (State.acceptMsg_frame (s.atP p) m).pair_eq (by decide)
      rw [State.assignsAlone, State.acceptMsg_alone, hp]; rfl }

/-- A message that is heard acts on a state that has accepted it. -/
theorem Hears.acts {Q : State → Prop} {o : Host.Outcome State Fault Refusal} {s : State} {p : Pulse} {m : SiteIn}
    {ty : Nat} {b : Bytes} {go : State → State} (h : Hears s m ty b)
    (ho : o = Machine.ok ((s.atP p.val).onValid m ty b go)) (hq : ∀ z, Accepted s z m → Q (go z)) :
    ∃ t, o = .next t ∧ Q t :=
  State.onValid_of_hears h ho (hq _ (State.acceptMsg_accepted h.open_ ..))

/-! ### The end of a session (Table 14-2, R436) -/

/-- The end of a session takes its ID, keys and chain, and what the partner holds of the window. -/
theorem State.endSession_ends {s : State} (h : s.site.sstate ≠ .none) (k : Byte) :
    (s.endSession k).site = { s.site with
      sstate := .none, session := 0, prk := [], opened := 0, makerChain := false,
      pages := tmap s.site.pages pageAtSessionEnd } ∧
    (s.endSession k).acc = { s.acc with fpr := 0, chain := [], chainRoot := none } := by
  unfold State.endSession
  rw [if_neg h]
  dsimp only
  rw [State.ev_site, State.ev_acc]
  exact ⟨rfl, rfl⟩

theorem sessionClose_ends (p : Pulse) (m : SiteIn) (c : BitVec 16) (s : State)
    (h : Hears s m 0x02 (le 2 c.toNat ++ [0, 0])) :
    ∃ t, exec (.sessionClose p m c) s = .next t ∧ t.site.sstate = .none ∧ t.site.session = 0 ∧ t.acc.chain = [] ∧
      t.site.ledger = s.site.ledger := by
  refine h.acts (p := p) rfl fun z hz => ?_
  obtain ⟨hs, ha⟩ := State.endSession_ends (s := z) (by rw [hz.opened]; decide) 0x02
  rw [hs, ha]
  exact ⟨rfl, rfl, rfl, hz.ledger⟩

theorem siteHeartbeatRx_keeps (p : Pulse) (m : SiteIn) (s : State) (h : Hears s m 0x03 []) :
    ∃ t, exec (.siteHeartbeatRx p m) s = .next t ∧ t.site.sstate = .opened ∧ t.site.session = s.site.session ∧
      t.site.lastValid = s.now ∧ t.site.nRx = sat32u (s.site.nRx + 1) ∧ t.site.port = some m.port.val ∧
      t.site.fresh m.seq = false :=
  h.acts (p := p) rfl fun _ hz => ⟨hz.opened, hz.session, hz.heard, hz.count, hz.port, hz.stale⟩

theorem sessionOpeningTimeout_ends (p : Pulse) (s : State) (ho : s.site.sstate = .opening)
    (ha : s.site.openingAt + 1000 ≤ s.now) :
    ∃ t, exec (.sessionOpeningTimeout p) s = .next t ∧ t.site.sstate = .none ∧ t.site.session = 0 := by
  refine next_pos rfl ⟨ho, ha⟩ ⟨_, rfl, ?_⟩
  have hn : (s.atP p.val).site.sstate ≠ .none := fun e => nomatch ho.symm.trans e
  rw [(State.endSession_ends hn 0x06).1]
  exact ⟨rfl, rfl⟩

theorem sessionLapse_ends (p : Pulse) (s : State) (ho : s.site.sstate = .opened)
    (hl : s.site.lastValid + 3000 ≤ s.now) :
    ∃ t, exec (.sessionLapse p) s = .next t ∧ t.site.sstate = .none ∧ t.site.session = 0 ∧
      t.site.nLapse = sat32u (s.site.nLapse + 1) ∧ t.site.ledger = s.site.ledger := by
  refine next_pos rfl ⟨ho, hl⟩ ⟨_, rfl, ?_⟩
  have hn : (s.atP p.val).site.sstate ≠ .none := fun e => nomatch ho.symm.trans e
  dsimp only
  rw [(State.endSession_ends hn 0x03).1]
  exact ⟨rfl, rfl, rfl, rfl⟩

/-! ### SESSION_OPEN (R412, R414, R568 to R572, R579) -/

theorem State.freshSession_ne_zero (s : State) : s.freshSession.1 ≠ 0 := by
  unfold State.freshSession
  dsimp only
  split
  · decide
  · assumption

section
variable {p : Pulse} {m : SiteIn} {o : OpenIn} {s : State} (hv : s.siteServed = true) (hf : m.formOk o.bytes = true)
  (hy : m.type = 1) (hd : m.digestOk o.bytes = true) (hver : o.ver = 1) (htag : m.tag = List.replicate 16 0)
include hv hf hy hd hver htag

/-- A `SESSION_OPEN` that passes the checks of its form is judged by the session. -/
theorem sessionOpen_judged {Q : State → Prop} {unserved illFormed illTagged u : State}
    (ho : exec (.sessionOpen p m o) s = ok (if !s.siteServed then unserved
      else if !m.formOk o.bytes || decide (m.type ≠ 1) || !m.digestOk o.bytes || decide (o.ver ≠ 1) then illFormed
      else if m.tag ≠ List.replicate 16 0 then illTagged else u))
    (h : ∃ t, ok u = .next t ∧ Q t) : ∃ t, exec (.sessionOpen p m o) s = .next t ∧ Q t := by
  simp only [hv, hf, hy, hd, hver, htag] at ho
  rw [ho]; exact h

theorem sessionOpen_busy (hs : s.site.sstate ≠ .none) :
    ∃ t, exec (.sessionOpen p m o) s = .next t ∧ t.site.sstate = s.site.sstate ∧ t.site.session = s.site.session ∧
      t.site.nBusy = sat32u (s.site.nBusy + 1) ∧ t.tells 0x02 (le 2 Status.refusedBusy.code ++ [0, 0]) := by
  refine sessionOpen_judged hv hf hy hd hver htag rfl (next_pos rfl hs ⟨_, rfl, ?_⟩)
  dsimp only
  obtain ⟨_, _, _, e⟩ := State.send_site _ _ _ _
  rw [e]
  dsimp only
  rw [State.ev_site]
  exact ⟨rfl, rfl, rfl, State.send_tells ..⟩

theorem sessionOpen_refused {c : Nat} (hs : s.site.sstate = .none) (hc : s.openFault o = some c) :
    ∃ t, exec (.sessionOpen p m o) s = .next t ∧ t.site = s.site ∧ t.acc.authFails = sat32u (s.acc.authFails + 1) ∧
      t.acc.failsSec = s.acc.failsSec + 1 ∧ t.acc.chain = s.acc.chain := by
  refine sessionOpen_judged hv hf hy hd hver htag rfl (next_neg rfl (fun g => g hs) ?_)
  rw [show (s.atP p.val).openFault o = some c from hc]
  exact ⟨_, rfl, by simp [State.authFail]⟩

theorem sessionOpen_opens (hs : s.site.sstate = .none) (hc : s.openFault o = none) :
    ∃ t, exec (.sessionOpen p m o) s = .next t ∧ t.site.sstate = .opening ∧ t.site.session ≠ 0 ∧
      t.site.certRole = o.role ∧ t.site.prk = o.prk ∧ t.site.openingAt = s.now ∧ t.acc.chain = o.chain ∧
      t.tells 0x01 (openBytes 1 o.ourNonce o.ourEph s.sys.certChain o.ourSig) := by
  refine sessionOpen_judged hv hf hy hd hver htag rfl (next_neg rfl (fun g => g hs) ?_)
  rw [show (s.atP p.val).openFault o = none from hc]
  refine ⟨_, rfl, ?_⟩
  dsimp only
  obtain ⟨_, _, _, e⟩ := State.send_site _ _ _ _
  rw [e, (State.send_frame ..).acc_eq (by decide)]
  exact ⟨rfl, State.freshSession_ne_zero _, rfl, rfl, rfl, rfl, State.send_tells ..⟩

end

/-- Settles O45: one lemma per row, the three answers to a SESSION_OPEN apart; the row of the link state writes what it
names. -/
theorem sessionCommandsComplete : Obligations.SessionCommandsComplete :=
  ⟨fun _ _ _ _ hv hf hy hd hver htag => sessionOpen_opens hv hf hy hd hver htag,
    fun _ _ _ _ _ hv hf hy hd hver htag => sessionOpen_refused hv hf hy hd hver htag,
    fun _ _ _ _ hv hf hy hd hver htag => sessionOpen_busy hv hf hy hd hver htag,
    sessionClose_ends, siteHeartbeatRx_keeps, sessionOpeningTimeout_ends, sessionLapse_ends,
    fun _ _ _ _ => ⟨_, rfl, by split <;> rfl⟩⟩

end Sys2Proof.Machine
end

section
namespace Sys2Proof.Machine

/-! ### A command that enters the ledger (R385, R420) -/

theorem Frame.sendsPair_eq {W : List View} {s t : State} (h : Frame W s t) (hp : View.pairState ∉ W)
    (hv : View.psv ∉ W) : t.sendsPair = s.sendsPair := by
  have e : s.pair.state = t.pair.state := h.same .pairState hp
  simp [State.sendsPair, State.byAssignment, e, h.psv_eq hv]

theorem Frame.aloneOnly_eq {W : List View} {s t : State} (h : Frame W s t) (hp : View.pairState ∉ W)
    (hv : View.psv ∉ W) (hm : View.mode ∉ W) : t.aloneOnly = s.aloneOnly := by
  simp [State.aloneOnly, h.sendsPair_eq hp hv, h.mode_eq hm]

theorem State.newSlot_congr {s t : State} (h : t.site.ledger = s.site.ledger) : t.newSlot = s.newSlot := by
  simp only [State.newSlot, h]

/-- The effective frame of a PENDING command that has none is set, and nothing else of the entry but its change. -/
theorem State.setEffective_entry {s : State} {id : Word} {e : LedgerEntry} (hw : twf s.site.ledger = true)
    (h : s.entry id = some e) (hp : e.state = .pending) (h0 : e.effective = 0) (f : Nat) :
    (s.setEffective id f).entry id = some { e with effective := f, changed := s.now } ∧
      (s.setEffective id f).site.newest = s.site.newest := by
  obtain ⟨k, hk, rfl⟩ := State.entry_slot h
  have hid := (slotOf_entry hw hk).1
  unfold State.setEffective
  simp only [hk]
  rw [if_pos ⟨hp, h0⟩]
  exact ⟨(State.entry_tput (e := { tget s.site.ledger k with effective := f, changed := s.now }) hw hk hid
    (by simp [hp]) rfl).1, rfl⟩

/-- A command listed as an input keeps its entry until the active assigns it; a module that assigns alone makes it
effective two frames later. -/
theorem State.itemIn_command {s : State} {it : PairItem} {c q : Nat} {r : Role} {b : Bytes} {e : LedgerEntry}
    (hw : twf s.site.ledger = true) (h : s.entry it.id = some e) (hp : e.state = .pending) (h0 : e.effective = 0)
    (hb : it.body = .command c r q b) :
    (s.itemIn it).entry it.id =
        some (if s.assignsAlone then { e with effective := s.now + 2, changed := s.now } else e) ∧
      (s.itemIn it).site.newest = s.site.newest := by
  cases ha : s.assignsAlone with
  | false =>
    simp only [State.itemIn, ha, Bool.false_eq_true, if_false, and_true]
    exact h
  | true =>
    obtain ⟨k, hk, -⟩ := State.entry_slot h
    have hadopt : s.adoptCommand it (s.now + 2) = s.setEffective it.id (s.now + 2) := by
      simp [State.adoptCommand, hb, hk]
    have hs : (s.itemIn it).site = (s.setEffective it.id (s.now + 2)).site := by
      simp [State.itemIn, ha, State.assign, hadopt]
    rw [State.entry_congr (s := s.setEffective it.id (s.now + 2)) (by rw [hs]), hs]
    exact State.setEffective_entry hw h hp h0 _

/-- An entry put for an identifier that the ledger does not hold is read back. -/
theorem State.entry_new {s t : State} {id : Word} {k : Nat} {e : LedgerEntry} (hw : twf s.site.ledger = true)
    (hn : s.entry id = none) (hid : e.id = id) (he : e.state ≠ .empty)
    (ht : t.site.ledger = tput s.site.ledger k e) : t.entry id = some e := by
  have hslot : slotOf s.site.ledger id = none := by simpa [State.entry] using hn
  simp [State.entry, ht, slotOf_new hw hslot hid he]

/-- The entry a new command starts with. -/
def newEntry (id : Word) (code : Nat) (body : Bytes) (role : Role) (seq now : Nat) : LedgerEntry :=
  { id := id, code := code, state := .pending, role := role, arrival := now, digest := commandDigest code body,
    changed := now, body := body, seq := seq }

/-- A new command with a slot takes it, is listed as an input, and is answered with what its entry then holds. -/
theorem State.commandIn_slot {s : State} {id : Word} {k : Nat} (hid : id ≠ 0) (hn : s.entry id = none)
    (hk : s.newSlot = some k) (code : Nat) (body : Bytes) (role : Role) (seq : Nat) : ∃ (u : State) (it : PairItem),
    u = { s with
      site.ledger := tput s.site.ledger k (newEntry id code body role seq s.now), site.newest := id } ∧
    it.id = id ∧ it.body = .command code role seq body ∧
    s.commandIn id code body role seq =
      (u.itemIn it).answer (((u.itemIn it).entry id).getD (newEntry id code body role seq s.now)) 0 := by
  refine ⟨_, {
    id := id, seq := seq, digest := commandDigest code body, frame := s.now,
    body := .command code role seq body }, rfl, rfl, rfl, ?_⟩
  unfold State.commandIn
  rw [if_neg hid, hn, hk]
  rfl

/-- What a new command leaves: its entry, with its effective frame where the module assigns alone, the newest
identifier, and the answer. -/
theorem State.commandIn_new {s : State} {id : Word} {k : Nat} (hid : id ≠ 0) (hw : twf s.site.ledger = true)
    (hn : s.entry id = none) (hk : s.newSlot = some k) (ho : s.site.sstate = .opened) (code : Nat) (body : Bytes)
    (role : Role) (seq : Nat) : ∃ e,
    e = (if s.assignsAlone then
        { newEntry id code body role seq s.now with effective := s.now + 2 } else newEntry id code body role seq s.now) ∧
      (s.commandIn id code body role seq).entry id = some e ∧ (s.commandIn id code body role seq).site.newest = id ∧
      s.answered (s.commandIn id code body role seq) (e.bytes 0) := by
  refine ⟨_, rfl, ?_⟩
  obtain ⟨u, it, hu, rfl, hb, hc⟩ := State.commandIn_slot hid hn hk code body role seq
  have hl : u.site.ledger = tput s.site.ledger k (newEntry it.id code body role seq s.now) := by rw [hu]
  have he : u.entry it.id = some (newEntry it.id code body role seq s.now) := State.entry_new hw hn rfl nofun hl
  obtain ⟨h2, hnew⟩ := State.itemIn_command (hl ▸ twf_tput _ _ hw) he rfl rfl hb
  have h2 : (u.itemIn it).entry it.id = some (if s.assignsAlone then
      { newEntry it.id code body role seq s.now with effective := s.now + 2 }
      else newEntry it.id code body role seq s.now) := by rw [h2, hu]; rfl
  have f : Frame [.pair, .site, .ledger] u (u.itemIn it) := State.itemIn_frame ..
  have hop : (u.itemIn it).site.sstate = .opened := (f.same .session (by decide)).1.symm.trans (by rw [hu]; exact ho)
  rw [hc, h2]
  refine ⟨(State.entry_congr (State.answer_keeps ..).2 _).trans h2,
    (State.answer_keeps ..).1.trans (hnew.trans (by rw [hu])),
    State.answered_congr ?_ ?_ (State.answer_answered hop _ 0)⟩
  · rw [f.aloneOnly_eq (by decide) (by decide) (by decide), hu]; rfl
  · rw [f.sendsPair_eq (by decide) (by decide), hu]; rfl

/-! ### COMMAND and COMMAND_STATUS (R420, R422, R423) -/

/-- An answer leaves the ledger and the newest identifier, and reaches the partner. -/
theorem Accepted.answers {s z : State} {m : SiteIn} (h : Accepted s z m) (e : LedgerEntry) (f : Nat) :
    (z.answer e f).site.ledger = s.site.ledger ∧ (z.answer e f).site.newest = s.site.newest ∧
      s.answered (z.answer e f) (e.bytes f) := by
  obtain ⟨hn, hl⟩ := State.answer_keeps z e f
  exact ⟨hl.trans h.ledger, hn.trans h.newest,
    State.answered_congr h.alone h.sends (State.answer_answered h.opened e f)⟩

theorem Accepted.entry {s z : State} {m : SiteIn} (h : Accepted s z m) (id : Word) : z.entry id = s.entry id :=
  State.entry_congr h.ledger id

theorem command_enters (p : Pulse) (m : SiteIn) (id : Word) (c : BitVec 16) (b : Bytes) (k : Nat) (s : State)
    (h : Hears s m 0x10 (commandBytes id c.toNat b)) (hid : id ≠ 0) (hw : twf s.site.ledger = true)
    (hn : s.entry id = none) (hk : s.newSlot = some k) :
    ∃ t, exec (.command p m id c b) s = .next t ∧ t.site.newest = id ∧
      (∃ e, t.entry id = some e ∧ e.state = .pending ∧ e.code = c.toNat ∧ e.body = b ∧ e.role = m.role ∧
        e.digest = commandDigest c.toNat b ∧ e.arrival = s.now ∧
        (s.assignsAlone = true → e.effective = s.now + 2) ∧ s.answered t (e.bytes 0)) := by
  refine h.acts (p := p) rfl fun z hz => ?_
  obtain ⟨e, hv, he, hnew, hans⟩ := State.commandIn_new hid (hz.ledger ▸ hw) ((hz.entry id).trans hn)
    ((State.newSlot_congr hz.ledger).trans hk) hz.opened c.toNat b m.role m.seq
  have hans : s.answered _ (e.bytes 0) := State.answered_congr hz.alone hz.sends hans
  refine ⟨hnew, e, he, ?_⟩
  rw [hz.assigns, hz.now] at hv
  cases ha : s.assignsAlone with
  | true =>
    obtain rfl : e = _ := hv.trans (if_pos ha)
    exact ⟨rfl, rfl, rfl, rfl, rfl, rfl, fun _ => rfl, hans⟩
  | false =>
    obtain rfl : e = _ := hv.trans (if_neg (by simp [ha]))
    exact ⟨rfl, rfl, rfl, rfl, rfl, rfl, nofun, hans⟩

theorem command_refusesZero (p : Pulse) (m : SiteIn) (c : BitVec 16) (b : Bytes) (s : State)
    (h : Hears s m 0x10 (commandBytes 0 c.toNat b)) :
    ∃ t, exec (.command p m 0 c b) s = .next t ∧ t.site.ledger = s.site.ledger ∧ t.site.newest = s.site.newest ∧
      ∃ e : LedgerEntry, e.id = 0 ∧ e.status = .refusedFormat ∧ s.answered t (e.bytes 0) := by
  refine h.acts (p := p) rfl fun z hz => ?_
  unfold State.commandIn
  rw [if_pos rfl]
  obtain ⟨hl, hn, ha⟩ := hz.answers _ _
  exact ⟨hl, hn, _, rfl, rfl, ha⟩

theorem command_repeats (p : Pulse) (m : SiteIn) (id : Word) (c : BitVec 16) (b : Bytes) (e : LedgerEntry) (s : State)
    (h : Hears s m 0x10 (commandBytes id c.toNat b)) (hid : id ≠ 0) (he : s.entry id = some e) :
    ∃ t, exec (.command p m id c b) s = .next t ∧ t.site.ledger = s.site.ledger ∧ t.site.newest = s.site.newest ∧
      s.answered t (e.bytes (if e.digest = commandDigest c.toNat b then 1 else 3)) := by
  refine h.acts (p := p) rfl fun z hz => ?_
  unfold State.commandIn
  rw [if_neg hid, (hz.entry id).trans he]
  exact hz.answers _ _

theorem command_refusesBusy (p : Pulse) (m : SiteIn) (id : Word) (c : BitVec 16) (b : Bytes) (s : State)
    (h : Hears s m 0x10 (commandBytes id c.toNat b)) (hid : id ≠ 0) (hn : s.entry id = none)
    (hk : s.newSlot = none) :
    ∃ t, exec (.command p m id c b) s = .next t ∧ t.site.ledger = s.site.ledger ∧ t.site.newest = s.site.newest ∧
      ∃ e : LedgerEntry, e.id = id ∧ e.status = .refusedBusy ∧ s.answered t (e.bytes 0) := by
  refine h.acts (p := p) rfl fun z hz => ?_
  unfold State.commandIn
  rw [if_neg hid, (hz.entry id).trans hn, (State.newSlot_congr hz.ledger).trans hk]
  obtain ⟨hl, hnew, ha⟩ := hz.answers _ _
  exact ⟨hl, hnew, _, rfl, rfl, ha⟩

theorem commandStatus_known (p : Pulse) (m : SiteIn) (id : Word) (e : LedgerEntry) (s : State)
    (h : Hears s m 0x12 (le 4 id.toNat)) (he : s.entry id = some e) :
    ∃ t, exec (.commandStatus p m id) s = .next t ∧ t.site.ledger = s.site.ledger ∧ s.answered t (e.bytes 4) := by
  refine h.acts (p := p) rfl fun z hz => ?_
  rw [(hz.entry id).trans he]
  obtain ⟨hl, -, ha⟩ := hz.answers e 4
  exact ⟨hl, ha⟩

theorem commandStatus_unknown (p : Pulse) (m : SiteIn) (id : Word) (s : State) (h : Hears s m 0x12 (le 4 id.toNat))
    (hn : s.entry id = none) :
    ∃ t, exec (.commandStatus p m id) s = .next t ∧ t.site.ledger = s.site.ledger ∧
      ∃ e : LedgerEntry, e.id = id ∧ e.status = .unknown ∧ s.answered t (e.bytes 4) := by
  refine h.acts (p := p) rfl fun z hz => ?_
  rw [(hz.entry id).trans hn]
  obtain ⟨hl, -, ha⟩ := hz.answers _ _
  exact ⟨hl, _, rfl, rfl, ha⟩

/-- Settles O46: one lemma per row; each answers from the state that accepting the message leaves. -/
theorem commandMessagesComplete : Obligations.CommandMessagesComplete :=
  ⟨command_enters, command_refusesZero, command_repeats, command_refusesBusy, commandStatus_known,
    commandStatus_unknown⟩

end Sys2Proof.Machine
end

section
namespace Sys2Proof.Machine

/-! ### Reads and writes that are answered at once (R430, R431) -/

theorem statusRead_answers (p : Pulse) (m : SiteIn) (i : BitVec 16) (b : Bytes) (s : State)
    (h : Hears s m 0x20 (statusReadBytes i.toNat)) (ho : ((s.atP p.val).acceptMsg m).object i.toNat = some b) :
    ∃ t, exec (.statusRead p m i) s = .next t ∧
      t.tells 0x20 (le 6 m.seq ++ [0, 0] ++ le 2 i.toNat ++ [0, 0] ++ b) := by
  refine State.onValid_of_hears (p := p) h rfl ?_
  dsimp only
  rw [ho]
  simp only [Option.isSome_some, if_true, Option.getD_some]
  exact State.send_tells ..

/-- A reply of the window leaves its pages and carries its data. -/
theorem State.windowReply_tells (s : State) (seq : Nat) (st : Status) (page chunk : Nat) (data : Bytes) :
    (s.windowReply seq st page chunk data).site.pages = s.site.pages ∧
      (s.windowReply seq st page chunk data).tells 0x30
        (le 6 seq ++ le 2 st.code ++ le 2 page ++ le 1 chunk ++ le 3 0 ++ data) :=
  ⟨(State.windowReply_frame ..).pages_eq (by decide), State.send_tells ..⟩

theorem Accepted.page {s z : State} {m : SiteIn} (h : Accepted s z m) (g : Nat) : z.page g = s.page g := by
  simp only [State.page, h.pages]

theorem windowRead_answers (p : Pulse) (m : SiteIn) (g : Fin 16384) (n : BitVec 16) (c : Fin 4) (s : State)
    (h : Hears s m 0x30 (windowBytes g.val n.toNat c.val)) (ho : (s.page g.val).owner = .partner)
    (hn : n = 0xFFFF ∨ n.toNat = (s.page g.val).gen) :
    ∃ t, exec (.windowRead p m g n c) s = .next t ∧ t.site.pages = s.site.pages ∧
      t.tells 0x30 (le 6 m.seq ++ [0, 0] ++ le 2 g.val ++ le 1 c.val ++ le 3 0 ++
        slice (s.page g.val).image (1040 * c.val) 1040) := by
  refine h.acts (p := p) rfl fun z hz => ?_
  dsimp only
  rw [hz.page, if_neg (by simp [ho]), if_pos ⟨ho, hn⟩]
  obtain ⟨hp, ht⟩ := State.windowReply_tells z m.seq .ok g.val c.val
    (slice (s.page g.val).image (1040 * c.val) 1040)
  exact ⟨hp.trans hz.pages, ht⟩

theorem windowWrite_writes (p : Pulse) (m : SiteIn) (g : Fin 16384) (n : BitVec 16) (c : Fin 4) (d : Bytes) (s : State)
    (h : Hears s m 0x31 (windowBytes g.val n.toNat c.val ++ d)) (hg : 12288 ≤ g.val)
    (ho : (s.page g.val).owner = .partner) (hn : n.toNat = (s.page g.val).gen) :
    ∃ t, exec (.windowWrite p m g n c d) s = .next t ∧
      t.page g.val = (s.page g.val).putChunk c.val d s.now ∧ (∀ q, q ≠ g.val → t.page q = s.page q) ∧
      t.tells 0x30 (le 6 m.seq ++ [0, 0] ++ le 2 g.val ++ le 1 c.val ++ le 3 0) := by
  refine h.acts (p := p) rfl fun z hz => ?_
  have hin : isInbound g.val = true := by simp [isInbound, hg, g.isLt]
  dsimp only
  rw [hz.page, if_neg (by simp [ho]), if_pos ⟨hin, ho, hn⟩]
  generalize hu : z.modPage g.val (fun x => x.putChunk c.val d z.now) = u
  have hpage : ∀ q, u.page q = if q = g.val then (s.page g.val).putChunk c.val d s.now else s.page q := fun q => by
    rw [← hu, State.modPage_page, hz.page, hz.page, hz.now]
  obtain ⟨hp, ht⟩ := State.windowReply_tells u m.seq .ok g.val c.val []
  have hr : ∀ q, (u.windowReply m.seq .ok g.val c.val []).page q = u.page q := fun q => by
    simp only [State.page, hp]
  refine ⟨(hr _).trans ((hpage _).trans (if_pos rfl)), fun q hq => (hr _).trans ((hpage _).trans (if_neg hq)), ?_⟩
  rw [List.append_nil] at ht
  exact ht

/-! ### Changes of ownership that wait for the window's slot (R428, R432 to R435) -/

/-- A heard request of the partner waits behind those before it, and the pages stay. -/
theorem Hears.asks {o : Host.Outcome State Fault Refusal} {s : State} {p : Pulse} {m : SiteIn} {ty : Nat} {b : Bytes}
    {r : WinReq} (h : Hears s m ty b) (ho : o = ok ((s.atP p.val).onValid m ty b (fun t => t.winAsk r))) :
    ∃ t, o = .next t ∧ t.site.winReqs = s.site.winReqs ++ [r] ∧ t.site.pages = s.site.pages :=
  h.acts ho fun _ hz => ⟨congrArg (· ++ [r]) hz.winReqs, hz.pages⟩

theorem State.winLoss_window (s : State) (stream kind : Nat) :
    (s.winLoss stream kind).site.winReqs = s.site.winReqs ∧ (s.winLoss stream kind).site.pages = s.site.pages := by
  simp [State.winLoss]

theorem inboundPageExpire_asks (p : Pulse) (g : Fin 16384) (s : State) (ho : s.ownsInbound g.val = true)
    (hn : s.pageNamed g.val = false) (hr : (s.page g.val).returned + 60000 ≤ s.now) :
    ∃ t, exec (.inboundPageExpire p g) s = .next t ∧
      t.site.winReqs = s.site.winReqs ++ [.freed [g.val] .failedTimeout] ∧ t.site.pages = s.site.pages := by
  have hn : (!(s.atP p.val).pageNamed g.val) = true := by
    rw [show (s.atP p.val).pageNamed g.val = false from hn]; rfl
  exact next_pos rfl ⟨ho, hr, hn⟩ ⟨_, rfl, State.winLoss_window ..⟩

/-! ### Captures (R438) -/

theorem tripCapture_ends (p : Pulse) (k : StrIx) (b : Bytes) (c : Capture) (s : State) (hc : c ∈ s.site.captures)
    (hk : c.s = k.val) (hr : c.recording = true) (hd : c.frame * 1000 + c.pulse + 19999 ≤ s.now * 1000 + p.val) :
    ∃ t, exec (.tripCapture p k b) s = .next t ∧ t.site.captures.length = s.site.captures.length ∧
      { c with recording := false, data := c.header ++ padTo 480000 b } ∈ t.site.captures :=
  ⟨_, rfl, List.length_map _, List.mem_map.mpr ⟨c, hc, if_pos ⟨hk, hr, hd⟩⟩⟩

/-- Settles O47: one lemma per row; the three requests of the partner share how a request waits. -/
theorem windowMessagesComplete : Obligations.WindowMessagesComplete :=
  ⟨statusRead_answers, windowRead_answers, windowWrite_writes, fun p _ _ _ h => h.asks (p := p) rfl,
    fun p _ _ _ h => h.asks (p := p) rfl, fun p _ _ _ h => h.asks (p := p) rfl, inboundPageExpire_asks,
    tripCapture_ends⟩

end Sys2Proof.Machine
end

section
/-! What each command may change, command by command: the outcome is a next state within what `writes` lists. -/

namespace Sys2Proof.Machine

/-- The time but for the pulse of the present instant; nothing of it for a command that sets the time. -/
def State.clock (b : Bool) (s : State) : Option TimeSt := bif b then none else some { s.time with pulse := 0 }

/-- The same, in a second form: where the two forms are compared, the rest of the state is never looked at. -/
def State.clockR (b : Bool) (s : State) : Option TimeSt := bif !b then some { s.time with pulse := 0 } else none

theorem State.clockR_eq (b : Bool) (s : State) : s.clockR b = s.clock b := by cases b <;> rfl

/-- A change within the frame `W` that leaves the clock. -/
structure Paced (b : Bool) (W : List View) (s t : State) : Prop where
  frame : Frame W s t
  clock : s.clock b = t.clock b

theorem Paced.refl (b : Bool) (W : List View) (s : State) : Paced b W s s := ⟨.refl _ _, rfl⟩

theorem Paced.trans {b : Bool} {W : List View} {s u t : State} (h : Paced b W s u) (g : Paced b W u t) :
    Paced b W s t :=
  ⟨h.frame.trans g.frame, h.clock.trans g.clock⟩

/-- A change framed within `W` leaves the clock where it does not list the time. -/
theorem Paced.of_frame {b : Bool} {W V : List View} {s t : State} (g : Frame V s t)
    (hv : (V.all W.contains && (b || !V.contains .time)) = true) : Paced b W s t := by
  simp only [Bool.and_eq_true, Bool.or_eq_true, Bool.not_eq_true', List.contains_eq_mem, decide_eq_false_iff_not] at hv
  refine ⟨g.mono (by simpa using hv.1), ?_⟩
  rcases hv.2 with rfl | ht
  · rfl
  · simp [State.clock, g.time_eq ht]

/-- A change is followed from the state it begins in. -/
theorem Paced.start {b : Bool} {W : List View} {s t : State} (h : Paced b W s s → Paced b W s t) : Paced b W s t :=
  h (.refl ..)

theorem Paced.mono {b : Bool} {W V : List View} {s t : State} (h : Paced b V s t) (hv : V.all W.contains = true) :
    Paced b W s t := ⟨h.frame.mono hv, h.clock⟩

/-- A change goes on over an operation whose own frame is within it. -/
theorem Paced.after {b : Bool} {W V : List View} {s u t : State} (g : Frame V u t) (h : Paced b W s u)
    (hv : (V.all W.contains && (b || !V.contains .time)) = true) : Paced b W s t :=
  h.trans (.of_frame g hv)

/-- A record update goes on within a frame that lists what it changes. -/
theorem Paced.updL {b : Bool} {W : List View} {s u t : State} (h : Paced b W s u)
    (e : (u.mask W, u.clock b) = (t.maskR W, t.clockR b)) (l : Lasting u t) : Paced b W s t :=
  ⟨h.frame.updL (Prod.mk.inj e).1 l, h.clock.trans ((Prod.mk.inj e).2.trans (t.clockR_eq b))⟩

theorem Paced.upd {b : Bool} {W : List View} {s u t : State} (h : Paced b W s u)
    (e : (u.mask W, u.lasting, u.clock b) = (t.maskR W, t.lasting, t.clockR b)) : Paced b W s t :=
  ⟨h.frame.upd (Prod.ext (Prod.mk.inj e).1 (Prod.mk.inj (Prod.mk.inj e).2).1),
    h.clock.trans ((Prod.mk.inj (Prod.mk.inj e).2).2.trans (t.clockR_eq b))⟩

/-- The pulse of the present instant. -/
theorem Paced.atP {b : Bool} {W : List View} {s u : State} (p : Nat) (h : Paced b W s u)
    (hw : W.contains .time = true) : Paced b W s (u.atP p) :=
  ⟨h.frame.trans ((State.atP_frame u p).mono (by simpa using hw)), h.clock⟩

theorem Paced.ite {b : Bool} {W : List View} {s x y : State} {c : Prop} [Decidable c] (hx : Paced b W s x)
    (hy : Paced b W s y) : Paced b W s (if c then x else y) := by
  split
  · exact hx
  · exact hy

theorem Paced.cond {b : Bool} {W : List View} {s x y : State} {c : Bool} (hx : Paced b W s x) (hy : Paced b W s y) :
    Paced b W s (bif c then x else y) := by
  cases c
  · exact hy
  · exact hx

theorem Paced.foldl {α : Type} {b : Bool} {W : List View} {s u : State} {f : State → α → State} {l : List α}
    (hu : Paced b W s u) (hf : ∀ x a, Paced b W s x → Paced b W s (f x a)) : Paced b W s (l.foldl f u) := by
  induction l generalizing u with
  | nil => exact hu
  | cons a l ih => exact ih (hf u a hu)

/-- The same over a fold whose accumulator holds the state beside a result. -/
theorem Paced.fold_fst {α β : Type} {b : Bool} {W : List View} {s : State} {u : State × β}
    {f : State × β → α → State × β} {l : List α} (hu : Paced b W s u.1) (hf : ∀ x a, Paced b W s x.1 → Paced b W s (f x a).1) :
    Paced b W s (l.foldl f u).1 := by
  induction l generalizing u with
  | nil => exact hu
  | cons a l ih => exact ih (hf u a hu)

theorem Paced.getD_map {α : Type} {b : Bool} {W : List View} {s d : State} {f : α → State} {o : Option α}
    (hd : Paced b W s d) (hf : ∀ x, Paced b W s (f x)) : Paced b W s ((o.map f).getD d) := by
  cases o with
  | none => exact hd
  | some x => exact hf x

/-- A command that nothing refuses passes every check of its owner. -/
theorem State.pass_of_firstFail {s : State} {e : LedgerEntry} {c : Checks} (h : s.firstFail e c = none) :
    c.pass = true := by
  simp only [State.firstFail] at h
  grind [Checks.pass]

/-- A partner command changes what its work changes, beside the pulse and its ledger entry; its work begins only where
its checks pass. -/
theorem Paced.evaluateChecked {b : Bool} {W : List View} {s u : State} {id : Word} {code steps : Nat}
    {checks : State → LedgerEntry → Checks} {strState : State → LedgerEntry → Nat}
    {go : State → LedgerEntry → State}
    (h : Paced b W s u)
    (hgo : ∀ e, (checks (u.atP 0) e).pass = true → Paced b W s ((u.atP 0).cmdBegin id steps) →
      Paced b W s (go ((u.atP 0).cmdBegin id steps) e))
    (hw : [View.time, .pair, .site, .jnl, .ledger].all W.contains = true) :
    Paced b W s (u.evaluate id code steps checks strState go) := by
  unfold State.evaluate
  split
  · exact h
  · next e _ =>
    refine .ite ?_ h
    have h1 : Paced b W s (u.atP 0) := h.atP 0 (by simp_all)
    extract_lets
    split
    · exact h1.after (State.cmdRefuse_frame ..) (by simp_all)
    · next hf =>
      exact hgo e (State.pass_of_firstFail hf) (h1.after (State.cmdBegin_frame ..) (by simp_all))

theorem Paced.evaluate {b : Bool} {W : List View} {s u : State} {id : Word} {code steps : Nat}
    {checks : State → LedgerEntry → Checks} {strState : State → LedgerEntry → Nat}
    {go : State → LedgerEntry → State}
    (h : Paced b W s u) (hgo : ∀ x e, Paced b W s x → Paced b W s (go x e))
    (hw : [View.time, .pair, .site, .jnl, .ledger].all W.contains = true) :
    Paced b W s (u.evaluate id code steps checks strState go) :=
  h.evaluateChecked (fun e _ hx => hgo _ e hx) hw

theorem Paced.evaluateStrings {b : Bool} {W : List View} {s u : State} {id : Word} {code steps : Nat}
    {checks : State → LedgerEntry → Checks} {ok : State → LedgerEntry → Nat → Option Status}
    {go : State → LedgerEntry → List Nat → List (Nat × Status) → State} (h : Paced b W s u)
    (hgo : ∀ x e l r, Paced b W s x → Paced b W s (go x e l r))
    (hw : [View.time, .pair, .site, .jnl, .ledger].all W.contains = true) :
    Paced b W s (u.evaluateStrings id code steps checks ok go) := by
  unfold State.evaluateStrings
  split
  · exact h
  · refine .ite ?_ h
    have h1 : Paced b W s (u.atP 0) := h.atP 0 (by simp_all)
    extract_lets
    split
    · exact h1.after (State.cmdRefuse_frame ..) (by simp_all)
    · exact hgo _ _ _ _ (h1.after (State.cmdBegin_frame ..) (by simp_all))

/-- A reply that passes goes on with its work; any other fails the transaction at most. -/
theorem Paced.replyTake {b : Bool} {W : List View} {s u : State} {p type : Nat} {h : LinkHead} {payload : Bytes}
    {act : SecTx → State} (g : Paced b W s u) (ha : ∀ t, Paced b W s (act t))
    (hw : [View.mode, .link, .cfe, .pair, .site, .upd, .jnl, .ledger].all W.contains = true) :
    Paced b W s (u.replyTake p type h payload act) := by
  have fails : ∀ x : State, Paced b W s x → Paced b W s (x.secFail p) := fun x hx =>
    hx.after (State.secFail_frame ..) (by simp [hw])
  have counts : ∀ f, Paced b W s (u.modLnk p f) := fun f => g.after (State.modLnk_frame ..) (by simp_all)
  unfold State.replyTake
  refine .ite (fails _ (counts _)) (.ite (fails _ (counts _)) ?_)
  split
  · exact g
  · exact .ite (ha _) (fails _ g)

/-- A message that passes every check of the session goes on with its work; any other is counted. -/
theorem Paced.onValid {b : Bool} {W : List View} {s u : State} {m : SiteIn} {ty : Nat} {payload : Bytes}
    {go : State → State} (h : Paced b W s u) (hgo : ∀ x, Paced b W s x → Paced b W s (go x))
    (hw : [View.site, .jnl, .session].all W.contains = true) : Paced b W s (u.onValid m ty payload go) := by
  have counts : ∀ x, Frame [.site] u x → Paced b W s x := fun x f => h.after f (by simp_all)
  unfold State.onValid
  refine .ite h (.ite (counts _ (State.countFmt_frame _)) (.ite (counts _ (.upd (.refl _ _) rfl))
    (.ite (counts _ (.upd (.refl _ _) rfl)) (hgo _ (h.after (State.acceptMsg_frame ..) (by simp_all))))))

/-- The command's outcome is a next state, and its change is within what the command writes. -/
structure Runs (i : Instr) (s : State) (o : Host.Outcome State Fault Refusal) : Prop where
  out : ∃ t, o = .next t ∧ Paced (setsTime i) (writes i) s t

theorem Runs.ok {i : Instr} {s u : State} (h : Paced (setsTime i) (writes i) s u) : Runs i s (ok u) := ⟨u, rfl, h⟩

theorem Runs.ite {i : Instr} {s : State} {x y : Host.Outcome State Fault Refusal} {c : Prop} [Decidable c]
    (hx : Runs i s x) (hy : Runs i s y) : Runs i s (if c then x else y) := by
  split
  · exact hx
  · exact hy

/-- The changes of a command are followed from the state it finds. -/
theorem Runs.start {i : Instr} {s : State} {o : Host.Outcome State Fault Refusal}
    (h : Paced (setsTime i) (writes i) s s → Runs i s o) : Runs i s o := h (.refl ..)

end Sys2Proof.Machine
end

section
namespace Sys2Proof.Machine

/-! ### Front ends, links and measurement (chapters 4 to 6) -/

theorem execUploadReceived_runs (p : Pulse) (port : PortIx) (u : UpFrame) (old : List MemErr) (s : State) :
    Runs (.uploadReceived p port u old) s (execUploadReceived p port u old s) := by
  unfold execUploadReceived
  refine .start fun h0 => ?_
  extract_lets x1 x2 x3 x4 x5 x6 x7 x8
  have hx1 : Paced _ _ _ x1 := .atP _ h0 rfl
  have hx6 : Paced _ _ _ x6 := .after (State.pairSend_frame ..) (.after (State.surveySeen_frame ..)
    (.after (State.upGood_frame ..) hx1 rfl) rfl) rfl
  have hx7 : Paced _ _ _ x7 := .after (State.oldWords_frame ..) hx6 rfl
  have hx8 : Paced _ _ _ x8 := .ite hx7 (.after (State.ownUse_frame ..) hx7 rfl)
  exact .ok (.ite hx1 (.ite (.after (State.upBad_frame ..) hx1 rfl) (.ite hx1 (.ite
    (.after (State.markhorJudge_frame ..) hx8 rfl) (.after (State.testTake_frame ..) hx8 rfl)))))

theorem execRepeatSend_runs (port : PortIx) (s : State) :
    Runs (.repeatSend port) s (execRepeatSend port s) := by
  unfold execRepeatSend
  refine .start fun h0 => ?_
  extract_lets x1 x2
  have hx1 : Paced _ _ _ x1 := .atP _ h0 rfl
  exact .ok (.ite (.after (State.modLnk_frame ..) hx1 rfl) hx1)

theorem execLinkLost_runs (port : PortIx) (s : State) :
    Runs (.linkLost port) s (execLinkLost port s) := by
  unfold execLinkLost
  refine .start fun h0 => ?_
  extract_lets x1 x2
  have hx1 : Paced _ _ _ x1 := .atP _ h0 rfl
  exact .ok (.ite (.after (State.modLnk_frame ..) (.after (State.setLink_frame ..) hx1 rfl) rfl) hx1)

theorem execLinkRecovered_runs (port : PortIx) (s : State) :
    Runs (.linkRecovered port) s (execLinkRecovered port s) := by
  unfold execLinkRecovered
  refine .start fun h0 => ?_
  extract_lets x1 x2
  have hx1 : Paced _ _ _ x1 := .atP _ h0 rfl
  exact .ok (.ite (.after (State.setLink_frame ..) hx1 rfl) hx1)

theorem execLinkWakeRetry_runs (port : PortIx) (s : State) :
    Runs (.linkWakeRetry port) s (execLinkWakeRetry port s) := by
  unfold execLinkWakeRetry
  refine .start fun h0 => ?_
  extract_lets x1 x2
  have hx1 : Paced _ _ _ x1 := .atP _ h0 rfl
  refine .ok ?_
  split
  · exact .ite (.after (State.sendWake_frame ..) hx1 rfl) hx1
  · exact hx1

theorem execLinkLostWake_runs (port : PortIx) (s : State) :
    Runs (.linkLostWake port) s (execLinkLostWake port s) := by
  unfold execLinkLostWake
  refine .start fun h0 => ?_
  extract_lets x1 x2
  have hx1 : Paced _ _ _ x1 := .atP _ h0 rfl
  exact .ok (.ite (.after (State.sendWake_frame ..) hx1 rfl) hx1)

theorem execLinkAlignRetry_runs (port : PortIx) (s : State) :
    Runs (.linkAlignRetry port) s (execLinkAlignRetry port s) := by
  unfold execLinkAlignRetry
  refine .start fun h0 => ?_
  extract_lets x1 x2
  have hx1 : Paced _ _ _ x1 := .atP _ h0 rfl
  exact .ok (.ite (.after (State.measureFailed_frame ..) hx1 rfl) hx1)

theorem execLinkEchoInterval_runs (port : PortIx) (s : State) :
    Runs (.linkEchoInterval port) s (execLinkEchoInterval port s) := by
  unfold execLinkEchoInterval
  refine .start fun h0 => ?_
  extract_lets x1 x2
  have hx1 : Paced _ _ _ x1 := .atP _ h0 rfl
  exact .ok (.ite (.after (State.modLnk_frame ..) hx1 rfl) hx1)

theorem execEchoReply_runs (p : Pulse) (port : PortIx) (h : LinkHead) (ticks : Nat) (s : State) :
    Runs (.echoReply p port h ticks) s (execEchoReply p port h ticks s) := by
  unfold execEchoReply
  refine .start fun h0 => ?_
  extract_lets x1 x2 x3
  have hx1 : Paced _ _ _ x1 := .atP _ h0 rfl
  exact .ok (.after (State.secStart_frame ..) (.replyTake hx1 (fun _ => (.ite
    (.after (State.secFail_frame ..) hx1 rfl) (.after (State.measureEnd_frame ..) (.after (State.modLnk_frame ..)
    (.after (State.secClear_frame ..) hx1 rfl) rfl) rfl))) rfl) rfl)

theorem execRegData_runs (p : Pulse) (port : PortIx) (h : LinkHead) (rstat addr count : Nat) (data : List Word)
    (s : State) :
    Runs (.regData p port h rstat addr count data) s (execRegData p port h rstat addr count data s) := by
  unfold execRegData
  refine .start fun h0 => ?_
  extract_lets x1 x2
  have hx1 : Paced _ _ _ x1 := .atP _ h0 rfl
  exact .ok (.after (State.secStart_frame ..) (.replyTake hx1 (fun _ => (.ite (.after (State.secDone_frame ..)
    (.after (State.secClear_frame ..) hx1 rfl) rfl) (.after (State.secFail_frame ..) hx1 rfl))) rfl) rfl)

theorem execFwAck_runs (p : Pulse) (port : PortIx) (h : LinkHead) (rstat blockNo : Nat) (s : State) :
    Runs (.fwAck p port h rstat blockNo) s (execFwAck p port h rstat blockNo s) := by
  unfold execFwAck
  refine .start fun h0 => ?_
  extract_lets x1 x2
  have hx1 : Paced _ _ _ x1 := .atP _ h0 rfl
  exact .ok (.after (State.secStart_frame ..) (.replyTake hx1 (fun _ => (by
    split
    · exact .ite (.after (State.gotFwAck_frame ..) hx1 rfl) (.after (State.secFail_frame ..) hx1 rfl)
    · exact (.after (State.secFail_frame ..) hx1 rfl))) rfl) rfl)

theorem execSecondaryTimeout_runs (p : Pulse) (port : PortIx) (s : State) :
    Runs (.secondaryTimeout p port) s (execSecondaryTimeout p port s) := by
  unfold execSecondaryTimeout
  refine .start fun h0 => ?_
  exact .ok (.after (State.secStart_frame ..) (.after (State.secFail_frame ..) (.atP _ h0 rfl) rfl) rfl)

theorem execLinkAlarmTone_runs (p : Pulse) (port : PortIx) (s : State) :
    Runs (.linkAlarmTone p port) s (execLinkAlarmTone p port s) := by
  unfold execLinkAlarmTone
  refine .start fun h0 => ?_
  extract_lets x1 x2 x3 x4
  have hx1 : Paced _ _ _ x1 := .atP _ h0 rfl
  have hx3 : Paced _ _ _ x3 := .after (State.modLnk_frame ..) (.after (State.ev_frame ..) hx1 rfl) rfl
  exact .ok (.ite (.upd hx3 rfl) hx3)

theorem execOwTestStart_runs (port : PortIx) (s : State) :
    Runs (.owTestStart port) s (execOwTestStart port s) := by
  unfold execOwTestStart
  refine .start fun h0 => ?_
  extract_lets x1 x2 x3 x4
  have hx1 : Paced _ _ _ x1 := .atP _ h0 rfl
  exact .ok (.ite (.after (State.testStart_frame ..) hx1 rfl) (.ite (.after (State.testStart_frame ..) hx1 rfl) hx1))

theorem execOwTestEvaluate_runs (port : PortIx) (s : State) :
    Runs (.owTestEvaluate port) s (execOwTestEvaluate port s) := by
  unfold execOwTestEvaluate
  refine .start fun h0 => ?_
  extract_lets x1 x2
  have hx1 : Paced _ _ _ x1 := .atP _ h0 rfl
  refine .ok ?_
  split
  · exact hx1
  · extract_lets x3
    exact .ite hx1 (.ite (.after (State.testGood_frame ..) hx1 rfl) (.after (State.testVoid_frame ..) hx1 rfl))

theorem execOwTestRetry_runs (port : PortIx) (s : State) :
    Runs (.owTestRetry port) s (execOwTestRetry port s) := by
  unfold execOwTestRetry
  refine .start fun h0 => ?_
  extract_lets x1 x2 x3
  have hx1 : Paced _ _ _ x1 := .atP _ h0 rfl
  refine .ok ?_
  split
  · exact hx1
  · exact .ite hx1 (.ite (.ite (.after (State.modMf_frame ..) hx1 rfl) hx1) (.ite
      (.after (State.modMf_frame ..) hx1 rfl) (.after (State.testStart_frame ..) hx1 rfl)))

theorem execBlockTriggeredTest_runs (port : PortIx) (s : State) :
    Runs (.blockTriggeredTest port) s (execBlockTriggeredTest port s) := by
  unfold execBlockTriggeredTest
  refine .start fun h0 => ?_
  extract_lets x1 x2 x3
  have hx1 : Paced _ _ _ x1 := .atP _ h0 rfl
  exact .ok (.ite (.after (State.testStart_frame ..) hx1 rfl) hx1)

theorem execMeasBlockFault_runs (p : Pulse) (port : PortIx) (s : State) :
    Runs (.measBlockFault p port) s (execMeasBlockFault p port s) := by
  unfold execMeasBlockFault
  refine .start fun h0 => ?_
  extract_lets x1 x2 x3
  have hx1 : Paced _ _ _ x1 := .atP _ h0 rfl
  exact .ok (.ite (.after (State.modMf_frame ..) (.after (State.blockEvent_frame ..)
    (.after (State.blkFlags_frame ..) hx1 rfl) rfl) rfl) hx1)

theorem execBlkClear_runs (p : Pulse) (port : PortIx) (s : State) :
    Runs (.blkClear p port) s (execBlkClear p port s) := by
  unfold execBlkClear
  refine .start fun h0 => ?_
  extract_lets x1 x2 x3
  have hx1 : Paced _ _ _ x1 := .atP _ h0 rfl
  exact .ok (.ite (.after (State.modMf_frame ..) (.after (State.blockEvent_frame ..)
    (.after (State.blkFlags_frame ..) hx1 rfl) rfl) rfl) hx1)

theorem execStringSumFault_runs (str : StrIx) (s : State) :
    Runs (.stringSumFault str) s (execStringSumFault str s) := by
  unfold execStringSumFault
  refine .start fun h0 => ?_
  extract_lets x1 x2 x3 x4 x5 x6
  have hx1 : Paced _ _ _ x1 := .atP _ h0 rfl
  have hx5 : Paced _ _ _ x5 := .after (State.blockEvent_frame ..) hx1 rfl
  have hx6 : Paced _ _ _ x6 := .after (State.modMs_frame ..) hx5 rfl
  exact .ok (.ite (.after (State.wireDeclared_frame ..) (.foldl hx6 fun _ _ h1 =>
    (.after (State.wireFlags_frame ..) h1 rfl)) rfl) hx1)

theorem execWireOpenDeadline_runs (p : Pulse) (str : StrIx) (s : State) :
    Runs (.wireOpenDeadline p str) s (execWireOpenDeadline p str s) := by
  unfold execWireOpenDeadline
  refine .start fun h0 => ?_
  extract_lets x1 x2 x3 x4
  have hx1 : Paced _ _ _ x1 := .atP _ h0 rfl
  have hx4 : Paced _ _ _ x4 := .ite (.after (State.wireOpen_frame ..) hx1 rfl) hx1
  exact .ok (.ite (.after (State.thOpen_frame ..) hx4 rfl) hx4)

theorem execThermistorOpenFault_runs (p : Pulse) (port : PortIx) (t : Fin 16) (s : State) :
    Runs (.thermistorOpenFault p port t) s (execThermistorOpenFault p port t s) := by
  unfold execThermistorOpenFault
  refine .start fun h0 => ?_
  extract_lets x1 x2 x3 x4 x5 x6 x7
  have hx1 : Paced _ _ _ x1 := .atP _ h0 rfl
  have hx5 : Paced _ _ _ x5 := .ite (.upd hx1 rfl) hx1
  have hx7 : Paced _ _ _ x7 := .ite hx5 (.after (State.thEvent_frame ..) hx5 rfl)
  exact .ok (.ite (.after (State.outOfService_frame ..) (.upd hx7 rfl) rfl) hx5)

theorem execThermistorDisagree_runs (p : Pulse) (port : PortIx) (t : Fin 16) (s : State) :
    Runs (.thermistorDisagree p port t) s (execThermistorDisagree p port t s) := by
  unfold execThermistorDisagree
  refine .start fun h0 => ?_
  extract_lets x1 x2 x3 x4
  have hx1 : Paced _ _ _ x1 := .atP _ h0 rfl
  have hx4 : Paced _ _ _ x4 := .after (State.thEvent_frame ..) hx1 rfl
  refine .ok ?_
  split
  · exact hx1
  · exact .ite (.after (State.outOfService_frame ..) (.upd hx4 rfl) rfl) hx1

theorem execThermistorRestored_runs (p : Pulse) (port : PortIx) (t : Fin 16) (s : State) :
    Runs (.thermistorRestored p port t) s (execThermistorRestored p port t s) := by
  unfold execThermistorRestored
  refine .start fun h0 => ?_
  extract_lets x1 x2 x3 x4
  have hx1 : Paced _ _ _ x1 := .atP _ h0 rfl
  have hx4 : Paced _ _ _ x4 := .after (State.thEvent_frame ..) hx1 rfl
  refine .ok ?_
  split
  · exact hx1
  · exact .ite (.after (State.outOfService_frame ..) (.upd hx4 rfl) rfl) hx1

theorem execMarkhorThRestore_runs (p : Pulse) (port : PortIx) (t : Fin 16) (s : State) :
    Runs (.markhorThRestore p port t) s (execMarkhorThRestore p port t s) := by
  unfold execMarkhorThRestore
  refine .start fun h0 => ?_
  extract_lets x1 x2 x3
  have hx1 : Paced _ _ _ x1 := .atP _ h0 rfl
  exact .ok (.ite (.after (State.outOfService_frame ..) (.upd hx1 rfl) rfl) hx1)

theorem execFeSample_runs (port : PortIx) (side : Slot) (h : LinkHead) (delay : Nat) (conv : Bool) (inp : FeIn)
    (owBad : BitVec 65) (s : State) :
    Runs (.feSample port side h delay conv inp owBad) s (execFeSample port side h delay conv inp owBad s) := by
  unfold execFeSample
  refine .start fun h0 => ?_
  extract_lets x1
  exact .ok (.after (State.feReceive_frame ..) (.atP _ h0 rfl) rfl)

theorem execFeControl_runs (port : PortIx) (side : Slot) (h : LinkHead) (mask : BitVec 64) (pat : Fin 3)
    (sleep : Bool) (writes : List (Nat × Word)) (fw : Verdict) (ver : Word) (s : State) :
    Runs (.feControl port side h mask pat sleep writes fw ver) s
      (execFeControl port side h mask pat sleep writes fw ver s) := by
  unfold execFeControl
  refine .start fun h0 => ?_
  extract_lets x1
  have hx1 : Paced _ _ _ x1 := .atP _ h0 rfl
  exact .ok (.after (State.feReceive_frame ..) hx1 rfl)

theorem execFeControlMissing_runs (port : PortIx) (s : State) :
    Runs (.feControlMissing port) s (execFeControlMissing port s) := by
  unfold execFeControlMissing
  refine .start fun h0 => ?_
  extract_lets x1
  have hx1 : Paced _ _ _ x1 := .atP _ h0 rfl
  exact .ok (.after (State.modFee_frame ..) hx1 rfl)

theorem execFeUpload_runs (port : PortIx) (s : State) :
    Runs (.feUpload port) s (execFeUpload port s) := by
  unfold execFeUpload
  refine .start fun h0 => ?_
  extract_lets x1
  have hx1 : Paced _ _ _ x1 := .atP _ h0 rfl
  exact .ok (.after (State.modFee_frame ..) hx1 rfl)

theorem execFeRepeat_runs (p : Pulse) (port : PortIx) (side : Slot) (h : LinkHead) (s : State) :
    Runs (.feRepeat p port side h) s (execFeRepeat p port side h s) := by
  unfold execFeRepeat
  refine .start fun h0 => ?_
  exact .ok (.after (State.feReceive_frame ..) (.atP _ h0 rfl) rfl)

theorem execFeRegRead_runs (p : Pulse) (port : PortIx) (side : Slot) (h : LinkHead) (addr : Nat) (count : Fin 33)
    (s : State) :
    Runs (.feRegRead p port side h addr count) s (execFeRegRead p port side h addr count s) := by
  unfold execFeRegRead
  refine .start fun h0 => ?_
  extract_lets x1
  have hx1 : Paced _ _ _ x1 := .atP _ h0 rfl
  exact .ok (.after (State.feReceive_frame ..) hx1 rfl)

theorem execFeRegWrite_runs (p : Pulse) (port : PortIx) (side : Slot) (h : LinkHead) (addr : Nat)
    (data : List Word) (fw : Verdict) (ver : Word) (s : State) :
    Runs (.feRegWrite p port side h addr data fw ver) s (execFeRegWrite p port side h addr data fw ver s) := by
  unfold execFeRegWrite
  refine .start fun h0 => ?_
  exact .ok (.after (State.feWrite_frame ..) (.atP _ h0 rfl) rfl)

theorem execFeWearCommit_runs (p : Pulse) (port : PortIx) (side : Slot) (h : LinkHead) (crc : Word) (s : State) :
    Runs (.feWearCommit p port side h crc) s (execFeWearCommit p port side h crc s) := by
  unfold execFeWearCommit
  refine .start fun h0 => ?_
  exact .ok (.after (State.feWrite_frame ..) (.atP _ h0 rfl) rfl)

theorem execFeFwRestart_runs (p : Pulse) (port : PortIx) (side : Slot) (h : LinkHead) (sel : Fin 2) (fw : Verdict)
    (ver : Word) (s : State) :
    Runs (.feFwRestart p port side h sel fw ver) s (execFeFwRestart p port side h sel fw ver s) := by
  unfold execFeFwRestart
  refine .start fun h0 => ?_
  exact .ok (.after (State.feWrite_frame ..) (.atP _ h0 rfl) rfl)

theorem execFeAlarmClear_runs (p : Pulse) (port : PortIx) (side : Slot) (h : LinkHead) (v : Word) (s : State) :
    Runs (.feAlarmClear p port side h v) s (execFeAlarmClear p port side h v s) := by
  unfold execFeAlarmClear
  refine .start fun h0 => ?_
  exact .ok (.after (State.feWrite_frame ..) (.atP _ h0 rfl) rfl)

theorem execFeFwBlock_runs (p : Pulse) (port : PortIx) (side : Slot) (h : LinkHead) (bank blockNo : Nat)
    (data : Bytes) (s : State) :
    Runs (.feFwBlock p port side h bank blockNo data) s (execFeFwBlock p port side h bank blockNo data s) := by
  unfold execFeFwBlock
  refine .start fun h0 => ?_
  extract_lets x1
  have hx1 : Paced _ _ _ x1 := .atP _ h0 rfl
  exact .ok (.after (State.feReceive_frame ..) hx1 rfl)

theorem execFeEcho_runs (p : Pulse) (port : PortIx) (side : Slot) (h : LinkHead) (s : State) :
    Runs (.feEcho p port side h) s (execFeEcho p port side h s) := by
  unfold execFeEcho
  refine .start fun h0 => ?_
  extract_lets x1
  have hx1 : Paced _ _ _ x1 := .atP _ h0 rfl
  exact .ok (.after (State.feReceive_frame ..) hx1 rfl)

theorem execFeSleepEntry_runs (port : PortIx) (s : State) :
    Runs (.feSleepEntry port) s (execFeSleepEntry port s) := by
  unfold execFeSleepEntry
  refine .start fun h0 => ?_
  extract_lets x1
  have hx1 : Paced _ _ _ x1 := .atP _ h0 rfl
  exact .ok (.after (State.modFee_frame ..) hx1 rfl)

theorem execFeSleepTimeout_runs (p : Pulse) (port : PortIx) (s : State) :
    Runs (.feSleepTimeout p port) s (execFeSleepTimeout p port s) := by
  unfold execFeSleepTimeout
  refine .start fun h0 => ?_
  extract_lets x1
  have hx1 : Paced _ _ _ x1 := .atP _ h0 rfl
  exact .ok (.after (State.modFee_frame ..) hx1 rfl)

theorem execFeSleepConversion_runs (p : Pulse) (port : PortIx) (inp : FeIn) (s : State) :
    Runs (.feSleepConversion p port inp) s (execFeSleepConversion p port inp s) := by
  unfold execFeSleepConversion
  refine .start fun h0 => ?_
  extract_lets x1
  have hx1 : Paced _ _ _ x1 := .atP _ h0 rfl
  exact .ok (.after (State.modFee_frame ..) hx1 rfl)

theorem execFeAlarmToneSend_runs (p : Pulse) (port : PortIx) (waking : Bool) (s : State) :
    Runs (.feAlarmToneSend p port waking) s (execFeAlarmToneSend p port waking s) := by
  unfold execFeAlarmToneSend
  refine .start fun h0 => ?_
  extract_lets x1 x2
  have hx1 : Paced _ _ _ x1 := .atP _ h0 rfl
  exact .ok (.after (State.modFee_frame ..) hx1 rfl)

theorem execFeWake_runs (p : Pulse) (port : PortIx) (s : State) :
    Runs (.feWake p port) s (execFeWake p port s) := by
  unfold execFeWake
  refine .start fun h0 => ?_
  extract_lets x1
  have hx1 : Paced _ _ _ x1 := .atP _ h0 rfl
  exact .ok (.after (State.modFee_frame ..) hx1 rfl)

theorem execFeAuthorityExpiry_runs (p : Pulse) (port : PortIx) (side : Slot) (s : State) :
    Runs (.feAuthorityExpiry p port side) s (execFeAuthorityExpiry p port side s) := by
  unfold execFeAuthorityExpiry
  refine .start fun h0 => ?_
  extract_lets x1
  have hx1 : Paced _ _ _ x1 := .atP _ h0 rfl
  exact .ok (.after (State.modFee_frame ..) hx1 rfl)

theorem execFeWearCommitDone_runs (p : Pulse) (port : PortIx) (s : State) :
    Runs (.feWearCommitDone p port) s (execFeWearCommitDone p port s) := by
  unfold execFeWearCommitDone
  refine .start fun h0 => ?_
  extract_lets x1
  have hx1 : Paced _ _ _ x1 := .atP _ h0 rfl
  exact .ok (.after (State.modFee_frame ..) hx1 rfl)

theorem execFeFwBlockProgrammed_runs (p : Pulse) (port : PortIx) (s : State) :
    Runs (.feFwBlockProgrammed p port) s (execFeFwBlockProgrammed p port s) := by
  unfold execFeFwBlockProgrammed
  refine .start fun h0 => ?_
  extract_lets x1
  have hx1 : Paced _ _ _ x1 := .atP _ h0 rfl
  exact .ok (.after (State.modFee_frame ..) hx1 rfl)

theorem execFePowerOn_runs (p : Pulse) (port : PortIx) (cause : FeCause) (fellBack : Bool) (newer older : Verdict)
    (s : State) :
    Runs (.fePowerOn p port cause fellBack newer older) s (execFePowerOn p port cause fellBack newer older s) := by
  unfold execFePowerOn
  refine .start fun h0 => ?_
  extract_lets x1
  have hx1 : Paced _ _ _ x1 := .atP _ h0 rfl
  exact .ok (.after (State.modFee_frame ..) hx1 rfl)

theorem execPortResult_runs (s : State) :
    Runs .portResult s (execPortResult s) := by
  unfold execPortResult
  refine .start fun h0 => ?_
  extract_lets x1 x2 x3 x4
  have hx1 : Paced _ _ _ x1 := .after (State.restWakeAll_frame ..) (.atP _ h0 rfl) rfl
  have hx3 : Paced _ _ _ x3 := .foldl hx1 fun _ _ h1 => (.after (State.portAsk_frame ..)
    (.after (State.flagCells_frame ..) (.after (State.portWoken_frame ..)
    (.after (State.portCount_frame ..) h1 rfl) rfl) rfl) rfl)
  have hx4 : Paced _ _ _ x4 := .foldl hx3 fun _ _ h2 => (.after (State.sumCompare_frame ..) h2 rfl)
  exact .ok (.foldl hx4 fun _ _ h3 => (.after (State.secStart_frame ..) h3 rfl))

theorem execRestWakeBurst_runs (s : State) :
    Runs .restWakeBurst s (execRestWakeBurst s) := by
  unfold execRestWakeBurst
  refine .start fun h0 => ?_
  extract_lets x1 x2 x3
  have hx1 : Paced _ _ _ x1 := .atP _ h0 rfl
  have hx2 : Paced _ _ _ x2 := .foldl hx1 fun _ _ h1 => (.after (State.wakePort_frame ..) h1 rfl)
  exact .ok (.ite (.upd hx2 rfl) hx1)

theorem execTierPermit_runs (s : State) :
    Runs .tierPermit s (execTierPermit s) := by
  unfold execTierPermit
  refine .start fun h0 => ?_
  extract_lets x1
  have hx1 : Paced _ _ _ x1 := .atP _ h0 rfl
  exact .ok (.foldl hx1 fun _ _ h1 => (.after (State.tierPermit_frame ..) h1 rfl))

end Sys2Proof.Machine
end

section
namespace Sys2Proof.Machine

/-! ### Estimation, thermal model, Herd and envelope (chapters 7 to 9, 12) -/

theorem execEstimationPass_runs (late : Nat) (s : State) :
    Runs (.estimationPass late) s (execEstimationPass late s) := by
  unfold execEstimationPass
  refine .start fun h0 => ?_
  extract_lets x1 x2 x3 x4 x5 x6 x7 x8 x9 x10 x11 x12 x13 x14 x15 x16 x17 x18 x19 x20 x21 x22 x23
  have hx1 : Paced _ _ _ x1 := .atP _ h0 rfl
  have hx11 : Paced _ _ _ x11 := .after (State.estPass_frame ..) hx1 rfl
  have hx12 : Paced _ _ _ x12 := .ite hx11 (.foldl hx11 fun _ _ h1 => (.after (State.thUpdate_frame ..) h1 rfl))
  have hx14 : Paced _ _ _ x14 := .foldl hx12 fun _ _ h2 => (by
      extract_lets x24
      exact .after (State.thPass_frame ..) h2 rfl)
  have hx15 : Paced _ _ _ x15 := .ite hx14 (.foldl hx14 fun _ _ h3 => (.after (State.thInit_frame ..) h3 rfl))
  have hx17 : Paced _ _ _ x17 := .foldl hx15 fun _ _ h4 => (.ite (.after (State.predSet_frame ..) h4 rfl)
    (.upd h4 rfl))
  have hx19 : Paced _ _ _ x19 := .foldl hx17 fun _ _ h5 => (.after (State.herdIncr_frame ..) h5 rfl)
  have hx20 : Paced _ _ _ x20 := .foldl hx19 fun _ _ h6 => (.after (State.excComplete_frame ..)
    (.after (State.requests_frame ..) h6 rfl) rfl)
  have hx21 : Paced _ _ _ x21 := .foldl hx20 fun _ _ h7 => (.after (State.balCount_frame ..) h7 rfl)
  have hx22 : Paced _ _ _ x22 := .after (State.histFrame_frame ..) hx21 rfl
  exact .ok (.ite hx1 (.upd hx22 rfl))

theorem execOutputQueueOverrun_runs (out : OutKind) (s : State) :
    Runs (.outputQueueOverrun out) s (execOutputQueueOverrun out s) := by
  unfold execOutputQueueOverrun
  refine .start fun h0 => ?_
  extract_lets x1 x2 x3 x4
  have hx1 : Paced _ _ _ x1 := .after (State.overrun_frame ..) (.atP _ h0 rfl) rfl
  refine .ok ?_
  split
  · exact .after (State.canUnqueue_frame ..) hx1 rfl
  · exact .after (State.canUnqueue_frame ..) hx1 rfl
  · exact .after (State.canUnqueue_frame ..) hx1 rfl
  · exact .upd hx1 rfl
  · exact .upd hx1 rfl

theorem execDerateCurrentExcess_runs (p : Pulse) (s : State) :
    Runs (.derateCurrentExcess p) s (execDerateCurrentExcess p s) := by
  unfold execDerateCurrentExcess
  refine .start fun h0 => ?_
  extract_lets x1
  have hx1 : Paced _ _ _ x1 := .atP _ h0 rfl
  exact .ok (.ite (.after (State.derateAsk_frame ..) hx1 rfl) hx1)

theorem execDerateRelease_runs (p : Pulse) (s : State) :
    Runs (.derateRelease p) s (execDerateRelease p s) := by
  unfold execDerateRelease
  refine .start fun h0 => ?_
  extract_lets x1 x2 x3
  have hx1 : Paced _ _ _ x1 := .atP _ h0 rfl
  have hx2 : Paced _ _ _ x2 := .after (State.ev_frame ..) hx1 rfl
  refine .ok ?_
  split
  · exact .ite (.upd hx2 rfl) hx1
  · exact hx1

theorem execEstRestStart_runs (p : Pulse) (str : StrIx) (s : State) :
    Runs (.estRestStart p str) s (execEstRestStart p str s) := by
  unfold execEstRestStart
  refine .start fun h0 => ?_
  extract_lets x1 x2 x3
  have hx1 : Paced _ _ _ x1 := .atP _ h0 rfl
  exact .ok (.ite (.upd hx1 rfl) hx1)

theorem execEstRequestRepeat_runs (p : Pulse) (str : StrIx) (s : State) :
    Runs (.estRequestRepeat p str) s (execEstRequestRepeat p str s) := by
  unfold execEstRequestRepeat
  refine .start fun h0 => ?_
  extract_lets x1 x2 x3
  have hx1 : Paced _ _ _ x1 := .atP _ h0 rfl
  refine .ok ?_
  split
  · exact hx1
  · extract_lets x4 x5
    have hx4 : Paced _ _ _ x4 := (.after (State.requestEvent_frame ..) hx1 rfl)
    exact .ite (.upd hx4 rfl) hx1

theorem execEstReferenceGrant_runs (id : Word) (s : State) :
    Runs (.estReferenceGrant id) s (execEstReferenceGrant id s) := by
  unfold execEstReferenceGrant
  refine .start fun h0 => ?_
  exact .ok (.evaluateStrings h0 (fun _ _ _ _ h1 => (by
    extract_lets x1 x2
    exact (.after (State.cmdEndStrings_frame ..) (.foldl h1 fun _ _ h2 =>
      .upd (.after (State.excEvent_frame ..) (.after (State.excEnd_frame ..) h2 rfl) rfl) rfl) rfl))) rfl)

theorem execExcursionDurationEnd_runs (p : Pulse) (str : StrIx) (s : State) :
    Runs (.excursionDurationEnd p str) s (execExcursionDurationEnd p str s) := by
  unfold execExcursionDurationEnd
  refine .start fun h0 => ?_
  extract_lets x1
  have hx1 : Paced _ _ _ x1 := .atP _ h0 rfl
  refine .ok ?_
  split
  · exact hx1
  · exact .ite (.after (State.excEnd_frame ..) hx1 rfl) hx1

theorem execPlateSourceInvalid_runs (p : Pulse) (str : StrIx) (s : State) :
    Runs (.plateSourceInvalid p str) s (execPlateSourceInvalid p str s) := by
  unfold execPlateSourceInvalid
  refine .start fun h0 => ?_
  extract_lets x1
  have hx1 : Paced _ _ _ x1 := .atP _ h0 rfl
  exact .ok (.ite (.after (State.plateTake_frame ..) hx1 rfl) hx1)

theorem execHerdSweepDone_runs (p : Pulse) (s : State) :
    Runs (.herdSweepDone p) s (execHerdSweepDone p s) := by
  unfold execHerdSweepDone
  refine .start fun h0 => ?_
  extract_lets x1
  have hx1 : Paced _ _ _ x1 := .atP _ h0 rfl
  refine .ok ?_
  split
  · exact hx1
  · extract_lets x2 x3
    have hx2 : Paced _ _ _ x2 := (.foldl hx1 fun _ _ h1 => (.after (State.sweepString_frame ..) h1 rfl))
    exact .ite hx1 (.upd hx2 rfl)

theorem execDspSocWindow_runs (id : Word) (s : State) :
    Runs (.dspSocWindow id) s (execDspSocWindow id s) := by
  unfold execDspSocWindow
  refine .start fun h0 => ?_
  exact .ok (.evaluate h0 (fun _ _ h1 => (by
    extract_lets x1 x2 x3 x4
    have hx3 : Paced _ _ _ x3 := (.after (State.ev_frame ..) h1 rfl)
    exact (.after (State.cmdDone_frame ..) (.upd hx3 rfl) rfl))) rfl)

theorem execEnvelope_runs (s : State) :
    Runs .envelope s (execEnvelope s) := by
  unfold execEnvelope
  refine .start fun h0 => ?_
  extract_lets x1
  have hx1 : Paced _ _ _ x1 := .atP _ h0 rfl
  exact .ok (.ite (.after (State.outputsQueue_frame ..) (.after (State.balancePlan_frame ..)
    (.after (State.envelope_frame ..) (.after (State.recordUnion_frame ..) hx1 rfl) rfl) rfl) rfl) hx1)

theorem execEnvelopeOverrun_runs (s : State) :
    Runs .envelopeOverrun s (execEnvelopeOverrun s) := by
  unfold execEnvelopeOverrun
  refine .start fun h0 => ?_
  extract_lets x1
  have hx1 : Paced _ _ _ x1 := .atP _ h0 rfl
  exact .ok (.ite (.after (State.envelopeLate_frame ..) hx1 rfl) hx1)

theorem execEnvelopeOverrunZero_runs (s : State) :
    Runs .envelopeOverrunZero s (execEnvelopeOverrunZero s) := by
  unfold execEnvelopeOverrunZero
  refine .start fun h0 => ?_
  extract_lets x1
  have hx1 : Paced _ _ _ x1 := .atP _ h0 rfl
  exact .ok (.ite (.after (State.envelopeLate_frame ..) hx1 rfl) hx1)

theorem execHerdSweepSkip_runs (s : State) :
    Runs .herdSweepSkip s (execHerdSweepSkip s) := by
  unfold execHerdSweepSkip
  refine .start fun h0 => ?_
  extract_lets x1 x2 x3
  have hx1 : Paced _ _ _ x1 := .atP _ h0 rfl
  refine .ok ?_
  split
  · exact hx1
  · extract_lets x4 x5
    have hx4 : Paced _ _ _ x4 := (.after (State.evIf_frame ..) hx1 rfl)
    exact .ite hx1 (.upd hx4 rfl)

theorem execHistoryMinute_runs (s : State) :
    Runs .historyMinute s (execHistoryMinute s) := by
  unfold execHistoryMinute
  refine .start fun h0 => ?_
  extract_lets x1 x2 x3 x4 x5 x6 x7
  have hx1 : Paced _ _ _ x1 := .atP _ h0 rfl
  have hx6 : Paced _ _ _ x6 := .ite (.after (State.winLoss_frame ..) hx1 rfl) hx1
  exact .ok (.ite hx1 (.upd hx6 rfl))

end Sys2Proof.Machine
end

section
namespace Sys2Proof.Machine

/-! ### Power ports, connection and protection (chapters 10, 11) -/

theorem execFreezeTrigger_runs (p : Pulse) (diag : Fin 17) (s : State) :
    Runs (.freezeTrigger p diag) s (execFreezeTrigger p diag s) := by
  unfold execFreezeTrigger
  refine .start fun h0 => ?_
  extract_lets x1
  have hx1 : Paced _ _ _ x1 := .atP _ h0 rfl
  exact .ok (.ite hx1 (.after (State.freeze_frame ..) hx1 rfl))

theorem execFreezeMaxExpiry_runs (p : Pulse) (s : State) :
    Runs (.freezeMaxExpiry p) s (execFreezeMaxExpiry p s) := by
  unfold execFreezeMaxExpiry
  refine .start fun h0 => ?_
  extract_lets x1
  have hx1 : Paced _ _ _ x1 := .atP _ h0 rfl
  exact .ok (.ite (.after (State.sf12_frame ..) (.after (State.ev_frame ..) hx1 rfl) rfl) hx1)

theorem State.stringsWork_paced (s : State) : Paced false
    [.time, .mode, .meas, .power, .prot, .grz, .pair, .site, .bus, .tw, .jnl, .modeNow, .enabled, .ledger] s
    s.stringsWork := by
  unfold State.stringsWork
  refine .start fun h0 => ?_
  extract_lets x1 x2 x3
  have hx2 : Paced _ _ s x2 := .atP _ (.upd h0 rfl) rfl
  have hx3 : Paced _ _ s x3 := .foldl hx2 fun _ _ h =>
    .after (State.wireOpenLow_frame ..) (.after (State.openingLow_frame ..) h rfl) rfl
  exact .ite (.after (State.idleEntry_frame ..) (.after (State.rosterApply_frame ..) hx3 rfl) rfl) h0

theorem State.wordWork_paced (s : State) (k : Nat) : Paced false
    [.time, .mode, .meas, .power, .prot, .grz, .pair, .site, .bus, .tw, .jnl, .modeNow, .enabled, .ledger] s
    (s.wordWork k) := by
  unfold State.wordWork
  exact .ite (.after (State.connectConsent_frame ..) (.atP _ ((State.stringsWork_paced s).mono rfl) rfl)
    rfl) (.refl ..)

theorem execCommandWord_runs (str : StrIx) (icur vstr vbus : BitVec 20) (peer : BitVec 42) (cur : Int) (s : State) :
    Runs (.commandWord str icur vstr vbus peer cur) s (execCommandWord str icur vstr vbus peer cur s) := by
  unfold execCommandWord
  refine .start fun h0 => ?_
  extract_lets x1 x2 x3 x4 x5 x6 x7 x8 x9 x10 x11 x12 x13 x14 x15 x16 x17 x18 x19 x20 x21 x22
  have hx3 : Paced _ _ _ x3 := (.atP _ h0 rfl : Paced _ _ _ _).trans ((State.wordWork_paced ..).mono rfl)
  clear_value x3
  have hx17 : Paced _ _ _ x17 := .after (State.modPp_frame ..) hx3 rfl
  have hx18 : Paced _ _ _ x18 := .ite (.after (State.keepHeld_frame ..) (.after (State.powerAbsence_frame ..)
    (.after (State.takeInterval_frame ..) hx17 rfl) rfl) rfl) hx17
  clear_value x18
  have hx20 : Paced _ _ _ x20 := .upd hx18 rfl
  clear_value x20
  have hx21 : Paced _ _ _ x21 := .after (State.inhWatch_frame ..) (.upd hx20 rfl) rfl
  have hx22 : Paced _ _ _ x22 := .ite (.after (State.handoverTake_frame ..) hx21 rfl) hx21
  exact .ite (.ok (.upd hx3 rfl)) (.ok (by
    split
    · exact .ite (.after (State.lossOpenLow_frame ..) hx22 rfl) hx22
    · exact hx22))

theorem execStatusWord_runs (str : StrIx) (line : BitVec 42) (s : State) :
    Runs (.statusWord str line) s (execStatusWord str line s) := by
  unfold execStatusWord
  refine .start fun h0 => ?_
  extract_lets x1 x2 x3 x4 x5 x6
  have hx3 : Paced _ _ _ x3 := .atP _ h0 rfl
  clear_value x5 x4
  split
  · extract_lets x7 x8 x9 x10 x11 x12
    have hx11 : Paced _ _ _ x11 := .after (State.evIf_frame ..) hx3 rfl
    have hx12 : Paced _ _ _ x12 := .after (State.modPp_frame ..) hx11 rfl
    exact .ok (.after (State.sf09Stands_frame ..) (.after (State.auxWatch_frame ..) hx12 rfl) rfl)
  · exact .ok (.after (State.sf09Stands_frame ..) (.after (State.modPp_frame ..) hx3 rfl) rfl)

theorem execBitstreamStuck_runs (p : Pulse) (str : StrIx) (chan : Fin 3) (s : State) :
    Runs (.bitstreamStuck p str chan) s (execBitstreamStuck p str chan s) := by
  unfold execBitstreamStuck
  refine .start fun h0 => ?_
  extract_lets x1 x2 x3 x4
  have hx2 : Paced _ _ _ x2 := .atP _ h0 rfl
  have hx4 : Paced _ _ _ x4 := .after (State.modPp_frame ..) (.after (State.streamEvent_frame ..) hx2 rfl) rfl
  exact .ok (.ite (.ite (.after (State.sf10_frame ..) hx4 rfl) hx4) hx2)

theorem execBitstreamRecover_runs (p : Pulse) (str : StrIx) (chan : Fin 3) (s : State) :
    Runs (.bitstreamRecover p str chan) s (execBitstreamRecover p str chan s) := by
  unfold execBitstreamRecover
  refine .start fun h0 => ?_
  extract_lets x1 x2 x3
  have hx2 : Paced _ _ _ x2 := .atP _ h0 rfl
  exact .ok (.ite (.after (State.modPp_frame ..) (.after (State.streamEvent_frame ..) hx2 rfl) rfl) hx2)

theorem execStatusStreamInvalid_runs (p : Pulse) (str : StrIx) (s : State) :
    Runs (.statusStreamInvalid p str) s (execStatusStreamInvalid p str s) := by
  unfold execStatusStreamInvalid
  refine .start fun h0 => ?_
  extract_lets x1 x2 x3
  have hx2 : Paced _ _ _ x2 := .atP _ h0 rfl
  exact .ok (.ite (.after (State.sf09_frame ..) (.after (State.modPp_frame ..)
    (.after (State.streamEvent_frame ..) hx2 rfl) rfl) rfl) hx2)

theorem execStatusStreamValid_runs (p : Pulse) (str : StrIx) (s : State) :
    Runs (.statusStreamValid p str) s (execStatusStreamValid p str s) := by
  unfold execStatusStreamValid
  refine .start fun h0 => ?_
  extract_lets x1 x2 x3
  have hx2 : Paced _ _ _ x2 := .atP _ h0 rfl
  exact .ok (.ite (.after (State.modPp_frame ..) (.after (State.streamEvent_frame ..) hx2 rfl) rfl) hx2)

theorem execPpEchoFault_runs (p : Pulse) (str : StrIx) (s : State) :
    Runs (.ppEchoFault p str) s (execPpEchoFault p str s) := by
  unfold execPpEchoFault
  refine .start fun h0 => ?_
  extract_lets x1 x2 x3 x4
  have hx2 : Paced _ _ _ x2 := .atP _ h0 rfl
  have hx4 : Paced _ _ _ x4 := .after (State.ev_frame ..) hx2 rfl
  exact .ok (.ite (.after (State.sf09_frame ..) (.after (State.modPp_frame ..) hx4 rfl) rfl) hx2)

theorem execEchoFaultClear_runs (p : Pulse) (str : StrIx) (s : State) :
    Runs (.echoFaultClear p str) s (execEchoFaultClear p str s) := by
  unfold execEchoFaultClear
  refine .start fun h0 => ?_
  extract_lets x1 x2 x3
  have hx2 : Paced _ _ _ x2 := .atP _ h0 rfl
  exact .ok (.ite (.after (State.modPp_frame ..) hx2 rfl) hx2)

theorem execPpImplausible_runs (p : Pulse) (str : StrIx) (s : State) :
    Runs (.ppImplausible p str) s (execPpImplausible p str s) := by
  unfold execPpImplausible
  refine .start fun h0 => ?_
  extract_lets x1 x2 x3 x4
  have hx2 : Paced _ _ _ x2 := .atP _ h0 rfl
  have hx4 : Paced _ _ _ x4 := .after (State.ev_frame ..) hx2 rfl
  exact .ok (.ite (.after (State.sf10_frame ..) (.after (State.modPp_frame ..) hx4 rfl) rfl) hx2)

theorem execContactorCloseTimeout_runs (p : Pulse) (str : StrIx) (s : State) :
    Runs (.contactorCloseTimeout p str) s (execContactorCloseTimeout p str s) := by
  unfold execContactorCloseTimeout
  refine .start fun h0 => ?_
  extract_lets x1 x2 x3
  have hx2 : Paced _ _ _ x2 := .atP _ h0 rfl
  exact .ok (.ite (.after (State.abortConnect_frame ..) hx2 rfl) hx2)

theorem execLoopPhaseStart_runs (p : Pulse) (str : StrIx) (s : State) :
    Runs (.loopPhaseStart p str) s (execLoopPhaseStart p str s) := by
  unfold execLoopPhaseStart
  refine .start fun h0 => ?_
  extract_lets x1 x2 x3
  have hx2 : Paced _ _ _ x2 := .atP _ h0 rfl
  exact .ok (.ite (.after (State.modPp_frame ..) hx2 rfl) hx2)

theorem execHandoverWindowOpen_runs (p : Pulse) (str : StrIx) (s : State) :
    Runs (.handoverWindowOpen p str) s (execHandoverWindowOpen p str s) := by
  unfold execHandoverWindowOpen
  refine .start fun h0 => ?_
  extract_lets x1 x2 x3
  have hx2 : Paced _ _ _ x2 := .atP _ h0 rfl
  exact .ok (.ite (.after (State.handoverTake_frame ..) (.after (State.modPp_frame ..) hx2 rfl) rfl) hx2)

theorem execHandoverWindowExpire_runs (p : Pulse) (str : StrIx) (s : State) :
    Runs (.handoverWindowExpire p str) s (execHandoverWindowExpire p str s) := by
  unfold execHandoverWindowExpire
  refine .start fun h0 => ?_
  extract_lets x1 x2 x3
  have hx2 : Paced _ _ _ x2 := .atP _ h0 rfl
  exact .ok (.ite (.ite (.after (State.handoverTake_frame ..) hx2 rfl)
    (.after (State.abortConnect_frame ..) hx2 rfl)) hx2)

theorem execConnTimeExpire_runs (p : Pulse) (str : StrIx) (s : State) :
    Runs (.connTimeExpire p str) s (execConnTimeExpire p str s) := by
  unfold execConnTimeExpire
  refine .start fun h0 => ?_
  extract_lets x1 x2 x3
  have hx2 : Paced _ _ _ x2 := .atP _ h0 rfl
  exact .ok (.ite (.after (State.abortConnect_frame ..) hx2 rfl) hx2)

theorem execOpenCurrentLow_runs (p : Pulse) (str : StrIx) (s : State) :
    Runs (.openCurrentLow p str) s (execOpenCurrentLow p str s) := by
  unfold execOpenCurrentLow
  refine .start fun h0 => ?_
  extract_lets x1 x2 x3
  have hx2 : Paced _ _ _ x2 := .atP _ h0 rfl
  exact .ok (.ite (.after (State.modPp_frame ..) (.after (State.modPst_frame ..) hx2 rfl) rfl) hx2)

theorem execLoopOutputFault_runs (p : Pulse) (out : Fin 16) (faults : BitVec 3) (s : State) :
    Runs (.loopOutputFault p out faults) s (execLoopOutputFault p out faults s) := by
  unfold execLoopOutputFault
  refine .start fun h0 => ?_
  extract_lets x1 x2 x3 x4
  have hx1 : Paced _ _ _ x1 := .atP _ h0 rfl
  have hx3 : Paced _ _ _ x3 := .after (State.evIf_frame ..) hx1 rfl
  exact .ok (.upd hx3 rfl)

theorem execThermalOutputRetry_runs (p : Pulse) (out : Fin 16) (s : State) :
    Runs (.thermalOutputRetry p out) s (execThermalOutputRetry p out s) := by
  unfold execThermalOutputRetry
  refine .start fun h0 => ?_
  extract_lets x1 x2
  have hx1 : Paced _ _ _ x1 := .atP _ h0 rfl
  exact .ok (.upd hx1 rfl)

theorem execSf04Trip_runs (p : Pulse) (str : StrIx) (s : State) :
    Runs (.sf04Trip p str) s (execSf04Trip p str s) := by
  unfold execSf04Trip
  refine .start fun h0 => ?_
  extract_lets x1 x2
  have hx1 : Paced _ _ _ x1 := .atP _ h0 rfl
  exact .ok (.ite (.after (State.tripStart_frame ..) hx1 rfl) hx1)

theorem execSf05Check_runs (str : StrIx) (s : State) :
    Runs (.sf05Check str) s (execSf05Check str s) := by
  unfold execSf05Check
  refine .start fun h0 => ?_
  extract_lets x1 x2 x3 x4 x5 x6 x7 x8 x9
  have hx2 : Paced _ _ _ x2 := .atP _ h0 rfl
  have hx4 : Paced _ _ _ x4 := .after (State.modPst_frame ..) hx2 rfl
  have hx8 : Paced _ _ _ x8 := .ite (.after (State.warnStart_frame ..) hx4 rfl) hx4
  have hx9 : Paced _ _ _ x9 := .ite (.after (State.tripStart_frame ..) hx8 rfl) hx8
  exact .ite (.ok hx2) (.ok (.after (State.setAbsent_frame ..) (.after (State.setAbsent_frame ..) hx9 rfl) rfl))

theorem execSf06Warning_runs (port : PortIx) (s : State) :
    Runs (.sf06Warning port) s (execSf06Warning port s) := by
  unfold execSf06Warning
  refine .start fun h0 => ?_
  extract_lets x1 x2 x3
  have hx2 : Paced _ _ _ x2 := .atP _ h0 rfl
  exact .ok (.ite (.after (State.warnStart_frame ..) hx2 rfl) hx2)

theorem execSf06Trip_runs (port : PortIx) (s : State) :
    Runs (.sf06Trip port) s (execSf06Trip port s) := by
  unfold execSf06Trip
  refine .start fun h0 => ?_
  extract_lets x1 x2 x3
  have hx2 : Paced _ _ _ x2 := .atP _ h0 rfl
  exact .ok (.ite (.after (State.tripStart_frame ..) hx2 rfl) hx2)

theorem execSf06Release_runs (str : StrIx) (s : State) :
    Runs (.sf06Release str) s (execSf06Release str s) := by
  unfold execSf06Release
  refine .start fun h0 => ?_
  extract_lets x1
  have hx1 : Paced _ _ _ x1 := .atP _ h0 rfl
  exact .ok (.ite (.after (State.tripEnd_frame ..) (.after (State.warnEnd_frame ..) hx1 rfl) rfl) hx1)

theorem execIlkInputChange_runs (p : Pulse) (ilk : Fin 4) (loop contact : Bool) (s : State) :
    Runs (.ilkInputChange p ilk loop contact) s (execIlkInputChange p ilk loop contact s) := by
  unfold execIlkInputChange
  refine .start fun h0 => ?_
  extract_lets x1 x2 x3
  have hx1 : Paced _ _ _ x1 := .atP _ h0 rfl
  have hx3 : Paced _ _ _ x3 := .upd hx1 rfl
  exact .ok (.after (State.ilkAbsence_frame ..) hx3 rfl)

theorem execIlkFault_runs (p : Pulse) (ilk : Fin 4) (s : State) :
    Runs (.ilkFault p ilk) s (execIlkFault p ilk s) := by
  unfold execIlkFault
  refine .start fun h0 => ?_
  extract_lets x1 x2 x3
  have hx1 : Paced _ _ _ x1 := .atP _ h0 rfl
  refine .ok ?_
  split
  · exact .ite (.after (State.ilkAbsence_frame ..) (.after (State.ilkTrip_frame ..) (.upd hx1 rfl) rfl) rfl) hx1
  · exact hx1

theorem execSf09AuxTimeout_runs (p : Pulse) (str : StrIx) (s : State) :
    Runs (.sf09AuxTimeout p str) s (execSf09AuxTimeout p str s) := by
  unfold execSf09AuxTimeout
  refine .start fun h0 => ?_
  extract_lets x1 x2
  have hx1 : Paced _ _ _ x1 := .atP _ h0 rfl
  refine .ok ?_
  split
  · exact .ite (.after (State.tripStart_frame ..) hx1 rfl) hx1
  · exact hx1

theorem execSf12Fault_runs (p : Pulse) (diag : Fin 17) (detail : Word) (s : State) :
    Runs (.sf12Fault p diag detail) s (execSf12Fault p diag detail s) := by
  unfold execSf12Fault
  refine .start fun h0 => ?_
  extract_lets x1 x2
  have hx1 : Paced _ _ _ x1 := .atP _ h0 rfl
  exact .ok (.ite (.after (State.sf12_frame ..) hx1 rfl) (.ite (.after (State.verifyFault_frame ..) hx1 rfl) hx1))

theorem execProtWarningRelease_runs (p : Pulse) (str : StrIx) (fn : Fin 12) (s : State) :
    Runs (.protWarningRelease p str fn) s (execProtWarningRelease p str fn s) := by
  unfold execProtWarningRelease
  refine .start fun h0 => ?_
  extract_lets x1 x2 x3 x4
  have hx1 : Paced _ _ _ x1 := .atP _ h0 rfl
  have hx4 : Paced _ _ _ x4 := .ite (.after (State.warnEnd_frame ..) hx1 rfl) hx1
  exact .ok (.ite (.after (State.tripEnd_frame ..) hx4 rfl) hx4)

theorem execInhibitEnforce_runs (p : Pulse) (str : StrIx) (s : State) :
    Runs (.inhibitEnforce p str) s (execInhibitEnforce p str s) := by
  unfold execInhibitEnforce
  refine .start fun h0 => ?_
  extract_lets x1 x2 x3 x4 x5 x6 x7
  have hx1 : Paced _ _ _ x1 := .atP _ h0 rfl
  have hx7 : Paced _ _ _ x7 := .ite (.foldl hx1 fun _ _ h1 => (.after (State.tripStart_frame ..) h1 rfl)) hx1
  exact .ok (.ite (.foldl hx7 fun _ _ h2 => (.after (State.tripStart_frame ..) h2 rfl)) hx7)

theorem execModelInputStale_runs (p : Pulse) (str : StrIx) (s : State) :
    Runs (.modelInputStale p str) s (execModelInputStale p str s) := by
  unfold execModelInputStale
  refine .start fun h0 => ?_
  extract_lets x1
  have hx1 : Paced _ _ _ x1 := .atP _ h0 rfl
  exact .ok (.ite (.after (State.modPst_frame ..) hx1 rfl) hx1)

theorem execClockMonitorFault_runs (p : Pulse) (domain : ClockDomain) (s : State) :
    Runs (.clockMonitorFault p domain) s (execClockMonitorFault p domain s) := by
  unfold execClockMonitorFault
  refine .start fun h0 => ?_
  extract_lets x1 x2 x3 x4
  have hx1 : Paced _ _ _ x1 := .atP _ h0 rfl
  have hx3 : Paced _ _ _ x3 := .upd hx1 rfl
  refine .ok ?_
  split
  · exact .after (State.sf12_frame ..) hx3 rfl
  · exact .after (State.sf12_frame ..) (.upd hx3 rfl) rfl
  · exact .after (State.sf12_frame ..) hx3 rfl
  · exact .after (State.freeze_frame ..) hx3 rfl
  · exact .after (State.freeze_frame ..) hx3 rfl
  · exact .after (State.freeze_frame ..) hx3 rfl
  · exact .after (State.freeze_frame ..) hx3 rfl
  · exact .after (State.diagFail_frame ..) hx3 rfl

theorem execFrameStrobeFault_runs (p : Pulse) (interval : Option Nat) (s : State) :
    Runs (.frameStrobeFault p interval) s (execFrameStrobeFault p interval s) := by
  unfold execFrameStrobeFault
  refine .start fun h0 => ?_
  extract_lets x1 x2 x3 x4 x5
  have hx1 : Paced _ _ _ x1 := .atP _ h0 rfl
  have hx4 : Paced _ _ _ x4 := .upd hx1 rfl
  exact .ok (.ite (.after (State.sf12_frame ..) (.upd hx4 rfl) rfl) hx4)

theorem execSafeOutReadback_runs (p : Pulse) (a b : Bool) (s : State) :
    Runs (.safeOutReadback p a b) s (execSafeOutReadback p a b s) := by
  unfold execSafeOutReadback
  refine .start fun h0 => ?_
  extract_lets x1 x2 x3 x4 x5
  have hx1 : Paced _ _ _ x1 := .atP _ h0 rfl
  have hx5 : Paced _ _ _ x5 := .upd hx1 rfl
  exact .ok (.ite (.after (State.sf12_frame ..) hx5 rfl) (.ite (.after (State.diagPass_frame ..) hx5 rfl) hx5))

theorem execLimitCheckerSelftest_runs (p : Pulse) (v : Verdict) (s : State) :
    Runs (.limitCheckerSelftest p v) s (execLimitCheckerSelftest p v s) := by
  unfold execLimitCheckerSelftest
  refine .start fun h0 => ?_
  extract_lets x1
  have hx1 : Paced _ _ _ x1 := .atP _ h0 rfl
  exact .ok (.ite (.after (State.sf12_frame ..) hx1 rfl) (.after (State.diagPass_frame ..) hx1 rfl))

theorem execFrameTokenMissing_runs (p : Pulse) (s : State) :
    Runs (.frameTokenMissing p) s (execFrameTokenMissing p s) := by
  unfold execFrameTokenMissing
  refine .start fun h0 => ?_
  extract_lets x1 x2 x3 x4 x5
  have hx1 : Paced _ _ _ x1 := .atP _ h0 rfl
  have hx4 : Paced _ _ _ x4 := .upd hx1 rfl
  exact .ok (.ite (.after (State.freeze_frame ..) (.upd hx4 rfl) rfl) hx4)

theorem execImageCrcCheck_runs (p : Pulse) (v : Verdict) (s : State) :
    Runs (.imageCrcCheck p v) s (execImageCrcCheck p v s) := by
  unfold execImageCrcCheck
  refine .start fun h0 => ?_
  extract_lets x1
  have hx1 : Paced _ _ _ x1 := .atP _ h0 rfl
  exact .ok (.ite (.after (State.sf12_frame ..) hx1 rfl) (.after (State.diagPass_frame ..) hx1 rfl))

theorem execProtAlarmAck_runs (id : Word) (s : State) :
    Runs (.protAlarmAck id) s (execProtAlarmAck id s) := by
  unfold execProtAlarmAck
  refine .start fun h0 => ?_
  exact .ok (.evaluate h0 (fun _ _ h1 => (by
    extract_lets x1 x2
    exact (.after (State.cmdDone_frame ..) (.foldl h1 fun _ _ h2 =>
      (.after (State.ackString_frame ..) h2 rfl)) rfl))) rfl)

theorem execStageLossOfBothInputs_runs (p : Pulse) (str : StrIx) (low : Bool) (s : State) :
    Runs (.stageLossOfBothInputs p str low) s (execStageLossOfBothInputs p str low s) := by
  unfold execStageLossOfBothInputs
  refine .start fun h0 => ?_
  extract_lets x1 x2
  have hx1 : Paced _ _ _ x1 := .atP _ h0 rfl
  exact .ok (.upd hx1 rfl)

end Sys2Proof.Machine
end

section
namespace Sys2Proof.Machine

/-! ### Modes, supply, frame, Graze and time (chapters 2, 3, 12, 21) -/

theorem execPowerOn_runs (vin : Int) (idA idB : Bool) (twa : BitVec 2) (s : State) :
    Runs (.powerOn vin idA idB twa) s (execPowerOn vin idA idB twa s) := by
  unfold execPowerOn
  refine .start fun h0 => ?_
  extract_lets x1 x2 x3 x4 x5 x6
  have hx3 : Paced _ _ _ x3 := .upd h0 rfl
  have hx4 : Paced _ _ _ x4 := .after (State.restart_frame ..) hx3 rfl
  exact .ok (.upd hx4 rfl)

theorem execResetIn_runs (p : Pulse) (heldMs : Nat) (s : State) :
    Runs (.resetIn p heldMs) s (execResetIn p heldMs s) := by
  unfold execResetIn
  refine .start fun h0 => ?_
  extract_lets x1
  have hx1 : Paced _ _ _ x1 := .atP _ h0 rfl
  exact .ok (.ite (.after (State.restart_frame ..) hx1 rfl) hx1)

theorem execInputLossDeclared_runs (p : Pulse) (s : State) :
    Runs (.inputLossDeclared p) s (execInputLossDeclared p s) := by
  unfold execInputLossDeclared
  refine .start fun h0 => ?_
  extract_lets x1 x2 x3 x4 x5
  have hx1 : Paced _ _ _ x1 := .atP _ h0 rfl
  have hx4 : Paced _ _ _ x4 := .upd hx1 rfl
  have hx5 : Paced _ _ _ x5 := .after (State.lossEvent_frame ..) hx4 rfl
  exact .ok (.ite hx1 (.ite (.after (State.lossRuns_frame ..) hx5 rfl) hx5))

theorem execInputLossWaitEnd_runs (p : Pulse) (s : State) :
    Runs (.inputLossWaitEnd p) s (execInputLossWaitEnd p s) := by
  unfold execInputLossWaitEnd
  refine .start fun h0 => ?_
  extract_lets x1 x2 x3 x4
  have hx1 : Paced _ _ _ x1 := .atP _ h0 rfl
  have hx3 : Paced _ _ _ x3 := .after (State.modLoss_frame ..) hx1 rfl
  have hx4 : Paced _ _ _ x4 := .after (State.lossOpenLow_frame ..) hx3 rfl
  refine .ok ?_
  split
  · exact hx1
  · extract_lets x5
    exact .ite (.ite (.after (State.lossGasp_frame ..) hx4 rfl) hx4) hx1

theorem execInputLossFullPhaseEnd_runs (p : Pulse) (s : State) :
    Runs (.inputLossFullPhaseEnd p) s (execInputLossFullPhaseEnd p s) := by
  unfold execInputLossFullPhaseEnd
  refine .start fun h0 => ?_
  extract_lets x1
  have hx1 : Paced _ _ _ x1 := .atP _ h0 rfl
  refine .ok ?_
  split
  · exact hx1
  · extract_lets x2 x3 x4 x5 x6
    have hx3 : Paced _ _ _ x3 := (.after (State.lossGasp_frame ..) (.after (State.lossStep_frame ..) hx1 rfl) rfl)
    have hx6 : Paced _ _ _ x6 := (.upd hx3 rfl)
    exact .ite (.ite (.after (State.restart_frame ..) hx6 rfl) hx6) hx1

theorem execInputReturned_runs (p : Pulse) (vin : Int) (s : State) :
    Runs (.inputReturned p vin) s (execInputReturned p vin s) := by
  unfold execInputReturned
  refine .start fun h0 => ?_
  extract_lets x1 x2 x3 x4
  have hx1 : Paced _ _ _ x1 := .atP _ h0 rfl
  have hx3 : Paced _ _ _ x3 := .upd hx1 rfl
  refine .ok ?_
  split
  · exact hx3
  · extract_lets x5 x6 x7 x8
    have hx6 : Paced _ _ _ x6 := (.after (State.lossEvent_frame ..) hx3 rfl)
    exact .ite (.upd hx6 rfl) (.ite (.after (State.restart_frame ..) (.upd hx3 rfl) rfl)
      (.after (State.modLoss_frame ..) hx3 rfl))

theorem execHoldupExhausted_runs (p : Pulse) (s : State) :
    Runs (.holdupExhausted p) s (execHoldupExhausted p s) := by
  unfold execHoldupExhausted
  refine .start fun h0 => ?_
  extract_lets x1 x2
  have hx1 : Paced _ _ _ x1 := .after (State.restart_frame ..) (.atP _ h0 rfl) rfl
  exact .ok (.upd hx1 rfl)

theorem execHoldupLowTimeout_runs (p : Pulse) (s : State) :
    Runs (.holdupLowTimeout p) s (execHoldupLowTimeout p s) := by
  unfold execHoldupLowTimeout
  refine .start fun h0 => ?_
  extract_lets x1 x2 x3 x4
  have hx1 : Paced _ _ _ x1 := .atP _ h0 rfl
  exact .ok (.ite hx1 (.ite (.ite (.after (State.targetIdle_frame ..) hx1 rfl) (.ite (.upd hx1 rfl) hx1)) (.ite
    (.after (State.targetIdle_frame ..) hx1 rfl) hx1)))

theorem execHoldupCapacityMeasure_runs (p : Pulse) (cap : Nat) (full : Int) (s : State) :
    Runs (.holdupCapacityMeasure p cap full) s (execHoldupCapacityMeasure p cap full s) := by
  unfold execHoldupCapacityMeasure
  refine .start fun h0 => ?_
  extract_lets x1 x2 x3 x4
  have hx1 : Paced _ _ _ x1 := .atP _ h0 rfl
  have hx3 : Paced _ _ _ x3 := .after (State.evIf_frame ..) hx1 rfl
  exact .ok (.upd hx3 rfl)

theorem execPsvSupply_runs (p : Pulse) (vin : Int) (s : State) :
    Runs (.psvSupply p vin) s (execPsvSupply p vin s) := by
  unfold execPsvSupply
  refine .start fun h0 => ?_
  extract_lets x1 x2 x3 x4 x5 x6 x7 x8
  have hx1 : Paced _ _ _ x1 := .atP _ h0 rfl
  have hx3 : Paced _ _ _ x3 := .upd hx1 rfl
  have hx5 : Paced _ _ _ x5 := .after (State.ev_frame ..) hx3 rfl
  have hx7 : Paced _ _ _ x7 := .after (State.ev_frame ..) hx3 rfl
  exact .ok (.ite (.upd hx5 rfl) (.ite (.upd hx7 rfl) hx3))

theorem execGrzSensor_runs (p : Pulse) (sensor : SensorId) (failed : Bool) (s : State) :
    Runs (.grzSensor p sensor failed) s (execGrzSensor p sensor failed s) := by
  unfold execGrzSensor
  refine .start fun h0 => ?_
  extract_lets x1 x2 x3 x4
  have hx1 : Paced _ _ _ x1 := .atP _ h0 rfl
  have hx3 : Paced _ _ _ x3 := .after (State.ev_frame ..) hx1 rfl
  refine .ok ?_
  split
  · extract_lets x5 x6
    have hx5 : Paced _ _ _ x5 := (.after (State.ev_frame ..) hx1 rfl)
    exact .ite hx1 (.upd hx5 rfl)
  · extract_lets x7 x8 x9
    have hx8 : Paced _ _ _ x8 := (.after (State.ev_frame ..) hx1 rfl)
    exact .ite hx1 (.upd hx8 rfl)
  · exact .ite hx1 (.upd hx3 rfl)

theorem execFrameClosure_runs (x : Sensors) (more : Nat) (s : State) :
    Runs (.frameClosure x more) s (execFrameClosure x more s) := by
  unfold execFrameClosure
  refine .start fun h0 => ?_
  extract_lets x1 x2 x3
  have hx1 : Paced _ _ _ x1 := .atP _ h0 rfl
  have hx3 : Paced _ _ _ x3 := .after (State.sensorsTake_frame ..) hx1 rfl
  exact .ok (.ite (.ite (.after (State.closure_frame ..) hx3 rfl) hx3) hx1)

theorem execElasticRecovery_runs (p : Pulse) (s : State) :
    Runs (.elasticRecovery p) s (execElasticRecovery p s) := by
  unfold execElasticRecovery
  refine .start fun h0 => ?_
  extract_lets x1 x2 x3 x4
  have hx1 : Paced _ _ _ x1 := .atP _ h0 rfl
  have hx3 : Paced _ _ _ x3 := .after (State.setElastic_frame ..) hx1 rfl
  exact .ok (.ite (.upd hx3 rfl) hx1)

theorem execRosterCompute_runs (p : Pulse) (s : State) :
    Runs (.rosterCompute p) s (execRosterCompute p s) := by
  unfold execRosterCompute
  refine .start fun h0 => ?_
  extract_lets x1 x2 x3 x4
  have hx1 : Paced _ _ _ x1 := .atP _ h0 rfl
  exact .ok (.ite (.ite (.upd hx1 rfl) (.upd hx1 rfl)) hx1)

theorem execPtpSync_runs (p : Pulse) (port : Fin 2) (m : PtpSync) (s : State) :
    Runs (.ptpSync p port m) s (execPtpSync p port m s) := by
  unfold execPtpSync
  refine .start fun h0 => ?_
  extract_lets x1 x2 x3 x4 x5
  have hx1 : Paced _ _ _ x1 := .atP _ h0 rfl
  have hx4 : Paced _ _ _ x4 := .upd hx1 rfl
  exact .ok (.ite hx1 (.ite (.ite (.upd hx4 rfl) hx4) (.ite (.after (State.offsetTake_frame ..) hx4 rfl) hx4)))

theorem execPtpAnnounce_runs (p : Pulse) (port : Fin 2) (domain : Nat) (t : PtpTransport) (ann : Announce)
    (s : State) :
    Runs (.ptpAnnounce p port domain t ann) s (execPtpAnnounce p port domain t ann s) := by
  unfold execPtpAnnounce
  refine .start fun h0 => ?_
  extract_lets x1
  have hx1 : Paced _ _ _ x1 := .atP _ h0 rfl
  exact .ok (.ite hx1 (.after (State.retime_frame ..) (.after (State.setAnn_frame ..) hx1 rfl) rfl))

theorem execPtpPdelayReq_runs (p : Pulse) (port : Fin 2) (s : State) :
    Runs (.ptpPdelayReq p port) s (execPtpPdelayReq p port s) := by
  unfold execPtpPdelayReq
  refine .start fun h0 => ?_
  extract_lets x1 x2
  have hx1 : Paced _ _ _ x1 := .atP _ h0 rfl
  exact .ok (.ite (.upd hx1 rfl) hx1)

theorem execPtpAnnounceTimeout_runs (p : Pulse) (port : Fin 2) (s : State) :
    Runs (.ptpAnnounceTimeout p port) s (execPtpAnnounceTimeout p port s) := by
  unfold execPtpAnnounceTimeout
  refine .start fun h0 => ?_
  extract_lets x1 x2 x3
  have hx1 : Paced _ _ _ x1 := .after (State.setAnn_frame ..) (.atP _ h0 rfl) rfl
  have hx3 : Paced _ _ _ x3 := .ite hx1 (.upd hx1 rfl)
  exact .ok (.after (State.retime_frame ..) hx3 rfl)

theorem execPpsEdge_runs (p : Pulse) (sub : Fin 1000) (falling : Bool) (late filter freq : Int) (s : State) :
    Runs (.ppsEdge p sub falling late filter freq) s (execPpsEdge p sub falling late filter freq s) := by
  unfold execPpsEdge
  refine .start fun h0 => ?_
  extract_lets x1 x2 x3 x4 x5 x6
  have hx1 : Paced _ _ _ x1 := .atP _ h0 rfl
  have hx5 : Paced _ _ _ x5 := .upd hx1 rfl
  have hx6 : Paced _ _ _ x6 := .after (State.retime_frame ..) hx5 rfl
  clear_value x6 x5 x4
  exact .ok (.ite hx1 (.ite (.upd hx1 rfl) (by
    split
    · exact .ite (.after (State.offsetTake_frame ..) hx6 rfl) (.after (State.freqTake_frame ..) hx6 rfl)
    · exact .after (State.freqTake_frame ..) hx6 rfl)))

theorem execPpsMissing_runs (p : Pulse) (s : State) :
    Runs (.ppsMissing p) s (execPpsMissing p s) := by
  unfold execPpsMissing
  refine .start fun h0 => ?_
  extract_lets x1 x2
  have hx1 : Paced _ _ _ x1 := .atP _ h0 rfl
  exact .ok (.after (State.retime_frame ..) (.upd hx1 rfl) rfl)

theorem execTimeLocked_runs (p : Pulse) (s : State) :
    Runs (.timeLocked p) s (execTimeLocked p s) := by
  unfold execTimeLocked
  refine .start fun h0 => ?_
  extract_lets x1 x2 x3
  have hx1 : Paced _ _ _ x1 := .atP _ h0 rfl
  have hx2 : Paced _ _ _ x2 := .after (State.ev_frame ..) hx1 rfl
  exact .ok (.ite (.after (State.alignJudge_frame ..) (.upd hx2 rfl) rfl) hx1)

theorem execTimeOffsetExcursion_runs (p : Pulse) (s : State) :
    Runs (.timeOffsetExcursion p) s (execTimeOffsetExcursion p s) := by
  unfold execTimeOffsetExcursion
  refine .start fun h0 => ?_
  extract_lets x1 x2
  have hx1 : Paced _ _ _ x1 := .atP _ h0 rfl
  exact .ok (.ite (.after (State.alignJudge_frame ..) (.upd hx1 rfl) rfl) hx1)

theorem execTimeAlignLost_runs (p : Pulse) (s : State) :
    Runs (.timeAlignLost p) s (execTimeAlignLost p s) := by
  unfold execTimeAlignLost
  refine .start fun h0 => ?_
  exact .ok (.after (State.alignJudge_frame ..) (.atP _ h0 rfl) rfl)

theorem execTimeOscWarm_runs (p : Pulse) (s : State) :
    Runs (.timeOscWarm p) s (execTimeOscWarm p s) := by
  unfold execTimeOscWarm
  refine .start fun h0 => ?_
  extract_lets x1 x2
  have hx1 : Paced _ _ _ x1 := .atP _ h0 rfl
  exact .ok (.ite (.upd hx1 rfl) hx1)

theorem execTimeSetTod_runs (id : Word) (s : State) :
    Runs (.timeSetTod id) s (execTimeSetTod id s) := by
  unfold execTimeSetTod
  refine .start fun h0 => ?_
  exact .ok (.evaluate h0 (fun _ _ h1 => (.after (State.cmdDone_frame ..) (.upd h1 rfl) rfl)) rfl)

theorem execModeRequestIdle_runs (id : Word) (s : State) :
    Runs (.modeRequestIdle id) s (execModeRequestIdle id s) := by
  unfold execModeRequestIdle
  refine .start fun h0 => ?_
  extract_lets x1
  exact .ok (.ite h0 (.evaluate h0 (fun _ _ h1 => (by
    split
    · exact .after (State.idleEntry_frame ..) (.after (State.targetIdle_frame ..)
        (.after (State.cmdStep_frame ..) h1 rfl) rfl) rfl
    · extract_lets x2 x3
      have hx2 : Paced _ _ _ x2 := (.after (State.cmdStep_frame ..) h1 rfl)
      exact .upd hx2 rfl
    · exact (.after (State.cmdDone_frame ..) (.after (State.setMode_frame ..) h1 rfl) rfl))) rfl))

theorem execModeRequestServe_runs (id : Word) (s : State) :
    Runs (.modeRequestServe id) s (execModeRequestServe id s) := by
  unfold execModeRequestServe
  refine .start fun h0 => ?_
  exact .ok (.ite h0 (.evaluate h0 (fun _ _ h1 => (.after (State.cmdDone_frame ..)
    (.after (State.setMode_frame ..) h1 rfl) rfl)) rfl))

theorem execModeRequestRest_runs (id : Word) (s : State) :
    Runs (.modeRequestRest id) s (execModeRequestRest id s) := by
  unfold execModeRequestRest
  refine .start fun h0 => ?_
  exact .ok (.ite h0 (.evaluate h0 (fun _ _ h1 => (.after (State.cmdDone_frame ..)
    (.after (State.setMode_frame ..) h1 rfl) rfl)) rfl))

theorem execModeRequestMaintain_runs (id : Word) (s : State) :
    Runs (.modeRequestMaintain id) s (execModeRequestMaintain id s) := by
  unfold execModeRequestMaintain
  refine .start fun h0 => ?_
  exact .ok (.ite h0 (.evaluate h0 (fun _ _ h1 => (.after (State.cmdDone_frame ..)
    (.after (State.setMode_frame ..) h1 rfl) rfl)) rfl))

theorem execOpenWaitExpiry_runs (str : StrIx) (s : State) :
    Runs (.openWaitExpiry str) s (execOpenWaitExpiry str s) := by
  unfold execOpenWaitExpiry
  refine .start fun h0 => ?_
  extract_lets x1
  have hx1 : Paced _ _ _ x1 := .atP _ h0 rfl
  refine .ok ?_
  split
  · exact .ite (.after (State.idleEntry_frame ..) (.after (State.openNow_frame ..) hx1 rfl) rfl) hx1
  · exact hx1

theorem execModeSafeRequest_runs (id : Word) (s : State) :
    Runs (.modeSafeRequest id) s (execModeSafeRequest id s) := by
  unfold execModeSafeRequest
  refine .start fun h0 => ?_
  exact .ok (.evaluate h0 (fun _ _ h1 => (.after (State.enterSafe_frame ..)
    (.after (State.cmdDone_frame ..) h1 rfl) rfl)) rfl)

theorem execModeSafeReset_runs (id : Word) (s : State) :
    Runs (.modeSafeReset id) s (execModeSafeReset id s) := by
  unfold execModeSafeReset
  refine .start fun h0 => ?_
  exact .ok (.evaluate h0 (fun _ _ h1 => (by
    extract_lets x1 x2 x3 x4
    have hx1 : Paced _ _ _ x1 := (.after (State.ev_frame ..) h1 rfl)
    have hx2 : Paced _ _ _ x2 := (.after (State.cmdDone_frame ..) hx1 rfl)
    exact (.upd hx2 rfl))) rfl)

theorem execModeRestart_runs (id : Word) (s : State) :
    Runs (.modeRestart id) s (execModeRestart id s) := by
  unfold execModeRestart
  refine .start fun h0 => ?_
  exact .ok (.evaluate h0 (fun _ _ h1 => (by
    extract_lets x1 x2
    have hx1 : Paced _ _ _ x1 := (.after (State.cmdDone_frame ..) h1 rfl)
    exact (.ite hx1 (.upd hx1 rfl)))) rfl)

theorem execModeStringEnableOn_runs (id : Word) (s : State) :
    Runs (.modeStringEnableOn id) s (execModeStringEnableOn id s) := by
  unfold execModeStringEnableOn
  refine .start fun h0 => ?_
  exact .ok (.ite h0 (.evaluateStrings h0 (fun _ _ _ _ h1 => (by
    extract_lets x1 x2
    have hx2 : Paced _ _ _ x2 := (.upd h1 rfl)
    exact (.after (State.cmdEndStrings_frame ..) hx2 rfl))) rfl))

theorem execModeStringEnableOff_runs (id : Word) (s : State) :
    Runs (.modeStringEnableOff id) s (execModeStringEnableOff id s) := by
  unfold execModeStringEnableOff
  refine .start fun h0 => ?_
  exact .ok (.ite h0 (.evaluateStrings h0 (fun _ _ _ _ h1 => (by
    extract_lets x1 x2 x3 x4
    have hx2 : Paced _ _ _ x2 := (.upd h1 rfl)
    have hx3 : Paced _ _ _ x3 := (.after (State.abortConnects_frame ..) hx2 rfl)
    have hx4 : Paced _ _ _ x4 := (.foldl hx3 fun _ _ h2 => (.after (State.orderOpen_frame ..) h2 rfl))
    exact (.after (State.idleEntry_frame ..) (.after (State.cmdEndStrings_frame ..) hx4 rfl) rfl))) rfl))

theorem execModeStringService_runs (id : Word) (s : State) :
    Runs (.modeStringService id) s (execModeStringService id s) := by
  unfold execModeStringService
  refine .start fun h0 => ?_
  exact .ok (.evaluateStrings h0 (fun _ _ _ _ h1 => (.after (State.cmdEndStrings_frame ..)
    (.foldl h1 fun _ _ h2 => (.after (State.setStr_frame ..) h2 rfl)) rfl)) rfl)

theorem execModeStringReadmit_runs (id : Word) (s : State) :
    Runs (.modeStringReadmit id) s (execModeStringReadmit id s) := by
  unfold execModeStringReadmit
  refine .start fun h0 => ?_
  exact .ok (.evaluateStrings h0 (fun _ _ _ _ h1 => (.after (State.surveysStart_frame ..) (.foldl h1 fun _ _ h2 =>
    (.after (State.herdClear_frame ..) h2 rfl)) rfl)) rfl)

theorem execModeStringReset_runs (id : Word) (s : State) :
    Runs (.modeStringReset id) s (execModeStringReset id s) := by
  unfold execModeStringReset
  refine .start fun h0 => ?_
  exact .ok (.evaluateStrings h0 (fun _ _ _ _ h1 => (.after (State.surveysStart_frame ..) h1 rfl)) rfl)

theorem execStringSurveyEnd_runs (p : Pulse) (str : StrIx) (s : State) :
    Runs (.stringSurveyEnd p str) s (execStringSurveyEnd p str s) := by
  unfold execStringSurveyEnd
  refine .start fun h0 => ?_
  extract_lets x1 x2 x3
  have hx1 : Paced _ _ _ x1 := .atP _ h0 rfl
  have hx3 : Paced _ _ _ x3 := .after (State.recordIdentities_frame ..) hx1 rfl
  refine .ok ?_
  split
  · exact hx1
  · extract_lets x4 x5 x6
    have hx6 : Paced _ _ _ x6 := (.after (State.modStr_frame ..) hx3 rfl)
    exact (.ite hx1 (.ite (.ite (.ite (by
      split
      · exact .after (State.wearToFe_frame ..) hx6 rfl
      · exact (.after (State.surveyTake_frame ..) (.after (State.wiresClear_frame ..) hx6 rfl) rfl)) (.ite (.ite
          (.after (State.surveyTake_frame ..) hx1 rfl) hx1) (.after (State.surveyTake_frame ..)
          (.after (State.wiresClear_frame ..) (.after (State.recordIdentities_frame ..) hx1 rfl) rfl) rfl)))
          (.after (State.surveyTake_frame ..) hx1 rfl)) hx1))

theorem execAccDebugUnlock_runs (id : Word) (s : State) :
    Runs (.accDebugUnlock id) s (execAccDebugUnlock id s) := by
  unfold execAccDebugUnlock
  refine .start fun h0 => ?_
  exact .ok (.evaluate h0 (fun _ _ h1 => (by
    extract_lets x1 x2 x3 x4 x5
    have hx1 : Paced _ _ _ x1 := (.after (State.cmdDone_frame ..) h1 rfl)
    have hx2 : Paced _ _ _ x2 := (.after (State.ev_frame ..) hx1 rfl)
    have hx3 : Paced _ _ _ x3 := (.after (State.enterSafe_frame ..) hx2 rfl)
    exact (.upd hx3 rfl))) rfl)

theorem execRef10InChange_runs (p : Pulse) (good : Bool) (freq : Int) (s : State) :
    Runs (.ref10InChange p good freq) s (execRef10InChange p good freq s) := by
  unfold execRef10InChange
  refine .start fun h0 => ?_
  extract_lets x1 x2 x3 x4
  have hx1 : Paced _ _ _ x1 := .atP _ h0 rfl
  have hx3 : Paced _ _ _ x3 := .upd hx1 rfl
  exact .ok (.ite hx3 (.after (State.freqTake_frame ..) (.upd hx3 rfl) rfl))

theorem execAnalogInputConversion_runs (vals : List Int) (s : State) :
    Runs (.analogInputConversion vals) s (execAnalogInputConversion vals s) := by
  unfold execAnalogInputConversion
  refine .start fun h0 => ?_
  extract_lets x1 x2
  have hx1 : Paced _ _ _ x1 := .atP _ h0 rfl
  exact .ok (.upd hx1 rfl)

theorem execSurveyEnd_runs (s : State) :
    Runs .surveyEnd s (execSurveyEnd s) := by
  unfold execSurveyEnd
  refine .start fun h0 => ?_
  extract_lets x1 x2 x3
  have hx1 : Paced _ _ _ x1 := .atP _ h0 rfl
  have hx2 : Paced _ _ _ x2 := .after (State.surveyReconcile_frame ..) hx1 rfl
  exact .ok (.ite (.ite (.upd hx2 rfl) (.after (State.surveyLeave_frame ..) hx2 rfl)) hx1)

theorem execRestartAtPulse999_runs (s : State) :
    Runs .restartAtPulse999 s (execRestartAtPulse999 s) := by
  unfold execRestartAtPulse999
  refine .start fun h0 => ?_
  extract_lets x1
  have hx1 : Paced _ _ _ x1 := .atP _ h0 rfl
  refine .ok ?_
  split
  · exact .after (State.restart_frame ..) hx1 rfl
  · exact hx1

theorem execFrameStrobe_runs (s : State) :
    Runs .frameStrobe s (execFrameStrobe s) := by
  unfold execFrameStrobe
  refine .start fun h0 => ?_
  extract_lets x1 x2
  have hx1 : Paced _ _ _ x1 := .after (State.linkClock_frame ..) h0 rfl
  have hx2 : Paced _ _ _ x2 := .after (State.sf10Frame_frame ..) (.after (State.diagsPass_frame ..)
    (.after (State.twMarkhor_frame ..) (.after (State.twAge_frame ..) (.after (State.derateRelease_frame ..)
    (.after (State.portsFrame_frame ..) (.after (State.tick_frame ..) hx1 rfl) rfl) rfl) rfl) rfl) rfl) rfl
  exact .ok (.ite hx1 (.after (State.thermalLoops_frame ..) (.ite (.after (State.canTimeRef_frame ..)
    (.after (State.strobeStrings_frame ..) (.after (State.strobeLink_frame ..)
    (.after (State.strobeGraze_frame ..) (.after (State.strobePair_frame ..) hx2 rfl) rfl) rfl) rfl) rfl) hx2) rfl))

theorem execSecondBoundary_runs (s : State) :
    Runs .secondBoundary s (execSecondBoundary s) := by
  unfold execSecondBoundary
  refine .start fun h0 => ?_
  extract_lets x1 x2 x3 x4
  have hx1 : Paced _ _ _ x1 := .atP _ h0 rfl
  have hx2 : Paced _ _ _ x2 := .after (State.secondCounts_frame ..) hx1 rfl
  have hx4 : Paced _ _ _ x4 := .after (State.gaspBase_frame ..) (.upd hx2 rfl) rfl
  exact .ok (.ite (.ite (.after (State.secondWork_frame ..) hx4 rfl) hx4) hx1)

theorem execElandOverrun_runs (s : State) :
    Runs .elandOverrun s (execElandOverrun s) := by
  unfold execElandOverrun
  refine .start fun h0 => ?_
  extract_lets x1 x2 x3
  have hx1 : Paced _ _ _ x1 := .after (State.overrun_frame ..) (.atP _ h0 rfl) rfl
  exact .ok (.upd hx1 rfl)

theorem execJournalCommitOverrun_runs (s : State) :
    Runs .journalCommitOverrun s (execJournalCommitOverrun s) := by
  unfold execJournalCommitOverrun
  refine .start fun h0 => ?_
  extract_lets x1
  have hx1 : Paced _ _ _ x1 := .atP _ h0 rfl
  exact .ok (.ite hx1 (.after (State.overrun_frame ..) hx1 rfl))

theorem execTimeStep_runs (s : State) :
    Runs .timeStep s (execTimeStep s) := by
  unfold execTimeStep
  refine .start fun h0 => ?_
  extract_lets x1
  have hx1 : Paced _ _ _ x1 := .atP _ h0 rfl
  refine .ok ?_
  split
  · exact .ite hx1 (.ite (.after (State.stepTo_frame ..) hx1 rfl) (.after (State.stepPut_frame ..) hx1 rfl))
  · exact .ite (.after (State.stepTo_frame ..) hx1 rfl) hx1

end Sys2Proof.Machine
end

section
namespace Sys2Proof.Machine

/-! ### The redundant pair (chapter 13) -/

theorem execPairHeartbeatSend_runs (n : Fin 10) (s : State) :
    Runs (.pairHeartbeatSend n) s (execPairHeartbeatSend n s) := by
  unfold execPairHeartbeatSend
  refine .start fun h0 => ?_
  extract_lets x1 x2 x3 x4
  have hx1 : Paced _ _ _ x1 := .atP _ h0 rfl
  have hx3 : Paced _ _ _ x3 := .after (State.pairSend_frame ..) hx1 rfl
  exact .ok (.ite (.upd hx3 rfl) hx1)

theorem execPairHeartbeatRx_runs (p : Pulse) (h : PairHb) (s : State) :
    Runs (.pairHeartbeatRx p h) s (execPairHeartbeatRx p h s) := by
  unfold execPairHeartbeatRx
  refine .start fun h0 => ?_
  extract_lets x1 x2 x3 x4 x5 x6 x7
  have hx1 : Paced _ _ _ x1 := .atP _ h0 rfl
  have hx3 : Paced _ _ _ x3 := .after (State.lineJudge_frame ..) (.after (State.peerTake_frame ..) hx1 rfl) rfl
  have hx4 : Paced _ _ _ x4 := .ite (.after (State.alignJudge_frame ..) hx3 rfl) hx3
  have hx5 : Paced _ _ _ x5 := .after (State.lossJudge_frame ..) hx4 rfl
  have hx6 : Paced _ _ _ x6 := .ite (.after (State.meetActive_frame ..) hx5 rfl)
    (.after (State.twoResolved_frame ..) hx5 rfl)
  have hx7 : Paced _ _ _ x7.2 := .after (State.freeByte_frame ..) hx6 rfl
  refine .ok ?_
  split
  · exact .ite (.after (State.setPair_frame ..) hx5 rfl) hx5
  · exact .ite (.after (State.meetActive_frame ..) hx5 rfl) (.after (State.joinRequest_frame ..)
      (.after (State.setPair_frame ..) hx7 rfl) rfl)
  · exact .ite (.after (State.meetActive_frame ..) hx5 rfl) (.after (State.joinRequest_frame ..)
      (.after (State.peerInStep_frame ..) hx6 rfl) rfl)
  · exact hx5

theorem execPairMirrorRx_runs (p : Pulse) (port : PortIx) (d : UpData) (s : State) :
    Runs (.pairMirrorRx p port d) s (execPairMirrorRx p port d s) := by
  unfold execPairMirrorRx
  refine .start fun h0 => ?_
  extract_lets x1 x2 x3 x4 x5 x6
  have hx1 : Paced _ _ _ x1 := .atP _ h0 rfl
  have hx5 : Paced _ _ _ x5 := .after (State.modLnk_frame ..) (.upd hx1 rfl) rfl
  exact .ok (.ite (by
    split
    · exact .ite hx5 (.ite (.after (State.uploadDiffers_frame ..) hx5 rfl) (.ite
        (.after (State.flagCells_frame ..) (.after (State.tableTake_frame ..)
        (.after (State.uploadDiffers_frame ..) hx5 rfl) rfl) rfl) (.after (State.tableTake_frame ..)
        (.after (State.uploadDiffers_frame ..) hx5 rfl) rfl)))
    · exact (.ite (.after (State.flagCells_frame ..) (.after (State.tableTake_frame ..) hx5 rfl) rfl)
        (.after (State.tableTake_frame ..) hx5 rfl))) hx1)

theorem execPairSummaryRx_runs (p : Pulse) (x : Summary) (s : State) :
    Runs (.pairSummaryRx p x) s (execPairSummaryRx p x s) := by
  unfold execPairSummaryRx
  refine .start fun h0 => ?_
  extract_lets x1 x2
  have hx1 : Paced _ _ _ x1 := .atP _ h0 rfl
  exact .ok (.upd hx1 rfl)

theorem execPairAssignRx_runs (p : Pulse) (frame : Nat) (items : List PairItem) (ai : List Int) (s : State) :
    Runs (.pairAssignRx p frame items ai) s (execPairAssignRx p frame items ai s) := by
  unfold execPairAssignRx
  refine .start fun h0 => ?_
  extract_lets x1 x2 x3 x4 x5
  have hx1 : Paced _ _ _ x1 := .atP _ h0 rfl
  have hx4 : Paced _ _ _ x4 := .upd hx1 rfl
  exact .ok (.ite (.upd (.after (State.assign_frame ..) hx1 rfl) rfl) (.ite (.ite (.upd (.upd hx4 rfl) rfl) hx4) hx1))

theorem execPairListRx_runs (p : Pulse) (frame : Nat) (items : List PairItem) (tj power : Int) (holdup : Nat)
    (s : State) :
    Runs (.pairListRx p frame items tj power holdup) s (execPairListRx p frame items tj power holdup s) := by
  unfold execPairListRx
  refine .start fun h0 => ?_
  extract_lets x1 x2 x3 x4 x5
  have hx1 : Paced _ _ _ x1 := .atP _ h0 rfl
  exact .ok (.upd hx1 rfl)

theorem execPairDigestRx_runs (p : Pulse) (frame : Nat) (crcs : List Word) (s : State) :
    Runs (.pairDigestRx p frame crcs) s (execPairDigestRx p frame crcs s) := by
  unfold execPairDigestRx
  refine .start fun h0 => ?_
  extract_lets x1 x2
  have hx1 : Paced _ _ _ x1 := .atP _ h0 rfl
  exact .ok (.upd hx1 rfl)

theorem execPairStepRx_runs (p : Pulse) (boundary number : Nat) (s : State) :
    Runs (.pairStepRx p boundary number) s (execPairStepRx p boundary number s) := by
  unfold execPairStepRx
  refine .start fun h0 => ?_
  extract_lets x1 x2
  have hx1 : Paced _ _ _ x1 := .atP _ h0 rfl
  exact .ok (.ite (.upd hx1 rfl) hx1)

theorem execPairHandoverRx_runs (p : Pulse) (frame kind : Nat) (cmd : Word) (s : State) :
    Runs (.pairHandoverRx p frame kind cmd) s (execPairHandoverRx p frame kind cmd s) := by
  unfold execPairHandoverRx
  refine .start fun h0 => ?_
  extract_lets x1 x2
  have hx1 : Paced _ _ _ x1 := .atP _ h0 rfl
  exact .ok (.ite (.upd hx1 rfl) hx1)

theorem execPairTimeSetRx_runs (p : Pulse) (e : EpochIn) (s : State) :
    Runs (.pairTimeSetRx p e) s (execPairTimeSetRx p e s) := by
  unfold execPairTimeSetRx
  refine .start fun h0 => ?_
  extract_lets x1 x2 x3 x4 x5 x6 x7 x8
  have hx1 : Paced _ _ _ x1 := .atP _ h0 rfl
  have hx4 : Paced _ _ _ x4 := .after (State.joinReset_frame ..) hx1 rfl
  have hx8 : Paced _ _ _ x8 := .upd hx4 rfl
  exact .ok (.ite (.ite (.after (State.joinFail_frame ..) hx8 rfl) hx8) hx1)

theorem execCopyPageRx_runs (p : Pulse) (page : Fin 708) (epoch : Nat) (crcOk : Bool) (s : State) :
    Runs (.copyPageRx p page epoch crcOk) s (execCopyPageRx p page epoch crcOk s) := by
  unfold execCopyPageRx
  refine .start fun h0 => ?_
  extract_lets x1 x2 x3 x4 x5 x6 x7 x8
  have hx1 : Paced _ _ _ x1 := .atP _ h0 rfl
  have hx3 : Paced _ _ _ x3 := .upd hx1 rfl
  have hx6 : Paced _ _ _ x6 := .ite hx3 (.after (State.pairSend_frame ..) hx3 rfl)
  have hx7 : Paced _ _ _ x7 := .after (State.copyEvent_frame ..) hx6 rfl
  clear_value x7
  exact .ok (.ite (.ite (.after (State.pairSend_frame ..) hx1 rfl) (.ite (.upd hx7 rfl) hx6)) hx1)

theorem execCopyAckRx_runs (p : Pulse) (pages : List Nat) (s : State) :
    Runs (.copyAckRx p pages) s (execCopyAckRx p pages s) := by
  unfold execCopyAckRx
  refine .start fun h0 => ?_
  extract_lets x1 x2 x3
  have hx1 : Paced _ _ _ x1 := .atP _ h0 rfl
  exact .ok (.ite (.upd hx1 rfl) hx1)

theorem execCopyPageResend_runs (p : Pulse) (page : Fin 708) (s : State) :
    Runs (.copyPageResend p page) s (execCopyPageResend p page s) := by
  unfold execCopyPageResend
  refine .start fun h0 => ?_
  extract_lets x1 x2 x3
  have hx1 : Paced _ _ _ x1 := .atP _ h0 rfl
  have hx2 : Paced _ _ _ x2 := .after (State.pairSend_frame ..) hx1 rfl
  exact .ok (.ite (.upd hx2 rfl) hx1)

theorem execLoopLiveRx_runs (p : Pulse) (frame : Nat) (loops : List LoopSt) (sums : List Sums) (s : State) :
    Runs (.loopLiveRx p frame loops sums) s (execLoopLiveRx p frame loops sums s) := by
  unfold execLoopLiveRx
  refine .start fun h0 => ?_
  extract_lets x1 x2
  have hx1 : Paced _ _ _ x1 := .atP _ h0 rfl
  exact .ok (.ite (.upd hx1 rfl) hx1)

theorem execReplayCaughtUp_runs (c : CopyIn) (s : State) :
    Runs (.replayCaughtUp c) s (execReplayCaughtUp c s) := by
  unfold execReplayCaughtUp
  refine .start fun h0 => ?_
  extract_lets x1 x2 x3 x4 x5
  have hx1 : Paced _ _ _ x1 := .atP _ h0 rfl
  have hx2 : Paced _ _ _ x2 := .ite (.after (State.recordsTake_frame ..)
    (.after (State.copyTake_frame ..) hx1 rfl) rfl) (.after (State.coldCells_frame ..)
    (.after (State.recordsTake_frame ..) hx1 rfl) rfl)
  have hx3 : Paced _ _ _ x3 := .foldl hx2 fun _ _ h1 => (.after (State.portTake_frame ..) h1 rfl)
  exact .ok (.ite (.upd hx3 rfl) hx1)

theorem execChgInChange_runs (p : Pulse) (up : Bool) (s : State) :
    Runs (.chgInChange p up) s (execChgInChange p up s) := by
  unfold execChgInChange
  refine .start fun h0 => ?_
  extract_lets x1 x2 x3 x4
  have hx1 : Paced _ _ _ x1 := .atP _ h0 rfl
  have hx3 : Paced _ _ _ x3 := .upd hx1 rfl
  have hx4 : Paced _ _ _ x4 := .after (State.lineJudge_frame ..) hx3 rfl
  exact .ok (.ite (.ite (.after (State.setPair_frame ..) hx4 rfl) (.ite
    (.after (State.meetActive_frame ..) hx4 rfl) hx4)) (.ite (.after (State.twoResolved_frame ..) hx3 rfl) hx3))

theorem execPairTakeover_runs (p : Pulse) (silent : Bool) (s : State) :
    Runs (.pairTakeover p silent) s (execPairTakeover p silent s) := by
  unfold execPairTakeover
  refine .start fun h0 => ?_
  extract_lets x1 x2 x3 x4 x5 x6 x7 x8 x9 x10 x11
  have hx1 : Paced _ _ _ x1 := .atP _ h0 rfl
  have hx4 : Paced _ _ _ x4 := .after (State.abortConnects_frame ..) hx1 rfl
  clear_value x4
  have hx6 : Paced _ _ _ x6 := .upd hx4 rfl
  have hx7 : Paced _ _ _ x7 := .after (State.ev_frame ..) (.after (State.becomeLone_frame ..) hx6 rfl) rfl
  clear_value x7
  have hx9 : Paced _ _ _ x9 := .upd hx7 rfl
  have hx10 : Paced _ _ _ x10 := .ite hx9 (.after (State.coldStart_frame ..) hx9 rfl)
  have hx11 : Paced _ _ _ x11 := .after (State.timeUnfollow_frame ..) hx10 rfl
  exact .ok (.ite hx1 (.ite (.after (State.lossRuns_frame ..) hx11 rfl) hx11))

theorem execPairPeerLost_runs (p : Pulse) (s : State) :
    Runs (.pairPeerLost p) s (execPairPeerLost p s) := by
  unfold execPairPeerLost
  refine .start fun h0 => ?_
  extract_lets x1 x2 x3 x4
  have hx1 : Paced _ _ _ x1 := .atP _ h0 rfl
  have hx3 : Paced _ _ _ x3 := .ite (.upd hx1 rfl) hx1
  have hx4 : Paced (setsTime (.pairPeerLost p)) (writes (.pairPeerLost p)) s x4 := by
    unfold x4
    split
    · exact .ite (.after (State.lossRuns_frame ..) hx3 rfl) hx3
    · exact hx3
  refine .ok ?_
  split
  · exact .after (State.becomeLone_frame ..) hx4 rfl
  · exact .ite (.after (State.setPair_frame ..) hx4 rfl) hx4
  · exact hx4

theorem execPairListenTimeout_runs (p : Pulse) (s : State) :
    Runs (.pairListenTimeout p) s (execPairListenTimeout p s) := by
  unfold execPairListenTimeout
  refine .start fun h0 => ?_
  extract_lets x1 x2
  have hx1 : Paced _ _ _ x1 := .atP _ h0 rfl
  exact .ok (.ite (.after (State.becomeLone_frame ..) hx1 rfl) hx1)

theorem execPairJoinTimeout_runs (p : Pulse) (s : State) :
    Runs (.pairJoinTimeout p) s (execPairJoinTimeout p s) := by
  unfold execPairJoinTimeout
  refine .start fun h0 => ?_
  extract_lets x1
  have hx1 : Paced _ _ _ x1 := .atP _ h0 rfl
  exact .ok (.ite (.after (State.joinFail_frame ..) hx1 rfl) hx1)

theorem execPairDetachWaitEnd_runs (p : Pulse) (s : State) :
    Runs (.pairDetachWaitEnd p) s (execPairDetachWaitEnd p s) := by
  unfold execPairDetachWaitEnd
  refine .start fun h0 => ?_
  extract_lets x1 x2
  have hx1 : Paced _ _ _ x1 := .atP _ h0 rfl
  have hx2 : Paced _ _ _ x2.2 := .after (State.freeByte_frame ..) hx1 rfl
  exact .ok (.ite (.after (State.setPair_frame ..) hx2 rfl) hx1)

theorem execPairAssignMissing_runs (p : Pulse) (s : State) :
    Runs (.pairAssignMissing p) s (execPairAssignMissing p s) := by
  unfold execPairAssignMissing
  refine .start fun h0 => ?_
  extract_lets x1 x2 x3
  have hx1 : Paced _ _ _ x1 := .atP _ h0 rfl
  exact .ok (.ite (.ite (.after (State.setPair_frame ..) hx1 rfl) (.ite
    (.after (State.joinFail_frame ..) hx1 rfl) hx1)) hx1)

theorem execPairHomeHoldExpiry_runs (p : Pulse) (s : State) :
    Runs (.pairHomeHoldExpiry p) s (execPairHomeHoldExpiry p s) := by
  unfold execPairHomeHoldExpiry
  refine .start fun h0 => ?_
  extract_lets x1 x2 x3 x4
  have hx1 : Paced _ _ _ x1 := .atP _ h0 rfl
  exact .ok (.ite (.after (State.pairSend_frame ..) hx1 rfl) (.ite (.upd hx1 rfl) hx1))

theorem execPairHandoverFrame_runs (late : Bool) (s : State) :
    Runs (.pairHandoverFrame late) s (execPairHandoverFrame late s) := by
  unfold execPairHandoverFrame
  refine .start fun h0 => ?_
  extract_lets x1 x2 x3 x4 x5 x6 x7
  have hx1 : Paced _ _ _ x1 := .atP _ h0 rfl
  have hx3 : Paced _ _ _ x3 := .after (State.timeUnfollow_frame ..) (.after (State.setPair_frame ..) hx1 rfl) rfl
  have hx5 : Paced _ _ _ x5 := .after (State.timeFollow_frame ..) (.after (State.setPair_frame ..) hx1 rfl) rfl
  have hx7 : Paced _ _ _ x7 := .ite (.upd hx5 rfl) hx1
  refine .ok ?_
  split
  · exact hx1
  · exact .ite hx1 (.ite (.ite (.upd hx1 rfl) (.ite (.after (State.policyDeferred_frame ..)
      (.upd hx3 rfl) rfl) hx1)) (.after (State.handoverEnd_frame ..) hx7 rfl))

theorem execPairHandover_runs (id : Word) (s : State) :
    Runs (.pairHandover id) s (execPairHandover id s) := by
  unfold execPairHandover
  refine .start fun h0 => ?_
  exact .ok (.evaluate h0 (fun _ _ h1 => (by
    extract_lets x1 x2
    have hx1 : Paced _ _ _ x1 := (.after (State.cmdTo_frame ..) h1 rfl)
    exact (.upd hx1 rfl))) rfl)

theorem execPairLaneChange_runs (p : Pulse) (lane : Fin 2) (up : Bool) (s : State) :
    Runs (.pairLaneChange p lane up) s (execPairLaneChange p lane up s) := by
  unfold execPairLaneChange
  refine .start fun h0 => ?_
  extract_lets x1 x2 x3 x4
  have hx1 : Paced _ _ _ x1 := .atP _ h0 rfl
  have hx3 : Paced _ _ _ x3 := .after (State.ev_frame ..) hx1 rfl
  exact .ok (.ite hx1 (.ite (.upd hx3 rfl) (.upd hx3 rfl)))

theorem execMarkhorSummary_runs (s : State) :
    Runs .markhorSummary s (execMarkhorSummary s) := by
  unfold execMarkhorSummary
  refine .start fun h0 => ?_
  extract_lets x1 x2 x3
  have hx1 : Paced _ _ _ x1 := .atP _ h0 rfl
  exact .ok (.after (State.pairSend_frame ..) (.upd hx1 rfl) rfl)

theorem execAssignSend_runs (s : State) :
    Runs .assignSend s (execAssignSend s) := by
  unfold execAssignSend
  refine .start fun h0 => ?_
  extract_lets x1 x2 x3 x4 x5 x6 x7 x8 x9
  have hx1 : Paced _ _ _ x1 := .atP _ h0 rfl
  have hx7 : Paced _ _ _ x7 := .after (State.assign_frame ..) hx1 rfl
  have hx9 : Paced _ _ _ x9 := .upd hx7 rfl
  exact .ok (.ite (.after (State.pairSend_frame ..) hx9 rfl) hx1)

theorem execDigestSend_runs (s : State) :
    Runs .digestSend s (execDigestSend s) := by
  unfold execDigestSend
  refine .start fun h0 => ?_
  extract_lets x1 x2 x3 x4 x5
  have hx1 : Paced _ _ _ x1 := .atP _ h0 rfl
  have hx3 : Paced _ _ _ x3 := .upd hx1 rfl
  clear_value x3
  exact .ok (.ite (.after (State.pairSend_frame ..) (.upd hx3 rfl) rfl) hx3)

theorem execDigestCompare_runs (s : State) :
    Runs .digestCompare s (execDigestCompare s) := by
  unfold execDigestCompare
  refine .start fun h0 => ?_
  extract_lets x1
  have hx1 : Paced _ _ _ x1 := .atP _ h0 rfl
  refine .ok ?_
  split
  · extract_lets x2 x3 x4 x5
    have hx3 : Paced _ _ _ x3 := (.after (State.divergence_frame ..) hx1 rfl)
    have hx5 : Paced _ _ _ x5 := (.ite (.upd hx3 rfl) hx1)
    exact .ite (.ite (.ite (.after (State.digestEqual_frame ..) hx5 rfl)
      (.after (State.digestUnequal_frame ..) hx5 rfl)) (.ite (.after (State.digestEqual_frame ..) hx1 rfl)
      (.after (State.digestUnequal_frame ..) hx1 rfl))) hx1
  · exact hx1

end Sys2Proof.Machine
end

section
namespace Sys2Proof.Machine

/-! ### Site link, access, container bus and two-wire port (chapters 14 to 16, 20) -/

theorem execLoneNodeOpenTimeout_runs (p : Pulse) (str : StrIx) (s : State) :
    Runs (.loneNodeOpenTimeout p str) s (execLoneNodeOpenTimeout p str s) := by
  unfold execLoneNodeOpenTimeout
  refine .start fun h0 => ?_
  extract_lets x1
  have hx1 : Paced _ _ _ x1 := .atP _ h0 rfl
  refine .ok ?_
  split
  · exact .ite (.after (State.loneOpen_frame ..) hx1 rfl) hx1
  · exact hx1

theorem execSessionOpen_runs (p : Pulse) (m : SiteIn) (o : OpenIn) (s : State) :
    Runs (.sessionOpen p m o) s (execSessionOpen p m o s) := by
  unfold execSessionOpen
  refine .start fun h0 => ?_
  extract_lets x1 x2 x3 x4 x5 x6 x7 x8 x9
  have hx1 : Paced _ _ _ x1 := .atP _ h0 rfl
  have hx3 : Paced _ _ _ x3 := .after (State.ev_frame ..) hx1 rfl
  have hx5 : Paced _ _ _ x5.2 := .after (State.freshSession_frame ..) hx1 rfl
  have hx7 : Paced _ _ _ x7 := hx5
  have hx9 : Paced _ _ _ x9 := .upd hx7 (by simp only [x9, x6, SiteSt.heard_eq]; rfl)
  exact .ok (.ite hx1 (.ite (.after (State.countFmt_frame ..) hx1 rfl) (.ite (.upd hx1 rfl) (.ite
    (.after (State.send_frame ..) (.upd hx3 rfl) rfl) (by
    split
    · exact .after (State.authFail_frame ..) hx1 rfl
    · exact .after (State.send_frame ..) hx9 rfl)))))

theorem execSessionClose_runs (p : Pulse) (m : SiteIn) (code : BitVec 16) (s : State) :
    Runs (.sessionClose p m code) s (execSessionClose p m code s) := by
  unfold execSessionClose
  refine .start fun h0 => ?_
  exact .ok (.onValid (.atP _ h0 rfl) (fun _ h1 => (.after (State.endSession_frame ..) h1 rfl)) rfl)

theorem execSiteHeartbeatRx_runs (p : Pulse) (m : SiteIn) (s : State) :
    Runs (.siteHeartbeatRx p m) s (execSiteHeartbeatRx p m s) := by
  unfold execSiteHeartbeatRx
  refine .start fun h0 => ?_
  exact .ok (.onValid (.atP _ h0 rfl) (fun _ h1 => h1) rfl)

theorem execSessionOpeningTimeout_runs (p : Pulse) (s : State) :
    Runs (.sessionOpeningTimeout p) s (execSessionOpeningTimeout p s) := by
  unfold execSessionOpeningTimeout
  refine .start fun h0 => ?_
  extract_lets x1
  have hx1 : Paced _ _ _ x1 := .atP _ h0 rfl
  exact .ok (.ite (.after (State.endSession_frame ..) hx1 rfl) hx1)

theorem execSessionLapse_runs (p : Pulse) (s : State) :
    Runs (.sessionLapse p) s (execSessionLapse p s) := by
  unfold execSessionLapse
  refine .start fun h0 => ?_
  extract_lets x1 x2 x3
  have hx1 : Paced _ _ _ x1 := .atP _ h0 rfl
  have hx2 : Paced _ _ _ x2 := .after (State.endSession_frame ..) hx1 rfl
  exact .ok (.ite (.upd hx2 rfl) hx1)

theorem execCommand_runs (p : Pulse) (m : SiteIn) (id : Word) (code : BitVec 16) (body : Bytes) (s : State) :
    Runs (.command p m id code body) s (execCommand p m id code body s) := by
  unfold execCommand
  refine .start fun h0 => ?_
  exact .ok (.onValid (.atP _ h0 rfl) (fun _ h1 => (.after (State.commandIn_frame ..) h1 rfl)) rfl)

theorem execCommandStatus_runs (p : Pulse) (m : SiteIn) (id : Word) (s : State) :
    Runs (.commandStatus p m id) s (execCommandStatus p m id s) := by
  unfold execCommandStatus
  refine .start fun h0 => ?_
  exact .ok (.onValid (.atP _ h0 rfl) (fun _ h1 => (by
    split
    · exact .after (State.answer_frame ..) h1 rfl
    · exact (.after (State.answer_frame ..) h1 rfl))) rfl)

theorem execStatusRead_runs (p : Pulse) (m : SiteIn) (index : BitVec 16) (s : State) :
    Runs (.statusRead p m index) s (execStatusRead p m index s) := by
  unfold execStatusRead
  refine .start fun h0 => ?_
  exact .ok (.onValid (.atP _ h0 rfl) (fun _ h1 => (by
    extract_lets x1 x2
    exact (.after (State.send_frame ..) h1 rfl))) rfl)

theorem execWindowRead_runs (p : Pulse) (m : SiteIn) (page : Fin 16384) (gen : BitVec 16) (chunk : Fin 4)
    (s : State) :
    Runs (.windowRead p m page gen chunk) s (execWindowRead p m page gen chunk s) := by
  unfold execWindowRead
  refine .start fun h0 => ?_
  exact .ok (.onValid (.atP _ h0 rfl) (fun _ h1 => (by
    extract_lets x1 x2
    exact (.ite (.after (State.windowReply_frame ..) h1 rfl) (.ite (.after (State.windowReply_frame ..) h1 rfl)
      (.after (State.windowReply_frame ..) h1 rfl))))) rfl)

theorem execWindowWrite_runs (p : Pulse) (m : SiteIn) (page : Fin 16384) (gen : BitVec 16) (chunk : Fin 4)
    (data : Bytes) (s : State) :
    Runs (.windowWrite p m page gen chunk data) s (execWindowWrite p m page gen chunk data s) := by
  unfold execWindowWrite
  refine .start fun h0 => ?_
  extract_lets x1
  exact .ok (.onValid (.atP _ h0 rfl) (fun _ h1 => (by
    extract_lets x2
    exact (.ite (.after (State.windowReply_frame ..) h1 rfl) (.ite (.after (State.windowReply_frame ..)
      (.after (State.modPage_frame ..) h1 rfl) rfl) (.after (State.windowReply_frame ..) h1 rfl))))) rfl)

theorem execPageRelease_runs (p : Pulse) (m : SiteIn) (entries : List (Nat × Nat)) (s : State) :
    Runs (.pageRelease p m entries) s (execPageRelease p m entries s) := by
  unfold execPageRelease
  refine .start fun h0 => ?_
  exact .ok (.onValid (.atP _ h0 rfl) (fun _ h1 => (.after (State.winAsk_frame ..) h1 rfl)) rfl)

theorem execPageClaim_runs (p : Pulse) (m : SiteIn) (count : Nat) (s : State) :
    Runs (.pageClaim p m count) s (execPageClaim p m count s) := by
  unfold execPageClaim
  refine .start fun h0 => ?_
  exact .ok (.onValid (.atP _ h0 rfl) (fun _ h1 => (.after (State.winAsk_frame ..) h1 rfl)) rfl)

theorem execPageReturn_runs (p : Pulse) (m : SiteIn) (entries : List (Nat × Nat × Nat × Word)) (s : State) :
    Runs (.pageReturn p m entries) s (execPageReturn p m entries s) := by
  unfold execPageReturn
  refine .start fun h0 => ?_
  exact .ok (.onValid (.atP _ h0 rfl) (fun _ h1 => (.after (State.winAsk_frame ..) h1 rfl)) rfl)

theorem execInboundPageExpire_runs (p : Pulse) (page : Fin 16384) (s : State) :
    Runs (.inboundPageExpire p page) s (execInboundPageExpire p page s) := by
  unfold execInboundPageExpire
  refine .start fun h0 => ?_
  extract_lets x1
  have hx1 : Paced _ _ _ x1 := .atP _ h0 rfl
  exact .ok (.ite (.after (State.winLoss_frame ..) (.after (State.winAsk_frame ..) hx1 rfl) rfl) hx1)

theorem execTripCapture_runs (p : Pulse) (str : StrIx) (samples : Bytes) (s : State) :
    Runs (.tripCapture p str samples) s (execTripCapture p str samples s) := by
  unfold execTripCapture
  refine .start fun h0 => ?_
  extract_lets x1 x2
  have hx1 : Paced _ _ _ x1 := .atP _ h0 rfl
  exact .ok (.upd hx1 rfl)

theorem execPcsStateRx_runs (p : Pulse) (ctl : Fin 2) (f : CanFrame) (full : Bool) (s : State) :
    Runs (.pcsStateRx p ctl f full) s (execPcsStateRx p ctl f full s) := by
  unfold execPcsStateRx
  refine .start fun h0 => ?_
  exact .ok (.after (State.canRx_frame ..) (.atP _ h0 rfl) rfl)

theorem execHvacBudgetRx_runs (p : Pulse) (ctl : Fin 2) (f : CanFrame) (full : Bool) (s : State) :
    Runs (.hvacBudgetRx p ctl f full) s (execHvacBudgetRx p ctl f full s) := by
  unfold execHvacBudgetRx
  refine .start fun h0 => ?_
  exact .ok (.after (State.canRx_frame ..) (.atP _ h0 rfl) rfl)

theorem execFireStatusRx_runs (p : Pulse) (ctl : Fin 2) (f : CanFrame) (full : Bool) (s : State) :
    Runs (.fireStatusRx p ctl f full) s (execFireStatusRx p ctl f full s) := by
  unfold execFireStatusRx
  refine .start fun h0 => ?_
  exact .ok (.after (State.canRx_frame ..) (.atP _ h0 rfl) rfl)

theorem execImdStatusRx_runs (p : Pulse) (ctl : Fin 2) (f : CanFrame) (full : Bool) (s : State) :
    Runs (.imdStatusRx p ctl f full) s (execImdStatusRx p ctl f full s) := by
  unfold execImdStatusRx
  refine .start fun h0 => ?_
  exact .ok (.after (State.canRx_frame ..) (.atP _ h0 rfl) rfl)

theorem execPcsStateTimeout_runs (p : Pulse) (s : State) :
    Runs (.pcsStateTimeout p) s (execPcsStateTimeout p s) := by
  unfold execPcsStateTimeout
  refine .start fun h0 => ?_
  exact .ok (.after (State.reachJudge_frame ..) (.atP _ h0 rfl) rfl)

theorem execCanTxDone_runs (p : Pulse) (ctl : Fin 2) (obj : Fin 7) (sof : Nat) (early : Bool) (s : State) :
    Runs (.canTxDone p ctl obj sof early) s (execCanTxDone p ctl obj sof early s) := by
  unfold execCanTxDone
  refine .start fun h0 => ?_
  extract_lets x1 x2 x3 x4 x5 x6 x7 x8
  have hx1 : Paced _ _ _ x1 := .atP _ h0 rfl
  have hx8 : Paced _ _ _ x8 := .after (State.modCtl_frame ..) hx1 rfl
  exact .ok (.ite (.ite (.after (State.setCtl_frame ..) hx8 rfl) hx8) hx1)

theorem execCanTxFail_runs (p : Pulse) (ctl : Fin 2) (obj : Fin 7) (err : TxError) (early : Bool) (s : State) :
    Runs (.canTxFail p ctl obj err early) s (execCanTxFail p ctl obj err early s) := by
  unfold execCanTxFail
  refine .start fun h0 => ?_
  extract_lets x1 x2 x3 x4 x5 x6 x7 x8 x9
  have hx1 : Paced _ _ _ x1 := .atP _ h0 rfl
  have hx8 : Paced _ _ _ x8 := .after (State.modCtl_frame ..) hx1 rfl
  have hx9 : Paced _ _ _ x9 := .ite (.after (State.undeliver_frame ..) hx8 rfl)
    (.after (State.modCtl_frame ..) hx8 rfl)
  exact .ok (.ite (.ite hx8 (.ite hx8 (.after (State.modCtl_frame ..) hx9 rfl))) hx1)

theorem execCanBusOff_runs (p : Pulse) (ctl : Fin 2) (s : State) :
    Runs (.canBusOff p ctl) s (execCanBusOff p ctl s) := by
  unfold execCanBusOff
  refine .start fun h0 => ?_
  extract_lets x1 x2
  have hx1 : Paced _ _ _ x1 := .atP _ h0 rfl
  exact .ok (.ite (.after (State.modCtl_frame ..) (.after (State.setCtl_frame ..) hx1 rfl) rfl) hx1)

theorem execCanBusoffRecovered_runs (p : Pulse) (ctl : Fin 2) (s : State) :
    Runs (.canBusoffRecovered p ctl) s (execCanBusoffRecovered p ctl s) := by
  unfold execCanBusoffRecovered
  refine .start fun h0 => ?_
  extract_lets x1 x2
  have hx1 : Paced _ _ _ x1 := .atP _ h0 rfl
  exact .ok (.ite (.after (State.setCtl_frame ..) (.after (State.modCtl_frame ..) hx1 rfl) rfl) hx1)

theorem execCanDetectDwell_runs (p : Pulse) (ctl : Fin 2) (s : State) :
    Runs (.canDetectDwell p ctl) s (execCanDetectDwell p ctl s) := by
  unfold execCanDetectDwell
  refine .start fun h0 => ?_
  extract_lets x1 x2
  have hx1 : Paced _ _ _ x1 := .atP _ h0 rfl
  exact .ok (.ite (.after (State.modCtl_frame ..) hx1 rfl) hx1)

theorem execCanDetectAccept_runs (p : Pulse) (ctl : Fin 2) (s : State) :
    Runs (.canDetectAccept p ctl) s (execCanDetectAccept p ctl s) := by
  unfold execCanDetectAccept
  refine .start fun h0 => ?_
  extract_lets x1 x2 x3
  have hx1 : Paced _ _ _ x1 := .atP _ h0 rfl
  exact .ok (.ite (.after (State.setCtl_frame ..) (.after (State.modCtl_frame ..) hx1 rfl) rfl) hx1)

theorem execCanDetectTimeout_runs (p : Pulse) (ctl : Fin 2) (s : State) :
    Runs (.canDetectTimeout p ctl) s (execCanDetectTimeout p ctl s) := by
  unfold execCanDetectTimeout
  refine .start fun h0 => ?_
  extract_lets x1 x2
  have hx1 : Paced _ _ _ x1 := .atP _ h0 rfl
  exact .ok (.ite (.after (State.setCtl_frame ..) (.after (State.modCtl_frame ..) hx1 rfl) rfl) hx1)

theorem execCanLone_runs (p : Pulse) (ctl : Fin 2) (s : State) :
    Runs (.canLone p ctl) s (execCanLone p ctl s) := by
  unfold execCanLone
  refine .start fun h0 => ?_
  extract_lets x1 x2 x3
  have hx1 : Paced _ _ _ x1 := .atP _ h0 rfl
  exact .ok (.ite (.after (State.setCtl_frame ..) hx1 rfl) hx1)

theorem execCanProbe_runs (ctl : Fin 2) (s : State) :
    Runs (.canProbe ctl) s (execCanProbe ctl s) := by
  unfold execCanProbe
  refine .start fun h0 => ?_
  extract_lets x1
  have hx1 : Paced _ _ _ x1 := .atP _ h0 rfl
  exact .ok (.ite (.after (State.canPut_frame ..) hx1 rfl) hx1)

theorem execCanStandbyTimeRef_runs (ctl : Fin 2) (s : State) :
    Runs (.canStandbyTimeRef ctl) s (execCanStandbyTimeRef ctl s) := by
  unfold execCanStandbyTimeRef
  refine .start fun h0 => ?_
  extract_lets x1 x2
  have hx1 : Paced _ _ _ x1 := .atP _ h0 rfl
  exact .ok (.ite (.after (State.timeRef_frame ..) hx1 rfl) hx1)

theorem execCanClash_runs (p : Pulse) (ctl : Fin 2) (obj : Fin 7) (s : State) :
    Runs (.canClash p ctl obj) s (execCanClash p ctl obj s) := by
  unfold execCanClash
  refine .start fun h0 => ?_
  extract_lets x1 x2
  have hx1 : Paced _ _ _ x1 := .atP _ h0 rfl
  exact .ok (.ite (.after (State.disableObj_frame ..) (.after (State.clashEvent_frame ..) hx1 rfl) rfl) hx1)

theorem execTransmitAtTime_runs (ctl : Fin 2) (s : State) :
    Runs (.transmitAtTime ctl) s (execTransmitAtTime ctl s) := by
  unfold execTransmitAtTime
  refine .start fun h0 => ?_
  extract_lets x1 x2 x3 x4
  have hx1 : Paced _ _ _ x1 := .atP _ h0 rfl
  have hx3 : Paced _ _ _ x3 := .after (State.modCtl_frame ..) hx1 rfl
  exact .ok (.ite (.after (State.canPut_frame ..) (.upd hx3 rfl) rfl) hx1)

theorem execTwAddress_runs (p : Pulse) (address : BitVec 7) (read : Bool) (sent : Nat) (s : State) :
    Runs (.twAddress p address read sent) s (execTwAddress p address read sent s) := by
  unfold execTwAddress
  refine .start fun h0 => ?_
  extract_lets x1 x2 x3 x4 x5 x6 x7
  have hx1 : Paced _ _ _ x1 := .after (State.twEnd_frame ..) (.atP _ h0 rfl) rfl
  have hx3 : Paced _ _ _ x3 := .upd hx1 rfl
  have hx6 : Paced _ _ _ x6 := .upd hx3 rfl
  exact .ok (.ite (.upd hx3 rfl) (.ite (.upd hx6 rfl) (.ite (.upd hx6 rfl) (.upd hx6 rfl))))

theorem execTwRegisterAddress_runs (p : Pulse) (reg : Byte) (s : State) :
    Runs (.twRegisterAddress p reg) s (execTwRegisterAddress p reg s) := by
  unfold execTwRegisterAddress
  refine .start fun h0 => ?_
  extract_lets x1 x2
  have hx1 : Paced _ _ _ x1 := .atP _ h0 rfl
  refine .ok ?_
  split
  · exact .upd hx1 rfl
  · exact hx1

theorem execTwStop_runs (p : Pulse) (sent : Nat) (data : Bytes) (s : State) :
    Runs (.twStop p sent data) s (execTwStop p sent data s) := by
  unfold execTwStop
  refine .start fun h0 => ?_
  extract_lets x1 x2 x3 x4
  have hx1 : Paced _ _ _ x1 := .atP _ h0 rfl
  have hx2 : Paced _ _ _ x2 := .ite (.foldl hx1 fun _ _ h1 => (.after (State.twCommit_frame ..) h1 rfl)) hx1
  have hx3 : Paced _ _ _ x3 := .after (State.twEnd_frame ..) hx2 rfl
  exact .ok (.after (State.twMarkhor_frame ..) (.upd hx3 rfl) rfl)

theorem execTwSafeReqArm_runs (p : Pulse) (s : State) :
    Runs (.twSafeReqArm p) s (execTwSafeReqArm p s) := by
  unfold execTwSafeReqArm
  refine .start fun h0 => ?_
  exact .ok (.after (State.twMarkhor_frame ..) (.after (State.twCommit_frame ..) (.atP _ h0 rfl) rfl) rfl)

theorem execTwSafeReqComplete_runs (p : Pulse) (s : State) :
    Runs (.twSafeReqComplete p) s (execTwSafeReqComplete p s) := by
  unfold execTwSafeReqComplete
  refine .start fun h0 => ?_
  exact .ok (.after (State.twMarkhor_frame ..) (.after (State.twCommit_frame ..) (.atP _ h0 rfl) rfl) rfl)

theorem execTwSafeReqDisarm_runs (p : Pulse) (value : Byte) (s : State) :
    Runs (.twSafeReqDisarm p value) s (execTwSafeReqDisarm p value s) := by
  unfold execTwSafeReqDisarm
  refine .start fun h0 => ?_
  exact .ok (.after (State.twMarkhor_frame ..) (.after (State.twCommit_frame ..) (.atP _ h0 rfl) rfl) rfl)

theorem execTwArmTimeout_runs (p : Pulse) (s : State) :
    Runs (.twArmTimeout p) s (execTwArmTimeout p s) := by
  unfold execTwArmTimeout
  refine .start fun h0 => ?_
  extract_lets x1
  have hx1 : Paced _ _ _ x1 := .atP _ h0 rfl
  exact .ok (.after (State.twMarkhor_frame ..) (by
    split
    · exact .ite (.after (State.twDisarm_frame ..) hx1 rfl) hx1
    · exact hx1) rfl)

theorem execTwWriteDiscard_runs (p : Pulse) (s : State) :
    Runs (.twWriteDiscard p) s (execTwWriteDiscard p s) := by
  unfold execTwWriteDiscard
  refine .start fun h0 => ?_
  extract_lets x1 x2
  have hx1 : Paced _ _ _ x1 := .atP _ h0 rfl
  refine .ok ?_
  split
  · exact .ite hx1 (.upd hx1 rfl)
  · exact hx1

theorem execTwBadCondition_runs (p : Pulse) (start : Bool) (s : State) :
    Runs (.twBadCondition p start) s (execTwBadCondition p start s) := by
  unfold execTwBadCondition
  refine .start fun h0 => ?_
  extract_lets x1 x2
  have hx1 : Paced _ _ _ x1 := .atP _ h0 rfl
  exact .ok (.upd hx1 rfl)

theorem execTwSPortReadClear_runs (p : Pulse) (s : State) :
    Runs (.twSPortReadClear p) s (execTwSPortReadClear p s) := by
  unfold execTwSPortReadClear
  refine .start fun h0 => ?_
  extract_lets x1 x2
  have hx1 : Paced _ _ _ x1 := .atP _ h0 rfl
  exact .ok (.ite (.after (State.twMarkhor_frame ..) (.upd hx1 rfl) rfl) hx1)

theorem execTwStretchTimeout_runs (p : Pulse) (s : State) :
    Runs (.twStretchTimeout p) s (execTwStretchTimeout p s) := by
  unfold execTwStretchTimeout
  refine .start fun h0 => ?_
  extract_lets x1 x2 x3 x4
  have hx1 : Paced _ _ _ x1 := .atP _ h0 rfl
  have hx3 : Paced _ _ _ x3 := .after (State.twFault_frame ..) hx1 rfl
  exact .ok (.after (State.twMarkhor_frame ..) (.upd hx3 rfl) rfl)

theorem execTwStuckBus_runs (p : Pulse) (sda : Bool) (s : State) :
    Runs (.twStuckBus p sda) s (execTwStuckBus p sda s) := by
  unfold execTwStuckBus
  refine .start fun h0 => ?_
  extract_lets x1 x2 x3 x4
  have hx1 : Paced _ _ _ x1 := .atP _ h0 rfl
  have hx3 : Paced _ _ _ x3 := .after (State.twDisarm_frame ..) (.after (State.twFault_frame ..) hx1 rfl) rfl
  exact .ok (.after (State.twMarkhor_frame ..) (.upd hx3 rfl) rfl)

theorem execTwSleep_runs (p : Pulse) (s : State) :
    Runs (.twSleep p) s (execTwSleep p s) := by
  unfold execTwSleep
  refine .start fun h0 => ?_
  extract_lets x1 x2
  have hx1 : Paced _ _ _ x1 := .atP _ h0 rfl
  exact .ok (.ite (.upd hx1 rfl) hx1)

/-- A root slot that is not written takes a key (R574). -/
theorem OtpGrows.of_provision {a : AccSt} {k : Nat} (b : Bytes) (h : a.written.getLsbD k = false) : OtpGrows a
    { a with written := a.written ||| ((1 : BitVec 4) <<< k), roots := tput a.roots k b } := by
  refine ⟨fun j hj => ⟨by simp [hj], ?_⟩, fun _ h => h, List.prefix_refl _⟩
  have hne : j ≠ k := fun e => by simp [e ▸ hj] at h
  simp [tget_tput, hne]

/-- A root slot is retired (R575). -/
theorem OtpGrows.of_retire (a : AccSt) (m : BitVec 4) : OtpGrows a { a with retired := a.retired ||| m } :=
  ⟨fun _ h => ⟨h, rfl⟩, fun _ h => by simp [h], List.prefix_refl _⟩

/-- A certificate is denied (R575). -/
theorem OtpGrows.of_deny (a : AccSt) (f : BitVec 64) : OtpGrows a { a with denyOtp := a.denyOtp ++ [f] } :=
  ⟨fun _ h => ⟨h, rfl⟩, fun _ h => h, List.prefix_append ..⟩

/-- A change of the access part alone lasts where its one-time-programmable parts grow. -/
theorem Lasting.of_acc {s : State} {a : AccSt} (h : OtpGrows s.acc a) : Lasting s { s with acc := a } :=
  ⟨id, id, fun _ => Nat.le_refl _, Nat.le_refl _, h⟩

theorem execSysOtpProvision_runs (id : Word) (s : State) :
    Runs (.sysOtpProvision id) s (execSysOtpProvision id s) := by
  unfold execSysOtpProvision
  refine .start fun h0 => .ok (.evaluateChecked h0 (fun e hc h1 => ?_) rfl)
  have free : s.acc.written.getLsbD (rdU e.body 4 1) = false := by
    simp [Checks.pass, otpChecks] at hc
    grind
  have same : ((s.atP 0).cmdBegin id 1).acc = s.acc := (State.cmdBegin_frame ..).acc_eq (by decide)
  exact .after (State.cmdDone_frame ..) (.updL h1 rfl (.of_acc (.of_provision _ (same ▸ free)))) rfl

theorem execAccKeyRotateRetire_runs (id : Word) (s : State) :
    Runs (.accKeyRotateRetire id) s (execAccKeyRotateRetire id s) := by
  unfold execAccKeyRotateRetire
  refine .start fun h0 => .ok (.ite h0 (.evaluate h0 (fun _ _ h1 => ?_) rfl))
  exact .after (State.dropInvalidSession_frame ..) (.after (State.cmdDone_frame ..) (.after (State.ev_frame ..)
    (.updL h1 rfl (.of_acc (.of_retire ..))) rfl) rfl) rfl

theorem execAccKeyRotateDeny_runs (id : Word) (s : State) :
    Runs (.accKeyRotateDeny id) s (execAccKeyRotateDeny id s) := by
  unfold execAccKeyRotateDeny
  refine .start fun h0 => .ok (.ite h0 (.evaluate h0 (fun _ _ h1 => ?_) rfl))
  exact .after (State.dropInvalidSession_frame ..) (.after (State.cmdDone_frame ..) (.after (State.ev_frame ..)
    (.updL h1 rfl (.of_acc (.of_deny ..))) rfl) rfl) rfl

theorem execDebugSessionClosed_runs (p : Pulse) (s : State) :
    Runs (.debugSessionClosed p) s (execDebugSessionClosed p s) := by
  unfold execDebugSessionClosed
  refine .start fun h0 => ?_
  extract_lets x1 x2 x3
  have hx1 : Paced _ _ _ x1 := .atP _ h0 rfl
  have hx2 : Paced _ _ _ x2 := .after (State.ev_frame ..) hx1 rfl
  exact .ok (.ite (.upd hx2 rfl) h0)

theorem execCanFrameRx_runs (p : Pulse) (ctl : Fin 2) (f : CanFrame) (s : State) :
    Runs (.canFrameRx p ctl f) s (execCanFrameRx p ctl f s) := by
  unfold execCanFrameRx
  refine .start fun h0 => ?_
  extract_lets x1
  have hx1 : Paced _ _ _ x1 := .after (State.canHear_frame ..) (.atP _ h0 rfl) rfl
  exact .ok (.ite (.after (State.modCtl_frame ..) hx1 rfl) hx1)

theorem execSitePortLinkChange_runs (p : Pulse) (port : Fin 2) (up : Bool) (s : State) :
    Runs (.sitePortLinkChange p port up) s (execSitePortLinkChange p port up s) := by
  unfold execSitePortLinkChange
  refine .start fun h0 => ?_
  extract_lets x1 x2
  have hx1 : Paced _ _ _ x1 := .atP _ h0 rfl
  exact .ok (.ite (.upd hx1 rfl) (.upd hx1 rfl))

theorem execWindowHandoverSlot_runs (s : State) :
    Runs .windowHandoverSlot s (execWindowHandoverSlot s) := by
  unfold execWindowHandoverSlot
  refine .start fun h0 => ?_
  extract_lets x1 x2 x3 x4
  have hx1 : Paced _ _ _ x1 := .after (State.deferrable_frame ..) (.atP _ h0 rfl) rfl
  have hx3 : Paced _ _ _ x3 := .foldl (.upd hx1 rfl) fun _ _ h1 => (.after (State.winApply_frame ..) h1 rfl)
  have hx4 : Paced _ _ _ x4 := .after (State.stallCheck_frame ..) (.after (State.placeCaptures_frame ..) hx3 rfl) rfl
  exact .ok (.after (State.giveAll_frame ..) hx4 rfl)

end Sys2Proof.Machine
end

section
namespace Sys2Proof.Machine

/-! ### Start, images, updates and memory (chapters 17 to 19) -/

theorem execFillComplete_runs (p : Pulse) (bad : List (MemRegion × Nat)) (f : BootFind) (s : State) :
    Runs (.fillComplete p bad f) s (execFillComplete p bad f s) := by
  unfold execFillComplete
  refine .start fun h0 => ?_
  extract_lets x1 x2
  have hx1 : Paced _ _ _ x1 := .atP _ h0 rfl
  have hx2 : Paced _ _ _ x2 := .foldl hx1 fun _ _ h1 => (.after (State.hardFault_frame ..) h1 rfl)
  exact .ok (.ite (.ite (.after (State.fillDone_frame ..) hx2 rfl) (.after (State.fillFailed_frame ..) hx2 rfl)) hx1)

theorem execFillTimeout_runs (p : Pulse) (s : State) :
    Runs (.fillTimeout p) s (execFillTimeout p s) := by
  unfold execFillTimeout
  refine .start fun h0 => ?_
  extract_lets x1
  have hx1 : Paced _ _ _ x1 := .atP _ h0 rfl
  exact .ok (.ite (.after (State.fillFailed_frame ..) hx1 rfl) hx1)

theorem execLoadComplete_runs (x : LoadIn) (s : State) :
    Runs (.loadComplete x) s (execLoadComplete x s) := by
  unfold execLoadComplete
  refine .start fun h0 => ?_
  extract_lets x1 x2 x3
  have hx1 : Paced _ _ _ x1 := .atP _ h0 rfl
  have hx3 : Paced _ _ _ x3 := .after (State.judgeSlots_frame ..) (.after (State.migrate_frame ..)
    (.upd hx1 rfl) rfl) rfl
  exact .ok (.ite (.ite (.after (State.rejectTrial_frame ..) hx1 rfl) (by
    split
    · exact .ite (.after (State.rejectTrial_frame ..) hx3 rfl) (.after (State.hold_frame ..) hx3 rfl)
    · extract_lets x4
      have hx4 : Paced _ _ _ x4 := (.after (State.loadEnd_frame ..) (.after (State.loadImage_frame ..) hx3 rfl) rfl)
      exact (.ite (.after (State.loadSafe_frame ..) hx4 rfl) (.after (State.surveyBegin_frame ..) hx4 rfl)))) hx1)

theorem execLoadOverrun_runs (p : Pulse) (s : State) :
    Runs (.loadOverrun p) s (execLoadOverrun p s) := by
  unfold execLoadOverrun
  refine .start fun h0 => ?_
  extract_lets x1 x2
  have hx1 : Paced _ _ _ x1 := .atP _ h0 rfl
  exact .ok (.ite (.after (State.restart_frame ..) (.upd hx1 (by split <;> rfl)) rfl) hx1)

theorem execCfgPatch_runs (id : Word) (s : State) :
    Runs (.cfgPatch id) s (execCfgPatch id s) := by
  unfold execCfgPatch
  refine .start fun h0 => ?_
  exact .ok (.evaluate h0 (fun _ _ h1 => (by
    extract_lets x1 x2
    exact (.after (State.cmdTo_frame ..) (.upd h1 rfl) rfl))) rfl)

theorem execCfgPatchApply_runs (id : Word) (s : State) :
    Runs (.cfgPatchApply id) s (execCfgPatchApply id s) := by
  unfold execCfgPatchApply
  refine .start fun h0 => ?_
  extract_lets x1
  have hx1 : Paced _ _ _ x1 := .after (State.cmdTo_frame ..) (.atP _ h0 rfl) rfl
  refine .ok ?_
  split
  · extract_lets x2 x3
    have hx2 : Paced _ _ _ x2 := (.foldl hx1 fun _ _ h1 => (.after (State.applyLogged_frame ..) h1 rfl))
    exact .ite (.upd hx2 rfl) h0
  · exact h0

theorem execCfgPatchPersisted_runs (id : Word) (flash : Verdict) (s : State) :
    Runs (.cfgPatchPersisted id flash) s (execCfgPatchPersisted id flash s) := by
  unfold execCfgPatchPersisted
  refine .start fun h0 => ?_
  refine .ok ?_
  split
  · exact h0
  · extract_lets x1 x2
    have hx1 : Paced _ _ _ x1 := (.after (State.setPatch_frame ..) h0 rfl)
    exact .ite h0 (.ite (.after (State.listStep_frame ..) (.after (State.ev_frame ..) (.upd hx1 rfl) rfl) rfl)
      (.after (State.listStep_frame ..) (.after (State.persist_frame ..) hx1 rfl) rfl))

theorem execCfgImageStage_runs (id : Word) (s : State) :
    Runs (.cfgImageStage id) s (execCfgImageStage id s) := by
  unfold execCfgImageStage
  refine .start fun h0 => ?_
  exact .ok (.evaluate h0 (fun _ _ h1 => (by
    extract_lets x1 x2 x3 x4
    exact (.after (State.cmdTo_frame ..) (.updL h1 rfl (.of_ledger rfl (twf_tmodAll _ _))) rfl))) rfl)

theorem execCfgStageStepDone_runs (id : Word) (step : Nat) (st : Status) (chain cred : Verdict) (s : State) :
    Runs (.cfgStageStepDone id step st chain cred) s (execCfgStageStepDone id step st chain cred s) := by
  unfold execCfgStageStepDone
  refine .start fun h0 => ?_
  exact .ok (.after (State.stageStep_frame ..) h0 rfl)

theorem execCfgFactoryCal_runs (id : Word) (flash : Verdict) (s : State) :
    Runs (.cfgFactoryCal id flash) s (execCfgFactoryCal id flash s) := by
  unfold execCfgFactoryCal
  refine .start fun h0 => ?_
  exact .ok (.evaluate h0 (fun _ _ h1 => (by
    extract_lets x1 x2
    have hx2 : Paced _ _ _ x2 := (.upd h1 rfl)
    exact (.ite (.after (State.cmdTo_frame ..) hx2 rfl) (.after (State.cmdFail_frame ..) hx2 rfl)))) rfl)

theorem State.evalStage_paced (s : State) (id : Word) :
    Paced false [.time, .pair, .site, .upd, .jnl, .ledger] s (s.evalStage id) := by
  unfold State.evalStage
  exact .evaluate (.refl ..) (fun _ _ h => .after (State.acceptUpd_frame ..) h rfl) rfl

theorem execUpdStageManifest_runs (id : Word) (s : State) :
    Runs (.updStageManifest id) s (execUpdStageManifest id s) := by
  unfold execUpdStageManifest
  exact .ok (.ite (.refl ..) (State.evalStage_paced s id))

theorem execUpdStageBlocks_runs (id : Word) (s : State) :
    Runs (.updStageBlocks id) s (execUpdStageBlocks id s) := by
  unfold execUpdStageBlocks
  exact .ok (.ite (State.evalStage_paced s id) (.refl ..))

theorem execUpdStageAbandon_runs (id : Word) (s : State) :
    Runs (.updStageAbandon id) s (execUpdStageAbandon id s) := by
  unfold execUpdStageAbandon
  exact .ok (.ite (State.evalStage_paced s id) (.refl ..))

theorem execUpdStepDone_runs (id : Word) (step code block : Nat) (s : State) :
    Runs (.updStepDone id step code block) s (execUpdStepDone id step code block s) := by
  unfold execUpdStepDone
  refine .start fun h0 => ?_
  refine .ok ?_
  split
  · extract_lets x1
    have hx1 : Paced _ _ _ x1.2 := (.after (State.updWork_frame ..) h0 rfl)
    exact .ite h0 (.ite (.after (State.listStep_frame ..) (.after (State.setUpd_frame ..) hx1 rfl) rfl)
      (.after (State.listStep_frame ..) (.after (State.setUpd_frame ..) hx1 rfl) rfl))
  · exact h0

theorem execUpdVerify_runs (code block : Nat) (s : State) :
    Runs (.updVerify code block) s (execUpdVerify code block s) := by
  unfold execUpdVerify
  refine .start fun h0 => ?_
  extract_lets x1 x2
  have hx1 : Paced _ _ _ x1 := .after (State.verifyVelvet_frame ..) h0 rfl
  exact .ok (.ite (.upd hx1 rfl) h0)

theorem execUpdActivate_runs (id : Word) (s : State) :
    Runs (.updActivate id) s (execUpdActivate id s) := by
  unfold execUpdActivate
  refine .start fun h0 => ?_
  exact .ok (.evaluate h0 (fun _ _ h1 => (.after (State.acceptUpd_frame ..) h1 rfl)) rfl)

theorem execUpdConfirm_runs (id : Word) (s : State) :
    Runs (.updConfirm id) s (execUpdConfirm id s) := by
  unfold execUpdConfirm
  refine .start fun h0 => ?_
  exact .ok (.evaluate h0 (fun _ _ h1 => (.after (State.acceptUpd_frame ..) h1 rfl)) rfl)

theorem execUpdCleanRunReached_runs (otp : Verdict) (s : State) :
    Runs (.updCleanRunReached otp) s (execUpdCleanRunReached otp s) := by
  unfold execUpdCleanRunReached
  refine .start fun h0 => ?_
  exact .ok (.ite (.after (State.confirm_frame ..) h0 rfl) h0)

theorem execCfeFwUpdate_runs (id : Word) (s : State) :
    Runs (.cfeFwUpdate id) s (execCfeFwUpdate id s) := by
  unfold execCfeFwUpdate
  refine .start fun h0 => ?_
  exact .ok (.evaluate h0 (fun _ _ h1 => (by
    extract_lets x1 x2 x3 x4 x5 x6 x7
    have hx5 : Paced _ _ _ x5 := (.upd h1 rfl)
    have hx7 : Paced _ _ _ x7 := (.ite (.after (State.modLnk_frame ..) hx5 rfl) hx5)
    exact (.after (State.cmdTo_frame ..) hx7 rfl))) rfl)

theorem execCfeFwReturnTimeout_runs (port : PortIx) (s : State) :
    Runs (.cfeFwReturnTimeout port) s (execCfeFwReturnTimeout port s) := by
  unfold execCfeFwReturnTimeout
  refine .start fun h0 => ?_
  refine .ok ?_
  split
  · exact .ite (.after (State.cfeFailed_frame ..) h0 rfl) h0
  · exact h0

theorem execScrubBurst_runs (dram : Bool) (pos : Fin 1001) (errs : List MemErr) (s : State) :
    Runs (.scrubBurst dram pos errs) s (execScrubBurst dram pos errs s) := by
  unfold execScrubBurst
  refine .start fun h0 => ?_
  extract_lets x1 x2 x3 x4 x5
  have hx2 : Paced _ _ _ x2 := .foldl h0 fun _ _ h1 => (.after (State.memError_frame ..) h1 rfl)
  have hx5 : Paced _ _ _ x5 := .after (State.evIf_frame ..) hx2 rfl
  exact .ite (.ite (.ok (.after (State.modMem_frame ..) hx5 rfl)) (.ok (.after (State.modMem_frame ..) hx2 rfl)))
    (.ok h0)

theorem execMarkhorScrub_runs (p : Pulse) (errs : List MemErr) (s : State) :
    Runs (.markhorScrub p errs) s (execMarkhorScrub p errs s) := by
  unfold execMarkhorScrub
  refine .start fun h0 => ?_
  exact .ok (.foldl (.atP _ h0 rfl) fun _ _ h1 => (by
    split
    · exact h1
    · extract_lets x1
      have hx1 : Paced _ _ _ x1 := (.after (State.modMem_frame ..) (.after (State.ev_frame ..) h1 rfl) rfl)
      exact .after (State.sf12_frame ..) (.after (State.hardFault_frame ..) hx1 rfl) rfl
    · extract_lets x2
      exact .after (State.corrected_frame ..) (.upd h1 rfl) rfl))

theorem execMemScrub_runs (p : Pulse) (dram : Bool) (s : State) :
    Runs (.memScrub p dram) s (execMemScrub p dram s) := by
  unfold execMemScrub
  refine .start fun h0 => ?_
  extract_lets x1 x2 x3
  have hx2 : Paced _ _ _ x2 := .atP _ h0 rfl
  exact .ok (.ite (.after (State.modMem_frame ..) (.after (State.ev_frame ..) hx2 rfl) rfl) hx2)

theorem execHealthRecordWrite_runs (p : Pulse) (s : State) :
    Runs (.healthRecordWrite p) s (execHealthRecordWrite p s) := by
  unfold execHealthRecordWrite
  refine .start fun h0 => ?_
  extract_lets x1 x2
  have hx1 : Paced _ _ _ x1 := .atP _ h0 rfl
  exact .ok (.ite (.upd hx1 rfl) hx1)

theorem execWearWrite_runs (carrier : Verdict) (s : State) :
    Runs (.wearWrite carrier) s (execWearWrite carrier s) := by
  unfold execWearWrite
  refine .start fun h0 => ?_
  extract_lets x1 x2 x3 x4 x5 x6 x7 x8
  have hx1 : Paced _ _ _ x1 := .atP _ h0 rfl
  have hx3 : Paced _ _ _ x3 := .after (State.carrierWrite_frame ..) (.after (State.mirrorWrite_frame ..) hx1 rfl) rfl
  have hx4 : Paced _ _ _ x4 := .after (State.ev_frame ..) hx3 rfl
  have hx6 : Paced _ _ _ x6 := .upd hx4 rfl
  have hx7 : Paced _ _ _ x7 := .after (State.evIf_frame ..) hx1 rfl
  exact .ite (.ite (.ok (.ite (.after (State.wearToFe_frame ..) hx6 rfl) hx6)) (.ok (.upd hx7 rfl))) (.ok hx1)

theorem execWearCarrierRetry_runs (carrier : Verdict) (s : State) :
    Runs (.wearCarrierRetry carrier) s (execWearCarrierRetry carrier s) := by
  unfold execWearCarrierRetry
  refine .start fun h0 => ?_
  extract_lets x1 x2
  have hx1 : Paced _ _ _ x1 := .atP _ h0 rfl
  exact .ite (by
    split
    · exact .ok (.after (State.carrierWrite_frame ..) hx1 rfl)
    · exact (.ok (.upd hx1 rfl))) (.ok hx1)

theorem execCfeWearCommitCheck_runs (p : Pulse) (port : PortIx) (s : State) :
    Runs (.cfeWearCommitCheck p port) s (execCfeWearCommitCheck p port s) := by
  unfold execCfeWearCommitCheck
  refine .start fun h0 => ?_
  extract_lets x1
  have hx1 : Paced _ _ _ x1 := .atP _ h0 rfl
  exact .ok (.ite (.after (State.commitFailed_frame ..) hx1 rfl) hx1)

theorem execUpdActivateRestart_runs (s : State) :
    Runs .updActivateRestart s (execUpdActivateRestart s) := by
  unfold execUpdActivateRestart
  refine .start fun h0 => ?_
  extract_lets x1 x2
  have hx1 : Paced _ _ _ x1 := .atP _ h0 rfl
  exact .ok (.ite (.after (State.restart_frame ..) (.upd hx1 rfl) rfl) hx1)

end Sys2Proof.Machine
end

section
namespace Sys2Proof.Machine

/-! ### Every command -/

/-- Every command answers a next state, within what it may write. -/
theorem exec_runs (i : Instr) (s : State) : Runs i s (exec i s) :=
  match i with
  | .powerOn .. => execPowerOn_runs ..
  | .resetIn .. => execResetIn_runs ..
  | .fillComplete .. => execFillComplete_runs ..
  | .fillTimeout .. => execFillTimeout_runs ..
  | .loadComplete .. => execLoadComplete_runs ..
  | .loadOverrun .. => execLoadOverrun_runs ..
  | .freezeTrigger .. => execFreezeTrigger_runs ..
  | .freezeMaxExpiry .. => execFreezeMaxExpiry_runs ..
  | .inputLossDeclared .. => execInputLossDeclared_runs ..
  | .inputLossWaitEnd .. => execInputLossWaitEnd_runs ..
  | .inputLossFullPhaseEnd .. => execInputLossFullPhaseEnd_runs ..
  | .inputReturned .. => execInputReturned_runs ..
  | .holdupExhausted .. => execHoldupExhausted_runs ..
  | .holdupLowTimeout .. => execHoldupLowTimeout_runs ..
  | .holdupCapacityMeasure .. => execHoldupCapacityMeasure_runs ..
  | .psvSupply .. => execPsvSupply_runs ..
  | .grzSensor .. => execGrzSensor_runs ..
  | .uploadReceived .. => execUploadReceived_runs ..
  | .repeatSend .. => execRepeatSend_runs ..
  | .linkLost .. => execLinkLost_runs ..
  | .linkRecovered .. => execLinkRecovered_runs ..
  | .linkWakeRetry .. => execLinkWakeRetry_runs ..
  | .linkLostWake .. => execLinkLostWake_runs ..
  | .linkAlignRetry .. => execLinkAlignRetry_runs ..
  | .linkEchoInterval .. => execLinkEchoInterval_runs ..
  | .echoReply .. => execEchoReply_runs ..
  | .regData .. => execRegData_runs ..
  | .fwAck .. => execFwAck_runs ..
  | .secondaryTimeout .. => execSecondaryTimeout_runs ..
  | .linkAlarmTone .. => execLinkAlarmTone_runs ..
  | .estimationPass .. => execEstimationPass_runs ..
  | .outputQueueOverrun .. => execOutputQueueOverrun_runs ..
  | .frameClosure .. => execFrameClosure_runs ..
  | .elasticRecovery .. => execElasticRecovery_runs ..
  | .derateCurrentExcess .. => execDerateCurrentExcess_runs ..
  | .derateRelease .. => execDerateRelease_runs ..
  | .rosterCompute .. => execRosterCompute_runs ..
  | .ptpSync .. => execPtpSync_runs ..
  | .ptpAnnounce .. => execPtpAnnounce_runs ..
  | .ptpPdelayReq .. => execPtpPdelayReq_runs ..
  | .ptpAnnounceTimeout .. => execPtpAnnounceTimeout_runs ..
  | .ppsEdge .. => execPpsEdge_runs ..
  | .ppsMissing .. => execPpsMissing_runs ..
  | .timeLocked .. => execTimeLocked_runs ..
  | .timeOffsetExcursion .. => execTimeOffsetExcursion_runs ..
  | .timeAlignLost .. => execTimeAlignLost_runs ..
  | .timeOscWarm .. => execTimeOscWarm_runs ..
  | .timeSetTod .. => execTimeSetTod_runs ..
  | .modeRequestIdle .. => execModeRequestIdle_runs ..
  | .modeRequestServe .. => execModeRequestServe_runs ..
  | .modeRequestRest .. => execModeRequestRest_runs ..
  | .modeRequestMaintain .. => execModeRequestMaintain_runs ..
  | .openWaitExpiry .. => execOpenWaitExpiry_runs ..
  | .modeSafeRequest .. => execModeSafeRequest_runs ..
  | .modeSafeReset .. => execModeSafeReset_runs ..
  | .modeRestart .. => execModeRestart_runs ..
  | .modeStringEnableOn .. => execModeStringEnableOn_runs ..
  | .modeStringEnableOff .. => execModeStringEnableOff_runs ..
  | .modeStringService .. => execModeStringService_runs ..
  | .modeStringReadmit .. => execModeStringReadmit_runs ..
  | .modeStringReset .. => execModeStringReset_runs ..
  | .stringSurveyEnd .. => execStringSurveyEnd_runs ..
  | .owTestStart .. => execOwTestStart_runs ..
  | .owTestEvaluate .. => execOwTestEvaluate_runs ..
  | .owTestRetry .. => execOwTestRetry_runs ..
  | .blockTriggeredTest .. => execBlockTriggeredTest_runs ..
  | .measBlockFault .. => execMeasBlockFault_runs ..
  | .blkClear .. => execBlkClear_runs ..
  | .stringSumFault .. => execStringSumFault_runs ..
  | .wireOpenDeadline .. => execWireOpenDeadline_runs ..
  | .thermistorOpenFault .. => execThermistorOpenFault_runs ..
  | .thermistorDisagree .. => execThermistorDisagree_runs ..
  | .thermistorRestored .. => execThermistorRestored_runs ..
  | .markhorThRestore .. => execMarkhorThRestore_runs ..
  | .estRestStart .. => execEstRestStart_runs ..
  | .estRequestRepeat .. => execEstRequestRepeat_runs ..
  | .estReferenceGrant .. => execEstReferenceGrant_runs ..
  | .excursionDurationEnd .. => execExcursionDurationEnd_runs ..
  | .plateSourceInvalid .. => execPlateSourceInvalid_runs ..
  | .herdSweepDone .. => execHerdSweepDone_runs ..
  | .commandWord .. => execCommandWord_runs ..
  | .statusWord .. => execStatusWord_runs ..
  | .bitstreamStuck .. => execBitstreamStuck_runs ..
  | .bitstreamRecover .. => execBitstreamRecover_runs ..
  | .statusStreamInvalid .. => execStatusStreamInvalid_runs ..
  | .statusStreamValid .. => execStatusStreamValid_runs ..
  | .ppEchoFault .. => execPpEchoFault_runs ..
  | .echoFaultClear .. => execEchoFaultClear_runs ..
  | .ppImplausible .. => execPpImplausible_runs ..
  | .contactorCloseTimeout .. => execContactorCloseTimeout_runs ..
  | .loopPhaseStart .. => execLoopPhaseStart_runs ..
  | .handoverWindowOpen .. => execHandoverWindowOpen_runs ..
  | .handoverWindowExpire .. => execHandoverWindowExpire_runs ..
  | .connTimeExpire .. => execConnTimeExpire_runs ..
  | .openCurrentLow .. => execOpenCurrentLow_runs ..
  | .loopOutputFault .. => execLoopOutputFault_runs ..
  | .thermalOutputRetry .. => execThermalOutputRetry_runs ..
  | .sf04Trip .. => execSf04Trip_runs ..
  | .sf05Check .. => execSf05Check_runs ..
  | .sf06Warning .. => execSf06Warning_runs ..
  | .sf06Trip .. => execSf06Trip_runs ..
  | .sf06Release .. => execSf06Release_runs ..
  | .ilkInputChange .. => execIlkInputChange_runs ..
  | .ilkFault .. => execIlkFault_runs ..
  | .sf09AuxTimeout .. => execSf09AuxTimeout_runs ..
  | .sf12Fault .. => execSf12Fault_runs ..
  | .protWarningRelease .. => execProtWarningRelease_runs ..
  | .inhibitEnforce .. => execInhibitEnforce_runs ..
  | .modelInputStale .. => execModelInputStale_runs ..
  | .clockMonitorFault .. => execClockMonitorFault_runs ..
  | .frameStrobeFault .. => execFrameStrobeFault_runs ..
  | .safeOutReadback .. => execSafeOutReadback_runs ..
  | .limitCheckerSelftest .. => execLimitCheckerSelftest_runs ..
  | .frameTokenMissing .. => execFrameTokenMissing_runs ..
  | .imageCrcCheck .. => execImageCrcCheck_runs ..
  | .protAlarmAck .. => execProtAlarmAck_runs ..
  | .dspSocWindow .. => execDspSocWindow_runs ..
  | .loneNodeOpenTimeout .. => execLoneNodeOpenTimeout_runs ..
  | .pairHeartbeatSend .. => execPairHeartbeatSend_runs ..
  | .pairHeartbeatRx .. => execPairHeartbeatRx_runs ..
  | .pairMirrorRx .. => execPairMirrorRx_runs ..
  | .pairSummaryRx .. => execPairSummaryRx_runs ..
  | .pairAssignRx .. => execPairAssignRx_runs ..
  | .pairListRx .. => execPairListRx_runs ..
  | .pairDigestRx .. => execPairDigestRx_runs ..
  | .pairStepRx .. => execPairStepRx_runs ..
  | .pairHandoverRx .. => execPairHandoverRx_runs ..
  | .pairTimeSetRx .. => execPairTimeSetRx_runs ..
  | .copyPageRx .. => execCopyPageRx_runs ..
  | .copyAckRx .. => execCopyAckRx_runs ..
  | .copyPageResend .. => execCopyPageResend_runs ..
  | .loopLiveRx .. => execLoopLiveRx_runs ..
  | .replayCaughtUp .. => execReplayCaughtUp_runs ..
  | .chgInChange .. => execChgInChange_runs ..
  | .pairTakeover .. => execPairTakeover_runs ..
  | .pairPeerLost .. => execPairPeerLost_runs ..
  | .pairListenTimeout .. => execPairListenTimeout_runs ..
  | .pairJoinTimeout .. => execPairJoinTimeout_runs ..
  | .pairDetachWaitEnd .. => execPairDetachWaitEnd_runs ..
  | .pairAssignMissing .. => execPairAssignMissing_runs ..
  | .pairHomeHoldExpiry .. => execPairHomeHoldExpiry_runs ..
  | .pairHandoverFrame .. => execPairHandoverFrame_runs ..
  | .pairHandover .. => execPairHandover_runs ..
  | .sessionOpen .. => execSessionOpen_runs ..
  | .sessionClose .. => execSessionClose_runs ..
  | .siteHeartbeatRx .. => execSiteHeartbeatRx_runs ..
  | .sessionOpeningTimeout .. => execSessionOpeningTimeout_runs ..
  | .sessionLapse .. => execSessionLapse_runs ..
  | .command .. => execCommand_runs ..
  | .commandStatus .. => execCommandStatus_runs ..
  | .statusRead .. => execStatusRead_runs ..
  | .windowRead .. => execWindowRead_runs ..
  | .windowWrite .. => execWindowWrite_runs ..
  | .pageRelease .. => execPageRelease_runs ..
  | .pageClaim .. => execPageClaim_runs ..
  | .pageReturn .. => execPageReturn_runs ..
  | .inboundPageExpire .. => execInboundPageExpire_runs ..
  | .tripCapture .. => execTripCapture_runs ..
  | .pcsStateRx .. => execPcsStateRx_runs ..
  | .hvacBudgetRx .. => execHvacBudgetRx_runs ..
  | .fireStatusRx .. => execFireStatusRx_runs ..
  | .imdStatusRx .. => execImdStatusRx_runs ..
  | .pcsStateTimeout .. => execPcsStateTimeout_runs ..
  | .canTxDone .. => execCanTxDone_runs ..
  | .canTxFail .. => execCanTxFail_runs ..
  | .canBusOff .. => execCanBusOff_runs ..
  | .canBusoffRecovered .. => execCanBusoffRecovered_runs ..
  | .canDetectDwell .. => execCanDetectDwell_runs ..
  | .canDetectAccept .. => execCanDetectAccept_runs ..
  | .canDetectTimeout .. => execCanDetectTimeout_runs ..
  | .canLone .. => execCanLone_runs ..
  | .canProbe .. => execCanProbe_runs ..
  | .canStandbyTimeRef .. => execCanStandbyTimeRef_runs ..
  | .canClash .. => execCanClash_runs ..
  | .transmitAtTime .. => execTransmitAtTime_runs ..
  | .twAddress .. => execTwAddress_runs ..
  | .twRegisterAddress .. => execTwRegisterAddress_runs ..
  | .twStop .. => execTwStop_runs ..
  | .twSafeReqArm .. => execTwSafeReqArm_runs ..
  | .twSafeReqComplete .. => execTwSafeReqComplete_runs ..
  | .twSafeReqDisarm .. => execTwSafeReqDisarm_runs ..
  | .twArmTimeout .. => execTwArmTimeout_runs ..
  | .twWriteDiscard .. => execTwWriteDiscard_runs ..
  | .twBadCondition .. => execTwBadCondition_runs ..
  | .twSPortReadClear .. => execTwSPortReadClear_runs ..
  | .twStretchTimeout .. => execTwStretchTimeout_runs ..
  | .twStuckBus .. => execTwStuckBus_runs ..
  | .twSleep .. => execTwSleep_runs ..
  | .cfgPatch .. => execCfgPatch_runs ..
  | .cfgPatchApply .. => execCfgPatchApply_runs ..
  | .cfgPatchPersisted .. => execCfgPatchPersisted_runs ..
  | .cfgImageStage .. => execCfgImageStage_runs ..
  | .cfgStageStepDone .. => execCfgStageStepDone_runs ..
  | .cfgFactoryCal .. => execCfgFactoryCal_runs ..
  | .updStageManifest .. => execUpdStageManifest_runs ..
  | .updStageBlocks .. => execUpdStageBlocks_runs ..
  | .updStageAbandon .. => execUpdStageAbandon_runs ..
  | .updStepDone .. => execUpdStepDone_runs ..
  | .updVerify .. => execUpdVerify_runs ..
  | .updActivate .. => execUpdActivate_runs ..
  | .updConfirm .. => execUpdConfirm_runs ..
  | .updCleanRunReached .. => execUpdCleanRunReached_runs ..
  | .cfeFwUpdate .. => execCfeFwUpdate_runs ..
  | .cfeFwReturnTimeout .. => execCfeFwReturnTimeout_runs ..
  | .sysOtpProvision .. => execSysOtpProvision_runs ..
  | .accKeyRotateRetire .. => execAccKeyRotateRetire_runs ..
  | .accKeyRotateDeny .. => execAccKeyRotateDeny_runs ..
  | .accDebugUnlock .. => execAccDebugUnlock_runs ..
  | .debugSessionClosed .. => execDebugSessionClosed_runs ..
  | .scrubBurst .. => execScrubBurst_runs ..
  | .markhorScrub .. => execMarkhorScrub_runs ..
  | .memScrub .. => execMemScrub_runs ..
  | .healthRecordWrite .. => execHealthRecordWrite_runs ..
  | .wearWrite .. => execWearWrite_runs ..
  | .wearCarrierRetry .. => execWearCarrierRetry_runs ..
  | .cfeWearCommitCheck .. => execCfeWearCommitCheck_runs ..
  | .feSample .. => execFeSample_runs ..
  | .feControl .. => execFeControl_runs ..
  | .feControlMissing .. => execFeControlMissing_runs ..
  | .feUpload .. => execFeUpload_runs ..
  | .feRepeat .. => execFeRepeat_runs ..
  | .feRegRead .. => execFeRegRead_runs ..
  | .feRegWrite .. => execFeRegWrite_runs ..
  | .feWearCommit .. => execFeWearCommit_runs ..
  | .feFwRestart .. => execFeFwRestart_runs ..
  | .feAlarmClear .. => execFeAlarmClear_runs ..
  | .feFwBlock .. => execFeFwBlock_runs ..
  | .feEcho .. => execFeEcho_runs ..
  | .feSleepEntry .. => execFeSleepEntry_runs ..
  | .feSleepTimeout .. => execFeSleepTimeout_runs ..
  | .feSleepConversion .. => execFeSleepConversion_runs ..
  | .feAlarmToneSend .. => execFeAlarmToneSend_runs ..
  | .feWake .. => execFeWake_runs ..
  | .ref10InChange .. => execRef10InChange_runs ..
  | .feAuthorityExpiry .. => execFeAuthorityExpiry_runs ..
  | .feWearCommitDone .. => execFeWearCommitDone_runs ..
  | .feFwBlockProgrammed .. => execFeFwBlockProgrammed_runs ..
  | .fePowerOn .. => execFePowerOn_runs ..
  | .stageLossOfBothInputs .. => execStageLossOfBothInputs_runs ..
  | .canFrameRx .. => execCanFrameRx_runs ..
  | .pairLaneChange .. => execPairLaneChange_runs ..
  | .sitePortLinkChange .. => execSitePortLinkChange_runs ..
  | .analogInputConversion .. => execAnalogInputConversion_runs ..
  | .surveyEnd => execSurveyEnd_runs ..
  | .restartAtPulse999 => execRestartAtPulse999_runs ..
  | .frameStrobe => execFrameStrobe_runs ..
  | .secondBoundary => execSecondBoundary_runs ..
  | .portResult => execPortResult_runs ..
  | .restWakeBurst => execRestWakeBurst_runs ..
  | .markhorSummary => execMarkhorSummary_runs ..
  | .elandOverrun => execElandOverrun_runs ..
  | .envelope => execEnvelope_runs ..
  | .windowHandoverSlot => execWindowHandoverSlot_runs ..
  | .envelopeOverrun => execEnvelopeOverrun_runs ..
  | .envelopeOverrunZero => execEnvelopeOverrunZero_runs ..
  | .journalCommitOverrun => execJournalCommitOverrun_runs ..
  | .tierPermit => execTierPermit_runs ..
  | .timeStep => execTimeStep_runs ..
  | .herdSweepSkip => execHerdSweepSkip_runs ..
  | .assignSend => execAssignSend_runs ..
  | .digestSend => execDigestSend_runs ..
  | .digestCompare => execDigestCompare_runs ..
  | .historyMinute => execHistoryMinute_runs ..
  | .updActivateRestart => execUpdActivateRestart_runs ..

end Sys2Proof.Machine
end

section
namespace Sys2Proof.Machine

/-- No command writes the queue or the factory identity. -/
theorem writes_bounds (i : Instr) : View.pending ∉ writes i ∧ View.factory ∉ writes i := by
  have h : Laws.Bounds.ok i = true := by cases i <;> rfl
  simp only [Laws.Bounds.ok, Bool.and_eq_true, Bool.not_eq_true', List.contains_eq_mem,
    decide_eq_false_iff_not] at h
  exact h.1

theorem exec_paced {i : Instr} {s t : State} (h : exec i s = .next t) : Paced (setsTime i) (writes i) s t := by
  obtain ⟨u, hu, p⟩ := (exec_runs i s).out
  rw [hu] at h
  cases h
  exact p

theorem Paced.time {b : Bool} {W : List View} {s t : State} (h : Paced b W s t) (hb : b = false) :
    t.time = { s.time with pulse := t.time.pulse } := by
  subst hb
  have e : { s.time with pulse := 0 } = { t.time with pulse := 0 } := Option.some.inj h.clock
  calc t.time = { { t.time with pulse := 0 } with pulse := t.time.pulse } := rfl
    _ = { s.time with pulse := t.time.pulse } := by rw [← e]

/-- What a command leaves, in the form the frame statements ask for. -/
theorem exec_keepsTheRest {i : Instr} {s t : State} (h : exec i s = .next t) :
    Frame (writes i) s t ∧ (setsTime i = false → t.time = { s.time with pulse := t.time.pulse }) :=
  ⟨(exec_paced h).frame, (exec_paced h).time⟩

/-- Over a step what lasts is kept, and the factory identity stands. -/
theorem step_lasting {s t : State} (h : step s = .next t) : Lasting s t ∧ sameView s t .factory := by
  unfold step at h
  split at h
  · cases h
    exact ⟨.refl s, sameView_refl ..⟩
  · next c rest _ =>
    have f : Frame (writes c) { s with pending := rest } t := (exec_paced h).frame
    have l : Lasting s { s with pending := rest } := .of_eq rfl
    exact ⟨l.trans f.keeps, f.same .factory (writes_bounds c).2⟩

/-- Settles O1: both cases are the two arms of `step`. -/
theorem stepRunsTheFrontCommand : Obligations.StepRunsTheFrontCommand := by
  refine ⟨fun c rest s h => ?_, fun s h => ?_⟩
  · rw [step, h]
  · rw [step, h]

/-- Settles O3: every command runs within its frame, and no frame lists the queue. -/
theorem everyCommandGivesANextState : Obligations.EveryCommandGivesANextState := fun i s => by
  obtain ⟨t, ht, p⟩ := (exec_runs i s).out
  exact ⟨t, ht, p.frame.pending_eq (writes_bounds i).1⟩

/-- Settles O4: what every command keeps, at the commands of the front ends, links and measurement. -/
theorem cellCommandsKeepTheRest : Obligations.CellCommandsKeepTheRest := fun _ _ _ _ => exec_keepsTheRest

/-- Settles O5: what every command keeps, at the commands of estimation, thermal model, Herd and envelope. -/
theorem modelCommandsKeepTheRest : Obligations.ModelCommandsKeepTheRest := fun _ _ _ _ => exec_keepsTheRest

/-- Settles O6: what every command keeps, at the commands of power ports, connection and protection. -/
theorem stringCommandsKeepTheRest : Obligations.StringCommandsKeepTheRest := fun _ _ _ _ => exec_keepsTheRest

/-- Settles O7: what every command keeps, at the commands of modes, supply, frame, Graze and time. -/
theorem runningCommandsKeepTheRest : Obligations.RunningCommandsKeepTheRest := fun _ _ _ _ => exec_keepsTheRest

/-- Settles O8: what every command keeps, at the commands of the pair. -/
theorem pairCommandsKeepTheRest : Obligations.PairCommandsKeepTheRest := fun _ _ _ _ => exec_keepsTheRest

/-- Settles O9: what every command keeps, at the commands of site link, container bus, two-wire port and keys. -/
theorem outsideCommandsKeepTheRest : Obligations.OutsideCommandsKeepTheRest := fun _ _ _ _ => exec_keepsTheRest

/-- Settles O10: what every command keeps, at the commands of start, images, updates and memory. -/
theorem storeCommandsKeepTheRest : Obligations.StoreCommandsKeepTheRest := fun _ _ _ _ => exec_keepsTheRest

/-- Settles O11: a step keeps what lasts. -/
theorem tablesAndJournalsStayWellFormed : Obligations.TablesAndJournalsStayWellFormed := fun _ _ h =>
  have ⟨l, _⟩ := step_lasting h
  ⟨l.tables, l.journals, l.next⟩

/-- Settles O12: a step keeps what lasts, and no command lists the factory identity. -/
theorem whatIsWrittenOnceStands : Obligations.WhatIsWrittenOnceStands := fun _ _ h =>
  have ⟨l, same⟩ := step_lasting h
  ⟨l.rollback, l.otp, same⟩

end Sys2Proof.Machine
end

section
namespace Sys2Proof.Machine

/-! ### The states of a controller (R447, R448, R464) -/

/-- Of the two controllers of a module, the one not named is the other. -/
theorem OtherCtl.fin {c : Fin 2} {s t : State} (h : OtherCtl c.val s t) (d : Fin 2) (hd : d ≠ c) :
    t.ctl d.val = s.ctl d.val := h d.val (by omega)

theorem canDetectDwell_tries (p : Pulse) (c : Fin 2) (s : State) (h : (s.ctl c.val).state = .detect)
    (hd : (s.ctl c.val).candFrom + 100 * s.bus.cfg.dwell ≤ s.now) :
    ∃ t, exec (.canDetectDwell p c) s = .next t ∧ (∀ d : Fin 2, d ≠ c → t.ctl d.val = s.ctl d.val) ∧
      t.ctl c.val = { s.ctl c.val with
        cand := ((s.ctl c.val).cand + 1) % s.bus.cfg.pairs.length, good := 0, brs := false, candFrom := s.now } :=
  next_pos rfl ⟨h, hd⟩ ⟨_, rfl, (State.modCtl_other (s.atP p.val) _ _).fin, State.modCtl_self ..⟩

/-- A controller changed and then moved to a state: its rates and error counts are those of the change. -/
theorem State.setCtl_modCtl (s : State) (c : Fin 2) (f : CanCtl → CanCtl) (new : CanState) (cause : Nat) {t : State}
    (ht : t = (s.modCtl c.val f).setCtl c.val new cause) : (∀ d : Fin 2, d ≠ c → t.ctl d.val = s.ctl d.val) ∧
      (t.ctl c.val).state = new ∧ (t.ctl c.val).nom = (f (s.ctl c.val)).nom ∧
      (t.ctl c.val).data = (f (s.ctl c.val)).data ∧ (t.ctl c.val).detected = (f (s.ctl c.val)).detected ∧
      (t.ctl c.val).tec = (f (s.ctl c.val)).tec ∧ (t.ctl c.val).rec_ = (f (s.ctl c.val)).rec_ := by
  obtain ⟨⟨ob, n, td, e⟩, -, other⟩ := State.setCtl_ctl (s.modCtl c.val f) c.val new cause
  rw [State.modCtl_self, ← ht] at e
  refine ⟨ht ▸ ((State.modCtl_other s c.val f).trans other).fin, ?_⟩
  rw [e]
  exact ⟨rfl, rfl, rfl, rfl, rfl, rfl⟩

theorem canDetectAccept_runs (p : Pulse) (c : Fin 2) (s : State) (nom data : Nat) (h : (s.ctl c.val).state = .detect)
    (hg : 3 ≤ (s.ctl c.val).good) (hp : s.bus.cfg.pairs[(s.ctl c.val).cand]? = some (nom, data))
    (hb : data = 0 ∨ (s.ctl c.val).brs = true) :
    ∃ t, exec (.canDetectAccept p c) s = .next t ∧ (∀ d : Fin 2, d ≠ c → t.ctl d.val = s.ctl d.val) ∧
      (t.ctl c.val).state = .run ∧ (t.ctl c.val).nom = nom ∧ (t.ctl c.val).data = data ∧
      (t.ctl c.val).detected = true := by
  have pair : (s.bus.cfg.pairs[(s.ctl c.val).cand]?).getD (s.bus.cfg.nom, s.bus.cfg.data) = (nom, data) := by
    rw [hp, Option.getD_some]
  refine next_pos rfl ⟨h, hg, ?_⟩ ⟨_, rfl, ?_⟩
  · exact (congrArg (fun x : Nat × Nat => x.2 = 0 ∨ (s.ctl c.val).brs = true) pair).mpr hb
  · obtain ⟨other, state, n, d, found, -⟩ := State.setCtl_modCtl (s.atP p.val) c _ .run 1 rfl
    exact ⟨other, state, n.trans (congrArg Prod.fst pair), d.trans (congrArg Prod.snd pair), found⟩

theorem canDetectTimeout_runs (p : Pulse) (c : Fin 2) (s : State) (h : (s.ctl c.val).state = .detect)
    (ht : (s.ctl c.val).detectFrom + 1000 * s.bus.cfg.detectTo ≤ s.now) :
    ∃ t, exec (.canDetectTimeout p c) s = .next t ∧ (∀ d : Fin 2, d ≠ c → t.ctl d.val = s.ctl d.val) ∧
      (t.ctl c.val).state = .run ∧ (t.ctl c.val).nom = s.bus.cfg.nom ∧ (t.ctl c.val).data = s.bus.cfg.data ∧
      (t.ctl c.val).detected = false := by
  refine next_pos rfl ⟨h, ht⟩ ⟨_, rfl, ?_⟩
  obtain ⟨other, state, nom, data, found, -⟩ := State.setCtl_modCtl (s.atP p.val) c _ .run 2 rfl
  exact ⟨other, state, nom, data, found⟩

theorem canBusOff_leaves (p : Pulse) (c : Fin 2) (s : State)
    (h : (s.ctl c.val).state = .run ∨ (s.ctl c.val).state = .lone) :
    ∃ t, exec (.canBusOff p c) s = .next t ∧ (∀ d : Fin 2, d ≠ c → t.ctl d.val = s.ctl d.val) ∧
      (t.ctl c.val).state = .busoff ∧ (t.ctl c.val).nBusOff = sat32u ((s.ctl c.val).nBusOff + 1) := by
  refine next_pos rfl h ⟨_, rfl, ?_⟩
  obtain ⟨⟨ob, n, td, e⟩, -, other⟩ := State.setCtl_ctl (s.atP p.val) c.val .busoff 5
  refine ⟨(other.trans (State.modCtl_other _ _ _)).fin, ?_⟩
  rw [State.modCtl_self, e]
  exact ⟨rfl, rfl⟩

theorem canBusoffRecovered_returns (p : Pulse) (c : Fin 2) (s : State) (h : (s.ctl c.val).state = .busoff) :
    ∃ t, exec (.canBusoffRecovered p c) s = .next t ∧ (∀ d : Fin 2, d ≠ c → t.ctl d.val = s.ctl d.val) ∧
      (t.ctl c.val).state = (if s.bus.cfg.detectEn then .detect else .run) ∧
      (t.ctl c.val).tec = 0 ∧ (t.ctl c.val).rec_ = 0 := by
  refine next_pos rfl h ⟨_, rfl, ?_⟩
  obtain ⟨other, state, -, -, -, errors⟩ := State.setCtl_modCtl (s.atP p.val) c _ _ 6 rfl
  exact ⟨other, state, errors⟩

theorem canLone_leaves (p : Pulse) (c : Fin 2) (s : State) (h : (s.ctl c.val).state = .run)
    (ha : 16 ≤ (s.ctl c.val).ackRun)
    (hq : ∀ u, (s.ctl c.val).lastRx = some u → u + 100000 ≤ (s.atP p.val).clockUs) :
    ∃ t, exec (.canLone p c) s = .next t ∧ (∀ d : Fin 2, d ≠ c → t.ctl d.val = s.ctl d.val) ∧
      (t.ctl c.val).state = .lone := by
  refine next_pos rfl ⟨h, ha, ?_⟩ ⟨_, rfl, ?_⟩
  · split
    · next u hu => exact decide_eq_true (hq u hu)
    · rfl
  · obtain ⟨⟨ob, n, td, e⟩, -, other⟩ := State.setCtl_ctl (s.atP p.val) c.val .lone 3
    refine ⟨other.fin, ?_⟩
    rw [e]

/-! ### The clash of an identifier (R458) -/

/-- A disabled object stays so until the next start, and no other object of its controller changes. -/
theorem State.disableObj_ctl (s : State) (c o : Nat) : (s.disableObj c o).ctl c =
    { s.ctl c with obj := tmod (s.ctl c).obj o fun z => { state := .disabled, undelivered := z.undelivered } } := by
  unfold State.disableObj
  extract_lets s1
  have e : s1.ctl c = _ := State.modCtl_self s c _
  split
  · exact (State.ctl_congr (State.itemIn_bus ..) c).trans e
  · exact e

theorem canClash_disables (p : Pulse) (c : Fin 2) (o : Fin 7) (s : State)
    (hb : 3 ≤ (tget (s.ctl c.val).obj o.val).bitErrs) (hs : (tget (s.ctl c.val).obj o.val).state ≠ .disabled) :
    ∃ t, exec (.canClash p c o) s = .next t ∧ (∀ d : Fin 2, d ≠ c → t.ctl d.val = s.ctl d.val) ∧
      (tget (t.ctl c.val).obj o.val).state = .disabled ∧
      ∀ q, q ≠ o.val → tget (t.ctl c.val).obj q = tget (s.ctl c.val).obj q := by
  refine next_pos rfl ⟨hb, hs⟩ ⟨_, rfl, ?_⟩
  generalize hu : State.clashEvent _ _ _ _ _ _ = u
  have bus : u.bus = s.bus := by rw [← hu]; exact State.ev_bus ..
  have same : ∀ d, u.ctl d = s.ctl d := State.ctl_congr bus
  refine ⟨((OtherCtl.of_bus bus).trans (State.disableObj_objOnly u c.val o.val).other).fin, ?_⟩
  rw [State.disableObj_ctl, same, tget_tmod]
  refine ⟨by simp, fun q hq => ?_⟩
  rw [tget_tmod, if_neg hq]

/-! ### A PCS that is not reached (R465, R466) -/

theorem pcsStateTimeout_unreachable (p : Pulse) (s : State) (hf : s.mode.mode ≠ .fill) (hl : s.mode.mode ≠ .load)
    (hv : s.pcsValid = false) (hr : s.bus.unreachable = false) :
    ∃ t, exec (.pcsStateTimeout p) s = .next t ∧ t.bus.unreachable = true ∧ t.bus.unreachFrame = s.now ∧
      t.bus.unreachOpened = 0 := by
  refine ⟨_, rfl, ?_⟩
  have mute : (s.atP p.val).pcsValid = false := hv
  have reached : (s.atP p.val).bus.unreachable = false := hr
  have runs : ¬((s.atP p.val).mode.mode = .fill ∨ (s.atP p.val).mode.mode = .load) := fun h => h.elim hf hl
  unfold State.reachJudge
  rw [if_neg runs]
  simp only [mute, reached, Bool.not_false, Bool.or_true, if_true, Bool.false_eq_true, if_false]
  rw [(State.loneOrders_frame ..).bus_eq (by decide)]
  exact ⟨rfl, rfl, rfl⟩

theorem loneNodeOpenTimeout_opens (p : Pulse) (k : StrIx) (d : Nat) (s : State)
    (ho : (s.str k.val).opening = some (.lone, d)) (hd : d ≤ s.now) (hr : s.bus.unreachable = true)
    (hc : (s.str k.val).state = .closed ∨ (s.str k.val).state = .held) (hv : s.voided k.val 8 = false) :
    ∃ t, exec (.loneNodeOpenTimeout p k) s = .next t ∧ (t.str k.val).state = .opened ∧
      (t.str k.val).opening = none ∧ has t.bus.unreachOpened k.val = true := by
  have order : ((s.atP p.val).str k.val).opening = some (.lone, d) := ho
  have due : d ≤ (s.atP p.val).now ∧ (s.atP p.val).bus.unreachable = true := ⟨hd, hr⟩
  have opens : (s.atP p.val).openNow k.val = ((s.atP p.val).startOpening k.val).setStr k.val .opened 0 0 true :=
    if_pos ⟨hc, by rw [show (s.atP p.val).voided k.val 8 = false from hv]; rfl⟩
  refine ⟨(s.atP p.val).loneOpen k.val, ?_, ?_⟩
  · show execLoneNodeOpenTimeout p k s = _
    simp only [execLoneNodeOpenTimeout, order, if_pos due, ok]
  · have str : ((s.atP p.val).loneOpen k.val).str k.val = ((s.atP p.val).openNow k.val).str k.val := rfl
    rw [str, opens, State.setStr_str, if_pos rfl]
    refine ⟨rfl, by simp, ?_⟩
    show has (withBit _ k.val) k.val = true
    simp [has_withBit, k.isLt]

/-- Settles O48: one lemma per row. -/
theorem canStateCommandsComplete : Obligations.CanStateCommandsComplete :=
  ⟨canDetectDwell_tries, canDetectAccept_runs, canDetectTimeout_runs, canBusOff_leaves, canBusoffRecovered_returns,
    canLone_leaves, canClash_disables, pcsStateTimeout_unreachable, loneNodeOpenTimeout_opens⟩

end Sys2Proof.Machine
end

section
namespace Sys2Proof.Machine

/-! ### Contents queued on an idle object (R460, R461, R464) -/

/-- A controller that sends takes a content on an idle object, which then waits with it. -/
theorem State.canPut_idle {s t : State} {c : Fin 2} {o : Nat} {k : CanContent} (ht : t = s.canPut c.val o k)
    (hs : (s.ctl c.val).state = .run ∨ ((s.ctl c.val).state = .lone ∧ o = 6))
    (hi : (tget (s.ctl c.val).obj o).state = .idle) :
    (∀ d : Fin 2, d ≠ c → t.ctl d.val = s.ctl d.val) ∧ (t.ctl c.val).tatDue = (s.ctl c.val).tatDue ∧
      (tget (t.ctl c.val).obj o).state = .waiting ∧ (tget (t.ctl c.val).obj o).cur = some k := by
  have waits : (tget (s.ctl c.val).obj o).queue (decide (o = 1)) k =
      ({ tget (s.ctl c.val).obj o with state := .waiting, cur := some k, fails := 0, older := none }, false) := by
    simp only [CanObj.queue, hi]
  unfold State.canPut at ht
  simp only [if_pos hs, waits, Bool.false_eq_true, if_false] at ht
  subst ht
  refine ⟨(State.modCtl_other _ _ _).fin, ?_⟩
  rw [State.modCtl_self, tget_tput, if_pos rfl]
  exact ⟨rfl, rfl, rfl⟩

theorem canProbe_queues (c : Fin 2) (s : State) (hl : (s.ctl c.val).state = .lone) (hn : s.now % 100 = 0)
    (hi : (tget (s.ctl c.val).obj 6).state = .idle) :
    ∃ t, exec (.canProbe c) s = .next t ∧ (∀ d : Fin 2, d ≠ c → t.ctl d.val = s.ctl d.val) ∧
      (tget (t.ctl c.val).obj 6).state = .waiting ∧
      (tget (t.ctl c.val).obj 6).cur =
        some { frame := s.now, payload := s.canPayload 6 false [], atPulse := some 500 } := by
  refine next_pos rfl ⟨hl, hn⟩ ⟨_, rfl, ?_⟩
  obtain ⟨other, -, queued⟩ := State.canPut_idle (s := s.atP 500) rfl (.inr ⟨hl, rfl⟩) hi
  exact ⟨other, queued⟩

theorem canStandbyTimeRef_queues (c : Fin 2) (s : State) (hp : s.pair.state = some .standby) (hn : s.now % 10 = 0)
    (hq : ∀ u, (s.ctl c.val).peerTime = some u → u + 30000 ≤ (s.atP 0).clockUs) (hr : (s.ctl c.val).state = .run)
    (hi : (tget (s.ctl c.val).obj 0).state = .idle) :
    ∃ t, exec (.canStandbyTimeRef c) s = .next t ∧ (∀ d : Fin 2, d ≠ c → t.ctl d.val = s.ctl d.val) ∧
      (tget (t.ctl c.val).obj 0).state = .waiting ∧
      ((tget (t.ctl c.val).obj 0).cur.map (·.frame)) = some s.now := by
  refine next_pos rfl ⟨hp, hn, ?_⟩ ⟨_, rfl, ?_⟩
  · split
    · next u hu => exact decide_eq_true (hq u hu)
    · rfl
  · unfold State.timeRef
    extract_lets y body
    rw [if_pos (show y.state = .run from hr)]
    obtain ⟨other, -, waits, cur⟩ := State.canPut_idle (s := s.atP 0) rfl (.inl hr) hi
    exact ⟨other, waits, congrArg (Option.map CanContent.frame) cur⟩

theorem transmitAtTime_queues (c : Fin 2) (s : State) (ht : (s.ctl c.val).tatDue = true)
    (hr : (s.ctl c.val).state = .run) (hn : s.now % 100 = 0) (hs : s.sendsPair = true)
    (hi : (tget (s.ctl c.val).obj 2).state = .idle) :
    ∃ t, exec (.transmitAtTime c) s = .next t ∧ (∀ d : Fin 2, d ≠ c → t.ctl d.val = s.ctl d.val) ∧
      (t.ctl c.val).tatDue = false ∧ (tget (t.ctl c.val).obj 2).state = .waiting ∧
      (tget (t.ctl c.val).obj 2).cur =
        some {
          frame := s.now, payload := (s.atP 500).canPayload 2 true (s.atP 500).moduleState, atPulse := some 500 } := by
  refine next_pos rfl ⟨ht, hr, hn, hs⟩ ⟨_, rfl, ?_⟩
  have others : OtherCtl c.val s { (s.atP 500).modCtl c.val (fun z => { z with tatDue := false }) with
      bus.stateAt := some s.now } := State.modCtl_other (s.atP 500) _ _
  have self : State.ctl { (s.atP 500).modCtl c.val (fun z => { z with tatDue := false }) with
      bus.stateAt := some s.now } c.val = { s.ctl c.val with tatDue := false } := State.modCtl_self (s.atP 500) _ _
  obtain ⟨other, due, queued⟩ := State.canPut_idle rfl (.inl ((congrArg CanCtl.state self).trans hr))
    ((congrArg (fun y : CanCtl => (tget y.obj 2).state) self).trans hi)
  exact ⟨fun d hd => (other d hd).trans (others.fin d hd), due.trans (congrArg CanCtl.tatDue self), queued⟩

/-! ### The end of an attempt (R456, R457, R464) -/

/-- A content sent ends at its object: the older one alone where the attempt began with it, else the current one. -/
theorem CanObj.sentEnd (x : CanObj) (early : Bool) :
    { (if early && x.older.isSome then { x with older := none } else x.advance .idle) with
        undelivered := false, bitErrs := 0 } =
      (match early, x.older with
        | true, some _ => { x with older := none, undelivered := false, bitErrs := 0 }
        | _, _ => { x.advance .idle with undelivered := false, bitErrs := 0 }) := by
  cases early
  · rfl
  · cases h : x.older <;> rfl

theorem canTxDone_sent (p : Pulse) (c : Fin 2) (o : Fin 7) (sof : Nat) (early : Bool) (k : CanContent) (s : State)
    (hb : s.canBusy c.val o.val = true) (hr : (s.ctl c.val).state = .run) :
    (tget (s.ctl c.val).obj o.val).sent (early && (tget (s.ctl c.val).obj o.val).older.isSome) = some k →
    ∃ t, exec (.canTxDone p c o sof early) s = .next t ∧ (∀ d : Fin 2, d ≠ c → t.ctl d.val = s.ctl d.val) ∧
      tget (t.ctl c.val).obj o.val = (match early, (tget (s.ctl c.val).obj o.val).older with
        | true, some _ => { tget (s.ctl c.val).obj o.val with older := none, undelivered := false, bitErrs := 0 }
        | _, _ => { (tget (s.ctl c.val).obj o.val).advance .idle with undelivered := false, bitErrs := 0 }) ∧
      (t.ctl c.val).nTx = sat32u ((s.ctl c.val).nTx + 1) ∧
      (t.ctl c.val).tec = (s.ctl c.val).tec - 1 ∧ (t.ctl c.val).ackRun = 0 ∧
      (o = 0 → (t.ctl c.val).trSof = sof ∧ (t.ctl c.val).trSeq = rdU k.payload 2 2) ∧
      (k.atPulse ≠ none → (t.ctl c.val).tatSof = sof) := by
  intro hk
  have content : ((tget (s.ctl c.val).obj o.val).sent
      (early && (tget (s.ctl c.val).obj o.val).older.isSome)).getD {} = k := by rw [hk, Option.getD_some]
  refine next_pos rfl hb (next_neg rfl (fun h => ?_) ⟨_, rfl, (State.modCtl_other (s.atP p.val) _ _).fin, ?_⟩)
  · rw [State.modCtl_self] at h
    exact absurd (h.1.symm.trans hr) nofun
  · rw [State.modCtl_self]
    refine ⟨?_, rfl, rfl, rfl, fun h => ⟨if_pos (congrArg Fin.val h), ?_⟩, fun h => if_pos ?_⟩
    · rw [tget_tput_self]
      exact CanObj.sentEnd _ early
    · exact (if_pos (congrArg Fin.val h)).trans (congrArg (fun q : CanContent => rdU q.payload 2 2) content)
    · exact (congrArg (fun q : CanContent => q.atPulse.isSome) content).trans (Option.isSome_iff_ne_none.mpr h)

/-- A controller changed and then moved to a state keeps the change's count of frames sent. -/
theorem State.setCtl_nTx (s : State) (c : Nat) (new : CanState) (cause : Nat) :
    ((s.setCtl c new cause).ctl c).nTx = (s.ctl c).nTx := by
  obtain ⟨⟨ob, n, td, e⟩, -, -⟩ := State.setCtl_ctl s c new cause
  rw [e]

theorem canTxDone_acknowledges (p : Pulse) (c : Fin 2) (sof : Nat) (early : Bool) (s : State)
    (hb : s.canBusy c.val 6 = true) (hl : (s.ctl c.val).state = .lone) :
    ∃ t, exec (.canTxDone p c 6 sof early) s = .next t ∧ (∀ d : Fin 2, d ≠ c → t.ctl d.val = s.ctl d.val) ∧
      (t.ctl c.val).state = .run ∧ (t.ctl c.val).nTx = sat32u ((s.ctl c.val).nTx + 1) := by
  refine next_pos rfl hb (next_pos rfl ⟨?_, rfl⟩ ⟨_, rfl, ?_⟩)
  · rw [State.modCtl_self]
    exact hl
  · obtain ⟨other, run, -⟩ := State.setCtl_modCtl (s.atP p.val) c _ .run 4 rfl
    refine ⟨other, run, (State.setCtl_nTx ..).trans ?_⟩
    rw [State.modCtl_self]
    rfl

/-- Counting a content of an object as undelivered marks the object and counts the drop. -/
theorem State.undeliver_self (s : State) (c o f : Nat) : (s.undeliver c o f).ctl c =
    { s.ctl c with
      nDrop := sat32u ((s.ctl c).nDrop + 1)
      obj := tmod (s.ctl c).obj o (fun z => { z with undelivered := true }) } := by
  unfold State.undeliver
  rw [State.modCtl_self, State.ctl_congr (State.evIf_bus ..)]

/-- The content given up at an object of controller `c`, and the object with no content after it. -/
structure GaveUp (c o : Nat) (s t : State) : Prop where
  other : OtherCtl c s t
  ackRun : (t.ctl c).ackRun = (s.ctl c).ackRun
  nAck : (t.ctl c).nAck = (s.ctl c).nAck
  nErr : (t.ctl c).nErr = (s.ctl c).nErr
  dropped : (t.ctl c).nDrop = sat32u ((s.ctl c).nDrop + 1)
  cur : (tget (s.ctl c).obj o).next = none → (tget (t.ctl c).obj o).cur = none
  state : (tget (s.ctl c).obj o).next = none →
    (tget (t.ctl c).obj o).state = if o = 1 then .undelivered else .idle

theorem CanObj.advance_none {x : CanObj} (h : x.next = none) (r : TxState) :
    (x.advance r).cur = none ∧ (x.advance r).state = r := by
  unfold CanObj.advance
  rw [h]
  exact ⟨rfl, rfl⟩

theorem State.giveUp_gaveUp (s : State) (c o f : Nat) {t : State}
    (ht : t = (if o = 1 then s.undeliver c o f
      else s.modCtl c (fun y => { y with nDrop := sat32u (y.nDrop + 1) })).modCtl c (fun y =>
        { y with obj := tmod y.obj o (fun z => z.advance (if o = 1 then .undelivered else .idle)) })) :
    GaveUp c o s t := by
  by_cases h : o = 1
  · simp only [if_pos h] at ht
    obtain ⟨-, -, other⟩ := State.undeliver_ctl s c o f
    have self := congrArg (State.ctl · c) ht
    simp only [State.modCtl_self, State.undeliver_self] at self
    have obj := congrArg (fun y => tget y.obj o) self
    simp only [tget_tmod_self] at obj
    exact ⟨ht ▸ other.trans (State.modCtl_other _ _ _), by rw [self], by rw [self], by rw [self], by rw [self],
      fun hn => (congrArg CanObj.cur obj).trans (CanObj.advance_none (by exact hn) _).1,
      fun hn => (congrArg CanObj.state obj).trans ((CanObj.advance_none (by exact hn) _).2.trans (if_pos h).symm)⟩
  · simp only [if_neg h] at ht
    have self := congrArg (State.ctl · c) ht
    simp only [State.modCtl_self] at self
    have obj := congrArg (fun y => tget y.obj o) self
    simp only [tget_tmod_self] at obj
    exact ⟨ht ▸ (State.modCtl_other s c _).trans (State.modCtl_other _ _ _), by rw [self], by rw [self], by rw [self],
      by rw [self], fun hn => (congrArg CanObj.cur obj).trans (CanObj.advance_none hn _).1,
      fun hn => (congrArg CanObj.state obj).trans ((CanObj.advance_none hn _).2.trans (if_neg h).symm)⟩

theorem canTxFail_retries (p : Pulse) (c : Fin 2) (o : Fin 7) (e : TxError) (early : Bool) (k : CanContent) (s : State)
    (hb : s.canBusy c.val o.val = true) (hk : (tget (s.ctl c.val).obj o.val).cur = some k) :
    ∃ t, exec (.canTxFail p c o e early) s = .next t ∧ (∀ d : Fin 2, d ≠ c → t.ctl d.val = s.ctl d.val) ∧
      (t.ctl c.val).ackRun = (if e = .ack then (s.ctl c.val).ackRun + 1 else 0) ∧
      (e = .ack → (t.ctl c.val).nAck = sat32u ((s.ctl c.val).nAck + 1)) ∧
      (e ≠ .ack → (t.ctl c.val).nErr = sat32u ((s.ctl c.val).nErr + 1)) ∧
      ((early && (tget (s.ctl c.val).obj o.val).older.isSome) = true →
        (tget (t.ctl c.val).obj o.val).fails = 0 ∧ (tget (t.ctl c.val).obj o.val).older = none ∧
        (tget (t.ctl c.val).obj o.val).cur = some k ∧ (t.ctl c.val).nDrop = (s.ctl c.val).nDrop) ∧
      ((early && (tget (s.ctl c.val).obj o.val).older.isSome) = false →
        (tget (s.ctl c.val).obj o.val).fails + 1 < 8 → k.atPulse = none →
        (tget (t.ctl c.val).obj o.val).fails = (tget (s.ctl c.val).obj o.val).fails + 1 ∧
        (tget (t.ctl c.val).obj o.val).cur = some k) ∧
      ((early && (tget (s.ctl c.val).obj o.val).older.isSome) = false →
        (8 ≤ (tget (s.ctl c.val).obj o.val).fails + 1 ∨ k.atPulse ≠ none) →
        (tget (s.ctl c.val).obj o.val).next = none →
        (tget (t.ctl c.val).obj o.val).cur = none ∧
        (tget (t.ctl c.val).obj o.val).state = (if o = 1 then .undelivered else .idle) ∧
        (t.ctl c.val).nDrop = sat32u ((s.ctl c.val).nDrop + 1)) := by
  have content : (tget (s.ctl c.val).obj o.val).cur.getD {} = k := by rw [hk, Option.getD_some]
  refine next_pos rfl hb ?_
  by_cases was : (early && (tget (s.ctl c.val).obj o.val).older.isSome) = true
  · refine next_pos rfl was ⟨_, rfl, (State.modCtl_other (s.atP p.val) _ _).fin, ?_⟩
    rw [State.modCtl_self]
    refine ⟨ite_congr (propext decide_eq_true_iff) (fun _ => rfl) (fun _ => rfl), fun h => if_pos (decide_eq_true h),
      fun h => if_neg (mt of_decide_eq_true h), fun _ => ?_, fun h => absurd (was.symm.trans h) nofun,
      fun h => absurd (was.symm.trans h) nofun⟩
    rw [tget_tput_self]
    exact ⟨if_pos was, rfl, hk, rfl⟩
  refine next_neg rfl was ?_
  by_cases again : (tget (s.ctl c.val).obj o.val).fails + 1 < 8 ∧ k.atPulse = none
  · refine next_pos rfl ⟨again.1, ?_⟩ ⟨_, rfl, (State.modCtl_other (s.atP p.val) _ _).fin, ?_⟩
    · exact (congrArg (fun q : CanContent => q.atPulse.isNone) content).trans (Option.isNone_iff_eq_none.mpr again.2)
    · rw [State.modCtl_self]
      refine ⟨ite_congr (propext decide_eq_true_iff) (fun _ => rfl) (fun _ => rfl), fun h => if_pos (decide_eq_true h),
        fun h => if_neg (mt of_decide_eq_true h), fun h => absurd h was, fun _ _ _ => ?_, fun _ h => ?_⟩
      · rw [tget_tput_self]
        exact ⟨if_neg was, hk⟩
      · exact absurd h (not_or.mpr ⟨by omega, fun h => h again.2⟩)
  · refine next_neg rfl (fun h => again ⟨h.1, ?_⟩) ⟨_, rfl, ?_⟩
    · exact Option.isNone_iff_eq_none.mp
        ((congrArg (fun q : CanContent => q.atPulse.isNone) content).symm.trans h.2)
    · generalize ht : State.modCtl _ _ _ = t
      obtain ⟨other, ackRun, nAck, nErr, dropped, cur, state⟩ := State.giveUp_gaveUp _ c.val o.val _ ht.symm
      simp only [State.modCtl_self, tget_tput_self] at ackRun nAck nErr dropped cur state
      refine ⟨((State.modCtl_other (s.atP p.val) _ _).trans other).fin,
        ackRun.trans (ite_congr (propext decide_eq_true_iff) (fun _ => rfl) (fun _ => rfl)),
        fun h => nAck.trans (if_pos (decide_eq_true h)), fun h => nErr.trans (if_neg (mt of_decide_eq_true h)),
        fun h => absurd h was, fun _ h h' => absurd ⟨h, h'⟩ again, fun _ _ hn => ⟨cur hn, (state hn).trans ?_, dropped⟩⟩
      exact ite_congr (propext (Fin.ext_iff (b := (1 : Fin 7))).symm) (fun _ => rfl) (fun _ => rfl)

/-! ### Reception (R448, R452, R453, R454) -/

theorem canFrameRx_bad (p : Pulse) (c : Fin 2) (f : CanFrame) (s : State) (hr : (s.ctl c.val).state = .run)
    (hf : f.ok = false) :
    ∃ t, exec (.canFrameRx p c f) s = .next t ∧ (∀ d : Fin 2, d ≠ c → t.ctl d.val = s.ctl d.val) ∧
      t.ctl c.val = { s.ctl c.val with
        nErr := sat32u ((s.ctl c.val).nErr + 1), rec_ := satN 255 ((s.ctl c.val).rec_ + 1) } := by
  refine next_neg rfl (fun h => Bool.false_ne_true (hf.symm.trans h.1)) ⟨_, rfl, ?_⟩
  have heard : (s.atP p.val).canHear c.val f = (s.atP p.val).modCtl c.val (fun y =>
      { y with nErr := sat32u (y.nErr + 1), rec_ := satN 255 (y.rec_ + 1) }) := by
    unfold State.canHear
    rw [show ((s.atP p.val).ctl c.val).state = .run from hr]
    exact if_pos (by rw [hf]; rfl)
  rw [heard]
  exact ⟨(State.modCtl_other (s.atP p.val) _ _).fin, State.modCtl_self ..⟩

theorem BusSt.cfg_of_rest {x y : BusSt} (h : x.rest = y.rest) : x.cfg = y.cfg := (congrArg BusSt.cfg h :)

theorem BusSt.seen_of_rest {x y : BusSt} (h : x.rest = y.rest) : x.seen = y.seen := (congrArg BusSt.seen h :)

theorem State.peerNode_congr {s t : State} (h : t.sys = s.sys) (hc : t.bus.cfg = s.bus.cfg) :
    t.peerNode = s.peerNode := by
  unfold State.peerNode
  rw [h, hc]

theorem State.clockUs_congr {s t : State} (h : t.time = s.time) : t.clockUs = s.clockUs := by
  unfold State.clockUs
  rw [h]

theorem canFrameRx_good (p : Pulse) (c : Fin 2) (f : CanFrame) (s : State) (hr : (s.ctl c.val).state = .run)
    (hf : f.ok = true) :
    ∃ t, exec (.canFrameRx p c f) s = .next t ∧ (∀ d : Fin 2, d ≠ c → t.ctl d.val = s.ctl d.val) ∧
      (t.ctl c.val).nRx = sat32u ((s.ctl c.val).nRx + 1) ∧ (t.ctl c.val).rec_ = (s.ctl c.val).rec_ - 1 ∧
      (t.ctl c.val).lastRx = some (s.atP p.val).clockUs ∧
      (f.fd29 = true → f.msg = 0x001 → f.src = s.peerNode → f.container = s.sys.container →
        (t.ctl c.val).peerTime = some (s.atP p.val).clockUs) := by
  obtain ⟨other, ⟨ob, heard⟩, rest⟩ := State.canHear_run (s := s.atP p.val) (c := c.val) (f := f) hr hf
  have kept := State.canHear_frame (s.atP p.val) c.val f
  have peer : ((s.atP p.val).canHear c.val f).peerNode = s.peerNode :=
    State.peerNode_congr (kept.sys_eq (by decide)) (BusSt.cfg_of_rest rest)
  by_cases h : f.ok = true ∧ f.fd29 = true ∧ f.msg = 0x001 ∧ f.src = ((s.atP p.val).canHear c.val f).peerNode ∧
      f.container = ((s.atP p.val).canHear c.val f).sys.container
  · refine next_pos rfl h ⟨_, rfl, (other.trans (State.modCtl_other _ _ _)).fin, ?_⟩
    rw [State.modCtl_self, heard]
    exact ⟨rfl, rfl, rfl, fun _ _ _ _ => congrArg some (State.clockUs_congr (kept.time_eq (by decide)))⟩
  · refine next_neg rfl h ⟨_, rfl, other.fin, ?_⟩
    rw [heard]
    refine ⟨rfl, rfl, rfl, fun h29 hm hs hc => absurd ⟨hf, h29, hm, hs.trans peer.symm, ?_⟩ h⟩
    exact hc.trans (congrArg (fun x => x.container) (kept.sys_eq (by decide))).symm

/-- A message that passes its checks is taken as an input of the pair (R452, R453, R454). -/
theorem State.canRx_took {s : State} {c : Nat} {f : CanFrame} {msg node n : Nat} (q : Nat)
    (h : CanMayTake s c f msg node n) : CanTook s (s.canRx c f msg node n q false) f msg node n := by
  obtain ⟨-, -, rest⟩ := State.canHear_run h.run h.good
  have time : (s.canHear c f).time = s.time := (State.canHear_frame s c f).time_eq (by decide)
  have clock := State.clockUs_congr time
  have seen : (s.canHear c f).bus.seen = s.bus.seen := BusSt.seen_of_rest rest
  have passes : (!(decide ((s.ctl c).state ∈ [CanState.detect, .run, .lone]) && f.ok) || !f.fd29 ||
      decide (f.msg ≠ msg) || decide (f.container ≠ s.sys.container) || decide (node = 0)) = false := by
    simp [h.run, h.good, h.fd29, h.message, h.cont, h.known]
  have new : (s.bus.seen.filter (fun x => decide (s.clockUs < x.1 + 100000))).any
      (fun x => decide (x.2 = (node, msg, rdU f.payload 2 2))) = false := by
    simp only [List.any_eq_false, List.mem_filter, decide_eq_true_eq, and_imp]
    exact h.fresh
  unfold State.canRx
  extract_lets live s1 bad seq seen' body u
  have accepts : s1.canAccepts node n f = true := h.accepts
  rw [if_neg (by rw [passes]; exact Bool.false_ne_true), if_neg (by rw [accepts]; nofun), if_neg,
    if_neg Bool.false_ne_true]
  · generalize hi : PairItem.mk _ _ _ _ _ = it
    refine ⟨?_, it, ?_, ?_⟩
    · rw [State.itemIn_bus, ← clock]
      exact List.mem_cons_self
    · rw [← hi]
    · obtain ⟨waits, assigned⟩ := State.itemIn_item { s1 with bus.seen := (s1.clockUs, node, msg, seq) :: seen' } it
      have now : s1.now = s.now := congrArg TimeSt.frame time
      rw [← now]
      exact (Bool.eq_false_or_eq_true _).elim (fun ha => .inr (assigned ha)) (fun ha => .inl (waits ha))
  · show ¬seen'.any _ = true
    simp only [seen', clock, seen, s1]
    exact Bool.eq_false_iff.mp new

/-- A message of another node whose checks pass is taken, by each of the four receptions. -/
theorem next_canRx_took {o : Host.Outcome State Fault Refusal} {s : State} {c : Nat} {f : CanFrame} {msg node n q : Nat}
    (ho : o = ok (s.canRx c f msg node n q false)) (h : CanMayTake s c f msg node n) :
    ∃ t, o = .next t ∧ CanTook s t f msg node n := ⟨_, ho, State.canRx_took q h⟩

/-- Settles O49: one lemma per row; the four receptions are one lemma. -/
theorem canTransferCommandsComplete : Obligations.CanTransferCommandsComplete :=
  ⟨canProbe_queues, canStandbyTimeRef_queues, transmitAtTime_queues, canTxDone_sent, canTxDone_acknowledges,
    canTxFail_retries, canFrameRx_bad, canFrameRx_good, fun _ _ _ _ => next_canRx_took rfl,
    fun _ _ _ _ => next_canRx_took rfl, fun _ _ _ _ => next_canRx_took rfl, fun _ _ _ _ => next_canRx_took rfl⟩

end Sys2Proof.Machine
end

section
namespace Sys2Proof.Machine

/-! ### Addresses on the two-wire port (R473, R474, R479) -/

/-- The end of a transaction moves the pointers and the line, and leaves the port idle. -/
theorem State.twEnd_tw (s : State) (n : Nat) : ∃ l a b, (s.twEnd n).tw =
    { s.tw with line := l, ptr1 := a, ptr2 := b, tx := .idle } := by
  unfold State.twEnd
  extract_lets t u
  split <;> exact ⟨_, _, _, rfl⟩

/-- The end of a transaction at a pulse: it moves the pointers as at any other. -/
theorem State.twEnd_atP (p : Pulse) (s : State) (n : Nat) : ∃ l, ((s.atP p.val).twEnd n).tw =
    { s.tw with line := l, ptr1 := (s.twEnd n).tw.ptr1, ptr2 := (s.twEnd n).tw.ptr2, tx := .idle } := by
  obtain ⟨l, a, b, ended⟩ := State.twEnd_tw s n
  have same : ((s.atP p.val).twEnd n).tw = (s.twEnd n).tw := by
    unfold State.twEnd
    simp only [State.atP_tw]
    split <;> rfl
  rw [same, ended]
  exact ⟨_, rfl⟩

/-- An address after the end of a transaction is another device's where it is neither of the module's. -/
theorem State.twEnd_notOwn (p : Pulse) (a : BitVec 7) (n : Nat) (s : State) :
    (!decide (a.toNat = ((s.atP p.val).twEnd n).tw.secondary) &&
      decide (a.toNat ≠ ((s.atP p.val).twEnd n).tw.primary)) = true ↔
      ¬(a.toNat = s.tw.primary ∨ a.toNat = s.tw.secondary) := by
  obtain ⟨l, ended⟩ := State.twEnd_atP p s n
  have own1 : ((s.atP p.val).twEnd n).tw.primary = s.tw.primary := (congrArg TwSt.primary ended :)
  have own2 : ((s.atP p.val).twEnd n).tw.secondary = s.tw.secondary := (congrArg TwSt.secondary ended :)
  simp [own1, own2, and_comm]

theorem twAddress_ignores (p : Pulse) (a : BitVec 7) (r : Bool) (n : Nat) (s : State)
    (hp : a.toNat ≠ s.tw.primary) (hs : a.toNat ≠ s.tw.secondary) :
    ∃ t, exec (.twAddress p a r n) s = .next t ∧ t.tw.tx = .ignored ∧ t.tw.nTrans = s.tw.nTrans ∧
      t.tw.asleep = s.tw.asleep ∧ t.tw.latch = s.tw.latch ∧ t.tw.ptr1 = (s.twEnd n).tw.ptr1 ∧
        t.tw.ptr2 = (s.twEnd n).tw.ptr2 := by
  obtain ⟨l, ended⟩ := State.twEnd_atP p s n
  refine next_pos rfl ((State.twEnd_notOwn p a n s).mpr (not_or.mpr ⟨hp, hs⟩)) ⟨_, rfl, ?_⟩
  rw [ended]
  exact ⟨rfl, rfl, rfl, rfl, rfl, rfl⟩

theorem twAddress_wakes (p : Pulse) (a : BitVec 7) (r : Bool) (n : Nat) (s : State)
    (ho : a.toNat = s.tw.primary ∨ a.toNat = s.tw.secondary) (hs : s.tw.asleep = true) :
    ∃ t, exec (.twAddress p a r n) s = .next t ∧ t.tw.tx = .ignored ∧ t.tw.asleep = false ∧
      t.tw.nWake = sat32u (s.tw.nWake + 1) ∧ t.tw.latch = s.tw.latch ∧
      t.tw.ptr1 = (s.twEnd n).tw.ptr1 ∧ t.tw.ptr2 = (s.twEnd n).tw.ptr2 := by
  obtain ⟨l, ended⟩ := State.twEnd_atP p s n
  refine next_neg rfl (fun h => (State.twEnd_notOwn p a n s).mp h ho)
    (next_pos rfl ((congrArg TwSt.asleep ended).trans hs) ⟨_, rfl, ?_⟩)
  · rw [ended]
    exact ⟨rfl, rfl, rfl, rfl, rfl, rfl⟩

theorem twAddress_reads (p : Pulse) (a : BitVec 7) (n : Nat) (s : State)
    (ho : a.toNat = s.tw.primary ∨ a.toNat = s.tw.secondary) (hs : s.tw.asleep = false) :
    ∃ t, exec (.twAddress p a true n) s = .next t ∧
      t.tw.tx = .read (decide (a.toNat = s.tw.secondary)) ∧
      t.tw.latch = s.twImage (decide (a.toNat = s.tw.secondary)) ∧ t.tw.nTrans = sat32u (s.tw.nTrans + 1) ∧
      t.tw.ptr1 = (s.twEnd n).tw.ptr1 ∧ t.tw.ptr2 = (s.twEnd n).tw.ptr2 := by
  obtain ⟨l, ended⟩ := State.twEnd_atP p s n
  refine next_neg rfl (fun h => (State.twEnd_notOwn p a n s).mp h ho)
    (next_neg rfl (fun h => ?_) (next_pos rfl rfl ⟨_, rfl, ?_⟩))
  · exact absurd (((congrArg TwSt.asleep ended).trans hs).symm.trans h) nofun
  · unfold State.twImage
    rw [ended]
    exact ⟨rfl, rfl, rfl, rfl, rfl⟩

theorem twAddress_writes (p : Pulse) (a : BitVec 7) (n : Nat) (s : State)
    (ho : a.toNat = s.tw.primary ∨ a.toNat = s.tw.secondary) (hs : s.tw.asleep = false) :
    ∃ t, exec (.twAddress p a false n) s = .next t ∧
      t.tw.tx = .write (decide (a.toNat = s.tw.secondary)) none ∧ t.tw.latch = s.tw.latch ∧
      t.tw.nTrans = sat32u (s.tw.nTrans + 1) ∧ t.tw.ptr1 = (s.twEnd n).tw.ptr1 ∧
      t.tw.ptr2 = (s.twEnd n).tw.ptr2 := by
  obtain ⟨l, ended⟩ := State.twEnd_atP p s n
  refine next_neg rfl (fun h => (State.twEnd_notOwn p a n s).mp h ho)
    (next_neg rfl (fun h => ?_) (next_neg rfl nofun ⟨_, rfl, ?_⟩))
  · exact absurd (((congrArg TwSt.asleep ended).trans hs).symm.trans h) nofun
  · rw [ended]
    exact ⟨rfl, rfl, rfl, rfl, rfl⟩

/-! ### The bytes, the end and the sleep of a transaction (R473, R474, R475, R482) -/

theorem twRegisterAddress_selects (p : Pulse) (reg : Byte) (sec : Bool) (s : State) (h : s.tw.tx = .write sec none) :
    ∃ t, exec (.twRegisterAddress p reg) s = .next t ∧ t.tw = { s.tw with tx := .write sec (some reg.toNat) } := by
  have e : exec (.twRegisterAddress p reg) s = ok { s.atP p.val with tw.tx := .write sec (some reg.toNat) } := by
    show execTwRegisterAddress p reg s = _
    simp only [execTwRegisterAddress, State.atP_tw, h]
  exact ⟨_, e, rfl⟩

theorem twWriteDiscard_counts (p : Pulse) (sec : Bool) (r : Nat) (s : State) (h : s.tw.tx = .write sec (some r))
    (hs : s.tw.atSafeReq = false) :
    ∃ t, exec (.twWriteDiscard p) s = .next t ∧
      t.tw = { s.tw with tx := .write sec (some ((r + 1) % 256)), nNack := sat32u (s.tw.nNack + 1) } := by
  have e : exec (.twWriteDiscard p) s = ok { s.atP p.val with
      tw.tx := .write sec (some ((r + 1) % 256)), tw.nNack := sat32u (s.tw.nNack + 1) } := by
    show execTwWriteDiscard p s = _
    simp only [execTwWriteDiscard, State.atP_tw, h, hs, Bool.false_eq_true, if_false]
  exact ⟨_, e, rfl⟩

/-- The end of a transaction moves the pointer of the register file it read or wrote, and no other. -/
theorem State.twEnd_pointers (s : State) (n : Nat) :
    (∀ r, s.tw.tx = .write false (some r) → (s.twEnd n).tw.ptr1 = r ∧ (s.twEnd n).tw.ptr2 = s.tw.ptr2) ∧
    (∀ r, s.tw.tx = .write true (some r) → (s.twEnd n).tw.ptr2 = r ∧ (s.twEnd n).tw.ptr1 = s.tw.ptr1) ∧
    (s.tw.tx = .read false → (s.twEnd n).tw.ptr1 = (s.tw.ptr1 + n) % 256 ∧ (s.twEnd n).tw.ptr2 = s.tw.ptr2 ∧
      (s.twEnd n).tw.line = s.tw.readBytes s.tw.ptr1 n) ∧
    (s.tw.tx = .read true → (s.twEnd n).tw.ptr2 = (s.tw.ptr2 + n) % 256 ∧ (s.twEnd n).tw.ptr1 = s.tw.ptr1 ∧
      (s.twEnd n).tw.line = s.tw.readBytes s.tw.ptr2 n) := by
  refine ⟨fun r h => ?_, fun r h => ?_, fun h => ?_, fun h => ?_⟩ <;> simp [State.twEnd, TwSt.sentBytes, h]

/-- Writing the secondary image changes nothing else of the port. -/
theorem State.twMarkhor_tw (s : State) : ∃ b, s.twMarkhor.tw = { s.tw with image2 := b } :=
  ⟨s.twSecondary, by simp only [State.twMarkhor]⟩

theorem twStop_ends (p : Pulse) (n : Nat) (d : Bytes) (s : State) (hs : s.tw.atSafeReq = false) :
    ∃ t, exec (.twStop p n d) s = .next t ∧ t.tw.tx = .idle ∧ t.tw.muted = false ∧ t.tw.armed = s.tw.armed ∧
      (∀ r, s.tw.tx = .write false (some r) → t.tw.ptr1 = r ∧ t.tw.ptr2 = s.tw.ptr2) ∧
      (∀ r, s.tw.tx = .write true (some r) → t.tw.ptr2 = r ∧ t.tw.ptr1 = s.tw.ptr1) ∧
      (s.tw.tx = .read false → t.tw.ptr1 = (s.tw.ptr1 + n) % 256 ∧ t.tw.ptr2 = s.tw.ptr2 ∧
        t.tw.line = s.tw.readBytes s.tw.ptr1 n) ∧
      (s.tw.tx = .read true → t.tw.ptr2 = (s.tw.ptr2 + n) % 256 ∧ t.tw.ptr1 = s.tw.ptr1 ∧
        t.tw.line = s.tw.readBytes s.tw.ptr2 n) := by
  have e : exec (.twStop p n d) s = ok { (s.atP p.val).twEnd n with tw.muted := false }.twMarkhor := by
    show execTwStop p n d s = _
    simp only [execTwStop, State.atP_tw, hs, Bool.false_eq_true, if_false]
  obtain ⟨l, p1, p2, ended⟩ := State.twEnd_tw (s.atP p.val) n
  obtain ⟨b, shown⟩ := State.twMarkhor_tw { (s.atP p.val).twEnd n with tw.muted := false }
  refine ⟨_, e, ?_⟩
  rw [shown]
  exact ⟨congrArg TwSt.tx ended, rfl, (congrArg TwSt.armed ended :), State.twEnd_pointers (s.atP p.val) n⟩

theorem twBadCondition_ends (p : Pulse) (st : Bool) (s : State) :
    ∃ t, exec (.twBadCondition p st) s = .next t ∧ t.tw.tx = .idle ∧ t.tw.ptr1 = s.tw.ptr1 ∧
      t.tw.ptr2 = s.tw.ptr2 ∧ t.tw.armed = s.tw.armed := ⟨_, rfl, rfl, rfl, rfl, rfl⟩

theorem twSPortReadClear_clears (p : Pulse) (s : State) (h : s.tw.tx = .read true) :
    ∃ t, exec (.twSPortReadClear p) s = .next t ∧ t.tw.tx = .read true ∧
      t.tw.sport = s.tw.sport &&& ~~~BitVec.ofNat 4 ((s.tw.latch[0x1C]?).getD 0).toNat := by
  refine next_pos rfl h ⟨_, rfl, ?_⟩
  generalize hu : State.twMarkhor _ = u
  obtain ⟨b, shown⟩ := hu ▸ State.twMarkhor_tw _
  rw [shown]
  exact ⟨h, rfl⟩

theorem twSleep_sleeps (p : Pulse) (s : State) (hm : s.mode.mode = .rest)
    (hl : s.tw.lastStart + 2000000 ≤ (s.atP p.val).clockUs) :
    ∃ t, exec (.twSleep p) s = .next t ∧ t.tw = { s.tw with asleep := true } :=
  next_pos rfl ⟨hm, hl⟩ ⟨_, rfl, rfl⟩

/-- Settles O50: one lemma per row. -/
theorem twoWireTransactionsComplete : Obligations.TwoWireTransactionsComplete :=
  ⟨twAddress_ignores, twAddress_wakes, twAddress_reads, twAddress_writes, twRegisterAddress_selects,
    twWriteDiscard_counts, twStop_ends, twBadCondition_ends, twSPortReadClear_clears, twSleep_sleeps⟩

end Sys2Proof.Machine
end

section
namespace Sys2Proof.Machine

/-! ### The Safe request (R480, R481) -/

theorem State.twMarkhor_mode (s : State) : s.twMarkhor.mode = s.mode := (State.twMarkhor_frame s).mode_eq (by decide)

theorem State.twMarkhor_prot (s : State) : s.twMarkhor.prot = s.prot := (State.twMarkhor_frame s).prot_eq (by decide)

theorem State.twMarkhor_safeLatch (s : State) : s.twMarkhor.jnl.safeLatch = s.jnl.safeLatch :=
  (State.twMarkhor_frame s).safeLatch_eq (by decide)

/-- A request whose 100 ms have not passed, or none, is left armed as it is. -/
theorem State.twLapse_keeps {s : State} (h : ∀ a, s.tw.armed = some a → s.clockUs ≤ a + 100000) : s.twLapse = s := by
  refine if_neg (fun hl => ?_)
  unfold State.twLapsed at hl
  split at hl
  · next a ha => exact absurd (of_decide_eq_true hl) (by have := h a ha; omega)
  · cases hl

/-- A disarmed request is none; of the rest only the count of disarms and the port's flags change. -/
theorem State.twDisarm_tw (s : State) (flag : Bool) : ∃ n f, (s.twDisarm flag).tw =
    { s.tw with armed := none, nDisarm := n, sport := f } := by
  unfold State.twDisarm
  split
  · exact ⟨_, _, rfl⟩
  · next h =>
    have none : s.tw.armed = none := Option.not_isSome_iff_eq_none.mp h
    exact ⟨s.tw.nDisarm, s.tw.sport, by rw [← none]⟩

/-- The disarming of an armed request is counted and shown. -/
theorem State.twDisarm_armed {s : State} (h : s.tw.armed ≠ none) : s.twDisarm true =
    { s with tw.armed := none, tw.nDisarm := sat32u (s.tw.nDisarm + 1), tw.sport := s.tw.sport ||| 8 } :=
  if_pos (Option.isSome_iff_ne_none.mpr h)

theorem twSafeReqArm_arms (p : Pulse) (s : State) :
    ∃ t, exec (.twSafeReqArm p) s = .next t ∧ t.tw.armed = some (s.atP p.val).clockUs ∧ t.mode = s.mode ∧
      t.tw.nReq = s.tw.nReq := by
  have lapse : (∃ n f a, (s.atP p.val).twLapse.tw = { s.tw with armed := a, nDisarm := n, sport := f }) := by
    unfold State.twLapse
    split
    · obtain ⟨n, f, e⟩ := State.twDisarm_tw (s.atP p.val) true
      exact ⟨n, f, none, e⟩
    · exact ⟨_, _, _, rfl⟩
  obtain ⟨n, f, a, e⟩ := lapse
  have kept := State.twLapse_frame (s.atP p.val)
  have commit : (s.atP p.val).twCommit 0xA5 =
      { (s.atP p.val).twLapse with tw.armed := some (s.atP p.val).twLapse.clockUs } := by
    unfold State.twCommit
    exact if_pos rfl
  refine ⟨_, rfl, ?_⟩
  rw [commit, State.twMarkhor_mode]
  obtain ⟨b, shown⟩ := State.twMarkhor_tw
    { (s.atP p.val).twLapse with tw.armed := some (s.atP p.val).twLapse.clockUs }
  rw [shown]
  exact ⟨congrArg some (State.clockUs_congr (kept.time_eq (by decide))), kept.mode_eq (by decide),
    (congrArg TwSt.nReq e :)⟩

/-- The completing byte, where the request is armed and its 100 ms have not passed. -/
theorem exec_twSafeReqComplete (p : Pulse) {a : Nat} {s : State} (ha : s.tw.armed = some a)
    (hc : (s.atP p.val).clockUs ≤ a + 100000) :
    exec (.twSafeReqComplete p) s = ok (s.atP p.val).twComplete.twMarkhor := by
  have lapse : (s.atP p.val).twLapse = s.atP p.val :=
    State.twLapse_keeps (fun b hb => by rw [Option.some.inj (hb.symm.trans ha)]; exact hc)
  show ok ((s.atP p.val).twCommit 0x5A).twMarkhor = _
  unfold State.twCommit
  extract_lets u
  have armed : u.tw.armed.isSome = true := by
    rw [show u = s.atP p.val from lapse]
    exact (congrArg Option.isSome ha).trans rfl
  rw [if_neg (by decide), if_pos rfl, if_pos armed]
  exact congrArg (fun u => ok u.twComplete.twMarkhor) lapse

/-- The entry into Safe leaves of the two-wire port all but its sleep. -/
theorem State.enterSafe_tw (s : State) (c : Byte) (cmd : Word) : ∃ b, (s.enterSafe c cmd).tw =
    { s.tw with asleep := b } := by
  unfold State.enterSafe
  extract_lets _ _ s1 s2 s3 _ s4
  have latched : s1.tw = s.tw := (State.safeLatchSet_frame ..).tw_eq (by decide)
  have str : ∀ (l : List Nat) (u : State), (l.foldl (fun u k => u.safeStr k) u).tw = u.tw := fun l u =>
    foldl_view (v := State.tw) (fun u k => (State.safeStr_frame u k).tw_eq (by decide)) l u
  have entered : s4.tw = { s.tw with asleep := false } := by
    have opened : s2.tw = s.tw := (str _ _).trans (((State.safeAborts_frame s1).tw_eq (by decide)).trans latched)
    have moved : s3.tw = { s2.tw with asleep := false } := by
      simp only [s3, State.setMode, State.ev_tw]
    exact moved.trans (congrArg (fun x : TwSt => { x with asleep := false }) opened)
  split
  · exact ⟨s.tw.asleep, (str _ _).trans latched⟩
  · exact ⟨s.tw.asleep, (str _ _).trans latched⟩
  · exact ⟨s.tw.asleep, (State.ev_tw ..).trans latched⟩
  · split
    · exact ⟨false, ((State.setPair_frame ..).tw_eq (by decide)).trans entered⟩
    · exact ⟨false, entered⟩

theorem twSafeReqComplete_enters (p : Pulse) (a : Nat) (s : State) (ha : s.tw.armed = some a)
    (hc : (s.atP p.val).clockUs ≤ a + 100000) (hm : s.mode.mode ∉ [Mode.fill, .load, .safe]) :
    ∃ t, exec (.twSafeReqComplete p) s = .next t ∧ t.tw.armed = none ∧ t.tw.nReq = sat32u (s.tw.nReq + 1) ∧
      t.mode.mode = .safe ∧ t.prot.safeA = true ∧ t.prot.safeB = true ∧
      t.jnl.safeLatch = (if s.jnl.safeLatch = 0 then 0x04 else s.jnl.safeLatch) := by
  simp only [List.mem_cons, List.not_mem_nil, or_false, not_or] at hm
  obtain ⟨notFill, notLoad, notSafe⟩ := hm
  refine ⟨_, exec_twSafeReqComplete p ha hc, ?_⟩
  unfold State.twComplete
  extract_lets _ s1 safe s2
  have mode : s2.mode = s.mode := State.ev_mode ..
  have tw : s2.tw = { s.tw with armed := none, nReq := sat32u (s.tw.nReq + 1) } := State.ev_tw ..
  have latch : s2.jnl.safeLatch = s.jnl.safeLatch := (State.ev_frame ..).safeLatch_eq (by decide)
  have notSafe' : ¬safe = true := fun h => notSafe (of_decide_eq_true h)
  obtain ⟨b, kept⟩ := State.enterSafe_tw s2 0x04 0
  obtain ⟨inSafe, outA, outB, cause⟩ := State.enterSafe_enters s2 0x04 0 (mode ▸ notFill) (mode ▸ notLoad)
  obtain ⟨b', shown⟩ := State.twMarkhor_tw (s2.enterSafe 0x04 0)
  rw [if_neg notSafe', State.twMarkhor_mode, State.twMarkhor_prot, State.twMarkhor_safeLatch, shown, kept, tw, ← latch]
  exact ⟨rfl, rfl, inSafe, outA, outB, cause⟩

theorem twSafeReqComplete_counts (p : Pulse) (a : Nat) (s : State) (ha : s.tw.armed = some a)
    (hc : (s.atP p.val).clockUs ≤ a + 100000) (hm : s.mode.mode = .safe) :
    ∃ t, exec (.twSafeReqComplete p) s = .next t ∧ t.tw.armed = none ∧ t.tw.nReq = sat32u (s.tw.nReq + 1) ∧
      t.mode = s.mode ∧ t.prot = s.prot ∧ t.jnl.safeLatch = s.jnl.safeLatch := by
  refine ⟨_, exec_twSafeReqComplete p ha hc, ?_⟩
  unfold State.twComplete
  extract_lets _ s1 safe s2
  rw [if_pos (show safe = true from decide_eq_true hm)]
  have tw : s2.tw = { s.tw with armed := none, nReq := sat32u (s.tw.nReq + 1) } := State.ev_tw ..
  obtain ⟨b, shown⟩ := State.twMarkhor_tw s2
  rw [State.twMarkhor_mode, State.twMarkhor_prot, State.twMarkhor_safeLatch, shown]
  exact ⟨(congrArg TwSt.armed tw :), (congrArg TwSt.nReq tw :), State.ev_mode .., State.ev_prot ..,
    (State.ev_frame ..).safeLatch_eq (by decide)⟩

theorem twSafeReqComplete_unarmed (p : Pulse) (s : State) (ha : s.tw.armed = none) :
    ∃ t, exec (.twSafeReqComplete p) s = .next t ∧ t.tw.armed = none ∧ t.tw.nReq = s.tw.nReq ∧ t.mode = s.mode ∧
      t.tw.sport = s.tw.sport ||| 4 ∧ t.tw.nDisarm = sat32u (s.tw.nDisarm + 1) := by
  have lapse : (s.atP p.val).twLapse = s.atP p.val := State.twLapse_keeps (fun a h => absurd (ha.symm.trans h) nofun)
  refine ⟨_, rfl, ?_⟩
  unfold State.twCommit
  have unarmed : ¬(s.atP p.val).tw.armed.isSome = true := Option.not_isSome_iff_eq_none.mpr ha
  rw [lapse, if_neg (by decide), if_pos rfl, if_neg unarmed, State.twMarkhor_mode]
  generalize hu : State.twMarkhor _ = u
  obtain ⟨b, shown⟩ := hu ▸ State.twMarkhor_tw _
  rw [shown]
  exact ⟨ha, rfl, rfl, rfl, rfl⟩

theorem twSafeReqDisarm_disarms (p : Pulse) (v : Byte) (a : Nat) (s : State) (h1 : v ≠ 0xA5) (h2 : v ≠ 0x5A)
    (ha : s.tw.armed = some a) :
    ∃ t, exec (.twSafeReqDisarm p v) s = .next t ∧ t.tw.armed = none ∧
      t.tw.sport = s.tw.sport ||| 8 ∧ t.tw.nDisarm = sat32u (s.tw.nDisarm + 1) ∧ t.mode = s.mode := by
  have armed : (s.atP p.val).tw.armed ≠ none := fun h => absurd (ha.symm.trans h) nofun
  have commit : (s.atP p.val).twCommit v = (s.atP p.val).twDisarm true := by
    unfold State.twCommit
    extract_lets u
    rw [if_neg h1, if_neg h2]
    by_cases hl : (s.atP p.val).twLapsed = true
    · have e : u = (s.atP p.val).twDisarm true := if_pos hl
      rw [e, State.twDisarm_armed armed]
      rfl
    · exact congrArg (State.twDisarm · true) (if_neg hl)
  refine ⟨_, rfl, ?_⟩
  rw [commit, State.twDisarm_armed armed, State.twMarkhor_mode]
  generalize hu : State.twMarkhor _ = u
  obtain ⟨b, shown⟩ := hu ▸ State.twMarkhor_tw _
  rw [shown]
  exact ⟨rfl, rfl, rfl, rfl⟩

theorem twArmTimeout_disarms (p : Pulse) (a : Nat) (s : State) (ha : s.tw.armed = some a)
    (hc : a + 100000 ≤ (s.atP p.val).clockUs) :
    ∃ t, exec (.twArmTimeout p) s = .next t ∧ t.tw.armed = none ∧ t.tw.sport = s.tw.sport ||| 8 ∧
      t.tw.nDisarm = sat32u (s.tw.nDisarm + 1) ∧ t.mode = s.mode := by
  have e : exec (.twArmTimeout p) s = ok ((s.atP p.val).twDisarm true).twMarkhor := by
    show execTwArmTimeout p s = _
    simp only [execTwArmTimeout, State.atP_tw, ha, if_pos hc]
  refine ⟨_, e, ?_⟩
  rw [State.twDisarm_armed (s := s.atP p.val) (fun h => absurd (ha.symm.trans h) nofun),
    State.twMarkhor_mode]
  generalize hu : State.twMarkhor _ = u
  obtain ⟨b, shown⟩ := hu ▸ State.twMarkhor_tw _
  rw [shown]
  exact ⟨rfl, rfl, rfl, rfl⟩

/-! ### The faults of the two-wire bus (R477, R478) -/

theorem twStretchTimeout_ends (p : Pulse) (s : State) :
    ∃ t, exec (.twStretchTimeout p) s = .next t ∧ t.tw.tx = .idle ∧ t.tw.muted = true ∧
      t.tw.sport = s.tw.sport ||| 1 ∧ t.tw.nStretch = sat32u (s.tw.nStretch + 1) ∧ t.tw.ptr1 = s.tw.ptr1 ∧
      t.tw.ptr2 = s.tw.ptr2 := by
  have tw : ((s.atP p.val).twFault (decide (s.tw.stretchSec + 1 = 1)) 1 (s.tw.stretchSec + 1)).tw = s.tw :=
    (State.twFault_frame ..).tw_eq (by decide)
  exact ⟨_, rfl, rfl, rfl, congrArg (fun x : TwSt => x.sport ||| 1) tw,
    congrArg (fun x : TwSt => sat32u (x.nStretch + 1)) tw, (congrArg TwSt.ptr1 tw :), (congrArg TwSt.ptr2 tw :)⟩

/-- Disarming without a mark keeps the port's flags and counts. -/
theorem State.twDisarm_quiet (s : State) : ∃ n, (s.twDisarm false).tw = { s.tw with armed := none, nDisarm := n } := by
  unfold State.twDisarm
  split
  · exact ⟨_, rfl⟩
  · next h => exact ⟨s.tw.nDisarm, by rw [← Option.not_isSome_iff_eq_none.mp h]⟩

theorem twStuckBus_ends (p : Pulse) (sda : Bool) (s : State) :
    ∃ t, exec (.twStuckBus p sda) s = .next t ∧ t.tw.tx = .idle ∧ t.tw.ptr1 = 0 ∧ t.tw.ptr2 = 0 ∧
      t.tw.armed = none ∧ t.tw.sport = s.tw.sport ||| 2 ∧ t.tw.nStuck = sat32u (s.tw.nStuck + 1) ∧
      t.tw.lastStuck = some s.now := by
  refine ⟨_, rfl, ?_⟩
  generalize hf : State.twFault _ _ _ _ = u
  have tw : u.tw = s.tw := hf ▸ (State.twFault_frame ..).tw_eq (by decide)
  have time : (u.twDisarm false).time = (s.atP p.val).time :=
    ((State.twDisarm_frame u false).time_eq (by decide)).trans (hf ▸ (State.twFault_frame ..).time_eq (by decide))
  obtain ⟨n, quiet⟩ := State.twDisarm_quiet u
  rw [tw] at quiet
  exact ⟨rfl, rfl, rfl, (congrArg TwSt.armed quiet :), (congrArg (fun x : TwSt => x.sport ||| 2) quiet :),
    (congrArg (fun x : TwSt => sat32u (x.nStuck + 1)) quiet :), (congrArg (fun x : TimeSt => some x.frame) time :)⟩

/-- Settles O51: one lemma per row. -/
theorem twoWireRequestsComplete : Obligations.TwoWireRequestsComplete :=
  ⟨twSafeReqArm_arms, twSafeReqComplete_enters, twSafeReqComplete_counts, twSafeReqComplete_unarmed,
    twSafeReqDisarm_disarms, twArmTimeout_disarms, twStretchTimeout_ends, twStuckBus_ends⟩

end Sys2Proof.Machine
end

section
namespace Sys2Proof.Machine

/-! ### The loss of the supply (R583, R584) -/

/-- The part of the record of a loss that the openings keep. -/
def State.lossMarks (s : State) : Option (Bool × Bool × Bool) := s.psv.loss.map (fun l => (l.waitEnded, l.gasped, l.runs))

theorem State.lossRuns_psv (s : State) : s.lossRuns.psv =
    { s.psv with loss := s.psv.loss.map (fun l => { l with runs := true, judging := false }) } := by
  have kept : (s.abortConnects s.strings).psv = s.psv := (State.abortConnects_frame ..).psv_eq (by decide)
  unfold State.lossRuns State.modLoss
  rw [kept]

theorem inputLossDeclared_starts (p : Pulse) (s : State) (hl : s.psv.loss = none) (hp : s.psv.powered = true) :
    ∃ t, exec (.inputLossDeclared p) s = .next t ∧ t.psv.derate = true ∧ t.psv.state = .fullFunction ∧
      t.psv.lossFrame = s.now ∧
      t.psv.loss.map (fun l => (l.at_, l.runs)) =
        some ((s.atP p.val).clockUs, decide (s.pair.state ∉ [some PairState.active, some .standby, some .joining])) := by
  have begins : ¬((s.atP p.val).psv.loss.isSome = true ∨ (!(s.atP p.val).psv.powered) = true) :=
    not_or.mpr ⟨Option.not_isSome_iff_eq_none.mpr hl, by rw [show (s.atP p.val).psv.powered = true from hp]; nofun⟩
  by_cases alone : decide (s.pair.state ∉ [some PairState.active, some .standby, some .joining]) = true
  · refine next_neg rfl begins (next_pos rfl alone ⟨_, rfl, ?_⟩)
    rw [State.lossRuns_psv, (State.lossEvent_frame ..).psv_eq (by decide), alone]
    exact ⟨rfl, rfl, rfl, rfl⟩
  · refine next_neg rfl begins (next_neg rfl alone ⟨_, rfl, ?_⟩)
    rw [(State.lossEvent_frame ..).psv_eq (by decide), Bool.eq_false_iff.mpr alone]
    exact ⟨rfl, rfl, rfl, rfl⟩

/-- An opening step opens and trips each of its strings that conducts. -/
theorem State.lossStep_opens (s : State) (ks : List Nat) (b : Bool) (hn : ks.Nodup) :
    (∀ k ∈ ks, (s.str k).state = .closed ∨ (s.str k).state = .held →
      ((s.lossStep ks b).str k).state = .opened ∧ ((s.lossStep ks b).pst k).trip = true) ∧
    (s.lossStep ks b).lossMarks = s.lossMarks := by
  unfold State.lossStep
  split
  · next h => exact ⟨fun k hk => absurd (h ▸ hk) List.not_mem_nil, rfl⟩
  · extract_lets u
    obtain ⟨opened, marks⟩ := State.lossOpens_open ks hn s
    have told := fun m n => State.lossEvent_frame u 2 m n
    unfold State.str State.pst State.lossMarks
    rw [(told _ _).mode_eq (by decide), (told _ _).prot_eq (by decide), (told _ _).psv_eq (by decide)]
    exact ⟨opened, marks⟩

/-- The last-gasp record leaves the strings, and what the loss has done, as they are. -/
theorem State.lossGasp_strings (s : State) : (∀ k, s.lossGasp.str k = s.str k) ∧ (∀ k, s.lossGasp.pst k = s.pst k) ∧
    s.lossGasp.psv.loss.map (·.waitEnded) = s.psv.loss.map (·.waitEnded) := by
  obtain ⟨mode, prot, loss, -⟩ := State.lossGasp_keeps s
  refine ⟨fun k => by unfold State.str; rw [mode], fun k => by unfold State.pst; rw [prot], ?_⟩
  simpa only [Option.map_map, Function.comp_def] using congrArg (Option.map Prod.fst) loss

/-- After the wait, each closed string of low current is opened and tripped. -/
theorem State.lossOpenLow_opens (s : State) :
    (∀ k ∈ s.closedStrings, s.lowCurrent k (s.curOf k) = true → (s.lossOpenLow.str k).state = .opened ∧
      (s.lossOpenLow.pst k).trip = true) ∧
    s.lossOpenLow.psv.loss.map (·.waitEnded) = s.psv.loss.map (·.waitEnded) := by
  unfold State.lossOpenLow
  extract_lets low u
  obtain ⟨opened, marks⟩ := State.lossStep_opens s low false ((State.closedStrings_nodup s).filter _)
  have stepped : (∀ k ∈ s.closedStrings, s.lowCurrent k (s.curOf k) = true → (u.str k).state = .opened ∧
      (u.pst k).trip = true) ∧ u.psv.loss.map (·.waitEnded) = s.psv.loss.map (·.waitEnded) :=
    ⟨fun k hk hc => opened k (List.mem_filter.mpr ⟨hk, hc⟩) (State.closedStrings_conduct s k hk), by
      simpa only [State.lossMarks, Option.map_map, Function.comp_def] using congrArg (Option.map Prod.fst) marks⟩
  split
  · obtain ⟨str, pst, loss⟩ := State.lossGasp_strings u
    simp only [str, pst, loss]
    exact stepped
  · exact stepped

theorem inputLossWaitEnd_opens (p : Pulse) (l : LossSeq) (s : State) (hl : s.psv.loss = some l) (hr : l.runs = true)
    (hw : l.waitEnded = false) (hm : s.psv.lossWait ≤ (s.atP p.val).lossMs l) :
    ∃ t, exec (.inputLossWaitEnd p) s = .next t ∧ t.psv.loss.map (·.waitEnded) = some true ∧
      (∀ k ∈ s.closedStrings, s.lowCurrent k (s.curOf k) = true → (t.str k).state = .opened ∧
        (t.pst k).trip = true) := by
  generalize hu : (s.atP p.val).modLoss (fun x => { x with waitEnded := true }) = u
  have e : exec (.inputLossWaitEnd p) s =
      ok (if u.lossOpenLow.closedStrings = [] then u.lossOpenLow.lossGasp else u.lossOpenLow) := by
    show execInputLossWaitEnd p s = _
    simp only [execInputLossWaitEnd, State.atP_psv, hl, hr, hw, hm, hu, Bool.not_false, true_or, and_self, if_true]
  have marked : u.psv.loss.map (·.waitEnded) = some true := by
    rw [← hu]
    show Option.map _ (Option.map _ (s.atP p.val).psv.loss) = _
    rw [State.atP_psv, hl]
    rfl
  obtain ⟨opened, wait⟩ := State.lossOpenLow_opens u
  rw [← hu] at opened
  refine ⟨_, e, ?_⟩
  split
  · obtain ⟨str, pst, loss⟩ := State.lossGasp_strings u.lossOpenLow
    simp only [str, pst, loss]
    exact ⟨wait.trans marked, hu ▸ opened⟩
  · exact ⟨wait.trans marked, hu ▸ opened⟩

theorem inputLossFullPhaseEnd_gasps (p : Pulse) (l : LossSeq) (s : State) (hl : s.psv.loss = some l)
    (hr : l.runs = true) (hb : l.returned = false) (hs : s.psv.state = .fullFunction)
    (hm : 150 ≤ (s.atP p.val).lossMs l) :
    ∃ t, exec (.inputLossFullPhaseEnd p) s = .next t ∧ t.psv.state = .lastGasp ∧ t.jnl.queue = [] ∧
      t.psv.loss.map (·.gasped) = some true ∧
      (∀ k ∈ s.closedStrings, (t.str k).state = .opened ∧ (t.pst k).trip = true) := by
  obtain ⟨opened, marks⟩ := State.lossStep_opens (s.atP p.val) (s.atP p.val).closedStrings true
    (State.closedStrings_nodup _)
  generalize hu : (s.atP p.val).lossStep (s.atP p.val).closedStrings true = u at opened marks
  have e : exec (.inputLossFullPhaseEnd p) s = ok { u.lossGasp with psv.state := .lastGasp, jnl.queue := [] } := by
    show execInputLossFullPhaseEnd p s = _
    simp only [execInputLossFullPhaseEnd, State.atP_psv, hl, hr, hb, hs, hm, hu, and_self, if_true,
      Bool.false_eq_true, if_false]
  have lost : u.psv.loss.isSome = true := by
    simpa only [State.lossMarks, Option.isSome_map, State.atP_psv, hl, Option.isSome_some]
      using congrArg Option.isSome marks
  obtain ⟨str, pst, -⟩ := State.lossGasp_strings u
  obtain ⟨-, -, -, gasped⟩ := State.lossGasp_keeps u
  refine ⟨_, e, rfl, rfl, gasped lost, fun k hk => ?_⟩
  show (u.lossGasp.str k).state = .opened ∧ (u.lossGasp.pst k).trip = true
  rw [str, pst]
  exact opened k hk (State.closedStrings_conduct s k hk)

/-! ### The return of the supply (R586) -/

theorem inputReturned_cancels (p : Pulse) (v : Int) (l : LossSeq) (s : State) (hl : s.psv.loss = some l)
    (hw : l.waitEnded = false) (ho : l.opened = 0) (hd : s.psv.dropped = false)
    (hm : (s.atP p.val).lossMs l < s.psv.lossWait) :
    ∃ t, exec (.inputReturned p v) s = .next t ∧ t.psv.loss = none ∧ t.psv.state = .normal ∧ t.psv.vin = v ∧
      t.psv.cancelledAt = some s.now ∧ t.mode.holdupIgnore = s.now + 30000 ∧ t.mode.str = s.mode.str := by
  show ∃ t, execInputReturned p v s = .next t ∧ _
  unfold execInputReturned
  extract_lets _ _ s0
  have told := State.lossEvent_frame s0 3 (s0.lossMs l) 0
  rw [show s0.psv.loss = some l from hl]
  refine next_pos rfl ⟨hm, by rw [hw]; rfl, ho, by rw [show s0.psv.dropped = false from hd]; rfl⟩ ⟨_, rfl, rfl, rfl, ?_⟩
  exact ⟨(congrArg PsvSt.vin (told.psv_eq (by decide)) :), rfl, rfl,
    (congrArg ModeSt.str (told.mode_eq (by decide)) :)⟩

theorem inputReturned_waits (p : Pulse) (v : Int) (l : LossSeq) (s : State) (hl : s.psv.loss = some l)
    (ho : l.opened ≠ 0) (hs : s.psv.state ≠ .lastGasp) :
    ∃ t, exec (.inputReturned p v) s = .next t ∧ t.psv.loss = some { l with returned := true } ∧ t.mode = s.mode := by
  show ∃ t, execInputReturned p v s = .next t ∧ _
  unfold execInputReturned
  extract_lets _ _ s0
  rw [show s0.psv.loss = some l from hl]
  refine next_neg rfl (fun h => ho h.2.2.1) (next_neg rfl hs ⟨_, rfl, ?_, rfl⟩)
  exact congrArg (Option.map _) hl

theorem inputReturned_restarts (p : Pulse) (v : Int) (l : LossSeq) (s : State) (hl : s.psv.loss = some l)
    (ho : l.opened ≠ 0) (hs : s.psv.state = .lastGasp) :
    ∃ t, exec (.inputReturned p v) s = .next t ∧ t.mode.mode = .fill ∧ t.sys.resetCause = 0x02 ∧
      t.mode.restart = none ∧ t.prot.safeA = true ∧ t.prot.safeB = true := by
  show ∃ t, execInputReturned p v s = .next t ∧ _
  unfold execInputReturned
  extract_lets _ _ s0
  rw [show s0.psv.loss = some l from hl]
  exact next_neg rfl (fun h => ho h.2.2.1) (next_pos rfl hs ⟨_, rfl, rfl, rfl, rfl, rfl, rfl⟩)

/-- Settles O52: one lemma per row. -/
theorem supplyLossCommandsComplete : Obligations.SupplyLossCommandsComplete :=
  ⟨inputLossDeclared_starts, inputLossWaitEnd_opens, inputLossFullPhaseEnd_gasps, inputReturned_cancels,
    inputReturned_waits, inputReturned_restarts⟩

end Sys2Proof.Machine
end

section
namespace Sys2Proof.Machine

/-! ### Listed steps (R499, R515) -/

/-- A step is listed alike in a state and in another that differs from it in nothing of the pair, the module's
identity, the time, the mode and the supply. -/
theorem Frame.listStep_pair {W : List View} {s u : State} (h : Frame W s u)
    (hv : W.all (fun v => v ∉ [View.pair, .sys, .time, .mode, .psv]) = true) (id : Word) (k c i : Nat) :
    (u.listStep id k c i).pair = (s.listStep id k c i).pair := by
  have spared : ∀ v ∈ [View.pair, .sys, .time, .mode, .psv], v ∉ W := fun v hm hw =>
    of_decide_eq_true (List.all_eq_true.mp hv v hw) hm
  have pair := h.pair_eq (spared .pair (by decide))
  have sys := h.sys_eq (spared .sys (by decide))
  have time := h.time_eq (spared .time (by decide))
  have mode := h.mode_eq (spared .mode (by decide))
  have psv := h.psv_eq (spared .psv (by decide))
  have now : u.now = s.now := congrArg TimeSt.frame time
  have alone : u.assignsAlone = s.assignsAlone := by
    simp only [State.assignsAlone, State.aloneOnly, State.sendsPair, State.byAssignment, pair, mode, psv]
  unfold State.listStep State.itemIn
  rw [alone, sys, now]
  split
  · simp only [State.assign, State.adoptCommand, List.foldl, pair]
  · simp only [pair]

/-- A listed step is an input of the pair and changes nothing else. -/
theorem State.listStep_only (s : State) (id : Word) (k c i : Nat) :
    s.listStep id k c i = { s with pair := (s.listStep id k c i).pair } := by
  unfold State.listStep State.itemIn
  split
  · rfl
  · rfl

theorem State.listStep_cfg (s : State) (id : Word) (k c i : Nat) : (s.listStep id k c i).cfg = s.cfg := by
  rw [State.listStep_only]

theorem State.listStep_upd (s : State) (id : Word) (k c i : Nat) : (s.listStep id k c i).upd = s.upd := by
  rw [State.listStep_only]

/-! ### A patch (R501, R502, R503) -/

theorem cfgPatch_accepted (id : Word) (e : LedgerEntry) (s : State) (h : Due s id 0x1201 e)
    (hc : (patchChecks (s.atP 0) e).pass = true) :
    ∃ t, exec (.cfgPatch id) s = .next t ∧ t.cmdStands id .accepted .ok ∧
      t.cfg.jobs = s.cfg.jobs ++ [{ cmd := id, at_ := s.now + 1, items := e.items, role := e.role }] ∧
      t.power.cfg = s.power.cfg ∧ t.thm.cfg = s.thm.cfg := by
  refine State.evaluate_next rfl h hc fun x w hf he hw hid => ?_
  have now : x.now = s.now := hf.frame_eq (by decide)
  have cfg : x.cfg = s.cfg := hf.cfg_eq (by decide)
  have power : x.power = s.power := hf.power_eq (by decide)
  have thm : x.thm = s.thm := hf.thm_eq (by decide)
  extract_lets j _
  rw [hid]
  refine ⟨State.cmdTo_after he hw (by rfl) (by decide) .ok 0 [], ?_⟩
  simp only [State.cmdTo_cfg, State.cmdTo_power, State.cmdTo_thm, j, now, cfg, power, thm, hid, and_self]

/-- Two states give every patchable word the same value. -/
structure WordsAlike (s t : State) : Prop where
  ports : t.power.cfg = s.power.cfg
  zones : t.thm.cfg = s.thm.cfg

theorem WordsAlike.cfgWord {s t : State} (h : WordsAlike s t) (type word : Nat) :
    t.cfgWord type word = s.cfgWord type word := by
  simp only [State.cfgWord, h.ports, h.zones]

theorem WordsAlike.applyItem {s t : State} (h : WordsAlike s t) (i : PatchItem) :
    WordsAlike (s.applyItem i) (t.applyItem i) := by
  have old := h.cfgWord i.type i.word
  unfold State.applyItem State.setCfgWord
  simp only [old]
  split
  · exact ⟨by simp only [h.ports], h.zones⟩
  · split
    · exact ⟨h.ports, by simp only [h.zones]⟩
    · exact ⟨h.ports, by simp only [h.zones]⟩

/-- The record of an applied entry changes no word. -/
theorem State.applyLogged_words (s : State) (e : LedgerEntry) (i : PatchItem) :
    WordsAlike (s.applyItem i) (s.applyLogged e i) := by
  unfold State.applyLogged
  extract_lets old new
  constructor
  · rw [(State.audit_frame ..).power_eq (by decide), State.ev_power]
  · rw [(State.audit_frame ..).thm_eq (by decide), State.ev_thm]

theorem applyLogged_words_foldl {s t : State} (h : WordsAlike s t) (e : LedgerEntry) (is : List PatchItem) :
    WordsAlike (is.foldl State.applyItem s) (is.foldl (fun u i => u.applyLogged e i) t) := by
  induction is generalizing s t with
  | nil => exact h
  | cons i is ih =>
    have same := h.applyItem i
    have logged := State.applyLogged_words t e i
    exact ih ⟨logged.ports.trans same.ports, logged.zones.trans same.zones⟩

theorem cfgPatchApply_applies (id : Word) (j : PatchJob) (e : LedgerEntry) (s : State)
    (hj : s.cfg.jobs.find? (fun x => decide (x.cmd = id)) = some j) (he : s.entry id = some e)
    (hw : twf s.site.ledger = true) (ha : j.at_ = s.now) (hn : j.applied = false) :
    ∃ t, exec (.cfgPatchApply id) s = .next t ∧ t.cmdStands id .started .ok ∧
      (∀ type word, t.cfgWord type word = (j.items.foldl State.applyItem s).cfgWord type word) ∧
      ∀ x ∈ t.cfg.jobs, x.cmd = id → x.applied = true := by
  show ∃ t, execCfgPatchApply id s = .next t ∧ _
  unfold execCfgPatchApply
  rw [hj, he]
  refine next_pos rfl ⟨ha, by rw [hn]; rfl⟩ ⟨_, rfl, ?_, ?_, ?_⟩
  · have kept : Frame [.thm, .power, .cfg, .jnl, .policies] ((s.atP 0).cmdTo id .started .ok 1 [])
        (j.items.foldl (fun u i => u.applyLogged { e with state := .started } i)
          ((s.atP 0).cmdTo id .started .ok 1 [])) :=
      .foldl (.refl _ _) fun _ _ h => .after (State.applyLogged_frame ..) h rfl
    exact State.cmdStands_of_frame kept (by decide) (State.cmdTo_after (u := s.atP 0) he hw rfl (by decide) .ok 1 [])
  · have begun : WordsAlike s ((s.atP 0).cmdTo id .started .ok 1 []) := ⟨by rw [State.cmdTo_power, State.atP_power],
      by rw [State.cmdTo_thm, State.atP_thm]⟩
    exact (applyLogged_words_foldl begun { e with state := .started } j.items).cfgWord
  · intro x hx hid
    obtain ⟨k, -, rfl⟩ := List.mem_map.mp hx
    by_cases hk : k.cmd = id
    · rw [if_pos hk]
    · rw [if_neg hk] at hid
      exact absurd hid hk

/-! ### What has been persisted (R503, R505) -/

/-- A change of a patch under way changes it alone, and every patch of its command ID with it. -/
theorem State.setPatch_jobs (s : State) (j : PatchJob) : ∀ x ∈ (s.setPatch j).cfg.jobs, x.cmd = j.cmd → x = j := by
  intro x hx hid
  obtain ⟨k, -, rfl⟩ := List.mem_map.mp hx
  by_cases hk : k.cmd = j.cmd
  · exact if_pos hk
  · rw [if_neg hk] at hid
    exact absurd hid hk

theorem State.setHalf_half (s : State) (k : Nat) (h : PatchHalf) : (s.setHalf k h).half k = h := by
  unfold State.setHalf State.half
  split <;> rfl

theorem State.persist_live {s : State} {j : PatchJob} {k : Nat} (hk : s.liveHalf = some k)
    (hi : (s.half k).imageSeq = s.cfg.seqLoaded) (hn : (s.half k).entries.length + j.items.length ≤ halfCapacity) :
    ((s.persist j).half k).entries = (s.half k).entries ++ numberEntries s.nextPSeq (j.items.map (fun i =>
      { type := i.type, word := i.word, mask := i.mask, value := i.value, frame := j.at_, role := j.role,
        cmd := j.cmd })) ∧ (s.persist j).cfg.jobs = s.cfg.jobs := by
  unfold State.persist
  rw [hk]
  dsimp only
  rw [if_neg (not_or.mpr ⟨not_not_intro hi, by omega⟩), State.setHalf_half]
  refine ⟨rfl, ?_⟩
  unfold State.setHalf
  split <;> rfl

theorem cfgPatchPersisted_appends (id : Word) (j : PatchJob) (k : Nat) (flash : Verdict) (s : State)
    (hj : s.cfg.jobs.find? (fun x => decide (x.cmd = id)) = some j) (ha : j.applied = true) (ho : j.own = false)
    (hf : flash ≠ .fail) (hk : s.liveHalf = some k) (hi : (s.half k).imageSeq = s.cfg.seqLoaded)
    (hn : (s.half k).entries.length + j.items.length ≤ halfCapacity) :
    ∃ t, exec (.cfgPatchPersisted id flash) s = .next t ∧
      (t.half k).entries = (s.half k).entries ++ numberEntries s.nextPSeq (j.items.map (fun i =>
        { type := i.type, word := i.word, mask := i.mask, value := i.value, frame := j.at_, role := j.role,
          cmd := j.cmd })) ∧
      (∀ x ∈ t.cfg.jobs, x.cmd = id → x.own = true) ∧ t.pair.items = (s.listStep id 2 0 0).pair.items ∧
      t.pair.assigned = (s.listStep id 2 0 0).pair.assigned := by
  show ∃ t, execCfgPatchPersisted id flash s = .next t ∧ _
  unfold execCfgPatchPersisted
  rw [hj]
  refine next_neg rfl (by simp [ha, ho]) (next_neg rfl hf ⟨_, rfl, ?_⟩)
  have kept : Frame [.cfg, .slots] s ((s.setPatch { j with own := true }).persist j) :=
    .after (State.persist_frame ..) (.after (State.setPatch_frame ..) (.refl _ _) rfl) rfl
  have id_ : j.cmd = id := by simpa using List.find?_some hj
  obtain ⟨entries, jobs⟩ := State.persist_live (s := s.setPatch { j with own := true }) (j := j) hk hi hn
  rw [kept.listStep_pair (by decide), State.listStep_only]
  have own := State.setPatch_jobs s { j with own := true }
  rw [← jobs] at own
  exact ⟨entries, fun x hx hid => congrArg PatchJob.own (own x hx (hid.trans id_.symm)), rfl, rfl⟩

theorem cfgPatchPersisted_fails (id : Word) (j : PatchJob) (s : State)
    (hj : s.cfg.jobs.find? (fun x => decide (x.cmd = id)) = some j) (ha : j.applied = true) (ho : j.own = false) :
    ∃ t, exec (.cfgPatchPersisted id .fail) s = .next t ∧
      t.cfg.persistFail = true ∧ t.cfg.half0 = s.cfg.half0 ∧ t.cfg.half1 = s.cfg.half1 ∧
      t.pair.items = (s.listStep id 2 1 0).pair.items ∧ t.pair.assigned = (s.listStep id 2 1 0).pair.assigned := by
  show ∃ t, execCfgPatchPersisted id .fail s = .next t ∧ _
  unfold execCfgPatchPersisted
  rw [hj]
  refine next_neg rfl (by simp [ha, ho]) (next_pos rfl rfl ⟨_, rfl, ?_⟩)
  generalize hu : State.ev _ _ _ = u
  have kept : Frame [.cfg, .jnl] s u := hu ▸ .after (State.ev_frame ..) (.upd (.refl _ _) rfl) rfl
  have cfg : u.cfg = { (s.setPatch { j with own := true }).cfg with persistFail := true } := by rw [← hu, State.ev_cfg]
  rw [kept.listStep_pair (by decide), State.listStep_only, cfg]
  exact ⟨rfl, rfl, rfl, rfl, rfl⟩

theorem State.dropPatch_jobs (s : State) (id : Word) : ∀ x ∈ (s.dropPatch id).cfg.jobs, x.cmd ≠ id := fun _ hx =>
  of_decide_eq_true (List.mem_filter.mp hx).2

theorem patchTake_ends (id : Word) (j : PatchJob) (e : LedgerEntry) (slot : Slot) (s : State)
    (he : s.entry id = some e) (hw : twf s.site.ledger = true) (hj : j.cmd = id) :
    (s.patchTake j slot 1).cmdStands id .failed .failedFault ∧
    (∀ x ∈ (s.patchTake j slot 1).cfg.jobs, x.cmd ≠ id) ∧
    (s.inPair = false → (s.patchTake j s.sys.slot 0).cmdStands id .done .ok ∧
      ∀ x ∈ (s.patchTake j s.sys.slot 0).cfg.jobs, x.cmd ≠ id) := by
  subst hj
  have fails : s.patchTake j slot 1 = (s.cmdFail j.cmd .failedFault 2 []).dropPatch j.cmd := if_pos (by decide)
  rw [fails]
  refine ⟨State.cmdTo_after he hw rfl (by decide) _ 2 [], State.dropPatch_jobs _ _, fun alone => ?_⟩
  have ends : s.patchTake j s.sys.slot 0 = (s.cmdTo j.cmd .done .ok 2 []).dropPatch j.cmd := by
    unfold State.patchTake State.pairDone
    rw [if_neg (by decide), alone]
    cases s.sys.slot <;> rfl
  rw [ends]
  exact ⟨State.cmdTo_after he hw rfl (by decide) _ 2 [], State.dropPatch_jobs _ _⟩

/-! ### Staging begins, and the calibration block (R497, R508) -/

theorem cfgImageStage_accepted (id : Word) (e : LedgerEntry) (s : State) (h : Due s id 0x1202 e)
    (hc : (stageChecks (s.atP 0) e).pass = true) :
    ∃ t, exec (.cfgImageStage id) s = .next t ∧ t.cmdStands id .accepted .ok ∧
      t.cfg.stage = some { cmd := id, target := s.targetSlot, length := rdU e.body 0 4, pages := e.pages,
                           oldDigest := imageDigest (s.slotImage s.targetSlot) } ∧
      t.cfg.slot0 = s.cfg.slot0 ∧ t.cfg.slot1 = s.cfg.slot1 := by
  refine State.evaluate_next rfl h hc fun x w hf he hw hid => ?_
  have cfg : x.cfg = s.cfg := hf.cfg_eq (by decide)
  have target : x.targetSlot = s.targetSlot := by unfold State.targetSlot; rw [cfg]
  have image : x.slotImage s.targetSlot = s.slotImage s.targetSlot := by unfold State.slotImage; rw [cfg]
  obtain ⟨k, hk, hke⟩ := State.entry_slot he
  obtain ⟨named, shown⟩ := slotOf_entry hw hk
  rw [hke] at named shown
  rw [hid]
  extract_lets q j
  generalize hu : State.mk .. = u
  have marked : u.site.ledger = tput x.site.ledger k
      { e with steps := 4, before := imageDigest (x.slotImage q) } := by
    rw [← hu]
    show tmodAll x.site.ledger (slotOf x.site.ledger id).toList _ = _
    rw [hk]
    simp only [Option.toList, tmodAll, List.foldl, tmod, hke]
  obtain ⟨entry, -⟩ := State.entry_tput (t := u) hw hk (by exact named) (by exact shown) marked
  refine ⟨State.cmdTo_after entry (marked ▸ twf_tput _ _ hw) rfl (by decide) .ok 0 [], ?_⟩
  have staged : u.cfg = { s.cfg with stage := some j } := by
    rw [← cfg, ← hu]
  rw [State.cmdTo_cfg, staged]
  simp only [j, q, target, image, and_self]

theorem cfgFactoryCal_writes (id : Word) (e : LedgerEntry) (s : State) (h : Due s id 0x1203 e)
    (hl : e.body.length = 512) (hb : rdU e.body 508 4 = (crc32c (slice e.body 0 508)).toNat) :
    ∃ t, exec (.cfgFactoryCal id .pass) s = .next t ∧ t.cmdStands id .done .ok ∧ t.psv.cal = e.body ∧
      t.psv.calUsed = s.psv.calUsed := by
  refine State.evaluate_next rfl h (by simp [Checks.pass, hl, hb]) fun x w hf he hw hid => ?_
  have psv : x.psv = s.psv := hf.psv_eq (by decide)
  rw [hid, if_pos rfl]
  exact ⟨State.cmdTo_after he hw (by rfl) (by decide) .ok 2 [], by rw [State.cmdTo_psv], by rw [State.cmdTo_psv, psv]⟩

theorem cfgFactoryCal_fails (id : Word) (e : LedgerEntry) (s : State) (h : Due s id 0x1203 e)
    (hl : e.body.length = 512) (hb : rdU e.body 508 4 = (crc32c (slice e.body 0 508)).toNat) :
    ∃ t, exec (.cfgFactoryCal id .fail) s = .next t ∧ t.cmdStands id .failed .failedFault := by
  refine State.evaluate_next rfl h (by simp [Checks.pass, hl, hb]) fun x w hf he hw hid => ?_
  rw [hid, if_neg nofun]
  exact State.cmdTo_after he hw (by rfl) (by decide) .failedFault 2 []

/-! ### The words of a patch (R501) -/

theorem PortCfg.words_setWord (c : PortCfg) {w : Nat} (hw : w < 4) (v : Word) : (c.setWord w v).words.getD w 0 = v := by
  match w, hw with
  | 0, _ => exact BitVec.eq_of_toNat_eq (by simp [PortCfg.setWord, PortCfg.words])
  | 1, _ => exact BitVec.ofInt_toInt
  | 2, _ => exact BitVec.eq_of_toNat_eq (by simp [PortCfg.setWord, PortCfg.words])
  | 3, _ => exact BitVec.eq_of_toNat_eq (by simp [PortCfg.setWord, PortCfg.words])

/-- A 16-bit number read as signed and written again is itself. -/
theorem signedOf_mod {n : Nat} (h : n < 65536) : (signedOf 2 n % 65536).toNat = n := by
  unfold signedOf
  split <;> omega

theorem upFrom_getD {α : Type} (f : Nat → α) (d : α) (a n k : Nat) (h : k < n) :
    ((upFrom a n).map f).getD k d = f (a + k) := by
  induction n generalizing a k with
  | zero => cases h
  | succ n ih =>
    cases k with
    | zero => rfl
    | succ k =>
      refine (ih (a + 1) k (by omega)).trans ?_
      rw [show a + 1 + k = a + (k + 1) by omega]

theorem ThmCfg.zoneWord_setZone (c : ThmCfg) {k : Nat} (hk : k < 16) (v : Word) : (c.setZone k v).zoneWord k = v := by
  have zone : (c.setZone k v).zone k =
      (bitsOf v.toNat 24 8, bitsOf v.toNat 16 8, signedOf 2 (bitsOf v.toNat 0 16)) := by
    unfold ThmCfg.zone ThmCfg.setZone
    rw [upFrom_getD _ _ 0 16 k hk]
    exact if_pos (Nat.zero_add k)
  unfold ThmCfg.zoneWord
  rw [zone]
  dsimp only
  rw [signedOf_mod (n := bitsOf v.toNat 0 16) (Nat.mod_lt _ (by decide))]
  refine BitVec.eq_of_toNat_eq ?_
  simp only [BitVec.toNat_ofNat, bitsOf]
  omega

theorem ThmCfg.aiWord_setAi (c : ThmCfg) (v : Word) : (c.setAi v).aiWord = v := by
  have lo := signedOf_mod (n := bitsOf v.toNat 16 16) (Nat.mod_lt _ (by decide))
  have hi := signedOf_mod (n := bitsOf v.toNat 0 16) (Nat.mod_lt _ (by decide))
  unfold ThmCfg.aiWord ThmCfg.setAi
  rw [lo, hi]
  refine BitVec.eq_of_toNat_eq ?_
  simp only [BitVec.toNat_ofNat, bitsOf]
  omega

/-- A patchable word holds what is written to it. -/
theorem State.cfgWord_setCfgWord (s : State) {i : PatchItem} (h : i.permitted = true) (v : Word) :
    (s.setCfgWord i.type i.word v).cfgWord i.type i.word = v := by
  unfold State.setCfgWord State.cfgWord
  by_cases port : i.type = 0x0A01
  · have column : i.word % 8 < 4 := by simp [PatchItem.permitted, port] at h; exact h.2
    simp only [port, if_true, tget_tmod_self]
    exact PortCfg.words_setWord _ column v
  by_cases zone : i.type = 0x0802
  · have row : i.word < 16 := by simp [PatchItem.permitted, zone] at h; exact h.1
    simp only [zone, if_true]
    exact ThmCfg.zoneWord_setZone _ row v
  · simp only [port, zone, if_false]
    exact ThmCfg.aiWord_setAi _ v

theorem applyItem_word (s : State) (i : PatchItem) (h : i.permitted = true) :
    (s.applyItem i).cfgWord i.type i.word = (s.cfgWord i.type i.word &&& ~~~i.mask) ||| (i.value &&& i.mask) :=
  State.cfgWord_setCfgWord s h _

/-- Settles O55: one lemma per row. -/
theorem imageCommandsComplete : Obligations.ImageCommandsComplete :=
  ⟨cfgPatch_accepted, cfgPatchApply_applies, cfgPatchPersisted_appends, cfgPatchPersisted_fails, patchTake_ends,
    cfgImageStage_accepted, cfgFactoryCal_writes, cfgFactoryCal_fails, applyItem_word⟩

end Sys2Proof.Machine
end

section
namespace Sys2Proof.Machine

/-! ### The work of a staging step on the slots (R497, R498) -/

theorem State.setOther_slots (s : State) (k r : Nat) (b : Bytes) :
    (s.setOther k r b).cfg.slot0 = s.cfg.slot0 ∧ (s.setOther k r b).cfg.slot1 = s.cfg.slot1 := by
  unfold State.setOther
  by_cases h : k = 0
  · simp only [h, if_true, and_self]
  · simp only [h, if_false, and_self]

theorem State.slotImage_congr {s t : State} (h : t.cfg.slot0 = s.cfg.slot0 ∧ t.cfg.slot1 = s.cfg.slot1) (k : Nat) :
    t.slotImage k = s.slotImage k := by
  unfold State.slotImage
  rw [h.1, h.2]

theorem State.listStep_slotImage (s : State) (id : Word) (k c i n : Nat) :
    (s.listStep id k c i).slotImage n = s.slotImage n := by
  unfold State.slotImage
  rw [State.listStep_cfg]

/-- A slot written holds what was written, and the other slot stands. -/
theorem State.setSlot_slots (s : State) (k : Nat) (b : Bytes) : (s.setSlot k b).slotImage k = b ∧
    (k = 0 → (s.setSlot k b).cfg.slot1 = s.cfg.slot1) ∧ (k ≠ 0 → (s.setSlot k b).cfg.slot0 = s.cfg.slot0) := by
  unfold State.setSlot State.slotImage
  by_cases h : k = 0
  · simp only [h, if_true, forall_const, ne_eq, not_true_eq_false, false_implies, and_self]
  · simp only [h, if_false, false_implies, ne_eq, not_false_eq_true, forall_const, and_self]

/-- What a step's work leaves in the two slots (Table 17-7). -/
structure StageWorked (s u : State) (j : StageJob) (k : Nat) : Prop where
  judged : k = 1 → u.cfg.slot0 = s.cfg.slot0 ∧ u.cfg.slot1 = s.cfg.slot1
  erased : k = 2 → u.slotImage j.target = []
  written : k = 3 → u.slotImage j.target = s.stageImage j
  ended : k = 4 → u.cfg.staged = true ∧ u.cfg.slot0 = s.cfg.slot0 ∧ u.cfg.slot1 = s.cfg.slot1
  other0 : j.target = 0 → u.cfg.slot1 = s.cfg.slot1
  other1 : j.target ≠ 0 → u.cfg.slot0 = s.cfg.slot0

theorem State.stageWork_worked (s : State) (j : StageJob) {k : Nat} (h1 : 1 ≤ k) (h4 : k ≤ 4) :
    StageWorked s (s.stageWork j k) j k := by
  match k, h1, h4 with
  | 1, _, _ =>
    have work : (s.stageWork j 1).cfg = s.cfg := (State.evStage_frame ..).cfg_eq (by decide)
    refine ⟨fun _ => ?_, nofun, nofun, nofun, fun _ => ?_, fun _ => ?_⟩ <;> rw [work]
    exact ⟨rfl, rfl⟩
  | 2, _, _ =>
    have work : s.stageWork j 2 = (s.setSlot j.target []).setOther j.target 1 [] := rfl
    have kept := State.setOther_slots (s.setSlot j.target []) j.target 1 []
    obtain ⟨image, other0, other1⟩ := State.setSlot_slots s j.target []
    rw [work]
    exact ⟨nofun, fun _ => (State.slotImage_congr kept _).trans image, nofun, nofun,
      fun h => kept.2.trans (other0 h), fun h => kept.1.trans (other1 h)⟩
  | 3, _, _ =>
    have work : s.stageWork j 3 = s.setSlot j.target (s.stageImage j) := rfl
    obtain ⟨image, other0, other1⟩ := State.setSlot_slots s j.target (s.stageImage j)
    rw [work]
    exact ⟨nofun, nofun, fun _ => image, nofun, other0, other1⟩
  | 4, _, _ =>
    have work : (s.stageWork j 4).cfg = { (s.setOther j.target 0 (s.stageImage j)).cfg with staged := true } :=
      congrArg (fun c : CfgSt => { c with staged := true }) ((State.evStage_frame ..).cfg_eq (by decide))
    obtain ⟨kept0, kept1⟩ := State.setOther_slots s j.target 0 (s.stageImage j)
    refine ⟨nofun, nofun, nofun, fun _ => ?_, fun _ => ?_, fun _ => ?_⟩
    · rw [work]
      exact ⟨rfl, kept0, kept1⟩
    · rw [work]
      exact kept1
    · rw [work]
      exact kept0

/-! ### The steps listed (R499) -/

/-- The check a step makes: step 1 judges the image. -/
def State.stageCode (s : State) (j : StageJob) (k : Nat) (chain cred : Verdict) : Nat :=
  if k = 1 then s.stageCheck j chain (requiredOk cred) else 0

section
variable {id : Word} {j : StageJob} {k : Nat} {st : Status} {chain cred : Verdict} {s : State}

/-- The module's next step of the staging under way. -/
structure StageNext (s : State) (id : Word) (j : StageJob) (k : Nat) : Prop where
  stage : s.cfg.stage = some j
  cmd : j.cmd = id
  going : j.failed = false
  next : j.own + 1 = k
  last : k ≤ 4

theorem StageNext.notIdle (h : StageNext s id j k) : ¬(j.cmd ≠ id ∨ j.failed = true ∨ j.own + 1 ≠ k ∨ 4 < k) := by
  have last := h.last
  simp [h.cmd, h.going, h.next]
  omega

theorem StageNext.works (h : StageNext s id j k) (hc : s.stageCode j k chain cred = 0) :
    s.stageStep id k .ok chain (requiredOk cred) =
      ({ s.stageWork j k with cfg.stage := some { j with own := k } }).listStep id k 0 0 := by
  unfold State.stageStep
  rw [h.stage]
  dsimp only
  rw [if_neg h.notIdle]
  exact if_neg (not_or.mpr ⟨not_not_intro hc, not_not_intro rfl⟩)

theorem StageNext.fails (h : StageNext s id j k) (hc : s.stageCode j k chain cred ≠ 0 ∨ st ≠ .ok) :
    s.stageStep id k st chain (requiredOk cred) =
      { s.evStage 3 j k with cfg.stage := some { j with failed := true } }.listStep id k
        (if s.stageCode j k chain cred = 0 ∧ st = Status.failedTimeout ∧ k ≠ 1 then 2 else 1)
        (s.stageCode j k chain cred) := by
  unfold State.stageStep
  rw [h.stage]
  dsimp only
  rw [if_neg h.notIdle]
  exact if_pos hc

/-- A step that fails is listed so, and both slots stand. -/
theorem StageNext.failed (h : StageNext s id j k) (hc : s.stageCode j k chain cred ≠ 0 ∨ st ≠ .ok) {l : Nat}
    (hl : l = if s.stageCode j k chain cred = 0 ∧ st = Status.failedTimeout ∧ k ≠ 1 then 2 else 1) :
    ∃ t, exec (.cfgStageStepDone id k st chain cred) s = .next t ∧ t.cfg.stage = some { j with failed := true } ∧
      t.cfg.slot0 = s.cfg.slot0 ∧ t.cfg.slot1 = s.cfg.slot1 ∧
      t.pair = (s.listStep id k l (s.stageCode j k chain cred)).pair := by
  subst hl
  have cfg : (s.evStage 3 j k).cfg = s.cfg := (State.evStage_frame ..).cfg_eq (by decide)
  have kept : Frame [.cfg, .jnl] s { s.evStage 3 j k with cfg.stage := some { j with failed := true } } :=
    .upd (.after (State.evStage_frame ..) (.refl _ _) rfl) rfl
  refine ⟨_, congrArg ok (h.fails hc), ?_⟩
  rw [kept.listStep_pair (by decide), State.listStep_cfg]
  exact ⟨rfl, (congrArg CfgSt.slot0 cfg :), (congrArg CfgSt.slot1 cfg :), rfl⟩

end

theorem cfgStageStepDone_works (id : Word) (j : StageJob) (k : Nat) (chain cred : Verdict) (s : State)
    (hs : s.cfg.stage = some j) (hj : j.cmd = id) (hf : j.failed = false) (ho : j.own + 1 = k) (hk : k ≤ 4)
    (hc : k = 1 → s.stageCheck j chain (requiredOk cred) = 0) :
    ∃ t, exec (.cfgStageStepDone id k .ok chain cred) s = .next t ∧ t.cfg.stage = some { j with own := k } ∧
      (k = 1 → t.cfg.slot0 = s.cfg.slot0 ∧ t.cfg.slot1 = s.cfg.slot1) ∧
      (k = 2 → t.slotImage j.target = []) ∧
      (k = 3 → t.slotImage j.target = s.stageImage j) ∧
      (k = 4 → t.cfg.staged = true ∧ t.cfg.slot0 = s.cfg.slot0 ∧ t.cfg.slot1 = s.cfg.slot1) ∧
      (j.target = 0 → t.cfg.slot1 = s.cfg.slot1) ∧ (j.target ≠ 0 → t.cfg.slot0 = s.cfg.slot0) ∧
      t.pair.items = (s.listStep id k 0 0).pair.items ∧ t.pair.assigned = (s.listStep id k 0 0).pair.assigned := by
  have next : StageNext s id j k := ⟨hs, hj, hf, ho, hk⟩
  have good : s.stageCode j k chain cred = 0 := ite_eq_right_iff.mpr hc
  have kept : Frame [.cfg, .jnl, .slots] s { s.stageWork j k with cfg.stage := some { j with own := k } } :=
    .upd (.after (State.stageWork_frame ..) (.refl _ _) rfl) rfl
  obtain ⟨judged, erased, written, ended, other0, other1⟩ := State.stageWork_worked s j (k := k) (by omega) hk
  refine ⟨_, congrArg ok (next.works good), ?_⟩
  rw [kept.listStep_pair (by decide), State.listStep_slotImage, State.listStep_cfg]
  exact ⟨rfl, judged, erased, written, ended, other0, other1, rfl, rfl⟩

theorem cfgStageStepDone_checks (id : Word) (j : StageJob) (st : Status) (chain cred : Verdict) (s : State)
    (hs : s.cfg.stage = some j) (hj : j.cmd = id) (hf : j.failed = false) (ho : j.own = 0)
    (hc : s.stageCheck j chain (requiredOk cred) ≠ 0) :
    ∃ t, exec (.cfgStageStepDone id 1 st chain cred) s = .next t ∧ t.cfg.stage = some { j with failed := true } ∧
      t.cfg.slot0 = s.cfg.slot0 ∧ t.cfg.slot1 = s.cfg.slot1 ∧
      t.pair.items = (s.listStep id 1 1 (s.stageCheck j chain (requiredOk cred))).pair.items ∧
      t.pair.assigned = (s.listStep id 1 1 (s.stageCheck j chain (requiredOk cred))).pair.assigned := by
  have next : StageNext s id j 1 := ⟨hs, hj, hf, by rw [ho], by decide⟩
  obtain ⟨t, run, stage, slot0, slot1, listed⟩ := next.failed (st := st) (.inl hc) (l := 1)
    (if_neg fun h => hc h.1).symm
  exact ⟨t, run, stage, slot0, slot1, congrArg PairSt.items listed, congrArg PairSt.assigned listed⟩

theorem cfgStageStepDone_fails (id : Word) (j : StageJob) (k : Nat) (st : Status) (chain cred : Verdict) (s : State)
    (hs : s.cfg.stage = some j) (hj : j.cmd = id) (hf : j.failed = false) (ho : j.own + 1 = k) (hk : k ≤ 4)
    (h1 : k ≠ 1) (hst : st ≠ .ok) :
    ∃ t, exec (.cfgStageStepDone id k st chain cred) s = .next t ∧ t.cfg.stage = some { j with failed := true } ∧
      t.cfg.slot0 = s.cfg.slot0 ∧ t.cfg.slot1 = s.cfg.slot1 ∧
      t.pair.items = (s.listStep id k (if st = Status.failedTimeout then 2 else 1) 0).pair.items := by
  have next : StageNext s id j k := ⟨hs, hj, hf, ho, hk⟩
  have none : s.stageCode j k chain cred = 0 := if_neg h1
  obtain ⟨t, run, stage, slot0, slot1, listed⟩ := next.failed (chain := chain) (cred := cred) (.inr hst)
    (l := if st = Status.failedTimeout then 2 else 1)
    (by simp only [none, h1, ne_eq, not_false_eq_true, and_true, true_and])
  rw [none] at listed
  exact ⟨t, run, stage, slot0, slot1, congrArg PairSt.items listed⟩

/-! ### The outcome of a staging (R499) -/

theorem stageTake_fails (id : Word) (j : StageJob) (e : LedgerEntry) (slot : Slot) (k code info : Nat) (s : State)
    (he : s.entry id = some e) (hw : twf s.site.ledger = true) (hj : j.cmd = id) (hc : code ≠ 0) :
    (s.stageTake j slot k code info).cmdStands id .failed (if code = 2 then .failedTimeout else .failedFault) ∧
    (s.stageTake j slot k code info).cfg.stage = none ∧
    (s.stageTake j slot k code info).cfg.slot0 = s.cfg.slot0 ∧
    (s.stageTake j slot k code info).cfg.slot1 = s.cfg.slot1 := by
  subst hj
  have fails : s.stageTake j slot k code info =
      { s.cmdFail j.cmd (if code = 2 then Status.failedTimeout else Status.failedFault) k
          (if k = 1 then le 1 info else []) with cfg.stage := none } := if_pos hc
  have cfg := (State.cmdFail_frame s j.cmd (if code = 2 then Status.failedTimeout else Status.failedFault) k
    (if k = 1 then le 1 info else [])).cfg_eq (by decide)
  rw [fails]
  exact ⟨State.cmdTo_after he hw rfl (by decide) _ k _, rfl, (congrArg CfgSt.slot0 cfg :), (congrArg CfgSt.slot1 cfg :)⟩

theorem stageTake_ends (id : Word) (j : StageJob) (e : LedgerEntry) (s : State) (he : s.entry id = some e)
    (hw : twf s.site.ledger = true) (hj : j.cmd = id) (hp : s.inPair = false) (hd : s.pairDone j.doneA j.doneB < 4) :
    (s.stageTake j s.sys.slot 4 0 0).cmdStands id .done .ok ∧ (s.stageTake j s.sys.slot 4 0 0).cfg.stage = none := by
  subst hj
  have ends : ∃ q, s.stageTake j s.sys.slot 4 0 0 =
      { ({ s with cfg.stage := some q }).cmdTo j.cmd .done .ok 4 [] with cfg.stage := none } := by
    unfold State.stageTake
    simp only [State.pairDone, hp, Bool.false_eq_true, if_false, ne_eq, not_true_eq_false] at hd ⊢
    cases hs : s.sys.slot <;> simp only [hs] at hd ⊢ <;>
      exact ⟨_, (if_neg (by omega)).trans (if_pos (by omega))⟩
  obtain ⟨q, ends⟩ := ends
  rw [ends]
  exact ⟨State.cmdTo_after he hw (by rfl) (by decide) _ 4 [], rfl⟩

/-- Settles O56: one lemma per row. -/
theorem stagingStepsComplete : Obligations.StagingStepsComplete :=
  ⟨cfgStageStepDone_works, cfgStageStepDone_checks, cfgStageStepDone_fails, stageTake_fails, stageTake_ends⟩

end Sys2Proof.Machine
end

section
namespace Sys2Proof.Machine

/-! ### Update commands are accepted with their jobs (R515, R516, R518, R527) -/

/-- An accepted update command stands so, and its job is the last of those under way. -/
theorem State.acceptUpd_accepts {x s : State} {id : Word} {e e' : LedgerEntry} (hf : Frame [.site, .ledger] (s.atP 0) x)
    (he : x.entry id = some e') (hw : twf x.site.ledger = true) (hid : e.id = id) (op first count : Nat)
    (pages : List Nat) :
    (x.acceptUpd e op first count pages).cmdStands id .accepted .ok ∧
      ∃ j, (x.acceptUpd e op first count pages).upd.jobs = s.upd.jobs ++ [j] ∧ j.cmd = id ∧ j.op = op ∧
        j.first = first ∧ j.count = count ∧ j.pages = pages := by
  have upd : x.upd = s.upd := hf.upd_eq (by decide)
  unfold State.acceptUpd
  extract_lets j
  rw [hid]
  refine ⟨State.cmdTo_after he hw (by rfl) (by decide) .ok 0 [], j, ?_, hid, rfl, rfl, rfl, rfl⟩
  rw [State.cmdTo_upd, ← upd]

/-- `UPD_STAGE` of any op, due and with its checks passed, is accepted with its job. -/
theorem State.evalStage_accepts {id : Word} {e : LedgerEntry} {s : State} {Q : State → Prop}
    {o : Host.Outcome State Fault Refusal} (ho : o = ok (s.evalStage id)) (h : Due s id 0x1301 e)
    (hc : (updStageChecks (s.atP 0) e).pass = true)
    (hq : ∀ t : State, t.cmdStands id .accepted .ok → (∃ j, t.upd.jobs = s.upd.jobs ++ [j] ∧ j.cmd = id ∧
      j.op = rdU e.body 1 1 ∧ j.first = rdU e.body 2 2 ∧ j.count = rdU e.body 4 2 ∧ j.pages = e.pages) → Q t) :
    ∃ t, o = .next t ∧ Q t := by
  unfold State.evalStage at ho
  refine State.evaluate_next ho h hc fun x w hf he hw hid => ?_
  obtain ⟨stands, job⟩ := State.acceptUpd_accepts hf he hw hid (rdU e.body 1 1) (rdU e.body 2 2) (rdU e.body 4 2)
    e.pages
  exact hq _ stands job

theorem updStageManifest_accepted (id : Word) (e : LedgerEntry) (s : State) (h : Due s id 0x1301 e)
    (ho : rdU e.body 1 1 = 1) (hc : (updStageChecks (s.atP 0) e).pass = true) :
    ∃ t, exec (.updStageManifest id) s = .next t ∧ t.cmdStands id .accepted .ok ∧
      ∃ j, t.upd.jobs = s.upd.jobs ++ [j] ∧ j.cmd = id ∧ j.op = 1 ∧ j.pages = e.pages := by
  have run : exec (.updStageManifest id) s = ok (s.evalStage id) :=
    congrArg ok (if_neg (by rw [bodyOf_due h, ho]; decide))
  refine State.evalStage_accepts run h hc fun t stands ⟨j, jobs, cmd, op, _, _, pages⟩ => ?_
  exact ⟨stands, j, jobs, cmd, op.trans ho, pages⟩

theorem updStageBlocks_accepted (id : Word) (e : LedgerEntry) (s : State) (h : Due s id 0x1301 e)
    (ho : rdU e.body 1 1 = 2) (hc : (updStageChecks (s.atP 0) e).pass = true) :
    ∃ t, exec (.updStageBlocks id) s = .next t ∧ t.cmdStands id .accepted .ok ∧
      ∃ j, t.upd.jobs = s.upd.jobs ++ [j] ∧ j.cmd = id ∧ j.op = 2 ∧ j.first = rdU e.body 2 2 ∧
        j.count = rdU e.body 4 2 ∧ j.pages = e.pages := by
  have run : exec (.updStageBlocks id) s = ok (s.evalStage id) :=
    congrArg ok (if_pos (by rw [bodyOf_due h, ho]))
  refine State.evalStage_accepts run h hc fun t stands ⟨j, jobs, cmd, op, first, count, pages⟩ => ?_
  exact ⟨stands, j, jobs, cmd, op.trans ho, first, count, pages⟩

theorem updStageAbandon_accepted (id : Word) (e : LedgerEntry) (s : State) (h : Due s id 0x1301 e)
    (ho : rdU e.body 1 1 = 3) (hc : (updStageChecks (s.atP 0) e).pass = true) :
    ∃ t, exec (.updStageAbandon id) s = .next t ∧ t.cmdStands id .accepted .ok ∧
      ∃ j, t.upd.jobs = s.upd.jobs ++ [j] ∧ j.cmd = id ∧ j.op = 3 := by
  have run : exec (.updStageAbandon id) s = ok (s.evalStage id) :=
    congrArg ok (if_pos (by rw [bodyOf_due h, ho]))
  refine State.evalStage_accepts run h hc fun t stands ⟨j, jobs, cmd, op, _⟩ => ?_
  exact ⟨stands, j, jobs, cmd, op.trans ho⟩

theorem updActivate_accepted (id : Word) (e : LedgerEntry) (s : State) (h : Due s id 0x1302 e)
    (hc : (activateChecks (s.atP 0) e).pass = true) :
    ∃ t, exec (.updActivate id) s = .next t ∧ t.cmdStands id .accepted .ok ∧
      ∃ j, t.upd.jobs = s.upd.jobs ++ [j] ∧ j.cmd = id ∧ j.op = 4 := by
  refine State.evaluate_next rfl h hc fun x w hf he hw hid => ?_
  obtain ⟨stands, j, jobs, cmd, op, -⟩ := State.acceptUpd_accepts hf he hw hid 4 0 0 []
  exact ⟨stands, j, jobs, cmd, op⟩

theorem updConfirm_accepted (id : Word) (e : LedgerEntry) (s : State) (h : Due s id 0x1303 e)
    (hc : (confirmChecks (s.atP 0) e).pass = true) :
    ∃ t, exec (.updConfirm id) s = .next t ∧ t.cmdStands id .accepted .ok ∧
      ∃ j, t.upd.jobs = s.upd.jobs ++ [j] ∧ j.cmd = id ∧ j.op = 5 := by
  refine State.evaluate_next rfl h hc fun x w hf he hw hid => ?_
  obtain ⟨stands, j, jobs, cmd, op, -⟩ := State.acceptUpd_accepts hf he hw hid 5 0 0 []
  exact ⟨stands, j, jobs, cmd, op⟩

/-! ### The verdict of a verification, and the firmware of a front end (R517, R530) -/

/-- A verification that finds no bad block marks Velvet verified; one that finds one leaves the release as it is. -/
theorem State.verifyVelvet_vstate (s : State) (code block : Nat) :
    (s.verifyVelvet code block).upd.vstate = if code = 0 then .verified else s.upd.vstate := by
  unfold State.verifyVelvet
  split
  · rw [State.ev_upd]
    rfl
  · rw [State.ev_upd]

theorem updVerify_takes (code block : Nat) (s : State) (hd : s.upd.verifyDue = true) (ha : s.grz.admitted = true)
    (hv : s.upd.vstate = .downloading) (hc : s.upd.complete = true) :
    ∃ t, exec (.updVerify code block) s = .next t ∧ t.upd.verifyDue = false ∧
      t.upd.vstate = (if code = 0 then .verified else .downloading) :=
  next_pos rfl ⟨hd, ha, hv, hc⟩ ⟨_, rfl, rfl, hv ▸ State.verifyVelvet_vstate s code block⟩

theorem cfeFwUpdate_accepted (id : Word) (e : LedgerEntry) (s : State) (h : Due s id 0x0501 e)
    (hc : (cfeFwChecks (s.atP 0) e).pass = true) :
    ∃ t, exec (.cfeFwUpdate id) s = .next t ∧ t.cmdStands id .accepted .ok ∧
      t.upd.cfe = some { cmd := id, port := rdU e.body 0 1, bank := rdU e.body 1 1, length := rdU e.body 4 4,
                         version := BitVec.ofNat 32 (rdU e.body 8 4), pages := e.pages } := by
  refine State.evaluate_next rfl h hc fun x w hf he hw hid => ?_
  extract_lets port len j _ t1 txs t2
  have sent : t2.site = x.site ∧ t2.upd.cfe = some j := by
    unfold t2
    split <;> exact ⟨rfl, rfl⟩
  rw [hid, State.cmdTo_upd, sent.2]
  exact ⟨State.cmdTo_after he hw (congrArg SiteSt.ledger sent.1) (by decide) .ok 0 [], by simp only [j, port, len, hid]⟩

theorem cfeFwReturnTimeout_fails (port : PortIx) (j : CfeFwJob) (s : State) (hj : s.upd.cfe = some j)
    (hp : j.port = port.val) (hs : j.step = 3) (hd : j.done = 2) (hf : j.failed = none) (ht : j.from_ + 1000 ≤ s.now) :
    ∃ t, exec (.cfeFwReturnTimeout port) s = .next t ∧ t.upd.cfe = some { j with failed := some (0x0C, 0) } := by
  show ∃ t, execCfeFwReturnTimeout port s = .next t ∧ _
  unfold execCfeFwReturnTimeout
  rw [hj]
  refine next_pos rfl ⟨hp, hs, hd, ht⟩ ⟨_, rfl, ?_⟩
  unfold State.cfeFailed
  rw [hj]
  dsimp only
  rw [if_neg (by rw [hf]; nofun), State.listStep_upd]

/-- Settles O57: one lemma per row. -/
theorem updateCommandsComplete : Obligations.UpdateCommandsComplete :=
  ⟨updStageManifest_accepted, updStageBlocks_accepted, updStageAbandon_accepted, updActivate_accepted,
    updConfirm_accepted, updVerify_takes, cfeFwUpdate_accepted, cfeFwReturnTimeout_fails⟩

end Sys2Proof.Machine
end

section
namespace Sys2Proof.Machine

/-! ### The steps of an update listed (R515, R516) -/

section
variable {id : Word} {j : UpdJob} {k code block : Nat} {s : State}

/-- The module's next step of the update command `j`, where the command names it. -/
structure UpdNext (s : State) (id : Word) (j : UpdJob) (k : Nat) : Prop where
  job : s.upd.jobs.find? (fun x => decide (x.cmd = id)) = some j
  named : s.maskNames j.mask s.sys.slot = true
  going : j.failed = false
  next : j.own + 1 = k
  last : k ≤ j.ownTotal

theorem UpdNext.runs (h : UpdNext s id j k) : exec (.updStepDone id k code block) s = ok
    (if (s.updWork j k code block).1 = 0 then
      ((s.updWork j k code block).2.setUpd { j with own := k }).listStep id k 0 0
    else ((s.updWork j k code block).2.setUpd { j with failed := true }).listStep id k
      (s.updWork j k code block).1 block) := by
  show execUpdStepDone id k code block s = _
  unfold execUpdStepDone
  rw [h.job]
  refine congrArg ok (if_neg ?_)
  simp only [h.named, h.going, h.next, Bool.not_true, Bool.false_eq_true, ne_eq, not_true_eq_false, false_or,
    Nat.not_lt]
  exact h.last

/-- A step whose work is done is marked, and listed as a step of the state it began in. -/
theorem UpdNext.works (h : UpdNext s id j k) {u : State} (hw : s.updWork j k code block = (0, u)) :
    ∃ t, exec (.updStepDone id k code block) s = .next t ∧
      t.upd = { u.upd with jobs := u.upd.jobs.map (fun i => if i.cmd = j.cmd then { j with own := k } else i) } ∧
      t.pair = (s.listStep id k 0 0).pair := by
  have worked := State.updWork_frame s j k code block
  rw [hw] at worked
  have kept : Frame [.upd, .jnl, .banks, .rollback] s (u.setUpd { j with own := k }) :=
    .after (State.setUpd_frame ..) worked rfl
  refine ⟨_, h.runs, ?_⟩
  rw [hw, if_pos rfl, State.listStep_upd, kept.listStep_pair (by decide)]
  exact ⟨rfl, rfl⟩

/-- A step whose work fails is marked so, and listed with its code. -/
theorem UpdNext.fails (h : UpdNext s id j k) {n : Nat} (hw : s.updWork j k code block = (n, s)) (hn : n ≠ 0) :
    ∃ t, exec (.updStepDone id k code block) s = .next t ∧
      t.upd = { s.upd with jobs := s.upd.jobs.map (fun i => if i.cmd = j.cmd then { j with failed := true } else i) } ∧
      t.pair = (s.listStep id k n block).pair := by
  have kept : Frame [.upd] s (s.setUpd { j with failed := true }) := State.setUpd_frame ..
  refine ⟨_, h.runs, ?_⟩
  rw [hw, if_neg hn, State.listStep_upd, kept.listStep_pair (by decide)]
  exact ⟨rfl, rfl⟩

end

/-- A manifest that passes its checks opens a download into an empty Velvet (R516). -/
theorem State.workManifest_opens {s : State} {j : UpdJob} {m : Manifest} (hp : j.pages.all s.ownsInbound = true)
    (ht : s.upd.trial = false) (hb : parseManifest (s.pageBytes j.pages) = some m) (hr : s.upd.rollback ≤ m.secv)
    (hv : m.bootRom.toNat ≤ s.sys.bootRom.toNat) (hg : m.preong ≤ s.cfg.format) :
    ∃ u : State, s.workManifest j 0 = (0, u) ∧ u.upd =
      { s.upd with
        velvet := { manifest := some m, blocks := [] }, bitmap := 1, vstate := .downloading,
        manHash := sha384 (manifestBytes (s.pageBytes j.pages)), secv := m.secv, verV := m.runtime }.wrote := by
  have fits : ¬(s.sys.bootRom.toNat < m.bootRom.toNat ∨ s.cfg.format < m.preong) := by omega
  unfold State.workManifest
  dsimp only
  rw [hp, ht, hb]
  dsimp only
  rw [if_neg nofun, if_neg nofun, if_neg nofun, if_neg (Nat.not_lt.mpr hr), if_neg fits, if_neg (not_not_intro rfl)]
  exact ⟨_, rfl, State.ev_upd ..⟩

theorem updStepDone_manifest (id : Word) (j : UpdJob) (m : Manifest) (block : Nat) (s : State)
    (hj : s.upd.jobs.find? (fun x => decide (x.cmd = id)) = some j) (hm : s.maskNames j.mask s.sys.slot = true)
    (hop : j.op = 1) (hf : j.failed = false) (ho : j.own = 0) (hp : j.pages.all s.ownsInbound = true)
    (ht : s.upd.trial = false) (hb : parseManifest (s.pageBytes j.pages) = some m) (hr : s.upd.rollback ≤ m.secv)
    (hv : m.bootRom.toNat ≤ s.sys.bootRom.toNat) (hg : m.preong ≤ s.cfg.format) :
    ∃ t, exec (.updStepDone id 1 0 block) s = .next t ∧ t.upd.vstate = .downloading ∧
      t.upd.bitmap = 1 ∧ t.upd.velvet = { manifest := some m, blocks := [] } ∧ t.upd.secv = m.secv ∧
      t.upd.jobs = s.upd.jobs.map (fun i => if i.cmd = j.cmd then { j with own := 1 } else i) ∧
      t.pair.items = (s.listStep id 1 0 0).pair.items ∧ t.pair.assigned = (s.listStep id 1 0 0).pair.assigned := by
  have next : UpdNext s id j 1 := ⟨hj, hm, hf, by rw [ho], by simp [UpdJob.ownTotal, UpdJob.total, hop]⟩
  obtain ⟨u, opens, upd⟩ := State.workManifest_opens hp ht hb hr hv hg
  obtain ⟨t, run, work, listed⟩ := next.works (code := 0) (block := block) ((if_pos hop).trans opens)
  rw [upd] at work
  refine ⟨t, run, ?_⟩
  rw [work, listed]
  exact ⟨rfl, rfl, rfl, rfl, rfl, rfl, rfl⟩

/-- A block not yet held whose hash is the manifest's is stored and marked (R516). -/
theorem State.workBlock_stores {s : State} {j : UpdJob} {k : Nat} (hp : k = 1 → j.pages.all s.ownsInbound = true)
    (hv : s.upd.vstate = .downloading) (hb : j.first + k - 1 ≤ s.upd.velvet.imageBlocks)
    (hn : s.upd.bitmap.getLsbD (j.first + k - 1) = false)
    (hh : sha384 (s.blockBytes j (j.first + k - 1)) =
      (((s.upd.velvet.manifest.map (·.hashes)).getD [])[j.first + k - 1 - 1]?).getD []) :
    ∃ u : State, s.workBlock j k 0 = (0, u) ∧ u.upd =
      { s.upd with
        velvet.blocks := tput s.upd.velvet.blocks (j.first + k - 1) (s.blockBytes j (j.first + k - 1))
        bitmap := s.upd.bitmap ||| ((1 : BitVec 512) <<< (j.first + k - 1)) }.wrote := by
  have owned : ¬(k = 1 ∧ (!j.pages.all s.ownsInbound) = true) := fun ⟨h, g⟩ => absurd (hp h) (by simpa using g)
  unfold State.workBlock
  extract_lets b _ _ u
  rw [if_neg owned, if_neg (not_or.mpr ⟨not_not_intro hv, Nat.not_lt.mpr hb⟩),
    if_neg (show ¬s.upd.bitmap.getLsbD b = true by rw [hn]; nofun), if_neg (not_not_intro hh),
    if_neg (not_not_intro rfl)]
  split
  · exact ⟨_, rfl, State.ev_upd ..⟩
  · exact ⟨_, rfl, rfl⟩

theorem updStepDone_block (id : Word) (j : UpdJob) (k block : Nat) (s : State)
    (hj : s.upd.jobs.find? (fun x => decide (x.cmd = id)) = some j) (hm : s.maskNames j.mask s.sys.slot = true)
    (hop : j.op = 2) (hf : j.failed = false) (ho : j.own + 1 = k) (hk : k ≤ j.count)
    (hp : k = 1 → j.pages.all s.ownsInbound = true) (hv : s.upd.vstate = .downloading)
    (hb : j.first + k - 1 ≤ s.upd.velvet.imageBlocks) (hn : s.upd.bitmap.getLsbD (j.first + k - 1) = false)
    (hh : sha384 (s.blockBytes j (j.first + k - 1)) =
      (((s.upd.velvet.manifest.map (·.hashes)).getD [])[j.first + k - 1 - 1]?).getD []) :
    ∃ t, exec (.updStepDone id k 0 block) s = .next t ∧ t.upd.vstate = .downloading ∧
      t.upd.bitmap = (s.upd.bitmap ||| ((1 : BitVec 512) <<< (j.first + k - 1))) ∧
      tget t.upd.velvet.blocks (j.first + k - 1) = s.blockBytes j (j.first + k - 1) ∧
      (∀ b, b ≠ j.first + k - 1 → tget t.upd.velvet.blocks b = tget s.upd.velvet.blocks b) ∧
      t.pair.items = (s.listStep id k 0 0).pair.items ∧ t.pair.assigned = (s.listStep id k 0 0).pair.assigned := by
  have next : UpdNext s id j k := ⟨hj, hm, hf, ho, by simp [UpdJob.ownTotal, UpdJob.total, hop]; omega⟩
  obtain ⟨u, stores, upd⟩ := State.workBlock_stores hp hv hb hn hh
  have work : s.updWork j k 0 block = (0, u) :=
    (if_neg (by rw [hop]; decide)).trans ((if_pos hop).trans ((if_pos hk).trans stores))
  obtain ⟨t, run, work, listed⟩ := next.works work
  rw [upd] at work
  refine ⟨t, run, ?_⟩
  rw [work, listed]
  exact ⟨hv, rfl, tget_tput_self .., fun b hb => tget_tput_ne _ _ hb, rfl, rfl⟩

theorem updStepDone_pages (id : Word) (j : UpdJob) (code block : Nat) (s : State)
    (hj : s.upd.jobs.find? (fun x => decide (x.cmd = id)) = some j) (hm : s.maskNames j.mask s.sys.slot = true)
    (hop : j.op = 1) (hf : j.failed = false) (ho : j.own = 0) (hp : j.pages.all s.ownsInbound = false) :
    ∃ t, exec (.updStepDone id 1 code block) s = .next t ∧
      t.upd = { s.upd with jobs := s.upd.jobs.map (fun i => if i.cmd = j.cmd then { j with failed := true } else i) } ∧
      t.pair.items = (s.listStep id 1 1 block).pair.items ∧
      t.pair.assigned = (s.listStep id 1 1 block).pair.assigned := by
  have next : UpdNext s id j 1 := ⟨hj, hm, hf, by rw [ho], by simp [UpdJob.ownTotal, UpdJob.total, hop]⟩
  have work : s.updWork j 1 code block = (1, s) := (if_pos hop).trans (if_pos (by rw [hp]; rfl))
  obtain ⟨t, run, upd, listed⟩ := next.fails work (by decide)
  exact ⟨t, run, upd, congrArg PairSt.items listed, congrArg PairSt.assigned listed⟩

/-! ### The outcome of an update command, and the confirmation (R515, R526, R527) -/

theorem updTake_fails (id : Word) (j : UpdJob) (e : LedgerEntry) (slot : Slot) (k code info : Nat) (s : State)
    (hj : s.upd.jobs.find? (fun x => decide (x.cmd = id)) = some j) (hm : s.maskNames j.mask slot = true)
    (hc : code ≠ 0) (he : s.entry id = some e) (hw : twf s.site.ledger = true) :
    (s.updTake id slot k code info).cmdStands id .failed .failedFault ∧
    (s.updTake id slot k code info).upd.vstate = s.upd.vstate ∧
    (s.updTake id slot k code info).upd.velvet = s.upd.velvet ∧
    ∀ x ∈ (s.updTake id slot k code info).upd.jobs, x.cmd ≠ id := by
  have fails : s.updTake id slot k code info =
      (s.cmdFail id .failedFault k (updDetail slot code info)).dropUpd id := by
    unfold State.updTake
    rw [hj]
    exact (if_neg (by rw [hm]; nofun)).trans (if_neg hc)
  have upd : (s.cmdFail id .failedFault k (updDetail slot code info)).upd = s.upd := State.cmdTo_upd ..
  rw [fails]
  exact ⟨State.cmdTo_after he hw rfl (by decide) _ k _, (congrArg UpdSt.vstate upd :), (congrArg UpdSt.velvet upd :),
    fun x hx => of_decide_eq_true (List.mem_filter.mp hx).2⟩

theorem updCleanRunReached_confirms (otp : Verdict) (s : State) (ht : s.upd.trial = true)
    (hc : s.upd.confirmTime * 60000 ≤ s.upd.cleanRun) (ha : s.upd.autoConfirm = true) :
    ∃ t, exec (.updCleanRunReached otp) s = .next t ∧ t.upd.confirmed = s.upd.running ∧ t.upd.fallback = true ∧
      t.upd.trial = false ∧ t.upd.vstate = .idle ∧ t.upd.trials = 0 ∧ t.upd.set = s.upd.inUse ∧
      t.upd.rollback = (if s.upd.rollback < s.upd.secvOf s.upd.running ∧ otp = .pass then
        s.upd.secvOf s.upd.running else s.upd.rollback) := by
  refine next_pos rfl ⟨ht, decide_eq_true hc, ha⟩ ⟨_, rfl, ?_⟩
  unfold State.confirm
  extract_lets secv u u1
  rw [State.ev_upd]
  exact ⟨rfl, rfl, rfl, rfl, rfl, rfl, rfl⟩

/-- Settles O58: one lemma per row. -/
theorem updateStepsComplete : Obligations.UpdateStepsComplete :=
  ⟨updStepDone_manifest, updStepDone_block, updStepDone_pages, updTake_fails, updCleanRunReached_confirms⟩

end Sys2Proof.Machine
end

section
namespace Sys2Proof.Machine

/-! ### Scrubbing (R545, R546, R547) -/

theorem scrubBurst_moves (dram : Bool) (pos : Fin 1001) (errs : List MemErr) (s : State) (ha : s.grz.admitted = true)
    (hn : s.now % (if dram then 1000 else 100) = 0) :
    ∃ t, exec (.scrubBurst dram pos errs) s = .next t ∧
      (pos.val < 1000 → (t.memReg (if dram then .dram else .table)).pos = pos.val) ∧
      (pos.val = 1000 → (t.memReg (if dram then .dram else .table)).pos = 0 ∧
        (t.memReg (if dram then .dram else .table)).passFrom = s.now ∧
        (t.memReg (if dram then .dram else .table)).done = s.now) := by
  show ∃ t, execScrubBurst dram pos errs s = .next t ∧ _
  unfold execScrubBurst
  extract_lets r s1 q inTime s2
  rw [if_pos (by rw [ha, decide_eq_true hn]; rfl)]
  by_cases h : pos.val = 1000
  · rw [if_pos h]
    refine ⟨_, rfl, fun hl => absurd h (by omega), fun _ => ?_⟩
    rw [State.modMem_memReg]
    exact ⟨rfl, rfl, rfl⟩
  · rw [if_neg h]
    refine ⟨_, rfl, fun _ => ?_, fun hp => absurd hp h⟩
    rw [State.modMem_memReg]

theorem memReg_congr {s t : State} (h : t.mem = s.mem) (r : MemRegion) : t.memReg r = s.memReg r := by
  cases r <;> simp only [State.memReg, h]

/-- The log of corrected errors leaves the counters of the regions. -/
theorem State.logErr_memReg (s : State) (now : Nat) (r q : MemRegion) (a : Nat) (d : Option Nat) :
    State.memReg { s with mem := { s.mem.logErr now r a with dirty := d } } q = s.memReg q := by
  unfold MemSt.logErr
  dsimp only
  (repeat' split) <;> cases q <;> rfl

/-- A corrected word is counted in its region, and in nothing that counts Markhor's own corrections. -/
theorem State.corrected_counts (s : State) (r : MemRegion) (a : Nat) :
    ((s.corrected r false a).memReg r).corr = sat32u ((s.memReg r).corr + 1) ∧
      (s.corrected r false a).prot.corrected = s.prot.corrected := by
  unfold State.corrected
  extract_lets q n s1 s2 _ s3
  have shown : s1.mem = s.mem ∧ s1.prot = s.prot := ⟨State.evIf_mem .., State.evIf_prot ..⟩
  have counted : (s3.memReg r).corr = sat32u ((s.memReg r).corr + 1) ∧ s3.prot.corrected = s.prot.corrected := by
    have logged : s3.memReg r = s2.memReg r := State.logErr_memReg s2 _ r r a _
    have reg : s2.memReg r = _ := State.modMem_memReg s1 r _
    rw [logged, reg, memReg_congr shown.1]
    exact ⟨rfl, by rw [← shown.2]; cases r <;> rfl⟩
  split
  · rw [State.hardFault_memReg, State.hardFault_corrected]
    exact counted
  · exact counted

theorem markhorScrub_corrects (p : Pulse) (e : MemErr) (s : State)
    (h : e.kind .markhor = some .word ∨ e.kind .markhor = some .page) :
    ∃ t, exec (.markhorScrub p [e]) s = .next t ∧ t.mem.markhor.corr = sat32u (s.mem.markhor.corr + 1) ∧
      t.prot.corrected = s.prot.corrected + 1 := by
  have run : exec (.markhorScrub p [e]) s = ok
      (({ s.atP p.val with prot.corrected := s.prot.corrected + 1 }).corrected .markhor false e.block) := by
    show execMarkhorScrub p [e] s = _
    obtain h | h := h <;> simp only [execMarkhorScrub, List.foldl, h, State.atP_prot]
  obtain ⟨corr, count⟩ := State.corrected_counts { s.atP p.val with prot.corrected := s.prot.corrected + 1 }
    .markhor e.block
  exact ⟨_, run, corr, count⟩

theorem markhorScrub_uncorrectable (p : Pulse) (e : MemErr) (s : State) (h : e.kind .markhor = some .uncorrectable) :
    ∃ t, exec (.markhorScrub p [e]) s = .next t ∧ t.mem.markhor.uncorr = sat32u (s.mem.markhor.uncorr + 1) ∧
      t.mem.markhor.lastUncorr = some s.now := by
  generalize hu : (s.atP p.val).ev 0x1402 ([2, 9] ++ le 8 (64 * e.block)) = u
  have mem : u.mem = s.mem := by rw [← hu, State.ev_mem, State.atP_mem]
  have run : exec (.markhorScrub p [e]) s = ok (((u.modMem .markhor (fun x =>
      { x with uncorr := sat32u (x.uncorr + 1), lastUncorr := some s.now })).hardFault .markhor e.block).sf12 4
        e.block true) := by
    show execMarkhorScrub p [e] s = _
    simp only [execMarkhorScrub, List.foldl, h, hu]
    rfl
  refine ⟨_, run, ?_⟩
  rw [(State.sf12_frame ..).mem_eq (by decide)]
  have reg := State.hardFault_memReg (u.modMem .markhor (fun x =>
    { x with uncorr := sat32u (x.uncorr + 1), lastUncorr := some s.now })) .markhor .markhor e.block
  rw [State.modMem_memReg, memReg_congr mem] at reg
  exact ⟨congrArg MemReg.uncorr reg, congrArg MemReg.lastUncorr reg⟩

theorem memScrub_late (p : Pulse) (dram : Bool) (s : State)
    (hl : (s.memReg (if dram then .dram else .table)).late = false)
    (hp : (s.memReg (if dram then .dram else .table)).passFrom + 2 * s.scrubInterval (if dram then .dram else .table) ≤
      s.now) :
    ∃ t, exec (.memScrub p dram) s = .next t ∧
      t.memReg (if dram then .dram else .table) = { s.memReg (if dram then .dram else .table) with late := true } := by
  refine next_pos rfl ⟨?_, ?_⟩ ⟨_, rfl, ?_⟩
  · rw [memReg_congr (t := s.atP p.val) (State.atP_mem ..), hl]
    rfl
  · rw [memReg_congr (t := s.atP p.val) (State.atP_mem ..)]
    exact hp
  · rw [State.modMem_memReg, memReg_congr (State.ev_mem ..), memReg_congr (State.atP_mem ..)]

theorem healthRecordWrite_writes (p : Pulse) (s : State) (hd : s.mem.dirty ≠ none) :
    ∃ t, exec (.healthRecordWrite p) s = .next t ∧
      t.mem = { s.mem with
        dirty := none, healthGen := s.mem.healthGen + 1, health := (s.mem.remap, s.mem.remapMk, s.mem.errs) } :=
  next_pos rfl (Option.isSome_iff_ne_none.mpr hd) ⟨_, rfl, rfl⟩

/-! ### The wear record (R555, R556) -/

/-- A record goes to one mirror, and the other stands. -/
theorem State.mirrorWrite_mirrors (s : State) (w : WearRec) :
    (s.mirrorWrite w).jnl.mirror0 = some w ∧ (s.mirrorWrite w).jnl.mirror1 = s.jnl.mirror1 ∨
      (s.mirrorWrite w).jnl.mirror1 = some w ∧ (s.mirrorWrite w).jnl.mirror0 = s.jnl.mirror0 := by
  unfold State.mirrorWrite
  split
  · exact .inl ⟨rfl, rfl⟩
  · exact .inr ⟨rfl, rfl⟩

/-- What a carrier write leaves: the mirrors and the sequence stand, and with a good read-back one slot holds the record
and the other is erased. -/
structure CarrierWritten (s t : State) (w : WearRec) (v : Verdict) : Prop where
  mirror0 : t.jnl.mirror0 = s.jnl.mirror0
  mirror1 : t.jnl.mirror1 = s.jnl.mirror1
  retry : t.jnl.carrierRetry = decide (v ≠ .pass)
  slots : v = .pass → t.jnl.carrier0 = some w ∧ t.jnl.carrier1 = none ∨
    t.jnl.carrier1 = some w ∧ t.jnl.carrier0 = none

theorem State.carrierWrite_written (s : State) (w : WearRec) (v : Verdict) :
    CarrierWritten s (s.carrierWrite w v) w v := by
  unfold State.carrierWrite
  extract_lets first rec_ _ s1
  have mirrors : s1.jnl.mirror0 = s.jnl.mirror0 ∧ s1.jnl.mirror1 = s.jnl.mirror1 := by
    unfold s1
    split <;> exact ⟨rfl, rfl⟩
  have slots : v = .pass → s1.jnl.carrier0 = some w ∧ s1.jnl.carrier1 = none ∨
      s1.jnl.carrier1 = some w ∧ s1.jnl.carrier0 = none := by
    intro h
    unfold s1 rec_
    simp only [h, if_true]
    split
    · exact .inl ⟨rfl, rfl⟩
    · exact .inr ⟨rfl, rfl⟩
  by_cases h : v = .pass
  · rw [if_pos h]
    exact ⟨mirrors.1, mirrors.2, by simp [h], slots⟩
  · rw [if_neg h]
    exact ⟨(State.ev_jnl_mirror0 ..).trans mirrors.1, (State.ev_jnl_mirror1 ..).trans mirrors.2, by simp [h],
      fun hp => absurd hp h⟩

/-- Queuing a record to front ends changes of the journals the commits under way alone. -/
theorem State.wearToFe_jnl (s : State) (w : WearRec) (ports : List Nat) (tries : Nat) :
    (s.wearToFe w ports tries).jnl = { s.jnl with
      feCommits := s.jnl.feCommits.filter (fun c => !(ports.contains c.1)) ++ ports.map (fun p => (p, tries, 0)) } := by
  unfold State.wearToFe
  extract_lets s1
  have queued : s1.jnl = s.jnl := foldl_view (v := State.jnl)
    (f := fun u p => u.modLnk p (fun l => { l with secQueue := l.secQueue ++ wearTxs w })) (fun _ _ => rfl) ports s
  exact congrArg (fun j : JnlSt => { j with
    feCommits := j.feCommits.filter (fun c : Nat × Nat × Nat => !(ports.contains c.1)) ++
      ports.map (fun p => (p, tries, 0)) }) queued

theorem wearWrite_writes (v : Verdict) (s : State) (hn : s.now % 1000 = 0)
    (hd : s.jnl.wearDue = true ∨ s.now % 3600000 = 0) (hm : s.wearMay = true) :
    ∃ t, exec (.wearWrite v) s = .next t ∧ t.jnl.wSeq = s.jnl.wSeq + 1 ∧ t.jnl.wFrame = s.now ∧
      t.jnl.wearDue = false ∧
      (t.jnl.mirror0 = some (s.wearNow (s.jnl.wSeq + 1)) ∧ t.jnl.mirror1 = s.jnl.mirror1 ∨
        t.jnl.mirror1 = some (s.wearNow (s.jnl.wSeq + 1)) ∧ t.jnl.mirror0 = s.jnl.mirror0) ∧
      (v = .pass → t.jnl.carrierRetry = false ∧
        (t.jnl.carrier0 = some (s.wearNow (s.jnl.wSeq + 1)) ∧ t.jnl.carrier1 = none ∨
          t.jnl.carrier1 = some (s.wearNow (s.jnl.wSeq + 1)) ∧ t.jnl.carrier0 = none)) ∧
      (v ≠ .pass → t.jnl.carrierRetry = true) := by
  show ∃ t, execWearWrite v s = .next t ∧ _
  unfold execWearWrite
  extract_lets s0 w s1 s2 _ s3
  have mirrors := State.mirrorWrite_mirrors s0 w
  have written : CarrierWritten (s0.mirrorWrite w) s1 w v := State.carrierWrite_written (s0.mirrorWrite w) w v
  rw [if_pos ⟨hn, hd⟩, if_pos (show s0.wearMay = true from hm)]
  have kept : ∀ t : State, (∃ c, t.jnl = { s3.jnl with feCommits := c }) →
      t.jnl.mirror0 = s1.jnl.mirror0 ∧ t.jnl.mirror1 = s1.jnl.mirror1 ∧ t.jnl.carrier0 = s1.jnl.carrier0 ∧
        t.jnl.carrier1 = s1.jnl.carrier1 ∧ t.jnl.carrierRetry = s1.jnl.carrierRetry ∧
        t.jnl.wSeq = s.jnl.wSeq + 1 ∧ t.jnl.wFrame = s.now ∧ t.jnl.wearDue = false := by
    rintro t ⟨c, h⟩
    rw [h]
    exact ⟨State.ev_jnl_mirror0 .., State.ev_jnl_mirror1 .., State.ev_jnl_carrier0 .., State.ev_jnl_carrier1 ..,
      State.ev_jnl_carrierRetry .., rfl, rfl, rfl⟩
  generalize ht : (if w.seq % s3.mem.wearCfe = 0 ∧ s3.leads = true then s3.wearToFe w s3.wearPorts 1 else s3) = t
  have same : ∃ c, t.jnl = { s3.jnl with feCommits := c } := by
    rw [← ht]
    split
    · exact ⟨_, State.wearToFe_jnl ..⟩
    · exact ⟨s3.jnl.feCommits, rfl⟩
  obtain ⟨m0, m1, c0, c1, retry, seq, frame, due⟩ := kept t same
  refine ⟨t, rfl, seq, frame, due, ?_, fun hv => ?_, fun hv => ?_⟩
  · rw [m0, m1, written.mirror0, written.mirror1]
    exact mirrors
  · rw [c0, c1, retry, written.retry]
    exact ⟨by simp [hv], written.slots hv⟩
  · rw [retry, written.retry]
    exact decide_eq_true hv

theorem wearWrite_postpones (v : Verdict) (s : State) (hn : s.now % 1000 = 0)
    (hd : s.jnl.wearDue = true ∨ s.now % 3600000 = 0) (hm : s.wearMay = false) :
    ∃ t, exec (.wearWrite v) s = .next t ∧ t.jnl.wearDue = true ∧ t.jnl.wearPostponed = true ∧
      t.jnl.wSeq = s.jnl.wSeq ∧ t.jnl.mirror0 = s.jnl.mirror0 ∧ t.jnl.mirror1 = s.jnl.mirror1 := by
  show ∃ t, execWearWrite v s = .next t ∧ _
  unfold execWearWrite
  extract_lets s0 w s1 s2 _ s3 u1
  rw [if_pos ⟨hn, hd⟩, if_neg (show ¬ s0.wearMay = true from (Bool.eq_false_iff.mp hm))]
  exact ⟨_, rfl, rfl, rfl, State.evIf_jnl_wSeq .., State.evIf_jnl_mirror0 .., State.evIf_jnl_mirror1 ..⟩

theorem wearCarrierRetry_writes (v : Verdict) (w : WearRec) (s : State) (hn : s.now % 1000 = 0)
    (hr : s.jnl.carrierRetry = true) (hw : s.wearNewest = some w) :
    ∃ t, exec (.wearCarrierRetry v) s = .next t ∧ t.jnl.carrierRetry = decide (v ≠ .pass) ∧
      t.jnl.mirror0 = s.jnl.mirror0 ∧ t.jnl.mirror1 = s.jnl.mirror1 ∧
      (v = .pass → t.jnl.carrier0 = some w ∧ t.jnl.carrier1 = none ∨
        t.jnl.carrier1 = some w ∧ t.jnl.carrier0 = none) := by
  show ∃ t, execWearCarrierRetry v s = .next t ∧ _
  unfold execWearCarrierRetry
  extract_lets s0
  obtain ⟨m0, m1, retry, slots⟩ := State.carrierWrite_written s0 w v
  rw [if_pos ⟨hn, hr⟩, show s0.wearNewest = some w from hw]
  exact ⟨_, rfl, retry, m0, m1, slots⟩

/-! ### The check of a front end's wear commit (R558) -/

/-- The newest record is read from the mirrors and the carriers, which an event leaves. -/
theorem State.wearFault_wearNewest (s : State) (p cause : Nat) : (s.wearFault p cause).wearNewest = s.wearNewest := by
  unfold State.wearNewest State.wearFault
  rw [State.ev_jnl_mirror0, State.ev_jnl_mirror1, State.ev_jnl_carrier0, State.ev_jnl_carrier1]

/-- A failed commit is made again after its first try, while there is a record to write. -/
theorem State.commitFailed_again (s : State) (p cause at_ : Nat) (w : WearRec)
    (hf : s.jnl.feCommits.find? (fun c => decide (c.1 = p)) = some (p, 1, at_)) (hw : s.wearNewest = some w) :
    (p, 2, 0) ∈ (s.commitFailed p cause).jnl.feCommits := by
  unfold State.commitFailed
  rw [hf]
  extract_lets s1 s2
  rw [show s2.wearNewest = some w from (State.wearFault_wearNewest s p cause).trans hw]
  show _ ∈ (State.wearToFe ..).jnl.feCommits
  rw [State.wearToFe_jnl]
  exact List.mem_append_right _ (List.mem_singleton.mpr rfl)

/-- A commit that failed in another try than its first is given up. -/
theorem State.commitFailed_dropped (s : State) (p cause n at_ : Nat)
    (hf : s.jnl.feCommits.find? (fun c => decide (c.1 = p)) = some (p, n, at_)) (hn : n ≠ 1) :
    ∀ c ∈ (s.commitFailed p cause).jnl.feCommits, c.1 ≠ p := by
  unfold State.commitFailed
  rw [hf]
  dsimp only
  split
  · contradiction
  · intro c hc
    exact of_decide_eq_true (List.mem_filter.mp hc).2

theorem cfeWearCommitCheck_fails (p : Pulse) (q : PortIx) (n at_ : Nat) (s : State)
    (hf : s.jnl.feCommits.find? (fun c => decide (c.1 = q.val)) = some (q.val, n, at_)) (hp : 0 < at_)
    (ht : at_ - 1 + 200 ≤ s.now) :
    ∃ t, exec (.cfeWearCommitCheck p q) s = .next t ∧
      (n = 1 → s.wearNewest ≠ none → (q.val, 2, 0) ∈ t.jnl.feCommits) ∧
      (n ≠ 1 → ∀ c ∈ t.jnl.feCommits, c.1 ≠ q.val) := by
  refine next_pos rfl (List.any_eq_true.mpr ⟨_, List.mem_of_find?_eq_some hf, ?_⟩)
    ⟨_, rfl, fun h1 hw => ?_, fun h1 => State.commitFailed_dropped (s.atP p.val) q.val 2 n at_ hf h1⟩
  · simp only [decide_true, Bool.true_and, Bool.and_eq_true, decide_eq_true_eq]
    exact ⟨hp, ht⟩
  · obtain ⟨w, hw⟩ := Option.ne_none_iff_exists'.mp hw
    exact State.commitFailed_again (s.atP p.val) q.val 2 at_ w (h1 ▸ hf) hw

/-- Settles O59: one lemma per row. -/
theorem memoryCommandsComplete : Obligations.MemoryCommandsComplete :=
  ⟨fun dram pos errs s => scrubBurst_moves dram pos errs s, fun p e s => markhorScrub_corrects p e s,
    fun p e s => markhorScrub_uncorrectable p e s, fun p dram s => memScrub_late p dram s,
    fun p s => healthRecordWrite_writes p s, fun v s => wearWrite_writes v s, fun v s => wearWrite_postpones v s,
    fun v w s => wearCarrierRetry_writes v w s, fun p q n at_ s => cfeWearCommitCheck_fails p q n at_ s⟩

end Sys2Proof.Machine
end

section
namespace Sys2Proof.Machine

/-! ### Keys and the debug session (R574, R575, R576) -/

theorem sysOtpProvision_writes (id : Word) (e : LedgerEntry) (k : Nat) (s : State) (hd : Due s id 0x0101 e)
    (hl : e.body.length = 60) (h1 : zeros e.body 1 3 = true) (h5 : zeros e.body 5 3 = true)
    (h57 : zeros e.body 57 3 = true) (h0 : rdU e.body 0 1 = 1) (hk : rdU e.body 4 1 = k) (h4 : k < 4)
    (hw : s.acc.written.getLsbD k = false) (hp : isPoint (slice e.body 8 49) = true) :
    ∃ t, exec (.sysOtpProvision id) s = .next t ∧
      t.acc.written = s.acc.written ||| ((1 : BitVec 4) <<< k) ∧ tget t.acc.roots k = slice e.body 8 49 ∧
      (∀ j, j ≠ k → tget t.acc.roots j = tget s.acc.roots j) ∧ t.cmdStands id .done .ok := by
  refine State.evaluate_next rfl hd
    (by simp [Checks.pass, otpChecks, hl, h1, h5, h57, h0, hk, h4, hw, hp, -BitVec.getLsbD_eq_getElem])
    fun x w hf he hc hid => ?_
  have acc : x.acc = s.acc := hf.acc_eq (by decide)
  extract_lets q _
  have slot : q = k := hk
  rw [State.cmdDone_acc]
  refine ⟨?_, ?_, fun j hj => ?_, State.cmdDone_after he hc (by rfl)⟩
  · simp only [acc, slot]
  · simp only [slot, tget_tput, if_true]
  · simp only [acc, slot, tget_tput, if_neg hj]

/-- A session that ends keeps the deny list and the keys. -/
theorem State.dropInvalidSession_otp (s : State) :
    s.dropInvalidSession.acc.retired = s.acc.retired ∧ s.dropInvalidSession.acc.denyOtp = s.acc.denyOtp := by
  unfold State.dropInvalidSession
  extract_lets bad f
  split
  · next h => rw [(State.endSession_ends (s := f.2) h.1 f.1).2]; exact ⟨rfl, rfl⟩
  · exact ⟨rfl, rfl⟩

/-- Ending the command, and a session it makes invalid, after a change of the one-time memory. -/
theorem State.rotated {x u : State} {id : Word} {e : LedgerEntry} (he : x.entry id = some e)
    (hw : twf x.site.ledger = true) (hl : u.site.ledger = x.site.ledger) (c : Nat) (b : Bytes) :
    ((u.ev c b).cmdDone id).dropInvalidSession.cmdStands id .done .ok ∧
      ((u.ev c b).cmdDone id).dropInvalidSession.acc.retired = u.acc.retired ∧
      ((u.ev c b).cmdDone id).dropInvalidSession.acc.denyOtp = u.acc.denyOtp := by
  obtain ⟨retired, deny⟩ := State.dropInvalidSession_otp ((u.ev c b).cmdDone id)
  rw [State.cmdDone_acc, State.ev_acc] at retired deny
  have done := State.cmdDone_after he hw ((congrArg SiteSt.ledger (State.ev_site u c b)).trans hl)
  exact ⟨(State.cmdStands_of_frame (State.dropInvalidSession_frame _) (by decide)) done, retired, deny⟩

theorem accKeyRotateRetire_retires (id : Word) (e : LedgerEntry) (k : Nat) (s : State) (hd : Due s id 0x1501 e)
    (hl : e.body.length = 12) (hz : zeros e.body 1 3 = true) (h1 : rdU e.body 0 1 = 1) (hk : s.currentRoot = some k)
    (hh : s.higherRoot = true) :
    ∃ t, exec (.accKeyRotateRetire id) s = .next t ∧ t.acc.retired = s.acc.retired ||| ((1 : BitVec 4) <<< k) ∧
      t.acc.denyOtp = s.acc.denyOtp ∧ t.cmdStands id .done .ok := by
  have hh0 : (s.atP 0).higherRoot = true := hh
  refine next_neg rfl (by simp [bodyOf_due hd, h1]) (State.evaluate_next rfl hd
    (by simp [Checks.pass, rotateFormat, hl, hz, h1, hh0]) fun x w hf he hw hid => ?_)
  have acc : x.acc = s.acc := hf.acc_eq (by decide)
  have root : x.currentRoot = some k := by rw [← hk]; simp only [State.currentRoot, acc]
  extract_lets q _ u
  rw [hid]
  obtain ⟨done, retired, deny⟩ := State.rotated (u := u) he hw rfl 0x1503 (le 1 1 ++ le 8 q ++ le 4 id.toNat)
  refine ⟨?_, deny.trans (congrArg AccSt.denyOtp acc :), done⟩
  rw [retired]
  simp only [u, q, root, acc, Option.getD]

theorem accKeyRotateDeny_adds (id : Word) (e : LedgerEntry) (s : State) (hd : Due s id 0x1501 e)
    (hl : e.body.length = 12) (hz : zeros e.body 1 3 = true) (h2 : rdU e.body 0 1 = 2)
    (hs : s.acc.denyOtp.length < 32) :
    ∃ t, exec (.accKeyRotateDeny id) s = .next t ∧
      t.acc.denyOtp = s.acc.denyOtp ++ [BitVec.ofNat 64 (rdU e.body 4 8)] ∧ t.acc.retired = s.acc.retired ∧
      t.cmdStands id .done .ok := by
  refine next_neg rfl (by simp [bodyOf_due hd, h2]) (State.evaluate_next rfl hd
    (by simp [Checks.pass, rotateFormat, hl, hz, hs]) fun x w hf he hw hid => ?_)
  have acc : x.acc = s.acc := hf.acc_eq (by decide)
  extract_lets _ u
  rw [hid]
  obtain ⟨done, retired, deny⟩ := State.rotated (u := u) he hw rfl 0x1503 (le 1 2 ++ slice e.body 4 8 ++ le 4 id.toNat)
  refine ⟨?_, retired.trans (congrArg AccSt.retired acc :), done⟩
  rw [deny]
  simp only [u, acc, rotateFpr]

theorem debugSessionClosed_journals (p : Pulse) (s : State) (hd : s.acc.debugOpen = true) :
    ∃ t, exec (.debugSessionClosed p) s = .next t ∧ t.acc.debugOpen = false ∧
      t.jnl = ((s.atP p.val).ev 0x1504 (le 1 2 ++ le 8 s.acc.fpr.toNat)).jnl :=
  next_pos rfl hd ⟨_, rfl, rfl, rfl⟩

/-- Settles O60: one lemma per row. -/
theorem accessCommandsComplete : Obligations.AccessCommandsComplete :=
  ⟨fun id e k s => sysOtpProvision_writes id e k s, fun id e k s => accKeyRotateRetire_retires id e k s,
    fun id e s => accKeyRotateDeny_adds id e s, fun p s => debugSessionClosed_journals p s⟩

end Sys2Proof.Machine
end

section
namespace Sys2Proof.Machine

/-! ### The boot selection (R514, R519) -/

/-- Where the boot starts a bank, that bank has a manifest, and its security version is not below the counter. -/
def UpdSt.StartsAllowed (u : UpdSt) : Prop :=
  u.bootHold = false → u.rollback ≤ u.secvOf u.running ∧ (u.bank u.running).manifest.isSome = true

theorem UpdSt.allowed_of_verify {u : UpdSt} {f : BootFind} {k : Nat} (h : u.verify f k = true) :
    u.rollback ≤ u.secvOf k ∧ (u.bank k).manifest.isSome = true := by
  simp only [UpdSt.verify, Bool.and_eq_true, decide_eq_true_eq] at h
  exact ⟨h.2, h.1.1⟩

theorem UpdSt.startsAllowed_of_hold {u : UpdSt} (h : u.bootHold = true) : u.StartsAllowed :=
  fun run => absurd (h.symm.trans run) (by decide)

/-- The hardened selection starts a bank it verified, or holds. -/
theorem UpdSt.bootHardened_startsAllowed (u : UpdSt) (f : BootFind) : (u.bootHardened f).StartsAllowed := by
  unfold UpdSt.bootHardened
  extract_lets u1 t
  split
  · split
    · next h => exact fun _ => UpdSt.allowed_of_verify (u := u1) h.2
    · exact UpdSt.startsAllowed_of_hold rfl
  · split
    · next h => exact fun _ => UpdSt.allowed_of_verify (u := u1) h
    · split
      · next h => exact fun _ => UpdSt.allowed_of_verify (u := u1) h.2
      · exact UpdSt.startsAllowed_of_hold rfl

/-- The boot ROM starts the other bank in a trial after it verified it, and leaves every other start to the hardened
selection. -/
theorem UpdSt.boot_startsAllowed (u0 : UpdSt) (f : BootFind) : (u0.boot f).StartsAllowed := by
  unfold UpdSt.boot
  extract_lets _ u u1 t u2
  split
  · split
    · exact UpdSt.bootHardened_startsAllowed _ _
    · split
      · next h => exact fun _ => UpdSt.allowed_of_verify (u := u2) h
      · exact UpdSt.bootHardened_startsAllowed _ _
  · exact UpdSt.bootHardened_startsAllowed _ _

/-- Settles O20, by the boot's branches. -/
theorem noBankBelowTheCounterStarts : Obligations.NoBankBelowTheCounterStarts :=
  fun u f => ⟨UpdSt.boot_rollback u f, UpdSt.boot_startsAllowed u f⟩

end Sys2Proof.Machine
end

section
namespace Sys2Proof.Machine

/-! ### The word code (R538) -/

/-- A sum over a list splits where its terms and its start split. -/
theorem foldl_op_op {α β : Type} {op : β → β → β} (medial : ∀ a b c d, op (op a b) (op c d) = op (op a c) (op b d))
    (f g : α → β) (l : List α) (a b : β) : l.foldl (fun x e => op x (op (f e) (g e))) (op a b) =
      op (l.foldl (fun x e => op x (f e)) a) (l.foldl (fun x e => op x (g e)) b) := by
  induction l generalizing a b with
  | nil => rfl
  | cons e l ih =>
    exact (congrArg (fun x => l.foldl _ x) (medial a b (f e) (g e))).trans (ih ..)

theorem xor_medial : ∀ a b c d : Bool, ((a ^^ b) ^^ (c ^^ d)) = ((a ^^ c) ^^ (b ^^ d)) := by decide

theorem xor_eq_zero {a b : Nat} : a ^^^ b = 0 ↔ a = b := by
  constructor
  · intro h
    calc a = a ^^^ (a ^^^ b) := by rw [h, Nat.xor_zero]
      _ = b := by rw [← Nat.xor_assoc, Nat.xor_self, Nat.zero_xor]
  · rintro rfl
    exact Nat.xor_self a

/-- The parity of a sum is the sum of the parities. -/
theorem oddBits_xor {n : Nat} (a b : BitVec n) : oddBits (a ^^^ b) = (oddBits a ^^ oddBits b) := by
  have h := foldl_op_op (op := Bool.xor) xor_medial a.getLsbD b.getLsbD (upFrom 0 n) false false
  simp only [oddBits, BitVec.getLsbD_xor]
  exact h

/-- The Hamming bits as a sum over all data bits. -/
theorem hamming_eq (d : BitVec 64) :
    hamming d = dataPlaces.zipIdx.foldl (fun a e => a ^^^ (if d.getLsbD e.2 then e.1 else 0)) 0 := by
  unfold hamming
  rw [List.foldl_filter]
  congr 1
  funext a e
  split <;> simp

/-- The Hamming bits of a sum are the sum of the Hamming bits. -/
theorem hamming_xor (a b : BitVec 64) : hamming (a ^^^ b) = hamming a ^^^ hamming b := by
  have h := foldl_op_op (op := fun x y : Nat => x ^^^ y) (fun a b c d => by ac_rfl)
    (fun e : Nat × Nat => if a.getLsbD e.2 then e.1 else 0)
    (fun e => if b.getLsbD e.2 then e.1 else 0) dataPlaces.zipIdx 0 0
  rw [hamming_eq, hamming_eq a, hamming_eq b]
  refine Eq.trans (congrArg (fun f => List.foldl f 0 dataPlaces.zipIdx) ?_) h
  funext x e
  rw [BitVec.getLsbD_xor]
  cases a.getLsbD e.2 <;> cases b.getLsbD e.2 <;> simp

/-- The Hamming bits are seven. -/
theorem hamming_lt (d : BitVec 64) : hamming d < 128 := by
  unfold hamming
  refine List.foldlRecOn _ _ (motive := (· < 128)) (by decide) fun a ha e he => Nat.xor_lt_two_pow (n := 7) ha ?_
  have hp : e.1 ∈ dataPlaces := (List.mem_zipIdx' (List.mem_filter.mp he).1).2 ▸ List.getElem_mem _
  exact (by decide : ∀ p ∈ dataPlaces, p < 128) _ hp

theorem low_or_top (c : Byte) : (c ||| 0x80).toNat % 128 = c.toNat % 128 := by
  rw [BitVec.toNat_or]
  exact (Nat.or_mod_two_pow (n := 7)).trans (Nat.or_zero _)

/-- The stored check field holds the Hamming bits in its low seven. -/
theorem wordCheck_low (d : BitVec 64) : (wordCheck d).toNat % 128 = hamming d := by
  have h : (BitVec.ofNat 8 (hamming d)).toNat % 128 = hamming d := by
    have := hamming_lt d
    rw [BitVec.toNat_ofNat]
    omega
  unfold wordCheck
  dsimp only
  split
  · exact (low_or_top _).trans h
  · exact h

/-- The bit at place 7 of the check field makes the whole even. -/
theorem wordCheck_even (d : BitVec 64) : oddBits (wordCheck d) = oddBits d := by
  unfold wordCheck
  extract_lets c
  have top : c ||| 0x80 = c ^^^ 0x80 := by
    have hc : c.toNat < 128 := by
      have := hamming_lt d
      rw [BitVec.toNat_ofNat]
      omega
    have h7 : c.getLsbD 7 = false := Nat.testBit_lt_two_pow hc
    have h80 : ∀ i < 8, (0x80 : Byte).getLsbD i = decide (i = 7) := by decide
    refine BitVec.eq_of_getLsbD_eq fun i hi => ?_
    rw [BitVec.getLsbD_or, BitVec.getLsbD_xor, h80 i hi]
    by_cases h : i = 7
    · rw [h, h7]
      rfl
    · simp [h]
  split
  · next h =>
    rw [top, oddBits_xor, show oddBits (0x80 : Byte) = true from by decide]
    revert h
    cases oddBits d <;> cases oddBits c <;> decide
  · next h =>
    revert h
    cases oddBits d <;> cases oddBits c <;> decide

/-- What the read of a word makes of its Hamming bits: 0 in a stored word. -/
def syndrome (w : BitVec 72) : Nat :=
  hamming (w.truncate 64) ^^^ ((~~~(w >>> 64).truncate 8 : Byte).toNat % 128)

/-- What the read of a word makes of its parity: even in a stored word. -/
def oddWord (w : BitVec 72) : Bool := oddBits (w.truncate 64 : BitVec 64) ^^ oddBits (~~~(w >>> 64).truncate 8 : Byte)

theorem syndrome_xor (w m : BitVec 72) : syndrome (w ^^^ m) =
    syndrome w ^^^ (hamming (m.truncate 64) ^^^ (((m >>> 64).truncate 8 : Byte).toNat % 128)) := by
  have low (a b : Byte) : (a ^^^ b).toNat % 128 = a.toNat % 128 ^^^ b.toNat % 128 := by
    rw [BitVec.toNat_xor]
    exact Nat.xor_mod_two_pow (n := 7)
  unfold syndrome
  simp only [BitVec.truncate_eq_setWidth, BitVec.setWidth_xor, BitVec.ushiftRight_xor_distrib, BitVec.not_xor_left,
    hamming_xor, low]
  ac_rfl

theorem oddWord_xor (w m : BitVec 72) : oddWord (w ^^^ m) =
    (oddWord w ^^ (oddBits (m.truncate 64 : BitVec 64) ^^ oddBits ((m >>> 64).truncate 8 : Byte))) := by
  unfold oddWord
  rw [BitVec.ushiftRight_xor_distrib, BitVec.truncate_eq_setWidth, BitVec.truncate_eq_setWidth, BitVec.setWidth_xor,
    BitVec.setWidth_xor, BitVec.not_xor_left, oddBits_xor, oddBits_xor]
  exact xor_medial ..

/-- The place of a bit of a stored word in its code: 0 for the bit of parity. -/
def placeOf (i : Fin 72) : Nat := (dataPlaces[i.val]?).getD (2 ^ (i.val - 64) % 128)

/-- An inverted bit adds its place to the syndrome. -/
theorem syndrome_flip (w : BitVec 72) (i : Fin 72) :
    syndrome (w ^^^ ((1 : BitVec 72) <<< i.val)) = syndrome w ^^^ placeOf i := by
  rw [syndrome_xor]
  congr 1
  revert i
  decide

/-- An inverted bit inverts the parity. -/
theorem oddWord_flip (w : BitVec 72) (i : Fin 72) :
    oddWord (w ^^^ ((1 : BitVec 72) <<< i.val)) = !oddWord w := by
  rw [oddWord_xor, ← Bool.xor_true]
  refine congrArg (oddWord w ^^ ·) ?_
  revert i
  decide +kernel

/-- The answer of a read, by the parity and the syndrome. -/
theorem readWord_eq (w : BitVec 72) : readWord w =
    if w = 0 ∨ w = BitVec.allOnes 72 then .bad
    else if oddWord w = true then
      if syndrome w = 0 ∨ 2 ^ (syndrome w).log2 = syndrome w then .corrected (w.truncate 64)
      else match dataPlaces.findIdx? (fun n => decide (n = syndrome w)) with
        | some i => .corrected (w.truncate 64 ^^^ ((1 : BitVec 64) <<< i))
        | none => .bad
    else if syndrome w = 0 then .good (w.truncate 64) else .bad := rfl

/-- Words of 72 bits all 0 or all 1 show two wrong bits. -/
theorem uniform_shows (w : BitVec 72) (h : w = 0 ∨ w = BitVec.allOnes 72) : oddWord w = false ∧ syndrome w = 127 := by
  obtain rfl | rfl := h
  · exact ⟨by decide +kernel, by decide +kernel⟩
  · exact ⟨by decide +kernel, by decide +kernel⟩

theorem storeWord_low (d : BitVec 64) : (storeWord d).truncate 64 = d := by
  unfold storeWord
  rw [BitVec.truncate_eq_setWidth, BitVec.setWidth_append, dif_pos (Nat.le_refl _), BitVec.setWidth_eq]

theorem storeWord_high (d : BitVec 64) : ((storeWord d >>> 64).truncate 8 : Byte) = ~~~wordCheck d := by
  unfold storeWord
  refine BitVec.eq_of_getLsbD_eq fun i hi => ?_
  have high : (~~~wordCheck d ++ d).getLsbD (64 + i) = (~~~wordCheck d).getLsbD i := by
    rw [BitVec.getLsbD_append, if_neg (by omega), Nat.add_sub_cancel_left]
  rw [BitVec.truncate_eq_setWidth, BitVec.getLsbD_setWidth, BitVec.getLsbD_ushiftRight, high, decide_eq_true hi,
    Bool.true_and]

theorem storeWord_shows (d : BitVec 64) : oddWord (storeWord d) = false ∧ syndrome (storeWord d) = 0 := by
  unfold oddWord syndrome
  rw [storeWord_low, storeWord_high, BitVec.not_not, wordCheck_even, wordCheck_low]
  exact ⟨Bool.xor_self _, Nat.xor_self _⟩

/-- A word that shows otherwise than the two uniform ones is read by its parity and its syndrome. -/
theorem not_uniform {w : BitVec 72} (h : oddWord w = true ∨ syndrome w = 0) : ¬ (w = 0 ∨ w = BitVec.allOnes 72) := by
  intro hw
  obtain ⟨even, shows⟩ := uniform_shows w hw
  rw [even, shows] at h
  simp at h

theorem readWord_storeWord (d : BitVec 64) : readWord (storeWord d) = .good d := by
  obtain ⟨even, zero⟩ := storeWord_shows d
  rw [readWord_eq, if_neg (not_uniform (.inr zero)), if_neg (by rw [even]; decide), if_pos zero, storeWord_low]

/-- Two wrong bits are found: an even parity with a syndrome. -/
theorem readWord_bad {w : BitVec 72} (he : oddWord w = false) (hs : syndrome w ≠ 0) : readWord w = .bad := by
  rw [readWord_eq]
  rw [if_neg (c := oddWord w = true) (by rw [he]; decide), if_neg hs, ite_self]

theorem placeOf_injective : ∀ i j : Fin 72, placeOf i = placeOf j → i = j := by decide +kernel

theorem readWord_two_flips (d : BitVec 64) (i j : Fin 72) (h : i ≠ j) :
    readWord (storeWord d ^^^ ((1 : BitVec 72) <<< i.val) ^^^ ((1 : BitVec 72) <<< j.val)) = .bad := by
  obtain ⟨even, zero⟩ := storeWord_shows d
  refine readWord_bad ?_ fun hs => h (placeOf_injective i j ?_)
  · rw [oddWord_flip, oddWord_flip, even]
    rfl
  · rwa [syndrome_flip, syndrome_flip, zero, Nat.zero_xor, xor_eq_zero] at hs

/-- The place of a data bit is 0 and no power of two, and names that bit; the place of a check bit is one of these. -/
theorem placeOf_data : ∀ i : Fin 72, i.val < 64 → ¬ (placeOf i = 0 ∨ 2 ^ (placeOf i).log2 = placeOf i) ∧
    dataPlaces.findIdx? (fun n => decide (n = placeOf i)) = some i.val := by decide +kernel

theorem placeOf_check : ∀ i : Fin 72, 64 ≤ i.val → placeOf i = 0 ∨ 2 ^ (placeOf i).log2 = placeOf i := by
  decide +kernel

/-- The data of a word with an inverted bit. -/
theorem flip_low (w : BitVec 72) (i : Fin 72) :
    ((w ^^^ ((1 : BitVec 72) <<< i.val)).truncate 64 : BitVec 64) =
      w.truncate 64 ^^^ (if i.val < 64 then (1 : BitVec 64) <<< i.val else 0) := by
  rw [BitVec.truncate_eq_setWidth, BitVec.setWidth_xor]
  congr 1
  revert i
  decide +kernel

theorem readWord_one_flip (d : BitVec 64) (i : Fin 72) :
    readWord (storeWord d ^^^ ((1 : BitVec 72) <<< i.val)) = .corrected d := by
  obtain ⟨even, zero⟩ := storeWord_shows d
  have odd : oddWord (storeWord d ^^^ ((1 : BitVec 72) <<< i.val)) = true := by rw [oddWord_flip, even]; rfl
  have place : syndrome (storeWord d ^^^ ((1 : BitVec 72) <<< i.val)) = placeOf i := by
    rw [syndrome_flip, zero, Nat.zero_xor]
  rw [readWord_eq, if_neg (not_uniform (.inl odd)), if_pos odd, place, flip_low, storeWord_low]
  by_cases h : i.val < 64
  · obtain ⟨no, found⟩ := placeOf_data i h
    rw [if_neg no, found, if_pos h]
    dsimp only
    rw [BitVec.xor_assoc, BitVec.xor_self, BitVec.xor_zero]
  · rw [if_pos (placeOf_check i (Nat.le_of_not_lt h)), if_neg h]
    exact congrArg _ BitVec.xor_zero

/-! ### The page code (R539, R540) -/

/-- The sum of two lists of bytes. -/
def xorL (a b : List Byte) : List Byte := List.zipWith (· ^^^ ·) a b

theorem gfMulAux_xor (k : Nat) (a b c : Byte) : gfMulAux k (a ^^^ b) c = gfMulAux k a c ^^^ gfMulAux k b c := by
  induction k generalizing a b c with
  | zero => exact BitVec.xor_zero.symm
  | succ k ih =>
    have shift : (if (a ^^^ b).getLsbD 7 then ((a ^^^ b) <<< 1) ^^^ 0x1D else (a ^^^ b) <<< 1) =
        (if a.getLsbD 7 then (a <<< 1) ^^^ 0x1D else a <<< 1) ^^^
          (if b.getLsbD 7 then (b <<< 1) ^^^ 0x1D else b <<< 1) := by
      rw [BitVec.getLsbD_xor, BitVec.shiftLeft_xor_distrib]
      generalize a <<< 1 = x, b <<< 1 = y, (0x1D : Byte) = z
      cases a.getLsbD 7 <;> cases b.getLsbD 7 <;> simp
      · ac_rfl
      · ac_rfl
      · rw [show x ^^^ z ^^^ (y ^^^ z) = x ^^^ y ^^^ (z ^^^ z) by ac_rfl, BitVec.xor_self, BitVec.xor_zero]
    simp only [gfMulAux, shift, ih]
    cases c.getLsbD 0 <;> simp
    ac_rfl

theorem gfMul_xor (a b c : Byte) : gfMul (a ^^^ b) c = gfMul a c ^^^ gfMul b c := gfMulAux_xor 8 a b c

theorem xorL_reduce (f g : Byte) (a b r : List Byte) :
    List.zipWith (fun x p => x ^^^ gfMul (f ^^^ g) p) (xorL a b) r =
      xorL (List.zipWith (fun x p => x ^^^ gfMul f p) a r) (List.zipWith (fun x p => x ^^^ gfMul g p) b r) := by
  induction a generalizing b r with
  | nil => simp [xorL]
  | cons x a ih =>
    cases b with
    | nil => simp [xorL]
    | cons y b =>
      cases r with
      | nil => simp [xorL]
      | cons p r =>
        have head : x ^^^ y ^^^ gfMul (f ^^^ g) p = x ^^^ gfMul f p ^^^ (y ^^^ gfMul g p) := by
          rw [gfMul_xor]
          ac_rfl
        show _ :: _ = _ :: _
        exact congr (congrArg List.cons head) (ih b r)

theorem xorL_headD {a b : List Byte} (h : a.length = b.length) : (xorL a b).headD 0 = a.headD 0 ^^^ b.headD 0 := by
  cases a <;> cases b <;> simp_all [xorL]

/-- One step of the check bytes is linear. -/
theorem rsStep_xor {c e : List Byte} (h : c.length = e.length) (x y : Byte) :
    rsStep (xorL c e) (x ^^^ y) = xorL (rsStep c x) (rsStep e y) := by
  have rest : (xorL c e).tail ++ [0] = xorL (c.tail ++ [0]) (e.tail ++ [0]) := by
    unfold xorL
    rw [List.tail_zipWith, List.zipWith_append (by simp [h])]
    rfl
  have head : x ^^^ y ^^^ (xorL c e).headD 0 = (x ^^^ c.headD 0) ^^^ (y ^^^ e.headD 0) := by
    rw [xorL_headD h]
    ac_rfl
  unfold rsStep
  dsimp only
  rw [rest, head, xorL_reduce]

theorem rsStep_length {c : List Byte} (h : c.length = 8) (b : Byte) : (rsStep c b).length = 8 := by
  have gen : rsGen.length = 8 := by decide +kernel
  simp [rsStep, h, gen]

theorem foldl_rsStep_xor (l : List (Byte × Byte)) {c e : List Byte} (hc : c.length = 8) (he : e.length = 8) :
    (l.map (fun p => p.1 ^^^ p.2)).foldl rsStep (xorL c e) =
      xorL ((l.map Prod.fst).foldl rsStep c) ((l.map Prod.snd).foldl rsStep e) := by
  induction l generalizing c e with
  | nil => rfl
  | cons p l ih =>
    simp only [List.map_cons, List.foldl_cons]
    rw [rsStep_xor (hc.trans he.symm), ih (rsStep_length hc _) (rsStep_length he _)]

/-- The check bytes of a sum are the sum of the check bytes. -/
theorem rsCheck_xor {α : Type} (f g : α → Byte) (l : List α) :
    rsCheck (l.map (fun i => f i ^^^ g i)) = xorL (rsCheck (l.map f)) (rsCheck (l.map g)) := by
  have h := foldl_rsStep_xor (l.map (fun i => (f i, g i))) (List.length_replicate (n := 8) (a := (0 : Byte)))
    (List.length_replicate (n := 8) (a := (0 : Byte)))
  simp only [List.map_map] at h
  exact h

/-- The check bytes of zeros are zero. -/
theorem rsCheck_zeros {α : Type} (l : List α) : rsCheck (l.map (fun _ => 0)) = List.replicate 8 0 := by
  unfold rsCheck
  induction l with
  | nil => rfl
  | cons a l ih =>
    rw [List.map_cons, List.foldl_cons, show rsStep (List.replicate 8 0) 0 = List.replicate 8 0 by decide +kernel]
    exact ih

theorem upFrom_length (a n : Nat) : (upFrom a n).length = n := by
  induction n generalizing a with
  | zero => rfl
  | succ n ih => exact congrArg (· + 1) (ih (a + 1))

theorem map_const_upFrom {α : Type} (a n : Nat) (x : α) : (upFrom a n).map (fun _ => x) = List.replicate n x := by
  rw [List.map_const', upFrom_length]

theorem filled_coded : CodedPage.filled.check = pageCheck CodedPage.filled.data := by
  have zero (k : Nat) : ((List.replicate 4096 (0 : Byte))[k]?).getD 0 = 0 := by
    rw [List.getElem?_replicate]
    split <;> rfl
  have each (j : Nat) : rsCheck (codeword CodedPage.filled.data j) = List.replicate 8 0 := by
    unfold codeword CodedPage.filled
    simp only [zero]
    exact rsCheck_zeros _
  unfold pageCheck
  simp only [each]
  rw [map_const_upFrom]
  rfl

/-- A list that is numbered from 0 by its places. -/
theorem zipIdx_upFrom {α β : Type} (f : Nat → α) (g : α × Nat → β) (a n : Nat) :
    (((upFrom a n).map f).zipIdx a).map g = (upFrom a n).map (fun j => g (f j, j)) := by
  induction n generalizing a with
  | zero => rfl
  | succ n ih => exact congrArg (_ :: ·) (ih (a + 1))

/-- A byte written leaves the other codewords. -/
theorem codeword_set_other (page : Bytes) {n j : Nat} (b : Byte) (hj : j < 32) (h : j ≠ n % 32) :
    codeword (page.set n b) j = codeword page j := by
  unfold codeword
  refine List.map_congr_left fun i _ => ?_
  rw [List.getElem?_set_ne (by omega)]

/-- A byte written changes its own codeword, by the difference at its place. -/
theorem codeword_set_self (page : Bytes) {n : Nat} (b : Byte) (hn : n < page.length) :
    codeword (page.set n b) (n % 32) = (upFrom 0 128).map (fun i => (page[32 * i + n % 32]?).getD 0 ^^^
      (if i = n / 32 then b ^^^ (page[n]?).getD 0 else 0)) := by
  unfold codeword
  refine List.map_congr_left fun i _ => ?_
  by_cases h : i = n / 32
  · rw [h, if_pos rfl, Nat.div_add_mod, List.getElem?_set_self hn, Option.getD_some, BitVec.xor_comm, BitVec.xor_assoc,
      BitVec.xor_self, BitVec.xor_zero]
  · rw [if_neg h, List.getElem?_set_ne (by omega)]
    exact BitVec.xor_zero.symm

/-- A write keeps the check bytes those of the data. -/
theorem write_coded (p : CodedPage) (n : Nat) (b : Byte) (hn : n < p.data.length) (hp : p.check = pageCheck p.data) :
    (p.write n b).check = pageCheck (p.write n b).data := by
  unfold CodedPage.write
  rw [hp]
  unfold pageCheck
  dsimp only
  rw [zipIdx_upFrom]
  refine List.map_congr_left fun j hj => ?_
  have h32 : j < 32 := by
    have := ((upFrom_nodup 0 32).2 j).mp hj
    omega
  dsimp only
  by_cases h : j = n % 32
  · rw [if_pos h, h, codeword_set_self p.data b hn, rsCheck_xor]
    rfl
  · rw [if_neg h, codeword_set_other p.data b h32 h]

/-- Settles O21: the answers of a read by parity and syndrome, and the linearity of the page code. -/
theorem memoryCodes : Obligations.MemoryCodes :=
  ⟨readWord_storeWord, readWord_one_flip, readWord_two_flips,
    (readWord_eq 0).trans (if_pos (.inl rfl)), (readWord_eq _).trans (if_pos (.inr rfl)), filled_coded,
    fun p n b hl hn hp => ⟨write_coded p n b (hl ▸ hn) hp, rfl, rfl⟩⟩

end Sys2Proof.Machine
end

section
/-! ## What a step may do of the Safe latch (R64) and of Safe, Fill and Load (Table 3-7) -/
namespace Sys2Proof.Machine

/-- The modes that only a start leaves, or Load as it completes (Table 3-7). -/
def heldModes : List Mode := [.safe, .fill, .load]

/-- A change that leaves a Safe latch that stands, and the mode where it is Safe, Fill or Load. -/
structure Calm (s t : State) : Prop where
  latch : s.jnl.safeLatch ≠ 0 → t.jnl.safeLatch = s.jnl.safeLatch
  mode : s.mode.mode ∈ heldModes → t.mode.mode = s.mode.mode

theorem Calm.refl (s : State) : Calm s s := ⟨fun _ => rfl, fun _ => rfl⟩

theorem Calm.trans {s u t : State} (h : Calm s u) (g : Calm u t) : Calm s t where
  latch hl := by
    have hu := h.latch hl
    exact (g.latch (hu ▸ hl)).trans hu
  mode hm := by
    have hu := h.mode hm
    exact (g.mode (hu ▸ hm)).trans hu

/-- A record update that keeps both. -/
theorem Calm.of_eq {s t : State} (hl : t.jnl.safeLatch = s.jnl.safeLatch) (hm : t.mode.mode = s.mode.mode) :
    Calm s t := ⟨fun _ => hl, fun _ => hm⟩

theorem Calm.of_frame {W : List View} {s t : State} (h : Frame W s t)
    (hv : (W.contains .modeNow || W.contains .safeLatch) = false) : Calm s t := by
  simp only [Bool.or_eq_false_iff, List.contains_eq_mem, decide_eq_false_iff_not] at hv
  exact .of_eq (h.safeLatch_eq hv.2) (h.modeNow_eq hv.1)

/-- An operation whose frame lists neither goes on. -/
theorem Calm.after {W : List View} {s u t : State} (g : Frame W u t) (h : Calm s u)
    (hv : (W.contains .modeNow || W.contains .safeLatch) = false) : Calm s t := h.trans (.of_frame g hv)

/-- A record update that keeps both goes on. -/
theorem Calm.upd {s u t : State} (h : Calm s u) (hl : t.jnl.safeLatch = u.jnl.safeLatch)
    (hm : t.mode.mode = u.mode.mode) : Calm s t := h.trans (.of_eq hl hm)

theorem Calm.ite {s a b : State} {c : Prop} [Decidable c] (ha : Calm s a) (hb : Calm s b) :
    Calm s (if c then a else b) := by
  split
  · exact ha
  · exact hb

theorem Calm.foldl {α : Type} {s u : State} {f : State → α → State} {l : List α} (hu : Calm s u)
    (hf : ∀ x a, Calm x (f x a)) : Calm s (l.foldl f u) := by
  induction l generalizing u with
  | nil => exact hu
  | cons a l ih => exact ih (hu.trans (hf u a))

/-- What a step may do of R64 and of the rows of Table 3-7 that leave Safe, Fill and Load. -/
structure SafeKept (s t : State) : Prop where
  latch : s.jnl.safeLatch ≠ 0 → t.jnl.safeLatch = s.jnl.safeLatch
  safe : s.mode.mode = .safe → t.mode.mode ∈ [Mode.safe, .fill]
  fill : s.mode.mode = .fill → t.mode.mode ∈ [Mode.fill, .load, .safe]
  load : s.mode.mode = .load → t.mode.mode ∈ [Mode.load, .survey, .safe, .fill]

theorem Calm.kept {s t : State} (h : Calm s t) : SafeKept s t where
  latch := h.latch
  safe hm := by simp [h.mode (by simp [hm, heldModes]), hm]
  fill hm := by simp [h.mode (by simp [hm, heldModes]), hm]
  load hm := by simp [h.mode (by simp [hm, heldModes]), hm]

theorem SafeKept.of_calm {s t : State} (h : Calm s t) : SafeKept s t := h.kept

/-- Calm work before a change of the mode. -/
theorem Calm.then {s u t : State} (h : Calm s u) (g : SafeKept u t) : SafeKept s t where
  latch hl := by
    have hu := h.latch hl
    exact (g.latch (hu ▸ hl)).trans hu
  safe hm := g.safe ((h.mode (by simp [hm, heldModes])).trans hm)
  fill hm := g.fill ((h.mode (by simp [hm, heldModes])).trans hm)
  load hm := g.load ((h.mode (by simp [hm, heldModes])).trans hm)

/-- A record update that keeps both comes after. -/
theorem SafeKept.upd {s u t : State} (h : SafeKept s u) (hl : t.jnl.safeLatch = u.jnl.safeLatch)
    (hm : t.mode.mode = u.mode.mode) : SafeKept s t :=
  ⟨fun x => hl.trans (h.latch x), fun x => hm ▸ h.safe x, fun x => hm ▸ h.fill x, fun x => hm ▸ h.load x⟩

theorem SafeKept.ite {s a b : State} {c : Prop} [Decidable c] (ha : SafeKept s a) (hb : SafeKept s b) :
    SafeKept s (if c then a else b) := by
  split
  · exact ha
  · exact hb

/-- Fill and Safe may follow each of the three modes. -/
theorem SafeKept.of_start {s t : State} (hl : t.jnl.safeLatch = s.jnl.safeLatch)
    (hm : t.mode.mode ∈ [Mode.safe, .fill]) :
    SafeKept s t where
  latch _ := hl
  safe _ := hm
  fill _ := by
    simp only [List.mem_cons, List.not_mem_nil, or_false] at hm ⊢
    exact hm.elim (fun h => .inr (.inr h)) .inl
  load _ := by
    simp only [List.mem_cons, List.not_mem_nil, or_false] at hm ⊢
    exact .inr (.inr hm)

/-! ### The operations that set the mode or the latch -/

theorem State.restart_mode (s : State) (c : Byte) : (s.restart c).mode.mode = .fill := by
  unfold State.restart
  split <;> rfl

theorem State.restart_kept (s : State) (c : Byte) : SafeKept s (s.restart c) :=
  .of_start ((State.restart_frame s c).safeLatch_eq (by decide)) (by simp [State.restart_mode])

/-- A start after calm work. -/
theorem SafeKept.of_restart {s u : State} {c : Byte} (h : Calm s u) : SafeKept s (u.restart c) :=
  h.then (State.restart_kept u c)

/-- A mode is entered from one of the others alone. -/
theorem State.setMode_calm {s : State} (h : s.mode.mode ∉ heldModes) (m : Mode) (c : Nat) (d : Word) :
    Calm s (s.setMode m c d) :=
  ⟨fun _ => (State.setMode_frame s m c d).safeLatch_eq (by decide), fun hm => absurd hm h⟩

theorem State.enterSafe_latch (s : State) (c : Byte) (d : Word) :
    (s.enterSafe c d).jnl.safeLatch = if s.jnl.safeLatch = 0 then c else s.jnl.safeLatch :=
  (State.enterSafe_protRest s c d).2.2

/-- In Fill and Load the latch waits for the end of Load (R64). -/
theorem State.enterSafe_mode_of_starting {s : State} (h : s.mode.mode = .fill ∨ s.mode.mode = .load) (c : Byte)
    (d : Word) :
    (s.enterSafe c d).mode.mode = s.mode.mode := by
  unfold State.enterSafe
  extract_lets _ _ s1 s2 s3 _ s4
  have h1 : s1.mode.mode = s.mode.mode := (State.safeLatchSet_frame ..).modeNow_eq (by decide)
  have hs : (s1.strings.foldl (fun u k => u.safeStr k) s1).mode.mode = s1.mode.mode :=
    foldl_view (v := fun u : State => u.mode.mode) (fun u k => (State.safeStr_frame u k).modeNow_eq (by decide)) _ _
  rcases h with h | h <;> rw [h] <;> exact hs.trans (h1.trans h)

theorem State.enterSafe_calm (s : State) (c : Byte) (d : Word) : Calm s (s.enterSafe c d) where
  latch h := by rw [State.enterSafe_latch, if_neg h]
  mode h := by
    simp only [heldModes, List.mem_cons, List.not_mem_nil, or_false] at h
    rcases h with h | h
    · rw [(State.enterSafe_enters s c d (by simp [h]) (by simp [h])).1, h]
    · exact State.enterSafe_mode_of_starting h c d

theorem State.sf12_calm (s : State) (n d : Nat) (i : Bool) : Calm s (s.sf12 n d i) := by
  unfold State.sf12
  extract_lets s1 s2 _ s3
  have h2 : Calm s s2 := .after (State.ev_frame ..) (.after (State.diagFail_frame ..) (.refl s) rfl) rfl
  clear_value s2
  have h3 : Calm s s3 := h2.upd rfl rfl
  exact h3.trans (State.enterSafe_calm ..)

theorem State.freeze_kept (s : State) (n : Nat) : SafeKept s (s.freeze n) := by
  unfold State.freeze
  extract_lets _ s1 s2 _ _ s3 _ _ s4 s5
  have h2 : Calm s s2 := .after (State.ev_frame ..) (.after (State.diagFail_frame ..) (.refl s) rfl) rfl
  have h3 : Calm s s3 := .foldl h2 fun u k => .after (State.endConnect_frame ..)
    (.after (State.modPp_frame ..) (.after (State.modPst_frame ..) (.refl u) rfl) rfl) rfl
  clear_value s3
  have h4 : Calm s s4 := h3.upd rfl rfl
  have h5 : Calm s s5 := .ite (h4.trans (State.sf12_calm ..)) h4
  exact h5.then (State.restart_kept ..)

theorem not_held {s : State} {m : Mode} (h : s.mode.mode = m) (hm : m ∉ heldModes) : s.mode.mode ∉ heldModes := h ▸ hm

theorem State.idleEntry_calm (s : State) : Calm s s.idleEntry := by
  unfold State.idleEntry
  split
  · next h =>
    have hm : s.mode.mode ∉ heldModes := not_held h.1 (by decide)
    extract_lets _ s1
    have h1 : Calm s s1 := State.setMode_calm hm ..
    exact .ite (.ite h1 (.after (State.cmdTo_frame ..) h1 rfl)) (.ite (.refl s) (State.setMode_calm hm ..))
  · exact .refl s

theorem State.stringsWork_calm (s : State) : Calm s s.stringsWork := by
  unfold State.stringsWork
  extract_lets s1 s2 s3
  have h3 : Calm s s3 := .foldl (.of_eq rfl rfl) fun u k =>
    .after (State.wireOpenLow_frame ..) (.after (State.openingLow_frame ..) (.refl u) rfl) rfl
  exact .ite (Calm.trans (.after (State.rosterApply_frame ..) h3 rfl) (State.idleEntry_calm _)) (.refl s)

theorem State.wordWork_calm (s : State) (k : Nat) : Calm s (s.wordWork k) := by
  unfold State.wordWork
  exact .ite (.after (State.connectConsent_frame ..) ((State.stringsWork_calm s).upd rfl rfl) rfl) (.refl s)

theorem State.closure_calm (s : State) (x : Sensors) (more : Nat) : Calm s (s.closure x more) := by
  unfold State.closure
  extract_lets s1 s2 s3 s4 s5
  have h1 : Calm s s1 := .after (State.holdupTake_frame ..) ((State.stringsWork_calm s).upd rfl rfl) rfl
  have h3 : Calm s s3 := .after (State.copySend_frame ..) (.after (State.listSend_frame ..) (h1.upd rfl rfl) rfl) rfl
  have h4 : Calm s s4 := .after (State.overrunsEnd_frame ..) (.after (State.excessWatch_frame ..)
    (.after (State.grazeAdmit_frame ..) (.after (State.throttle_frame ..) (.after (State.junction_frame ..) h3 rfl)
      rfl) rfl) rfl) rfl
  have h5 : Calm s s5 := .after (State.cleanTake_frame ..) (.after (State.health_frame ..)
    (.after (State.herdClose_frame ..) (.foldl h4 fun u p => .of_frame (State.sleepTake_frame u p) rfl) rfl) rfl) rfl
  exact .after (State.twRefresh_frame ..) (.after (State.journalCommit_frame ..) (.after (State.eventPush_frame ..)
    (.after (State.siteHeartbeat_frame ..) h5 rfl) rfl) rfl) rfl

theorem State.restLeave_calm (s : State) : Calm s s.restLeave := by
  unfold State.restLeave
  extract_lets _ _ s1
  split
  · exact .refl s
  · split
    · next h =>
      have hm : s.mode.mode ∉ heldModes := not_held h.1 (by decide)
      have h1 : Calm s s1 :=
        .ite (.after (State.cmdTo_frame ..) (State.setMode_calm hm ..) rfl) (State.setMode_calm hm ..)
      exact h1.upd rfl rfl
    · exact .refl s

/-- Survey is none of the three modes. -/
theorem State.surveyLeave_calm {s : State} (h : s.mode.mode = .survey) : Calm s s.surveyLeave :=
  ⟨fun _ => (State.surveyLeave_frame s).safeLatch_eq (by decide), fun hm => absurd hm (not_held h (by decide))⟩

theorem State.surveyWaitEnd_calm (s : State) : Calm s s.surveyWaitEnd := by
  unfold State.surveyWaitEnd
  split
  · next h => exact .ite ((State.surveyLeave_calm h).upd rfl rfl) (.refl s)
  · extract_lets _ s1
    have h1 : Calm s s1 := .of_eq rfl rfl
    split
    · split
      · exact h1
      · next h =>
        have hm : s1.mode.mode ∉ heldModes := fun hm => h (.inl (by
          simp only [heldModes, List.mem_cons, List.not_mem_nil, or_false] at hm ⊢
          exact hm.elim (fun e => .inr (.inr e)) (fun e => e.elim .inl (fun e => .inr (.inl e)))))
        exact h1.trans (State.setMode_calm hm ..)
    · exact .refl s

theorem State.rungApply_calm (s : State) : Calm s s.rungApply := by
  unfold State.rungApply
  extract_lets _ _ x3 _ x5 x6 _ _ x9 x10
  have h3 : Calm s x3 := .after (State.ev_frame ..) (.refl s) rfl
  clear_value x3
  have h5 : Calm s x5 := .ite (.refl s) (h3.upd rfl rfl)
  clear_value x5
  have h6 : Calm s x6 := .after (State.setElastic_frame ..) h5 rfl
  clear_value x6
  have h9 : Calm s x9 := .ite (h6.upd rfl rfl) (h5.upd rfl rfl)
  have h10 : Calm s x10 := .ite (.after (State.setElastic_frame ..) h9 rfl) h9
  exact .ite (h10.trans (State.enterSafe_calm ..)) h10

theorem State.strobeGraze_calm (s : State) : Calm s s.strobeGraze := by
  unfold State.strobeGraze
  extract_lets s1 _ s2
  have h1 : Calm s s1 := State.rungApply_calm s
  clear_value s1
  have h2 : Calm s s2 := h1.upd rfl rfl
  exact .foldl h2 fun u k => .of_frame (State.intervalApply_frame u k) rfl

theorem State.strobeLink_calm (s : State) : Calm s s.strobeLink := by
  unfold State.strobeLink
  extract_lets s0 _ _ s1
  have h0 : Calm s s0 := State.restLeave_calm s
  clear_value s0
  have h1 : Calm s s1 := h0.upd rfl rfl
  exact .foldl h1 fun u p => .after (State.targetsQueue_frame ..) (.of_frame (State.linkFrame_frame u p) rfl) rfl

theorem State.strobePair_calm (s : State) : Calm s s.strobePair := by
  unfold State.strobePair
  have h1 : Calm s s.siteFrame.pairFrame.stepAnnounce := .after (State.stepAnnounce_frame ..)
    (.after (State.pairFrame_frame ..) (.of_frame (State.siteFrame_frame s) rfl) rfl) rfl
  exact .after (State.reachJudge_frame ..) (.after (State.inputsTake_frame ..) (.after (State.handoverChoose_frame ..)
    (h1.trans (State.surveyWaitEnd_calm _)) rfl) rfl) rfl

theorem State.strobeStrings_calm (s : State) : Calm s s.strobeStrings := by
  unfold State.strobeStrings
  extract_lets s1 s2 _
  have h1 : Calm s s1 := .foldl (.refl s) fun u k => .after (State.recordOwn_frame ..)
    (.of_frame (State.connectContactors_frame u k) rfl) rfl
  have h2 : Calm s s2 :=
    Calm.trans (.foldl h1 fun u k => .of_frame (State.excOpened_frame u k) rfl) (State.idleEntry_calm _)
  clear_value s2
  exact h2.upd rfl rfl

theorem State.twCommit_calm (s : State) (b : Byte) : Calm s (s.twCommit b) := by
  have complete : ∀ u : State, Calm u u.twComplete := fun u => by
    unfold State.twComplete
    extract_lets _ s1 _ s2
    have h1 : Calm u s1 := .of_eq rfl rfl
    have h2 : Calm u s2 := .after (State.ev_frame ..) h1 rfl
    exact .ite h2 (h2.trans (State.enterSafe_calm ..))
  unfold State.twCommit
  extract_lets s1 _
  have h1 : Calm s s1 := .of_frame (State.twLapse_frame s) rfl
  clear_value s1
  exact .ite (h1.upd rfl rfl) (.ite (.ite (h1.trans (complete _)) (h1.upd rfl rfl))
    (.after (State.twDisarm_frame ..) h1 rfl))

/-! ### The start -/

/-- Fill that fails is left to Safe alone (R61). -/
theorem State.fillFailed_kept (s : State) : SafeKept s s.fillFailed := by
  unfold State.fillFailed
  extract_lets s1
  have h1 : Calm s s1 := .foldl (State.enterSafe_calm ..) fun u k => .after (State.startOpening_frame ..)
    (.of_frame (State.modPst_frame u k _) rfl) rfl
  clear_value s1
  exact h1.then (.of_start rfl (by simp))

/-- Fill that is done is left to Load. -/
theorem State.fillDone_kept {s : State} (h : s.mode.mode = .fill) (f : BootFind) : SafeKept s (s.fillDone f) where
  latch _ := (State.fillDone_frame s f).safeLatch_eq (by decide)
  safe hm := by simp [hm] at h
  fill _ := by simp [State.fillDone]
  load hm := by simp [hm] at h

theorem State.loadSafe_kept (s : State) : SafeKept s s.loadSafe := by
  refine .of_start ((State.loadSafe_frame s).safeLatch_eq (by decide)) ?_
  have h : s.loadSafe.mode.mode = .safe := by
    unfold State.loadSafe
    rw [(State.setPair_keeps ..).1]
    show (s.freezeEnd.setMode .safe 3 0).mode.mode = .safe
    rw [State.setMode_mode]
  simp [h]

theorem State.surveyBegin_mode (s : State) : s.surveyBegin.mode.mode = .survey := by
  unfold State.surveyBegin
  extract_lets c s1 s2 s3 s4 _ _
  have h1 : s1.mode.mode = .survey := by
    show (s.setMode .survey 2 0).mode.mode = .survey
    rw [State.setMode_mode]
  have h2 : s2.mode = s1.mode := (State.setPair_keeps ..).1
  have h3 : s3.mode = s1.mode := by
    show (if _ then _ else _ : State).mode = _
    split
    · exact (State.becomeLone_frame ..).mode_eq (by decide)
    · split
      · exact (State.setPair_keeps ..).1.trans h2
      · exact h2
  have h4 : s4.mode = s3.mode := (State.faultsBack_frame s3).mode_eq (by decide)
  refine (foldl_view (v := fun u : State => u.mode.mode) (fun u k => ?_) _ _).trans ?_
  · exact (State.surveyStart_frame u k 0).modeNow_eq (by decide)
  · show s4.mode.mode = .survey
    rw [h4, h3, h1]

/-- Load that completes is left to Survey where no latch stands. -/
theorem State.surveyBegin_kept {s : State} (h : s.mode.mode = .load) : SafeKept s s.surveyBegin where
  latch _ := (State.surveyBegin_frame s).safeLatch_eq (by decide)
  safe hm := by simp [hm] at h
  fill hm := by simp [hm] at h
  load _ := by simp [State.surveyBegin_mode]

/-! ### Partner commands -/

/-- A partner command begins its work only where its checks pass and the mode admits it; otherwise it changes no more
than its entry. -/
theorem State.evaluate_calm {s : State} {id : Word} {code steps : Nat} {checks : State → LedgerEntry → Checks}
    {strState : State → LedgerEntry → Nat} {go : State → LedgerEntry → State}
    (hgo : ∀ x e, x.mode = s.mode → e.code = code → (checks (s.atP 0) e).pass = true → s.admits e = true →
      Calm x (go x e)) : Calm s (s.evaluate id code steps checks strState go) := by
  unfold State.evaluate
  split
  · exact .refl s
  · next e _ =>
    split
    · next h =>
      obtain ⟨-, hc, -, -⟩ := h
      extract_lets s0
      have h0 : Calm s s0 := .of_eq rfl rfl
      split
      · exact .after (State.cmdRefuse_frame ..) h0 rfl
      · next hf =>
        have ha : s.admits e = true := by
          simp only [State.firstFail] at hf
          show s0.admits e = true
          grind
        have hb : Calm s (s0.cmdBegin id steps) := .after (State.cmdBegin_frame ..) h0 rfl
        exact hb.trans (hgo _ e ((State.cmdBegin_frame ..).mode_eq (by decide)) hc (State.pass_of_firstFail hf) ha)
    · exact .refl s

theorem State.evaluateStrings_calm {s : State} {id : Word} {code steps : Nat} {checks : State → LedgerEntry → Checks}
    {acc : State → LedgerEntry → Nat → Option Status}
    {go : State → LedgerEntry → List Nat → List (Nat × Status) → State} (hgo : ∀ x e l r, Calm x (go x e l r)) :
    Calm s (s.evaluateStrings id code steps checks acc go) := by
  unfold State.evaluateStrings
  split
  · exact .refl s
  · refine .ite ?_ (.refl s)
    extract_lets s0
    have h0 : Calm s s0 := .of_eq rfl rfl
    split
    · exact .after (State.cmdRefuse_frame ..) h0 rfl
    · exact (Calm.after (State.cmdBegin_frame s0 id steps) h0 rfl).trans (hgo ..)

/-- A MODE_REQUEST that passes its checks is admitted in none of the three modes (Table 3-10). -/
theorem request_not_held {s : State} {e : LedgerEntry} {st : State → Bool} (hc : e.code = 0x0301)
    (hp : (requestChecks st (s.atP 0) e).pass = true) (ha : s.admits e = true) : s.mode.mode ∉ heldModes := by
  simp only [Checks.pass, requestChecks, Bool.and_eq_true, decide_eq_true_eq] at hp
  obtain ⟨⟨-, lo, hi⟩, -⟩ := hp
  have hm : rdU e.body 0 1 = 3 ∨ rdU e.body 0 1 = 4 ∨ rdU e.body 0 1 = 5 ∨ rdU e.body 0 1 = 6 := by omega
  intro h
  simp only [heldModes, List.mem_cons, List.not_mem_nil, or_false] at h
  simp only [State.admits, AcceptRow.at, acceptRow, hc, if_true] at ha
  rcases hm with hm | hm | hm | hm <;> rcases h with h | h | h <;> simp [hm, h] at ha

end Sys2Proof.Machine
end

section
namespace Sys2Proof.Machine

/-! ### Every command -/

/-- Whatever the command answers keeps what R64 and the rows of Table 3-7 ask for. -/
structure Safely (s : State) (o : Host.Outcome State Fault Refusal) : Prop where
  kept : ∀ t, o = .next t → SafeKept s t

theorem Safely.ok {s u : State} (h : SafeKept s u) : Safely s (ok u) := by
  refine ⟨fun t ht => ?_⟩
  cases ht
  exact h

/-- A diagnostic that enters Safe, after calm work. -/
theorem SafeKept.of_sf12 {s u : State} {n d : Nat} {i : Bool} (h : Calm s u) : SafeKept s (u.sf12 n d i) :=
  (h.trans (State.sf12_calm u n d i)).kept

/-- A freeze after calm work. -/
theorem SafeKept.of_freeze {s u : State} {n : Nat} (h : Calm s u) : SafeKept s (u.freeze n) :=
  h.then (State.freeze_kept u n)

theorem execFillComplete_safely (p : Pulse) (bad : List (MemRegion × Nat)) (f : BootFind) (s : State) :
    Safely s (execFillComplete p bad f s) := by
  unfold execFillComplete
  extract_lets s0 s1
  have h0 : Calm s s0 := .of_eq rfl rfl
  refine .ok ?_
  split
  · next h =>
    have f1 : Frame [.prot, .mem, .jnl, .remap] s0 s1 :=
      .foldl (.refl ..) fun u b g => .after (State.hardFault_frame ..) g rfl
    have h1 : Calm s s1 := .after f1 h0 rfl
    exact .ite (h1.then (State.fillDone_kept ((f1.modeNow_eq (by decide)).trans h) f))
      (h1.then (State.fillFailed_kept _))
  · exact h0.kept

theorem execFillTimeout_safely (p : Pulse) (s : State) : Safely s (execFillTimeout p s) := by
  unfold execFillTimeout
  extract_lets s0
  have h0 : Calm s s0 := .of_eq rfl rfl
  exact .ok (.ite (h0.then (State.fillFailed_kept _)) h0.kept)

theorem execLoadComplete_safely (x : LoadIn) (s : State) : Safely s (execLoadComplete x s) := by
  unfold execLoadComplete
  extract_lets s0 _ s1
  have h0 : Calm s s0 := .of_eq rfl rfl
  have rejects : ∀ u, Calm s u → SafeKept s u.rejectTrial := fun u h => by
    unfold State.rejectTrial
    exact .of_restart (.upd h rfl rfl)
  have holds : ∀ u, Calm s u → Calm s u.hold := fun u h => by
    unfold State.hold
    have h1 : Calm s (u.evSelect 3) := .after (State.evSelect_frame ..) h rfl
    exact .upd h1 rfl rfl
  refine .ok ?_
  split
  · next h =>
    refine .ite (rejects _ h0) ?_
    have h1 : Calm s s1 :=
      .after (State.judgeSlots_frame ..) (.after (State.migrate_frame ..) (.upd h0 rfl rfl) rfl) rfl
    have m1 : s1.mode.mode = s0.mode.mode :=
      ((State.judgeSlots_frame ..).modeNow_eq (by decide)).trans ((State.migrate_frame ..).modeNow_eq (by decide))
    clear_value s1
    split
    · exact .ite (rejects _ h1) (.of_calm (holds _ h1))
    · extract_lets s2
      have h2 : Calm s s2 := .after (State.loadEnd_frame ..) (.after (State.loadImage_frame ..) h1 rfl) rfl
      have m2 : s2.mode.mode = .load := ((State.loadEnd_frame ..).modeNow_eq (by decide)).trans
        (((State.loadImage_frame ..).modeNow_eq (by decide)).trans (m1.trans h.1))
      exact .ite (h2.then (State.loadSafe_kept _)) (h2.then (State.surveyBegin_kept m2))
  · exact h0.kept

theorem execLoadOverrun_safely (p : Pulse) (s : State) : Safely s (execLoadOverrun p s) := by
  unfold execLoadOverrun
  extract_lets s0 u
  have h0 : Calm s s0 := .of_eq rfl rfl
  exact .ok (.ite (.of_restart (h0.upd rfl rfl)) h0.kept)

theorem execUpdActivateRestart_safely (s : State) : Safely s (execUpdActivateRestart s) := by
  unfold execUpdActivateRestart
  extract_lets s0
  have h0 : Calm s s0 := .of_eq rfl rfl
  exact .ok (.ite (.of_restart (h0.upd rfl rfl)) h0.kept)

theorem execPowerOn_safely (v : Int) (a b : Bool) (w : BitVec 2) (s : State) : Safely s (execPowerOn v a b w s) := by
  unfold execPowerOn
  extract_lets _ _ s0 s1
  have h0 : Calm s s0 := .of_eq rfl rfl
  have h1 : SafeKept s s1 := .of_restart h0
  exact .ok (h1.upd rfl rfl)

theorem execResetIn_safely (p : Pulse) (ms : Nat) (s : State) : Safely s (execResetIn p ms s) := by
  unfold execResetIn
  extract_lets s0
  have h0 : Calm s s0 := .of_eq rfl rfl
  exact .ok (.ite (.of_restart h0) h0.kept)

theorem execHoldupExhausted_safely (p : Pulse) (s : State) : Safely s (execHoldupExhausted p s) := by
  unfold execHoldupExhausted
  extract_lets s1
  have h1 : SafeKept s s1 := .of_restart (.of_eq rfl rfl)
  exact .ok (h1.upd rfl rfl)

theorem execInputReturned_safely (p : Pulse) (v : Int) (s : State) : Safely s (execInputReturned p v s) := by
  unfold execInputReturned
  extract_lets _ _ s0
  have h0 : Calm s s0 := .of_eq rfl rfl
  refine .ok ?_
  split
  · exact h0.kept
  · extract_lets _ s1
    have h1 : Calm s s1 := .after (State.lossEvent_frame ..) h0 rfl
    clear_value s1
    exact .ite (.of_calm (.upd h1 rfl rfl)) (.ite (.of_restart (.upd h0 rfl rfl))
      (.of_calm (.after (State.modLoss_frame ..) h0 rfl)))

theorem execInputLossFullPhaseEnd_safely (p : Pulse) (s : State) : Safely s (execInputLossFullPhaseEnd p s) := by
  unfold execInputLossFullPhaseEnd
  extract_lets s0
  have h0 : Calm s s0 := .of_eq rfl rfl
  refine .ok ?_
  split
  · exact h0.kept
  · extract_lets _ s1 _ _ s4
    have h1 : Calm s s1 := .after (State.lossGasp_frame ..) (.after (State.lossStep_frame ..) h0 rfl) rfl
    clear_value s1
    have h4 : Calm s s4 := h1.upd rfl rfl
    exact .ite (.ite (.of_restart h4) h4.kept) h0.kept

theorem execRestartAtPulse999_safely (s : State) : Safely s (execRestartAtPulse999 s) := by
  unfold execRestartAtPulse999
  extract_lets s0
  have h0 : Calm s s0 := .of_eq rfl rfl
  refine .ok ?_
  split
  · exact .of_restart h0
  · exact h0.kept

theorem execFreezeTrigger_safely (p : Pulse) (d : Fin 17) (s : State) : Safely s (execFreezeTrigger p d s) := by
  unfold execFreezeTrigger
  extract_lets s0
  have h0 : Calm s s0 := .of_eq rfl rfl
  exact .ok (.ite h0.kept (.of_freeze h0))

theorem execClockMonitorFault_safely (p : Pulse) (d : ClockDomain) (s : State) :
    Safely s (execClockMonitorFault p d s) := by
  unfold execClockMonitorFault
  extract_lets s0 _ s1 _
  have h1 : Calm s s1 := .of_eq rfl rfl
  clear_value s1
  have fails : ∀ u i, Calm s u → SafeKept s (u.sf12 3 d.code i) := fun _ _ h => .of_sf12 h
  have freezes : SafeKept s (s1.freeze 3) := .of_freeze h1
  have h2 : Calm s { s1 with time.oscFault := true } := .upd h1 rfl rfl
  refine .ok ?_
  cases d with
  | markhor => exact fails _ _ h1
  | time => exact fails _ _ h2
  | pwr => exact fails _ _ h1
  | core => exact freezes
  | eland => exact freezes
  | fabric => exact freezes
  | dram => exact freezes
  | _ => exact .of_calm (.after (State.diagFail_frame ..) h1 rfl)

theorem execFrameTokenMissing_safely (p : Pulse) (s : State) : Safely s (execFrameTokenMissing p s) := by
  unfold execFrameTokenMissing
  extract_lets s0 _ _ s1 _
  have h1 : Calm s s1 := .of_eq rfl rfl
  clear_value s1
  exact .ok (.ite (.of_freeze (.upd h1 rfl rfl)) h1.kept)

theorem execFreezeMaxExpiry_safely (p : Pulse) (s : State) : Safely s (execFreezeMaxExpiry p s) := by
  unfold execFreezeMaxExpiry
  extract_lets s0
  have h0 : Calm s s0 := .of_eq rfl rfl
  exact .ok (.ite (.of_sf12 (.after (State.ev_frame ..) h0 rfl)) h0.kept)

theorem execSf12Fault_safely (p : Pulse) (d : Fin 17) (w : Word) (s : State) : Safely s (execSf12Fault p d w s) := by
  unfold execSf12Fault
  extract_lets s0 _
  have h0 : Calm s s0 := .of_eq rfl rfl
  exact .ok (.ite (.of_sf12 h0) (.ite (.of_calm (.after (State.verifyFault_frame ..) h0 rfl)) h0.kept))

theorem execFrameStrobeFault_safely (p : Pulse) (n : Option Nat) (s : State) :
    Safely s (execFrameStrobeFault p n s) := by
  unfold execFrameStrobeFault
  extract_lets s0 _ _ s1 _
  have h1 : Calm s s1 := .of_eq rfl rfl
  clear_value s1
  exact .ok (.ite (.of_sf12 (.upd h1 rfl rfl)) h1.kept)

/-- A diagnostic of Table 11-6 that fails or passes. -/
theorem diagnosed_kept {s u : State} (h : Calm s u) {c : Prop} [Decidable c] (n d : Nat) (i : Bool) :
    SafeKept s (if c then u.sf12 n d i else u.diagPass n) :=
  .ite (.of_sf12 h) (.of_calm (.after (State.diagPass_frame ..) h rfl))

theorem execSafeOutReadback_safely (p : Pulse) (a b : Bool) (s : State) : Safely s (execSafeOutReadback p a b s) := by
  unfold execSafeOutReadback
  extract_lets s0 _ _ _ s1
  have h1 : Calm s s1 := .of_eq rfl rfl
  clear_value s1
  exact .ok (.ite (.of_sf12 h1) (.ite (.of_calm (.after (State.diagPass_frame ..) h1 rfl)) h1.kept))

theorem execLimitCheckerSelftest_safely (p : Pulse) (v : Verdict) (s : State) :
    Safely s (execLimitCheckerSelftest p v s) := by
  unfold execLimitCheckerSelftest
  extract_lets s0
  have h0 : Calm s s0 := .of_eq rfl rfl
  exact .ok (diagnosed_kept h0 ..)

theorem execImageCrcCheck_safely (p : Pulse) (v : Verdict) (s : State) : Safely s (execImageCrcCheck p v s) := by
  unfold execImageCrcCheck
  extract_lets s0
  have h0 : Calm s s0 := .of_eq rfl rfl
  exact .ok (diagnosed_kept h0 ..)

theorem execMarkhorScrub_safely (p : Pulse) (errs : List MemErr) (s : State) :
    Safely s (execMarkhorScrub p errs s) := by
  unfold execMarkhorScrub
  refine .ok (Calm.kept (.foldl (.of_eq rfl rfl) fun u e => ?_))
  split
  · exact .refl u
  · extract_lets s1
    have h1 : Calm u s1 := .after (State.modMem_frame ..) (.of_frame (State.ev_frame ..) rfl) rfl
    exact Calm.trans (.after (State.hardFault_frame ..) h1 rfl) (State.sf12_calm ..)
  · exact .after (State.corrected_frame ..) (.of_eq rfl rfl) rfl

theorem execTwStop_safely (p : Pulse) (n : Nat) (d : Bytes) (s : State) : Safely s (execTwStop p n d s) := by
  unfold execTwStop
  extract_lets s0 s1 s2 _
  have h0 : Calm s s0 := .of_eq rfl rfl
  have h1 : Calm s s1 := .ite (.foldl h0 State.twCommit_calm) h0
  have h2 : Calm s s2 := .after (State.twEnd_frame ..) h1 rfl
  clear_value s2
  exact .ok (.of_calm (.after (State.twMarkhor_frame ..) (.upd h2 rfl rfl) rfl))

/-- A byte for `TW_SAFE_REQ` that takes effect. -/
theorem twCommitted_kept (p : Nat) (b : Byte) (s : State) : SafeKept s ((s.atP p).twCommit b).twMarkhor :=
  have h0 : Calm s (s.atP p) := .of_eq rfl rfl
  .of_calm (.after (State.twMarkhor_frame ..) (h0.trans (State.twCommit_calm ..)) rfl)

theorem execCommandWord_safely (k : StrIx) (i v b : BitVec 20) (w : LineWord) (c : Int) (s : State) :
    Safely s (execCommandWord k i v b w c s) := by
  unfold execCommandWord
  extract_lets _ _ x3 _ _ _ _ _ _ _ _ _ _ _ _ _ x17 x18 _ x20 x21 x22
  have hp : ∀ p, Calm s (s.atP p) := fun _ => .of_eq rfl rfl
  have h3 : Calm s x3 := (hp _).trans (State.wordWork_calm ..)
  clear_value x3
  have h17 : Calm s x17 := .after (State.modPp_frame ..) h3 rfl
  have h18 : Calm s x18 := .ite (.after (State.keepHeld_frame ..) (.after (State.powerAbsence_frame ..)
    (.after (State.takeInterval_frame ..) h17 rfl) rfl) rfl) h17
  clear_value x18
  have h20 : Calm s x20 := .upd h18 rfl rfl
  clear_value x20
  have h21 : Calm s x21 := .after (State.inhWatch_frame ..) (.upd h20 rfl rfl) rfl
  have h22 : Calm s x22 := .ite (.after (State.handoverTake_frame ..) h21 rfl) h21
  split
  · exact .ok (.of_calm (.upd h3 rfl rfl))
  · refine .ok ?_
    split
    · exact .ite (.of_calm (.after (State.lossOpenLow_frame ..) h22 rfl)) h22.kept
    · exact h22.kept

theorem execFrameClosure_safely (x : Sensors) (more : Nat) (s : State) : Safely s (execFrameClosure x more s) := by
  unfold execFrameClosure
  extract_lets s0 _ s1
  have h0 : Calm s s0 := .of_eq rfl rfl
  have h1 : Calm s s1 := .after (State.sensorsTake_frame ..) h0 rfl
  exact .ok (.ite (.ite (.of_calm (h1.trans (State.closure_calm ..))) h1.kept) h0.kept)

theorem execFrameStrobe_safely (s : State) : Safely s (execFrameStrobe s) := by
  unfold execFrameStrobe
  extract_lets s0 s1
  have h0 : Calm s s0 := .of_frame (State.linkClock_frame s) rfl
  have h1 : Calm s s1 := .after (State.sf10Frame_frame ..) (.after (State.diagsPass_frame ..)
    (.after (State.twMarkhor_frame ..) (.after (State.twAge_frame ..) (.after (State.derateRelease_frame ..)
    (.after (State.portsFrame_frame ..) (.after (State.tick_frame ..) h0 rfl) rfl) rfl) rfl) rfl) rfl) rfl
  clear_value s1
  have runs : Calm s s1.strobePair.strobeGraze.strobeLink.strobeStrings :=
    (((h1.trans (State.strobePair_calm _)).trans (State.strobeGraze_calm _)).trans (State.strobeLink_calm _)).trans
      (State.strobeStrings_calm _)
  exact .ok (.ite h0.kept (.of_calm (.after (State.thermalLoops_frame ..)
    (.ite (.after (State.canTimeRef_frame ..) runs rfl) h1) rfl)))

theorem execSurveyEnd_safely (s : State) : Safely s (execSurveyEnd s) := by
  unfold execSurveyEnd
  extract_lets s0 s1 _
  have h0 : Calm s s0 := .of_eq rfl rfl
  refine .ok ?_
  split
  · next h =>
    have h1 : Calm s s1 := .after (State.surveyReconcile_frame ..) h0 rfl
    have m1 : s1.mode.mode = .survey := ((State.surveyReconcile_frame s0).modeNow_eq (by decide)).trans h.1
    clear_value s1
    exact .ite (.of_calm (.upd h1 rfl rfl)) (.of_calm (h1.trans (State.surveyLeave_calm m1)))
  · exact h0.kept

theorem execOpenWaitExpiry_safely (k : StrIx) (s : State) : Safely s (execOpenWaitExpiry k s) := by
  unfold execOpenWaitExpiry
  extract_lets s0
  have h0 : Calm s s0 := .of_eq rfl rfl
  refine .ok ?_
  split
  · exact .ite (.of_calm ((Calm.after (State.openNow_frame ..) h0 rfl).trans (State.idleEntry_calm _))) h0.kept
  · exact h0.kept

theorem execModeSafeRequest_safely (id : Word) (s : State) : Safely s (execModeSafeRequest id s) :=
  .ok (Calm.kept (State.evaluate_calm fun x e _ _ _ _ =>
    (Calm.of_frame (State.cmdDone_frame x e.id) rfl).trans (State.enterSafe_calm ..)))

theorem execAccDebugUnlock_safely (id : Word) (s : State) : Safely s (execAccDebugUnlock id s) := by
  refine .ok (Calm.kept (State.evaluate_calm fun x e _ _ _ _ => ?_))
  extract_lets s1 s2 s3
  have h2 : Calm x s2 := .after (State.ev_frame ..) (.of_frame (State.cmdDone_frame x e.id) rfl) rfl
  have h3 : Calm x s3 := h2.trans (State.enterSafe_calm ..)
  clear_value s3
  exact h3.upd rfl rfl

/-- A mode that a MODE_REQUEST enters at once. -/
theorem request_calm {s : State} {id : Word} {steps : Nat} {st : State → Bool} {go : State → LedgerEntry → State}
    (hgo : ∀ x e, x.mode.mode ∉ heldModes → Calm x (go x e)) :
    Calm s (s.evaluate id 0x0301 steps (requestChecks st) noStr go) :=
  State.evaluate_calm fun x e hx hc hp ha => hgo x e (hx ▸ request_not_held hc hp ha)

theorem entered_calm {x : State} (h : x.mode.mode ∉ heldModes) (m : Mode) (c : Nat) (d id : Word) :
    Calm x ((x.setMode m c d).cmdDone id) := .after (State.cmdDone_frame ..) (State.setMode_calm h ..) rfl

theorem execModeRequestServe_safely (id : Word) (s : State) : Safely s (execModeRequestServe id s) :=
  .ok (Calm.kept (.ite (.refl s) (request_calm fun _ _ h => entered_calm h ..)))

theorem execModeRequestRest_safely (id : Word) (s : State) : Safely s (execModeRequestRest id s) :=
  .ok (Calm.kept (.ite (.refl s) (request_calm fun _ _ h => entered_calm h ..)))

theorem execModeRequestMaintain_safely (id : Word) (s : State) : Safely s (execModeRequestMaintain id s) :=
  .ok (Calm.kept (.ite (.refl s) (request_calm fun _ _ h => entered_calm h ..)))

theorem execModeRequestIdle_safely (id : Word) (s : State) : Safely s (execModeRequestIdle id s) := by
  refine .ok (Calm.kept (.ite (.refl s) (request_calm fun x e h => ?_)))
  have h1 : Calm x (x.cmdStep e.id 1) := .of_frame (State.cmdStep_frame ..) rfl
  split
  · exact Calm.trans (.after (State.targetIdle_frame ..) h1 rfl) (State.idleEntry_calm _)
  · exact h1.upd rfl rfl
  · exact entered_calm h ..

theorem execModeStringEnableOff_safely (id : Word) (s : State) : Safely s (execModeStringEnableOff id s) := by
  refine .ok (Calm.kept (.ite (.refl s) (State.evaluateStrings_calm fun x e ks r => ?_)))
  extract_lets _ s1 s2 s3
  have h1 : Calm x s1 := .of_eq rfl rfl
  have h2 : Calm x s2 := .after (State.abortConnects_frame ..) h1 rfl
  have h3 : Calm x s3 := .foldl h2 fun u k => .of_frame (State.orderOpen_frame ..) rfl
  exact Calm.trans (.after (State.cmdEndStrings_frame ..) h3 rfl) (State.idleEntry_calm _)

/-- A command whose effect lists neither the mode nor the latch. -/
theorem exec_calm {i : Instr} {s t : State} (h : exec i s = .next t)
    (hv : ((writes i).contains .modeNow || (writes i).contains .safeLatch) = false) : Calm s t :=
  .of_frame (exec_keepsTheRest h).1 hv

/-- Every command but MODE_SAFE_RESET. -/
theorem exec_safely {i : Instr} (s : State) (hi : ∀ id, i ≠ .modeSafeReset id) : Safely s (exec i s) := by
  cases i
  case modeSafeReset id => exact absurd rfl (hi id)
  case fillComplete => exact execFillComplete_safely ..
  case fillTimeout => exact execFillTimeout_safely ..
  case loadComplete => exact execLoadComplete_safely ..
  case loadOverrun => exact execLoadOverrun_safely ..
  case updActivateRestart => exact execUpdActivateRestart_safely ..
  case powerOn => exact execPowerOn_safely ..
  case resetIn => exact execResetIn_safely ..
  case holdupExhausted => exact execHoldupExhausted_safely ..
  case inputReturned => exact execInputReturned_safely ..
  case inputLossFullPhaseEnd => exact execInputLossFullPhaseEnd_safely ..
  case restartAtPulse999 => exact execRestartAtPulse999_safely ..
  case freezeTrigger => exact execFreezeTrigger_safely ..
  case freezeMaxExpiry => exact execFreezeMaxExpiry_safely ..
  case clockMonitorFault => exact execClockMonitorFault_safely ..
  case frameTokenMissing => exact execFrameTokenMissing_safely ..
  case sf12Fault => exact execSf12Fault_safely ..
  case frameStrobeFault => exact execFrameStrobeFault_safely ..
  case safeOutReadback => exact execSafeOutReadback_safely ..
  case limitCheckerSelftest => exact execLimitCheckerSelftest_safely ..
  case imageCrcCheck => exact execImageCrcCheck_safely ..
  case markhorScrub => exact execMarkhorScrub_safely ..
  case twStop => exact execTwStop_safely ..
  case twSafeReqArm => exact .ok (twCommitted_kept ..)
  case twSafeReqComplete => exact .ok (twCommitted_kept ..)
  case twSafeReqDisarm => exact .ok (twCommitted_kept ..)
  case commandWord => exact execCommandWord_safely ..
  case frameClosure => exact execFrameClosure_safely ..
  case frameStrobe => exact execFrameStrobe_safely ..
  case surveyEnd => exact execSurveyEnd_safely ..
  case openWaitExpiry => exact execOpenWaitExpiry_safely ..
  case modeSafeRequest => exact execModeSafeRequest_safely ..
  case accDebugUnlock => exact execAccDebugUnlock_safely ..
  case modeRequestIdle => exact execModeRequestIdle_safely ..
  case modeRequestServe => exact execModeRequestServe_safely ..
  case modeRequestRest => exact execModeRequestRest_safely ..
  case modeRequestMaintain => exact execModeRequestMaintain_safely ..
  case modeStringEnableOff => exact execModeStringEnableOff_safely ..
  all_goals exact ⟨fun t h => (exec_calm h rfl).kept⟩

/-- Settles O13: every command but MODE_SAFE_RESET keeps a latch that stands. -/
theorem safeLatchStandsUntilReset : Obligations.SafeLatchStandsUntilReset := by
  intro s t h hl hp
  unfold step at h
  split at h
  · cases h
    rfl
  · next c rest hc =>
    have k := (exec_safely { s with pending := rest } (i := c) fun id hi => hp id rest (by rw [hc, hi])).kept t h
    exact k.latch hl

/-- MODE_SAFE_RESET leaves the mode to the restart that it orders. -/
theorem modeSafeReset_mode {id : Word} {s t : State} (h : exec (.modeSafeReset id) s = .next t) :
    t.mode.mode = s.mode.mode := (exec_keepsTheRest h).1.modeNow_eq (by simp [writes])

/-- Settles O14: every command keeps to the rows of Table 3-7. -/
theorem safeIsLeftOnlyByAStart : Obligations.SafeIsLeftOnlyByAStart := by
  intro s t h
  unfold step at h
  split at h
  · cases h
    have k := (Calm.refl s).kept
    exact ⟨k.safe, k.fill, k.load⟩
  · next c rest _ =>
    by_cases hc : ∃ id, c = .modeSafeReset id
    · obtain ⟨id, rfl⟩ := hc
      have e : t.mode.mode = s.mode.mode := modeSafeReset_mode (s := { s with pending := rest }) h
      exact ⟨fun hm => by simp [e, hm], fun hm => by simp [e, hm], fun hm => by simp [e, hm]⟩
    · have k := (exec_safely { s with pending := rest } fun id hi => hc ⟨id, hi⟩).kept t h
      exact ⟨k.safe, k.fill, k.load⟩

end Sys2Proof.Machine
end

section
/-! ## The state after reset -/
namespace Sys2Proof.Machine

theorem State.reset_tablesOk : State.reset.tablesOk := by
  unfold State.tablesOk
  decide

/-- The rings are empty. -/
theorem State.reset_journalsOk : State.reset.journalsOk := by
  intro j
  cases j <;> decide

/-- The per-string tables are empty, so every string reads as its default. -/
theorem State.reset_ports (k : Nat) : (State.reset.pst k).permit = false ∧ (State.reset.pp k).kReq = false ∧
    (State.reset.pp k).hold = false := ⟨rfl, rfl, rfl⟩

/-- Settles O2: the tables, the journals and the ports by the lemmas above, the other fields as the reset state writes
them. -/
theorem resetState : Obligations.ResetState :=
  ⟨State.reset_tablesOk, State.reset_journalsOk, rfl, rfl, rfl, rfl, rfl, rfl, rfl, State.reset_ports⟩

end Sys2Proof.Machine
end

section
/-! ## Supply and reset -/
namespace Sys2Proof.Machine

/-- What a start of the whole module leaves (Table 3-7), the safe outputs and the latch among it. -/
structure Started (s t : State) (c : Byte) : Prop where
  mode : t.mode.mode = .fill
  cause : t.sys.resetCause = c
  safeA : t.prot.safeA = true
  safeB : t.prot.safeB = true
  latch : t.jnl.safeLatch = s.jnl.safeLatch
  ledger : t.site.ledger = s.site.ledger

theorem State.restart_started (s : State) {c : Byte} (h : c ≠ 0x04) : Started s (s.restart c) c := by
  unfold State.restart
  rw [if_neg h]
  exact ⟨rfl, rfl, rfl, rfl, rfl, rfl⟩

theorem holdupExhausted_ends (p : Pulse) (s : State) :
    ∃ t, exec (.holdupExhausted p) s = .next t ∧ t.psv.powered = false ∧ t.psv.huE = 0 ∧ t.mode.mode = .fill ∧
      t.prot.safeA = true ∧ t.prot.safeB = true ∧ t.jnl.safeLatch = s.jnl.safeLatch :=
  have r := State.restart_started (s.atP p.val) (c := 0x01) (by decide)
  ⟨_, rfl, rfl, rfl, r.mode, r.safeA, r.safeB, r.latch⟩

theorem powerOn_starts (v : Int) (a b : Bool) (w : BitVec 2) (s : State) :
    ∃ t, exec (.powerOn v a b w) s = .next t ∧ t.psv.powered = true ∧ t.tw.pins = w.toNat ∧
      t.sys.slotOk = (slotOfPins a b).isSome ∧ t.sys.slot = (slotOfPins a b).getD s.sys.slot ∧ t.psv.vin = v ∧
      t.psv.state = .normal ∧ t.mode.mode = .fill ∧ t.sys.resetCause = 0x01 ∧ t.prot.safeA = true ∧
      t.prot.safeB = true ∧ t.jnl.safeLatch = s.jnl.safeLatch ∧ t.site.ledger = s.site.ledger := by
  have r := State.restart_started { s with
    sys.slot := (slotOfPins a b).getD s.sys.slot, sys.slotOk := (slotOfPins a b).isSome, tw.pins := w.toNat }
    (c := 0x01) (by decide)
  exact ⟨_, rfl, rfl, rfl, rfl, rfl, rfl, rfl, r.mode, r.cause, r.safeA, r.safeB, r.latch, r.ledger⟩

theorem resetIn_starts (p : Pulse) (ms : Nat) (s : State) (hm : 10 ≤ ms) (hp : s.psv.powered = true) :
    ∃ t, exec (.resetIn p ms) s = .next t ∧ t.mode.mode = .fill ∧ t.sys.resetCause = 0x03 ∧ t.prot.safeA = true ∧
      t.prot.safeB = true ∧ t.jnl.safeLatch = s.jnl.safeLatch :=
  have r := State.restart_started (s.atP p.val) (c := 0x03) (by decide)
  next_pos rfl ⟨hm, hp⟩ ⟨_, rfl, r.mode, r.cause, r.safeA, r.safeB, r.latch⟩

theorem resetIn_short (p : Pulse) (ms : Nat) (s : State) (hm : ms < 10) :
    exec (.resetIn p ms) s = .next (s.atP p.val) := by
  show ok (if 10 ≤ ms ∧ _ then _ else s.atP p.val) = _
  rw [if_neg fun h => absurd h.1 (by omega)]
  rfl

theorem holdupCapacityMeasure_measures (p : Pulse) (c : Nat) (f : Int) (s : State) :
    ∃ t, exec (.holdupCapacityMeasure p c f) s = .next t ∧ t.psv.huCap = c ∧ t.psv.huFull = f ∧
      t.psv.huMeasured = s.now ∧ t.psv.holdupCond = (if f < 25 then 2 else if f < 60 then 1 else 0) :=
  ⟨_, rfl, rfl, rfl, rfl, rfl⟩

theorem psvSupply_leaves (p : Pulse) (v : Int) (s : State) (hs : s.psv.state = .normal) (hv : v < 18000 ∨ 32000 < v) :
    ∃ t, exec (.psvSupply p v) s = .next t ∧ t.psv.state = .outOfRange ∧ t.psv.vin = v := by
  have out : (!(decide (18000 ≤ v) && decide (v ≤ 32000))) = true := by
    simp only [Bool.not_eq_true', Bool.and_eq_false_iff, decide_eq_false_iff_not]
    omega
  exact next_pos rfl ⟨hs, out⟩ ⟨_, rfl, rfl, (congrArg PsvSt.vin (State.ev_psv ..) :)⟩

theorem psvSupply_returns (p : Pulse) (v : Int) (s : State) (hs : s.psv.state = .outOfRange) (lo : 18000 ≤ v)
    (hi : v ≤ 32000) :
    ∃ t, exec (.psvSupply p v) s = .next t ∧ t.psv.state = .normal ∧ t.psv.vin = v ∧ t.psv.inRangeFrom = s.now := by
  have hn : ¬s.psv.state = .normal := by rw [hs]; nofun
  exact next_neg rfl (fun h => hn h.1) (next_pos rfl ⟨hs, by simp [lo, hi]⟩
    ⟨_, rfl, rfl, (congrArg PsvSt.vin (State.ev_psv ..) :), rfl⟩)

/-- Each of the eight inputs is converted by its own mode; an input that is off keeps its value. -/
theorem analogInputConversion_converts (vals : List Int) (s : State) :
    ∃ t, exec (.analogInputConversion vals) s = .next t ∧
      ∀ n, n < 8 → tget t.psv.ai n =
        if s.aiModeOf n = 0 then tget s.psv.ai n
        else ((vals[n]?).map (fun x => sat32 (s.calibrated (112 + 16 * n + 8 * (s.aiModeOf n - 1)) x))).getD
          (tget s.psv.ai n) := by
  refine ⟨_, rfl, fun n hn => ?_⟩
  obtain ⟨nodup, mem⟩ := upFrom_nodup 0 8
  dsimp only
  rw [tget_tmodAll_mem _ _ _ nodup ((mem n).mpr (by omega))]
  have m : (s.atP 900).aiModeOf n = s.aiModeOf n := rfl
  rw [m]
  cases s.aiModeOf n with
  | zero => rfl
  | succ m => cases vals[n]? <;> rfl

/-- Settles O53: one lemma per row. -/
theorem supplyAndResetCommandsComplete : Obligations.SupplyAndResetCommandsComplete :=
  ⟨holdupExhausted_ends, powerOn_starts, resetIn_starts, resetIn_short, holdupCapacityMeasure_measures,
    psvSupply_leaves, psvSupply_returns, analogInputConversion_converts⟩

end Sys2Proof.Machine
end

section
/-! ## The start: the end of Fill, Load, and the restarts that follow it -/
namespace Sys2Proof.Machine

/-! ### The end of Fill (R61, R536) -/

theorem fillComplete_loads (p : Pulse) (f : BootFind) (s : State) (h : s.mode.mode = .fill) :
    ∃ t, exec (.fillComplete p [] f) s = .next t ∧ t.mode.mode = .load ∧ t.mode.entryFrame = s.now ∧
      t.upd = (if s.sys.slotOk then s.upd.boot f else { s.upd with bootHold := true }) ∧ t.cfg = s.cfg ∧
      t.jnl = s.jnl := by
  refine next_pos rfl h ⟨(s.atP p.val).fillDone f, rfl, ?_⟩
  unfold State.fillDone
  extract_lets s1
  have h1 : Frame [.power, .grz] (s.atP p.val) s1 :=
    .after (State.junctionFill_frame ..) (.after (State.pseqSet_frame ..) (.refl _ _) rfl) rfl
  have sys : s1.sys = s.sys := h1.sys_eq (by decide)
  have upd : s1.upd = s.upd := h1.upd_eq (by decide)
  refine ⟨rfl, h1.frame_eq (by decide), ?_, h1.cfg_eq (by decide), h1.jnl_eq (by decide)⟩
  show (if s1.sys.slotOk then s1.upd.boot f else { s1.upd with bootHold := true }) = _
  rw [sys, upd]

/-- Opening a string leaves each `TRIP`. -/
theorem State.startOpening_trip (s : State) (k j : Nat) : ((s.startOpening k).pst j).trip = (s.pst j).trip := by
  unfold State.startOpening
  rw [State.modPp_pst, State.modPst_pst]
  split
  · next h => rw [h]
  · rfl

/-- A Fill that fails ends in Safe with every `TRIP` set. -/
theorem State.fillFailed_safe (s : State) : s.fillFailed.mode.mode = .safe ∧ s.fillFailed.mode.noRuntime = true ∧
    s.fillFailed.jnl.safeLatch = (if s.jnl.safeLatch = 0 then 0x01 else s.jnl.safeLatch) ∧
    s.fillFailed.prot.safeA = true ∧ s.fillFailed.prot.safeB = true ∧
    ∀ k, k < 16 → (s.fillFailed.pst k).trip = true := by
  unfold State.fillFailed
  extract_lets s1
  obtain ⟨rest, -, latch⟩ := State.enterSafe_protRest s 0x01 0
  have f1 : Frame [.power, .prot] (s.enterSafe 0x01 0) s1 := .foldl (.refl _ _) fun u k h =>
    .after (State.startOpening_frame ..) (.after (State.modPst_frame ..) h rfl) rfl
  obtain ⟨sa, sb⟩ := f1.same .safeOuts (by decide)
  rw [← State.protRest_safeA, rest] at sa
  rw [← State.protRest_safeB, rest] at sb
  have latch1 : s1.jnl.safeLatch = _ := (f1.safeLatch_eq (by decide)).trans latch
  have trips : ∀ k ∈ allStr, (s1.pst k).trip = true := by
    refine foldl_each (P := fun u j => (u.pst j).trip = true) (fun u j => ?_) (fun u j i h => ?_) allStr _
    · rw [State.startOpening_trip, State.modPst_pst, if_pos rfl]
    · rw [State.startOpening_trip, State.modPst_pst]
      split
      · rfl
      · exact h
  clear_value s1
  exact ⟨rfl, rfl, latch1, sa.symm, sb.symm, fun k hk => trips k (((upFrom_nodup 0 16).2 k).mpr (by omega))⟩

theorem fillTimeout_fails (p : Pulse) (s : State) (h : s.mode.mode = .fill) :
    ∃ t, exec (.fillTimeout p) s = .next t ∧ t.mode.mode = .safe ∧ t.mode.noRuntime = true ∧
      t.jnl.safeLatch = (if s.jnl.safeLatch = 0 then 0x01 else s.jnl.safeLatch) ∧
      t.prot.safeA = true ∧ t.prot.safeB = true ∧ ∀ k, k < 16 → (t.pst k).trip = true :=
  next_pos rfl h ⟨_, rfl, State.fillFailed_safe (s.atP p.val)⟩

/-! ### The end of Load (R62, R64, R65) -/

theorem chooseSlot_none (r0 r1 q0 q1 : Nat) : chooseSlot r0 r1 q0 q1 = none ↔ r0 ≠ 0 ∧ r1 ≠ 0 := by
  unfold chooseSlot
  split
  · split <;> simp_all
  · split <;> simp_all

/-- Load with its slots judged. -/
def State.slotsJudged (s : State) (x : LoadIn) : State :=
  ({ s.atP 0 with jnl.herdBad := x.herdBad } : State).migrate.judgeSlots x

/-- Load of a slot up to the change of the mode. -/
def State.loadedWith (s : State) (x : LoadIn) (k : Nat) : State := ((s.slotsJudged x).loadImage k x.patchBad).loadEnd

/-- Load runs: the module is in Load with a runtime, is not held, and its stored state is fit (R62). -/
structure Loads (x : LoadIn) (s : State) : Prop where
  mode : s.mode.mode = .load
  runs : s.runtimeRuns = true
  free : s.mode.configHold = false
  fit : s.stateUnfit x = false

theorem Loads.of_settled {x : LoadIn} {s : State} (hm : s.mode.mode = .load) (hr : s.runtimeRuns = true)
    (hh : s.mode.configHold = false) (ht : s.upd.trial = false) : Loads x s :=
  ⟨hm, hr, hh, by simp [State.stateUnfit, ht]⟩

/-- Some slot holds an image that passes every check. -/
def someImage (x : LoadIn) (s : State) : Prop :=
  judgeImage s.cfg.slot0 x.chain0 (requiredOk x.cred0) = 0 ∨ judgeImage s.cfg.slot1 x.chain1 (requiredOk x.cred1) = 0

theorem State.slotsJudged_frame (s : State) (x : LoadIn) :
    Frame [.time, .site, .ledgerOther, .upd, .jnl, .ledger, .banks, .rollback, .wearRecs, .cfg] s (s.slotsJudged x) :=
  .after (State.judgeSlots_frame ..) (.after (State.migrate_frame ..) (.upd (.refl _ _) rfl) rfl) rfl

/-- The judged slots are those of before: a migration leaves the images. -/
theorem State.slotsJudged_slot (s : State) (x : LoadIn) : (s.slotsJudged x).cfg.slot =
    chooseSlot (judgeImage s.cfg.slot0 x.chain0 (requiredOk x.cred0))
      (judgeImage s.cfg.slot1 x.chain1 (requiredOk x.cred1)) (imageSeqOf s.cfg.slot0) (imageSeqOf s.cfg.slot1) := by
  have cfg : ({ s.atP 0 with jnl.herdBad := x.herdBad } : State).migrate.cfg = s.cfg :=
    (State.migrate_frame ..).cfg_eq (by decide)
  rw [← cfg]
  rfl

/-- A migration makes no trial. -/
theorem State.migrate_trial {s : State} (h : s.upd.trial = false) : s.migrate.upd.trial = false := by
  unfold State.migrate
  dsimp only
  rw [if_pos (by simp [h])]
  unfold State.useSet
  split
  · exact h
  · exact h

theorem State.slotsJudged_trial {s : State} (x : LoadIn) (h : s.upd.trial = false) :
    (s.slotsJudged x).upd.trial = false :=
  (congrArg UpdSt.trial ((State.judgeSlots_frame ..).upd_eq (by decide))).trans (State.migrate_trial h)

theorem State.loadedWith_frame (s : State) (x : LoadIn) (k : Nat) :
    Frame [.sys, .time, .mode, .linkCfg, .cfeCfg, .cfgReplaced, .meas, .cells, .est, .thm, .herd, .herdTab, .power,
      .prot, .dsp, .grz, .pair, .site, .bus, .tw, .cfg, .upd, .mem, .jnl, .acc, .psv, .policies, .enabled, .ledger,
      .ledgerOther, .banks, .rollback, .wearRecs] s (s.loadedWith x k) :=
  .after (State.loadEnd_frame ..) (.after (State.loadImage_frame ..) ((State.slotsJudged_frame s x).mono rfl) rfl) rfl

/-- Load completes with the slot it has chosen. -/
theorem Loads.completes {x : LoadIn} {s : State} (h : Loads x s) (hi : someImage x s) : ∃ k,
    (s.slotsJudged x).cfg.slot = some k ∧
    exec (.loadComplete x) s =
      .next (if s.jnl.safeLatch ≠ 0 then (s.loadedWith x k).loadSafe else (s.loadedWith x k).surveyBegin) := by
  obtain ⟨hm, hr, hh, hf⟩ := h
  obtain ⟨k, hk⟩ : ∃ k, (s.slotsJudged x).cfg.slot = some k := by
    refine Option.ne_none_iff_exists'.mp fun hn => ?_
    rw [State.slotsJudged_slot, chooseSlot_none] at hn
    exact hi.elim hn.1 hn.2
  refine ⟨k, hk, ?_⟩
  show execLoadComplete x s = _
  unfold execLoadComplete
  extract_lets s0 _ s1
  rw [if_pos ⟨hm, hr, by simp [s0, hh]⟩, if_neg (by simp [show s0.stateUnfit x = false from hf])]
  have latch : ((s1.loadImage k x.patchBad).loadEnd).jnl.safeLatch = s.jnl.safeLatch :=
    (State.loadedWith_frame s x k).safeLatch_eq (by decide)
  rw [show s1.cfg.slot = some k from hk]
  dsimp only
  rw [latch]
  rfl

/-- Load of a module without a readable image holds (R65). -/
theorem loadComplete_holds (x : LoadIn) (s : State) (hm : s.mode.mode = .load) (hr : s.runtimeRuns = true)
    (hh : s.mode.configHold = false) (ht : s.upd.trial = false)
    (h0 : judgeImage s.cfg.slot0 x.chain0 (requiredOk x.cred0) ≠ 0)
    (h1 : judgeImage s.cfg.slot1 x.chain1 (requiredOk x.cred1) ≠ 0) :
    ∃ t, exec (.loadComplete x) s = .next t ∧ t.mode.mode = .load ∧ t.mode.configHold = true := by
  have fit := (Loads.of_settled (x := x) hm hr hh ht).fit
  have none : (s.slotsJudged x).cfg.slot = none := by
    rw [State.slotsJudged_slot]
    exact (chooseSlot_none ..).mpr ⟨h0, h1⟩
  have mode : (s.slotsJudged x).hold.mode.mode = .load :=
    ((State.hold_frame ..).modeNow_eq (by decide)).trans
      (((State.slotsJudged_frame s x).modeNow_eq (by decide)).trans hm)
  refine ⟨(s.slotsJudged x).hold, ?_, mode, rfl⟩
  show execLoadComplete x s = _
  unfold execLoadComplete
  extract_lets s0 _ s1
  rw [if_pos ⟨hm, hr, by simp [s0, hh]⟩, if_neg (by simp [show s0.stateUnfit x = false from fit]),
    show s1.cfg.slot = Option.none from none]
  dsimp only
  rw [if_neg (by simp [show s1.upd.trial = false from State.slotsJudged_trial x ht])]
  rfl

/-- LOAD_SAFE_LATCH enters Safe with the latch as its cause (R64). -/
theorem State.loadSafe_safe (s : State) : s.loadSafe.mode.mode = .safe ∧ s.loadSafe.mode.safeCause = s.jnl.safeLatch ∧
    s.loadSafe.jnl.safeLatch = s.jnl.safeLatch ∧ s.loadSafe.prot.safeA = true ∧ s.loadSafe.prot.safeB = true ∧
    s.loadSafe.pair.state = some .detached := by
  have latch : (s.freezeEnd.setMode .safe 0x03 0).jnl.safeLatch = s.jnl.safeLatch :=
    ((State.setMode_frame ..).safeLatch_eq (by decide)).trans ((State.freezeEnd_frame s).safeLatch_eq (by decide))
  have mode : (s.freezeEnd.setMode .safe 0x03 0).mode.mode = .safe := by rw [State.setMode_mode]
  unfold State.loadSafe
  extract_lets s1
  obtain ⟨hm, hp, hl⟩ := State.setPair_keeps
    { s1 with mode.safeCause := s1.jnl.safeLatch, prot.safeA := true, prot.safeB := true } .detached 0x0B
  rw [hm, hp, hl]
  exact ⟨mode, latch, latch, rfl, rfl, rfl⟩

theorem loadComplete_latched (x : LoadIn) (s : State) (h : Loads x s) (hl : s.jnl.safeLatch ≠ 0) (hi : someImage x s) :
    ∃ t, exec (.loadComplete x) s = .next t ∧ t.mode.mode = .safe ∧ t.mode.safeCause = s.jnl.safeLatch ∧
      t.jnl.safeLatch = s.jnl.safeLatch ∧ t.prot.safeA = true ∧ t.prot.safeB = true ∧
      t.pair.state = some .detached := by
  obtain ⟨k, -, he⟩ := h.completes hi
  have latch : (s.loadedWith x k).jnl.safeLatch = s.jnl.safeLatch :=
    (State.loadedWith_frame s x k).safeLatch_eq (by decide)
  rw [if_pos hl] at he
  refine ⟨_, he, ?_⟩
  rw [← latch]
  exact State.loadSafe_safe _

/-- The image that Load takes stays the chosen slot: no record and no patch changes it. -/
theorem State.loadImage_slot (s : State) (k : Nat) (bad : List Nat) : (s.loadImage k bad).cfg.slot = s.cfg.slot := by
  have item : ∀ (u : State) i, (u.applyItem i).cfg.slot = u.cfg.slot := fun u i => by
    unfold State.applyItem State.setCfgWord
    split
    · rfl
    · split <;> rfl
  have replay : ∀ (u : State) b e, (u.replay b e).cfg.slot = u.cfg.slot := fun u b e => by
    unfold State.replay
    dsimp only
    split
    · rw [State.ev_cfg]
    · split
      · exact item ..
      · rw [State.ev_cfg]
  have patches : ∀ u : State, (u.patchReplay bad).cfg.slot = u.cfg.slot := fun u => by
    unfold State.patchReplay
    split
    · rfl
    · dsimp only
      split
      · exact foldl_view (v := fun u : State => u.cfg.slot) (fun u e => replay ..) _ _
      · rw [State.ev_cfg]
  unfold State.loadImage
  extract_lets img l newest _ s1 s2 _
  have records : (s1.takeRecords l).cfg = s1.cfg := (State.takeRecords_frame ..).cfg_eq (by decide)
  have h2 : s2.cfg.slot = s.cfg.slot := (patches _).trans (congrArg CfgSt.slot records :)
  exact (congrArg CfgSt.slot ((State.evSelect_frame ..).cfg_eq (by decide))).trans h2

/-- Markhor has its records after the hand-off, whatever interlock trips at it (R301, R314). -/
theorem State.handoff_loaded (s : State) : s.handoff.prot.loaded = true := by
  unfold State.handoff
  extract_lets _ _ _ s1 s2 _
  have ilk : ∀ (u : State) i, (u.ilkAtLoad i).prot.loaded = u.prot.loaded := fun u i => by
    unfold State.ilkAtLoad
    extract_lets x
    split
    · split
      · exact (congrArg ProtSt.loaded (State.tripModule_protRest ..) :)
      · rfl
    · rfl
  show s2.prot.loaded = true
  unfold s2
  split
  · exact foldl_view (v := fun u : State => u.prot.loaded) ilk _ s1
  · rfl

theorem State.loadEnd_loaded (s : State) : s.loadEnd.prot.loaded = true := by
  unfold State.loadEnd
  extract_lets s1 _ _ _ _ s2 s3 s4 s5
  have h1 : s1.prot.loaded = true :=
    (congrArg ProtSt.loaded ((State.herdRestore_frame _).prot_eq (by decide))).trans (State.handoff_loaded _)
  have h4 : Frame [.jnl] s2 s4 := .after (State.evIf_frame ..) (State.ev_frame ..) rfl
  have h5 : Frame [.jnl] s2 s5 := .ite (.after (State.lossEvent_frame ..) h4 rfl) h4
  have he : Frame [.upd, .jnl, .banks, .rollback, .pair, .site, .bus, .ledger] s2
      ((s5.updEvents.canStart 0).canStart 1) :=
    .after (State.canStart_frame ..) (.after (State.canStart_frame ..)
      (.after (State.updEvents_frame ..) (h5.mono rfl) rfl) rfl) rfl
  rw [he.prot_eq (by decide)]
  exact h1

theorem loadComplete_surveys (x : LoadIn) (s : State) (hm : s.mode.mode = .load) (hr : s.runtimeRuns = true)
    (hh : s.mode.configHold = false) (ht : s.upd.trial = false) (hl : s.jnl.safeLatch = 0) (hi : someImage x s) :
    ∃ t, exec (.loadComplete x) s = .next t ∧ t.mode.mode = .survey ∧ t.cfg.slot ≠ none ∧ t.prot.loaded = true := by
  obtain ⟨k, hk, he⟩ := (Loads.of_settled hm hr hh ht).completes hi
  rw [if_neg (not_not_intro hl)] at he
  have f := State.surveyBegin_frame (s.loadedWith x k)
  have slot : (s.loadedWith x k).cfg.slot = some k := by
    have cfg : (s.loadedWith x k).cfg = _ := (State.loadEnd_frame ..).cfg_eq (by decide)
    rw [cfg, State.loadImage_slot, hk]
  refine ⟨_, he, State.surveyBegin_mode _, ?_, ?_⟩
  · rw [f.cfg_eq (by decide), slot]
    exact Option.some_ne_none k
  · rw [f.prot_eq (by decide)]
    exact State.loadEnd_loaded _

/-- Settles O15: Load under a latch, and the two commands of the supply. -/
theorem safeLatchGoverns : Obligations.SafeLatchGoverns := by
  refine ⟨fun x s hm hr hh hf hl hi => ?_, fun v a b w s => ⟨_, rfl, rfl⟩, fun p s => ⟨_, rfl, rfl⟩⟩
  obtain ⟨t, he, mode, cause, latch, -⟩ := loadComplete_latched x s ⟨hm, hr, hh, hf⟩ hl hi
  exact ⟨t, he, mode, cause, latch⟩

theorem loadComplete_safe (x : LoadIn) (s : State) (hm : s.mode.mode = .load) (hr : s.runtimeRuns = true)
    (hh : s.mode.configHold = false) (ht : s.upd.trial = false) (hl : s.jnl.safeLatch ≠ 0) (hi : someImage x s) :
    ∃ t, exec (.loadComplete x) s = .next t ∧ t.mode.mode = .safe ∧ t.mode.safeCause = s.jnl.safeLatch ∧
      t.prot.safeA = true ∧ t.prot.safeB = true ∧ t.pair.state = some .detached := by
  obtain ⟨t, he, mode, cause, -, outs⟩ := loadComplete_latched x s (.of_settled hm hr hh ht) hl hi
  exact ⟨t, he, mode, cause, outs⟩

/-! ### Restarts of the update (R518, R521) -/

theorem loadOverrun_restarts (p : Pulse) (s : State) (hm : s.mode.mode = .load) (hr : s.runtimeRuns = true)
    (hh : s.mode.configHold = false) (hf : s.mode.entryFrame + 2400 ≤ s.now) :
    ∃ t, exec (.loadOverrun p) s = .next t ∧ t.mode.mode = .fill ∧ t.sys.resetCause = 0x04 ∧
      t.upd.loadFails = (if s.upd.trial then s.upd.loadFails else s.upd.loadFails + 1) := by
  refine next_pos rfl ⟨hm, hr, by rw [State.atP_mode, hh]; rfl, hf⟩ ⟨_, rfl, rfl, rfl, ?_⟩
  show UpdSt.loadFails (if s.upd.trial then _ else _) = _
  split <;> rfl

theorem updActivateRestart_restarts (s : State) (h : s.upd.activateAt = some s.now) :
    ∃ t, exec .updActivateRestart s = .next t ∧ t.mode.mode = .fill ∧ t.sys.resetCause = 0x06 ∧
      t.upd.vstate = .activating ∧ t.upd.copyIndex = 0 :=
  next_pos rfl h ⟨_, rfl, rfl, rfl, rfl, rfl⟩

/-- Settles O54: one lemma per row. -/
theorem startCommandsComplete : Obligations.StartCommandsComplete :=
  ⟨fillComplete_loads, fillTimeout_fails, loadComplete_holds, loadComplete_surveys, loadComplete_safe,
    loadOverrun_restarts, updActivateRestart_restarts⟩

end Sys2Proof.Machine
end

section
/-! ## The mode commands -/
namespace Sys2Proof.Machine

/-- A command that ends DONE leaves the ledger in its canonical form. -/
theorem State.cmdDone_canonical {s : State} {id : Word} {e : LedgerEntry} (hw : twf s.site.ledger = true)
    (h : s.entry id = some e) : twf (s.cmdDone id).site.ledger = true :=
  (State.cmdDone_entry hw h).2.2

/-! ### Mode requests (R70, R71) -/

/-- A request with a well-formed body passes its checks where its own condition holds and no target is pending. -/
theorem requestChecks_pass {st : State → Bool} {s : State} {e : LedgerEntry} (hl : e.body.length = 4)
    (hz : rdU e.body 1 3 = 0) (lo : 3 ≤ rdU e.body 0 1) (hi : rdU e.body 0 1 ≤ 6) (ht : s.mode.target = none)
    (hs : st s = true) : (requestChecks st s e).pass = true := by
  simp [Checks.pass, requestChecks, hl, hz, lo, hi, ht, hs]

/-- The state a command begins in has the mode and the frame of the boundary. -/
theorem mode_of_begun {s x : State} (h : Frame [.site, .ledger] (s.atP 0) x) : x.mode = s.mode := h.mode_eq (by decide)

theorem now_of_begun {s x : State} (h : Frame [.site, .ledger] (s.atP 0) x) : x.now = s.now := h.frame_eq (by decide)

/-- A mode that is entered at once completes its request. -/
theorem entered_done {s x : State} {id : Word} {e e' : LedgerEntry} (hf : Frame [.site, .ledger] (s.atP 0) x)
    (he : x.entry id = some e') (hw : twf x.site.ledger = true) (hid : e.id = id) (m : Mode) :
    ((x.setMode m 0x01 e.id).cmdDone e.id).mode.mode = m ∧
      ((x.setMode m 0x01 e.id).cmdDone e.id).mode.entryFrame = s.now ∧
      ((x.setMode m 0x01 e.id).cmdDone e.id).mode.target = none ∧
      ((x.setMode m 0x01 e.id).cmdDone e.id).cmdStands id .done .ok := by
  subst hid
  rw [State.cmdDone_mode, State.setMode_mode]
  exact ⟨rfl, now_of_begun hf, rfl,
    State.cmdDone_after he hw ((State.setMode_frame ..).same .ledger (by decide)).1.symm⟩

theorem modeRequestIdle_runs (id : Word) (e : LedgerEntry) (s : State) (h : Due s id 0x0301 e) (hl : e.body.length = 4)
    (hm : rdU e.body 0 1 = 3) (hz : rdU e.body 1 3 = 0) (ht : s.mode.target = none) :
    ∃ t, exec (.modeRequestIdle id) s = .next t ∧
      (s.mode.mode = .maintain → t.mode.mode = .idle ∧ t.mode.target = none ∧ t.cmdStands id .done .ok) ∧
      (s.mode.mode = .rest → t.mode.mode = .rest ∧ t.mode.target = some .idle ∧ t.mode.targetCmd = id ∧
        t.mode.leavingRest = true ∧ t.cmdStands id .started .ok) ∧
      (s.mode.mode = .serve → t.mode.mode = .idle ∨
        (t.mode.mode = .serve ∧ t.mode.target = some .idle ∧ t.mode.targetCmd = id)) := by
  refine next_neg rfl (by rw [bodyOf_due h, hm]; decide) (State.evaluate_next rfl h
    (requestChecks_pass hl hz (by omega) (by omega) ht rfl) fun x w hf he hw hid => ?_)
  have mode := mode_of_begun hf
  cases hx : x.mode.mode with
  | serve =>
    rw [mode] at hx
    refine ⟨by simp [hx], by simp [hx], fun _ => ?_⟩
    obtain ⟨tm, tt, tc, -⟩ := State.targetIdle_mode (x.cmdStep e.id 1) e.id false
    exact State.idleEntry_of_target _ id (by rw [tm, State.cmdStep_mode, mode, hx]) tt (tc.trans hid)
  | rest =>
    rw [mode] at hx
    refine ⟨by simp [hx], fun _ => ⟨?_, rfl, hid, rfl, ?_⟩, by simp [hx]⟩
    · show (x.cmdStep e.id 1).mode.mode = .rest
      rw [State.cmdStep_mode, mode, hx]
    · subst hid
      exact State.cmdTo_cmdStands hw he (by decide) ..
  | maintain =>
    rw [mode] at hx
    obtain ⟨idle, -, target, done⟩ := entered_done hf he hw hid .idle
    exact ⟨fun _ => ⟨idle, target, done⟩, by simp [hx], by simp [hx]⟩
  | _ =>
    rw [mode] at hx
    exact ⟨by simp [hx], by simp [hx], by simp [hx]⟩

theorem modeRequestServe_runs (id : Word) (e : LedgerEntry) (s : State) (h : Due s id 0x0301 e) (hl : e.body.length = 4)
    (hm : rdU e.body 0 1 = 4) (hz : rdU e.body 1 3 = 0) (ht : s.mode.target = none) (hr : s.serveReady = true)
    (ho : s.strings.any (fun k => decide ((s.str k).state = .opened)) = true) :
    ∃ t, exec (.modeRequestServe id) s = .next t ∧ t.mode.mode = .serve ∧ t.mode.entryFrame = s.now ∧
      t.cmdStands id .done .ok := by
  refine next_neg rfl (by rw [bodyOf_due h, hm]; decide) (State.evaluate_next rfl h
    (requestChecks_pass hl hz (by omega) (by omega) ht (Bool.and_eq_true_iff.mpr ⟨hr, ho⟩)) fun x w hf he hw hid => ?_)
  obtain ⟨mode, frame, -, done⟩ := entered_done hf he hw hid .serve
  exact ⟨mode, frame, done⟩

theorem modeRequestRest_runs (id : Word) (e : LedgerEntry) (s : State) (h : Due s id 0x0301 e) (hl : e.body.length = 4)
    (hm : rdU e.body 0 1 = 5) (hz : rdU e.body 1 3 = 0) (ht : s.mode.target = none) :
    ∃ t, exec (.modeRequestRest id) s = .next t ∧ t.mode.mode = .rest ∧ t.mode.entryFrame = s.now ∧
      t.cmdStands id .done .ok := by
  refine next_neg rfl (by rw [bodyOf_due h, hm]; decide) (State.evaluate_next rfl h
    (requestChecks_pass hl hz (by omega) (by omega) ht rfl) fun x w hf he hw hid => ?_)
  obtain ⟨mode, frame, -, done⟩ := entered_done hf he hw hid .rest
  exact ⟨mode, frame, done⟩

theorem modeRequestMaintain_runs (id : Word) (e : LedgerEntry) (s : State) (h : Due s id 0x0301 e)
    (hl : e.body.length = 4) (hm : rdU e.body 0 1 = 6) (hz : rdU e.body 1 3 = 0) (ht : s.mode.target = none)
    (hp : s.inPair = false) :
    ∃ t, exec (.modeRequestMaintain id) s = .next t ∧ t.mode.mode = .maintain ∧ t.mode.entryFrame = s.now ∧
      t.cmdStands id .done .ok := by
  have alone : (!(s.atP 0).inPair) = true := by rw [show (s.atP 0).inPair = false from hp]; rfl
  refine next_neg rfl (by rw [bodyOf_due h, hm]; decide) (State.evaluate_next rfl h
    (requestChecks_pass hl hz (by omega) (by omega) ht alone) fun x w hf he hw hid => ?_)
  obtain ⟨mode, frame, -, done⟩ := entered_done hf he hw hid .maintain
  exact ⟨mode, frame, done⟩

/-! ### Safe and the restarts (R74, R75, R86, R576) -/

theorem modeSafeRequest_enters (id : Word) (e : LedgerEntry) (s : State) (h : Due s id 0x0302 e) (hb : e.body = [])
    (hc : ∀ j, s.upd.cfe = some j → j.cmd ≠ id) :
    ∃ t, exec (.modeSafeRequest id) s = .next t ∧ t.mode.mode = .safe ∧ t.prot.safeA = true ∧ t.prot.safeB = true ∧
      t.jnl.safeLatch = (if s.jnl.safeLatch = 0 then 0x05 else s.jnl.safeLatch) ∧ t.cmdStands id .done .ok := by
  refine State.evaluate_next rfl h (by simp [Checks.pass, hb]) fun x w hf he hw hid => ?_
  subst hid
  have f : Frame [.site, .ledger, .pair, .jnl] (s.atP 0) (x.cmdDone e.id) :=
    .after (State.cmdDone_frame ..) (hf.mono rfl) rfl
  have mode : (x.cmdDone e.id).mode = s.mode := f.mode_eq (by decide)
  obtain ⟨notFill, notLoad⟩ := admits_running h rfl
  obtain ⟨safe, sa, sb, latch⟩ := State.enterSafe_enters (x.cmdDone e.id) 0x05 e.id (mode ▸ notFill) (mode ▸ notLoad)
  refine ⟨safe, sa, sb, latch.trans (by rw [f.safeLatch_eq (by decide)]; rfl), ?_⟩
  refine (State.enterSafe_doneKept (x.cmdDone e.id) e.id (fun j hj => hc j ?_) ..).done (State.cmdDone_canonical hw he)
    (State.cmdDone_cmdStands hw he)
  exact (f.upd_eq (by decide)) ▸ hj

theorem accDebugUnlock_enters (id : Word) (e : LedgerEntry) (s : State) (h : Due s id 0x1502 e) (hb : e.body = [])
    (hc : ∀ j, s.upd.cfe = some j → j.cmd ≠ id) :
    ∃ t, exec (.accDebugUnlock id) s = .next t ∧ t.mode.mode = .safe ∧ t.mode.restart = some 0x07 ∧
      t.acc.debugDue = true ∧ t.prot.safeA = true ∧ t.prot.safeB = true ∧
      t.jnl.safeLatch = (if s.jnl.safeLatch = 0 then 0x06 else s.jnl.safeLatch) ∧ t.cmdStands id .done .ok := by
  refine State.evaluate_next rfl h (by simp [Checks.pass, hb]) fun x w hf he hw hid => ?_
  subst hid
  extract_lets s1 s2 s3
  have f : Frame [.site, .ledger, .pair, .jnl] (s.atP 0) s2 :=
    .after (State.ev_frame ..) (.after (State.cmdDone_frame ..) (hf.mono rfl) rfl) rfl
  have mode : s2.mode = s.mode := f.mode_eq (by decide)
  have done : DoneKept e.id s1 s3 := (DoneKept.of_frame (State.ev_frame s1 0x1504 [1]) (by decide)).trans
    (State.enterSafe_doneKept s2 e.id (fun j hj => hc j ((f.upd_eq (by decide)) ▸ hj)) ..)
  obtain ⟨notFill, notLoad⟩ := admits_running h rfl
  obtain ⟨safe, sa, sb, latch⟩ := State.enterSafe_enters s2 0x06 e.id (mode ▸ notFill) (mode ▸ notLoad)
  exact ⟨safe, rfl, rfl, sa, sb, latch.trans (by rw [f.safeLatch_eq (by decide)]; rfl),
    done.done (State.cmdDone_canonical hw he) (State.cmdDone_cmdStands hw he)⟩

/-- MODE_SAFE_RESET is admitted in Safe alone (Table 3-10). -/
theorem safeReset_in_safe {s : State} {id : Word} {e : LedgerEntry} (h : Due s id 0x0303 e) : s.mode.mode = .safe := by
  have ha := h.mode
  simp only [State.admits, AcceptRow.at, acceptRow, h.code] at ha
  cases hm : s.mode.mode <;> simp_all

theorem modeSafeReset_clears (id : Word) (e : LedgerEntry) (s : State) (h : Due s id 0x0303 e) (hb : e.body = [])
    (hr : roleAtLeast e.role (safeRole s.mode.safeCause) = true) (hs : s.safeCleared = true) :
    ∃ t, exec (.modeSafeReset id) s = .next t ∧ t.jnl.safeLatch = 0 ∧ t.mode.restart = some 0x05 ∧
      t.mode.mode = .safe ∧ t.cmdStands id .done .ok := by
  have cleared : (s.atP 0).safeCleared = true := hs
  refine State.evaluate_next rfl h (by simp [Checks.pass, hb, hr, cleared]) fun x w hf he hw hid => ?_
  subst hid
  extract_lets s1
  have mode : (s1.cmdDone e.id).mode.mode = .safe := by
    rw [State.cmdDone_mode, State.ev_mode, mode_of_begun hf, safeReset_in_safe h]
  have done : (s1.cmdDone e.id).cmdStands e.id .done .ok :=
    State.cmdDone_after he hw (congrArg SiteSt.ledger (State.ev_site ..))
  exact ⟨rfl, rfl, mode, done⟩

theorem modeRestart_orders (id : Word) (e : LedgerEntry) (s : State) (h : Due s id 0x0304 e) (hb : e.body = []) :
    ∃ t, exec (.modeRestart id) s = .next t ∧ t.cmdStands id .done .ok ∧
      t.mode.restart = (if s.pair.state = some .active then s.mode.restart else some 0x08) ∧
      t.mode.mode = s.mode.mode := by
  refine State.evaluate_next rfl h (by simp [Checks.pass, hb]) fun x w hf he hw hid => ?_
  subst hid
  extract_lets s1
  have f : Frame [.site, .ledger, .pair, .jnl] (s.atP 0) s1 := .after (State.cmdDone_frame ..) (hf.mono rfl) rfl
  have mode : s1.mode = s.mode := f.mode_eq (by decide)
  have pair : s1.pair.state = s.pair.state := f.pairState_eq (by decide)
  have done : s1.cmdStands e.id .done .ok := State.cmdDone_cmdStands hw he
  rw [pair]
  split
  · exact ⟨done, by rw [mode], by rw [mode]⟩
  · exact ⟨done, rfl, by rw [← mode]⟩

theorem restartAtPulse999_restarts (c : Byte) (s : State) (h : s.mode.restart = some c) :
    ∃ t, exec .restartAtPulse999 s = .next t ∧ t.mode.mode = .fill ∧ t.mode.restart = none ∧ t.sys.resetCause = c ∧
      t.jnl.safeLatch = s.jnl.safeLatch ∧ t.site.ledger = s.site.ledger ∧ t.site.sstate = .none := by
  refine ⟨(s.atP 999).restart c, ?_, ?_⟩
  · show execRestartAtPulse999 s = _
    simp only [execRestartAtPulse999, State.atP_mode, h]
    rfl
  · unfold State.restart
    split
    · next hc => exact ⟨rfl, rfl, hc.symm, rfl, rfl, rfl⟩
    · exact ⟨rfl, rfl, rfl, rfl, rfl, rfl⟩

/-! ### The hold-up charge (R72) -/

theorem holdupLowTimeout_leaves (p : Pulse) (s : State) (hm : s.mode.mode = .serve) (ht : s.mode.target = none)
    (hl : s.psv.loss = none) (hi : s.mode.holdupIgnore ≤ s.now) (hp : s.inPair = false)
    (hh : 10000 ≤ s.mode.holdupLow) :
    ∃ t, exec (.holdupLowTimeout p) s = .next t ∧ t.mode.mode = .serve ∧ t.mode.target = some .idle ∧
      t.mode.targetHoldup = true ∧ t.mode.targetCmd = 0 := by
  have judged : ¬((!(decide ((s.atP p.val).mode.mode = .serve) && (s.atP p.val).psv.loss.isNone &&
      decide ((s.atP p.val).mode.holdupIgnore ≤ (s.atP p.val).now) && (s.atP p.val).mode.target.isNone)) = true) := by
    simp [hm, ht, hl, hi]
  have alone : ¬((s.atP p.val).inPair = true) := by
    rw [show (s.atP p.val).inPair = false from hp]
    decide
  obtain ⟨tm, tt, tc, th⟩ := State.targetIdle_mode (s.atP p.val) 0 true
  exact next_neg rfl judged (next_neg rfl alone (next_pos rfl hh ⟨_, rfl, tm.trans hm, tt, th, tc⟩))

/-- Settles O40: one lemma per row. -/
theorem modeCommandsComplete : Obligations.ModeCommandsComplete :=
  ⟨modeRequestIdle_runs, modeRequestServe_runs, modeRequestRest_runs, modeRequestMaintain_runs, modeSafeRequest_enters,
    modeSafeReset_clears, modeRestart_orders, restartAtPulse999_restarts, holdupLowTimeout_leaves,
    accDebugUnlock_enters⟩

end Sys2Proof.Machine
end

section
/-! ## The string commands -/
namespace Sys2Proof.Machine

/-- Strings are told apart by their records alone: what leaves the mode part leaves every string. -/
theorem State.str_of_mode {s t : State} (h : t.mode = s.mode) (k : Nat) : t.str k = s.str k := by
  unfold State.str
  rw [h]

/-- Entry to Idle changes no string. -/
theorem State.idleEntry_str_at (s : State) (k : Nat) : s.idleEntry.str k = s.str k := by
  unfold State.str
  rw [(State.idleEntry_str s).1]

theorem State.startOpening_str (s : State) (k j : Nat) : (s.startOpening k).str j = s.str j :=
  State.str_of_mode ((State.startOpening_frame s k).mode_eq (by decide)) j

/-! ### Openings (R71) -/

theorem openWaitExpiry_opens (k : StrIx) (w : OpenWhy) (d : Nat) (s : State) (ho : (s.str k.val).opening = some (w, d))
    (hd : d ≤ s.now) (hs : (s.str k.val).state = .closed ∨ (s.str k.val).state = .held)
    (hv : s.voided k.val 8 = false) :
    ∃ t, exec (.openWaitExpiry k) s = .next t ∧ (t.str k.val).state = .opened ∧ (t.str k.val).opening = none ∧
      (t.str k.val).dwellFrom = some s.now := by
  have due : d ≤ (s.atP 0).now := hd
  have opens : (s.atP 0).openNow k.val = ((s.atP 0).startOpening k.val).setStr k.val .opened 0 0 true :=
    if_pos ⟨hs, by rw [show (s.atP 0).voided k.val 8 = false from hv]; rfl⟩
  have now : ((s.atP 0).startOpening k.val).now = s.now := (State.startOpening_frame ..).frame_eq (by decide)
  refine ⟨((s.atP 0).openNow k.val).idleEntry, ?_, ?_⟩
  · show execOpenWaitExpiry k s = _
    simp only [execOpenWaitExpiry, State.atP_str, ho, due, if_true]
    rfl
  · rw [State.idleEntry_str_at, opens, State.setStr_str, if_pos rfl, now]
    exact ⟨rfl, by simp, rfl⟩

/-! ### Enables (R78) -/

theorem modeStringEnableOn_enables (id : Word) (e : LedgerEntry) (s : State) (h : Due s id 0x0305 e)
    (hl : e.body.length = 4) (h2 : rdU e.body 2 1 = 1) (h3 : rdU e.body 3 1 = 0) (hn : namedIn e.mask ≠ [])
    (hk : ∀ k ∈ namedIn e.mask, s.installed k = true ∧ (s.str k).state ≠ .service) :
    ∃ t, exec (.modeStringEnableOn id) s = .next t ∧
      (∀ k, has t.mode.enabled k = (has e.mask k || has s.mode.enabled k)) ∧
      (∀ k ∈ namedIn e.mask, (t.str k).retry = 0 ∧ (t.str k).state = (s.str k).state) ∧
      (∀ k, k ∉ namedIn e.mask → t.str k = s.str k) ∧ t.cmdStands id .done .ok := by
  refine next_neg rfl (by rw [bodyOf_due h, h2]; decide) (State.evaluateStrings_next rfl h
    (by simp [Checks.pass, enableBody, hl, h3]) hn (fun k hm => ⟨(hk k hm).1, if_neg (hk k hm).2⟩)
    fun x w hf he hw hid => ?_)
  subst hid
  have mode : x.mode = s.mode := mode_of_begun hf
  unfold State.str
  rw [State.cmdEndStrings_mode]
  dsimp only
  rw [mode]
  refine ⟨has_foldl_withBit _ _, fun k hm => ?_, fun k hm => ?_, State.cmdEndStrings_after he hw (by rfl) _⟩
  · rw [tget_tmodAll_mem _ _ _ (namedIn_nodup _) hm]
    exact ⟨rfl, rfl⟩
  · exact tget_tmodAll_ne _ _ _ hm

/-- What the abort of a connect judges of a string: its record, and whether it took its hand-over in this frame. -/
def State.taking (s : State) (k : Nat) : StrSt × Bool := (s.str k, s.justTaken k)

/-- A hand-over is of this frame by the string's record, its port and the frame alone. -/
theorem State.taking_congr {s t : State} {j : Nat} (hs : t.str j = s.str j) (hp : t.pp j = s.pp j)
    (hn : t.now = s.now) :
    t.taking j = s.taking j := by
  simp [State.taking, State.justTaken, hs, hp, hn]

theorem State.undoTaken_other (s : State) {k j : Nat} (h : j ≠ k) : (s.undoTaken k).taking j = s.taking j := by
  unfold State.undoTaken
  split
  · dsimp only
    refine State.taking_congr ?_ ?_ rfl
    · rw [State.modPp_str, State.modStr_str, if_neg h]
    · rw [State.modPp_pp, if_neg h, State.modStr_pp]
  · rfl

theorem State.endConnect_pp (s : State) {k j : Nat} (h : j ≠ k) (c : Nat) (n : SState) (w : Byte) (sf : Nat) :
    (s.endConnect k c n w sf).pp j = s.pp j := by
  unfold State.endConnect
  extract_lets _ _ _ _ s1 s2 s3 s4
  have h2 : s2.pp j = s.pp j := by simp [s2, s1, State.startOpening, h]
  have h4 : s4.pp j = s.pp j := by
    rw [State.modStr_pp, State.setStr_pp]
    exact h2
  split
  · exact h4
  · exact h4

/-- The abort of one string's connect touches no other string. -/
theorem State.abort_other (s : State) {k j : Nat} (h : j ≠ k) :
    ((s.undoTaken k).abortConnect k 6).taking j = s.taking j := by
  refine Eq.trans ?_ (State.undoTaken_other s h)
  generalize s.undoTaken k = u
  have str := (State.abortConnect_six u k).2.2 j h
  unfold State.abortConnect at str ⊢
  split at str
  · next hc =>
    rw [if_pos hc]
    exact State.taking_congr str (State.endConnect_pp u h ..) ((State.endConnect_frame ..).frame_eq (by decide))
  · next hc => rw [if_neg hc]

/-- A string that is closed or held, its hand-over of an earlier frame, has no connect to abort. -/
theorem State.abort_closed {s : State} {k : Nat} (hs : (s.str k).state = .closed ∨ (s.str k).state = .held)
    (ht : s.justTaken k = false) : ((s.undoTaken k).abortConnect k 6).str k = s.str k := by
  have undo : s.undoTaken k = s := if_neg (by rw [ht]; decide)
  rw [undo]
  exact (State.abortConnect_six s k).2.1 hs

theorem State.abortConnects_closed {s : State} {ks : List Nat} (hn : ks.Nodup) {k : Nat} (hk : k ∈ ks)
    (hs : (s.str k).state = .closed ∨ (s.str k).state = .held) (ht : s.justTaken k = false) :
    (s.abortConnects ks).str k = s.str k :=
  foldl_once (v := State.taking) (R := fun a b => (a.1.state = .closed ∨ a.1.state = .held) → a.2 = false → b.1 = a.1)
    (fun _ _ hs ht => State.abort_closed hs ht) (fun u _ _ h => State.abort_other u h) hn s k hk hs ht

theorem State.abortConnects_enabled (s : State) (ks : List Nat) : (s.abortConnects ks).mode.enabled = s.mode.enabled :=
  foldl_view (v := fun u : State => u.mode.enabled) (fun u k => (State.abortConnect_six _ k).1.trans (by
    unfold State.undoTaken
    split <;> rfl)) ks s

/-- An opening is ordered of a closed or held string, and of the named one alone. -/
theorem State.orderOpen_opening (s : State) (k : Nat) (w : OpenWhy) (d : Nat)
    (hs : (s.str k).state = .closed ∨ (s.str k).state = .held) : ((s.orderOpen k w d).str k).opening ≠ none := by
  unfold State.orderOpen
  rw [if_pos hs, State.modStr_str, if_pos rfl]
  dsimp only
  split
  · exact Option.some_ne_none _
  · split <;> exact Option.some_ne_none _

theorem State.orderOpen_other (s : State) {k j : Nat} (w : OpenWhy) (d : Nat) (h : j ≠ k) :
    (s.orderOpen k w d).str j = s.str j := by
  unfold State.orderOpen
  split
  · rw [State.modStr_str, if_neg h]
  · rfl

theorem State.orderOpen_enabled (s : State) (k : Nat) (w : OpenWhy) (d : Nat) :
    (s.orderOpen k w d).mode.enabled = s.mode.enabled := by
  unfold State.orderOpen
  split <;> rfl

theorem modeStringEnableOff_disables (id : Word) (e : LedgerEntry) (s : State) (h : Due s id 0x0305 e)
    (hl : e.body.length = 4) (h2 : rdU e.body 2 1 = 0) (h3 : rdU e.body 3 1 = 0) (hn : namedIn e.mask ≠ [])
    (hk : ∀ k ∈ namedIn e.mask, s.installed k = true ∧ (s.str k).state ≠ .service) :
    ∃ t, exec (.modeStringEnableOff id) s = .next t ∧
      (∀ k, has t.mode.enabled k = (has s.mode.enabled k && !has e.mask k)) ∧
      (∀ k ∈ namedIn e.mask, ((s.str k).state = .closed ∨ (s.str k).state = .held) → s.justTaken k = false →
        (t.str k).opening ≠ none) ∧
      t.cmdStands id .done .ok := by
  refine next_neg rfl (by rw [bodyOf_due h, h2]; decide) (State.evaluateStrings_next rfl h
    (by simp [Checks.pass, enableBody, hl, h2, h3]) hn (fun k hm => ⟨(hk k hm).1, if_neg (hk k hm).2⟩)
    fun x w hf he hw hid => ?_)
  subst hid
  extract_lets _ s1 s2 s3
  have nodup : (namedIn e.mask).Nodup := namedIn_nodup _
  have power : x.power = s.power := hf.power_eq (by decide)
  have taking : ∀ k, s1.taking k = s.taking k := fun k =>
    (State.taking_congr (s := x) (t := s1) rfl rfl rfl).trans
      (State.taking_congr (State.str_of_mode (mode_of_begun hf) k) (by unfold State.pp; rw [power]) (now_of_begun hf))
  have ledger : s3.site.ledger = x.site.ledger := by
    have f2 : Frame [.mode, .power, .prot, .jnl, .enabled] x s2 :=
      .after (State.abortConnects_frame ..) (.upd (.refl _ _) rfl) rfl
    have f3 : Frame [.mode, .power, .prot, .jnl, .enabled] x s3 :=
      .foldl f2 fun u k g => .after (State.orderOpen_frame ..) g rfl
    exact f3.ledger_eq (by decide)
  have enabled : s3.mode.enabled = (namedIn e.mask).foldl withoutBit s.mode.enabled :=
    (foldl_view (v := fun u : State => u.mode.enabled) (fun u k => State.orderOpen_enabled u k ..) _ s2).trans
      ((State.abortConnects_enabled s1 _).trans (by rw [← mode_of_begun hf]))
  refine ⟨fun k => ?_, fun k hm hs ht => ?_, ?_⟩
  · rw [(State.idleEntry_str _).2, State.cmdEndStrings_mode, enabled]
    exact has_foldl_withoutBit ..
  · obtain ⟨str, just⟩ := Prod.ext_iff.mp (taking k)
    have closed : s2.str k = s.str k :=
      (State.abortConnects_closed nodup hm (by rwa [show s1.str k = s.str k from str]) (just.trans ht)).trans str
    rw [State.idleEntry_str_at, State.str_of_mode (State.cmdEndStrings_mode ..)]
    exact foldl_once (v := State.str)
      (R := fun a b => (a.state = .closed ∨ a.state = .held) → b.opening ≠ none)
      (fun u j hs => State.orderOpen_opening u j _ _ hs) (fun u _ _ hj => State.orderOpen_other u _ _ hj) nodup s2 k hm
      (by rwa [closed])
  · have done : (s3.cmdEndStrings e.id e.mask []).cmdStands e.id .done .ok := State.cmdEndStrings_after he hw ledger _
    have canonical : twf (s3.cmdEndStrings e.id e.mask []).site.ledger = true :=
      (State.cmdTo_entry (ledger ▸ hw) ((State.entry_congr ledger _).trans he) (by decide) ..).2.2
    exact (State.idleEntry_doneKept _ e.id).done canonical done

/-! ### Service (Table 3-9 row 10) -/

theorem modeStringService_serves (id : Word) (e : LedgerEntry) (s : State) (h : Due s id 0x0306 e)
    (hl : e.body.length = 4) (h2 : rdU e.body 2 2 = 0) (hn : namedIn e.mask ≠ [])
    (hk : ∀ k ∈ namedIn e.mask, s.installed k = true ∧ (s.str k).state ∈ [SState.opened, .unsurveyed, .isolated]) :
    ∃ t, exec (.modeStringService id) s = .next t ∧
      (∀ k ∈ namedIn e.mask, (t.str k).state = .service ∧ (t.str k).cause = 0x0C) ∧
      (∀ k, k ∉ namedIn e.mask → t.str k = s.str k) ∧ t.cmdStands id .done .ok := by
  refine State.evaluateStrings_next rfl h (by simp [Checks.pass, maskBody, hl, h2]) hn
    (fun k hm => ⟨(hk k hm).1, if_pos (hk k hm).2⟩) fun x w hf he hw hid => ?_
  subst hid
  have str : ∀ k, x.str k = s.str k := State.str_of_mode (mode_of_begun hf)
  have other : ∀ (u : State) k j, j ≠ k → (u.setStr k .service 0x0C 0 false).str j = u.str j := fun u k j hj => by
    rw [State.setStr_str, if_neg hj]
  have served : Frame [.mode, .jnl] x ((namedIn e.mask).foldl (fun u k => u.setStr k .service 0x0C 0 false) x) :=
    .foldl (.refl _ _) fun _ _ g => .after (State.setStr_frame ..) g rfl
  have ends : ∀ (u : State) k, (u.cmdEndStrings e.id e.mask []).str k = u.str k := fun u =>
    State.str_of_mode (State.cmdEndStrings_mode ..)
  refine ⟨fun k hm => ?_, fun k hm => ?_, State.cmdEndStrings_after he hw (served.ledger_eq (by decide)) _⟩
  · rw [ends]
    refine foldl_once (v := State.str) (R := fun _ b => b.state = .service ∧ b.cause = 0x0C) (fun u k => ?_) other
      (namedIn_nodup _) x k hm
    rw [State.setStr_str, if_pos rfl]
    exact ⟨rfl, rfl⟩
  · rw [ends, foldl_other (v := State.str) other _ x k hm, str]

/-! ### Readmission and reset (R79, R311) -/

theorem modeStringReset_surveys (id : Word) (e : LedgerEntry) (s : State) (h : Due s id 0x0308 e)
    (hl : e.body.length = 4) (h2 : rdU e.body 2 2 = 0) (hn : namedIn e.mask ≠ [])
    (hk : ∀ k ∈ namedIn e.mask, s.installed k = true ∧ (s.str k).state = .isolated ∧ s.latchJudge e k = none) :
    ∃ t, exec (.modeStringReset id) s = .next t ∧
      (∀ k ∈ namedIn e.mask, ((t.str k).survey.map (fun v => (v.from_, v.cmd)) = some (s.now, id)) ∧
        (t.pst k).latched = 0 ∧ (t.pst k).trip = false) ∧
      (∃ c ∈ t.mode.surveyCmds, c.cmd = id ∧ c.renew = false) ∧ t.cmdStands id .started .ok := by
  refine State.evaluateStrings_next rfl h (by simp [Checks.pass, maskBody, hl, h2]) hn (fun k hm => ?_)
    fun x w hf he hw hid => ?_
  · obtain ⟨inst, iso, judge⟩ := hk k hm
    exact ⟨inst, (if_neg (by simp [iso])).trans judge⟩
  · subst hid
    rw [← now_of_begun hf]
    exact State.surveysStart_starts x e false _ [] (namedIn_nodup _) _ he hw

theorem modeStringReadmit_surveys (id : Word) (e : LedgerEntry) (s : State) (h : Due s id 0x0307 e)
    (hl : e.body.length = 4) (h2 : rdU e.body 2 2 = 0) (hn : namedIn e.mask ≠ [])
    (hk : ∀ k ∈ namedIn e.mask, s.installed k = true ∧ (s.str k).state ∈ [SState.service, .unsurveyed] ∧
      s.latchJudge e k = none) :
    ∃ t, exec (.modeStringReadmit id) s = .next t ∧
      (∀ k ∈ namedIn e.mask, ((t.str k).survey.map (fun v => (v.from_, v.cmd)) = some (s.now, id)) ∧
        (t.pst k).latched = 0 ∧ (t.pst k).trip = false) ∧
      (∃ c ∈ t.mode.surveyCmds, c.cmd = id ∧ c.renew = true) ∧ t.cmdStands id .started .ok := by
  refine State.evaluateStrings_next rfl h (by simp [Checks.pass, maskBody, hl, h2]) hn (fun k hm => ?_)
    fun x w hf he hw hid => ?_
  · obtain ⟨inst, state, judge⟩ := hk k hm
    exact ⟨inst, (if_pos state).trans judge⟩
  · subst hid
    generalize hu : (namedIn e.mask).foldl (fun u k => u.herdClear k e.id) x = u
    have f : Frame [.herdTab, .herd, .prot, .jnl] x u :=
      hu ▸ .foldl (.refl _ _) fun _ _ g => .after (State.herdClear_frame ..) g rfl
    have now : u.now = s.now := (f.frame_eq (by decide)).trans (now_of_begun hf)
    rw [← now]
    exact State.surveysStart_starts u e true _ [] (namedIn_nodup _) _ ((f.entry (by decide) _).trans he)
      (by rw [f.site_eq (by decide)]; exact hw)

/-! ### The end of a survey (R79) -/

/-- A survey that is over takes its result, where it is none that opens. -/
theorem stringSurveyEnd_times_out (p : Pulse) (k : StrIx) (v : SurveySt) (s : State)
    (hv : (s.str k.val).survey = some v) (hm : s.mode.mode ≠ .survey) (hf : v.from_ + 6000 ≤ s.now)
    (hl : (s.pst k.val).latched = 0) (ha : s.auxClosed k.val = false)
    (hr : (s.surveyResult k.val v true).1 ≠ .opened) :
    ∃ t, exec (.stringSurveyEnd p k) s = .next t ∧ (t.str k.val).survey = none ∧
      (t.str k.val).state = (s.surveyResult k.val v true).1 ∧
      (t.str k.val).cause = (s.surveyResult k.val v true).2 := by
  have ended : (s.atP p.val).surveyOver k.val v true = true := by
    have late : 6000 ≤ (s.atP p.val).now - v.from_ := by
      show 6000 ≤ s.now - v.from_
      omega
    exact if_pos (.inr late)
  have stays : ¬(((s.atP p.val).surveyResult k.val v true).1 = .opened ∧ ((s.atP p.val).pst k.val).latched = 0) :=
    fun h => hr h.1
  refine ⟨(s.atP p.val).surveyTake k.val v ((s.atP p.val).surveyResult k.val v true), ?_,
    State.surveyTake_takes (s.atP p.val) k.val v _ ha hl⟩
  show execStringSurveyEnd p k s = _
  unfold execStringSurveyEnd
  extract_lets s0 i
  rw [show (s0.str i).survey = some v from hv]
  dsimp only
  rw [if_neg (show ¬s0.mode.mode = .survey from hm), if_pos (show s0.surveyOver i v true = true ∨ _ from .inl ended),
    if_neg (show ¬((s0.surveyResult i v true).1 = .opened ∧ (s0.pst i).latched = 0) from stays)]
  rfl

/-- A result that opens the string found no auxiliary contact closed. -/
theorem State.surveyResult_opened {s : State} {k : Nat} {v : SurveySt} {b : Bool}
    (h : (s.surveyResult k v b).1 = .opened) : s.auxClosed k = false := by
  cases ha : s.auxClosed k
  · rfl
  · simp [State.surveyResult, ha] at h

/-- Where no wire-fault warning stands, clearing the wires changes neither the ports nor the protection. -/
theorem State.wiresClear_keeps {s : State} {k : Nat} (h : has (s.pst k).warn 6 = false) :
    (s.wiresClear k).prot = s.prot ∧ (s.wiresClear k).power = s.power := by
  unfold State.wiresClear
  extract_lets _ s1
  have f : Frame [.cells, .meas] s ((portsOf k).foldl (fun u p => u.wireFlags p) s1) :=
    .foldl (.upd (.refl _ _) rfl) fun u p g => .after (State.wireFlags_frame ..) g rfl
  generalize (portsOf k).foldl (fun u p => u.wireFlags p) s1 = u at f ⊢
  have prot : u.prot = s.prot := f.prot_eq (by decide)
  have none : ¬(has (u.pst k).warn 6 = true) := by
    unfold State.pst
    rw [prot]
    exact fun hw => absurd (h.symm.trans hw) (by decide)
  have stays : u.warnEnd k 7 = u := if_neg none
  rw [stays]
  exact ⟨prot, f.power_eq (by decide)⟩

theorem stringSurveyEnd_opens (p : Pulse) (k : StrIx) (v : SurveySt) (s : State)
    (hv : (s.str k.val).survey = some v) (hm : s.mode.mode ≠ .survey) (hd : s.surveyDone k.val v true = true)
    (hl : (s.pst k.val).latched = 0) (hr : (s.surveyResult k.val v true).1 = .opened)
    (hn : s.mode.surveyCmds.any (fun c => decide (c.cmd = v.cmd) && c.renew) = false)
    (hw : has (s.pst k.val).warn 6 = false) :
    ∃ t, exec (.stringSurveyEnd p k) s = .next t ∧ (t.str k.val).survey = none ∧ (t.str k.val).state = .opened := by
  have ended : (s.atP p.val).surveyOver k.val v true = true := if_pos (.inl hd)
  have f : Frame [.jnl] (s.atP p.val) ((s.atP p.val).recordIdentities k.val false) := State.recordIdentities_frame ..
  generalize hu : (s.atP p.val).recordIdentities k.val false = u at f
  have pst : ∀ j, u.pst j = s.pst j := fun j => by
    unfold State.pst
    rw [f.prot_eq (by decide)]
    rfl
  have pp : ∀ j, u.pp j = s.pp j := fun j => by
    unfold State.pp
    rw [f.power_eq (by decide)]
    rfl
  obtain ⟨prot, power⟩ := State.wiresClear_keeps (s := u) (k := k.val) (by rw [pst]; exact hw)
  have aux : (u.wiresClear k.val).auxClosed k.val = false := by
    have e : (u.wiresClear k.val).pp k.val = s.pp k.val := by
      rw [← pp]
      unfold State.pp
      rw [power]
    unfold State.auxClosed
    rw [e]
    exact State.surveyResult_opened hr
  have latch : ((u.wiresClear k.val).pst k.val).latched = 0 := by
    have e : (u.wiresClear k.val).pst k.val = s.pst k.val := by
      rw [← pst]
      unfold State.pst
      rw [prot]
    rw [e, hl]
  obtain ⟨survey, state, -⟩ := State.surveyTake_takes _ k.val v (s.surveyResult k.val v true) aux latch
  refine ⟨_, ?_, survey, state.trans hr⟩
  show execStringSurveyEnd p k s = _
  unfold execStringSurveyEnd
  extract_lets s0 i
  rw [show (s0.str i).survey = some v from hv]
  dsimp only
  rw [if_neg (show ¬s0.mode.mode = .survey from hm), if_pos (show s0.surveyOver i v true = true ∨ _ from .inl ended),
    if_pos (show (s0.surveyResult i v true).1 = .opened ∧ (s0.pst i).latched = 0 from ⟨hr, hl⟩),
    show s0.mode.surveyCmds.any (fun c => decide (c.cmd = v.cmd) && c.renew) = false from hn,
    if_neg (by simp), if_neg (by simp), show s0.recordIdentities i false = u from hu]
  rfl

/-- Settles O41: one lemma per row. -/
theorem stringCommandsComplete : Obligations.StringCommandsComplete :=
  ⟨openWaitExpiry_opens, modeStringEnableOn_enables, modeStringEnableOff_disables, modeStringService_serves,
    modeStringReadmit_surveys, modeStringReset_surveys, stringSurveyEnd_times_out, stringSurveyEnd_opens⟩

end Sys2Proof.Machine
end
